-- ==== Sys2Proof/Word.lean ====
section
/-!
DEFINITION. Words and the plain carriers of data: the two devices, a record under R11 and R12, a link message
under R189, and the frames to which the spec gives no TYPE and CODE.

A register, a field or a byte is held as a `Nat` together with the width that its definition states; every write
cuts the value to that width (Machine/Reg.lean).  A byte is a `Nat` below 256.
-/

namespace Sys2Proof

/-- A value of a register, a field or an address, cut to its width where it is written. -/
abbrev Word := Nat

/-- A byte, 0 to 255. -/
abbrev Byte := Nat

/-- Dervi's two parts (chapter 00): the die unit and the Ablith AB16 sentinel. -/
inductive Dev where
  | ddu
  | abl
  deriving DecidableEq, Repr

/-- A record of R11 and R12.  MARK is 0x5A once the record is written (R15), and another value only in one that arrives broken (R16); PAYLOAD_LEN
is the length of `payload`. -/
structure Record where
  typ : Word
  code : Word
  flags : Word := 0
  src : Word
  time : Word
  seq : Word
  payload : List Byte := []
  mark : Byte := 0x5A
  deriving DecidableEq, Repr

/-- The link frames and protocol messages to which the spec gives a name and contents but no TYPE and CODE. -/
inductive FrameKind where
  | timeReq | timeResp | snapAt
  | attachRequest | attachAck | attachRefused
  | fbRequest | fbAccepted | fbRefused
  | mailbox | mailboxResp
  | resetNotice | train | nak
  | secureRequest | secureStop | shareWrite | shareAck | shareMove | secureDone | cutCommit | cutDone
  | jobStart | jobEnd | groupRegister | fanAck | fanPending | syncMsg
  | launch | ptp | dtls | traceBlock
  | other
  deriving DecidableEq, Repr

/-- What a link message carries: a record, or a named frame with its arguments in the order its rule gives them. -/
inductive Body where
  | record (r : Record)
  | frame (k : FrameKind) (args : List Word) (bytes : List Byte)
  deriving DecidableEq, Repr

/-- A message of R189: the prefix (ORIGIN, DEST, HOPS_LEFT, EXPIRE_NS), its traffic class (R188) and its body. -/
structure Msg where
  origin : Word
  dest : Word
  hops : Word := 8
  expire : Word
  cls : Word
  body : Body
  deriving DecidableEq, Repr

/-- A 64-byte checksum report of R54. -/
structure Report where
  jobtag : Word
  epoch : Word
  tile : Word
  format : Word
  flags : Word := 0
  unit : Word
  rowRef : Word
  rowRes : Word
  colRef : Word
  colRes : Word
  boundIn : Word := 0
  deriving DecidableEq, Repr

/-- What the trace tap delivers for one control core (R121): conditional branches in order, a change of flow with
its REASON and target, a change of privilege level, or the retirement of the instruction at an address. -/
inductive TapEvent where
  | branches (taken : List Bool)
  | addr (reason target : Word)
  | privilege (level : Word)
  | retire (pc : Word)
  deriving DecidableEq, Repr

/-- Who makes a register access: an unprivileged or privileged access from the host die's fabric (R64), the sentinel
through the sentinel mailbox, the host through BAR0, the BMC through I3C, or the device's own firmware. -/
inductive Requester where
  | unprivileged | hostPrivileged | sentinel | bar0 | i3c | firmware
  deriving DecidableEq, Repr

/-- A posted Wyique command (R596): its path (0 PCI Express, 1 I3C, 2 Ethernet, 3 sentinel mailbox, 4 host
mailboxes), mailbox, header fields and parameter bytes. -/
structure Cmd where
  path : Word
  mb : Word
  code : Word
  flags : Word := 0
  tag : Word := 0
  jobtag : Word := 0
  params : List Byte := []
  deriving DecidableEq, Repr

/-- A FANOUT message (R239): JOBTAG, FAN_SEQ, KIND, DEADLINE_NS, the ranges as pairs of first and last die index, and
the body. -/
structure FanMsg where
  jobtag : Word
  seq : Word
  kind : Word
  deadline : Word
  ranges : List (Word × Word) := []
  body : List Byte := []
  deriving DecidableEq, Repr

/-- Who issues a sync operation: a local requester r (R288: cores, then the host), whether it is privileged, and its DEST register; or a
remote object or requester by a SYNC_UPDATE (R273), with BROADCAST of its DEST. -/
inductive SyncFrom where
  | localReq (r : Word) (privileged : Bool) (dest : Word)
  | remote (origin : Word) (broadcast : Bool)
  deriving DecidableEq, Repr

/-- The fields of a sync operation (R284, R289): `jobtag` is that of the SYNC_UPDATE, which a local requester's register
does not carry; `st` the STATE byte of an answer. -/
structure SyncReq where
  jobtag : Word := 0
  handle : Word
  kind : Word := 0
  ack : Bool := false
  attempt : Word := 0
  group : Word := 0
  epoch : Word := 0
  d : Word := 0
  st : Word := 0
  deriving DecidableEq, Repr

/-- A flit of R186 by its fields; its reserved bits are 0. -/
structure Flit where
  ftype : Word
  slot : Word := 0
  cls : Word := 0
  seq : Word := 0
  ack : Word := 0
  ackValid : Bool := false
  creditCls : Word := 0
  credit : Word := 0
  len : Word := 0
  payload : List Byte := []
  crc : Word := 0
  deriving DecidableEq, Repr

/-- What a sample of a core says of its job (R118): the JobTag, and the context's number on the core. -/
structure SampleTag where
  jobtag : Word
  context : Word
  deriving DecidableEq, Repr

/-- The body of a PTP message (R160), which follows the sending clock's identity and a sequence number; times in 1/256 ns.  A Sync without its
origin time is two-step. (PRESUMED: log 113.) -/
inductive PtpMsg where
  | announce (gm prio1 cls acc var prio2 steps : Word)
  | sync (origin : Option Word)
  | followUp (origin : Word)
  | delayReq
  | delayResp (dest receive : Word)
  | other
  deriving DecidableEq, Repr

end Sys2Proof
end

