-- ==== Sys2Proof/Syntax.lean ====
section
/-!
DEFINITION. The commands that the two devices take: one constructor for each row of spec/opcode_table.json, with the
operands that the row's rule gives it.
-/

namespace Sys2Proof

inductive Instr where
  /-- REGISTER_WRITE (R8). A write to a register that has no row of its own, applied by its access code, with refused and reserved bits handled under R9 and R64. -/
  | registerWrite (dev : Dev) (who : Requester) (off size v : Word)
  /-- ABORT_COPY_RX (R29). An abort or failing verdict arrives on the data tree or the control tree; the first copy acts and later copies with the same JobTag and StepEpoch are dropped. -/
  | abortCopyRx (dev : Dev) (origin : Word) (q : SyncReq)
  /-- PARENT_LOST (R33). A child finds both lanes to its active parent down, or no valid flit for 100 us, and declares the parent lost. -/
  | parentLost
  /-- ATTACH_REQUEST_RX (R34). A parent receives ATTACH_REQUEST and answers with ATTACH_ACK or ATTACH_REFUSED. -/
  | attachRequestRx (port slot child : Word)
  /-- ATTACH_ACK_RX (R37). A child receives ATTACH_ACK, changes parent state and resends unacknowledged records. -/
  | attachAckRx (port : Word)
  /-- ATTACH_REFUSED_RX (R37). A child receives ATTACH_REFUSED and becomes ORPHAN. -/
  | attachRefusedRx
  /-- ATTACH_RESEND_TIMER (R37). 200 us pass without an answer and the child resends ATTACH_REQUEST once. -/
  | attachResendTimer
  /-- ATTACH_TIMEOUT (R37). The 500 us attach timer expires and the child becomes ORPHAN with a class 0 FAULT event. -/
  | attachTimeout
  /-- ORPHAN_RETRY (R37). Every 10 ms an ORPHAN child sends ATTACH_REQUEST to its primary and then its alternate parent. -/
  | orphanRetry
  /-- EVENT_BUS_CYCLE (R50). One host event-clock cycle delivers up to 16 event slots, which are added to counters or pre-accumulators. -/
  | eventBusCycle (slots : List (Option (Word × Word)))
  /-- PREACC_FOLD (R51). When the Counter Bank runs again the pre-accumulators are folded into the counters. -/
  | preaccFold
  /-- MARKER_ACCEPT (R53). The marker FIFO accepts a 64-bit marker and stamps it with TIME_NS. -/
  | markerAccept (m : Word)
  /-- MARKER_PROCESS (R95). A marker is taken from the FIFO and processed: snapshot cuts, phase selection, skip markers, barrier arrivals and epoch close. -/
  | markerProcess
  /-- CHECKSUM_REPORT_ACCEPT (R55). A 64-byte checksum report enters the report FIFO, or stalls when the FIFO is full. -/
  | checksumReportAccept (r : Report)
  /-- ABFT_CHECK (R378). The ABFT Checker takes the next report from the FIFO, assigns its attempt and compares it exactly or within TOL. -/
  | abftCheck
  /-- HOST_ACTIVE_RISE (R47). HOST_ACTIVE rises and starts the fast domain; the DDU goes to Flood. -/
  | hostActiveRise
  /-- HOST_ACTIVE_FALL (R542). HOST_ACTIVE has been low for 10 us; the DDU goes to Ebb and the fast-domain idle wait starts. -/
  | hostActiveFall
  /-- FAST_DOMAIN_START (R47). A report, marker, snoop post, trace enable, mailbox command or window access starts the fast domain. -/
  | fastDomainStart
  /-- FAST_DOMAIN_READY (R47). The fast-domain PLL locks and the fast domain becomes ready. -/
  | fastDomainReady
  /-- FAST_IDLE_EXPIRY (R48). FAST_IDLE_US has passed with all stop conditions holding and the fast domain stops. -/
  | fastIdleExpiry
  /-- DROOP_DETECT (R61). A droop comparator crosses its threshold and CLK_STRETCH goes high in hardware. -/
  | droopDetect
  /-- CLK_STRETCH_HOLD_END (R559). HOLD_TICKS after the last droop, CLK_STRETCH is released. -/
  | clkStretchHoldEnd
  /-- REG_ACK_RX (R62). The regulator acknowledges the outstanding setpoint request. -/
  | regAckRx
  /-- REG_REQ_TIMEOUT (R62). A REG_REQ unacknowledged for 1 ms is withdrawn and counted as a channel retry. -/
  | regReqTimeout
  /-- SUBRESET_START (R72). A write to DDU_SUBRESET quiesces the selected sub-blocks and starts drain or discard. -/
  | subresetStart (who : Requester) (v : Word)
  /-- SUBRESET_DRAIN_END (R72). The sub-block's work in flight finishes or 100 us pass; the remainder is discarded with a LOSS record. -/
  | subresetDrainEnd (b : Word)
  /-- SUBRESET_DONE (R72). The sub-block reaches its reset values, sets DONE and writes SUBRESET_DONE. -/
  | subresetDone (b : Word)
  /-- DDU_RESET_ASSERT (R77). DDU_RESET_N is asserted, resetting both DDU domains and clamping outputs. -/
  | dduResetAssert
  /-- DDU_RESET_RELEASE (R681). DDU_RESET_N is released; the die ledger mounts and the lane waits in DETECT. -/
  | dduResetRelease
  /-- DDU_ALIVE_RAISE (R78). With the first time sample received and the ledger mounted, the DDU raises DDU_ALIVE and releases the clamps. -/
  | dduAliveRaise
  /-- DDU_AON_PGOOD_FALL (R75). AON_PGOOD falls and every DDU output is clamped. -/
  | dduAonPgoodFall
  /-- CORE_PGOOD_FALL (R543). CORE_PGOOD falls and the DDU enters Slack at once. -/
  | corePgoodFall
  /-- CNT_WRAP (R83). An unchained counter or a chained pair wraps, sets its OVF bit and writes CNT_WRAP. -/
  | cntWrap (k : Word)
  /-- CNT_CHAINED (R83). A mode-1 pair chains at the first carry and writes CNT_CHAINED. -/
  | cntChained (k : Word)
  /-- CNT_SEL_WRITE (R89). A write of DDU_CNT_SELn changes the event or the chain mode under R83 and R84. -/
  | cntSelWrite (who : Requester) (k v : Word)
  /-- CNT_CHAIN_READ (R85). A read of an even chained counter latches the upper half into DDU_CNT_HI_LATCH. -/
  | cntChainRead (who : Requester) (k : Word)
  /-- CNT_CLEAR (R86). A write of DDU_CNT_CLEAR clears a range of counters. -/
  | cntClear (who : Requester) (v : Word)
  /-- CNT_FREEZE_WRITE (R87). A write of FREEZE holds or releases the counters; release folds the pre-accumulators. -/
  | cntFreezeWrite (who : Requester) (v : Word)
  /-- CNT_FREEZE_EXPIRY (R87). 500 us after FREEZE was set it clears by itself and sets EXPIRED. -/
  | cntFreezeExpiry
  /-- BW_CFG_WRITE (R101). A write of DDU_BWw_CFG clears LAST and PEAK and restarts the windows. -/
  | bwCfgWrite (dev : Dev) (who : Requester) (w v : Word)
  /-- BW_WINDOW_CLOSE (R102). A bandwidth window interval ends and LAST and PEAK update. -/
  | bwWindowClose (dev : Dev) (w : Word)
  /-- SENSOR_SAMPLE (R106). A sensor channel completes a conversion, calibrates it, filters it and evaluates thresholds. -/
  | sensorSample (c raw clamp : Word)
  /-- SENSOR_STALE (R108). A channel completes no conversion for four periods, sets STALE and writes SENSOR_STALE. -/
  | sensorStale (c : Word)
  /-- PCNT_LATCH (R115). A write of ABL_PCNT_LATCH copies all counters into the shadow. -/
  | pcntLatch (who : Requester)
  /-- PCNT_CLEAR (R116). A write of ABL_PCNT_CLEAR clears a range of sentinel counters. -/
  | pcntClear (who : Requester) (v : Word)
  /-- PSAMP_SAMPLE (R117). A core's occurrence count reaches PERIOD plus dither and records an instruction sample. -/
  | psampSample (core occ pc instr latency : Word) (tag : SampleTag)
  /-- TRACE_TAP_RETIRE (R122). The trace tap delivers retirements that the Trace Unit packs into packets. -/
  | traceTapRetire (c pc : Word) (ev : TapEvent) (overflow : Bool)
  /-- TAP_FIFO_RECOVER (R124). An overflowed tap FIFO regains room; LOSS and CORE_SYNC packets are written. -/
  | tapFifoRecover (c pc : Word)
  /-- TRACE_PERIODIC_SYNC (R122). SYNC_US elapses for a producing core and a CORE_SYNC is written. -/
  | tracePeriodicSync (c pc : Word)
  /-- TRACE_ENABLE (R133). A write of EN = 1 arms the Trace Unit when permitted, otherwise is refused. -/
  | traceEnable (who : Requester) (v : Word)
  /-- TRACE_DISABLE (R130). A write of EN = 0 pads the block and starts the staging drain. -/
  | traceDisable (who : Requester) (v : Word)
  /-- TRACE_DISABLE_DRAIN_END (R130). The staging drain ends or 100 us pass; the rest is counted in one LOSS record. -/
  | traceDisableDrainEnd
  /-- TRIG_NOW (R138). A write of DDU_TRC_CMD.TRIG_NOW triggers the Trace Unit. -/
  | trigNow (who : Requester)
  /-- REARM (R130). A write of DDU_TRC_CMD.REARM rearms a DONE Trace Unit. -/
  | rearm (who : Requester)
  /-- TRACE_POST_DONE (R126). The stream since TRIGGER reaches POST_KIB and capture ends. -/
  | tracePostDone
  /-- TRACE_AREA_FULL (R130). The post-trigger area fills and the Trace Unit enters SPILLING. -/
  | traceAreaFull
  /-- TRACE_SPILL_BLOCK (R127). The host fabric accepts a spilled block and SPILL_WR advances. -/
  | traceSpillBlock
  /-- TRACE_SPILL_RD_WRITE (R127). Host software advances DDU_TRC_SPILL_RD, or the write is refused. -/
  | traceSpillRdWrite (who : Requester) (v : Word)
  /-- TRACE_RESUME (R170). After Slack exit the RESUMING sample is applied or 100 us pass, and the Trace Unit leaves PARKED. -/
  | traceResume
  /-- TRACE_APERTURE_READ (R134). A read of the trace aperture returns readable blocks or zero, waking the fast domain in PARKED. -/
  | traceApertureRead (who : Requester) (off : Word)
  /-- TRACE_EXPORT_BLOCK (R139). A trace export sends its next readable block in the TRACE class. -/
  | traceExportBlock
  /-- REC_FREEZE_WRITE (R143). A write of FREEZE holds OLDEST, or on clear writes the held records and a LOSS record. -/
  | recFreezeWrite (dev : Dev) (who : Requester) (v : Word)
  /-- REC_FREEZE_EXPIRY (R143). FREEZE_MAX_US passes and the recorder clears FREEZE and writes FREEZE_EXPIRED. -/
  | recFreezeExpiry (dev : Dev)
  /-- REC_RL_WRITE (R151). A write of a rate-limit entry fills its bucket and clears its pending count. -/
  | recRlWrite (dev : Dev) (who : Requester) (j v : Word)
  /-- TIME_TICK (R152). An always-on tick adds the increment or slew increment to TIME_NS and the fraction. -/
  | timeTick (dev : Dev)
  /-- TIME_WRAP (R158). TIME_NS carries out of bit 31; the wrap count rises and the wrap interrupts are raised. -/
  | timeWrap (dev : Dev)
  /-- SLEW_END (R155). SLEW_TICKS reaches zero and INCR resumes. -/
  | slewEnd (dev : Dev)
  /-- TIME_NS_READ (R156). A read of TIME_NS latches the fraction and wrap count. -/
  | timeNsRead (dev : Dev)
  /-- TIME_INCR_WRITE (R154). A write of INCR or SLEW_INCR is applied or refused outside the permitted range. -/
  | timeIncrWrite (dev : Dev) (who : Requester) (slew : Bool) (v : Word)
  /-- SLEW_TICKS_WRITE (R155). A write of SLEW_TICKS restarts or ends a slew. -/
  | slewTicksWrite (dev : Dev) (who : Requester) (v : Word)
  /-- TIME_LOAD (R159). A LOAD sets TIME_NS and fraction at the next tick and writes TIME_STEP. -/
  | timeLoad (dev : Dev) (who : Requester)
  /-- ACCEPT_JUMP (R168). ACCEPT_JUMP loads the master's time and moves JUMP_HELD to LOCKED. -/
  | acceptJump (dev : Dev) (who : Requester)
  /-- TIME_REQ_SEND (R163). The exchange interval elapses and the client sends TIME_REQ. -/
  | timeReqSend (dev : Dev)
  /-- TIME_REQ_RX (R163). A server receives TIME_REQ, stores the reported delay and answers TIME_RESP when aligned. -/
  | timeReqRx (dev : Dev) (port slot client delta t2 : Word)
  /-- TIME_RESP_RX (R165). A client receives TIME_RESP, computes delay and offset and applies them under the state table. -/
  | timeRespRx (dev : Dev) (port t2 t3 flags master : Word)
  /-- TIME_SOURCE_LOST (R168). No TIME_RESP for four intervals, an announce timeout or a port down loses the source and enters HOLDOVER. -/
  | timeSourceLost (dev : Dev)
  /-- PTP_MESSAGE_RX (R160). A PTP message reaches a management port and the firmware servo processes the sample. -/
  | ptpMessageRx (port domain src seq : Word) (m : PtpMsg)
  /-- HOLDOVER_ALARM (R167). A sentinel has been in HOLDOVER for 2.5 s and raises a fleet TIME_ALIGN. -/
  | holdoverAlarm
  /-- PPS_IN_EDGE (R178). A rising PPS_IN edge is stamped and accepted or refused. -/
  | ppsInEdge
  /-- PPS_OUT_DUE (R176). TIME_NS reaches ABL_PPS_NEXT and PPS_OUT is driven high. -/
  | ppsOutDue
  /-- PPS_OUT_END (R176). WIDTH_US elapses and PPS_OUT returns low. -/
  | ppsOutEnd
  /-- PPS_NEXT_WRITE (R177). A write of ABL_PPS_NEXT clears PPS_HOLD. -/
  | ppsNextWrite (who : Requester) (v : Word)
  /-- LAUNCH_ENQUEUE (R172). ABL_LAUNCH_CMD.ENQUEUE adds a launch entry, launches late at once or sets FULL. -/
  | launchEnqueue (who : Requester)
  /-- LAUNCH_FLUSH (R180). ABL_LAUNCH_CMD.FLUSH empties the launch queue and clears FULL. -/
  | launchFlush (who : Requester)
  /-- LAUNCH_DUE (R173). A launch entry's target is due and its frame starts on each masked port. -/
  | launchDue
  /-- SNAP_AT_FRAME_RX (R175). A SNAP_AT frame passes the DDU PCS; the snapshot set is latched and FLEET_SNAPSHOT written. -/
  | snapAtFrameRx (snapId : Word)
  /-- FLIT_TIME (R188). At each flit time a port sends the highest-precedence ready flit, or IDLE. -/
  | flitTime (dev : Dev) (p slot : Word)
  /-- FLIT_RX (R191). A flit arrives; it is checked, acknowledged, accepted in sequence or answered with NAK, and credits returned. -/
  | flitRx (dev : Dev) (p slot : Word) (f : Flit)
  /-- MESSAGE_RX (R189). A whole message is received, checked for expiry and hop limit, delivered or forwarded. -/
  | messageRx (dev : Dev) (port slot : Word) (m : Msg)
  /-- SIGNAL_DETECT (R197). Signal is present on a port in DETECT and training starts. -/
  | signalDetect (dev : Dev) (p slot : Word)
  /-- TRAIN_COMPLETE (R197). Training handshake completes; the port goes UP or to BACKOFF on a peer mismatch. -/
  | trainComplete (dev : Dev) (p slot peer us : Word) (peerRestarted : Bool)
  /-- TRAIN_TIMEOUT (R197). The 5 ms training timer expires: a TRAIN_FAIL failure. -/
  | trainTimeout (dev : Dev) (p slot : Word)
  /-- SIGNAL_LOST (R197). Signal is lost on a port; it returns to DETECT and a cause 6 failure may be held. -/
  | signalLost (dev : Dev) (p slot : Word)
  /-- LANE_FAILURE (R197). A failure of cause 1 to 3 is detected on an UP port; RESET_NOTICE is sent, the failure counted and BACKOFF entered. -/
  | laneFailure (dev : Dev) (p slot cause uncorr : Word)
  /-- NO_FLIT_TIMEOUT (R196). No valid flit arrives for 100 us: a NO_FLIT failure. -/
  | noFlitTimeout (dev : Dev) (p slot : Word)
  /-- RESET_NOTICE_RX (R694). A RESET_NOTICE arrives; cause 0 resets the lane, causes 1 to 4 count a failure. -/
  | resetNoticeRx (dev : Dev) (p slot cause : Word)
  /-- BACKOFF_EXPIRY (R198). The backoff time elapses and the port returns to DETECT. -/
  | backoffExpiry (dev : Dev) (p slot : Word)
  /-- EARLY_LOSS_WITHDRAW (R694). No handshake completes within 10 s of a held cause 6 loss and the failure is withdrawn. -/
  | earlyLossWithdraw (dev : Dev) (p slot : Word)
  /-- LNK_CTRL_WRITE (R208). A write of EN or FORCE_IDLE enables or disables a port. -/
  | lnkCtrlWrite (dev : Dev) (who : Requester) (p v : Word)
  /-- RETRAIN (R207). xxx_LNK_CMD.RETRAIN takes an UP port to DETECT with RESET_NOTICE and LANE_RESET. -/
  | retrain (dev : Dev) (who : Requester) (p : Word)
  /-- FALLBACK_EXIT (R202). The lane has been UP for 1 s and the DDU leaves fallback. -/
  | fallbackExit
  /-- FB_GUEST_REQUEST_RX (R203). A sibling receives a guest's fallback request and accepts it or answers FB_REFUSED. -/
  | fbGuestRequestRx (guest addr : Word)
  /-- FB_REFUSED_RX (R203). A guest receives FB_REFUSED and tries the next sibling entry. -/
  | fbRefusedRx
  /-- FB_LIST_RETRY (R203). Every 10 ms a guest refused by every entry retries the list. -/
  | fbListRetry
  /-- FB_HOST_SILENCE (R203). A fallback host stops answering for 100 us and the guest moves to the next entry. -/
  | fbHostSilence
  /-- FB_RING_MESSAGE (R204). A whole message lands in a sibling's fallback ring and is relayed on its lane, or delivered downward. -/
  | fbRingMessage (m : Msg)
  /-- SUMMARY_WINDOW_CLOSE (R212). Tideline time crosses a summary period boundary and the DDU sends DIE_SUMMARY or counts it skipped. -/
  | summaryWindowClose
  /-- DIE_SUMMARY_RX (R219). A tray inserts each DIE_SUMMARY value into its matching metric slot, or drops it late, early or unmatched. -/
  | dieSummaryRx (origin : Word) (r : Record)
  /-- NODE_SUMMARY_RX (R219). A node merges a child's NODE_SUMMARY entries into its metric slots. -/
  | nodeSummaryRx (origin : Word) (r : Record)
  /-- INPUT_WINDOW_CLOSE (R225). An input window closes; missing children are marked, baselines sampled and bindings triggered. -/
  | inputWindowClose (period w : Word)
  /-- MET_SLOT_WRITE (R256). A write of ABL_RED_METm is admitted, refused or discards open windows. -/
  | metSlotWrite (who : Requester) (m v : Word)
  /-- BARRIER_ARRIVAL_RX (R235). A node counts an ARRIVAL record in its barrier instance and closes the instance when complete. -/
  | barrierArrivalRx (origin : Word) (r : Record)
  /-- BARRIER_PART_RX (R236). A parent counts a child's BARRIER_PART as that child's arrivals. -/
  | barrierPartRx (origin : Word) (r : Record)
  /-- BARRIER_TIMEOUT (R236). TIMEOUT_US after the first arrival the instance closes INCOMPLETE. -/
  | barrierTimeout (jobtag tag epoch : Word)
  /-- FAN_START (R239). ABL_RED_FAN_CMD.START sets the deadline and sends the FANOUT to member children. -/
  | fanStart (who : Requester) (j : Word)
  /-- FAN_PENDING_RX (R242). A FAN_PENDING from a child restarts its ACK_US timer. -/
  | fanPendingRx (origin jobtag seq : Word)
  /-- FAN_ACK_RX (R242). A child's FAN_ACK settles it; when every child is settled the node acknowledges upward or completes the root result. -/
  | fanAckRx (origin jobtag seq acked : Word) (miss : List (Word × Word)) (trunc : Bool)
  /-- FAN_ACK_TIMEOUT (R242). ACK_US passes with no answer; the child is resent, relayed or marked missing. -/
  | fanAckTimeout (jobtag seq c : Word)
  /-- FAN_PENDING_TIMER (R242). PENDING_US passes while waiting and FAN_PENDING is sent to the sender again. -/
  | fanPendingTimer (jobtag seq : Word)
  /-- FAN_DEADLINE (R242). DEADLINE_NS is reached and every unsettled child becomes MISSING. -/
  | fanDeadline (jobtag seq : Word)
  /-- FAN_RELAY_RX (R243). A relay forwards the FANOUT to the failed child's adopted children on slots 2 and 3. -/
  | fanRelayRx (port slot sender origin failed requester : Word) (m : FanMsg)
  /-- FAN_RELAY_ACK_RX (R243). A parent accepts a relay's FAN_RELAY_ACK for the failed child. -/
  | fanRelayAckRx (origin jobtag seq acked : Word) (miss : List (Word × Word)) (trunc : Bool)
  /-- FAN_KEEP_EXPIRY (R241). 8 ms after its final answer a kept fan-out pair is forgotten. -/
  | fanKeepExpiry (dev : Dev) (jobtag seq : Word)
  /-- USCH_ENQUEUE (R249). A message enters its uplink queue, or is dropped with a LOSS record when over the limit. -/
  | uschEnqueue (p jobtag : Word) (m : Msg)
  /-- USCH_PICK (R248). At a free flit time the scheduler picks a slot and class by fair queuing and sends its head message. -/
  | uschPick (p : Word)
  /-- USCH_SAMPLE (R250). SAMPLE_US elapses and queue depths and ages are latched. -/
  | uschSample
  /-- USCH_JOB_WRITE (R252). A rewrite of a job slot's JOBTAG moves its queued messages to slot 63. -/
  | uschJobWrite (who : Requester) (k v : Word)
  /-- JOB_START_DELIVER (R262). A JOB_START fan-out reaches a node or a DDU, which forwards it, allocates a job entry, joins or holds. -/
  | jobStartDeliver (dev : Dev) (port slot sender origin : Word) (m : FanMsg)
  /-- JOB_END_DELIVER (R262). A JOB_END fan-out reaches a node or DDU, which fences, releases objects and starts the scrub. -/
  | jobEndDeliver (dev : Dev) (port slot sender origin : Word) (m : FanMsg)
  /-- GROUP_REGISTER_DELIVER (R267). A GROUP_REGISTER fan-out writes the group entry and, for a VERDICT group, a tray mirror pair. -/
  | groupRegisterDeliver (dev : Dev) (port slot sender origin : Word) (m : FanMsg)
  /-- GROUP_RELEASE_DELIVER (R261). A GROUP_RELEASE fan-out releases the group's entry and identifiers. -/
  | groupReleaseDeliver (dev : Dev) (port slot sender origin : Word) (m : FanMsg)
  /-- SCRUB_COMPLETE (R262). The die scrub completes; SCRUB_DONE is written and any held JobTag is joined. -/
  | scrubComplete
  /-- SCRUB_TIMEOUT (R262). 5 ms after JOB_END the scrub is not complete; SCRUB_LATE and an IMMEDIATE fault, state SCRUB_FAULT. -/
  | scrubTimeout
  /-- JOB_HOLD_EXPIRY (R262). A held JobTag has waited DDU_JOB_HOLD_MS and is discarded with JOIN_REFUSED. -/
  | jobHoldExpiry
  /-- JOB_ENTRY_SCRUB_DONE (R264). A sentinel has every member child's SCRUB_DONE, writes its own and moves the job entry to GUARD. -/
  | jobEntryScrubDone (j : Word)
  /-- JOB_GUARD_EXPIRY (R264). 8 ms after GUARD the job entry becomes FREE. -/
  | jobGuardExpiry (j : Word)
  /-- SYNC_ALLOC (R269). ALLOC makes a FREE sync object ACTIVE, or is refused. -/
  | syncAlloc (dev : Dev) (f : SyncFrom) (q : SyncReq)
  /-- SYNC_SET (R269). SET writes a sync object's VALUE, locally or by SYNC_UPDATE, and may reach it. -/
  | syncSet (dev : Dev) (f : SyncFrom) (q : SyncReq)
  /-- SYNC_ADD (R269). ADD adds to a sync object's VALUE with saturation and may reach it. -/
  | syncAdd (dev : Dev) (f : SyncFrom) (q : SyncReq)
  /-- SYNC_MAX (R269). MAX raises a sync object's VALUE to the operand and may reach it. -/
  | syncMax (dev : Dev) (f : SyncFrom) (q : SyncReq)
  /-- SYNC_FAIL (R269). FAIL sets FAILED, notifies waiters and sends the mirror. -/
  | syncFail (dev : Dev) (f : SyncFrom) (q : SyncReq)
  /-- SYNC_ARM (R269). ARM resets a sync object's VALUE, TARGET and flags with a new epoch and attempt. -/
  | syncArm (dev : Dev) (f : SyncFrom) (q : SyncReq)
  /-- SYNC_RELEASE (R269). RELEASE moves an ACTIVE object to GUARD for 8 ms. -/
  | syncRelease (dev : Dev) (f : SyncFrom) (q : SyncReq)
  /-- SYNC_QUERY (R269). QUERY answers with SYNC_STATE without changing the object. -/
  | syncQuery (dev : Dev) (f : SyncFrom) (q : SyncReq)
  /-- SYNC_REACH (R269). REACH raises VALUE to TARGET. -/
  | syncReach (dev : Dev) (f : SyncFrom) (q : SyncReq)
  /-- SYNC_STATE_APPLY (R269). STATE applies a SYNC_STATE answer's REACHED, FAILED and VALUE when epoch and attempt match. -/
  | syncStateApply (dev : Dev) (f : SyncFrom) (q : SyncReq)
  /-- SYNC_STATE_RX (R273). A SYNC_STATE answer arrives at a requester and may complete a SYNC_FENCE. -/
  | syncStateRx (dev : Dev) (origin : Word) (q : SyncReq)
  /-- SYNC_GUARD_EXPIRY (R271). TIME_NS reaches GUARD_END_NS and the object becomes FREE, releasing a waiting join. -/
  | syncGuardExpiry (dev : Dev) (k : Word)
  /-- SOURCE_FENCE (R286). DDU_FENCE.SOURCE stops new MSG flits until every earlier flit is acknowledged. -/
  | sourceFence (who : Requester)
  /-- SOURCE_FENCE_COMPLETE (R286). Every earlier flit is acknowledged or handed to the sibling ring and the source fence completes. -/
  | sourceFenceComplete
  /-- SYNC_FENCE (R286). DDU_FENCE.SYNC or OP 7 with FENCE sends ACK_REQ to each home touched and waits for the answers. -/
  | syncFence (dev : Dev) (who : Requester) (r : Word)
  /-- EPOCH_CLOSE_COMPLETE (R277). Every check and snoop transfer of the epoch is done; EPOCH_SUMMARY and EPOCH_FENCE are sent and the suspect mask is copied. -/
  | epochCloseComplete
  /-- TREE_SUBMIT (R295). ABL_TREE_SUBMIT starts a firmware sample, or is refused BUSY. -/
  | treeSubmit (who : Requester) (v : Word)
  /-- TREE_SAMPLE_COMPLETE (R304). A sample's walks finish; outputs are linked, risk scores updated and records written. -/
  | treeSampleComplete (j c : Word) (parity : List Word)
  /-- RISK_LEVEL_FALL (R43). Every score has stayed below the band's lower bound for 10 s and the die falls one band. -/
  | riskLevelFall (d : Word)
  /-- RISK_SCORE_STALE (R310). Every score of a die is older than 10 s and the die sets STALE. -/
  | riskScoreStale (d : Word)
  /-- MODEL_LOAD_DONE (R319). Every entry of a loading model is written and read back; the slot becomes READY or EMPTY. -/
  | modelLoadDone (slot : Word) (ok : Bool)
  /-- TREE_SCRUB_PASS (R320). The scrubber compares TCAM rows with their shadow and rewrites differing rows. -/
  | treeScrubPass (fixed : List (Word × Word))
  /-- TREE_WAKE_DONE (R322). Tree Engine clocks start and queued triggers begin their lookups. -/
  | treeWakeDone
  /-- LRB_EVALUATE (R331). At PERIOD_US or a threshold crossing the Local Rule Bank forms its key, matches and takes actions. -/
  | lrbEvaluate
  /-- LRB_FLOOR_EXPIRY (R332). A Local Rule Bank throttle floor's HOLD_MS expires. -/
  | lrbFloorExpiry (c : Word)
  /-- SNOOP_DATA_RX (R391). Sentinel ingest adds a SNOOP_DATA record to its bundle by die, job, epoch and tile. -/
  | snoopDataRx (origin : Word) (r : Record)
  /-- BUNDLE_LANDED (R367). A bundle's last byte lands; CRCs are checked and the slice is QUEUED or BAD_BUNDLE. -/
  | bundleLanded (die jobtag epoch tile : Word)
  /-- SLICE_PLACE (R366). A free partition allows the scheduler to place a queued slice or confirmation run. -/
  | slicePlace
  /-- SLICE_RUN_DONE (R367). Every core of a slice reaches END; the result is MATCH, confirmation is queued, or the confirmed result delivered. -/
  | sliceRunDone (id : Word)
  /-- SLICE_RUN_TIMEOUT (R367). 2 x W_US passes in a run; the slice is requeued once, then ABANDONED. -/
  | sliceRunTimeout (id : Word)
  /-- GRID_CORE_FAULT (R372). A grid core faults and its slice is requeued or abandoned; the fault is counted. -/
  | gridCoreFault (core cause : Word)
  /-- END (R358). A grid core executes END and its stream ends. -/
  | endStream (core : Word)
  /-- LOAD (R358). A grid core copies rows into its working region synchronously. -/
  | load (core : Word)
  /-- LOAD_ASYNC (R340). A grid core starts a LOAD on a stream engine. -/
  | loadAsync (core : Word)
  /-- STREAM_LOAD_DONE (R340). A stream engine finishes an asynchronous LOAD. -/
  | streamLoadDone (core st : Word)
  /-- WAIT (R358). A grid core waits for a stream engine to finish. -/
  | wait (core : Word)
  /-- SEND (R338). A grid core sends a message to a queue of another core. -/
  | send (core : Word)
  /-- RECV (R338). A grid core posts a receive buffer on a queue. -/
  | recv (core : Word)
  /-- MESH_DELIVER (R338). A SEND meets a posted RECV and the message is written into the buffer. -/
  | meshDeliver (core : Word)
  /-- MMA (R344). A grid core performs a matrix product under the arithmetic contract. -/
  | mma (core : Word)
  /-- VEC_ADD (R692). VEC code 0x00 adds elementwise. -/
  | vecAdd (core : Word)
  /-- VEC_SUB (R692). VEC code 0x01 subtracts elementwise. -/
  | vecSub (core : Word)
  /-- VEC_MUL (R692). VEC code 0x02 multiplies elementwise. -/
  | vecMul (core : Word)
  /-- VEC_FMA (R692). VEC code 0x03 fuses multiply and add into the destination. -/
  | vecFma (core : Word)
  /-- VEC_MIN (R692). VEC code 0x04 takes the elementwise minimum. -/
  | vecMin (core : Word)
  /-- VEC_MAX (R692). VEC code 0x05 takes the elementwise maximum. -/
  | vecMax (core : Word)
  /-- VEC_SQRT (R692). VEC code 0x06 takes square roots. -/
  | vecSqrt (core : Word)
  /-- VEC_RCP (R692). VEC code 0x07 takes reciprocals. -/
  | vecRcp (core : Word)
  /-- VEC_RSQRT (R692). VEC code 0x08 takes reciprocal square roots. -/
  | vecRsqrt (core : Word)
  /-- VEC_EXP2 (R692). VEC code 0x09 takes base-2 exponentials. -/
  | vecExp2 (core : Word)
  /-- VEC_LOG2 (R692). VEC code 0x0A takes base-2 logarithms. -/
  | vecLog2 (core : Word)
  /-- VEC_TANH (R692). VEC code 0x0B takes hyperbolic tangents. -/
  | vecTanh (core : Word)
  /-- VEC_EXP (R692). VEC code 0x10 computes the EXP composite. -/
  | vecExp (core : Word)
  /-- VEC_SIGMOID (R692). VEC code 0x11 computes the SIGMOID composite. -/
  | vecSigmoid (core : Word)
  /-- VEC_SILU (R692). VEC code 0x12 computes the SILU composite. -/
  | vecSilu (core : Word)
  /-- VEC_GELU_TANH (R692). VEC code 0x13 computes the GELU_TANH composite. -/
  | vecGeluTanh (core : Word)
  /-- VEC_SOFTMAX (R692). VEC code 0x14 computes SOFTMAX over a run. -/
  | vecSoftmax (core : Word)
  /-- VEC_RMSNORM (R692). VEC code 0x15 computes RMSNORM over a run. -/
  | vecRmsnorm (core : Word)
  /-- VEC_SUM (R692). VEC code 0x16 sums a run in ascending order. -/
  | vecSum (core : Word)
  /-- VEC_MAX_REDUCE (R692). VEC code 0x17 takes the maximum of a run. -/
  | vecMaxReduce (core : Word)
  /-- CVT (R349). A grid core converts a run of elements without quantization. -/
  | cvt (core : Word)
  /-- CVT_QUANT (R693). A grid core quantizes a run into a block-scaled format. -/
  | cvtQuant (core : Word)
  /-- CMP (R358). A grid core compares replay and die elements and keeps the tally and first mismatch. -/
  | cmp (core : Word)
  /-- LOOP (R358). A grid core repeats the following commands with argument increments. -/
  | loop (core : Word)
  /-- KAT_RUN_START (R356). KAT_MS elapses with nothing queued and a known-answer run is placed. -/
  | katRunStart
  /-- PROG_LOAD_DONE (R362). A loading program's known-answer checks end; the slot becomes READY or EMPTY. -/
  | progLoadDone (slot : Word)
  /-- CTX_SCRUB_DONE (R364). A draining context's last slice ends and its zeroing completes; the context becomes FREE. -/
  | ctxScrubDone (c : Word)
  /-- GRID_WAKE_DONE (R369). Grid clocks, power and HBM are up and queued slices may run. -/
  | gridWakeDone
  /-- GRID_IDLE_EXPIRY (R370). IDLE_US pass with no grid work and the grid returns to Ebb. -/
  | gridIdleExpiry
  /-- CHK_LAST_CLEAR (R384). DDU_CHK_CTRL.LAST_CLR empties DDU_CHK_LAST. -/
  | chkLastClear (who : Requester)
  /-- CELL_TEDGE_WRITE (R405). A write of a temperature edge is applied or discarded when out of order. -/
  | cellTedgeWrite (who : Requester) (j v : Word)
  /-- SNOOP_POST (R388). Host software posts a tile into a snoop slot, which is accepted or refused. -/
  | snoopPost (who : Requester) (slot : Word)
  /-- SNOOP_SLOT_SERVE (R389). The Snoop DMA serves the next accepted slot, reading and sending its sections. -/
  | snoopSlotServe (data : List (List Byte))
  /-- SNOOP_SLOT_COMPLETE (R389). The last read of a slot completes; PEND clears and the header record is sent. -/
  | snoopSlotComplete
  /-- CHK_MISMATCH_RX (R397). A tray receives CHK_MISMATCH and fails the verdict entry. -/
  | chkMismatchRx (origin : Word) (r : Record)
  /-- EPOCH_SUMMARY_RX (R399). A tray adds a member's EPOCH_SUMMARY to the entry's expected slice results. -/
  | epochSummaryRx (origin : Word) (r : Record)
  /-- EPOCH_FENCE_RX (R397). A tray counts a member's EPOCH_FENCE and passes the entry when complete. -/
  | epochFenceRx (origin : Word) (r : Record)
  /-- VERDICT_WAIT_TIMEOUT (R400). WAIT_US after the first fence a fence is missing and the entry fails UNVERIFIED. -/
  | verdictWaitTimeout
  /-- FAILURE_CLASSIFY (R406). Firmware attributes a failure to a unit and locus, classifies it and changes the unit state. -/
  | failureClassify
  /-- CLASSIFY_TIMEOUT (R418). t_CLASS passes undecided and the failure is signed PENDING. -/
  | classifyTimeout
  /-- REPEAT_TIMEOUT (R408). t_REPEAT passes before the repeat runs finish and the failure stays PENDING. -/
  | repeatTimeout
  /-- UNIT_OBSERVATION_CLEAR (R410). An OBSERVED unit meets the hours and tiles of R410 and returns to HEALTHY. -/
  | unitObservationClear
  /-- CAMPAIGN_CELL_DWELL (R414). The unit has been in the target cell for 10 ms and the campaign enters TESTING. -/
  | campaignCellDwell (handle : Word)
  /-- CAMPAIGN_CELL_LEAVE (R414). The unit leaves the target cell and the campaign returns to HEATING. -/
  | campaignCellLeave (handle : Word)
  /-- CAMPAIGN_TIME_LIMIT (R414). The campaign time limit is reached and it ends. -/
  | campaignTimeLimit (handle : Word)
  /-- SECURE_REQUEST_TIMER (R424). CUT_MIN_MS elapses at Spring or Surge and the tray sends SECURE_REQUEST again. -/
  | secureRequestTimer
  /-- SECURE_REQUEST_RX (R436). A securing root receives SECURE_REQUEST and starts a pass or notes it. -/
  | secureRequestRx (origin : Word) (r : Record)
  /-- SECURE_CUT_DELIVER (R452). A SECURE_CUT fan-out sets each die's pending cut and clears changed-method versions. -/
  | secureCutDeliver (dev : Dev) (port slot sender origin : Word) (m : FanMsg)
  /-- SECURE_COMMIT_DELIVER (R438). A SECURE_COMMIT fan-out commits holders' generations and writes die versions. -/
  | secureCommitDeliver (dev : Dev) (port slot sender origin : Word) (m : FanMsg)
  /-- SECURE_ABANDON_DELIVER (R436). A SECURE_ABANDON fan-out frees the building generation. -/
  | secureAbandonDeliver (dev : Dev) (port slot sender origin : Word) (m : FanMsg)
  /-- SECURE_RELEASE_DELIVER (R440). A SECURE_RELEASE fan-out erases both generations and clears die versions. -/
  | secureReleaseDeliver (dev : Dev) (port slot sender origin : Word) (m : FanMsg)
  /-- RESTORE_DELIVER (R441). A RESTORE fan-out transfers shares to the new JobTag and stages tensors. -/
  | restoreDeliver (dev : Dev) (port slot sender origin : Word) (m : FanMsg) (kept : List Word)
  /-- SECURE_POST (R427). Host software posts a secure slot, which is accepted, refused or released unchanged. -/
  | securePost (who : Requester) (slot : Word)
  /-- SECURE_SLOT_SERVE (R427). The DDU reads a secure slot's ranges and sends SECURE_DATA. -/
  | secureSlotServe (data : List (List Byte))
  /-- SECURE_DIE_DONE (R427). After the LAST slot and a source fence the DDU sends SECURE_DIE_DONE. -/
  | secureDieDone
  /-- SECURE_LATE (R426). DDU_SEC_CMD.LATE sends SECURE_DIE_DONE with LATE set. -/
  | secureLate (who : Requester)
  /-- SECURE_DIE_DONE_RX (R437). A tray counts a member's SECURE_DIE_DONE toward its part of the cut. -/
  | secureDieDoneRx (origin : Word) (r : Record)
  /-- SECURE_DATA_RX (R428). A tray receives a member's SECURE_DATA and builds the tray streams and shares. -/
  | secureDataRx (origin : Word) (r : Record)
  /-- SHARE_DATA_RX (R433). A tray or holder receives SHARE_DATA, accumulates parity or stores the share. -/
  | shareDataRx (origin : Word) (r : Record)
  /-- SHARE_ACK_RX (R437). A tray receives SHARE_ACK for a share it originated. -/
  | shareAckRx (origin : Word) (r : Record)
  /-- TRAY_CUT_DONE_RX (R436). The root receives TRAY_CUT_DONE and commits or cancels the pass. -/
  | trayCutDoneRx (origin : Word) (r : Record)
  /-- PASS_LIMIT_EXPIRY (R436). PASS_LIMIT_MS passes since the fan-out and the pass cancels. -/
  | passLimitExpiry
  /-- SHARES_LOST_RX (R435). A root receives SHARES_LOST and starts a pass at once. -/
  | sharesLostRx (origin : Word) (r : Record)
  /-- RESTORE_DONE_RX (R441). The root receives a tray's RESTORE_DONE. -/
  | restoreDoneRx (origin jobtag dies bytes : Word)
  /-- SECURE_HOLD_EXPIRY (R439). HOLD_S after an escalated JOB_END the kept generation is scrubbed. -/
  | secureHoldExpiry
  /-- CMP_SUBMIT (R446). ABL_CMP_SUBMIT starts a compression descriptor. -/
  | cmpSubmit (q : Word)
  /-- CMP_DESC_DONE (R447). A compression descriptor completes with its status and output length. -/
  | cmpDescDone (q : Word)
  /-- FAULT_EVENT (R459). A checker detects a fault on a source; it is counted, recorded and may make the source severe. -/
  | faultEvent (dev : Dev) (src cause flags jobtag arg : Word)
  /-- FAULT_SUBWINDOW_ADVANCE (R459). A fault-window sub-window ends and the oldest sub-window leaves the count. -/
  | faultSubwindowAdvance (dev : Dev) (src : Word)
  /-- CHANNEL_FAILURE (R472). A channel fails, starts or continues an episode and may retire. -/
  | channelFailure (dev : Dev) (src slot : Word)
  /-- CHANNEL_RETRY (R472). A channel's retry backoff ends and it is tried again. -/
  | channelRetry (dev : Dev) (src slot : Word) (ok : Bool)
  /-- DRAIN_PROPOSAL_RX (R483). The Breakwater node receives a DRAIN_PROPOSAL and admits or holds it. -/
  | drainProposalRx (origin : Word) (r : Record)
  /-- BW_DECISION_RX (R481). A tray receives BW_DECISION for an open proposal. -/
  | bwDecisionRx (origin : Word) (r : Record)
  /-- BW_RESEND_TIMER (R481). 1 s without a decision and the tray resends the proposal. -/
  | bwResendTimer
  /-- BW_WINDOW_EXPIRY (R482). An admission leaves the 60-minute window and held proposals may be released. -/
  | bwWindowExpiry
  /-- DIE_LEDGER_MOUNT (R496). DDU firmware mounts the die ledger, writes it fresh or refuses its format. -/
  | dieLedgerMount (bad good : Word)
  /-- DIE_LEDGER_JOURNAL (R494). DDU firmware appends a change to the die ledger journal, writing a snapshot when full. -/
  | dieLedgerJournal (r : Record)
  /-- HS_APPEND (R500). The history store starts appending a record on each path. -/
  | hsAppend (essential : Bool) (r : Record)
  /-- HS_APPEND_DURABLE (R500). MARK reaches 0x5A on a path and the record is durable. -/
  | hsAppendDurable (path : Word)
  /-- HS_MOUNT (R506). At power-up the history store mounts, replays and levels its paths. -/
  | hsMount
  /-- PWRFAIL_ASSERT (R504). PWRFAIL_N falls; no new program starts and firmware is interrupted. -/
  | pwrfailAssert
  /-- PWRFAIL_RELEASE (R504). PWRFAIL_N has been high for 1 ms and the store resumes. -/
  | pwrfailRelease
  /-- SUPERBLOCK_WRITE_DUE (R503). 10 s after the previous superblock write the waiting causes are written as one superblock. -/
  | superblockWriteDue
  /-- COMPACTION_START (R517). A compaction cause arrives within the daily limit and a pass starts. -/
  | compactionStart
  /-- COMPACTION_DONE (R518). The checkpoint chain completes; a superblock is written and blocks freed. -/
  | compactionDone
  /-- COMPACTION_RESUME (R518). Load has been at or below 85 % for 10 ms and a deferred pass continues. -/
  | compactionResume
  /-- HS_DAY_BUCKET (R514). An hourly bucket rolls over and the 24-hour cap state is re-evaluated. -/
  | hsDayBucket
  /-- EXPOSURE_FLUSH (R511). Firmware drains ABL_HS_TALLY and writes EXPOSURE records. -/
  | exposureFlush
  /-- BASELINE_SAVE (R508). Every 10 minutes firmware saves the baseline cells to the store. -/
  | baselineSave
  /-- RECONCILE (R521). The tray reconciles a die's ledger with its store by the case of R521 and writes RECONCILE. -/
  | reconcile (port serial flags : Word) (body : List Byte)
  /-- RECONCILE_RETRY (R523). A reconciliation that did not complete is retried after 1 s. -/
  | reconcileRetry
  /-- EXPORT_SUSPEND_TIMEOUT (R528). An export suspended for 10 min ends CANCELLED. -/
  | exportSuspendTimeout
  /-- PROBATION_END (R526). PROBATION_END is reached and the older-format copies are freed. -/
  | probationEnd (dev : Dev)
  /-- HS_OP_READ (R533). ABL_HS_OP OP 1 reads flash into ABL_HS_BUF. -/
  | hsOpRead (who : Requester) (paths addr : Word)
  /-- HS_OP_PROGRAM (R533). ABL_HS_OP OP 2 programs a page from ABL_HS_BUF. -/
  | hsOpProgram (who : Requester) (paths addr : Word)
  /-- HS_OP_ERASE (R533). ABL_HS_OP OP 3 erases a block. -/
  | hsOpErase (who : Requester) (paths addr : Word)
  /-- HS_OP_PROGRAM_MARK (R533). ABL_HS_OP OP 4 programs a MARK byte. -/
  | hsOpProgramMark (who : Requester) (paths addr : Word)
  /-- HS_OP_DONE (R533). A history store operation completes and its status is posted. -/
  | hsOpDone (fail : Word)
  /-- SLACK_ENTRY_DONE (R541). The Ebb domains have powered down and the sentinel is in SLACK. -/
  | slackEntryDone
  /-- SENTINEL_WAKE (R540). An enabled wake cause arrives in Slack and the Ebb domains power up. -/
  | sentinelWake (causes : Word)
  /-- SENTINEL_WAKE_DONE (R541). The Management Complex runs again and the state becomes EBB. -/
  | sentinelWakeDone
  /-- WAKE_AT_DUE (R540). TIME_NS reaches ABL_PWR_WAKE_AT as a wake cause. -/
  | wakeAtDue
  /-- DOMAIN_DEMAND (R537). A Flood domain is demanded and started in order. -/
  | domainDemand (mask : Word)
  /-- DOMAIN_READY (R537). A started Flood domain becomes ready. -/
  | domainReady (k : Word)
  /-- DOMAIN_IDLE_EXPIRY (R537). A Securing or Compression domain is idle for DOM_IDLE_US and stops. -/
  | domainIdleExpiry (k : Word)
  /-- DDU_SLACK_EXIT (R543). Signal, a host mailbox write, HOST_ACTIVE, a report or a marker wakes a DDU from Slack. -/
  | dduSlackExit (cause : Word)
  /-- BUDGET_DIVISION (R546). Every 1 ms tray firmware divides the budget into die caps and sends them. -/
  | budgetDivision
  /-- CAP_ACK_RX (R547). A die acknowledges its cap and withheld rising caps may be sent. -/
  | capAckRx (port : Word)
  /-- CAP_STALE (R548). No cap arrives for 100 ms and the DDU applies the safe cap. -/
  | capStale
  /-- DEMAND_REPORT (R549). Every 1 ms DDU firmware sends its demand to the tray. -/
  | demandReport
  /-- PHASE_SIGNATURE_TICK (R551). Every 1 ms the controller forms a busy signature and selects a phase entry. -/
  | phaseSignatureTick (duty : List Word)
  /-- POWER_LOOP_WINDOW (R561). Each 100 us window runs the cap, thermal, current, droop and external loops and drives THROTTLE. -/
  | powerLoopWindow
  /-- RAIL_RECAL_END (R562). A rail's 1,000-window recalibration ends and it moves to WATCH or DERATED. -/
  | railRecalEnd (r : Word)
  /-- RAIL_WATCH_END (R562). A rail in WATCH passes 10 s and returns to OK. -/
  | railWatchEnd (r : Word)
  /-- PHASE_TABLE_SAVE (R553). Every 10 minutes firmware writes the phase table to the die ledger. -/
  | phaseTableSave
  /-- SENTINEL_POWER_LOOP (R564). The sentinel's own loop adjusts the grid and Tree Engine level. -/
  | sentinelPowerLoop (logic memory : Word) (temp : Int)
  /-- INTERRUPT_REQUEST (R577). An interrupt source becomes pending and may be signalled to its core. -/
  | interruptRequest (dev : Dev) (id core : Word) (high : Bool)
  /-- AIC_CLAIM (R575). A read of ABL_AIC_CLAIMn claims the most urgent signalled source or returns NONE. -/
  | aicClaim (dev : Dev) (core : Word)
  /-- AIC_EOI (R576). A write of ABL_AIC_EOIn pops the matching priority level. -/
  | aicEoi (dev : Dev) (core id : Word)
  /-- AIC_SGI (R590). A write of ABL_AIC_SGIn raises a software interrupt on a target core. -/
  | aicSgi (dev : Dev) (v : Word)
  /-- AIC_CFG_WRITE (R577). A write of ABL_AIC_CFGi retargets a source, moving its pending request. -/
  | aicCfgWrite (dev : Dev) (who : Requester) (core id v : Word)
  /-- ENGINE_RESET_START (R581). A write of ABL_ENGINE_RESET quiesces the selected engines and starts drain or discard. -/
  | engineResetStart (who : Requester) (v : Word)
  /-- ENGINE_RESET_DRAIN_END (R581). An engine's work finishes or 100 us pass and the rest is discarded. -/
  | engineResetDrainEnd (b : Word)
  /-- ENGINE_RESET_DONE (R581). An engine returns to reset values, sets DONE and writes ENGINE_RESET_DONE. -/
  | engineResetDone (b : Word)
  /-- MC_RESET (R583). Bit 63 resets the Management Complex and reboots firmware. -/
  | mcReset
  /-- WATCHDOG_KICK (R585). A write of ABL_MC_WDOGn_KICK restarts a watchdog or is refused. -/
  | watchdogKick (dev : Dev) (core v : Word)
  /-- WATCHDOG_WARNING (R585). WDOG_MS without a kick raises the watchdog warning. -/
  | watchdogWarning (dev : Dev) (core : Word)
  /-- WATCHDOG_EXPIRY (R585). 2 x WDOG_MS without a kick resets the core with an IMMEDIATE fault. -/
  | watchdogExpiry (dev : Dev) (core : Word)
  /-- MC_LOAD_TICK (R587). Every 1 ms LOAD is computed and shedding starts or stops. -/
  | mcLoadTick (dev : Dev) (busy : List Word)
  /-- MAILBOX_POST (R598). A requester writes OWN = 1 and posts a command for checking and service. -/
  | mailboxPost (c : Cmd)
  /-- COMMAND_DATAGRAM (R622). A command datagram arrives on Ethernet and is executed once, resent or ignored. -/
  | commandDatagram (port peer seq : Word) (c : Cmd)
  /-- EVENT_WRITE (R612). An EVENT record is written to a path's ring or backlog, or dropped. -/
  | eventWrite (path : Word) (r : Record)
  /-- EVENT_RD_WRITE (R612). A controller advances ABL_MB_EVT_RDp, and waiting events may be written. -/
  | eventRdWrite (path v : Word)
  /-- EVENT_RESEND (R613). An unacknowledged Ethernet event is resent 10 ms after it was last sent. -/
  | eventResend
  /-- STAGE_IDLE_FREE (R615). A staged object untouched for 60 s is freed. -/
  | stageIdleFree
  /-- HANDLE_GUARD_EXPIRY (R616). 8 ms after ENDED a handle slot is freed and its GEN rises. -/
  | handleGuardExpiry (slot : Word)
  /-- REVERSE_TIMEOUT (R620). A reverse-mailbox request not completed within 1,000 ms is abandoned. -/
  | reverseTimeout
  /-- HELLO (R607). HELLO negotiates the major, minor and features of a path. -/
  | hello (c : Cmd)
  /-- FENCE (R604). FENCE completes after every earlier command of its class on its path. -/
  | fence (c : Cmd)
  /-- OP_QUERY (R617). OP_QUERY returns a long operation's OP_STATE payload. -/
  | opQuery (c : Cmd)
  /-- OP_SUSPEND (R618). OP_SUSPEND suspends a running long operation. -/
  | opSuspend (c : Cmd)
  /-- OP_RESUME (R618). OP_RESUME resumes a suspended long operation. -/
  | opResume (c : Cmd)
  /-- OP_CANCEL (R618). OP_CANCEL latches cancellation of a long operation. -/
  | opCancel (c : Cmd)
  /-- EVENT_ACK (R613). EVENT_ACK cumulatively acknowledges Ethernet events. -/
  | eventAck (c : Cmd)
  /-- GET_INFO (R619). GET_INFO returns identity, role, lifecycle and versions. -/
  | getInfo (c : Cmd)
  /-- STAGE_OPEN (R615). STAGE_OPEN creates a staged object. -/
  | stageOpen (c : Cmd)
  /-- STAGE_WRITE (R615). STAGE_WRITE writes data into a staged object. -/
  | stageWrite (c : Cmd)
  /-- STAGE_CLOSE (R615). STAGE_CLOSE closes a staged object after checking its CRC. -/
  | stageClose (c : Cmd)
  /-- STAGE_READ (R619). STAGE_READ returns data from a staged object. -/
  | stageRead (c : Cmd)
  /-- STAGE_FREE (R619). STAGE_FREE frees a staged object. -/
  | stageFree (c : Cmd)
  /-- TIME_CONFIG (R182). TIME_CONFIG writes time control, asymmetry and PTP domain. -/
  | timeConfig (c : Cmd)
  /-- TIME_ACCEPT_JUMP (R169). TIME_ACCEPT_JUMP writes ACCEPT_JUMP for a node in JUMP_HELD. -/
  | timeAcceptJump (c : Cmd)
  /-- SNAP_AT (R175). SNAP_AT schedules a fleet snapshot frame at a tideline time. -/
  | snapAt (c : Cmd)
  /-- PPS_CONFIG (R176). PPS_CONFIG sets the next PPS target and width. -/
  | ppsConfig (c : Cmd)
  /-- SET_TRAY_BUDGET (R545). SET_TRAY_BUDGET writes the tray budget, reserve and floor. -/
  | setTrayBudget (c : Cmd)
  /-- SET_POWER_STATE (R538). SET_POWER_STATE enters Slack when permitted and sets wake causes. -/
  | setPowerState (c : Cmd)
  /-- SET_SELF_LIMITS (R564). SET_SELF_LIMITS sets the sentinel's own power cap and temperature limit. -/
  | setSelfLimits (c : Cmd)
  /-- SET_PARENTS (R30). SET_PARENTS assigns the primary and alternate parents. -/
  | setParents (c : Cmd)
  /-- RETURN_TO_PRIMARY (R36). RETURN_TO_PRIMARY moves a child back to its reachable primary parent. -/
  | returnToPrimary (c : Cmd)
  /-- SET_CHILD (R255). SET_CHILD writes a child slot's identity, peer and die range. -/
  | setChild (c : Cmd)
  /-- SET_RING (R431). SET_RING writes the tray's securing ring placement. -/
  | setRing (c : Cmd)
  /-- SET_ROLE (R676). SET_ROLE sets RACK or SPINE role within the strap's limits. -/
  | setRole (c : Cmd)
  /-- FAULT_CLEAR (R471). FAULT_CLEAR clears a source's SEV bit and restarts its count. -/
  | faultClear (c : Cmd)
  /-- RESTORE_SOURCE (R469). RESTORE_SOURCE ends an isolation or retirement. -/
  | restoreSource (c : Cmd)
  /-- FAULT_CONFIG (R489). FAULT_CONFIG writes a source's severity configuration. -/
  | faultConfig (c : Cmd)
  /-- INJECT (R476). INJECT arms fault injection on a source. -/
  | inject (c : Cmd)
  /-- GATE_FAIL (R279). GATE_FAIL applies FAIL to a group's gate held at the node. -/
  | gateFail (c : Cmd)
  /-- BW_CONFIG (R480). BW_CONFIG sets a pool's CAP_PER_HOUR and SPARES. -/
  | bwConfig (c : Cmd)
  /-- BW_REPORT (R482). BW_REPORT reports a drain, decline, return or new die to Breakwater. -/
  | bwReport (c : Cmd)
  /-- BW_OVERRIDE (R483). BW_OVERRIDE drains or rejects a proposal regardless of the limit. -/
  | bwOverride (c : Cmd)
  /-- JOB_START (R261). JOB_START originates a job-start fan-out from the root. -/
  | jobStart (c : Cmd)
  /-- JOB_END (R261). JOB_END originates a job-end fan-out. -/
  | jobEnd (c : Cmd)
  /-- GROUP_REGISTER (R266). GROUP_REGISTER originates a group registration fan-out. -/
  | groupRegister (c : Cmd)
  /-- GROUP_RELEASE (R261). GROUP_RELEASE originates a group release fan-out. -/
  | groupRelease (c : Cmd)
  /-- RANKMAP_LOAD (R265). RANKMAP_LOAD loads rank runs for a job. -/
  | rankmapLoad (c : Cmd)
  /-- MET_LOAD (R229). MET_LOAD loads a metric slot under admission. -/
  | metLoad (c : Cmd)
  /-- USCH_SET (R252). USCH_SET writes an uplink port or job slot configuration. -/
  | uschSet (c : Cmd)
  /-- MODEL_LOAD (R317). MODEL_LOAD checks and starts loading a model image. -/
  | modelLoad (c : Cmd) (host : Option (List Byte))
  /-- MODEL_UNLOAD (R319). MODEL_UNLOAD drains or empties a model slot. -/
  | modelUnload (c : Cmd)
  /-- MODEL_BIND (R313). MODEL_BIND writes a Tree Engine binding under its checks and admission. -/
  | modelBind (c : Cmd)
  /-- PROG_LOAD (R361). PROG_LOAD checks a program image and starts its known-answer runs. -/
  | progLoad (c : Cmd) (host : Option (List Byte))
  /-- PROG_UNLOAD (R362). PROG_UNLOAD drains or empties a program slot. -/
  | progUnload (c : Cmd)
  /-- CTX_BIND (R363). CTX_BIND binds a replay context under admission. -/
  | ctxBind (c : Cmd)
  /-- CTX_UNBIND (R364). CTX_UNBIND starts draining a replay context. -/
  | ctxUnbind (c : Cmd)
  /-- GRID_SWEEP (R619). GRID_SWEEP starts known-answer runs on every placeable partition. -/
  | gridSweep (c : Cmd)
  /-- VERDICT_CONFIG (R421). VERDICT_CONFIG sets classification mode, fence wait and history rules. -/
  | verdictConfig (c : Cmd)
  /-- CAMPAIGN_START (R411). CAMPAIGN_START queues a directed-test campaign on an IDLE die. -/
  | campaignStart (c : Cmd)
  /-- SEC_POLICY (R429). SEC_POLICY sets a job's securing methods and parameters. -/
  | secPolicy (c : Cmd)
  /-- RESTORE (R441). RESTORE starts a restore of a job from a committed cut. -/
  | restore (c : Cmd)
  /-- RESTORE_LOADED (R441). RESTORE_LOADED confirms a staged tensor was moved into its die. -/
  | restoreLoaded (c : Cmd)
  /-- LEDGER_COMPACT (R517). LEDGER_COMPACT starts a compaction pass. -/
  | ledgerCompact (c : Cmd)
  /-- LEDGER_EXPORT (R527). LEDGER_EXPORT starts a signed ledger export. -/
  | ledgerExport (c : Cmd)
  /-- LEDGER_FORMAT_COMMIT (R526). LEDGER_FORMAT_COMMIT ends format probation. -/
  | ledgerFormatCommit (c : Cmd)
  /-- LEDGER_QUERY (R619). LEDGER_QUERY returns a unit entry and cell records. -/
  | ledgerQuery (c : Cmd)
  /-- TRACE_EXPORT (R139). TRACE_EXPORT starts a trace export from a die. -/
  | traceExport (c : Cmd)
  /-- TRACE_TRIGGER (R138). TRACE_TRIGGER triggers a die's Trace Unit through the sentinel mailbox. -/
  | traceTrigger (c : Cmd)
  /-- PROFILE_ENABLE (R664). PROFILE_ENABLE enables profiling facilities with consent. -/
  | profileEnable (c : Cmd)
  /-- PROFILE_DISABLE (R92). PROFILE_DISABLE withdraws profiling. -/
  | profileDisable (c : Cmd)
  /-- ATTEST (R656). ATTEST returns a signed report or certificate. -/
  | attest (c : Cmd)
  /-- DEBUG_CHALLENGE (R659). DEBUG_CHALLENGE returns a fresh challenge. -/
  | debugChallenge (c : Cmd)
  /-- DEBUG_OPEN (R659). DEBUG_OPEN checks a token and opens a debug session. -/
  | debugOpen (c : Cmd)
  /-- DEBUG_CLOSE (R661). DEBUG_CLOSE ends the debug session. -/
  | debugClose (c : Cmd)
  /-- LIFECYCLE_SECURE (R646). LIFECYCLE_SET op 1 provisions key slots and programs SECURED. -/
  | lifecycleSecure (c : Cmd)
  /-- LIFECYCLE_RMA (R648). LIFECYCLE_SET op 2 erases job data and programs RMA. -/
  | lifecycleRma (c : Cmd)
  /-- LIFECYCLE_DECOMMISSION (R665). LIFECYCLE_SET op 3 seals, fuses, zeroizes and reboots into DECOMMISSIONED. -/
  | lifecycleDecommission (c : Cmd)
  /-- KEY_ADD (R647). LIFECYCLE_SET op 4 adds a signed key to a slot. -/
  | keyAdd (c : Cmd)
  /-- KEY_REVOKE (R647). LIFECYCLE_SET op 5 revokes a key slot. -/
  | keyRevoke (c : Cmd)
  /-- FW_UPDATE (R654). FW_UPDATE verifies and installs a firmware image. -/
  | fwUpdate (c : Cmd) (host : Option (List Byte))
  /-- FW_COMMIT (R651). FW_UPDATE with a commit target advances the anti-rollback counter. -/
  | fwCommit (c : Cmd) (host : Option (List Byte))
  /-- DIE_IDENT (R194). DIE_IDENT writes the die index and fallback peers. -/
  | dieIdent (c : Cmd)
  /-- DIE_REG_WRITE (R620). DIE_REG_WRITE writes privileged DDU registers in order. -/
  | dieRegWrite (c : Cmd)
  /-- DIE_CAP (R548). DIE_CAP delivers a cap, external floor and setpoint, and its completion acknowledges the cap. -/
  | dieCap (c : Cmd)
  /-- DIE_SLACK (R543). DIE_SLACK puts the DDU into Slack when permitted. -/
  | dieSlack (c : Cmd)
  /-- DIE_SUSPECT (R387). DIE_SUSPECT stages the next suspect mask. -/
  | dieSuspect (c : Cmd)
  /-- DIE_PROFILE (R92). DIE_PROFILE sets or clears PROF_EN for a JobTag. -/
  | dieProfile (c : Cmd)
  /-- DIE_SEC_CUT (R429). DIE_SEC_CUT sets the pending cut and clears changed-method versions. -/
  | dieSecCut (c : Cmd)
  /-- DIE_SEC_COMMIT (R438). DIE_SEC_COMMIT writes the committed tensor versions. -/
  | dieSecCommit (c : Cmd)
  /-- DIE_FAULT_CLEAR (R471). DIE_FAULT op 1 clears a DDU unit's SEV bit. -/
  | dieFaultClear (c : Cmd)
  /-- DIE_FAULT_RESTORE (R469). DIE_FAULT op 2 restores an isolated or retired DDU source. -/
  | dieFaultRestore (c : Cmd)
  /-- DIE_FAULT_CONFIGURE (R489). DIE_FAULT op 3 writes a DDU unit's severity configuration. -/
  | dieFaultConfigure (c : Cmd)
  /-- DIE_FAULT_INJECT (R476). DIE_FAULT op 4 arms injection on a DDU unit. -/
  | dieFaultInject (c : Cmd)
  /-- DIE_LEDGER_READ (R520). DIE_LEDGER op 1 reads a die ledger section. -/
  | dieLedgerRead (c : Cmd)
  /-- DIE_LEDGER_WRITE (R522). DIE_LEDGER op 2 writes a die ledger section. -/
  | dieLedgerWrite (c : Cmd)
  /-- DIE_TRACE_TRIGGER (R138). DIE_TRACE op 1 fires the SENTINEL trigger source. -/
  | dieTraceTrigger (c : Cmd)
  /-- DIE_TRACE_EXPORT_START (R139). DIE_TRACE op 2 starts a trace export on the die. -/
  | dieTraceExportStart (c : Cmd)
  /-- DIE_TRACE_EXPORT_SUSPEND (R139). DIE_TRACE op 3 suspends the trace export. -/
  | dieTraceExportSuspend (c : Cmd)
  /-- DIE_TRACE_EXPORT_RESUME (R139). DIE_TRACE op 4 resumes the trace export. -/
  | dieTraceExportResume (c : Cmd)
  /-- DIE_TRACE_EXPORT_CANCEL (R139). DIE_TRACE op 5 cancels the trace export. -/
  | dieTraceExportCancel (c : Cmd)
  /-- DIE_REPEAT (R408). DIE_REPEAT asks the host to re-run a failed tile. -/
  | dieRepeat (c : Cmd)
  /-- DIE_CAMPAIGN (R413). DIE_CAMPAIGN sets or stops a campaign's target cell. -/
  | dieCampaign (c : Cmd)
  /-- HOST_REPEAT_TILE (R620). HOST_REPEAT_TILE asks host software to re-run a tile from held inputs. -/
  | hostRepeatTile
  /-- HOST_SET_PATTERN (R620). HOST_SET_PATTERN asks host software to set the test pattern intensity. -/
  | hostSetPattern (intensity : Word)
  /-- DIE_QUERY (R620). DIE_QUERY returns job, power and ledger status to host software. -/
  | dieQuery (c : Cmd)
  /-- APERTURE_ACCESS (R634). A BAR4 access reaches memory through a grant or reads zero and is counted. -/
  | apertureAccess (x len : Word) (write : Bool) (data : List Byte)
  /-- HOST_WIDE_READ (R631). A host read of a register wider than 64 bits latches or reads the host shadow. -/
  | hostWideRead (off size : Word)
  /-- FUNCTION_RESET (R640). An FLR, hot reset, link-down or PERST_N clears the function state. -/
  | functionReset (kind : Word)
  /-- BUS_MASTER_CHANGE (R638). Bus Master Enable changes and host-memory operations are held or may resume. -/
  | busMasterChange (enable : Bool)
  /-- RECOVERY_IMAGE_POST (R655). After boot failure the host writes OWN in mailbox 0 and the ROM verifies and boots the image. -/
  | recoveryImagePost
  /-- BOOT_REPORT_RX (R657). A DDU boot ROM returns its signed boot report to the sentinel. -/
  | bootReportRx (port : Word) (report : List Byte)
  /-- DEBUG_SESSION_EXPIRY (R661). A debug session's duration ends and it closes. -/
  | debugSessionExpiry
  /-- DEBUG_CHALLENGE_EXPIRY (R659). A debug challenge expires after 60 s. -/
  | debugChallengeExpiry
  /-- DDU_DEBUG_EXPIRY (R662). A DDU's tideline seconds reach DDU_DBG_EXPIRE and its grant clears. -/
  | dduDebugExpiry
  /-- PROFILE_CONSENT_EXPIRY (R664). A consent token's expiry is reached and profiling is withdrawn. -/
  | profileConsentExpiry
  /-- FW_BOOT_TIMEOUT (R654). New firmware does not reach BOOT 2 within 10 s and the loader reverts. -/
  | fwBootTimeout
  /-- AON_PGOOD_RISE (R672). AON_PGOOD rises and the sentinel drives MAIN_EN high. -/
  | aonPgoodRise
  /-- AON_PGOOD_FALL (R677). AON_PGOOD falls and the sentinel enters chip reset. -/
  | aonPgoodFall
  /-- MAIN_PGOOD_RISE (R677). MAIN_PGOOD rises, releasing reset or booting the complex after a loss. -/
  | mainPgoodRise
  /-- MAIN_PGOOD_FALL (R673). MAIN_PGOOD falls while MAIN_EN is high; outputs clamp and main power is cycled. -/
  | mainPgoodFall
  /-- MAIN_EN_RESTART (R673). 10 ms after a main power loss MAIN_EN is driven high again. -/
  | mainEnRestart
  /-- RESET_N_ASSERT (R677). RESET_N is held low long enough and the sentinel enters chip reset. -/
  | resetNAssert (ns : Word)
  /-- INTERNAL_RESET_END (R678). Internal reset ends 1 ms after the last release and the boot ROM starts. -/
  | internalResetEnd
  /-- BOOT_STAGE_DONE (R678). The loader or firmware is verified and started and BOOT advances. -/
  | bootStageDone (bad : Word)
  /-- PERST_RELEASE (R680). PERST_N rises and the endpoint becomes ready for configuration. -/
  | perstRelease
  /-- THERMTRIP (R684). A diode reaches 120 C; THERMTRIP_N asserts and MAIN_EN goes low. -/
  | thermtrip
  /-- REFCLK_LOSS (R685). REFCLK_RACK has no edge for 1 us; the PLL holds and time enters HOLDOVER. -/
  | refclkLoss
  /-- REFCLK_RELOCK (R685). REFCLK_RACK has been stable for 100 us and the PLL relocks. -/
  | refclkRelock
  /-- RC_REGISTER_READ (R8). A read of an RC register returns its value and clears it, and a read of a PROFILE counter while PROF_EN is 0 returns 0 and counts in DDU_CNT_WITHHELD. -/
  | rcRegisterRead (dev : Dev) (who : Requester) (off size : Word)
  /-- REVERSE_MAILBOX_COMPLETE (R620). Host software writes OWN = 0 in the reverse host mailbox 3 with its response to HOST_REPEAT_TILE or HOST_SET_PATTERN, and DDU firmware acts on the result. -/
  | reverseMailboxComplete (status : Word) (data : List Byte)
  /-- DDU_AON_PGOOD_RISE (R75). AON_PGOOD rises at the DDU, and the always-on domain returns under the clamp conditions of R75 and R78. -/
  | dduAonPgoodRise
  /-- TRAY_NEAP_HOLD_EXPIRY (R440). A tray's level has been Neap for 10 s and it sends SECURE_REQUEST with level Neap to release securing. -/
  | trayNeapHoldExpiry
  /-- EXPORT_SEGMENT_DONE (R527). A ledger export segment has been written to host memory or sent to the controller, and the export goes on to the next segment or ends. -/
  | exportSegmentDone (handle : Word)
  /-- FW_SLOT_WRITE_DONE (R654). Verification of a staged firmware image, or the writing and read-back of its inactive slot, completes and the KIND 8 operation moves to its next KSTATE or ends. -/
  | fwSlotWriteDone (held : Bool)
  /-- DTLS_HANDSHAKE_RX (R658). A DTLS 1.3 handshake datagram arrives on a management Ethernet port and establishes, or refuses, one of the port's 8 mutually authenticated associations. -/
  | dtlsHandshakeRx (port peer : Word) (root : List Byte) (ok : Bool)
  deriving DecidableEq, Repr

end Sys2Proof
end

