-- ==== Sys2Proof/Decode.lean ====
section
/-!
DEFINITION. The table of commands gives no row any bits, so no word spells a command.
-/

namespace Sys2Proof

/-- The command that a word of `nbits` bits spells: none, as no row of the table has bits. -/
def decodeTableWord (nbits w : Nat) : Option Instr :=
  match nbits, w with
  | _, _ => none

end Sys2Proof
end

