-- ==== Sys2Proof/Machine/Bits.lean ====
section
/-!
DEFINITION. Bit fields, byte order and signed views of natural numbers (R3, R4), and CRC-32C.
-/

namespace Sys2Proof.Machine

/-- Field `[lo+w-1:lo]` of `v` (R4). -/
def bits (v lo w : Nat) : Nat := v / 2 ^ lo % 2 ^ w

/-- `v` with field `[lo+w-1:lo]` replaced by the low `w` bits of `x`. -/
def setBits (v lo w x : Nat) : Nat := v - bits v lo w * 2 ^ lo + x % 2 ^ w * 2 ^ lo

/-- Bit `i` of `v`. -/
def bit (v i : Nat) : Bool := v / 2 ^ i % 2 == 1

/-- `b` as a 0 or 1. -/
def b2n (b : Bool) : Nat := if b then 1 else 0

/-- `v` with bit `i` set to `b`. -/
def setBit (v i : Nat) (b : Bool) : Nat := setBits v i 1 (b2n b)

/-- The `n` little-endian bytes of `v` (R3). -/
def le (n v : Nat) : List Nat := (List.range n).map fun i => v / 256 ^ i % 256

/-- The number that little-endian bytes spell (R3). -/
def leNat (l : List Nat) : Nat := l.foldr (fun b a => b % 256 + 256 * a) 0

/-- `n` bytes of `l` from offset `off`, as a little-endian number; bytes past the end read 0. -/
def leAt (l : List Nat) (off n : Nat) : Nat := leNat ((l.drop off).take n)

/-- The next multiple of 8 (R11). -/
def align8 (n : Nat) : Nat := (n + 7) / 8 * 8

/-- `n` zero bytes. -/
def zeros (n : Nat) : List Nat := List.replicate n 0

/-- `l` cut or padded with zero bytes to `n` bytes. -/
def padTo (n : Nat) (l : List Nat) : List Nat := l.take n ++ zeros (n - l.length)

/-- Two's complement of `i` in `w` bits. -/
def ofInt (w : Nat) (i : Int) : Nat := (i % (2 ^ w : Nat)).toNat

/-- The signed reading of the low `w` bits of `v`. -/
def toInt (w v : Nat) : Int :=
  let x := v % 2 ^ w
  if x < 2 ^ (w - 1) then (x : Int) else (x : Int) - (2 ^ w : Nat)

/-- The signed 32-bit distance `a - b` modulo 2^32 (chapter 05, `extend`). -/
def dist32 (a b : Nat) : Int := toInt 32 ((a + 2 ^ 32 - b % 2 ^ 32) % 2 ^ 32)

/-- Number of bits set in the low `w` bits of `v`. -/
def popcount (w v : Nat) : Nat := ((List.range w).filter (bit v)).length

/-- Indices of the set bits of the low `w` bits of `v`, ascending. -/
def setBitsOf (w v : Nat) : List Nat := (List.range w).filter (bit v)

/-- Element `i` of `l` replaced by `f` of itself. -/
def modifyAt {α : Type} (l : List α) (i : Nat) (f : α → α) : List α := l.mapIdx fun j a => if j = i then f a else a

/-- The first entry of `l` under key `k`. -/
def lookupD {β : Type} (l : List (Nat × β)) (k : Nat) (d : β) : β :=
  match l with
  | [] => d
  | (a, b) :: t => if a = k then b else lookupD t k d

/-- `l` with key `k` bound to `b` and to nothing else. -/
def bindKey {β : Type} (l : List (Nat × β)) (k : Nat) (b : β) : List (Nat × β) :=
  (k, b) :: l.filter fun p => p.1 != k

/-- One bit of the reflected CRC-32C shift register. -/
def crcBit (c : Nat) : Nat := if c % 2 = 1 then (c / 2) ^^^ 0x82F63B78 else c / 2

/-- One byte of CRC-32C. -/
def crcByte (c b : Nat) : Nat := (List.range 8).foldl (fun a _ => crcBit a) (c ^^^ (b % 256))

/-- CRC-32C of a byte string (R186, R615): initial value and final inversion all ones. -/
def crc32c (l : List Nat) : Nat := l.foldl crcByte 0xFFFFFFFF ^^^ 0xFFFFFFFF

end Sys2Proof.Machine

namespace Sys2Proof

open Machine

/-- The 16 header bytes and payload of a record, padded to 8 (R11, R12). -/
def Record.bytes (r : Record) : List Nat :=
  let b := [r.mark % 256, r.typ % 256] ++ le 2 r.code ++ le 2 r.payload.length ++ le 2 r.src ++ le 4 r.time ++ le 2 r.seq ++
    le 2 r.flags ++ r.payload
  b ++ zeros (align8 b.length - b.length)

/-- What a reader makes of the first bytes of a record's slot (R16). -/
inductive SlotRead where
  | unwritten | malformed | record
  deriving DecidableEq, Repr

/-- MARK 0xFF: not yet written; another MARK than 0x5A, or a PAYLOAD_LEN above 4,080: malformed (R16). -/
def slotRead (mark len : Nat) : SlotRead :=
  if mark = 0xFF then .unwritten else if mark ≠ 0x5A || decide (4080 < len) then .malformed else .record

/-- What a reader makes of a record (R16). -/
def Record.read (r : Record) : SlotRead := slotRead r.mark r.payload.length

/-- The bytes that a record takes in a ring (R11). -/
def Record.size (r : Record) : Nat := align8 (16 + r.payload.length)

/-- What a node makes of what a message carries (R16): only the one that reads it, `mine`, looks at its MARK. -/
def Body.read (b : Body) (mine : Bool) : SlotRead :=
  match b with
  | .record r => if mine then r.read else .record
  | .frame .. => .record

/-- The bytes of a message (R189): a 16-byte prefix and the record. A frame without a TYPE counts 8 bytes for each of
its arguments. -/
def Msg.size (m : Msg) : Nat :=
  match m.body with
  | .record r => 16 + r.size
  | .frame _ a b => 16 + align8 (16 + 8 * a.length + b.length)

/-- The bytes of a message (R189). A frame without a TYPE is carried as zeros of its length. -/
def Msg.bytes (m : Msg) : List Nat :=
  le 4 m.origin ++ le 4 (m.dest % 2 ^ 24 + m.hops % 16 * 2 ^ 24) ++ le 4 m.expire ++ zeros 4 ++
    match m.body with
    | .record r => r.bytes
    | .frame .. => zeros (m.size - 16)

/-- Bytes 0 to 123 of a flit (R186). -/
def Flit.head (f : Flit) : List Nat :=
  [f.ftype % 16 + f.slot % 4 * 16, f.cls % 8] ++ le 2 (f.seq % 4096) ++ le 2 (f.ack % 4096 + b2n f.ackValid * 2 ^ 15) ++
    [f.creditCls % 8 * 32 + f.credit % 32, f.len % 256] ++ padTo 116 f.payload

/-- A flit's 128 bytes (R186). -/
def Flit.bytes (f : Flit) : List Nat := f.head ++ le 4 f.crc

/-- A flit as it is driven: LEN counts its payload, and CRC covers bytes 0 to 123 (R186). -/
def Flit.seal (f : Flit) : Flit :=
  let g := { f with len := f.payload.length }
  { g with crc := crc32c g.head }

/-- Whether a flit's CRC holds, its FTYPE is not reserved, its LEN is at most 116 (R187) and its class is not 7 (R188). -/
def Flit.intact (f : Flit) : Bool := f.crc == crc32c f.head && decide (f.ftype ≤ 5) && decide (f.len ≤ 116) && f.cls != 7

end Sys2Proof
end

