-- ==== Sys2Proof/Machine/FloatOps.lean ====
section
/-!
DEFINITION. Numbers of the arithmetic contract (R341 to R351) and of the Tree Engine (R297 to R307): formats, exact values,
round to nearest with ties to even, and the FP32 primitives.
-/

namespace Sys2Proof.Machine

/-- A number of a float format: a NaN, an infinity, or ±m 2^e. -/
inductive Fp where
  | nan
  | inf (neg : Bool)
  | fin (neg : Bool) (m : Nat) (e : Int)
  deriving DecidableEq, Repr

/-- `m 2^e` in units of `2^q`, rounded to nearest with ties to even. -/
def roundMag (m : Nat) (e q : Int) : Nat :=
  if q ≤ e then m * 2 ^ (e - q).toNat
  else
    let s := (q - e).toNat
    let n := m / 2 ^ s
    let r := m % 2 ^ s * 2
    if 2 ^ s < r || (r = 2 ^ s && n % 2 = 1) then n + 1 else n

/-- How a float format is laid out (R341): exponent bits, mantissa bits, bias, and its special values: 1 none, 2 a NaN alone,
3 as IEEE 754. -/
structure FpFmt where
  eb : Nat
  mb : Nat
  bias : Int
  kind : Nat

/-- The float format of a code of R341. -/
def fpFmt (code : Nat) : FpFmt :=
  match code with
  | 3 => ⟨2, 1, 1, 1⟩
  | 4 => ⟨3, 2, 3, 1⟩
  | 5 => ⟨2, 3, 1, 1⟩
  | 7 => ⟨4, 3, 7, 2⟩
  | 8 => ⟨5, 2, 15, 3⟩
  | 9 => ⟨8, 7, 127, 3⟩
  | 10 => ⟨5, 10, 15, 3⟩
  | _ => ⟨8, 23, 127, 3⟩

/-- Bits of an element of a format code; 0 for an invalid one (R341). -/
def fmtBits (code : Nat) : Nat :=
  match code with
  | 1 => 2 | 2 => 4 | 3 => 4 | 4 => 6 | 5 => 6 | 6 => 8 | 7 => 8 | 8 => 8 | 9 => 16 | 10 => 16 | 11 => 32
  | _ => 0

/-- Whether a format code is an integer format. -/
def fmtInt (code : Nat) : Bool := code == 1 || code == 2 || code == 6

/-- Whether a format has an E8M0 block scale (R341). -/
def fmtScaled (code : Nat) : Bool := code == 1 || code == 2 || code == 3 || code == 4 || code == 5 || code == 7 || code == 8

/-- The QUANT offset of a format (R341). -/
def quantOffset (code : Nat) : Int :=
  match code with
  | 2 => 2 | 3 => 2 | 4 => 4 | 5 => 2 | 7 => 8 | 8 => 15
  | _ => 0

/-- The number that the bits of a float format spell. -/
def FpFmt.decode (f : FpFmt) (v : Nat) : Fp :=
  let m := v % 2 ^ f.mb
  let e := v / 2 ^ f.mb % 2 ^ f.eb
  let neg := v / 2 ^ (f.mb + f.eb) % 2 == 1
  if f.kind = 3 && e = 2 ^ f.eb - 1 then (if m = 0 then .inf neg else .nan)
  else if f.kind = 2 && e = 2 ^ f.eb - 1 && m = 2 ^ f.mb - 1 then .nan
  else if e = 0 then .fin neg m (1 - f.bias - f.mb)
  else .fin neg (m + 2 ^ f.mb) ((e : Int) - f.bias - f.mb)

/-- The bits of the largest finite number. -/
def FpFmt.maxBits (f : FpFmt) : Nat :=
  match f.kind with
  | 3 => (2 ^ f.eb - 1) * 2 ^ f.mb - 1
  | 2 => 2 ^ (f.eb + f.mb) - 2
  | _ => 2 ^ (f.eb + f.mb) - 1

/-- A number rounded once to a float format (R346, R349): overflow to infinity, or to the largest finite number where the
format has no infinity. -/
def FpFmt.encode (f : FpFmt) (x : Fp) : Nat :=
  let sign (neg : Bool) : Nat := b2n neg * 2 ^ (f.eb + f.mb)
  let excess : Nat := if f.kind = 3 then (2 ^ f.eb - 1) * 2 ^ f.mb else f.maxBits
  match x with
  | .nan =>
    match f.kind with
    | 3 => (2 ^ f.eb - 1) * 2 ^ f.mb + 2 ^ (f.mb - 1)
    | 2 => 2 ^ (f.eb + f.mb) - 1
    | _ => 0
  | .inf neg => sign neg + excess
  | .fin neg m e =>
    if m = 0 then sign neg
    else
      let low : Int := 1 - f.bias - f.mb
      let q : Int := max ((Nat.log2 m : Nat) + e - f.mb) low
      let b := roundMag m e q + (q - low).toNat * 2 ^ f.mb
      sign neg + if f.maxBits < b then excess else b

/-! ## Exact operations -/

/-- A signed significand. -/
def sgn (neg : Bool) (m : Nat) : Int := if neg then -(m : Int) else m

/-- The exact sum; infinities of opposite signs give a NaN. -/
def Fp.add : Fp → Fp → Fp
  | .nan, _ => .nan
  | _, .nan => .nan
  | .inf a, .inf b => if a == b then .inf a else .nan
  | .inf a, _ => .inf a
  | _, .inf b => .inf b
  | .fin a m e, .fin b k f =>
    let q := min e f
    let s := sgn a m * 2 ^ (e - q).toNat + sgn b k * 2 ^ (f - q).toNat
    if s = 0 then .fin (m = 0 && k = 0 && a && b) 0 0 else .fin (s < 0) s.natAbs q

/-- The exact product; an infinity by zero gives a NaN. -/
def Fp.mul : Fp → Fp → Fp
  | .nan, _ => .nan
  | _, .nan => .nan
  | .inf a, .inf b => .inf (a != b)
  | .inf a, .fin b k _ => if k = 0 then .nan else .inf (a != b)
  | .fin a m _, .inf b => if m = 0 then .nan else .inf (a != b)
  | .fin a m e, .fin b k f => .fin (a != b) (m * k) (e + f)

/-- The negative of a number. -/
def Fp.neg : Fp → Fp
  | .nan => .nan
  | .inf a => .inf !a
  | .fin a m e => .fin (!a) m e

/-- Whether `a < b`; never with a NaN. -/
def Fp.lt : Fp → Fp → Bool
  | .nan, _ => false
  | _, .nan => false
  | .inf a, .inf b => a && !b
  | .inf a, _ => a
  | _, .inf b => !b
  | .fin a m e, .fin b k f =>
    let q := min e f
    decide (sgn a m * 2 ^ (e - q).toNat < sgn b k * 2 ^ (f - q).toNat)

/-- Whether a number is neither NaN nor infinite. -/
def Fp.finite : Fp → Bool
  | .fin _ _ _ => true
  | _ => false

/-- Whether a number is zero. -/
def Fp.isZero : Fp → Bool
  | .fin _ m _ => m == 0
  | _ => false

/-! ## FP32 patterns -/

/-- FP32. -/
def fp32 : FpFmt := ⟨8, 23, 127, 3⟩

/-- The number of an FP32 pattern, and the pattern of a number rounded once. -/
def ofF32 (v : Nat) : Fp := fp32.decode v
def toF32 (x : Fp) : Nat := fp32.encode x

/-- An exact integer times a power of two. -/
def Fp.ofInt (i : Int) (e : Int := 0) : Fp := .fin (i < 0) i.natAbs e

/-- An integer rounded to FP32 (R297). -/
def i2f (i : Int) : Nat := toF32 (Fp.ofInt i)

/-- The primitives add, sub, mul and fma (R350), each rounded once. -/
def fAdd (a b : Nat) : Nat := toF32 ((ofF32 a).add (ofF32 b))
def fSub (a b : Nat) : Nat := toF32 ((ofF32 a).add (ofF32 b).neg)
def fMul (a b : Nat) : Nat := toF32 ((ofF32 a).mul (ofF32 b))
def fFma (a b c : Nat) : Nat := toF32 (((ofF32 a).mul (ofF32 b)).add (ofF32 c))

/-- `a < b` and `a ≤ b` as IEEE values. -/
def fLt (a b : Nat) : Bool := (ofF32 a).lt (ofF32 b)
def fIsNan (a : Nat) : Bool := ofF32 a == .nan
def fLe (a b : Nat) : Bool := !fIsNan a && !fIsNan b && !fLt b a

/-- A finite FP32 pattern, and a non-zero one. -/
def fFinite (a : Nat) : Bool := (ofF32 a).finite
def fNonzero (a : Nat) : Bool := !(ofF32 a).isZero

/-- The canonical NaN (R348). -/
def fNan : Nat := 0x7FC00000

/-- min and max: a NaN operand gives NaN (R350); of equal values, zeros of two signs included, the first is the smaller
one with its sign bit set. (DEDUCED: log 53.) -/
def fMin (a b : Nat) : Nat :=
  if fIsNan a || fIsNan b then fNan else if fLt a b then a else if fLt b a then b else if bit a 31 then a else b
def fMax (a b : Nat) : Nat :=
  if fIsNan a || fIsNan b then fNan else if fLt a b then b else if fLt b a then a else if bit a 31 then b else a

/-- The integer square root, by bits from `k` down. -/
def isqrtFrom : Nat → Nat → Nat → Nat
  | 0, _, r => r
  | k + 1, n, r => let t := r + 2 ^ k; isqrtFrom k n (if t * t ≤ n then t else r)

/-- The integer square root. -/
def isqrt (n : Nat) : Nat := isqrtFrom (Nat.log2 n / 2 + 1) n 0

/-- A positive value given as a floor in units of `2^q` and whether anything was left, with enough bits to round. -/
def sticky (n : Nat) (exact : Bool) (q : Int) : Fp := .fin false (2 * n + b2n !exact) (q - 1)

/-- sqrt (R350). -/
def fSqrt (a : Nat) : Nat :=
  match ofF32 a with
  | .nan => fNan
  | .inf neg => if neg then fNan else a
  | .fin neg m e =>
    if m = 0 then a
    else if neg then fNan
    else
      let k : Nat := 64 + (e % 2).toNat
      let n := m * 2 ^ k
      let r := isqrt n
      toF32 (sticky r (r * r == n) ((e - k) / 2))

/-- rcp (R350). -/
def fRcp (a : Nat) : Nat :=
  match ofF32 a with
  | .nan => fNan
  | .inf neg => b2n neg * 2 ^ 31
  | .fin neg m e =>
    if m = 0 then b2n neg * 2 ^ 31 + 0x7F800000
    else
      let r := 2 ^ 80 / m
      b2n neg * 2 ^ 31 + toF32 (sticky r (2 ^ 80 % m == 0) (-80 - e))

/-- rsqrt (R350); of a zero it is an infinity, as rcp of it is. (DEDUCED: log 53.) -/
def fRsqrt (a : Nat) : Nat :=
  match ofF32 a with
  | .nan => fNan
  | .inf neg => if neg then fNan else 0
  | .fin neg m e =>
    if m = 0 then b2n neg * 2 ^ 31 + 0x7F800000
    else if neg then fNan
    else
      let o := (e % 2).toNat
      let w := m * 2 ^ o
      let n := 2 ^ 160 / w
      let r := isqrt n
      toF32 (sticky r (r * r * w == 2 ^ 160) (-80 - (e - o) / 2))

/-! ## exp2, log2 and tanh -/

/-- Fraction bits of the fixed point in which the transcendental functions are bounded, and the bound of their error. -/
def fxBits : Nat := 300
def fxErr : Nat := 2 ^ 40

/-- ln 2 in fixed point, within 400 units. -/
def fxLn2 : Nat := ((List.range 300).map fun k => 2 ^ fxBits / ((k + 1) * 2 ^ (k + 1))).sum

/-- e^t for a fixed-point t in 0 to 1. -/
def fxExp (t : Nat) : Nat :=
  ((List.range 90).foldl (fun (acc : Nat × Nat) k =>
    let term := acc.2 * t / 2 ^ fxBits / (k + 1)
    (acc.1 + term, term)) (2 ^ fxBits, 2 ^ fxBits)).1

/-- ln m for a fixed-point m in 1 to 2. -/
def fxLn (m : Nat) : Nat :=
  let z := (m - 2 ^ fxBits) * 2 ^ fxBits / (m + 2 ^ fxBits)
  let z2 := z * z / 2 ^ fxBits
  2 * ((List.range 110).foldl (fun (acc : Nat × Nat) k => (acc.1 + acc.2 / (2 * k + 1), acc.2 * z2 / 2 ^ fxBits)) (0, z)).1

/-- The FP32 pattern of a value that is known to lie within `fxErr` of `n 2^q`, when both ends round alike. -/
def fxRound (neg : Bool) (n : Nat) (q : Int) (free : Nat) : Nat :=
  let a := toF32 (.fin neg (n - fxErr) q)
  if a = toF32 (.fin neg (n + fxErr) q) then a else free % 2 ^ 32

/-- exp2 of a finite number that is not an integer: 2^n e^(f ln 2). -/
def fExp2 (a : Nat) (free : Nat) : Nat :=
  match ofF32 a with
  | .nan => fNan
  | .inf neg => if neg then 0 else 0x7F800000
  | .fin neg m e =>
    if m = 0 then 0x3F800000
    else if 8 ≤ (Nat.log2 m : Nat) + e then (if neg then 0 else 0x7F800000)
    else
      let v : Int := sgn neg (if 0 ≤ e then m * 2 ^ e.toNat * 2 ^ fxBits else m * 2 ^ (fxBits - (-e).toNat))
      let n := v / (2 ^ fxBits : Nat)
      let f := (v % (2 ^ fxBits : Nat)).toNat
      if f = 0 then toF32 (.fin false 1 n)
      else fxRound false (fxExp (f * fxLn2 / 2 ^ fxBits)) (n - fxBits) free

/-- log2. -/
def fLog2 (a : Nat) (free : Nat) : Nat :=
  match ofF32 a with
  | .nan => fNan
  | .inf neg => if neg then fNan else 0x7F800000
  | .fin neg m e =>
    if m = 0 then 0xFF800000
    else if neg then fNan
    else
      let l := Nat.log2 m
      let k : Int := (l : Nat) + e
      if m = 2 ^ l then i2f k
      else
        let f := fxLn (m * 2 ^ (fxBits - l)) * 2 ^ fxBits / fxLn2
        let v : Int := k * (2 ^ fxBits : Nat) + f
        fxRound (v < 0) v.natAbs (-fxBits) free

/-- tanh: (1 - u) ÷ (1 + u) with u = e^(-2|x|). -/
def fTanh (a : Nat) (free : Nat) : Nat :=
  match ofF32 a with
  | .nan => fNan
  | .inf neg => b2n neg * 2 ^ 31 + 0x3F800000
  | .fin neg m e =>
    if m = 0 then a
    else if 4 ≤ (Nat.log2 m : Nat) + e then b2n neg * 2 ^ 31 + 0x3F800000
    else
      let t := if 0 ≤ e then 2 * m * 2 ^ e.toNat * 2 ^ fxBits else 2 * m * 2 ^ (fxBits - (-e).toNat)
      let k := t / fxLn2 + 1
      let u := fxExp (k * fxLn2 - t) / 2 ^ k
      let v := (2 ^ fxBits - u) * 2 ^ fxBits / (2 ^ fxBits + u)
      if (Nat.log2 m : Nat) + e < -60 then a else fxRound neg v (-fxBits) free

/-! ## Conversions -/

/-- A number rounded to nearest, ties to even, as an integer; an infinity at the given end. -/
def Fp.toInt (x : Fp) (lo hi : Int) : Int :=
  match x with
  | .nan => 0
  | .inf neg => if neg then lo else hi
  | .fin neg m e => max lo (min hi (sgn neg (roundMag m e 0)))

/-- A number converted once to a format of R341 (R349), as its bits. -/
def convert (code : Nat) (x : Fp) : Nat :=
  if fmtInt code then
    let b := fmtBits code
    ofInt b (x.toInt (-(2 ^ (b - 1))) (2 ^ (b - 1) - 1))
  else (fpFmt code).encode x

/-- The number that an element of a format spells. -/
def element (code v : Nat) : Fp :=
  if fmtInt code then Fp.ofInt (toInt (fmtBits code) v) else (fpFmt code).decode v

end Sys2Proof.Machine
end

