-- ==== Sys2Proof/Config.lean ====
section
/-!
DEFINITION. What the silicon, the fuses and the configuration fix, and the values the spec leaves open.  Each is an
opaque constant with no body: nothing in Lean can evaluate it, and a statement about it holds for every value.
-/

namespace Sys2Proof.Config

/-- A fresh open value: the argument is the counter `State.free`, which every use advances. (DESIGN CHOICE: log 9.) (DESIGN CHOICE: log 25.) -/
opaque freeNat : Nat → Nat

/-- An open value of the integers, drawn as `freeNat`. (DESIGN CHOICE: log 9.) -/
opaque freeInt : Nat → Int

/-- What a counting register holds once its count passes its width, where the spec states neither wrap nor
saturation; the argument is the exact count. (DESIGN CHOICE: log 19.) -/
opaque counterOverflow : Nat → Nat

/-- DDU_ID MAJOR and MINOR (R66): silicon. (DESIGN CHOICE: log 10.) -/
opaque dduRevision : Nat
/-- ABL_ID MAJOR and MINOR (chapter 18): silicon. (DESIGN CHOICE: log 10.) -/
opaque ablRevision : Nat
/-- DDU_STATUS.LIFECYCLE (R68): fuses. (DESIGN CHOICE: log 10.) -/
opaque dduLifecycle : Nat
/-- DDU_PWR_SAFE (chapter 15): the safe cap in W, from fuses. (DESIGN CHOICE: log 10.) -/
opaque pwrSafe : Nat
/-- ABL_SERIAL (chapter 18): fuses. (DESIGN CHOICE: log 10.) -/
opaque ablSerial : Nat
/-- The level of the sentinel in the data tree, 1 to 4 (R2), which the strap and the fleet fault manager fix. (DESIGN CHOICE: log 10.) -/
opaque nodeLevel : Nat
/-- ABL_NODE.STRAP (chapter 18): pins. (DESIGN CHOICE: log 10.) -/
opaque strap : Nat
/-- ABL_STATUS.LIFECYCLE (chapter 18): fuses. (DESIGN CHOICE: log 10.) -/
opaque ablLifecycle : Nat
/-- ABL_LC_STATE at reset (R669) beyond its lifecycle: [0] SECRET_KILLED, [1] and [2] the boot slots of loader and firmware. (DESIGN CHOICE: log 10.) -/
opaque lcFuse : Nat
/-- ABL_LC_SVN at reset (chapter 19): the anti-rollback counters. (DESIGN CHOICE: log 10.) -/
opaque svnFuse : Nat
/-- The siblings of the die on a die port, in the order of its FB_PEER list (R194, R203): the sibling's port and the
fabric address of its ring. (DEDUCED: log 34.) -/
opaque fbPeerPort : Nat → Nat → Nat
opaque fbPeerAddr : Nat → Nat → Nat
/-- EVENT_CLASSES, the reserved bytes and FEATURES of the HELLO that a tray sends to the die of a port (R606). (DEDUCED: log 34.) -/
opaque dieHello : Nat → List Nat
/-- The die index of the sibling whose ring has a fabric address (R206). (DESIGN CHOICE: log 92.) -/
opaque ringDie : Nat → Nat
/-- The die that FALLBACK_ENTER names while no entry of the list of siblings is valid (R202, R206). (DESIGN CHOICE: log 33.) -/
opaque noHostDie : Nat
/-- How far into its tick a PCS stamp falls, in 1/256 ns, by how many stamps have been taken (R164). (DESIGN CHOICE: log 100.) -/
opaque pcsPhase : Nat → Nat
/-- TYPE and CODE of PARENT_SWITCH and ADOPTED, and their payloads, which the spec does not give (R34, R37). (DESIGN CHOICE: log 17.) -/
opaque parentSwitchType : Nat
opaque parentSwitchCode : Nat
opaque parentSwitchPayload : Nat → Nat → List Nat
opaque adoptedType : Nat
opaque adoptedCode : Nat
opaque adoptedPayload : Nat → List Nat
/-- Whether a shared interrupt source is an edge source (R591, "by source"). (DESIGN CHOICE: log 79.) -/
opaque aicEdge : Nat → Bool

/-- The handle number of the first object of the pair that a tray's broadcast names at its member dies, by JobTag, and
that a die's mirror names at its tray: the spec does not say how either learns it (R274, R276). (DESIGN CHOICE: log 46.) -/
opaque memberPair : Nat → Nat
opaque trayPair : Nat → Nat
/-- The members of a group besides the die itself, as a die's local gate counts them in TARGET (R276). (DESIGN CHOICE: log 46.) -/
opaque otherMembers : Nat → Nat
/-- A baseline mean or deviation that 64 bits do not hold (R231), and a drift score with a deviation and floor of 0. (DESIGN CHOICE: log 19.) -/
opaque baselineOverflow : Int → Nat
opaque driftZero : Nat → Nat
/-- The lateness of a child without an eligible stamp (R237), and its bits beyond 32 or a comparison of stamps half the
range apart. (DESIGN CHOICE: log 42.) -/
opaque latenessOpen : Nat → Nat

/-- The interrupt by which a sync object of a DDU interrupts firmware core 0 or 1 (R268). (DESIGN CHOICE: log 47.) -/
opaque dduSyncIrq : Nat → Nat

/-- The blocks into which the Snoop DMA cuts bytes and the tokens of each, a literal as (0, byte) and a match as (length, distance): the
blocks and matches that an encoder takes are its own (R390). (DESIGN CHOICE: log 64.) -/
opaque deflateTokens : List Nat → List (List (Nat × Nat))

/-- What a number of operations of a class adds to its performance counter: events 768 to 855 have no stated unit (R112). (DESIGN CHOICE: log 55.) -/
opaque gridOps : Nat → Nat → Nat

/-- The ratio k of R562 in 1/4,096 where 16 bits do not hold it, from the two sums. (DESIGN CHOICE: log 75.) -/
opaque railK : Nat → Nat → Nat
/-- STATIC and COEF of a rail as the die ledger gives them back (R562). (DESIGN CHOICE: log 75.) -/
opaque ledgerStatic : Nat → Nat
opaque ledgerCoef : Nat → Nat
/-- AVG_W of a phase entry after a window, from the value before and the power used: the spec gives no rule (R552). (DESIGN CHOICE: log 75.) -/
opaque phaseAvg : Nat → Nat → Nat
/-- TBIN of a unit while the die has no valid thermal channel (R405). (DESIGN CHOICE: log 57.) -/
opaque tbinOpen : Nat → Nat

/-- TYPE, CODE and payload of the class 0 events that the spec orders without naming their record, by notice and arguments: 0 the loss of the
store (R507), 1 a full store (R516), 2 silent members (R397). (DESIGN CHOICE: log 17.) -/
opaque noticeType : Nat → Nat
opaque noticeCode : Nat → Nat
opaque noticePayload : Nat → List Nat → List Nat

/-- The ES384 signature over bytes with the sentinel's signing key, and that key's identifier (R416). (DESIGN CHOICE: log 61.) -/
opaque es384 : List Nat → List Nat
opaque signKid : Nat
/-- The temperature of a die's unit in 1/64 degree at a time, as a signature's key 15 states it (R417): the spec does not say how the tray
learns it. (DESIGN CHOICE: log 60.) -/
opaque unitTemp : Nat → Nat → Nat → Int
/-- The condition cell in which a die runs at a time, as HISTORY word 5 takes it (R513): the spec does not say how the tray learns it. (DESIGN CHOICE: log 60.) -/
opaque dieCell : Nat → Nat → Nat
/-- The identity of a tray's Breakwater node (R480): the spec gives no command that names it to the tray. (DESIGN CHOICE: log 68.) -/
opaque bwNode : Nat

/-- DIE_SERIAL and the other bytes of IDENT (R491): MRAM written in MANUFACTURE. (DESIGN CHOICE: log 72.) -/
opaque dieSerial : Nat
opaque dieIdent : Nat → Nat
/-- TYPE, CODE and payload of a die ledger journal record (R494) for the change that follows `n` bytes of journal: the spec gives no layout. (DESIGN CHOICE: log 17.) -/
opaque journalType : Nat → Nat
opaque journalCode : Nat → Nat
opaque journalPayload : Nat → List Nat
/-- The MRAM byte at an address of a half that is not valid, and of a half in a format other than 1 (R491, R524): neither is given. (DESIGN CHOICE: log 71.) -/
opaque mramOpen : Nat → Nat
opaque oldFormatByte : Nat → Nat → Nat
/-- EPOCH (low 32 bits) and JOBTAG (above them) of a failure slot created for a die that moved in, by serial, unit, cell and slot: R521 states
only its LTIME. (DESIGN CHOICE: log 72.) -/
opaque importSlot : Nat → Nat → Nat → Nat → Nat
/-- The record of a change to a history table to which the spec gives no record layout (R508): by table and JSEQ. (DESIGN CHOICE: log 17.) -/
opaque tableType : Nat → Nat
opaque tableCode : Nat → Nat
opaque tablePayload : Nat → Nat → List Nat
/-- The blocks of a checkpoint chain, and each block's bytes (R517, R530): the layout of table data is not given. (DESIGN CHOICE: log 87.) -/
opaque ckptMore : Nat → Nat
opaque ckptData : Nat → Nat → List Nat

/-- The floors that a tray writes into DDU_PWR_EXT while a directed test runs on a die (R560), by die and time: the spec gives no values. (DESIGN CHOICE: log 76.) -/
opaque extFloor : Nat → Nat → Nat

/-- DDU_LNK_FB_PEER of a member die as the tray's firmware holds it for the manifest, by die and entry (R428). (DESIGN CHOICE: log 65.) -/
opaque diePeer : Nat → Nat → Nat
/-- Whether a member die's DDU_SEC_RETAINED holds a CUT_ID, as the tray reads it when a RESTORE comes as a fan-out (R442). (DESIGN CHOICE: log 67.) -/
opaque dieRetains : Nat → Nat → Bool
/-- The identity of the tray at a ring position that is not a neighbour (R431): the spec gives a tray no table of its ring. (DESIGN CHOICE: log 67.) -/
opaque ringNode : Nat → Nat
/-- The address at which a tray stages a tensor of a die (R441), and the bytes moved in a pass as its root reports them (R436). (DESIGN CHOICE: log 84.) -/
opaque stageAddr : Nat → Nat → Nat → Nat
opaque passBytes : Nat → Nat → Nat
/-- Whether a share is among those that an HBM fault loses (R435), by channel and share. (DESIGN CHOICE: log 67.) -/
opaque shareLost : Nat → Nat → Bool
/-- Whether the replay window of a grid context lies in an HBM pseudo-channel (R473), by channel and context. (DESIGN CHOICE: log 67.) -/
opaque windowLost : Nat → Nat → Bool
/-- The DEFLATE stream of one container block by OP and bytes, as far as it is not stored (R446): an encoder takes its own matches. (DESIGN CHOICE: log 64.) -/
opaque deflateOp : Nat → List Nat → List Nat

/-- The HBM pseudo-channel, 0 to 255, that holds an address, and the JobTag to which memory outside every grant belongs (R634, R660): the
spec gives neither map. (DESIGN CHOICE: log 92.) -/
opaque hbmChannel : Nat → Nat
opaque memoryOwner : Nat → Nat
/-- Where firmware places a staged object, by STAGE_ID and length (R615). (DESIGN CHOICE: log 84.) -/
opaque objectAddr : Nat → Nat → Nat
/-- The bytes of GET_INFO's response (R619): identity, role, lifecycle, firmware version, MAJOR and MINOR, in a layout that the spec does
not give. (DESIGN CHOICE: log 84.) -/
opaque infoData : Nat → Nat → Nat → Nat → Nat → Nat → List Nat
/-- Whether byte 0 of USCH_SET names an uplink port and not a job slot, by that byte and the image (R619). (DESIGN CHOICE: log 44.) -/
opaque uschPort : Nat → Nat → Bool
/-- Whether a RESET_N pulse of a width between 100 ns and 1 µs resets (R677). (DESIGN CHOICE: log 94.) -/
opaque resetPulse : Nat → Bool

/-- Whether a stored record other than a ledger record with a serial belongs to a ledger export's scope (R527), by the record's bytes, the scope's
serial and unit; and the checkpoint records that an export selects, by the checkpoint's JSEQ and the scope (R517, R528). (DESIGN CHOICE: log 87.) -/
opaque exportSelects : List Nat → Nat → Nat → Bool
opaque exportCheckpoint : Nat → List Nat → List (List Nat)
/-- RETRY_HINT_US of a BUSY for which the spec gives no time (R597), by command and TIME_NS. (DESIGN CHOICE: log 84.) -/
opaque retryHint : Nat → Nat → Nat
/-- The status with which a DDU reports a request that host software has not completed (R620), or has completed with a failure. (DESIGN CHOICE: log 84.) -/
opaque notDone : Nat → Nat

/-- The byte that a recorder window or an event ring shows at a position that holds no record, by device and position (R142): the spec
states none. (PRESUMED: log 11.) -/
opaque ringByte : Nat → Nat → Nat
/-- The intensity with which DDU firmware begins to drive a campaign toward a cell, by handle and cell (R413): the spec states none. (DESIGN CHOICE: log 60.) -/
opaque pattern : Nat → Nat → Nat
/-- The cap in watts that DDU firmware sets in the power controller for a campaign, by handle and cell (R413): the spec states none. (DESIGN CHOICE: log 60.) -/
opaque campaignCap : Nat → Nat → Nat
/-- The host fabric address of a sibling's fallback ring, by the identity of the die (R204): the spec gives a die no list of them. (DESIGN CHOICE: log 92.) -/
opaque dieRing : Nat → Nat
/-- What the debug region of BAR0 holds (R660): the spec gives no layout. (DESIGN CHOICE: log 12.) -/
opaque debugWord : Nat → Nat

/-! Chapter 19: what fuses, keys and the boot flash hold, and the functions of the signature and key standards. -/

/-- The SHA-384 of an operator key slot by 4 x ROLE + SLOT, empty where it is not programmed, and whether it is revoked (R647). (DESIGN CHOICE: log 10.) -/
opaque keyHash : Nat → List Nat
opaque keyRevoked : Nat → Bool
/-- The Beygor slots 0 to 3 and the debug slot 4 as SHA-384, and whether each is valid and unrevoked (R650). (DESIGN CHOICE: log 10.) -/
opaque beygorHash : Nat → List Nat
opaque beygorValid : Nat → Bool
/-- The image in a boot flash slot by 2 x component + slot (R649). (DESIGN CHOICE: log 10.) -/
opaque bootImage : Nat → List Nat
/-- ES384 verification of a signature over bytes under a public key (R650, R659). (DESIGN CHOICE: log 61.) -/
opaque es384Ok : List Nat → List Nat → List Nat → Bool
/-- The digests that MR0, MR3 and MR4 are extended with where the spec does not give their encoding (R652). (DESIGN CHOICE: log 94.) -/
opaque romDigest : Nat → Nat → List Nat
opaque roleDigest : Nat → Nat → Nat → List Nat
opaque lifecycleDigest : Nat → Nat → List Nat → List Nat
/-- Certificates in DER by target and part, with the alias certificate by MR2 (R653, R656). (DESIGN CHOICE: log 61.) -/
opaque certificate : Nat → Nat → Nat → List Nat
/-- Whether bytes are an RMA token that Beygor signed (R646, R647): the spec gives no layout. (DESIGN CHOICE: log 93.) -/
opaque rmaToken : List Nat → Bool
/-- A fresh nonce (R657, R659). (DESIGN CHOICE: log 95.) -/
opaque nonce : Nat → List Nat

end Sys2Proof.Config
end

