-- ==== Sys2Proof/Machine/Inflate.lean ====
section
/-!
DEFINITION. Decoding a raw DEFLATE stream under RFC 1951: stored and fixed-Huffman blocks (R390, R391), and dynamic-Huffman blocks where they
are allowed (R446, R447).
-/

namespace Sys2Proof.Machine

/-- The bits of a byte string, the least significant bit of each byte first. -/
def bitsOf (l : List Nat) : List Bool := l.flatMap fun b => (List.range 8).map fun i => bit b i

/-- A number from bits, least significant first. -/
def lsbNat (l : List Bool) : Nat := l.foldr (fun b a => b2n b + 2 * a) 0

/-- A number from bits, most significant first. -/
def msbNat (l : List Bool) : Nat := l.foldl (fun a b => 2 * a + b2n b) 0

/-- Take `k` bits, least significant first. -/
def takeLsb (k : Nat) (l : List Bool) : Option (Nat × List Bool) :=
  if l.length < k then none else some (lsbNat (l.take k), l.drop k)

/-- A literal or length symbol of the fixed code. -/
def fixedSymbol (l : List Bool) : Option (Nat × List Bool) :=
  let v7 := msbNat (l.take 7)
  let v8 := msbNat (l.take 8)
  let v9 := msbNat (l.take 9)
  if l.length < 7 then none
  else if v7 ≤ 23 then some (256 + v7, l.drop 7)
  else if l.length < 8 then none
  else if 0x30 ≤ v8 && v8 ≤ 0xBF then some (v8 - 0x30, l.drop 8)
  else if 0xC0 ≤ v8 && v8 ≤ 0xC7 then some (280 + (v8 - 0xC0), l.drop 8)
  else if l.length < 9 then none
  else some (144 + (v9 - 0x190), l.drop 9)

/-- Base length and extra bits of a length symbol. -/
def lengthCode (s : Nat) : Option (Nat × Nat) :=
  if s < 257 || 285 < s then none
  else if s = 285 then some (258, 0)
  else if s < 265 then some (s - 254, 0)
  else
    let k := (s - 261) / 4
    some ((4 + (s - 265) % 4) * 2 ^ k + 3, k)

/-- Base distance and extra bits of a distance symbol. -/
def distanceCode (s : Nat) : Option (Nat × Nat) :=
  if 29 < s then none
  else if s < 4 then some (s + 1, 0)
  else
    let k := (s - 2) / 2
    some ((2 + s % 2) * 2 ^ k + 1, k)

/-- Copy `k` bytes from `d` back; `out` holds the output reversed. -/
def copyBack : Nat → Nat → List Nat → List Nat
  | 0, _, out => out
  | k + 1, d, out => copyBack k d (out.getD (d - 1) 0 :: out)

/-- One fixed-Huffman block. -/
def fixedBlock : Nat → List Bool → List Nat → Option (List Bool × List Nat)
  | 0, _, _ => none
  | fuel + 1, l, out =>
    match fixedSymbol l with
    | none => none
    | some (s, l) =>
      if s < 256 then fixedBlock fuel l (s :: out)
      else if s = 256 then some (l, out)
      else
        match lengthCode s with
        | none => none
        | some (base, k) =>
          match takeLsb k l with
          | none => none
          | some (ex, l) =>
            if l.length < 5 then none
            else
              match distanceCode (msbNat (l.take 5)) with
              | none => none
              | some (db, dk) =>
                match takeLsb dk (l.drop 5) with
                | none => none
                | some (dx, l) =>
                  if out.length < db + dx then none else fixedBlock fuel l (copyBack (base + ex) (db + dx) out)

/-- A symbol of a canonical Huffman code: `lens` the code length of each symbol, `k` the lengths still to try. -/
def huffSymbol (lens : List Nat) : Nat → Nat → Nat → Nat → Nat → List Bool → Option (Nat × List Bool)
  | 0, _, _, _, _, _ => none
  | _ + 1, _, _, _, _, [] => none
  | k + 1, len, code, first, index, b :: t =>
    let code := 2 * code + b2n b
    let syms := (List.range lens.length).filter fun s => lens.getD s 0 == len
    if code < first + syms.length then (if first ≤ code then some (syms.getD (code - first) 0, t) else none)
    else huffSymbol lens k (len + 1) code (2 * (first + syms.length)) (index + syms.length) t

/-- A symbol of a code with lengths up to 15. -/
def huff (lens : List Nat) (l : List Bool) : Option (Nat × List Bool) := huffSymbol lens 15 1 0 0 0 l

/-- A block with given codes for literals and lengths, and for distances. -/
def huffBlock (lit dist : List Nat) : Nat → List Bool → List Nat → Option (List Bool × List Nat)
  | 0, _, _ => none
  | fuel + 1, l, out =>
    match huff lit l with
    | none => none
    | some (s, l) =>
      if s < 256 then huffBlock lit dist fuel l (s :: out)
      else if s = 256 then some (l, out)
      else
        match lengthCode s with
        | none => none
        | some (base, k) =>
          match takeLsb k l with
          | none => none
          | some (ex, l) =>
            match huff dist l with
            | none => none
            | some (ds, l) =>
              match distanceCode ds with
              | none => none
              | some (db, dk) =>
                match takeLsb dk l with
                | none => none
                | some (dx, l) =>
                  if out.length < db + dx then none else huffBlock lit dist fuel l (copyBack (base + ex) (db + dx) out)

/-- The code lengths of a dynamic block, `want` of them, from the code of code lengths. -/
def codeLengths (cl : List Nat) : Nat → Nat → List Bool → List Nat → Option (List Nat × List Bool)
  | 0, _, _, _ => none
  | fuel + 1, want, l, acc =>
    if want ≤ acc.length then (if acc.length = want then some (acc, l) else none)
    else
      match huff cl l with
      | none => none
      | some (s, l) =>
        if s < 16 then codeLengths cl fuel want l (acc ++ [s])
        else
          let k := if s = 16 then 2 else if s = 17 then 3 else 7
          let base := if s = 18 then 11 else 3
          if s = 16 && acc.isEmpty then none
          else match takeLsb k l with
            | none => none
            | some (r, l) => codeLengths cl fuel want l (acc ++ List.replicate (base + r) (if s = 16 then acc.getLastD 0 else 0))

/-- A dynamic-Huffman block. -/
def dynamicBlock (fuel : Nat) (l : List Bool) (out : List Nat) : Option (List Bool × List Nat) :=
  match takeLsb 5 l with
  | none => none
  | some (hlit, l) =>
    match takeLsb 5 l with
    | none => none
    | some (hdist, l) =>
      match takeLsb 4 l with
      | none => none
      | some (hclen, l) =>
        if l.length < 3 * (hclen + 4) || 29 < hlit then none
        else
          let order := [16, 17, 18, 0, 8, 7, 9, 6, 10, 5, 11, 4, 12, 3, 13, 2, 14, 1, 15]
          let given := (List.range (hclen + 4)).map fun i => (order.getD i 0, lsbNat ((l.drop (3 * i)).take 3))
          let cl := (List.range 19).map fun s => lookupD given s 0
          match codeLengths cl fuel (hlit + 257 + hdist + 1) (l.drop (3 * (hclen + 4))) [] with
          | none => none
          | some (ls, l) => huffBlock (ls.take (hlit + 257)) (ls.drop (hlit + 257)) fuel l out

/-- The blocks of a stream; `n` is the number of bits of the stream, `dyn` allows dynamic blocks.  The bits left over, and the output
reversed. -/
def inflateBlocks (dyn : Bool) : Nat → Nat → List Bool → List Nat → Option (List Bool × List Nat)
  | 0, _, _, _ => none
  | fuel + 1, n, l, out =>
    match takeLsb 1 l with
    | none => none
    | some (final, l) =>
      match takeLsb 2 l with
      | none => none
      | some (typ, l) =>
        let r := match typ with
          | 0 =>
            let l := l.drop ((n - l.length + 7) / 8 * 8 - (n - l.length))
            match takeLsb 16 l with
            | none => none
            | some (len, l) =>
              match takeLsb 16 l with
              | none => none
              | some (nlen, l) =>
                if len + nlen ≠ 65535 || l.length < 8 * len then none
                else some (l.drop (8 * len), ((List.range len).map fun i => lsbNat ((l.drop (8 * i)).take 8)).reverse ++ out)
          | 1 => fixedBlock fuel l out
          | 2 => if dyn then dynamicBlock fuel l out else none
          | _ => none
        match r with
        | none => none
        | some (l, out) => if final = 1 then some (l, out) else inflateBlocks dyn fuel n l out

/-- The bytes that a stream inflates to; none when it does not decode or when whole bytes follow its end (R391). (DESIGN CHOICE: log 64.) -/
def inflate (s : List Nat) (dyn : Bool := false) : Option (List Nat) :=
  let l := bitsOf s
  match inflateBlocks dyn (l.length + 2) l.length l [] with
  | some (rest, out) => if rest.length < 8 then some out.reverse else none
  | none => none

/-! ## Encoding (R390) -/

/-- The bits of a number, least significant first, and most significant first. -/
def lsbBits (k v : Nat) : List Bool := (List.range k).map fun i => bit v i
def msbBits (k v : Nat) : List Bool := (lsbBits k v).reverse

/-- A literal or length symbol of the fixed code, as bits. -/
def fixedBits (s : Nat) : List Bool :=
  if s < 144 then msbBits 8 (0x30 + s) else if s < 256 then msbBits 9 (0x190 + (s - 144)) else if s < 280 then msbBits 7 (s - 256)
  else msbBits 8 (0xC0 + (s - 280))

/-- The last of some symbols whose base is not above a value: the symbol, its base and its extra bits. -/
def symbolFor (code : Nat → Option (Nat × Nat)) (syms : List Nat) (v : Nat) : Nat × Nat × Nat :=
  syms.foldl (fun best s => match code s with
    | some (base, k) => if base ≤ v then (s, base, k) else best
    | none => best) (0, 0, 0)

/-- A token of a block: a literal `(0, byte)`, or a match `(length, distance)`; its bits in a fixed-Huffman block. -/
def tokenBits (t : Nat × Nat) : List Bool :=
  if t.1 = 0 then fixedBits t.2
  else
    let (s, b, k) := symbolFor lengthCode ((List.range 29).map fun i => 257 + i) t.1
    let (ds, db, dk) := symbolFor distanceCode (List.range 30) t.2
    fixedBits s ++ lsbBits k (t.1 - b) ++ msbBits 5 ds ++ lsbBits dk (t.2 - db)

/-- What a block's tokens add to the output, which is held reversed; none for a token that RFC 1951 does not allow there. -/
def expandTokens (ts : List (Nat × Nat)) (out : List Nat) : Option (List Nat) :=
  ts.foldl (fun o t => match o with
    | none => none
    | some out =>
      if t.1 = 0 then (if t.2 < 256 then some (t.2 :: out) else none)
      else if 3 ≤ t.1 && t.1 ≤ 258 && 1 ≤ t.2 && t.2 ≤ 32768 && t.2 ≤ out.length then some (copyBack t.1 t.2 out) else none) (some out)

/-- Blocks of tokens with what each covers: none unless together they cover `data`, each at least one byte and at most 65,535. -/
def coverBlocks : List (List (Nat × Nat)) → List Nat → List Nat → Option (List (List (Nat × Nat) × List Nat))
  | [], out, data => if out.reverse = data then some [] else none
  | ts :: rest, out, data =>
    match expandTokens ts out with
    | none => none
    | some out' =>
      let k := out'.length - out.length
      if k = 0 || 65535 < k then none
      else match coverBlocks rest out' data with
        | none => none
        | some l => some ((ts, (out'.take k).reverse) :: l)

/-- Blocks of at most 65,535 literals; a data of no bytes is one empty block. -/
def literalBlocks (data : List Nat) : List (List (Nat × Nat) × List Nat) :=
  (List.range (max 1 ((data.length + 65534) / 65535))).map fun i =>
    let part := (data.drop (65535 * i)).take 65535
    (part.map fun b => (0, b), part)

/-- One block after `pos` bits of the stream: fixed-Huffman or stored, whichever is shorter. -/
def blockBits (final : Bool) (pos : Nat) (b : List (Nat × Nat) × List Nat) : List Bool :=
  let fixed := final :: true :: false :: (b.1.flatMap tokenBits ++ fixedBits 256)
  let pad := (8 - (pos + 3) % 8) % 8
  let stored := final :: false :: false :: (List.replicate pad false ++ lsbBits 16 b.2.length ++ lsbBits 16 (65535 - b.2.length) ++ bitsOf b.2)
  if stored.length < fixed.length then stored else fixed

/-- The blocks one after another; the last sets BFINAL. -/
def blocksBits : List (List (Nat × Nat) × List Nat) → Nat → List Bool
  | [], _ => []
  | b :: rest, pos =>
    let l := blockBits rest.isEmpty pos b
    l ++ blocksBits rest (pos + l.length)

/-- Bytes from bits, the last byte filled with zeros. -/
def bytesOfBits (l : List Bool) : List Nat := (List.range ((l.length + 7) / 8)).map fun i => lsbNat ((l.drop (8 * i)).take 8)

/-- The stream of `data` with the blocks and matches given, or with literals where they do not cover it. -/
def deflateWith (ts : List (List (Nat × Nat))) (data : List Nat) : List Nat :=
  bytesOfBits (blocksBits ((if ts.isEmpty then none else coverBlocks ts [] data).getD (literalBlocks data)) 0)

/-- The raw DEFLATE stream of a section (R390): the blocks and the matches are the encoder's own. (DESIGN CHOICE: log 64.) -/
def deflate (data : List Nat) : List Nat := deflateWith (Config.deflateTokens data) data

end Sys2Proof.Machine
end

