-- ==== Sys2Proof/Machine/Reg.lean ====
section
/-!
DEFINITION. Registers: their definitions (offset, width, access code of R8) and the register file, which holds the
registers that have been written since their reset.
-/

namespace Sys2Proof.Machine

/-- One row of a register table: `off + stride * i` for `i < count`, `width` bits.  `wm` are the bits that a write
sets (RW), `w1c` and `w1s` those that a written 1 clears or sets (R8); `rc` says that a read clears the register;
`rst i` is the reset value of instance `i`.  Bits outside all masks are RO or reserved: a write leaves them (R9). (DESIGN CHOICE: log 6.) -/
structure RegDef where
  off : Nat
  stride : Nat := 0
  count : Nat := 1
  width : Nat := 32
  wm : Nat := 0
  w1c : Nat := 0
  w1s : Nat := 0
  rc : Bool := false
  rst : Nat → Nat := fun _ => 0

/-- All ones in `w` bits. -/
def ones (w : Nat) : Nat := 2 ^ w - 1

/-- The register file: (address, value), addresses strictly rising; an address that is not listed holds its reset
value. -/
abbrev RegFile := List (Nat × Nat)

/-- The addresses rise strictly. -/
def RegFile.wf : RegFile → Bool
  | [] => true
  | [_] => true
  | (a, _) :: (b, v) :: t => a < b && RegFile.wf ((b, v) :: t)

/-- The listed value at `a`. -/
def RegFile.get? : RegFile → Nat → Option Nat
  | [], _ => none
  | (b, v) :: t, a => if a = b then some v else if a < b then none else RegFile.get? t a

/-- List `v` at `a`, keeping the order. -/
def RegFile.put : RegFile → Nat → Nat → RegFile
  | [], a, v => [(a, v)]
  | (b, w) :: t, a, v => if a < b then (a, v) :: (b, w) :: t else if a = b then (a, v) :: t else (b, w) :: RegFile.put t a v

/-- Every register from address `lo` up to `hi` (not included) back at its reset value. -/
def RegFile.resetRange (f : RegFile) (lo hi : Nat) : RegFile := f.filter fun p => p.1 < lo || hi ≤ p.1

/-- The address of instance `i`. -/
def RegDef.addr (r : RegDef) (i : Nat) : Nat := r.off + r.stride * i

/-- The value of instance `i` of `r`. (DESIGN CHOICE: log 6.) -/
def RegFile.rd (f : RegFile) (r : RegDef) (i : Nat) : Nat := (f.get? (r.addr i)).getD (r.rst i)

/-- `f` with instance `i` of `r` holding `v`, cut to the register's width. -/
def RegFile.wr (f : RegFile) (r : RegDef) (i v : Nat) : RegFile := f.put (r.addr i) (v % 2 ^ r.width)

/-- A write by software of `v` under the access codes of R8 and R9, restricted to the bits `m` that the access
covers. -/
def RegDef.written (r : RegDef) (m old v : Nat) : Nat :=
  let w := m &&& r.wm
  let kept := old - (old &&& w)
  let a := kept ||| (v &&& w)
  let c := v &&& m &&& r.w1c
  let b := a - (a &&& c)
  b ||| (v &&& m &&& r.w1s)

end Sys2Proof.Machine
end

