-- ==== Sys2Proof/Machine/Regs.lean ====
section
/-!
DEFINITION. The registers of the DDU's 1 MiB window and of the sentinel's BAR0, each with its offset, width, access
code and reset value as the register tables of the spec give them.  An offset is the one in its device's own window.
-/

namespace Sys2Proof.Machine

/-- Base of the event recorder block (R150). -/
def recBase : Dev → Nat | .ddu => 0x30000 | .abl => 0x00C00000
/-- Base of the Time Unit block (R180). -/
def timeBase : Dev → Nat | .ddu => 0x50000 | .abl => 0x00400000
/-- Base of the link port block (R207). -/
def lnkBase : Dev → Nat | .ddu => 0x80000 | .abl => 0x00500000
/-- Base of the interrupt controller block (R591). -/
def aicBase : Dev → Nat | .ddu => 0xB0000 | .abl => 0x00200000

/-- The lifecycle code that fuses give (R644, R645): 0 MANUFACTURE, 1 SECURED, 3 RMA, 4 DECOMMISSIONED. -/
def fuseCode (k : Nat) : Nat := match k % 4 with | 0 => 0 | 1 => 1 | 2 => 3 | _ => 4

/-- Assemble a FLT_CFG value: REACTION, SEV_N and WINDOW_MS (R488). -/
def fltCfg (reaction sevN windowMs : Nat) : Nat := reaction * 2 ^ 30 + sevN * 2 ^ 16 + windowMs

/-- Default severity configuration of a sentinel source (R462). -/
def ablFltCfg (s : Nat) : Nat :=
  if s ≤ 255 then fltCfg 1 3 60000
  else if s ≤ 271 then fltCfg 1 16 1000
  else if s ≤ 295 then fltCfg 0 0 0
  else if s ≤ 551 then fltCfg 0 64 1000
  else if s ≤ 553 then fltCfg 0 8 60000
  else if s ≤ 559 then fltCfg 3 2 60000
  else if s ≤ 623 then fltCfg 0 0 0
  else if s ≤ 627 then fltCfg 3 64 1000
  else if s ≤ 639 then 0
  else if s ≤ 654 then fltCfg 2 3 60000
  else 0

/-- Default severity configuration of a DDU unit (R463). -/
def dduFltCfg (u : Nat) : Nat :=
  if u ≤ 495 then fltCfg 1 8 60000
  else if u = 500 || u = 504 then fltCfg 3 3 60000
  else if u ≤ 507 then fltCfg 2 3 60000
  else 0

/-- Cores of a device's firmware complex, and its first private ID (R571, R588). -/
def aicCores : Dev → Nat | .ddu => 2 | .abl => 6
def aicShared : Dev → Nat | .ddu => 224 | .abl => 992

/-- Reset target of a shared source of the sentinel (R579).  The DDU's sources, and those that are never asserted, have
core 0: the spec names none. -/
def aicTarget (d : Dev) (i : Nat) : Nat :=
  if d = .ddu then 0
  else if i < 25 then 0 else if i < 49 then 5 else if i < 81 then 4 else if i < 89 then 2 else if i < 95 then i - 89
  else if i < 97 then 2 else if i < 106 then 3 else if i < 113 then 1 else if i < 129 then 2 else if i < 145 then 0
  else if i < 161 then 5 else 0

/-- Reset value of ABL_AIC_CFGi (R579, R591). -/
def aicCfg (d : Dev) (i : Nat) : Nat :=
  if i = 0 then 0 else (if Config.aicEdge (if d = .ddu then 1024 + i else i) then 2 ^ 30 else 0) + aicTarget d i * 2 ^ 16 + 7

/-- Reset value of ABL_AIC_PCFGn_k (R578, R591). -/
def aicPcfg (k : Nat) : Nat :=
  let prio : Nat := match k with | 0 => 14 | 1 => 12 | 2 => 14 | 3 => 3 | 4 => 15 | 5 => 13 | 6 => 11 | 7 => 9 | 8 => 5 | _ => if 16 ≤ k && k < 24 then 7 else 0
  let edge : Bool := k < 5 || (16 ≤ k && k < 24)
  prio + (if edge then 2 ^ 30 else 0) + (if k = 4 then 2 ^ 31 else 0)

/-- ABL_AIC_PCFGn_k of core n (R590). -/
def Reg.AIC_PCFG (d : Dev) (n : Nat) : RegDef :=
  { off := aicBase d + 0x4080 + 0x400 * n, stride := 4, count := 32, wm := 0x8000000F, rst := aicPcfg }

/-! Chapter 02: the boundary. -/

/-- R66, part and revision. -/
def Reg.DDU_ID : RegDef := { off := 0x00000, rst := fun _ => 0xD0D10000 + Config.dduRevision % 65536 }
/-- R67, [31] VALID, [16:0] DIE_INDEX. -/
def Reg.DDU_DIE_INDEX : RegDef := { off := 0x00004 }
/-- R68. -/
def Reg.DDU_STATUS : RegDef := { off := 0x00008, rst := fun _ => 0x31 + fuseCode Config.dduLifecycle * 256 }
/-- R69, [16] FAST_HOLD, [15:0] FAST_IDLE_US. -/
def Reg.DDU_CTRL : RegDef := { off := 0x0000C, wm := 0x1FFFF, rst := fun _ => 1000 }
/-- R70, R72. -/
def Reg.DDU_SUBRESET : RegDef := { off := 0x00010, w1s := 0x7FF }
/-- R70, R72. -/
def Reg.DDU_SUBRESET_MODE : RegDef := { off := 0x00014, wm := 0x7FF }
/-- R72. -/
def Reg.DDU_SUBRESET_DONE : RegDef := { off := 0x00018, w1c := 0x7FF }
/-- R63. -/
def Reg.DDU_HOST_IRQ_STATUS : RegDef := { off := 0x00020, w1c := 0xFF }
/-- R63. -/
def Reg.DDU_HOST_IRQ_ENABLE : RegDef := { off := 0x00024, wm := 0xFF }
/-- R55, [26:16] high-water mark, [10:0] occupancy. -/
def Reg.DDU_CHK_FIFO : RegDef := { off := 0x00030 }
/-- R55. -/
def Reg.DDU_CHK_STALL : RegDef := { off := 0x00034, rc := true }
/-- R57. -/
def Reg.DDU_SNOOP_WIN_BASE : RegDef := { off := 0x00040, stride := 16, count := 8, width := 64, wm := 0xFFFFFFFFFFFFF000 }
/-- R57. -/
def Reg.DDU_SNOOP_WIN_SIZE : RegDef := { off := 0x00048, stride := 16, count := 8, width := 64, wm := 0xFFFFFFFFFFFFF000 }
/-- R127. -/
def Reg.DDU_SPILL_BASE : RegDef := { off := 0x000C0, width := 64, wm := 0xFFFFFFFFFFFFF000 }
/-- R127. -/
def Reg.DDU_SPILL_SIZE : RegDef := { off := 0x000C8, width := 64, wm := 0xFFFFFFFFFFFFFFFF }
/-- R58. -/
def Reg.DDU_FABRIC_RATE : RegDef := { off := 0x000D0, wm := 0xFFFF, rst := fun _ => 12000 }
/-- R57. -/
def Reg.DDU_FABRIC_VIOLATION : RegDef := { off := 0x000D4, rc := true }
/-- R64. -/
def Reg.DDU_ACCESS_DENIED : RegDef := { off := 0x000D8, rc := true }

/-! Chapter 03: counters and sensors. -/

/-- R88, [47:0] value. -/
def Reg.DDU_CNT : RegDef := { off := 0x10000, stride := 8, count := 4096, width := 64 }
/-- R89. -/
def Reg.DDU_CNT_SEL : RegDef := { off := 0x18000, stride := 4, count := 4096, rst := fun n => if n ≤ 87 then 0x8000 + n else n % 4096 }
/-- R83. -/
def Reg.DDU_CNT_OVF : RegDef := { off := 0x1C000, stride := 4, count := 128, w1c := 0xFFFFFFFF }
/-- R83. -/
def Reg.DDU_CNT_CHAINED : RegDef := { off := 0x1C200, stride := 4, count := 64 }
/-- R85. -/
def Reg.DDU_CNT_HI_LATCH : RegDef := { off := 0x1C300, width := 64 }
/-- R86 (write only). -/
def Reg.DDU_CNT_CLEAR : RegDef := { off := 0x1C308 }
/-- R87, [1] EXPIRED, [0] FREEZE. -/
def Reg.DDU_CNT_FREEZE : RegDef := { off := 0x1C30C, w1c := 2 }
/-- R91. -/
def Reg.DDU_CNT_WITHHELD : RegDef := { off := 0x1C310, rc := true }
/-- R50, R80. -/
def Reg.DDU_HOST_EVENT_DROP : RegDef := { off := 0x1C318, rc := true }
/-- R92, [63:32] PROF_JOBTAG, [0] PROF_EN. -/
def Reg.DDU_PROF_CTRL : RegDef := { off := 0x1C320, width := 64 }
/-- R82. -/
def Reg.DDU_CLASS_TOTAL : RegDef := { off := 0x1C340, stride := 8, count := 8, width := 64 }
/-- R101. -/
def Reg.DDU_BW_CFG : RegDef := { off := 0x1C400, stride := 32, count := 32, width := 64 }
/-- R102. -/
def Reg.DDU_BW_LAST : RegDef := { off := 0x1C408, stride := 32, count := 32, width := 64 }
/-- R102. -/
def Reg.DDU_BW_PEAK : RegDef := { off := 0x1C410, stride := 32, count := 32, width := 64, rc := true }
/-- R94, [31] VALID, [11:0] counter. -/
def Reg.DDU_SNAP_SEL : RegDef := { off := 0x1C800, stride := 4, count := 64, wm := 0x80000FFF }
/-- R97. -/
def Reg.DDU_SNAP_OPEN : RegDef := { off := 0x1C900, width := 64 }
/-- R97. -/
def Reg.DDU_SNAP_CTRL : RegDef := { off := 0x1C908, wm := 1 }
/-- R110. -/
def Reg.DDU_SNS_CFG : RegDef := { off := 0x20000, stride := 32, count := 152, wm := 0xCFFFFFFF, rst := fun c => if 112 ≤ c ∧ c ≤ 127 then 50 else 5000 }
/-- R109, [31] RETIRED, [30] STALE, [29] SATURATED, [15:0] SEQ. -/
def Reg.DDU_SNS_STATE : RegDef := { off := 0x20004, stride := 32, count := 152 }
/-- R109, [31:16] filtered, [15:0] latest. -/
def Reg.DDU_SNS_VALUE : RegDef := { off := 0x20008, stride := 32, count := 152 }
/-- R109. -/
def Reg.DDU_SNS_MINMAX : RegDef := { off := 0x2000C, stride := 32, count := 152, rc := true }
/-- R109, [31:16] HIGH, [15:0] LOW. -/
def Reg.DDU_SNS_THRESH : RegDef := { off := 0x20010, stride := 32, count := 152, wm := 0xFFFFFFFF }
/-- R105, [31:16] GAIN, [15:0] OFFSET. -/
def Reg.DDU_SNS_CAL : RegDef := { off := 0x20014, stride := 32, count := 152, wm := 0xFFFFFFFF, rst := fun _ => 0x40000000 }
/-- R107. -/
def Reg.DDU_SNS_EVENTS : RegDef := { off := 0x20018, stride := 32, count := 152, rc := true }
/-- R116. -/
def Reg.ABL_PCNT : RegDef := { off := 0x00D00000, stride := 8, count := 1536, width := 64 }
/-- R116. -/
def Reg.ABL_PCNT_OVF : RegDef := { off := 0x00D04000, stride := 4, count := 48, w1c := 0xFFFFFFFF }
/-- R116. -/
def Reg.ABL_PCNT_CHAIN : RegDef := { off := 0x00D04100, stride := 4, count := 48, wm := 0xFFFFFFFF }
/-- R116. -/
def Reg.ABL_PCNT_HI_LATCH : RegDef := { off := 0x00D04200, width := 64 }
/-- R116 (write only). -/
def Reg.ABL_PCNT_CLEAR : RegDef := { off := 0x00D04208 }
/-- R115 (write only). -/
def Reg.ABL_PCNT_LATCH : RegDef := { off := 0x00D04210 }
/-- R114, [0] HOST_READ. -/
def Reg.ABL_PERF_CTRL : RegDef := { off := 0x00D04220 }
/-- R116. -/
def Reg.ABL_BW_CFG : RegDef := { off := 0x00D04400, stride := 32, count := 48, width := 64 }
/-- R116. -/
def Reg.ABL_BW_LAST : RegDef := { off := 0x00D04408, stride := 32, count := 48, width := 64 }
/-- R116. -/
def Reg.ABL_BW_PEAK : RegDef := { off := 0x00D04410, stride := 32, count := 48, width := 64, rc := true }
/-- R117, [20:16] DITHER, [10:0] EVENT. -/
def Reg.ABL_PSAMP_CTRL : RegDef := { off := 0x00D05000, wm := 0x1F07FF }
/-- R117. -/
def Reg.ABL_PSAMP_PERIOD : RegDef := { off := 0x00D05004, wm := 0xFFFFFFFF }
/-- R117. -/
def Reg.ABL_PSAMP_SCOPE : RegDef := { off := 0x00D05008, wm := 3 }
/-- R117. -/
def Reg.ABL_PSAMP_WRPTR : RegDef := { off := 0x00D05010 }
/-- R117. -/
def Reg.ABL_PSAMP_RDPTR : RegDef := { off := 0x00D05014, wm := 0xFFF }
/-- R117. -/
def Reg.ABL_PSAMP_LOST : RegDef := { off := 0x00D05018, rc := true }
/-- R115. -/
def Reg.ABL_PCNT_SHADOW : RegDef := { off := 0x00D08000, stride := 8, count := 1536, width := 64 }
/-- R118, 2,048 entries of 32 bytes. -/
def Reg.ABL_PSAMP_BUF : RegDef := { off := 0x00D10000, stride := 32, count := 2048, width := 256 }

/-! Chapter 04: trace and event records. -/

/-- R136. -/
def Reg.DDU_TRC_CTRL : RegDef := { off := 0x40000, rst := fun _ => 0x06003200 }
/-- R137, [6:4] RESUME, [2:0] STATE. -/
def Reg.DDU_TRC_STATE : RegDef := { off := 0x40004 }
/-- R135 (write only). -/
def Reg.DDU_TRC_CMD : RegDef := { off := 0x40008 }
/-- R138. -/
def Reg.DDU_TRC_TRIG_SRC : RegDef := { off := 0x4000C, wm := 0xFF00003F }
/-- R135, [50:48] core, [47:0] address. -/
def Reg.DDU_TRC_TRIG_PC : RegDef := { off := 0x40010, width := 64, wm := 0x7FFFFFFFFFFFF }
/-- R135, [31:28] KIND, [15:0] TAG. -/
def Reg.DDU_TRC_TRIG_MARK : RegDef := { off := 0x40018, wm := 0xF000FFFF }
/-- R126. -/
def Reg.DDU_TRC_POST_KIB : RegDef := { off := 0x4001C, wm := 0xFFFFFF, rst := fun _ => 2048 }
/-- R122. -/
def Reg.DDU_TRC_SYNC_US : RegDef := { off := 0x40020, wm := 0xFFFFF, rst := fun _ => 1000 }
/-- R135. -/
def Reg.DDU_TRC_TRIG_INFO : RegDef := { off := 0x40028, width := 64 }
/-- R135. -/
def Reg.DDU_TRC_STREAM_OFFSET : RegDef := { off := 0x40030, width := 64 }
/-- R127. -/
def Reg.DDU_TRC_SPILL_WR : RegDef := { off := 0x40038, width := 64 }
/-- R127. -/
def Reg.DDU_TRC_SPILL_RD : RegDef := { off := 0x40040, width := 64 }
/-- R129. -/
def Reg.DDU_TRC_SPILL_WMARK : RegDef := { off := 0x40048, wm := 0xFFFFFFFF }
/-- R124, R128. -/
def Reg.DDU_TRC_LOST : RegDef := { off := 0x4004C, rc := true }
/-- R130. -/
def Reg.DDU_TRC_TRIG_MISSED : RegDef := { off := 0x40050, rc := true }
/-- R134. -/
def Reg.DDU_TRC_READ_DENIED : RegDef := { off := 0x40054, rc := true }
/-- R134. -/
def Reg.DDU_TRC_APERTURE : RegDef := { off := 0x40058, wm := 0x7F }
/-- R141. -/
def Reg.REC_WR (d : Dev) : RegDef := { off := recBase d + 0x0000, width := 64 }
/-- R141. -/
def Reg.REC_OLDEST (d : Dev) : RegDef := { off := recBase d + 0x0008, width := 64 }
/-- R143. -/
def Reg.REC_RD (d : Dev) : RegDef := { off := recBase d + 0x0010, width := 64, wm := 0xFFFFFFFFFFFFFFFF }
/-- R142. -/
def Reg.REC_WIN_BASE (d : Dev) : RegDef := { off := recBase d + 0x0018, width := 64, wm := 0xFFFFFFFFFFFFFFF8 }
/-- R143, [1] EXPIRED, [0] FREEZE. -/
def Reg.REC_FREEZE (d : Dev) : RegDef := { off := recBase d + 0x0020, w1c := 2 }
/-- R143. -/
def Reg.REC_FREEZE_MAX_US (d : Dev) : RegDef := { off := recBase d + 0x0024, wm := 0xFFFFF, rst := fun _ => 10000 }
/-- R143. -/
def Reg.REC_DROPPED (d : Dev) : RegDef := { off := recBase d + 0x0028, rc := true }
/-- R149. -/
def Reg.REC_SUPPRESSED (d : Dev) : RegDef := { off := recBase d + 0x002C, rc := true }
/-- R150. -/
def Reg.REC_SIZE (d : Dev) : RegDef := { off := recBase d + 0x0030, rst := fun _ => match d with | .ddu => 262144 | .abl => 1048576 }
/-- R151. -/
def Reg.REC_RL (d : Dev) : RegDef := { off := recBase d + 0x4000, stride := 8, count := 4096, width := 64, wm := 0x80FFFFFFFFFFFFFF }

/-! Chapter 05: time. -/

/-- R152. -/
def Reg.TIME_NS (d : Dev) : RegDef := { off := timeBase d + 0x000 }
/-- R156. -/
def Reg.TIME_FRAC_LATCH (d : Dev) : RegDef := { off := timeBase d + 0x004 }
/-- R156. -/
def Reg.TIME_WRAP_LATCH (d : Dev) : RegDef := { off := timeBase d + 0x008 }
/-- R152. -/
def Reg.TIME_WRAP (d : Dev) : RegDef := { off := timeBase d + 0x00C }
/-- R181. -/
def Reg.TIME_INCR (d : Dev) : RegDef := { off := timeBase d + 0x010, width := 64, rst := fun _ => 0x1400000000 }
/-- R154. -/
def Reg.TIME_SLEW_INCR (d : Dev) : RegDef := { off := timeBase d + 0x018, width := 64, rst := fun _ => 0x1400000000 }
/-- R155. -/
def Reg.TIME_SLEW_TICKS (d : Dev) : RegDef := { off := timeBase d + 0x020 }
/-- R157. -/
def Reg.TIME_TIDE_BASE (d : Dev) : RegDef := { off := timeBase d + 0x024, wm := 0xFFFFFFFF }
/-- R159. -/
def Reg.TIME_LOAD_NS (d : Dev) : RegDef := { off := timeBase d + 0x028, wm := 0xFFFFFFFF }
/-- R159. -/
def Reg.TIME_LOAD_FRAC (d : Dev) : RegDef := { off := timeBase d + 0x02C, wm := 0xFFFFFFFF }
/-- R159 (write only). -/
def Reg.TIME_CMD (d : Dev) : RegDef := { off := timeBase d + 0x030 }
/-- R182. -/
def Reg.TIME_CTRL (d : Dev) : RegDef := { off := timeBase d + 0x034, wm := 0xF8FFFFFF, rst := fun _ => match d with | .ddu => 0x080A03E8 | .abl => 0x400A03E8 }
/-- R183. -/
def Reg.TIME_STATUS (d : Dev) : RegDef := { off := timeBase d + 0x038, rst := fun _ => match d with | .ddu => 0 | .abl => 0x40 }
/-- R163. -/
def Reg.TIME_OFFSET (d : Dev) : RegDef := { off := timeBase d + 0x03C }
/-- R163. -/
def Reg.TIME_DELAY (d : Dev) : RegDef := { off := timeBase d + 0x040 }
/-- R163. -/
def Reg.TIME_ASYM (d : Dev) : RegDef := { off := timeBase d + 0x044, wm := 0xFFFFFFFF }
/-- R154. -/
def Reg.TIME_REFUSED (d : Dev) : RegDef := { off := timeBase d + 0x048, rc := true }
/-- R180. -/
def Reg.TIME_MASTER (d : Dev) : RegDef := { off := timeBase d + 0x050, width := 64 }
/-- R176. -/
def Reg.ABL_PPS_NEXT : RegDef := { off := 0x00400100 }
/-- R176. -/
def Reg.ABL_PPS_WIDTH_US : RegDef := { off := 0x00400104, wm := 0x3FF }
/-- R178. -/
def Reg.ABL_PPS_IN_STAMP : RegDef := { off := 0x00400108 }
/-- R178. -/
def Reg.ABL_PPS_IN_WRAP : RegDef := { off := 0x0040010C }
/-- R172. -/
def Reg.ABL_LAUNCH_TARGET : RegDef := { off := 0x00400200, wm := 0xFFFFFFFF }
/-- R172. -/
def Reg.ABL_LAUNCH_PORTS : RegDef := { off := 0x00400204, wm := 0x3FFFFFF }
/-- R172. -/
def Reg.ABL_LAUNCH_FRAME : RegDef := { off := 0x00400208, wm := 0x8000FFFF }
/-- R180 (write only). -/
def Reg.ABL_LAUNCH_CMD : RegDef := { off := 0x0040020C }
/-- R174. -/
def Reg.ABL_LAUNCH_STATUS : RegDef := { off := 0x00400210 }
/-- R173. -/
def Reg.ABL_LAUNCH_LATE : RegDef := { off := 0x00400214, rc := true }
/-- R174. -/
def Reg.ABL_LAUNCH_DROPPED : RegDef := { off := 0x00400218, rc := true }
/-- R164. -/
def Reg.ABL_PTP_LAT : RegDef := { off := 0x00400300, stride := 16, count := 2, wm := 0xFFFFFFFF }

/-! Chapter 06: the link. -/

/-- R208, [31] EN, [30] FORCE_IDLE, [29] FB_EN. -/
def Reg.LNK_CTRL (d : Dev) : RegDef := { off := lnkBase d + 0x00, stride := match d with | .ddu => 0 | .abl => 0x1000, count := match d with | .ddu => 1 | .abl => 24, rst := fun _ => match d with | .ddu => 0xA0000000 | .abl => 0x80000000 }
/-- R209. -/
def Reg.LNK_STATUS (d : Dev) : RegDef := { off := lnkBase d + 0x04, stride := match d with | .ddu => 0 | .abl => 0x1000, count := match d with | .ddu => 1 | .abl => 24 }
/-- R207 (write only). -/
def Reg.LNK_CMD (d : Dev) : RegDef := { off := lnkBase d + 0x08, stride := match d with | .ddu => 0 | .abl => 0x1000, count := match d with | .ddu => 1 | .abl => 24 }
/-- R210. -/
def Reg.LNK_PEER (d : Dev) : RegDef := { off := lnkBase d + 0x10, stride := match d with | .ddu => 0 | .abl => 0x1000, count := match d with | .ddu => 1 | .abl => 24, width := 64, rst := fun _ => 0x8000000000000000 }
/-- R210. -/
def Reg.LNK_PEER_EXPECT (d : Dev) : RegDef := { off := lnkBase d + 0x18, stride := match d with | .ddu => 0 | .abl => 0x1000, count := match d with | .ddu => 1 | .abl => 24, width := 64, wm := 0x800000000FFFFFFF }
/-- R207. -/
def Reg.LNK_FAILS (d : Dev) : RegDef := { off := lnkBase d + 0x20, stride := match d with | .ddu => 0 | .abl => 0x1000, count := match d with | .ddu => 1 | .abl => 24 }
/-- R191. -/
def Reg.LNK_REPLAYS (d : Dev) : RegDef := { off := lnkBase d + 0x24, stride := match d with | .ddu => 0 | .abl => 0x1000, count := match d with | .ddu => 1 | .abl => 24, rc := true }
/-- R207. -/
def Reg.LNK_FEC_UNCORR (d : Dev) : RegDef := { off := lnkBase d + 0x28, stride := match d with | .ddu => 0 | .abl => 0x1000, count := match d with | .ddu => 1 | .abl => 24, rc := true }
/-- R190. -/
def Reg.LNK_EXPIRED (d : Dev) : RegDef := { off := lnkBase d + 0x2C, stride := match d with | .ddu => 0 | .abl => 0x1000, count := match d with | .ddu => 1 | .abl => 24, rc := true }
/-- R207. -/
def Reg.LNK_TRAIN_US (d : Dev) : RegDef := { off := lnkBase d + 0x30, stride := match d with | .ddu => 0 | .abl => 0x1000, count := match d with | .ddu => 1 | .abl => 24 }
/-- R163. -/
def Reg.LNK_DELAY (d : Dev) : RegDef := { off := lnkBase d + 0x34, stride := match d with | .ddu => 0 | .abl => 0x1000, count := match d with | .ddu => 1 | .abl => 24 }
/-- R203. -/
def Reg.DDU_LNK_FB_PEER : RegDef := { off := 0x80040, stride := 8, count := 3, width := 64, wm := 0xFFFFFFFFFFFFFFFF }
/-- R207. -/
def Reg.DDU_LNK_FB_STATUS : RegDef := { off := 0x80058 }

/-! Chapter 07: reduction. -/

/-- R216, [31] EN, [19:0] PERIOD_100US. -/
def Reg.DDU_SUM_CTRL : RegDef := { off := 0x1D000, wm := 0xFFFFF, rst := fun _ => 10 }
/-- R215. -/
def Reg.DDU_SUM_SENT : RegDef := { off := 0x1D004 }
/-- R215. -/
def Reg.DDU_SUM_SKIPPED : RegDef := { off := 0x1D008, rc := true }
/-- R217. -/
def Reg.DDU_SUM_ENT : RegDef := { off := 0x1D100, stride := 8, count := 240, width := 64, wm := 0xFFFF000000000FFF }
/-- R251. -/
def Reg.ABL_USCH_CTRL : RegDef := { off := 0x00700000, wm := 1, rst := fun _ => 1 }
/-- R250. -/
def Reg.ABL_USCH_SAMPLE_US : RegDef := { off := 0x00700004, wm := 0xFFFFF, rst := fun _ => 1000 }
/-- R252. -/
def Reg.ABL_USCH_JOB : RegDef := { off := 0x00700100, stride := 8, count := 64, width := 64, rst := fun s => if s = 0 then 0x8000400000000000 else if s = 63 then 0x8000100000000000 else 0x100000000000 }
/-- R253. -/
def Reg.ABL_USCH_PORT : RegDef := { off := 0x00700400, stride := 16, count := 8, width := 64, wm := 0xFFFFFFFF, rst := fun _ => 0x04020814 }
/-- R251. -/
def Reg.ABL_USCH_PSTAT : RegDef := { off := 0x00700408, stride := 16, count := 8, width := 64 }
/-- R249. -/
def Reg.ABL_USCH_QLIM : RegDef := { off := 0x00701000, stride := 4, count := 2048, wm := 0xFFFF, rst := fun _ => 64 }
/-- R250. -/
def Reg.ABL_USCH_QSAMP : RegDef := { off := 0x00704000, stride := 16, count := 2048, width := 64 }
/-- R250. -/
def Reg.ABL_USCH_QMAX : RegDef := { off := 0x00704008, stride := 16, count := 2048, width := 64, rc := true }
/-- R249. -/
def Reg.ABL_USCH_QDROP : RegDef := { off := 0x0070C000, stride := 4, count := 2048, rc := true }
/-- R254, [0] EN. -/
def Reg.ABL_RED_CTRL : RegDef := { off := 0x00600000, wm := 1, rst := fun _ => 1 }
/-- R254. -/
def Reg.ABL_RED_LOAD : RegDef := { off := 0x00600004 }
/-- R254. -/
def Reg.ABL_RED_CLOSE_US : RegDef := { off := 0x00600008, wm := 0xFFFF, rst := fun _ => match Config.nodeLevel with | 1 => 50 | 2 => 200 | 3 => 400 | _ => 600 }
/-- R254. -/
def Reg.ABL_RED_DEV_FLOOR : RegDef := { off := 0x0060000C, wm := 0xFFFFFFFF, rst := fun _ => 1 }
/-- R254. -/
def Reg.ABL_RED_REFUSED : RegDef := { off := 0x00600010, rc := true }
/-- R254. -/
def Reg.ABL_RED_LATE : RegDef := { off := 0x00600014, rc := true }
/-- R254. -/
def Reg.ABL_RED_EARLY : RegDef := { off := 0x00600018, rc := true }
/-- R254. -/
def Reg.ABL_RED_UNMATCHED : RegDef := { off := 0x0060001C, rc := true }
/-- R254, [6:0] LAST_MIN. -/
def Reg.ABL_RED_BAR_CFG : RegDef := { off := 0x00600020, rst := fun _ => 16 }
/-- R254. -/
def Reg.ABL_RED_BAR_LATE_NS : RegDef := { off := 0x00600024, wm := 0xFFFFFFFF, rst := fun _ => 100000 }
/-- R254. -/
def Reg.ABL_RED_BAR_TIMEOUT_US : RegDef := { off := 0x00600028, wm := 0xFFFFFFFF, rst := fun _ => 50000 * Config.nodeLevel }
/-- R254. -/
def Reg.ABL_RED_BAR_OVERRUN : RegDef := { off := 0x0060002C, rc := true }
/-- R254, [31:16] PENDING_US, [15:0] ACK_US. -/
def Reg.ABL_RED_FAN_CFG : RegDef := { off := 0x00600030, wm := 0xFFFFFFFF, rst := fun _ => 0x006400C8 }
/-- R254. -/
def Reg.ABL_RED_FAN_DEADLINE_US : RegDef := { off := 0x00600034, wm := 0xFFFFFFFF, rst := fun _ => 3000 }
/-- R254 (write only). -/
def Reg.ABL_RED_FAN_CMD : RegDef := { off := 0x00600038 }
/-- R244. -/
def Reg.ABL_RED_FAN_REFUSED : RegDef := { off := 0x0060003C, rc := true }
/-- R254. -/
def Reg.ABL_RED_FAN_STAT : RegDef := { off := 0x00600040, stride := 8, count := 4, width := 64 }
/-- R255. -/
def Reg.ABL_RED_CHILD : RegDef := { off := 0x00600100, stride := 16, count := 32, width := 128, wm := 0x800FFFFF000FFFFF000001FFFF01FFFF }
/-- R256. -/
def Reg.ABL_RED_MET : RegDef := { off := 0x00601000, stride := 16, count := 4096, width := 128, rst := fun _ => 6 * 2 ^ 119 + 16 * 2 ^ 111 + 4 * 2 ^ 107 }
/-- R254. -/
def Reg.ABL_RED_STRAG : RegDef := { off := 0x00620000, stride := 16, count := 2048, width := 128 }
/-- R233. -/
def Reg.ABL_RED_BASE : RegDef := { off := 0x00630000, stride := 16, count := 8192, width := 128 }
/-- R254. -/
def Reg.ABL_RED_FAN_BUF : RegDef := { off := 0x00650000, stride := 2048, count := 4, width := 16384, wm := ones 16384 - ones 48 * 2 ^ 144 }
/-- R244. -/
def Reg.ABL_RED_FAN_RESULT : RegDef := { off := 0x00652000, stride := 128, count := 4, width := 1024 }

/-! Chapter 08: jobs and sync objects. -/

/-- R689, [0] EN. -/
def Reg.ABL_SYNC_CTRL : RegDef := { off := 0x00B80000, wm := 1, rst := fun _ => 1 }
/-- R288, [13:0] FREE objects. -/
def Reg.ABL_SYNC_FREE : RegDef := { off := 0x00B80004, rst := fun _ => 8192 }
/-- R258. -/
def Reg.ABL_SYNC_STALE : RegDef := { off := 0x00B80008, rc := true }
/-- R288. -/
def Reg.ABL_SYNC_MISMATCH : RegDef := { off := 0x00B8000C, rc := true }
/-- R275. -/
def Reg.ABL_SYNC_GATE_ORDER : RegDef := { off := 0x00B80010, rc := true }
/-- R288. -/
def Reg.ABL_JOB_UNKNOWN : RegDef := { off := 0x00B80014, rc := true }
/-- R288. -/
def Reg.ABL_SYNC_OPD : RegDef := { off := 0x00B80100, stride := 32, count := 7, width := 64, wm := 0xFFFFFFFFFFFFFFFF }
/-- R288. -/
def Reg.ABL_SYNC_EPOCH : RegDef := { off := 0x00B80108, stride := 32, count := 7, wm := 0xFFFFFFFF }
/-- R288. -/
def Reg.ABL_SYNC_DEST : RegDef := { off := 0x00B8010C, stride := 32, count := 7, wm := 0x800FFFFF }
/-- R289 (write only). -/
def Reg.ABL_SYNC_OP : RegDef := { off := 0x00B80110, stride := 32, count := 7, width := 64 }
/-- R289. -/
def Reg.ABL_SYNC_STATUS : RegDef := { off := 0x00B80118, stride := 32, count := 7 }
/-- R290. -/
def Reg.ABL_JOB : RegDef := { off := 0x00B81000, stride := 16, count := 64, width := 128, rst := fun j => if j = 0 then 0x40000000000000000000000000000000 else 0 }
/-- R290. -/
def Reg.ABL_GROUP : RegDef := { off := 0x00B82000, stride := 32, count := 512, width := 256 }
/-- R265. -/
def Reg.ABL_RANKMAP : RegDef := { off := 0x00B88000, stride := 16, count := 1024, width := 128, wm := 0x803F00000003FFFF0001FFFF0001FFFF }
/-- R290. -/
def Reg.ABL_GROUP_EXP : RegDef := { off := 0x00BA0000, stride := 128, count := 512, width := 1024 }
/-- R291. -/
def Reg.DDU_JOB_TAG : RegDef := { off := 0xA7F00 }
/-- R291, [9] GATED, [8] PENDING valid, [2:0] state. -/
def Reg.DDU_JOB_STATE : RegDef := { off := 0xA7F04 }
/-- R291. -/
def Reg.DDU_JOB_RANK : RegDef := { off := 0xA7F08 }
/-- R291. -/
def Reg.DDU_JOB_PENDING : RegDef := { off := 0xA7F0C }
/-- R291. -/
def Reg.DDU_JOB_HOLD_MS : RegDef := { off := 0xA7F10, wm := 0xFFFF, rst := fun _ => 100 }
/-- R291. -/
def Reg.DDU_SYNC_STALE : RegDef := { off := 0xA7F14, rc := true }
/-- R291. -/
def Reg.DDU_SYNC_MISMATCH : RegDef := { off := 0xA7F18, rc := true }
/-- R291. -/
def Reg.DDU_SYNC_OPD : RegDef := { off := 0xA7F20, width := 64, wm := 0xFFFFFFFFFFFFFFFF }
/-- R291. -/
def Reg.DDU_SYNC_EPOCH : RegDef := { off := 0xA7F28, wm := 0xFFFFFFFF }
/-- R291 (write only). -/
def Reg.DDU_SYNC_OP : RegDef := { off := 0xA7F30, width := 64 }
/-- R291. -/
def Reg.DDU_SYNC_STATUS : RegDef := { off := 0xA7F38 }
/-- R291 (write only). -/
def Reg.DDU_FENCE : RegDef := { off := 0xA7F3C }
/-- R291. -/
def Reg.DDU_FENCE_STATUS : RegDef := { off := 0xA7F40 }
/-- R268. -/
def Reg.DDU_SYNC : RegDef := { off := 0xA8000, stride := 64, count := 512, width := 512 }

/-! Chapter 09: the Tree Engine. -/

/-- R324, [0] EN. -/
def Reg.ABL_TREE_CTRL : RegDef := { off := 0x00800000, wm := 1, rst := fun _ => 1 }
/-- R324. -/
def Reg.ABL_TREE_STATUS : RegDef := { off := 0x00800004 }
/-- R324. -/
def Reg.ABL_TREE_NOMATCH : RegDef := { off := 0x00800008, rc := true }
/-- R294. -/
def Reg.ABL_TREE_DROPPED : RegDef := { off := 0x0080000C, rc := true }
/-- R324. -/
def Reg.ABL_TREE_STAGE_LIMIT : RegDef := { off := 0x00800010, rc := true }
/-- R320. -/
def Reg.ABL_TREE_SCRUB_FIX : RegDef := { off := 0x00800014, rc := true }
/-- R324. -/
def Reg.ABL_TREE_REFUSED : RegDef := { off := 0x00800018, rc := true }
/-- R312. -/
def Reg.ABL_TREE_LOAD : RegDef := { off := 0x00800040, stride := 4, count := 16 }
/-- R324. -/
def Reg.ABL_TREE_FREE : RegDef := { off := 0x00800080, stride := 4, count := 16, rst := fun _ => 32768 }
/-- R325. -/
def Reg.ABL_TREE_MODEL : RegDef := { off := 0x00800100, stride := 16, count := 64, width := 128 }
/-- R326. -/
def Reg.ABL_TREE_BIND : RegDef := { off := 0x00800800, stride := 16, count := 128, width := 128 }
/-- R327, R682. (DEDUCED: log 99.) -/
def Reg.ABL_TREE_RISK : RegDef := { off := 0x00801000, stride := 8, count := 16, width := 64, rst := fun _ => 0x2000000000000000 }
/-- R324. -/
def Reg.ABL_TREE_TRAYRISK : RegDef := { off := 0x00801080 }
/-- R324 (write only). -/
def Reg.ABL_TREE_SUBMIT : RegDef := { off := 0x00801100, width := 64 }
/-- R324. -/
def Reg.ABL_TREE_SUBMIT_STATUS : RegDef := { off := 0x00801108 }
/-- R324. -/
def Reg.ABL_TREE_SUBMIT_RESULT : RegDef := { off := 0x00801110, width := 256 }
/-- R324. -/
def Reg.ABL_TREE_HVALID : RegDef := { off := 0x00801200, stride := 4, count := 32, w1c := 0xFFFF }
/-- R324, 16 words for each of 32 subjects. -/
def Reg.ABL_TREE_HIST : RegDef := { off := 0x00802000, stride := 8, count := 512, width := 64, wm := 0xFFFFFFFFFFFFFFFF }
/-- R324. -/
def Reg.ABL_TREE_VECBUF : RegDef := { off := 0x00804000, stride := 8, count := 256, width := 64, wm := 0xFFFFFFFFFFFFFFFF }
/-- R338, [31] EN, [15:0] PERIOD_US. -/
def Reg.DDU_LRB_CTRL : RegDef := { off := 0x70000, wm := 0x8000FFFF, rst := fun _ => 100 }
/-- R338. -/
def Reg.DDU_LRB_STATUS : RegDef := { off := 0x70004 }
/-- R338. -/
def Reg.DDU_LRB_EVALS : RegDef := { off := 0x70008, rc := true }
/-- R338. -/
def Reg.DDU_LRB_HITS : RegDef := { off := 0x7000C, rc := true }
/-- R338. -/
def Reg.DDU_LRB_FLOOR : RegDef := { off := 0x70010 }
/-- R338. -/
def Reg.DDU_LRB_LASTKEY : RegDef := { off := 0x70018, width := 64 }
/-- R338. -/
def Reg.DDU_FFE_MAP : RegDef := { off := 0x70400, stride := 4, count := 64, wm := 0xC0001F0F }
/-- R338. -/
def Reg.DDU_FFE_FEAT : RegDef := { off := 0x70800, stride := 64, count := 32, width := 512, wm := ones 512 - 0x00FFF000 }
/-- R338. -/
def Reg.DDU_LRB_KEY : RegDef := { off := 0x74000, stride := 8, count := 2048, width := 64, wm := 0xFFFFFFFFFFFFFFFF }
/-- R338. -/
def Reg.DDU_LRB_MASK : RegDef := { off := 0x78000, stride := 8, count := 2048, width := 64, wm := 0xFFFFFFFFFFFFFFFF }
/-- R338. -/
def Reg.DDU_LRB_ACT : RegDef := { off := 0x7C000, stride := 8, count := 2048, width := 64, wm := 0xF80003FF0FE001FF }

/-! Chapter 10: the Replay Grid. -/

/-- R688, [1] KAT_EN, [0] EN. -/
def Reg.ABL_GRID_CTRL : RegDef := { off := 0x00900000, wm := 3, rst := fun _ => 3 }
/-- R375. -/
def Reg.ABL_GRID_STATUS : RegDef := { off := 0x00900004 }
/-- R374. -/
def Reg.ABL_GRID_ID : RegDef := { off := 0x00900008, rst := fun _ => 1 }
/-- R374. -/
def Reg.ABL_GRID_WMAX_US : RegDef := { off := 0x0090000C, wm := 0xFFFF, rst := fun _ => 30 }
/-- R374. -/
def Reg.ABL_GRID_LOAD : RegDef := { off := 0x00900010 }
/-- R374. -/
def Reg.ABL_GRID_IDLE_US : RegDef := { off := 0x00900014, wm := 0xFFFFF, rst := fun _ => 1000 }
/-- R374. -/
def Reg.ABL_GRID_KAT_MS : RegDef := { off := 0x00900018, wm := 0xFFFF, rst := fun _ => 100 }
/-- R374. -/
def Reg.ABL_GRID_UNBOUND : RegDef := { off := 0x00900020, rc := true }
/-- R374. -/
def Reg.ABL_GRID_LATE : RegDef := { off := 0x00900024, rc := true }
/-- R374. -/
def Reg.ABL_GRID_BADBUNDLE : RegDef := { off := 0x00900028, rc := true }
/-- R374. -/
def Reg.ABL_GRID_SUSPECT : RegDef := { off := 0x0090002C, rc := true }
/-- R374. -/
def Reg.ABL_GRID_ABANDONED : RegDef := { off := 0x00900030, rc := true }
/-- R374. -/
def Reg.ABL_GRID_REFUSED : RegDef := { off := 0x00900034, rc := true }
/-- R374. -/
def Reg.ABL_GRID_ISO : RegDef := { off := 0x00900040, stride := 8, count := 4, width := 64 }
/-- R376. -/
def Reg.ABL_GRID_CTX : RegDef := { off := 0x00900100, stride := 32, count := 32, width := 256 }
/-- R377. -/
def Reg.ABL_GRID_PROG : RegDef := { off := 0x00901000, stride := 16, count := 64, width := 128 }
/-- R374. -/
def Reg.ABL_GRID_CORE : RegDef := { off := 0x00902000, stride := 8, count := 256, width := 64, rst := fun _ => 0xFF00000000000000 }

/-! Chapter 11: verdicts. -/

/-- R384. -/
def Reg.DDU_CHK_CTRL : RegDef := { off := 0xC0000, wm := 0xFFFF }
/-- R383. -/
def Reg.DDU_CHK_CHECKED : RegDef := { off := 0xC0004 }
/-- R383. -/
def Reg.DDU_CHK_MISMATCH : RegDef := { off := 0xC0008, rc := true }
/-- R383. -/
def Reg.DDU_CHK_MALFORMED : RegDef := { off := 0xC000C, rc := true }
/-- R383. -/
def Reg.DDU_CHK_UNBOUNDED : RegDef := { off := 0xC0010, rc := true }
/-- R383. -/
def Reg.DDU_CHK_LAST : RegDef := { off := 0xC0040, width := 512 }
/-- R383. -/
def Reg.DDU_CELL_TEDGE : RegDef := { off := 0xC0080, stride := 4, count := 7, wm := 0xFFFF, rst := fun i => 2880 + 640 * i }
/-- R383. -/
def Reg.DDU_CELL_LOAD : RegDef := { off := 0xC00A0 }
/-- R383. -/
def Reg.DDU_UNIT_DIODE : RegDef := { off := 0xC1000, stride := 4, count := 512, wm := 0x8000003F }
/-- R395, [31] EN sentinel only, [8] COMPRESS, [3:0] SAMPLE_K. -/
def Reg.DDU_SNOOP_CTRL : RegDef := { off := 0x81000, wm := 0x100, rst := fun _ => 0x100 }
/-- R393. -/
def Reg.DDU_SNOOP_PEND : RegDef := { off := 0x81004 }
/-- R387. -/
def Reg.DDU_SNOOP_SUSPECT_FROM : RegDef := { off := 0x81008 }
/-- R393. -/
def Reg.DDU_SNOOP_SENT : RegDef := { off := 0x8100C }
/-- R393. -/
def Reg.DDU_SNOOP_UNSELECTED : RegDef := { off := 0x81010, rc := true }
/-- R393. -/
def Reg.DDU_SNOOP_REFUSED : RegDef := { off := 0x81014, rc := true }
/-- R393. -/
def Reg.DDU_SNOOP_MISSING : RegDef := { off := 0x81018, rc := true }
/-- R387. -/
def Reg.DDU_SUSPECT : RegDef := { off := 0x81040, stride := 4, count := 16 }
/-- R387. -/
def Reg.DDU_SUSPECT_NEXT : RegDef := { off := 0x81080, stride := 4, count := 16 }
/-- R394. -/
def Reg.DDU_SNOOP_SLOT : RegDef := { off := 0x81100, stride := 128, count := 16, width := 1024, wm := 0xFFFFFFFFFFFFFFFFFFFFFFFF00000000FFFFFFFFFFFFFFFFFFFFFFFF00000000FFFFFFFFFFFFFFFFFFFFFFFF00000000FFFFFFFFFFFFFFFFFFFFFFFF0000000000000000FFFFFFFFFFFFFFFFFFFF01FFFFFFFFFFFFFFFFFFFFFFFFFF }
/-- R420. -/
def Reg.ABL_VER_CTRL : RegDef := { off := 0x00908000, wm := 1 }
/-- R420. -/
def Reg.ABL_VER_WAIT_US : RegDef := { off := 0x00908004, wm := 0xFFFFFF, rst := fun _ => 100000 }
/-- R421. -/
def Reg.ABL_VER_HIST_CFG : RegDef := { off := 0x00908008, wm := 0xFF00FFFF, rst := fun _ => 0x030000A8 }
/-- R421. -/
def Reg.ABL_VER_OBS_CFG : RegDef := { off := 0x0090800C, wm := 0xFFFFFFFF, rst := fun _ => 0x00480064 }
/-- R420. -/
def Reg.ABL_VER_PASS : RegDef := { off := 0x00908010, rc := true }
/-- R420. -/
def Reg.ABL_VER_FAIL : RegDef := { off := 0x00908014, rc := true }
/-- R420. -/
def Reg.ABL_VER_UNVERIFIED : RegDef := { off := 0x00908018, rc := true }
/-- R402. -/
def Reg.ABL_VER_LATE : RegDef := { off := 0x0090801C, rc := true }
/-- R398. -/
def Reg.ABL_VER_STALE : RegDef := { off := 0x00908020, rc := true }
/-- R420. -/
def Reg.ABL_VER_UNITS : RegDef := { off := 0x00908100, stride := 128, count := 16, width := 1024 }
/-- R422. -/
def Reg.ABL_VER_EPOCH : RegDef := { off := 0x00909000, stride := 32, count := 64, width := 256 }

/-! Chapter 12: securing. -/

/-- R446, [31] EN sentinel only. -/
def Reg.DDU_SEC_CTRL : RegDef := { off := 0x82000 }
/-- R446. -/
def Reg.DDU_SEC_CUT_ID : RegDef := { off := 0x82004 }
/-- R446. -/
def Reg.DDU_SEC_CUT_EPOCH : RegDef := { off := 0x82008 }
/-- R446. -/
def Reg.DDU_SEC_PEND : RegDef := { off := 0x8200C }
/-- R446 (write only). -/
def Reg.DDU_SEC_CMD : RegDef := { off := 0x82010 }
/-- R446. -/
def Reg.DDU_SEC_RETAINED : RegDef := { off := 0x82014, wm := 0xFFFFFFFF }
/-- R446. -/
def Reg.DDU_SEC_REFUSED : RegDef := { off := 0x82018, rc := true }
/-- R446. -/
def Reg.DDU_SEC_UNCHANGED : RegDef := { off := 0x8201C, rc := true }
/-- R446. -/
def Reg.DDU_SEC_BYTES : RegDef := { off := 0x82020, width := 64 }
/-- R446. -/
def Reg.DDU_SEC_SLOT : RegDef := { off := 0x82100, stride := 128, count := 8, width := 1024, wm := 0xFFFFFFFFFFFFFFFFFFFFFFFFFFFFFFFFFFFFFFFFFFFFFFFFFFFFFFFFFFFFFFFFFFFFFFFFFFFFFFFFFFFFFFFFFFFFFFFFFFFFFFFFFFFFFFFFFFFFFFFFFFFFFFFF00000000000000000000000000000000800000FFFFFFFFFFFFFFFFFFFFFFFFFF }
/-- R446. -/
def Reg.DDU_SEC_VERSION : RegDef := { off := 0x82800, stride := 8, count := 240, width := 64 }
/-- R447, [1] COMPRESS, [0] EN. -/
def Reg.ABL_SEC_CTRL : RegDef := { off := 0x00A00000, wm := 3, rst := fun _ => 1 }
/-- R447. -/
def Reg.ABL_SEC_CAP_GIB : RegDef := { off := 0x00A00008, wm := 0x3FF, rst := fun _ => 256 }
/-- R447. -/
def Reg.ABL_SEC_USED_MIB : RegDef := { off := 0x00A0000C }
/-- R448. -/
def Reg.ABL_SEC_RING : RegDef := { off := 0x00A00010, width := 128, wm := 0xFF00000FFFFFFFFFF0003FFF00003FFF }
/-- R448. -/
def Reg.ABL_SEC_POLICY : RegDef := { off := 0x00A00020, wm := 0xFFFFFFFF, rst := fun _ => 0x04201000 }
/-- R447. -/
def Reg.ABL_SEC_CUT_MIN_MS : RegDef := { off := 0x00A00024, wm := 0xFFFFFFFF, rst := fun _ => 10000 }
/-- R447. -/
def Reg.ABL_SEC_PASS_LIMIT_MS : RegDef := { off := 0x00A00028, wm := 0xFFFFFFFF, rst := fun _ => 60000 }
/-- R447. -/
def Reg.ABL_SEC_HOLD_S : RegDef := { off := 0x00A0002C, wm := 0xFFFFFFFF, rst := fun _ => 600 }
/-- R447. -/
def Reg.ABL_SEC_REFUSED : RegDef := { off := 0x00A00030, rc := true }
/-- R447. -/
def Reg.ABL_SEC_NOSPACE : RegDef := { off := 0x00A00034, rc := true }
/-- R447. -/
def Reg.ABL_SEC_CHAIN_ERR : RegDef := { off := 0x00A00038, rc := true }
/-- R448. -/
def Reg.ABL_SEC_JOB : RegDef := { off := 0x00A00100, stride := 32, count := 64, width := 256 }
/-- R456. -/
def Reg.ABL_CMP_CTRL : RegDef := { off := 0x00A80000, wm := 1, rst := fun _ => 1 }
/-- R456 (write only). -/
def Reg.ABL_CMP_SUBMIT : RegDef := { off := 0x00A80004 }
/-- R456. -/
def Reg.ABL_CMP_BUSY : RegDef := { off := 0x00A80008, width := 64 }
/-- R456. -/
def Reg.ABL_CMP_IN_BYTES : RegDef := { off := 0x00A80010, width := 64 }
/-- R456. -/
def Reg.ABL_CMP_OUT_BYTES : RegDef := { off := 0x00A80018, width := 64 }
/-- R456. -/
def Reg.ABL_CMP_EXHAUSTED : RegDef := { off := 0x00A80020, rc := true }
/-- R456. -/
def Reg.ABL_CMP_DESC : RegDef :=
  { off := 0x00A81000, stride := 64, count := 64, width := 512,
    wm := ones 512 - (0xFE * 2 ^ 264 + 0xFF * 2 ^ 280 + 0xFFFF * 2 ^ 304 + ones 64 * 2 ^ 448) }

/-! Chapter 13: faults. -/

/-- R687, [0] EN. -/
def Reg.ABL_FLT_CTRL : RegDef := { off := 0x00300000, wm := 1, rst := fun _ => 1 }
/-- R486. -/
def Reg.ABL_FLT_STATUS : RegDef := { off := 0x00300004 }
/-- R475. -/
def Reg.ABL_FLT_INJ : RegDef := { off := 0x00300008, width := 64 }
/-- R486. -/
def Reg.ABL_FLT_DENIED : RegDef := { off := 0x00300010, rc := true }
/-- R486. -/
def Reg.ABL_FLT_SEV : RegDef := { off := 0x00300100, stride := 4, count := 32 }
/-- R486. -/
def Reg.ABL_FLT_ISO : RegDef := { off := 0x00300200, stride := 4, count := 32 }
/-- R462. -/
def Reg.ABL_FLT_CFG : RegDef := { off := 0x00301000, stride := 4, count := 1024, wm := 0xC0FFFFFF, rst := fun s => ablFltCfg s }
/-- R486. -/
def Reg.ABL_FLT_CNT : RegDef := { off := 0x00302000, stride := 8, count := 1024, width := 64 }
/-- R486. -/
def Reg.ABL_FLT_CHAN : RegDef := { off := 0x00304000, stride := 8, count := 1024, width := 64 }
/-- R687, [0] EN. -/
def Reg.DDU_FLT_CTRL : RegDef := { off := 0xB8000, wm := 1, rst := fun _ => 1 }
/-- R487. -/
def Reg.DDU_FLT_STATUS : RegDef := { off := 0xB8004 }
/-- R475. -/
def Reg.DDU_FLT_INJ : RegDef := { off := 0xB8008, width := 64 }
/-- R487. -/
def Reg.DDU_FLT_DENIED : RegDef := { off := 0xB8010, rc := true }
/-- R487. -/
def Reg.DDU_FLT_REGPATH : RegDef := { off := 0xB8014 }
/-- R487. -/
def Reg.DDU_FLT_SEV : RegDef := { off := 0xB8040, stride := 4, count := 16 }
/-- R487. -/
def Reg.DDU_FLT_ISO : RegDef := { off := 0xB8080, stride := 4, count := 16 }
/-- R463. -/
def Reg.DDU_FLT_MAP : RegDef := { off := 0xB8100, stride := 4, count := 64, wm := 0x801FFFFF }
/-- R463. -/
def Reg.DDU_FLT_CFG : RegDef := { off := 0xB8400, stride := 4, count := 512, wm := 0xC0FFFFFF, rst := fun u => dduFltCfg u }
/-- R487. -/
def Reg.DDU_FLT_CNT : RegDef := { off := 0xB8C00, stride := 4, count := 512 }

/-! Chapter 14: the ledger. -/

/-- R532. -/
def Reg.DDU_DL_STATUS : RegDef := { off := 0x90000 }
/-- R531. -/
def Reg.DDU_DL_FORMAT : RegDef := { off := 0x90004 }
/-- R531. -/
def Reg.DDU_DL_SEQ : RegDef := { off := 0x90008, width := 64 }
/-- R531. -/
def Reg.DDU_DL_SERIAL : RegDef := { off := 0x90010, width := 64 }
/-- R531. -/
def Reg.DDU_DL_JOURNAL : RegDef := { off := 0x90018 }
/-- R531. -/
def Reg.DDU_DL_ERRORS : RegDef := { off := 0x9001C, rc := true }
/-- R531. -/
def Reg.DDU_DL_PAGE : RegDef := { off := 0x90020, wm := 1 }
/-- R534. -/
def Reg.ABL_HS_CTRL : RegDef := { off := 0x00F00000, wm := 0xFFFF0003, rst := fun _ => 0x03E80003 }
/-- R534. -/
def Reg.ABL_HS_STATUS : RegDef := { off := 0x00F00004 }
/-- R533. -/
def Reg.ABL_HS_SB_SEQ : RegDef := { off := 0x00F00008, width := 64 }
/-- R533. -/
def Reg.ABL_HS_JSEQ : RegDef := { off := 0x00F00010, width := 64 }
/-- R533. -/
def Reg.ABL_HS_FREE : RegDef := { off := 0x00F00018 }
/-- R533. -/
def Reg.ABL_HS_DAY_MB : RegDef := { off := 0x00F0001C }
/-- R533. -/
def Reg.ABL_HS_PHYS_BYTES : RegDef := { off := 0x00F00020, width := 64 }
/-- R533. -/
def Reg.ABL_HS_ERASE : RegDef := { off := 0x00F00028, width := 64 }
/-- R533. -/
def Reg.ABL_HS_OVERCAP : RegDef := { off := 0x00F00030, rc := true }
/-- R533. -/
def Reg.ABL_HS_DEFERRED : RegDef := { off := 0x00F00034, rc := true }
/-- R533. -/
def Reg.ABL_HS_PWRFAIL : RegDef := { off := 0x00F00038 }
/-- R533. -/
def Reg.ABL_HS_DENIED : RegDef := { off := 0x00F0003C, rc := true }
/-- R534. -/
def Reg.ABL_HS_PATH : RegDef := { off := 0x00F00040, stride := 16, count := 2, width := 64 }
/-- R533 (write only). -/
def Reg.ABL_HS_OP : RegDef := { off := 0x00F00100, width := 64 }
/-- R533. -/
def Reg.ABL_HS_OP_STATUS : RegDef := { off := 0x00F00108 }
/-- R533. -/
def Reg.ABL_HS_TALLY : RegDef := { off := 0x00F00200, width := 64 }
/-- R533. -/
def Reg.ABL_HS_TALLY_LOST : RegDef := { off := 0x00F00208, rc := true }
/-- R533, 4 KiB, Management Complex only. -/
def Reg.ABL_HS_BUF : RegDef := { off := 0x00F01000, width := 32768, wm := ones 32768 }

/-! Chapter 15: power. -/

/-- R568, [31] EN, [30:29] KEY_MODE, [15:8] PHASE_TIMEOUT_MS. -/
def Reg.DDU_PWR_CTRL : RegDef := { off := 0x60000, wm := 0xE000FF00, rst := fun _ => 0xC0003200 }
/-- R566. -/
def Reg.DDU_PWR_STATE : RegDef := { off := 0x60004, rst := fun _ => 1 }
/-- R566 (write only). -/
def Reg.DDU_PWR_CMD : RegDef := { off := 0x60008 }
/-- R566. -/
def Reg.DDU_PWR_CAP : RegDef := { off := 0x6000C, rst := fun _ => Config.pwrSafe % 65536 }
/-- R566. -/
def Reg.DDU_PWR_SAFE : RegDef := { off := 0x60010, rst := fun _ => Config.pwrSafe % 65536 }
/-- R566. -/
def Reg.DDU_PWR_TLIM : RegDef := { off := 0x60014, wm := 0xFFFFFFFF, rst := fun _ => 192 * 65536 + 6400 }
/-- R566. -/
def Reg.DDU_PWR_REASONS : RegDef := { off := 0x60018 }
/-- R566. -/
def Reg.DDU_PWR_PHASE : RegDef := { off := 0x6001C }
/-- R566. -/
def Reg.DDU_PWR_LEVEL : RegDef := { off := 0x60020 }
/-- R566. -/
def Reg.DDU_PWR_EXT : RegDef := { off := 0x60024 }
/-- R566. -/
def Reg.DDU_PWR_LAST : RegDef := { off := 0x60028, width := 64 }
/-- R566. -/
def Reg.DDU_PWR_USED : RegDef := { off := 0x60030 }
/-- R566. -/
def Reg.DDU_PWR_DROOP_CFG : RegDef := { off := 0x60034, wm := 0xFFFF0007, rst := fun _ => 0x08010005 }
/-- R566. -/
def Reg.DDU_PWR_VSET : RegDef := { off := 0x60038 }
/-- R566. -/
def Reg.DDU_PWR_THR_US : RegDef := { off := 0x60040, stride := 8, count := 6, width := 64 }
/-- R566. -/
def Reg.DDU_PWR_DRP : RegDef := { off := 0x60100, stride := 4, count := 16, wm := 0xFFFF, rst := fun _ => 320 }
/-- R567. -/
def Reg.DDU_PWR_RAIL : RegDef := { off := 0x60200, stride := 8, count := 24, width := 64, wm := 0xFFFFFFFFFFFF0000, rst := fun _ => 5 * 65536 }
/-- R566. -/
def Reg.DDU_PWR_COEF : RegDef := { off := 0x60400, stride := 16, count := 24, width := 128, wm := ones 128 }
/-- R566. -/
def Reg.DDU_PWR_RSTATE : RegDef := { off := 0x60600, stride := 4, count := 24, rst := fun _ => 4096 }
/-- R569. -/
def Reg.ABL_PWR_STATE : RegDef := { off := 0x00E00000, rst := fun _ => 1 }
/-- R569 (write only). -/
def Reg.ABL_PWR_CMD : RegDef := { off := 0x00E00004 }
/-- R569. -/
def Reg.ABL_PWR_WAKE_EN : RegDef := { off := 0x00E00008, wm := 0x1F, rst := fun _ => 0x1F }
/-- R569. -/
def Reg.ABL_PWR_WAKE_CAUSE : RegDef := { off := 0x00E0000C, w1c := 0x1F }
/-- R569. -/
def Reg.ABL_PWR_WAKE_AT : RegDef := { off := 0x00E00010, wm := 0xFFFFFFFF }
/-- R569. -/
def Reg.ABL_PWR_DOM_IDLE_US : RegDef := { off := 0x00E00014, wm := 0xFFFFF, rst := fun _ => 1000 }
/-- R569. -/
def Reg.ABL_PWR_PKG : RegDef := { off := 0x00E00018 }
/-- R569. -/
def Reg.ABL_PWR_SELF_CAP_W : RegDef := { off := 0x00E0001C, wm := 0xFFFF, rst := fun _ => 950 }
/-- R569. -/
def Reg.ABL_PWR_TLIM : RegDef := { off := 0x00E00020, wm := 0xFFFFFFFF, rst := fun _ => 192 * 65536 + 6400 }
/-- R569. -/
def Reg.ABL_PWR_OVER : RegDef := { off := 0x00E00024, rc := true }
/-- R569. -/
def Reg.ABL_PWR_BUDGET : RegDef := { off := 0x00E00028, width := 64, wm := 0x8000FFFFFFFFFFFF }
/-- R569. -/
def Reg.ABL_PWR_THR_US : RegDef := { off := 0x00E00040, stride := 8, count := 6, width := 64 }
/-- R569. -/
def Reg.ABL_PWR_DIE_CAP : RegDef := { off := 0x00E00100, stride := 4, count := 16 }
/-- R569. -/
def Reg.ABL_PWR_DIE_DEMAND : RegDef := { off := 0x00E00140, stride := 4, count := 16 }

/-! Chapter 16: the Management Complex. -/

/-- R591. -/
def Reg.AIC_CTRL (d : Dev) : RegDef := { off := aicBase d + 0x0000, wm := 1, rst := fun _ => 1 }
/-- R591. -/
def Reg.AIC_SPURIOUS (d : Dev) : RegDef := { off := aicBase d + 0x0004, rc := true }
/-- R591. -/
def Reg.AIC_EOI_ERR (d : Dev) : RegDef := { off := aicBase d + 0x0008, rc := true }
/-- R591. -/
def Reg.AIC_DENIED (d : Dev) : RegDef := { off := aicBase d + 0x000C, rc := true }
/-- R579. -/
def Reg.AIC_CFG (d : Dev) : RegDef := { off := aicBase d + 0x1000, stride := 4, count := aicShared d, wm := 0x8007000F, rst := fun i => aicCfg d i }
/-- R591. -/
def Reg.AIC_PEND (d : Dev) : RegDef := { off := aicBase d + 0x2000, stride := 4, count := 32 }
/-- R575 (claims on read). -/
def Reg.AIC_CLAIM (d : Dev) : RegDef := { off := aicBase d + 0x4000, stride := 0x400, count := aicCores d }
/-- R591 (write only). -/
def Reg.AIC_EOI (d : Dev) : RegDef := { off := aicBase d + 0x4004, stride := 0x400, count := aicCores d }
/-- R591. -/
def Reg.AIC_RUNPRI (d : Dev) : RegDef := { off := aicBase d + 0x4008, stride := 0x400, count := aicCores d }
/-- R591. -/
def Reg.AIC_PMASK (d : Dev) : RegDef := { off := aicBase d + 0x400C, stride := 0x400, count := aicCores d, wm := 0xF }
/-- R591, computed at a read. -/
def Reg.AIC_PPEND (d : Dev) : RegDef := { off := aicBase d + 0x4100, stride := 0x400, count := aicCores d }
/-- R591 (write only). -/
def Reg.AIC_SGI (d : Dev) : RegDef := { off := aicBase d + 0x4010, stride := 0x400, count := aicCores d }
/-- R581. -/
def Reg.ABL_ENGINE_RESET : RegDef := { off := 0x00000100, width := 64 }
/-- R581. -/
def Reg.ABL_ENGINE_RESET_MODE : RegDef := { off := 0x00000108, width := 64, wm := 0xFFFFFFFFFFFFFFFF }
/-- R581. -/
def Reg.ABL_ENGINE_RESET_DONE : RegDef := { off := 0x00000110, width := 64, w1c := 0xFFFFFFFFFFFFFFFF }
/-- R583. -/
def Reg.ABL_ENGINE_RESET_DENIED : RegDef := { off := 0x00000118, rc := true }
/-- R592. -/
def Reg.ABL_MC_LOAD : RegDef := { off := 0x0020C000 }
/-- R592. -/
def Reg.ABL_MC_SHED_PCT : RegDef := { off := 0x0020C004, wm := 0x7F, rst := fun _ => 85 }
/-- R592. -/
def Reg.ABL_MC_SHED_COUNT : RegDef := { off := 0x0020C008, rc := true }
/-- R592. -/
def Reg.ABL_MC_SUMMARY_MS : RegDef := { off := 0x0020C00C, wm := 0xFFFF, rst := fun _ => 1000 }
/-- R592. -/
def Reg.ABL_MC_WDOG_BADKICK : RegDef := { off := 0x0020C010, rc := true }
/-- R592. -/
def Reg.ABL_MC_CORE_STATE : RegDef := { off := 0x0020C040, stride := 16, count := 6 }
/-- R592. -/
def Reg.ABL_MC_WDOG_CFG : RegDef := { off := 0x0020C048, stride := 16, count := 6, rst := fun _ => 100 }
/-- R585 (write only). -/
def Reg.ABL_MC_WDOG_KICK : RegDef := { off := 0x0020C04C, stride := 16, count := 6 }

/-! Chapter 17: mailboxes. -/

/-- R623. -/
def Reg.ABL_MB_OWNED : RegDef := { off := 0x00130000, width := 64 }
/-- R598. -/
def Reg.ABL_MB_DISCARDED : RegDef := { off := 0x00130008, rc := true }
/-- R623. -/
def Reg.ABL_MB_CLASS0_MAX : RegDef := { off := 0x0013000C, rc := true }
/-- R623. -/
def Reg.ABL_MB_NEG : RegDef := { off := 0x00130010, stride := 32, count := 3, width := 64 }
/-- R623. -/
def Reg.ABL_MB_FEAT : RegDef := { off := 0x00130100, stride := 32, count := 3, width := 256 }
/-- R612. -/
def Reg.ABL_MB_EVT_WR : RegDef := { off := 0x00130200, stride := 32, count := 3, width := 64 }
/-- R612. -/
def Reg.ABL_MB_EVT_RD : RegDef := { off := 0x00130208, stride := 32, count := 3, width := 64 }
/-- R612. -/
def Reg.ABL_MB_EVT_LOST : RegDef := { off := 0x00130210, stride := 32, count := 3, rc := true }
/-- R610. -/
def Reg.ABL_MB_EVT_SEQ : RegDef := { off := 0x00130214, stride := 32, count := 3 }
/-- R624. -/
def Reg.DDU_MB_OWNED : RegDef := { off := 0xA5000 }
/-- R598. -/
def Reg.DDU_MB_DISCARDED : RegDef := { off := 0xA5004, rc := true }
/-- R624. -/
def Reg.DDU_MB_NEG : RegDef := { off := 0xA5010, stride := 32, count := 2, width := 64 }
/-- R624. -/
def Reg.DDU_MB_FEAT : RegDef := { off := 0xA5100, stride := 32, count := 2, width := 256 }

/-! Chapter 18: the host interface. -/

/-- chapter 18. -/
def Reg.ABL_ID : RegDef := { off := 0x00000000, rst := fun _ => 0xAB160000 + Config.ablRevision % 65536 }
/-- chapter 18, [31] VALID, [30:28] ROLE, [27:26] STRAP, [19:17] LEVEL, [16:0] INDEX. -/
def Reg.ABL_NODE : RegDef := { off := 0x00000004, rst := fun _ => Config.strap % 4 * 2 ^ 26 }
/-- chapter 18. -/
def Reg.ABL_STATUS : RegDef := { off := 0x00000008, rst := fun _ => 0x01000000 + fuseCode Config.ablLifecycle * 2 ^ 28 }
/-- chapter 18. -/
def Reg.ABL_FW_VERSION : RegDef := { off := 0x0000000C }
/-- chapter 18. -/
def Reg.ABL_SERIAL : RegDef := { off := 0x00000010, width := 64, rst := fun _ => Config.ablSerial % 2 ^ 64 }
/-- R634. -/
def Reg.ABL_HOST_AP_BASE : RegDef := { off := 0x00000040, width := 64, wm := 0xFFFFE00001 }
/-- R631. -/
def Reg.ABL_HOST_REC_WIN_BASE : RegDef := { off := 0x00000048, width := 64, wm := 0xFFFFFFFFFFFFFFF8 }
/-- chapter 18. -/
def Reg.ABL_HOST_EVT_THRESH : RegDef := { off := 0x00000050, wm := 0xFFFF }
/-- R629. -/
def Reg.ABL_HOST_DENIED : RegDef := { off := 0x00000054, rc := true }
/-- R634. -/
def Reg.ABL_HOST_AP_DENIED : RegDef := { off := 0x00000058, rc := true }
/-- chapter 18. -/
def Reg.ABL_HOST_GRANT : RegDef := { off := 0x00000200, stride := 16, count := 16, width := 128 }

/-! Chapter 19: security. -/

/-- R669. -/
def Reg.ABL_LC_STATE : RegDef := { off := 0x0020D000, rst := fun _ => fuseCode Config.ablLifecycle * 17 + Config.lcFuse % 2 * 2 ^ 9 + Config.lcFuse / 2 % 4 * 2 ^ 16 }
/-- chapter 19. -/
def Reg.ABL_LC_SVN : RegDef := { off := 0x0020D004, rst := fun _ => Config.svnFuse &&& 0x7F7F7F }
/-- chapter 19. -/
def Reg.ABL_DBG_CTRL : RegDef := { off := 0x0020D008 }
/-- chapter 19. -/
def Reg.ABL_DBG_EXPIRE : RegDef := { off := 0x0020D00C }
/-- chapter 19. -/
def Reg.ABL_DBG_JOBTAG : RegDef := { off := 0x0020D010 }
/-- chapter 19. -/
def Reg.ABL_DBG_DIES : RegDef := { off := 0x0020D014 }
/-- chapter 19. -/
def Reg.ABL_DBG_SESSIONS : RegDef := { off := 0x0020D018 }
/-- chapter 19. -/
def Reg.ABL_DBG_DENIED : RegDef := { off := 0x0020D01C, rc := true }
/-- R652. -/
def Reg.ABL_MR : RegDef := { off := 0x0020D100, stride := 64, count := 5, width := 384 }
/-- chapter 19, [31] ACTIVE, [5:4] TRACE and INJECT. -/
def Reg.DDU_DBG_GRANT : RegDef := { off := 0xA7F50 }
/-- chapter 19. -/
def Reg.DDU_DBG_EXPIRE : RegDef := { off := 0xA7F54, wm := 0xFFFFFFFF }

/-- Part of dduRegs. -/
def dduRegs0 : List RegDef :=
  [Reg.DDU_ID, Reg.DDU_DIE_INDEX, Reg.DDU_STATUS, Reg.DDU_CTRL, Reg.DDU_SUBRESET, Reg.DDU_SUBRESET_MODE, Reg.DDU_SUBRESET_DONE, Reg.DDU_HOST_IRQ_STATUS, Reg.DDU_HOST_IRQ_ENABLE, Reg.DDU_CHK_FIFO, Reg.DDU_CHK_STALL, Reg.DDU_SNOOP_WIN_BASE, Reg.DDU_SNOOP_WIN_SIZE, Reg.DDU_SPILL_BASE, Reg.DDU_SPILL_SIZE, Reg.DDU_FABRIC_RATE, Reg.DDU_FABRIC_VIOLATION, Reg.DDU_ACCESS_DENIED, Reg.DDU_CNT, Reg.DDU_CNT_SEL, Reg.DDU_CNT_OVF, Reg.DDU_CNT_CHAINED, Reg.DDU_CNT_HI_LATCH, Reg.DDU_CNT_CLEAR]

/-- Part of dduRegs. -/
def dduRegs1 : List RegDef :=
  [Reg.DDU_CNT_FREEZE, Reg.DDU_CNT_WITHHELD, Reg.DDU_HOST_EVENT_DROP, Reg.DDU_PROF_CTRL, Reg.DDU_CLASS_TOTAL, Reg.DDU_BW_CFG, Reg.DDU_BW_LAST, Reg.DDU_BW_PEAK, Reg.DDU_SNAP_SEL, Reg.DDU_SNAP_OPEN, Reg.DDU_SNAP_CTRL, Reg.DDU_SNS_CFG, Reg.DDU_SNS_STATE, Reg.DDU_SNS_VALUE, Reg.DDU_SNS_MINMAX, Reg.DDU_SNS_THRESH, Reg.DDU_SNS_CAL, Reg.DDU_SNS_EVENTS, Reg.DDU_TRC_CTRL, Reg.DDU_TRC_STATE, Reg.DDU_TRC_CMD, Reg.DDU_TRC_TRIG_SRC, Reg.DDU_TRC_TRIG_PC, Reg.DDU_TRC_TRIG_MARK]

/-- Part of dduRegs. -/
def dduRegs2 : List RegDef :=
  [Reg.DDU_TRC_POST_KIB, Reg.DDU_TRC_SYNC_US, Reg.DDU_TRC_TRIG_INFO, Reg.DDU_TRC_STREAM_OFFSET, Reg.DDU_TRC_SPILL_WR, Reg.DDU_TRC_SPILL_RD, Reg.DDU_TRC_SPILL_WMARK, Reg.DDU_TRC_LOST, Reg.DDU_TRC_TRIG_MISSED, Reg.DDU_TRC_READ_DENIED, Reg.DDU_TRC_APERTURE, (Reg.REC_WR .ddu), (Reg.REC_OLDEST .ddu), (Reg.REC_RD .ddu), (Reg.REC_WIN_BASE .ddu), (Reg.REC_FREEZE .ddu), (Reg.REC_FREEZE_MAX_US .ddu), (Reg.REC_DROPPED .ddu), (Reg.REC_SUPPRESSED .ddu), (Reg.REC_SIZE .ddu), (Reg.REC_RL .ddu), (Reg.TIME_NS .ddu), (Reg.TIME_FRAC_LATCH .ddu), (Reg.TIME_WRAP_LATCH .ddu)]

/-- Part of dduRegs. -/
def dduRegs3 : List RegDef :=
  [(Reg.TIME_WRAP .ddu), (Reg.TIME_INCR .ddu), (Reg.TIME_SLEW_INCR .ddu), (Reg.TIME_SLEW_TICKS .ddu), (Reg.TIME_TIDE_BASE .ddu), (Reg.TIME_LOAD_NS .ddu), (Reg.TIME_LOAD_FRAC .ddu), (Reg.TIME_CMD .ddu), (Reg.TIME_CTRL .ddu), (Reg.TIME_STATUS .ddu), (Reg.TIME_OFFSET .ddu), (Reg.TIME_DELAY .ddu), (Reg.TIME_ASYM .ddu), (Reg.TIME_REFUSED .ddu), (Reg.TIME_MASTER .ddu), (Reg.LNK_CTRL .ddu), (Reg.LNK_STATUS .ddu), (Reg.LNK_CMD .ddu), (Reg.LNK_PEER .ddu), (Reg.LNK_PEER_EXPECT .ddu), (Reg.LNK_FAILS .ddu), (Reg.LNK_REPLAYS .ddu), (Reg.LNK_FEC_UNCORR .ddu), (Reg.LNK_EXPIRED .ddu)]

/-- Part of dduRegs. -/
def dduRegs4 : List RegDef :=
  [(Reg.LNK_TRAIN_US .ddu), (Reg.LNK_DELAY .ddu), Reg.DDU_LNK_FB_PEER, Reg.DDU_LNK_FB_STATUS, Reg.DDU_SUM_CTRL, Reg.DDU_SUM_SENT, Reg.DDU_SUM_SKIPPED, Reg.DDU_SUM_ENT, Reg.DDU_JOB_TAG, Reg.DDU_JOB_STATE, Reg.DDU_JOB_RANK, Reg.DDU_JOB_PENDING, Reg.DDU_JOB_HOLD_MS, Reg.DDU_SYNC_STALE, Reg.DDU_SYNC_MISMATCH, Reg.DDU_SYNC_OPD, Reg.DDU_SYNC_EPOCH, Reg.DDU_SYNC_OP, Reg.DDU_SYNC_STATUS, Reg.DDU_FENCE, Reg.DDU_FENCE_STATUS, Reg.DDU_SYNC, Reg.DDU_LRB_CTRL, Reg.DDU_LRB_STATUS]

/-- Part of dduRegs. -/
def dduRegs5 : List RegDef :=
  [Reg.DDU_LRB_EVALS, Reg.DDU_LRB_HITS, Reg.DDU_LRB_FLOOR, Reg.DDU_LRB_LASTKEY, Reg.DDU_FFE_MAP, Reg.DDU_FFE_FEAT, Reg.DDU_LRB_KEY, Reg.DDU_LRB_MASK, Reg.DDU_LRB_ACT, Reg.DDU_CHK_CTRL, Reg.DDU_CHK_CHECKED, Reg.DDU_CHK_MISMATCH, Reg.DDU_CHK_MALFORMED, Reg.DDU_CHK_UNBOUNDED, Reg.DDU_CHK_LAST, Reg.DDU_CELL_TEDGE, Reg.DDU_CELL_LOAD, Reg.DDU_UNIT_DIODE, Reg.DDU_SNOOP_CTRL, Reg.DDU_SNOOP_PEND, Reg.DDU_SNOOP_SUSPECT_FROM, Reg.DDU_SNOOP_SENT, Reg.DDU_SNOOP_UNSELECTED, Reg.DDU_SNOOP_REFUSED]

/-- Part of dduRegs. -/
def dduRegs6 : List RegDef :=
  [Reg.DDU_SNOOP_MISSING, Reg.DDU_SUSPECT, Reg.DDU_SUSPECT_NEXT, Reg.DDU_SNOOP_SLOT, Reg.DDU_SEC_CTRL, Reg.DDU_SEC_CUT_ID, Reg.DDU_SEC_CUT_EPOCH, Reg.DDU_SEC_PEND, Reg.DDU_SEC_CMD, Reg.DDU_SEC_RETAINED, Reg.DDU_SEC_REFUSED, Reg.DDU_SEC_UNCHANGED, Reg.DDU_SEC_BYTES, Reg.DDU_SEC_SLOT, Reg.DDU_SEC_VERSION, Reg.DDU_FLT_CTRL, Reg.DDU_FLT_STATUS, Reg.DDU_FLT_INJ, Reg.DDU_FLT_DENIED, Reg.DDU_FLT_REGPATH, Reg.DDU_FLT_SEV, Reg.DDU_FLT_ISO, Reg.DDU_FLT_MAP, Reg.DDU_FLT_CFG]

/-- Part of dduRegs. -/
def dduRegs7 : List RegDef :=
  [Reg.DDU_FLT_CNT, Reg.DDU_DL_STATUS, Reg.DDU_DL_FORMAT, Reg.DDU_DL_SEQ, Reg.DDU_DL_SERIAL, Reg.DDU_DL_JOURNAL, Reg.DDU_DL_ERRORS, Reg.DDU_DL_PAGE, Reg.DDU_PWR_CTRL, Reg.DDU_PWR_STATE, Reg.DDU_PWR_CMD, Reg.DDU_PWR_CAP, Reg.DDU_PWR_SAFE, Reg.DDU_PWR_TLIM, Reg.DDU_PWR_REASONS, Reg.DDU_PWR_PHASE, Reg.DDU_PWR_LEVEL, Reg.DDU_PWR_EXT, Reg.DDU_PWR_LAST, Reg.DDU_PWR_USED, Reg.DDU_PWR_DROOP_CFG, Reg.DDU_PWR_VSET, Reg.DDU_PWR_THR_US, Reg.DDU_PWR_DRP]

/-- Part of dduRegs. -/
def dduRegs8 : List RegDef :=
  [Reg.DDU_PWR_RAIL, Reg.DDU_PWR_COEF, Reg.DDU_PWR_RSTATE, (Reg.AIC_CTRL .ddu), (Reg.AIC_SPURIOUS .ddu), (Reg.AIC_EOI_ERR .ddu), (Reg.AIC_DENIED .ddu), (Reg.AIC_CFG .ddu), (Reg.AIC_PEND .ddu), (Reg.AIC_CLAIM .ddu), (Reg.AIC_EOI .ddu), (Reg.AIC_RUNPRI .ddu), (Reg.AIC_PMASK .ddu), (Reg.AIC_PPEND .ddu), (Reg.AIC_SGI .ddu), Reg.DDU_MB_OWNED, Reg.DDU_MB_DISCARDED, Reg.DDU_MB_NEG, Reg.DDU_MB_FEAT, Reg.DDU_DBG_GRANT, Reg.DDU_DBG_EXPIRE, (Reg.AIC_PCFG .ddu 0), (Reg.AIC_PCFG .ddu 1)]

/-- Every register of the DDU window. -/
def dduRegs : List RegDef := dduRegs0 ++ dduRegs1 ++ dduRegs2 ++ dduRegs3 ++ dduRegs4 ++ dduRegs5 ++ dduRegs6 ++ dduRegs7 ++ dduRegs8

/-- Part of ablRegs. -/
def ablRegs0 : List RegDef :=
  [Reg.ABL_PCNT, Reg.ABL_PCNT_OVF, Reg.ABL_PCNT_CHAIN, Reg.ABL_PCNT_HI_LATCH, Reg.ABL_PCNT_CLEAR, Reg.ABL_PCNT_LATCH, Reg.ABL_PERF_CTRL, Reg.ABL_BW_CFG, Reg.ABL_BW_LAST, Reg.ABL_BW_PEAK, Reg.ABL_PSAMP_CTRL, Reg.ABL_PSAMP_PERIOD, Reg.ABL_PSAMP_SCOPE, Reg.ABL_PSAMP_WRPTR, Reg.ABL_PSAMP_RDPTR, Reg.ABL_PSAMP_LOST, Reg.ABL_PCNT_SHADOW, Reg.ABL_PSAMP_BUF, (Reg.REC_WR .abl), (Reg.REC_OLDEST .abl), (Reg.REC_RD .abl), (Reg.REC_WIN_BASE .abl), (Reg.REC_FREEZE .abl), (Reg.REC_FREEZE_MAX_US .abl)]

/-- Part of ablRegs. -/
def ablRegs1 : List RegDef :=
  [(Reg.REC_DROPPED .abl), (Reg.REC_SUPPRESSED .abl), (Reg.REC_SIZE .abl), (Reg.REC_RL .abl), (Reg.TIME_NS .abl), (Reg.TIME_FRAC_LATCH .abl), (Reg.TIME_WRAP_LATCH .abl), (Reg.TIME_WRAP .abl), (Reg.TIME_INCR .abl), (Reg.TIME_SLEW_INCR .abl), (Reg.TIME_SLEW_TICKS .abl), (Reg.TIME_TIDE_BASE .abl), (Reg.TIME_LOAD_NS .abl), (Reg.TIME_LOAD_FRAC .abl), (Reg.TIME_CMD .abl), (Reg.TIME_CTRL .abl), (Reg.TIME_STATUS .abl), (Reg.TIME_OFFSET .abl), (Reg.TIME_DELAY .abl), (Reg.TIME_ASYM .abl), (Reg.TIME_REFUSED .abl), (Reg.TIME_MASTER .abl), Reg.ABL_PPS_NEXT, Reg.ABL_PPS_WIDTH_US]

/-- Part of ablRegs. -/
def ablRegs2 : List RegDef :=
  [Reg.ABL_PPS_IN_STAMP, Reg.ABL_PPS_IN_WRAP, Reg.ABL_LAUNCH_TARGET, Reg.ABL_LAUNCH_PORTS, Reg.ABL_LAUNCH_FRAME, Reg.ABL_LAUNCH_CMD, Reg.ABL_LAUNCH_STATUS, Reg.ABL_LAUNCH_LATE, Reg.ABL_LAUNCH_DROPPED, Reg.ABL_PTP_LAT, (Reg.LNK_CTRL .abl), (Reg.LNK_STATUS .abl), (Reg.LNK_CMD .abl), (Reg.LNK_PEER .abl), (Reg.LNK_PEER_EXPECT .abl), (Reg.LNK_FAILS .abl), (Reg.LNK_REPLAYS .abl), (Reg.LNK_FEC_UNCORR .abl), (Reg.LNK_EXPIRED .abl), (Reg.LNK_TRAIN_US .abl), (Reg.LNK_DELAY .abl), Reg.ABL_USCH_CTRL, Reg.ABL_USCH_SAMPLE_US, Reg.ABL_USCH_JOB]

/-- Part of ablRegs. -/
def ablRegs3 : List RegDef :=
  [Reg.ABL_USCH_PORT, Reg.ABL_USCH_PSTAT, Reg.ABL_USCH_QLIM, Reg.ABL_USCH_QSAMP, Reg.ABL_USCH_QMAX, Reg.ABL_USCH_QDROP, Reg.ABL_RED_CTRL, Reg.ABL_RED_LOAD, Reg.ABL_RED_CLOSE_US, Reg.ABL_RED_DEV_FLOOR, Reg.ABL_RED_REFUSED, Reg.ABL_RED_LATE, Reg.ABL_RED_EARLY, Reg.ABL_RED_UNMATCHED, Reg.ABL_RED_BAR_CFG, Reg.ABL_RED_BAR_LATE_NS, Reg.ABL_RED_BAR_TIMEOUT_US, Reg.ABL_RED_BAR_OVERRUN, Reg.ABL_RED_FAN_CFG, Reg.ABL_RED_FAN_DEADLINE_US, Reg.ABL_RED_FAN_CMD, Reg.ABL_RED_FAN_REFUSED, Reg.ABL_RED_FAN_STAT, Reg.ABL_RED_CHILD]

/-- Part of ablRegs. -/
def ablRegs4 : List RegDef :=
  [Reg.ABL_RED_MET, Reg.ABL_RED_STRAG, Reg.ABL_RED_BASE, Reg.ABL_RED_FAN_BUF, Reg.ABL_RED_FAN_RESULT, Reg.ABL_SYNC_CTRL, Reg.ABL_SYNC_FREE, Reg.ABL_SYNC_STALE, Reg.ABL_SYNC_MISMATCH, Reg.ABL_SYNC_GATE_ORDER, Reg.ABL_JOB_UNKNOWN, Reg.ABL_SYNC_OPD, Reg.ABL_SYNC_EPOCH, Reg.ABL_SYNC_DEST, Reg.ABL_SYNC_OP, Reg.ABL_SYNC_STATUS, Reg.ABL_JOB, Reg.ABL_GROUP, Reg.ABL_RANKMAP, Reg.ABL_GROUP_EXP, Reg.ABL_TREE_CTRL, Reg.ABL_TREE_STATUS, Reg.ABL_TREE_NOMATCH, Reg.ABL_TREE_DROPPED]

/-- Part of ablRegs. -/
def ablRegs5 : List RegDef :=
  [Reg.ABL_TREE_STAGE_LIMIT, Reg.ABL_TREE_SCRUB_FIX, Reg.ABL_TREE_REFUSED, Reg.ABL_TREE_LOAD, Reg.ABL_TREE_FREE, Reg.ABL_TREE_MODEL, Reg.ABL_TREE_BIND, Reg.ABL_TREE_RISK, Reg.ABL_TREE_TRAYRISK, Reg.ABL_TREE_SUBMIT, Reg.ABL_TREE_SUBMIT_STATUS, Reg.ABL_TREE_SUBMIT_RESULT, Reg.ABL_TREE_HVALID, Reg.ABL_TREE_HIST, Reg.ABL_TREE_VECBUF, Reg.ABL_GRID_CTRL, Reg.ABL_GRID_STATUS, Reg.ABL_GRID_ID, Reg.ABL_GRID_WMAX_US, Reg.ABL_GRID_LOAD, Reg.ABL_GRID_IDLE_US, Reg.ABL_GRID_KAT_MS, Reg.ABL_GRID_UNBOUND, Reg.ABL_GRID_LATE]

/-- Part of ablRegs. -/
def ablRegs6 : List RegDef :=
  [Reg.ABL_GRID_BADBUNDLE, Reg.ABL_GRID_SUSPECT, Reg.ABL_GRID_ABANDONED, Reg.ABL_GRID_REFUSED, Reg.ABL_GRID_ISO, Reg.ABL_GRID_CTX, Reg.ABL_GRID_PROG, Reg.ABL_GRID_CORE, Reg.ABL_VER_CTRL, Reg.ABL_VER_WAIT_US, Reg.ABL_VER_HIST_CFG, Reg.ABL_VER_OBS_CFG, Reg.ABL_VER_PASS, Reg.ABL_VER_FAIL, Reg.ABL_VER_UNVERIFIED, Reg.ABL_VER_LATE, Reg.ABL_VER_STALE, Reg.ABL_VER_UNITS, Reg.ABL_VER_EPOCH, Reg.ABL_SEC_CTRL, Reg.ABL_SEC_CAP_GIB, Reg.ABL_SEC_USED_MIB, Reg.ABL_SEC_RING, Reg.ABL_SEC_POLICY]

/-- Part of ablRegs. -/
def ablRegs7 : List RegDef :=
  [Reg.ABL_SEC_CUT_MIN_MS, Reg.ABL_SEC_PASS_LIMIT_MS, Reg.ABL_SEC_HOLD_S, Reg.ABL_SEC_REFUSED, Reg.ABL_SEC_NOSPACE, Reg.ABL_SEC_CHAIN_ERR, Reg.ABL_SEC_JOB, Reg.ABL_CMP_CTRL, Reg.ABL_CMP_SUBMIT, Reg.ABL_CMP_BUSY, Reg.ABL_CMP_IN_BYTES, Reg.ABL_CMP_OUT_BYTES, Reg.ABL_CMP_EXHAUSTED, Reg.ABL_CMP_DESC, Reg.ABL_FLT_CTRL, Reg.ABL_FLT_STATUS, Reg.ABL_FLT_INJ, Reg.ABL_FLT_DENIED, Reg.ABL_FLT_SEV, Reg.ABL_FLT_ISO, Reg.ABL_FLT_CFG, Reg.ABL_FLT_CNT, Reg.ABL_FLT_CHAN, Reg.ABL_HS_CTRL]

/-- Part of ablRegs. -/
def ablRegs8 : List RegDef :=
  [Reg.ABL_HS_STATUS, Reg.ABL_HS_SB_SEQ, Reg.ABL_HS_JSEQ, Reg.ABL_HS_FREE, Reg.ABL_HS_DAY_MB, Reg.ABL_HS_PHYS_BYTES, Reg.ABL_HS_ERASE, Reg.ABL_HS_OVERCAP, Reg.ABL_HS_DEFERRED, Reg.ABL_HS_PWRFAIL, Reg.ABL_HS_DENIED, Reg.ABL_HS_PATH, Reg.ABL_HS_OP, Reg.ABL_HS_OP_STATUS, Reg.ABL_HS_TALLY, Reg.ABL_HS_TALLY_LOST, Reg.ABL_HS_BUF, Reg.ABL_PWR_STATE, Reg.ABL_PWR_CMD, Reg.ABL_PWR_WAKE_EN, Reg.ABL_PWR_WAKE_CAUSE, Reg.ABL_PWR_WAKE_AT, Reg.ABL_PWR_DOM_IDLE_US, Reg.ABL_PWR_PKG]

/-- Part of ablRegs. -/
def ablRegs9 : List RegDef :=
  [Reg.ABL_PWR_SELF_CAP_W, Reg.ABL_PWR_TLIM, Reg.ABL_PWR_OVER, Reg.ABL_PWR_BUDGET, Reg.ABL_PWR_THR_US, Reg.ABL_PWR_DIE_CAP, Reg.ABL_PWR_DIE_DEMAND, (Reg.AIC_CTRL .abl), (Reg.AIC_SPURIOUS .abl), (Reg.AIC_EOI_ERR .abl), (Reg.AIC_DENIED .abl), (Reg.AIC_CFG .abl), (Reg.AIC_PEND .abl), (Reg.AIC_CLAIM .abl), (Reg.AIC_EOI .abl), (Reg.AIC_RUNPRI .abl), (Reg.AIC_PMASK .abl), (Reg.AIC_PPEND .abl), (Reg.AIC_SGI .abl), Reg.ABL_ENGINE_RESET, Reg.ABL_ENGINE_RESET_MODE, Reg.ABL_ENGINE_RESET_DONE, Reg.ABL_ENGINE_RESET_DENIED, Reg.ABL_MC_LOAD]

/-- Part of ablRegs. -/
def ablRegs10 : List RegDef :=
  [Reg.ABL_MC_SHED_PCT, Reg.ABL_MC_SHED_COUNT, Reg.ABL_MC_SUMMARY_MS, Reg.ABL_MC_WDOG_BADKICK, Reg.ABL_MC_CORE_STATE, Reg.ABL_MC_WDOG_CFG, Reg.ABL_MC_WDOG_KICK, Reg.ABL_MB_OWNED, Reg.ABL_MB_DISCARDED, Reg.ABL_MB_CLASS0_MAX, Reg.ABL_MB_NEG, Reg.ABL_MB_FEAT, Reg.ABL_MB_EVT_WR, Reg.ABL_MB_EVT_RD, Reg.ABL_MB_EVT_LOST, Reg.ABL_MB_EVT_SEQ, Reg.ABL_ID, Reg.ABL_NODE, Reg.ABL_STATUS, Reg.ABL_FW_VERSION, Reg.ABL_SERIAL, Reg.ABL_HOST_AP_BASE, Reg.ABL_HOST_REC_WIN_BASE, Reg.ABL_HOST_EVT_THRESH]

/-- Part of ablRegs. -/
def ablRegs11 : List RegDef :=
  [Reg.ABL_HOST_DENIED, Reg.ABL_HOST_AP_DENIED, Reg.ABL_HOST_GRANT, Reg.ABL_LC_STATE, Reg.ABL_LC_SVN, Reg.ABL_DBG_CTRL, Reg.ABL_DBG_EXPIRE, Reg.ABL_DBG_JOBTAG, Reg.ABL_DBG_DIES, Reg.ABL_DBG_SESSIONS, Reg.ABL_DBG_DENIED, Reg.ABL_MR, (Reg.AIC_PCFG .abl 0), (Reg.AIC_PCFG .abl 1), (Reg.AIC_PCFG .abl 2), (Reg.AIC_PCFG .abl 3), (Reg.AIC_PCFG .abl 4), (Reg.AIC_PCFG .abl 5)]

/-- Every register of the sentinel. -/
def ablRegs : List RegDef := ablRegs0 ++ ablRegs1 ++ ablRegs2 ++ ablRegs3 ++ ablRegs4 ++ ablRegs5 ++ ablRegs6 ++ ablRegs7 ++ ablRegs8 ++ ablRegs9 ++ ablRegs10 ++ ablRegs11

end Sys2Proof.Machine
end

