-- ==== Sys2Proof/Machine/Types.lean ====
section
/-!
DEFINITION. The parts of the state that are not registers, chapter by chapter: queues, engines, counters and timers
in progress.  Plain data throughout.
-/

namespace Sys2Proof.Machine

/-! ## Chapters 04 and 17: the recorder and the event paths -/

/-- Rate-limit bucket of one entry (R148): tokens in units of 1/1,024 with the remainder of the refill in units of 1/1,024 token times 1 ns,
pending count, TIME_NS of the first suppressed record, and the wrap-extended local time of the last refill. -/
structure RlBucket where
  idx : Nat
  tokens : Nat
  rem : Nat := 0
  pend : Nat := 0
  first : Nat := 0
  last : Nat := 0
  deriving DecidableEq, Repr

/-- The event recorder (R140 to R149) beyond its registers: ring contents by offset, the hold buffer, the records
dropped in this freeze, when the freeze began, the buckets, and the records that wait while the recorder is in reset (R72, R581). -/
structure RecorderX where
  ring : List (Nat × Record) := []
  hold : List Record := []
  dropped : Nat := 0
  freezeNs : Nat := 0
  buckets : List RlBucket := []
  waiting : List Record := []
  deriving DecidableEq, Repr

/-- One event path (R610 to R613): ring or unacknowledged events with the time each was last sent, the class 0
backlog, and the events of each class dropped in the present run. -/
structure EvPath where
  ring : List (Nat × Record) := []
  sent : List (Nat × Nat × Record) := []
  backlog : List Record := []
  run : List (Nat × Nat) := []
  deriving DecidableEq, Repr

/-! ## Chapter 06: link ports -/

/-- A message waiting at, or being sent by, a port: class, Uplink Scheduler slot, enqueue time, and how many of its
bytes have left in flits (R189, R690), the guest it came from (R204), whether the launch queue made it
due (R172), and whether it waits behind a source fence or is an EPOCH_FENCE that waits for the messages before it (R286). -/
structure TxMsg where
  port : Nat
  lslot : Nat := 0
  slot : Nat := 0
  msg : Msg
  size : Nat
  at_ : Nat
  sent : Nat := 0
  guest : Nat := 0
  launch : Bool := false
  target : Option (Nat × Nat) := none
  fenced : Bool := false
  ef : Bool := false
  deriving DecidableEq, Repr

/-- A MSG flit kept for replay (R191): its SEQ, class, bytes carried, whether it ends its message, and resends. -/
structure ReplayFlit where
  seq : Nat
  cls : Nat
  bytes : Nat
  last : Bool
  resent : Nat := 0
  msg : TxMsg
  deriving DecidableEq, Repr

/-- One lane (a port, or one of the four slots of a child port): R191 to R198 beyond its registers.  `st` is the STATE
code of R209; `got` holds, for each class, the bytes of a message that is being received; `done` the messages received in
full and not yet delivered; `arrived` the PCS stamps (R164) of the LINK messages being received or not yet delivered, `lastIn` that of the
last one delivered; `calm` says that the lane has been UP for 1 s since its last failure; `lastRx` is when the last valid flit came
or the lane came UP (R33); `wire` the flits last driven, none in electrical idle. -/
structure LaneX where
  st : Nat := 0
  nextSeq : Nat := 0
  expSeq : Nat := 0
  nakDue : Bool := false
  awaitSeq : Bool := false
  replay : List ReplayFlit := []
  resend : List Nat := []
  credit : List Nat := [64, 64, 64, 64, 64, 64, 64]
  creditDue : List Nat := [0, 0, 0, 0, 0, 0, 0]
  got : List (Nat × List Nat) := []
  done : List (Nat × List Nat) := []
  arrived : List Nat := []
  lastIn : Option Nat := none
  fails : List Nat := []
  episode : Nat := 0
  upSince : Nat := 0
  calm : Bool := false
  lastRx : Nat := 0
  held6 : Bool := false
  restarted : Bool := true
  rr : Nat := 0
  turns : List (Nat × Nat) := []
  wire : List Flit := []
  deriving DecidableEq, Repr

/-- Parent selection of a sentinel (R30 to R38): state 0 PRIMARY, 1 ATTACHING_ALT, 2 ALTERNATE, 3 ORPHAN; aborts acted on; while ORPHAN the
upward messages kept for the next parent, oldest first, and the records dropped since the last LOSS record. -/
structure ParentX where
  st : Nat := 0
  primary : Nat := 0
  alternate : Nat := 0
  resent : Bool := false
  acted : List (Nat × Nat) := []
  kept : List TxMsg := []
  orphanDrops : Nat := 0
  deriving DecidableEq, Repr

/-- A queue of the Uplink Scheduler with its start-time fair queuing tags (R248): `key` is the queue number q for a
class queue, or 4,096 + 64 p' + s for slot s of port p'. -/
structure FairTag where
  key : Nat
  start : Nat := 0
  finish : Nat := 0
  deriving DecidableEq, Repr

/-- The Uplink Scheduler (R245 to R250) beyond its registers. -/
structure UschX where
  tags : List FairTag := []
  v : List (Nat × Nat) := []
  run : List (Nat × Nat) := []
  deriving DecidableEq, Repr

/-! ## Chapter 03: bandwidth windows -/

/-- One bandwidth window in progress (R100): its number, whether its intervals have begun, when the present one began in Time Unit time, and the
sum so far. -/
structure BwX where
  w : Nat
  begun : Bool := false
  at_ : Nat := 0
  acc : Nat := 0
  deriving DecidableEq, Repr

/-! ## Chapter 05: the Time Unit -/

/-- One entry of the launch queue (R172): target, port mask, frame buffer index, COMP, and the ports still to launch. -/
structure LaunchEntry where
  target : Nat
  ports : Nat
  frame : Nat
  comp : Bool
  deriving DecidableEq, Repr

/-- A load that the next tick makes (R159, R165): TIME_NS and the fraction, or the tideline value of that tick moved by `d`. -/
inductive TimeLoadReq where
  | abs (ns frac : Nat)
  | rel (d : Int)
  deriving DecidableEq, Repr

/-- A clock whose Announce has come on a management port (R160): its own identity, its grandmaster's, and the data set by which the best
master clock algorithm ranks it. -/
structure PtpMaster where
  port : Nat
  src : Nat
  gm : Nat
  rank : List Nat
  deriving DecidableEq, Repr

/-- The PTP state of a sentinel (R160, R171): the clocks announced; the timestamp FIFOs, which hold the arrival of each two-step Sync (port,
clock, sequence, stamp) and the departure of each Delay_Req (port, sequence, stamp); the Sync that waits for its Delay_Resp (port, clock,
origin, arrival); the next sequence number; and the messages sent (port,
sender, sequence number, body). (PRESUMED: log 113.) -/
structure PtpX where
  masters : List PtpMaster := []
  syncs : List (Nat × Nat × Nat × Nat) := []
  reqs : List (Nat × Nat × Nat) := []
  half : Option (Nat × Nat × Nat × Nat) := none
  seq : Nat := 0
  out : List (Nat × Nat × Nat × PtpMsg) := []
  deriving DecidableEq, Repr

/-- The Time Unit beyond its registers: the time that its ticks have added, 2^-32 ns, which no load moves; the load of the next tick (R159);
how many PCS stamps have been taken (R164); the last sample's master and the fraction of the last PPS_IN stamp; PTP; the frames launched
on management ports (R172); the outstanding exchange's t1 in 1/256 ns (R163), the last θ, runs of exchanges
outside and inside the bound (R167), when the holdover began, the server's holdover flag, the state of PPS_OUT, the last
edges (R176, R178), the PTP domain, the launch queue, and the prepared frames by index (R172). -/
structure TimeX where
  elapsed : Nat := 0
  load : Option TimeLoadReq := none
  stamps : Nat := 0
  master : Nat := 0
  ppsFrac : Nat := 0
  ptp : PtpX := {}
  sent : List (Nat × Body) := []
  t1 : Option Nat := none
  theta : Int := 0
  badRun : Nat := 0
  goodRun : Nat := 0
  holdSince : Nat := 0
  serverHold : Bool := false
  serverOut : Bool := false
  source : Nat := 0
  ppsOut : Bool := false
  lastPps : Option Nat := none
  ptpDomain : Nat := 0
  launch : List LaunchEntry := []
  frames : List (Nat × Body) := []
  deriving DecidableEq, Repr

/-! ## Chapter 08: sync objects -/

/-- A sync object (R268) that is not FREE with every field 0.  `st` is 0 FREE, 1 ACTIVE, 2 GUARD; `armed` says whether a
gate has been armed since its ALLOC (R275). -/
structure SyncObj where
  num : Nat
  value : Nat := 0
  target : Nat := 0
  jobtag : Nat := 0
  st : Nat := 0
  reached : Bool := false
  failed : Bool := false
  kind : Nat := 0
  attempt : Nat := 0
  epoch : Nat := 0
  guardEnd : Nat := 0
  waiters : Nat := 0
  mirrorHandle : Nat := 0
  mirrorNode : Nat := 0
  lastTime : Nat := 0
  lastSrc : Nat := 0
  updates : Nat := 0
  armed : Bool := false
  given : Option Nat := none
  deriving DecidableEq, Repr

/-- A home that a local requester's remote operations have touched since its last SYNC_FENCE (R286), and the object that the last of them named. -/
structure SyncHome where
  who : Nat
  node : Nat
  jobtag : Nat
  handle : Nat
  deriving DecidableEq, Repr

/-- The sync objects of a device, and for its local requesters the homes that their remote operations have touched since
their last SYNC_FENCE, and those whose SYNC_STATE a fence or an ACK_REQ waits for: (requester, node). -/
structure SyncX where
  objs : List SyncObj := []
  homes : List SyncHome := []
  awaited : List (Nat × Nat) := []
  fencing : List Nat := []
  deriving DecidableEq, Repr

/-! ## Chapter 13: the fault collector -/

/-- The sliding window of one source (R459): the counts of the current sub-window and the seven before it. -/
structure FaultWin where
  src : Nat
  subs : List Nat := []
  deriving DecidableEq, Repr

/-- One channel's episode (R472): the source and slot (255 for none), times of its failures in the last 10 s, the retry
of the episode, whether an episode is open, and since when the channel has been in service. -/
structure ChanX where
  src : Nat
  slot : Nat := 255
  st : Nat := 0
  fails : List Nat := []
  retry : Nat := 0
  inEpisode : Bool := false
  since : Nat := 0
  deriving DecidableEq, Repr

/-- The fault collector beyond its registers. -/
structure FaultX where
  wins : List FaultWin := []
  chans : List ChanX := []
  deriving DecidableEq, Repr

/-! ## Chapter 16: the interrupt controllers and resets in progress -/

/-- An interrupt controller (R574 to R578): pending edge requests, level lines that are high, private requests pending
as (core, k), and each core's stack of (ID, priority), top first. -/
structure AicX where
  pend : List Nat := []
  lines : List Nat := []
  ppend : List (Nat × Nat) := []
  plines : List Nat := []
  nests : List (List (Nat × Nat)) := []
  deriving DecidableEq, Repr

/-- A sub-block or engine reset in progress (R72, R581): its bit, mode, cause, units of work in flight at the quiesce,
units completed and discarded, when it began, and whether the drain stage has ended. -/
structure ResetRun where
  bit : Nat
  mode : Nat
  cause : Nat
  inFlight : Nat := 0
  done : Nat := 0
  discarded : Nat := 0
  began : Nat := 0
  drained : Bool := false
  deriving DecidableEq, Repr

/-- What the device must do after a fault (R464, R466, R472): take a unit out of service, reset it, or act on a
retired channel, take note of a load of time, of a lane that changed or of a die's risk level, of slice results or of a job's end, act on a securing fan-out or on a
securing message to itself, take note of a join barrier that closes, pass a sync operation on to the members of a whole job, or answer the mailbox commands that wait for `key`. -/
inductive React where
  | isolate (src : Nat)
  | reset (src : Nat)
  | retired (src : Nat)
  | trigger
  | timeLoaded
  | laneUp (p slot : Nat)
  | laneDown (p slot : Nat)
  | fbTry
  | risk (d old new : Nat)
  | slices
  | jobEnded (tag reason : Nat)
  | secFan (m : FanMsg) (home : Nat)
  | secMsg (origin code : Nat) (p : List Nat)
  | joined (tag expected arrived : Nat)
  | wholeJob (tag : Nat) (payload : List Nat)
  | opDone (key status : Nat) (data : List Nat)
  deriving DecidableEq, Repr

/-! ## Chapter 17: mailboxes -/

/-- A posted command (R598, R602): posting order, when it was posted, and what it waits for once it is in service. -/
structure PostedX where
  n : Nat
  cmd : Cmd
  at_ : Nat
  wait : Option Nat := none
  deriving DecidableEq, Repr

/-- The response that a mailbox holds (R597). -/
structure RespX where
  path : Nat
  mb : Nat
  status : Nat
  tag : Nat
  hint : Nat := 0
  handle : Nat := 0
  data : List Nat := []
  deriving DecidableEq, Repr

/-- A long operation (R616): state 0 RUNNING, 1 SUSPENDED, 2 ENDED; the path that started it (255: the device); C0 to C3
but for the one that counts milliseconds. -/
structure OpX where
  slot : Nat
  gen : Nat
  kind : Nat
  path : Nat
  jobtag : Nat := 0
  state : Nat := 0
  kstate : Nat := 0
  final : Nat := 0
  outcome : Nat := 0
  cs : List Nat := [0, 0, 0, 0]
  began : Nat
  ended : Nat := 0
  cancel : Bool := false
  deriving DecidableEq, Repr

/-- A staged object (R615): where its bytes lie in HBM, whether it is closed, and when a command last touched it. -/
structure StageX where
  id : Nat
  addr : Nat
  len : Nat
  closed : Bool := false
  touched : Nat
  deriving DecidableEq, Repr

/-- A request in the reverse host mailbox (R593, R620): its code, its parameters and when it was posted. -/
structure RevX where
  code : Nat
  params : List Nat
  at_ : Nat
  deriving DecidableEq, Repr

/-- Mailboxes, long operations, staged objects, and for each Ethernet mailbox the SEQ kept (R622).  `area` holds the header and parameter
bytes of every mailbox as (mailbox x 4,096 + offset, byte); `muted` lists the mailboxes whose response is discarded (R608). -/
structure MbX where
  next : Nat := 0
  area : List Host.Cell := []
  posted : List PostedX := []
  resps : List RespX := []
  muted : List Nat := []
  ops : List OpX := []
  gens : List (Nat × Nat) := []
  stages : List StageX := []
  nextStage : Nat := 1
  kept : List (Nat × Nat) := []
  rev : Option RevX := none
  deriving DecidableEq, Repr

/-! ## Chapter 16: the Management Complex -/

/-- The firmware complex of a device (R571 to R573, R585 to R587): when each core's watchdog last restarted, its stage and last expiry, the
cores in reset, the core that carries each role when it is not its own, (busy, cores) of the last ten milliseconds, since when it sheds,
resets of the complex since chip reset, when STATUS_SUMMARY was last sent and the values it took its deltas from, when the last batch was stored, when LOAD was last
above 85 % or shedding; on the DDU its shedding threshold and the
period of its watchdogs, for which the spec gives no address. (PRESUMED: log 80.) -/
structure McX where
  kicks : List (Nat × Nat) := []
  warned : List Nat := []
  expired : List (Nat × Nat) := []
  down : List Nat := []
  roles : List (Nat × Nat) := []
  busy : List (Nat × Nat) := []
  shed : Option Nat := none
  resets : Nat := 0
  summaryAt : Nat := 0
  summary : List Nat := []
  batchAt : Nat := 0
  highAt : Nat := 0
  shedPct : Nat := 85
  wdogMs : Nat := 100
  deriving DecidableEq, Repr

/-! ## What both devices have -/

/-- What the DDU and the sentinel have alike: registers, recorder, record numbering, messages and lanes, events,
counters in progress, the pairs of performance counters that are chained (R116), the Time Unit's fraction, what a fault has left the device to do, the MSI-X vectors that the step has raised,
the malformed records that each reading block has discarded (R16), and the late aborts (R45). -/
structure Node where
  dev : Dev
  regs : RegFile := []
  seqs : List (Nat × Nat) := []
  recx : RecorderX := {}
  written : Nat := 0
  limited : Nat := 0
  txq : List TxMsg := []
  lossDue : List (Nat × Nat × Nat) := []
  delivered : List (Nat × Nat) := []
  lanes : List (Nat × LaneX) := []
  fbHost : List (Nat × Nat) := []
  parent : ParentX := {}
  usch : UschX := {}
  evs : List EvPath := []
  bw : List BwX := []
  preAcc : List (Nat × Nat) := []
  pchain : List Nat := []
  frac : Nat := 0
  timex : TimeX := {}
  sync : SyncX := {}
  flt : FaultX := {}
  aic : AicX := {}
  resets : List ResetRun := []
  due : List React := []
  mb : MbX := {}
  mc : McX := {}
  msi : List Nat := []
  tostore : List Record := []
  badRecs : List (Nat × Nat) := []
  abortLate : Nat := 0
  opHold : Bool := false
  shareHold : List Nat := []
  deriving DecidableEq, Repr

/-! ## The DDU: chapters 02 to 05 -/

/-- The DDU's boundary (chapter 02): pins, since when HOST_ACTIVE is low, the two always-on FIFOs (reports with their cells; markers with their stamps,
whether they waited, and the reports accepted before them), the skip epoch, the regulator hook, and the lifecycle fused since manufacture (R645). (PRESUMED: log 5.) (DESIGN CHOICE: log 23.) -/
structure BoundaryX where
  hostActive : Bool := false
  aonPgood : Bool := true
  corePgood : Bool := true
  resetN : Bool := false
  engineBusy : Nat := 0
  lowAt : Nat := 0
  chkFifo : List (Report × Nat) := []
  markFifo : List (Nat × Nat × Bool × Nat) := []
  skipEpoch : Option Nat := none
  clkStretch : Bool := false
  regReq : Option Nat := none
  regSet : Nat := 0
  markDropped : Nat := 0
  fused : Option Nat := none
  deriving DecidableEq, Repr

/-- An open command stream (R97): TAG, EPOCH and stamp of its start marker, whether it was deferred, the start values
of the snapshot set in entry order, which of the set were chained then, and the counters cleared since. -/
structure StreamX where
  stream : Nat
  tag : Nat
  epoch : Nat
  startNs : Nat
  deferred : Bool
  start : List Nat
  chain : List Nat := []
  cleared : List Nat := []
  deriving DecidableEq, Repr

/-- The Sensor Hub beyond its registers (R106 to R108): channels whose filter holds a value, when each channel last completed a conversion, channels
whose HIGH and LOW crossings have not re-armed, and channels with a sample since MINMAX was read. -/
structure SensorX where
  seeded : List Nat := []
  last : List (Nat × Nat) := []
  minmax : List Nat := []
  high : List Nat := []
  low : List Nat := []
  deriving DecidableEq, Repr

/-- What the trace stream knows of one core (R122, R123): whether it needs a CORE_SYNC and why, or a CONTEXT, its next instruction to retire,
its last time reference and last CORE_SYNC, its JobTag and privilege level, tap overflow and drops (R124). -/
structure TraceCore where
  core : Nat
  need : Option Nat := some 0
  ctx : Bool := false
  pc : Nat := 0
  lastRef : Nat := 0
  lastSync : Nat := 0
  jobtag : Nat := 0
  level : Nat := 0
  tapOver : Bool := false
  dropped : Nat := 0
  deriving DecidableEq, Repr

/-- A trace export of the die (R139): its handle's low word, whether it is suspended, the blocks still to send as they were at its start with
their stream offsets, and the blocks sent. -/
structure TraceExport where
  handle : Nat
  suspended : Bool := false
  left : List (Nat × List Nat)
  sent : Nat := 0
  deriving DecidableEq, Repr

/-- The Trace Unit beyond its registers (R119 to R130): the current block's bytes and position, complete blocks since
arming, the buffer's blocks by index with their stream offset, Headland blocks and trigger block, post-trigger bytes,
staged blocks, packets dropped in this loss episode, triggers taken, and the REASON that the next block's SYNC has to carry after an exit from
Slack. -/
structure TraceX where
  cur : List Nat := []
  open_ : Bool := false
  idx : Nat := 0
  off : Nat := 0
  complete : Nat := 0
  blocks : List (Nat × Nat × List Nat) := []
  headland : List Nat := []
  trigIdx : Nat := 0
  post : Nat := 0
  postOn : Bool := false
  staging : List (List Nat) := []
  inStage : Bool := false
  loss : Nat := 0
  trigSeq : Nat := 0
  cores : List TraceCore := []
  firstReason : Option Nat := none
  draining : Nat := 0
  exp : Option TraceExport := none
  byDebug : Bool := false
  deriving DecidableEq, Repr

/-- A write that the host fabric initiator issued (R57): its kind (0 fallback, 1 snoop, 2 spill), address, and
bytes or message. -/
structure FabricOut where
  kind : Nat
  addr : Nat
  bytes : List Nat
  msg : Option Msg := none
  deriving DecidableEq, Repr

/-- Fallback through a sibling (R202 to R204): as a guest, the list entry in use, whether its host has accepted, whether
the list is exhausted, and the messages relayed; as a host, the guests as (die, when it last wrote); the bytes of the receive ring and where
the next message goes in it; and what waits for the host fabric initiator, in its order. -/
structure FbX where
  entry : Nat := 0
  accepted : Bool := false
  exhausted : Bool := false
  relayed : Nat := 0
  guests : List (Nat × Nat) := []
  ring : List Host.Cell := []
  ringAt : Nat := 0
  queue : List (Nat × Msg) := []
  deriving DecidableEq, Repr

/-- What a JOB_START gives a die (R261, R262). -/
structure JobStart where
  tag : Nat
  flags : Nat := 0
  stepFirst : Nat := 0
  rank : Nat := 0
  deriving DecidableEq, Repr

/-- The DDU's job logic (R262 to R277) beyond its registers: the held job and since when, the time of JOB_END, the gate pair
in use and the one released last, the join that waits for a pair, the fan-outs it keeps under R241, its VERDICT group,
the objects released at JOB_END, for each (epoch, attempt) the records sent (R284), and of a scrub that waits for its source fence the bytes
erased and whether the fence covers all its records (R286). -/
structure JobX where
  held : Option JobStart := none
  heldAt : Nat := 0
  endAt : Nat := 0
  pair : Nat := 0
  lastPair : Nat := 2
  waiting : Option JobStart := none
  kept : List (Nat × Nat) := []
  refused : List (Nat × Nat) := []
  verdictGroup : Nat := 0
  released : Nat := 0
  sent : List (Nat × Nat × Nat) := []
  scrubbed : Option (Nat × Bool) := none
  deriving DecidableEq, Repr

/-- The summary generator (R212 to R217): the entries in effect with their values at the window's start, and for each sensor
channel the largest and smallest latest sample of the window. -/
structure SumX where
  act : List (Nat × Nat × Nat) := []
  smax : List (Nat × Int) := []
  smin : List (Nat × Int) := []
  deriving DecidableEq, Repr

/-- The Feature Front End and Local Rule Bank (R328 to R332): whether a first evaluation has passed, the values at the last
one, the extremes since, and the floors as (class, level, expiry). -/
structure LrbX where
  seen : Bool := false
  prev : List (Nat × Nat) := []
  smax : List (Nat × Int) := []
  smin : List (Nat × Int) := []
  floors : List (Nat × Nat × Nat) := []
  at_ : Option (Nat × Bool) := none
  deriving DecidableEq, Repr

/-! ## Chapter 15: the DDU's power controller -/

/-- A valid entry of the phase table (R552): index, SOURCE, PHASE, SAMPLES, SIGNATURE, SHARE, DEMAND_W, AVG_W, LAST_USED,
CLASS_W, JOB_ID, and when a marker, and anything, last used it. -/
structure PhaseEnt where
  e : Nat
  source : Nat
  phase : Nat := 0xFF
  samples : Nat := 0
  sig : List Nat := [0, 0, 0, 0, 0, 0, 0, 0]
  share : List Nat := [32, 32, 32, 32, 32, 32, 32, 32]
  demand : Nat := 0
  avg : Nat := 0
  ltime : Nat := 0
  classW : List Nat := [0, 0, 0, 0, 0, 0, 0, 0]
  job : Nat := 0
  markAt : Option Nat := none
  usedAt : Nat := 0
  deriving DecidableEq, Repr

/-- A rail at work (R562): disagreeing windows in a row, windows in its state, windows of the recalibration still to come
and their sums, and when WATCH began. -/
structure RailX where
  r : Nat
  run : Nat := 0
  inState : Nat := 0
  cal : Nat := 0
  sumM : Nat := 0
  sumE : Nat := 0
  watchAt : Nat := 0
  deriving DecidableEq, Repr

/-- The power controller beyond its registers: since when the state of R542 holds, the last cap and the one that waits for
a window boundary, the levels of each loop by class, their windows below the thresholds, the droop loop's counts, ticks
accrued by reason, the class totals at the last window, rails, phases, the last marker, the entry that takes effect at
the next window, and the unthrottled estimate. -/
structure PwrX where
  since : Nat := 0
  capAt : Nat := 0
  capNext : Option Nat := none
  thermal : List Nat := [0, 0, 0, 0, 0, 0, 0, 0]
  cap : List Nat := [0, 0, 0, 0, 0, 0, 0, 0]
  droop : List Nat := [0, 0, 0, 0, 0, 0, 0, 0]
  current : List Nat := [0, 0, 0, 0, 0, 0, 0, 0]
  cool : Nat := 0
  curCool : List Nat := [0, 0, 0, 0, 0, 0, 0, 0]
  noTherm : Bool := false
  win : Nat := 0
  stretches : Nat := 0
  raised : Bool := false
  hold : Nat := 0
  held : Nat := 0
  stretchAt : Nat := 0
  strTicks : Nat := 0
  ticks : List Nat := [0, 0, 0, 0, 0, 0]
  totals : List Nat := [0, 0, 0, 0, 0, 0, 0, 0]
  rails : List RailX := []
  phases : List PhaseEnt := []
  markAt : Option Nat := none
  select : Option (Option Nat) := none
  unthrottled : Nat := 0
  woke : Nat := 0
  deriving DecidableEq, Repr

/-! ## Chapter 11: checking and sampling on the die -/

/-- What the die knows of one tile of an epoch's attempt (R386, R388, R419): its unit and cell, whether R385 selects it, whether
its report has been checked, and whether it was posted or skipped. -/
structure TileX where
  tile : Nat
  unit : Nat
  cell : Nat
  sel : Bool := false
  rep : Bool := false
  posted : Bool := false
  skipped : Bool := false
  deriving DecidableEq, Repr

/-- The counts of EPOCH_SUMMARY for one epoch and attempt (R419), with its tiles and the CHK_MISMATCH records sent. -/
structure EpochX where
  epoch : Nat
  attempt : Nat
  checked : Nat := 0
  mismatches : Nat := 0
  selected : Nat := 0
  snooped : Nat := 0
  skipped : Nat := 0
  missing : Nat := 0
  unbounded : Nat := 0
  sent : Nat := 0
  tiles : List TileX := []
  deriving DecidableEq, Repr

/-- An accepted snoop slot in posting order (R389): slot, its fields as posted, attempt, cell, whether its sections have been
read, and LEN and CRC by section. -/
structure SnoopX where
  slot : Nat
  val : Nat
  attempt : Nat := 0
  cell : Nat := 0
  served : Bool := false
  lens : List Nat := []
  crcs : List Nat := []
  deriving DecidableEq, Repr

/-- The ABFT Checker and Snoop DMA beyond their registers: reports accepted since reset; bytes read that do not make up 64 yet (R80); epochs; slots; closing markers as
(epoch, attempt, reports accepted before); the masks that DDU_SUSPECT held before, newest first, with the epoch from which each held (R387); and the
unit of every tile reported, by epoch (R419). -/
structure AbftX where
  accepted : Nat := 0
  readRem : Nat := 0
  epochs : List EpochX := []
  slots : List SnoopX := []
  closing : List (Nat × Nat × Nat) := []
  masks : List (Nat × List Nat) := []
  reps : List (Nat × Nat × Nat) := []
  deriving DecidableEq, Repr

/-! ## Chapter 14: the die ledger -/

/-- A unit entry (R493). -/
structure UnitEnt where
  u : Nat
  cells : Nat := 0
  state : Nat := 0
  isolated : Bool := false
  worst : Nat := 0
  worstFails : Nat := 0
  fails : Nat := 0
  stateAt : Nat := 0
  isoAt : Nat := 0
  deriving DecidableEq, Repr

/-- CONTROL, CHANNELS, CALIB, PHASE and UNITS of a snapshot (R492): channels as (channel, retired, change LTIME), sensor
calibration and unit diodes where they differ from their reset values, and the units that have an entry. -/
structure DieImage where
  index : Nat := 0
  tray : Nat := 0
  port : Nat := 0
  moves : Nat := 0
  firstMount : Nat := 0
  reconciled : Nat := 0
  fails : Nat := 0
  proposals : Nat := 0
  campaigns : Nat := 0
  chans : List (Nat × Bool × Nat) := []
  cal : List (Nat × Nat) := []
  tedges : List Nat := [2880, 3520, 4160, 4800, 5440, 6080, 6720]
  diodes : List (Nat × Nat) := []
  phases : List PhaseEnt := []
  units : List UnitEnt := []
  deriving DecidableEq, Repr

/-- A snapshot half (R492): FORMAT, FORMAT_ALT, SEQ, LTIME and its image. (DESIGN CHOICE: log 71.) -/
structure LedHalf where
  format : Nat
  alt : Nat
  seq : Nat
  ltime : Nat
  image : DieImage
  deriving DecidableEq, Repr

/-- The die ledger (R491 to R496): both halves, the journal's slots as bytes with the image after each, the SEQ of their trailers, the
bytes that the journal region held before its last restart, and the working state. -/
structure LedgerX where
  a : Option LedHalf := none
  b : Option LedHalf := none
  journal : List (List Nat × DieImage) := []
  jtag : Nat := 0
  stale : List Nat := []
  image : DieImage := {}
  deriving DecidableEq, Repr

/-! ## Chapter 12: securing on the die -/

/-- An accepted secure slot in posting order (R427): its fields as posted, and whether its ranges have been read. -/
structure SecSlot where
  slot : Nat
  val : Nat
  deriving DecidableEq, Repr

/-- Securing on the die (R426, R427): slots, the posted tensors of the pending cut as (TENSOR_ID, changed, VERSION, length),
whether the LAST slot has been served and the source fence after it has begun, whether a SUSPEND holds the reads (R436), and the methods of the
committed and of the pending cut (R429). -/
structure DieSec where
  slots : List SecSlot := []
  posted : List (Nat × Bool × Nat × Nat) := []
  last : Bool := false
  fencing : Bool := false
  held : Bool := false
  methods : List Nat := []
  building : List Nat := []
  deriving DecidableEq, Repr

--DDUTYPES

/-- The DDU beyond its registers; `pattern` is the handle and the target cell of the campaign that drives it (R413). (DESIGN CHOICE: log 1.) -/
structure Ddu where
  n : Node
  bnd : BoundaryX := {}
  streams : List StreamX := []
  sens : SensorX := {}
  trc : TraceX := {}
  fabric : List FabricOut := []
  fb : FbX := {}
  job : JobX := {}
  sum : SumX := {}
  lrb : LrbX := {}
  pw : PwrX := {}
  chk : AbftX := {}
  led : LedgerX := {}
  sec : DieSec := {}
  pattern : Option (Nat × Nat) := none
  deriving DecidableEq, Repr

/-- Precise sampling (R117): for each core, the occurrences until its next sample, and the entries of the buffer. -/
structure PsampX where
  next : List (Nat × Nat) := []
  deriving DecidableEq, Repr

/-- A child of an open fan-out (R242): child slot, state 0 SENT, 1 PENDING, 2 RESENT, 3 RELAYING, 4 DONE, 5 MISSING,
and members beneath it. -/
structure FanChild where
  c : Nat
  st : Nat := 0
  dies : Nat
  deriving DecidableEq, Repr

/-- A fan-out at a node (R239 to R244): the message and its originator; the root's buffer, or the failed child and the
requester of a relay; where the answer goes; the children; counts; and whether the final answer has been sent. -/
structure FanX where
  msg : FanMsg
  origin : Nat
  root : Option Nat := none
  relay : Option (Nat × Nat) := none
  port : Nat := 0
  slot : Nat := 0
  sender : Nat := 0
  children : List FanChild := []
  expected : Nat := 0
  acked : Nat := 0
  miss : List (Nat × Nat) := []
  trunc : Bool := false
  done : Bool := false
  deriving DecidableEq, Repr

/-- A job entry beyond ABL_JOB (R264): its member children with the dies beneath each, the ranges of its JOB_STARTs with their RANK_FIRST
and JFLAGS, its securing root (R423), the REASON of its JOB_END, and the children whose SCRUB_DONE has arrived. -/
structure JobA where
  slot : Nat
  members : List (Nat × Nat) := []
  ranges : List (Nat × Nat) := []
  ranks : List Nat := []
  flags : Nat := 0
  root : Nat := 0
  reason : Nat := 0
  scrubbed : List Nat := []
  deriving DecidableEq, Repr

/-- An operator's state (R220): the numbers of its layout in order, N, and the EFLAGS of R223. -/
structure RedEnt where
  vals : List Int := []
  n : Nat := 0
  sat : Bool := false
  missed : Bool := false
  withheld : Bool := false
  deriving DecidableEq, Repr

/-- What one child has contributed to one slot in one input window: the dies present, the state, and of a die the last VALUE
and whether its VFLAGS hide it (R296). -/
structure RedGot where
  c : Nat
  dies : Nat
  ent : RedEnt
  raw : Int := 0
  hidden : Bool := false
  deriving DecidableEq, Repr

/-- A metric slot at work (R224 to R226): its oldest open input window, contributions by window, the output windows in
progress, and the contributions of the window closed last. -/
structure RedSlot where
  m : Nat
  next : Nat
  wins : List (Nat × List RedGot) := []
  outs : List (Nat × RedEnt) := []
  last : List RedGot := []
  deriving DecidableEq, Repr

/-- The frame of one (JOBTAG, OUT_PERIOD) and output window (R226, R228): the smallest DIES_PRESENT so far, the missing
children, and whether an adopted child contributed. -/
structure RedFrame where
  jobtag : Nat
  out : Nat
  w : Nat
  present : Option Nat := none
  missing : Nat := 0
  adopted : Bool := false
  deriving DecidableEq, Repr

/-- A baseline cell beyond ABL_RED_BASE (R230 to R233). -/
structure BaseX where
  k : Nat
  count : Nat := 0
  run : Nat := 0
  alarmed : Bool := false
  z : Nat := 0
  deriving DecidableEq, Repr

/-- The Reduction Engine's windows: slots, frames, the children's last known DIES_EXPECTED by JobTag and child, and
baseline cells. -/
structure RedX where
  slots : List RedSlot := []
  frames : List RedFrame := []
  known : List (Nat × Nat × Nat) := []
  cells : List BaseX := []
  owed : List FanMsg := []
  deriving DecidableEq, Repr

/-- One child in a barrier instance (R235): expected arrivals, arrivals, FIRST and LAST with their dies. -/
structure BarChild where
  c : Nat
  expected : Nat
  count : Nat := 0
  first : Option (Nat × Nat) := none
  last : Option (Nat × Nat) := none
  deriving DecidableEq, Repr

/-- An open barrier instance (R235). -/
structure BarX where
  jobtag : Nat
  tag : Nat
  epoch : Nat
  began : Nat
  kids : List BarChild := []
  deriving DecidableEq, Repr

/-! ## Chapter 09: the Tree Engine -/

/-- A feature (R296, R316). -/
structure TreeFeat where
  kind : Nat
  float : Bool
  src : Nat
  scale : Nat
  bias : Nat
  lut : Nat
  thr : List Nat
  deriving DecidableEq, Repr

/-- A tree (R316): its root, its output, and its physical bank. -/
structure TreeRow where
  node : Nat
  map : Nat
  out : Nat
  bank : Nat
  deriving DecidableEq, Repr

/-- A TCAM entry (R301, R303) with its physical bank. -/
structure TreeEnt where
  bank : Nat
  key : Nat
  mask : Nat
  res : Nat
  deriving DecidableEq, Repr

/-- An output's link (R307). -/
structure TreeOut where
  link : Nat
  scale : Nat
  bias : Nat
  table : List Nat := []
  deriving DecidableEq, Repr

/-- A resident model (R315 to R319) in its slot. -/
structure TreeModel where
  slot : Nat
  feats : List TreeFeat
  luts : List (List Nat)
  maps : List (List Nat)
  trees : List TreeRow
  ents : List TreeEnt
  outs : List TreeOut
  stages : Nat
  deriving DecidableEq, Repr

/-- A sample in flight (R292, R295): its binding (128 for a firmware submit), subject, window, JobTag, the model with which it
started, its bins, and whether it waits for the engine's clocks. -/
structure TreeSample where
  i : Nat
  c : Nat
  w : Nat
  jobtag : Nat
  model : TreeModel
  bins : List Nat
  bind : Nat := 0
  waiting : Bool := false
  deriving DecidableEq, Repr

/-- The Tree Engine beyond its registers: models, samples, drops in the present run by binding, the latest scores as
(binding, subject, score, the end of its 10 s), since when each die's scores lie below its band, and for each model slot the last MODEL_FAULT
and the events since. -/
structure TreeX where
  models : List TreeModel := []
  samples : List TreeSample := []
  drops : List (Nat × Nat) := []
  scores : List (Nat × Nat × Nat × Nat) := []
  below : List (Nat × Nat) := []
  faults : List (Nat × Nat × Nat) := []
  deriving DecidableEq, Repr

/-! ## Chapter 10: the Replay Grid -/

/-- A command of a replay program (R358). -/
structure GridCmd where
  op : Nat
  fmt : Nat
  flags : Nat
  args : List Nat
  deriving DecidableEq, Repr

/-- A bundle (R357). -/
structure Bundle where
  jobtag : Nat
  epoch : Nat
  tile : Nat
  die : Nat
  format : Nat
  attempt : Nat
  m : Nat
  n : Nat
  k : Nat
  prog : Nat
  secs : List (List Nat)
  deriving DecidableEq, Repr

/-- How a load's known-answer run ended (R361): its microseconds, cores, and mismatches, first index and compare, or none when it
faulted or ran over. -/
structure KatEnd where
  us : Nat
  part : List Nat
  got : Option (Nat × Nat × Nat)
  deriving DecidableEq, Repr

/-- A program in a slot (R360 to R362): its streams, constants, known-answer bundle with the expected mismatches, first index
and compare, the known-answer runs of its load, and the offset of each stream in the image (R359). -/
structure GridProg where
  slot : Nat
  format : Nat
  shape : Nat
  wUs : Nat
  sliceMax : Nat
  len : Nat
  streams : List (List GridCmd)
  consts : List Nat
  kat : Bundle
  expect : Nat × Nat × Nat
  ends : List KatEnd := []
  offs : List Nat := []
  deriving DecidableEq, Repr

/-- The first mismatch that a core or slice keeps (R358, R359): compare ID, index, element bits, die and replay values. -/
structure FirstMiss where
  cmp : Nat
  idx : Nat
  bits : Nat
  die : Nat
  replay : Nat
  deriving DecidableEq, Repr

/-- A LOOP in progress (R358, R359): where its body begins and ends, the iteration, the count, and the increments. -/
structure LoopX where
  first : Nat
  last : Nat
  i : Nat
  count : Nat
  incs : List Nat
  deriving DecidableEq, Repr

/-- A LOAD on a stream engine (R340): the stream, the command's argument values, and the source bytes at its issue. -/
structure AsyncX where
  stream : Nat
  args : List Nat
  issued : List Nat
  deriving DecidableEq, Repr

/-- A core that runs a stream (R335 to R340, R358): `st` 0 executing, 1 in SEND, 2 in RECV, 3 in WAIT, 4 at END. -/
structure GridCore where
  core : Nat
  k : Nat
  pc : Nat := 0
  st : Nat := 0
  loops : List LoopX := []
  mem : List Host.Cell := []
  async : List AsyncX := []
  nc : Option Nat := none
  count : Nat := 0
  first : Option FirstMiss := none
  flags : Nat := 0
  deriving DecidableEq, Repr

/-- A run of a slice on a partition (R366, R367). -/
structure GridRun where
  id : Nat
  part : List Nat
  began : Nat
  cores : List GridCore
  deriving DecidableEq, Repr

/-- A slice (R366, R367): `st` 0 QUEUED, 1 RUNNING, 2 CONFIRM_WAIT, 3 CONFIRMING; `kat` 1 for a known-answer run of a load, 2
for a periodic one, 3 for one of a sweep; `avoid` the cores it is kept away from; the first run's mismatch tally; and whether its context has left BOUND. -/
structure GridSlice where
  id : Nat
  ctx : Nat
  slot : Nat
  bundle : Bundle
  unit : Nat := 0
  cell : Nat := 0
  arrived : Nat
  st : Nat := 0
  since : Nat
  kat : Nat := 0
  requeued : Bool := false
  avoid : List Nat := []
  part : List Nat := []
  tally : Nat × Option FirstMiss := (0, none)
  flags : Nat := 0
  started : Bool := false
  doomed : Bool := false
  deriving DecidableEq, Repr

/-- A slice's result on its way to the verdict logic (R367, R373): RESULT 0 MATCH, else as in SLICE_RESULT. -/
structure SliceOut where
  bundle : Bundle
  unit : Nat
  cell : Nat
  result : Nat
  ctx : Nat
  rflags : Nat := 0
  count : Nat := 0
  first : Option FirstMiss := none
  started : Bool := false
  lastByte : Nat := 0
  slot : Nat := 64
  deriving DecidableEq, Repr

/-- A context beyond its register (R363 to R366): the bundles of its replay window, and the slices placed in the current
millisecond of tideline time. -/
structure GridCtx where
  c : Nat
  window : List (Nat × Nat × Bundle) := []
  ms : Nat := 0
  placed : Nat := 0
  bytes : Nat := 0
  slices : Nat := 0
  seen : Bool := false
  deriving DecidableEq, Repr

/-- A bundle that is arriving (R391). -/
structure IngestX where
  die : Nat
  jobtag : Nat
  epoch : Nat
  tile : Nat
  attempt : Nat
  unit : Nat
  cell : Nat
  secs : List (List Nat) := [[], [], [], []]
  packed : List Nat := []
  hdr : Option (List Nat) := none
  last : Bool := false
  bad : Bool := false
  at_ : Nat
  started : Bool := false
  gone : Bool := false
  deriving DecidableEq, Repr

/-- A grid sweep (R616, KIND 7): its operation, the program it runs, partitions still to run, runs, failures, and the cores isolated when it
began. -/
structure SweepX where
  handle : Nat
  slot : Nat
  left : List (List Nat)
  runs : Nat := 0
  fails : Nat := 0
  iso : Nat := 0
  deriving DecidableEq, Repr

/-- The Replay Grid and ingest beyond their registers. -/
structure GridX where
  progs : List GridProg := []
  slices : List GridSlice := []
  runs : List GridRun := []
  ctxs : List GridCtx := []
  ingest : List IngestX := []
  next : Nat := 0
  katTurn : Nat := 0
  katAt : Nat := 0
  katLast : List (Nat × Nat) := []
  idleAt : Nat := 0
  outs : List SliceOut := []
  scrubbed : List (Nat × Nat × Nat) := []
  sweep : Option SweepX := none
  deriving DecidableEq, Repr

/-! ## Chapter 11: verdicts -/

/-- A verdict entry beyond ABL_VER_EPOCH (R396 to R402): the dies that have fenced, counts, the tiles
reported as SNOOP_SKIPPED as (die, tile), whether a bundle had to start the grid, and
the times of the first fence, the last fence and the last bundle. -/
structure VerX where
  e : Nat
  fenced : List Nat := []
  checked : Nat := 0
  good : Nat := 0
  other : Nat := 0
  skipped : Nat := 0
  started : Bool := false
  firstFence : Nat := 0
  lastFence : Nat := 0
  lastBundle : Option Nat := none
  deriving DecidableEq, Repr

/-- A failure on its way to classification and signature (R406, R408, R417, R418): `kind` 1 replay, 2 checksum, 3 unverified, 4
campaign; `wait` while a checksum mismatch waits for its tile's slice result; `detail` the numbers of key 13 by key; the results of
the repeat runs on the same and on another unit; and whether it has been counted, decided and signed. -/
structure FailX where
  id : Nat
  kind : Nat
  jobtag : Nat
  epoch : Nat
  attempt : Nat
  die : Nat
  unit : Nat := 0xFFFF
  cell : Nat := 0
  tile : Nat := 0
  format : Nat := 0
  slot : Nat := 64
  cmp : Nat := 0
  detail : List (Nat × Nat) := []
  digest : List Nat := []
  time : Nat
  began : Nat
  wait : Bool := false
  replayed : Option Nat := none
  locus : Nat := 0
  cls : Nat := 0
  counted : Bool := false
  asked : Bool := false
  same : Option Nat := none
  cross : Option Nat := none
  signed : Bool := false
  deriving DecidableEq, Repr

/-- What the tray knows of an OBSERVED unit (R410): its die and unit, the LTIME of its last failure, its MATCH tiles since. -/
structure ObsX where
  die : Nat
  unit : Nat
  since : Nat
  good : Nat := 0
  deriving DecidableEq, Repr

/-- A campaign (R411 to R415): its operation, parameters, counts, nanoseconds in the cell, since when the unit has been in the cell,
whether TESTING has been entered, the time limit used and since when it runs, and its outcome. -/
structure CampX where
  handle : Nat
  jobtag : Nat
  die : Nat
  unit : Nat
  cell : Nat
  slot : Nat
  seed : Nat
  target : Nat
  reproN : Nat
  limit : Nat
  tiles : Nat := 0
  bad : Nat := 0
  good : Nat := 0
  inCell : Nat := 0
  cellSince : Option Nat := none
  tested : Bool := false
  used : Nat := 0
  runs : Option Nat := none
  outcome : Nat := 0
  deriving DecidableEq, Repr

/-- A slice result that came before its die's EPOCH_FENCE, and so before a CHK_MISMATCH that may still name its tile (R406). -/
structure ResultX where
  jobtag : Nat
  die : Nat
  epoch : Nat
  attempt : Nat
  tile : Nat
  result : Nat
  slot : Nat
  digest : List Nat
  deriving DecidableEq, Repr

/-- The verdict logic beyond its registers: entries, the key held last by (JobTag, group, parity) as (epoch, attempt), failures, the
next signature number, observed units, campaigns; slice results that came before their die's fence; the last fence by (JobTag, die, parity) as
(epoch, attempt); and the tiles that SNOOP_SKIPPED named, as JobTag, die, epoch, attempt and tile. -/
structure VerdX where
  entries : List VerX := []
  keys : List ((Nat × Nat × Nat) × (Nat × Nat)) := []
  fails : List FailX := []
  nextId : Nat := 0
  sigSeq : Nat := 0
  obs : List ObsX := []
  camps : List CampX := []
  results : List ResultX := []
  fences : List ((Nat × Nat × Nat) × (Nat × Nat)) := []
  skips : List (Nat × Nat × Nat × Nat × Nat) := []
  deriving DecidableEq, Repr

/-! ## Chapter 13: the Breakwater governor -/

/-- A tray's open proposal (R481, R483): `decision` 0 while there is no answer, and when it was last sent. -/
structure PropX where
  die : Nat
  id : Nat
  cls : Nat
  score : Nat := 0
  unit : Nat := 0xFFFF
  cell : Nat := 0
  sig : Nat := 0
  decision : Nat := 0
  sent : Nat
  deriving DecidableEq, Repr

/-- A proposal at the Breakwater node: its tray, fields, arrival time in tideline ns and whether it is admitted. -/
structure BwItem where
  tray : Nat
  die : Nat
  id : Nat
  cls : Nat
  body : List Nat
  at_ : Nat
  admitted : Bool := false
  deriving DecidableEq, Repr

/-- The governor (R480 to R485): a tray's proposals and the next id; a Breakwater node's pool, CAP_PER_HOUR, SPARES, the admissions
of the last 60 minutes as (die, id, time), and the proposals held or admitted. -/
structure GovX where
  props : List PropX := []
  nextId : Nat := 1
  pool : Nat := 0
  cap : Nat := 0
  spares : Nat := 0
  window : List (Nat × Nat × Nat) := []
  items : List BwItem := []
  faults : List (Nat × Nat) := []
  severes : List (Nat × Nat) := []
  deriving DecidableEq, Repr

/-! ## Chapter 14: the history store -/

/-- A failure slot of a cell record (R509). -/
structure CellFail where
  epoch : Nat
  jobtag : Nat
  ltime : Nat
  locus : Nat := 0
  cls : Nat := 0
  kind : Nat := 0
  deriving DecidableEq, Repr

/-- A cell record (R509): failures newest first, MATCH tiles by day. -/
structure CellRec where
  serial : Nat
  unit : Nat
  cell : Nat
  imported : Bool := false
  reproduced : Bool := false
  fails : List CellFail := []
  expose : List (Nat × Nat) := []
  deriving DecidableEq, Repr

/-- A die entry (R508): its image, last port, and DEPARTED LTIME or 0. -/
structure DieRec where
  serial : Nat
  image : DieImage := {}
  port : Nat := 0
  departed : Nat := 0
  deriving DecidableEq, Repr

/-- The essential and ordinary tables (R508): dies, the serial at each port, cells, sources isolated or retired, the governor, the
committed cuts, signatures and events as records, baselines. -/
structure HistTab where
  dies : List DieRec := []
  ports : List (Nat × Nat) := []
  cells : List CellRec := []
  sources : List (Nat × Nat) := []
  cuts : List (Nat × Nat) := []
  holdings : List (Nat × Nat × Nat) := []
  sigs : List (Nat × Record) := []
  events : List Record := []
  baselines : List (Nat × Nat) := []
  deriving DecidableEq, Repr

/-- A stored record (R499, R500): JSEQ, its bytes, its block and offset, the paths on which its MARK is programmed, its order in time,
and the tables and governor after it. -/
structure HsRec where
  jseq : Nat
  bytes : List Nat
  block : Nat
  off : Nat
  marks : List Nat := []
  essential : Bool := true
  tab : HistTab
  gov : GovX
  deriving DecidableEq, Repr

/-- A block with a valid header (R498): its ROLE, FIRST_JSEQ, next free offset. -/
structure HsBlock where
  b : Nat
  role : Nat
  first : Nat
  next : Nat := 256
  deriving DecidableEq, Repr

/-- A compaction pass (R517, R518): its operation, J, when it began, blocks written, and the blocks of a rollback checkpoint. -/
structure PassX where
  handle : Nat
  jseq : Nat
  began : Nat
  blocks : List Nat := []
  alt : List Nat := []
  bytes : Nat := 0
  tab : HistTab
  gov : GovX
  urgent : Bool := false
  deriving DecidableEq, Repr

/-- A ledger export (R527, R528): its operation, number, scope, segments and bytes sent, the records selected and still to send, the
digest of the segment sent last, when it was suspended, and where it goes (a data reference). -/
structure ExportX where
  handle : Nat
  num : Nat
  scope : List Nat
  ref : List Nat := []
  segs : Nat := 0
  bytes : Nat := 0
  left : List (Nat × List Nat) := []
  prev : List Nat := []
  suspendedAt : Option Nat := none
  deriving DecidableEq, Repr

/-- The history store beyond its registers: tables, the tables of the checkpoint, the journal, blocks, ERASE_COUNT by block, retired
blocks, the bytes of both paths (complemented, so that an erased byte is not listed), hourly bytes and essential bytes over the cap (newest
first), superblock SEQ and slots used, when it was last written and whether a write is due, the pass, pass start times, tally entries as
(port, unit, cell), loss runs, exports, PWRFAIL_N, and the reconciliations that wait. -/
structure HistX where
  tab : HistTab := {}
  ckptTab : HistTab := {}
  ckptGov : GovX := {}
  ckptJseq : Nat := 0
  ckptBlocks : List Nat := []
  altBlocks : List Nat := []
  ckptAt : Nat := 0
  sinceCkpt : Nat := 0
  log : List HsRec := []
  blocks : List HsBlock := []
  open_ : Option Nat := none
  erases : List (Nat × Nat) := []
  bad : List Nat := []
  flash : List Host.Cell := []
  flashB : List Host.Cell := []
  hours : List Nat := []
  overHours : List Nat := []
  overAt : Option Nat := none
  sbSlots : Nat × Nat := (0, 0)
  sbAt : Option Nat := none
  sbDue : Bool := false
  probation : Nat := 0
  formatAlt : Nat := 0
  pass : Option PassX := none
  passTimes : List Nat := []
  passDue : Option Nat := none
  tally : List (Nat × Nat × Nat) := []
  capRun : Nat := 0
  spaceRun : Nat := 0
  exports : List ExportX := []
  nextExport : Nat := 0
  pwrFail : Bool := false
  pending : Option (Nat × Bool × List Nat) := none
  op : Option (Nat × Nat × Nat) := none
  retry : List Nat := []
  reconciled : List Nat := []
  deriving DecidableEq, Repr

/-! ## Chapter 12: securing on the sentinel -/

/-- A member die's instance of a tensor (R428): die port, TENSOR_ID, VERSION, its bytes, and whether its CRC has been checked. -/
structure SecInst where
  port : Nat
  tensor : Nat
  version : Nat
  bytes : List Nat := []
  ok : Bool := false
  deriving DecidableEq, Repr

/-- A share held, or a partial shard that passes through (R433, R435): KIND, shard, origin position, bytes as received, whether the stream
is a container, whether it is complete, its generation: 0 building, 1 committed, 2 on its way back in a restore, 3 passing through, 4 a shard less
its chain, from which a lost stream is solved; and one CRC-32C for every 64 KiB (R444). -/
structure ShareX where
  jobtag : Nat
  cut : Nat
  tensor : Nat
  kind : Nat
  shard : Nat := 0
  origin : Nat
  bytes : List Nat := []
  container : Bool := false
  complete : Bool := false
  gen : Nat := 0
  crcs : List Nat := []
  deriving DecidableEq, Repr

/-- A tray's part of a cut (R437): CUT_ID, E_c, the resolved methods of the tensors, instances, the member dies done as (port, posted
tensors as in SECURE_DIE_DONE), tensors whose shares have been sent, shares that wait for SHARE_ACK as (TENSOR_ID, KIND), whether
TRAY_CUT_DONE has been sent, its root, whether it only serves a restore (R441), and the manifest (R428). -/
structure CutX where
  jobtag : Nat
  cut : Nat
  epoch : Nat
  methods : List Nat
  insts : List SecInst := []
  done : List (Nat × List (Nat × Bool × Nat × Nat)) := []
  sentT : List Nat := []
  awaits : List (Nat × Nat) := []
  ended : Bool := false
  root : Nat := 0
  restore : Bool := false
  manifest : List Nat := []
  deriving DecidableEq, Repr

/-- What a securing root keeps of a job (R423, R430, R436, R440): requesters since the last release, those that sent Neap, the newest e_r,
the next CUT_ID, when a cut last committed, whether a request is noted, the policy's METHODs, changed bits of the last 16 committed cuts,
tray stream MiB, forced replicas as (TENSOR_ID, cuts left), the margin; and the pass: its start, time suspended, TRAY_CUT_DONE payloads by
tray, acknowledgements awaited, cause of a cancel, bytes moved; and of the committed cut the TRAY_CUT_DONE payloads, CUT_ID, E_c, and the job's ranges,
ranks, JFLAGS, group registrations and methods, and the tensors that a cut has held since the last release. -/
structure RootX where
  jobtag : Nat
  reqs : List Nat := []
  neaps : List Nat := []
  er : Option Nat := none
  next : Nat := 1
  commitAt : Option Nat := none
  noted : Bool := false
  lost : Bool := false
  policy : List Nat := []
  compress : Bool := false
  changed : List (List Nat) := []
  mib : List Nat := []
  forced : List (Nat × Nat) := []
  extra : Nat := 0
  began : Nat := 0
  held : Nat := 0
  heldAt : Nat := 0
  trays : List (Nat × List Nat) := []
  methods : List Nat := []
  outcome : Nat := 0
  acks : List Nat := []
  bytes : Nat := 0
  last : List (Nat × List Nat) := []
  cutId : Nat := 0
  epoch : Nat := 0
  ranges : List (Nat × Nat) := []
  ranks : List Nat := []
  flags : Nat := 0
  groups : List FanMsg := []
  done : List Nat := []
  known : List Nat := []
  deriving DecidableEq, Repr

/-- A restore at the root (R441, R443): the old and new JobTags, CUT_ID, pairs, the fan-outs still to send in order, the share holders off the job's
tree and whether they know, the trays whose RESTORE_DONE has arrived with the bytes restored, whether the join barrier has closed, and the outcome 0 while it runs. -/
structure RestX where
  handle : Nat
  old : Nat
  new : Nat
  cut : Nat
  pairs : List (Nat × Nat)
  todo : List FanMsg := []
  off : List Nat := []
  told : Bool := false
  trays : List Nat := []
  done : List Nat := []
  dies : Nat := 0
  bytes : Nat := 0
  joined : Bool := false
  outcome : Nat := 0
  deriving DecidableEq, Repr

/-- A tray's part of a restore (R441, R442): the new and old JobTags, CUT_ID, root, pairs, the member dies that keep their own copy, the
manifest once it is back, and whether RESTORE_DONE has been sent. -/
structure RestTray where
  tag : Nat
  old : Nat
  cut : Nat
  root : Nat
  pairs : List (Nat × Nat)
  kept : List Nat := []
  manifest : Option (List Nat) := none
  finished : Bool := false
  deriving DecidableEq, Repr

/-- A tensor staged for a die (R441): its bytes' address and length, and whether it has been moved into the die. -/
structure StagedX where
  jobtag : Nat
  die : Nat
  tensor : Nat
  addr : Nat
  len : Nat
  loaded : Bool := false
  deriving DecidableEq, Repr

/-- A compression descriptor in flight (R446): its index and the source bytes. -/
structure CmpX where
  q : Nat
  at_ : Nat
  deriving DecidableEq, Repr

/-- Securing beyond its registers: cuts of this tray, shares, roots, restores, staged tensors, descriptors in flight, when each job's request was
last sent, the methods of each job's committed cut, the roots of jobs for which only shares are held, the holds of R439, the member dies that the command of a RESTORE
names as found with its CUT_ID in DDU_SEC_RETAINED, and the manifest of each job's committed cut. -/
structure SecX where
  cuts : List CutX := []
  shares : List ShareX := []
  roots : List RootX := []
  restores : List RestX := []
  staged : List StagedX := []
  cmps : List CmpX := []
  reqAt : List (Nat × Nat) := []
  methods : List (Nat × List Nat) := []
  offTree : List (Nat × Nat) := []
  holds : List (Nat × Nat) := []
  kept : Option (List Nat) := none
  restTrays : List RestTray := []
  manifests : List (Nat × List Nat) := []
  deriving DecidableEq, Repr

/-! ## Chapter 15: the sentinel's power -/

/-- Power on the sentinel (R537 to R549, R564): since when its state holds, wake causes held or acting, domains that have been demanded and are not
ready, since when the securing and compression domains and HBM's host accesses have been idle as (domain, time), each die's acknowledged cap and
when its demand last arrived, falling caps not acknowledged and when they were sent, rising and unchanged caps withheld; and its own loop: the
thermal and cap levels, windows below the threshold, and ticks accrued. -/
structure PwrA where
  since : Nat := 0
  wake : Nat := 0
  starting : List Nat := []
  idleAt : List (Nat × Nat) := []
  acked : List (Nat × Nat) := []
  demandAt : List (Nat × Nat) := []
  falling : List Nat := []
  fallAt : Nat := 0
  rising : List (Nat × Nat) := []
  thermal : Nat := 0
  cap : Nat := 0
  cool : Nat := 0
  ticks : List Nat := [0, 0, 0, 0, 0, 0]
  deriving DecidableEq, Repr

/-! ## Chapter 18: the host interface -/

/-- The PCI Express function beyond its registers (R631, R637, R638): the MSI-X mask and pending bits, messages sent by vector, Bus Master
Enable, the host shadow as (register offset, value), and the bytes that the sentinel has written to host memory, as (address, bytes) in order. -/
structure HostX where
  mask : Nat := 0xFFFFFFFF
  pend : Nat := 0
  sent : List (Nat × Nat) := []
  busMaster : Bool := false
  shadow : Option (Nat × Nat) := none
  dma : List (Nat × List Nat) := []
  deriving DecidableEq, Repr

/-- A trace export at the sentinel (R139): its operation, die port, destination reference, blocks and bytes passed on. -/
structure TraceOut where
  handle : Nat
  port : Nat
  ref : List Nat
  blocks : Nat := 0
  bytes : Nat := 0
  deriving DecidableEq, Repr

/-! ## Chapter 19: security -/

/-- A profiling consent in force (R664): JOBTAG, die mask, expiry in tideline seconds. -/
structure ConsentX where
  jobtag : Nat
  dies : Nat
  expiry : Nat
  deriving DecidableEq, Repr

/-- A firmware update (R654): its operation, component, die mask, image, the staged object that holds it, and the dies that have booted it. -/
structure FwX where
  handle : Nat
  comp : Nat
  dies : Nat
  image : List Nat
  stage : Option Nat := none
  booted : List Nat := []
  deriving DecidableEq, Repr

/-- Security (R644 to R666) beyond its registers: operator key slots written as (4 x ROLE + SLOT, SHA-384) and revoked since manufacture,
whether the slots are disabled, the challenge and when it was given, when the session opened in local time and the WDOG_MS held then, tokens of
consent, DTLS associations as (port, peer), boot reports by port with the nonce given, boot flash slots written as (2 x component +
slot, image), pending components, the DDU component's slot, when the running firmware was activated, the components whose FW_STATE is due at BOOT 2,
the update that runs, and the component for which the ROM waits for a recovery image (R655). -/
structure GuardX where
  keys : List (Nat × List Nat) := []
  revoked : List Nat := []
  keysOff : Bool := false
  challenge : Option (List Nat × Nat) := none
  session : Option (Nat × List Nat) := none
  consents : List ConsentX := []
  assocs : List (Nat × Nat) := []
  nonces : List (Nat × List Nat) := []
  reports : List (Nat × List Nat) := []
  flash : List (Nat × List Nat) := []
  pending : List Nat := []
  slot : List (Nat × Nat) := []
  activated : Option Nat := none
  update : Option FwX := none
  fresh : List Nat := []
  recover : Option Nat := none
  deriving DecidableEq, Repr

/-! ## Chapter 20: pins -/

/-- Pins and reset of the sentinel (R672 to R685): the input pins, MAIN_EN, THERMTRIP_N asserted, whether MAIN_PGOOD has risen since AON_PGOOD did,
whether internal reset lasts, whether main power was lost under R673 and when MAIN_EN went low for it, and whether REFCLK_RACK is lost. (PRESUMED: log 5.) -/
structure PinsX where
  aonPgood : Bool := true
  mainPgood : Bool := true
  resetN : Bool := true
  perstN : Bool := true
  mainEn : Bool := true
  thermtrip : Bool := false
  mainSeen : Bool := true
  inReset : Bool := true
  lostAt : Option Nat := none
  lost : Bool := false
  refLost : Bool := false
  deriving DecidableEq, Repr

--ABLTYPES

/-- The sentinel beyond its registers; `groupRanges` are the ranges with which a group entry was registered, `out` the memory writes of the
step, and `wipe` says that the step zero-writes the whole memory before them. (DESIGN CHOICE: log 1.) -/
structure Abl where
  n : Node
  psamp : PsampX := {}
  profJobs : List Nat := []
  adopted : List Nat := []
  fans : List FanX := []
  jobs : List JobA := []
  groupGuard : List (Nat × Nat) := []
  groupRanges : List (Nat × List (Nat × Nat)) := []
  red : RedX := {}
  bars : List BarX := []
  tree : TreeX := {}
  grid : GridX := {}
  ver : VerdX := {}
  gov : GovX := {}
  hist : HistX := {}
  sec : SecX := {}
  pwr : PwrA := {}
  host : HostX := {}
  traces : List TraceOut := []
  guard : GuardX := {}
  pins : PinsX := {}
  out : List (Nat × List Nat) := []
  wipe : Bool := false
  deriving DecidableEq, Repr

end Sys2Proof.Machine
end

