-- ==== Sys2Proof/Machine/Ops.lean ====
section
/-!
DEFINITION. The named operations that both devices share: reading and writing registers and their fields, counting,
numbering and storing records (R12, R140 to R149), queueing messages (R189, R690, R245 to R249), events on the
mailbox paths (R610 to R613), and interrupts.
-/

namespace Sys2Proof.Machine

/-! ## Registers -/

/-- The value of register `r`, instance `i`. -/
def Node.rd (n : Node) (r : RegDef) (i : Nat := 0) : Nat := n.regs.rd r i

/-- `n` with register `r`, instance `i`, holding `v`. -/
def Node.wr (n : Node) (r : RegDef) (i v : Nat) : Node := { n with regs := n.regs.wr r i v }

/-- Field `[lo+w-1:lo]` of a register. -/
def Node.fld (n : Node) (r : RegDef) (i lo w : Nat) : Nat := bits (n.rd r i) lo w

/-- Write one field of a register. -/
def Node.setFld (n : Node) (r : RegDef) (i lo w v : Nat) : Node := n.wr r i (setBits (n.rd r i) lo w v)

/-- One bit of a register. -/
def Node.bit (n : Node) (r : RegDef) (i b : Nat) : Bool := Machine.bit (n.rd r i) b

/-- Set or clear one bit of a register. -/
def Node.setB (n : Node) (r : RegDef) (i b : Nat) (v : Bool) : Node := n.setFld r i b 1 (b2n v)

/-- Add `k` to a counting register. Past the register's width the spec states no value: the open
`Config.counterOverflow`. -/
def Node.bump (n : Node) (r : RegDef) (i : Nat := 0) (k : Nat := 1) : Node :=
  let v := n.rd r i + k
  n.wr r i (if v < 2 ^ r.width then v else Config.counterOverflow v)

/-- Add `k` to the field `[lo+w-1:lo]`, saturating. -/
def Node.satFld (n : Node) (r : RegDef) (i lo w k : Nat) : Node := n.setFld r i lo w (min (ones w) (n.fld r i lo w + k))

/-- Add `k` to a 16-bit or other partial counting field for which the spec states no behaviour past its width. -/
def Node.bumpFld (n : Node) (r : RegDef) (i lo w : Nat) (k : Nat := 1) : Node :=
  let v := n.fld r i lo w + k
  n.setFld r i lo w (if v < 2 ^ w then v else Config.counterOverflow v)

/-- A write by software with the access codes of R8 and R9: bits `m` of the register take part. -/
def Node.softWrite (n : Node) (r : RegDef) (i m v : Nat) : Node := n.wr r i (r.written m (n.rd r i) v)

/-- The registers of one block back at their reset values. -/
def Node.resetRegs (n : Node) (lo hi : Nat) : Node := { n with regs := n.regs.resetRange lo hi }

/-! ## Time -/

/-- TIME_NS. -/
def Node.now (n : Node) : Nat := n.rd (Reg.TIME_NS n.dev)

/-- The time in ns that timers inside the device measure by: what its ticks have added, which a load of TIME_NS does not move. (DESIGN CHOICE: log 100.) -/
def Node.local (n : Node) : Nat := n.timex.elapsed / 2 ^ 32

/-- Tideline time (R157). -/
def Node.tideline (n : Node) : Nat :=
  (n.rd (Reg.TIME_TIDE_BASE n.dev) + n.rd (Reg.TIME_WRAP n.dev)) % 2 ^ 32 * 2 ^ 32 + n.now

/-- TIME_STATUS.STATE (R183): 0 UNALIGNED, 1 LOCKED, 2 HOLDOVER, 3 JUMP_HELD, 4 RESUMING. -/
def Node.timeState (n : Node) : Nat := n.fld (Reg.TIME_STATUS n.dev) 0 8 3

/-! ## Identity -/

/-- The node's identity as ORIGIN and DEST write it (R189): [16:0] index, [19:17] level. -/
def Node.ident (n : Node) : Nat :=
  match n.dev with
  | .ddu => n.fld Reg.DDU_DIE_INDEX 0 0 17
  | .abl => n.fld Reg.ABL_NODE 0 0 20

/-- The record header's SOURCE of the DDU's mailbox unit (R13). -/
def srcMailbox : Nat := 505

/-- A reading block has discarded a malformed record (R16): `unit` is the block's SOURCE or port source. -/
def Node.malformed (n : Node) (unit : Nat) : Node := { n with badRecs := bindKey n.badRecs unit (lookupD n.badRecs unit 0 + 1) }

/-! ## Interrupts -/

/-- Set a cause of DDU_HOST_IRQ_STATUS (R63). -/
def Node.hostIrq (n : Node) (c : Nat) : Node := n.setB Reg.DDU_HOST_IRQ_STATUS 0 c true

/-- Private IDs begin at 992 on the sentinel and at 224 on the DDU (R578, R588). -/
def privBase : Dev → Nat | .ddu => 224 | .abl => 992

/-- Cores of a device's firmware complex (R571, R588). -/
def coresOf : Dev → Nat | .ddu => 2 | .abl => 6

/-- A rising edge of a shared source (R577). -/
def Node.irq (n : Node) (id : Nat) : Node :=
  { n with aic := { n.aic with pend := if n.aic.pend.contains id then n.aic.pend else n.aic.pend ++ [id] } }

/-- A rising edge of a private source delivered to all cores (R578), by its offset `k` in the private bank. -/
def Node.irqAll (n : Node) (k : Nat) : Node :=
  let cs := (List.range (coresOf n.dev)).map fun c => (c, k)
  { n with aic := { n.aic with ppend := n.aic.ppend ++ cs.filter fun p => !n.aic.ppend.contains p } }

/-- A rising edge of a private source of one core. -/
def Node.irqCore (n : Node) (core k : Nat) : Node :=
  { n with aic := { n.aic with ppend := if n.aic.ppend.contains (core, k) then n.aic.ppend else n.aic.ppend ++ [(core, k)] } }

/-- The request line of a level source in every core's private bank (R578, the mailbox classes). -/
def Node.irqLine (n : Node) (k : Nat) (high : Bool) : Node :=
  { n with aic := { n.aic with plines := (n.aic.plines.filter fun x => x != k) ++ if high then [k] else [] } }

/-! ## Records -/

/-- The next SEQ of a source and traffic class (R12). -/
def Node.seqOf (n : Node) (src cls : Nat) : Nat := lookupD n.seqs (src * 8 + cls) 0

/-- `n` after the SEQ of a source and class has been used once. -/
def Node.useSeq (n : Node) (src cls : Nat) : Node :=
  { n with seqs := bindKey n.seqs (src * 8 + cls) ((n.seqOf src cls + 1) % 65536) }

/-- The first rate-limit entry that matches a record (R147): the lowest-numbered valid one. -/
def Node.rlEntry (n : Node) (typ code : Nat) : Option (Nat × Nat) :=
  let base := recBase n.dev + 0x4000
  match n.regs.find? (fun p => base ≤ p.1 && p.1 < base + 0x8000 && Machine.bit p.2 63 && bits p.2 48 8 == typ &&
      bits p.2 32 16 == code) with
  | some p => some ((p.1 - base) / 8, p.2)
  | none => none

/-- The bucket of an entry, full when there is none yet (R148). -/
def Node.bucket (n : Node) (idx v : Nat) : RlBucket :=
  (n.recx.buckets.find? fun b => b.idx == idx).getD { idx := idx, tokens := bits v 16 16 * 1024, last := n.local }

/-- The bucket after refilling at RATE tokens per second up to BURST (R148).  What does not make up a whole 1/1,024 token yet stays in
`rem`, so that the refill is continuous. (DESIGN CHOICE: log 40.) -/
def Node.refilled (n : Node) (b : RlBucket) (v : Nat) : RlBucket :=
  let x := b.rem + (n.local - b.last) * bits v 0 16 * 1024
  { b with tokens := min (bits v 16 16 * 1024) (b.tokens + x / 1000000000), rem := x % 1000000000, last := n.local }

/-- A bucket refilled up to now, for a device whose clock starts again at 0 (R148). -/
def Node.rebased (n : Node) (b : RlBucket) : RlBucket :=
  { n.refilled b (lookupD n.regs (recBase n.dev + 0x4000 + 8 * b.idx) 0) with last := 0 }

/-- Store the bucket of an entry. -/
def Node.putBucket (n : Node) (b : RlBucket) : Node :=
  { n with recx := { n.recx with buckets := b :: n.recx.buckets.filter fun c => c.idx != b.idx } }

/-- OLDEST after a record that ends at offset `stop` (R141). -/
def Node.oldestAfter (n : Node) (stop : Nat) : Nat :=
  let size := n.rd (Reg.REC_SIZE n.dev)
  if stop ≤ size then n.rd (Reg.REC_OLDEST n.dev)
  else match n.recx.ring.find? (fun (p : Nat × Record) => decide (stop - size ≤ p.1)) with
    | some p => max (n.rd (Reg.REC_OLDEST n.dev)) p.1
    | none => n.rd (Reg.REC_WR n.dev)

/-- Put a record at the end of the ring, over the oldest ones (R141). -/
def Node.ringAdd (n : Node) (r : Record) : Node :=
  let wr := n.rd (Reg.REC_WR n.dev)
  let old := n.oldestAfter (wr + r.size)
  let n : Node := { n with recx := { n.recx with ring := (n.recx.ring.filter fun (p : Nat × Record) => decide (old ≤ p.1)) ++ [(wr, r)] } }
  (n.wr (Reg.REC_OLDEST n.dev) 0 old).wr (Reg.REC_WR n.dev) 0 (wr + r.size)

/-- The oldest part of a ring that must go to make room up to offset `stop` in `size` bytes, where the records of faults in it are written
again at the end: those to write again, and those to drop (R38). -/
def orphanRoom (size stop : Nat) : List (Nat × Record) → List Record × List Record
  | [] => ([], [])
  | (o, r) :: t =>
    if stop ≤ size + o then ([], [])
    else
      let (again, gone) := orphanRoom size (if r.typ = 0x1A then stop + r.size else stop) t
      if r.typ = 0x1A then (r :: again, gone) else (again, r :: gone)

/-- Whether a message carries one of some records. -/
def msgCarries (m : Msg) (rs : List Record) : Bool := match m.body with | .record r => rs.contains r | .frame .. => false

/-- Put a record into the ring (R141).  While ORPHAN, the oldest records that are no faults make room, and the upward messages kept with them
are lost (R38). (DESIGN CHOICE: log 38.) -/
def Node.ringPut (n : Node) (r : Record) : Node :=
  if n.parent.st ≠ 3 then n.ringAdd r
  else
    let (again, gone) := orphanRoom (n.rd (Reg.REC_SIZE n.dev)) (n.rd (Reg.REC_WR n.dev) + r.size) n.recx.ring
    let lost := (n.parent.kept.filter fun t => msgCarries t.msg gone).length
    let cut (l : List (Nat × Record)) : List (Nat × Record) := l.drop (again.length + gone.length)
    let n : Node := { n with
      recx := { n.recx with ring := cut n.recx.ring },
      txq := n.txq.filter fun t => !(16 ≤ t.port && t.sent == 0 && msgCarries t.msg gone),
      parent := { n.parent with kept := n.parent.kept.filter (fun t => !msgCarries t.msg gone), orphanDrops := n.parent.orphanDrops + lost } }
    let n := match n.recx.ring with | (o, _) :: _ => n.wr (Reg.REC_OLDEST n.dev) 0 o | [] => n.wr (Reg.REC_OLDEST n.dev) 0 (n.rd (Reg.REC_WR n.dev))
    (again ++ [r]).foldl Node.ringAdd n

/-- Whether the recorder is in reset, so that records wait (R72, R581). -/
def Node.recQuiet (n : Node) : Bool := match n.dev with | .ddu => n.bit Reg.DDU_SUBRESET 0 2 | .abl => n.bit Reg.ABL_ENGINE_RESET 0 34

/-- A record goes into the ring, or under a freeze that it would pass into the hold buffer (R141, R143). -/
def Node.place (n : Node) (r : Record) : Node :=
  let old := n.oldestAfter (n.rd (Reg.REC_WR n.dev) + r.size)
  if n.bit (Reg.REC_FREEZE n.dev) 0 0 && decide (n.rd (Reg.REC_OLDEST n.dev) < old) && decide (n.rd (Reg.REC_RD n.dev) < old) then
    if (n.recx.hold.map Record.size).sum + r.size ≤ 4096 then
      let n := if n.dev == .abl && n.recx.hold.isEmpty then n.irq 105 else n
      { n with recx := { n.recx with hold := n.recx.hold ++ [r] } }
    else
      { n with recx := { n.recx with dropped := n.recx.dropped + 1 } }.bump (Reg.REC_DROPPED n.dev)
  else n.ringPut r

/-- Store a record in the recorder: in the ring, in the hold buffer under a freeze where it would move OLDEST past RD, or dropped (R143). -/
def Node.store (n : Node) (r : Record) : Node :=
  if n.recQuiet then { n with recx := { n.recx with waiting := n.recx.waiting ++ [r] } }
  else
    let n : Node := { n with written := n.written + 1 }
    let old := n.oldestAfter (n.rd (Reg.REC_WR n.dev) + r.size)
    if n.bit (Reg.REC_FREEZE n.dev) 0 0 && decide (n.rd (Reg.REC_OLDEST n.dev) < old) && decide (n.rd (Reg.REC_RD n.dev) < old) then
      if (n.recx.hold.map Record.size).sum + r.size ≤ 4096 then
        let n := if n.dev == .abl && n.recx.hold.isEmpty then n.irq 105 else n
        { n with recx := { n.recx with hold := n.recx.hold ++ [r] } }
      else
        { n with recx := { n.recx with dropped := n.recx.dropped + 1 } }.bump (Reg.REC_DROPPED n.dev)
    else n.ringPut r

/-- The records that have waited for the recorder's reset are stored (R72, R581). -/
def Node.storeWaiting (n : Node) : Node := n.recx.waiting.foldl Node.store { n with recx := { n.recx with waiting := [] } }

/-! ## Messages -/

/-- The lane of a port and slot. -/
def Node.lane (n : Node) (p slot : Nat) : LaneX := lookupD n.lanes (4 * p + slot) {}

/-- The STATE of R209 of a port's slot: LNK_STATUS shows that of slot 0, the others are their lanes' own (R195). -/
def Node.portState (n : Node) (p : Nat) (slot : Nat := 0) : Nat :=
  if slot = 0 then n.fld (Reg.LNK_STATUS n.dev) p 0 4 else (n.lane p slot).st

/-- Whether a port's slot is UP. -/
def Node.portUp (n : Node) (p : Nat) (slot : Nat := 0) : Bool := n.portState p slot == 3

/-- Whether the DDU is in fallback (R202). -/
def Node.inFallback (n : Node) : Bool := n.dev == .ddu && n.bit Reg.DDU_STATUS 0 7

/-- A port, or slot of a child port, that takes no message: DISABLED or RETIRED, when no other path takes it (R690). -/
def Node.portClosed (n : Node) (p : Nat) (slot : Nat := 0) : Bool :=
  (n.portState p slot == 0 || n.portState p slot == 5) && !n.inFallback

/-- The Uplink Scheduler slot of a JobTag (R245): the slot that serves it, else 63; slot 0 for JobTag 0. -/
def Node.uschSlot (n : Node) (jobtag : Nat) : Nat :=
  if jobtag = 0 then 0
  else ((List.range 63).find? fun s => n.bit Reg.ABL_USCH_JOB s 63 && n.fld Reg.ABL_USCH_JOB s 0 32 == jobtag && s != 0).getD 63

/-- The Uplink Scheduler's queue number (R245). -/
def uschQ (port slot cls : Nat) : Nat := 256 * (port - 16) + 4 * slot + (cls - 1)

/-- The bytes queued in one class queue of an uplink, or the VERDICT bytes. -/
def Node.queued (n : Node) (port slot cls : Nat) : Nat :=
  ((n.txq.filter fun t => t.port == port && t.slot == slot && t.msg.cls == cls).map fun t => t.size).sum

/-- The lane of the active parent's pair that a message takes (R246): the other one when its own has left UP and that one is UP, or when its
own takes no message and that one does. -/
def Node.upLane (n : Node) (origin cls : Nat) : Nat :=
  let base := if n.parent.st = 2 then 18 else 16
  let p := base + (bits origin 0 17 + cls) % 2
  let q := base + (bits origin 0 17 + cls + 1) % 2
  if n.portUp p then p else if n.portUp q || (n.portClosed p && !n.portClosed q) then q else p

/-- Order of 48-bit tags (R248). -/
def tagLess (a b : Nat) : Bool := decide (2 ^ 47 ≤ (a % 2 ^ 48 + 2 ^ 48 - b % 2 ^ 48) % 2 ^ 48)

/-- The tag of a queue key. -/
def UschX.tag (u : UschX) (key : Nat) : FairTag := (u.tags.find? fun t => t.key == key).getD { key := key }

/-- Replace a tag. -/
def UschX.setTag (u : UschX) (t : FairTag) : UschX := { u with tags := t :: u.tags.filter fun x => x.key != t.key }

/-- A queue wakes (R248): `vkey` is the key of the virtual time that it shares. (DESIGN CHOICE: log 44.) -/
def UschX.wake (u : UschX) (key vkey : Nat) : UschX :=
  let t := u.tag key
  let v := lookupD u.v vkey 0
  u.setTag { t with start := if tagLess v t.finish then t.finish else v }

/-- The key of slot `s` of an uplink, and of the class queues within it; the virtual times use the same keys. -/
def slotKey (port s : Nat) : Nat := 4096 + 64 * (port - 16) + s
def portKey (port : Nat) : Nat := 8192 + (port - 16)

/-- The other lane of an uplink pair (R246). -/
def pairOf (p : Nat) : Option Nat := if 16 ≤ p ∧ p < 20 then some (if p % 2 = 0 then p + 1 else p - 1) else none

/-- The port on which a message for a port leaves (R690): a VERDICT message for a die whose port is not UP goes through the first sibling of the
die's list whose lane is UP (R205), any other message for a die in fallback through its host (R204), and one for an uplink that is not UP on
the other lane of its pair when that one is UP, or when its own takes no message and that one does (R246). -/
def Node.viaPort (n : Node) (port cls : Nat) : Nat :=
  if n.dev == .ddu || n.portUp port then port
  else if port < 16 then
    if n.fld Reg.ABL_NODE 0 28 3 = 1 then
      let host := ((n.fbHost.find? fun h => h.1 == port).map fun h => h.2).getD port
      if cls = 0 then (((List.range 3).map fun k => Config.fbPeerPort port k % 16).find? fun q => n.portUp q).getD host else host
    else port
  else match pairOf port with
    | some q => if n.portUp q || (n.portClosed port && !n.portClosed q) then q else port
    | none => port

/-- Whether a source fence of the DDU is in progress (R286). -/
def Node.fencing (n : Node) : Bool := n.dev == .ddu && n.bit Reg.DDU_FENCE_STATUS 0 0

/-- The tags once a message is about to wait in a queue of an uplink (R248): the slot and the class queue wake when nothing waits in them.  A
message whose flits have begun to leave has been picked, and waits no more. -/
def Node.uschWake (n : Node) (port slot cls : Nat) : UschX :=
  let idle (k : Nat) : Bool := !n.txq.any fun x => x.port == port && x.slot == slot && x.msg.cls == k && x.sent == 0
  let u := if idle 1 && idle 2 && idle 3 && idle 4 then n.usch.wake (slotKey port slot) (portKey port) else n.usch
  if idle cls then u.wake (uschQ port slot cls) (slotKey port slot) else u

/-- Queue a message at a port (R690), with the limits of R249 on an uplink's class queues. -/
def Node.queueAt (n : Node) (port0 slot : Nat) (m : Msg) (lslot : Nat := 0) (guest : Nat := 0) : Node :=
  let port := n.viaPort port0 m.cls
  let t : TxMsg := { port := port, lslot := lslot, slot := slot, msg := m, size := m.size, at_ := n.local, guest := guest, fenced := n.fencing }
  if n.portClosed port lslot then n.bump (Reg.LNK_EXPIRED n.dev) port
  else if n.dev == .abl && decide (16 ≤ port) && decide (1 ≤ m.cls) && decide (m.cls ≤ 4) then
    let q := uschQ port slot m.cls
    let lim := n.fld Reg.ABL_USCH_QLIM q 0 16 * 1024
    if n.queued port slot m.cls + m.size > lim || lim = 0 then
      { n with usch := { n.usch with run := bindKey n.usch.run q (lookupD n.usch.run q 0 + 1) } }.bump Reg.ABL_USCH_QDROP q
    else
      let c := lookupD n.usch.run q 0
      let u := n.uschWake port slot m.cls
      let n : Node := { n with txq := n.txq ++ [t], usch := { u with run := bindKey u.run q 0 } }
      if c = 0 then n else { n with lossDue := n.lossDue ++ [(c, 0x0120, q)] }
  else { n with txq := n.txq ++ [t] }

/-- A message of this node: ORIGIN, HOPS_LEFT 8 and EXPIRE_NS 4 ms ahead (R189, R190). -/
def Node.mkMsg (n : Node) (dest cls : Nat) (b : Body) : Msg :=
  { origin := n.ident, dest := dest, expire := (n.now + 4000000) % 2 ^ 32, cls := cls, body := b }

/-- DEST of the active parent. The DDU's parent is its tray sentinel (R31). -/
def Node.parentIdent (n : Node) : Nat :=
  match n.dev with
  | .ddu => bits (n.rd (Reg.LNK_PEER .ddu)) 0 20
  | .abl => if n.parent.st = 2 then n.parent.alternate else n.parent.primary

/-- Keep an upward message of a job while ORPHAN (R38): its record is in the event recorder ring, and the message is sent again to the next
parent.  A frame to which the spec gives no TYPE is no record, and only waits at its lane. (DESIGN CHOICE: log 38.) -/
def Node.keepUp (n : Node) (slot : Nat) (m : Msg) : Node :=
  match m.body with
  | .frame .. => n
  | .record r =>
    let inRing := n.recx.hold.contains r || n.recx.ring.any fun (p : Nat × Record) => p.2 == r
    let frozen := n.bit (Reg.REC_FREEZE n.dev) 0 0
    let n := if inRing || (frozen && m.origin == n.ident) then n else n.place r
    let t : TxMsg := { port := 16, slot := slot, msg := m, size := m.size, at_ := n.local }
    { n with parent := { n.parent with kept := n.parent.kept ++ [t] } }

/-- Send a message upward (R32): the DDU on its port; a sentinel on its active parent's lanes, where it waits while they are not UP; while
ORPHAN it is also kept for the next parent (R38). -/
def Node.sendUpMsg (n : Node) (jobtag : Nat) (m : Msg) : Node :=
  match n.dev with
  | .ddu => n.queueAt 0 0 m
  | .abl =>
    let n := if n.parent.st = 3 then n.keepUp (n.uschSlot jobtag) m else n
    n.queueAt (n.upLane m.origin m.cls) (n.uschSlot jobtag) m

/-- Send a body upward. -/
def Node.sendUp (n : Node) (jobtag cls : Nat) (b : Body) : Node := n.sendUpMsg jobtag (n.mkMsg n.parentIdent cls b)

/-- A record of this device, numbered and stamped, and the node after its SEQ is used. -/
def Node.mkRec (n : Node) (cls typ code src flags : Nat) (payload : List Nat) : Record × Node :=
  ({ typ := typ, code := code, flags := flags, src := src, time := n.now, seq := n.seqOf src cls, payload := payload },
   n.useSeq src cls)

/-- What a rate-limit entry does with a record of a TYPE and CODE (R147 to R149): suppressed (none), or passed with the pending count and the
TIME_NS of the first suppressed record that a rate note tells first (count 0: no note).  Records of TYPE 0x01 and severe ones are never
limited. -/
def Node.limit (n : Node) (typ code : Nat) (severe : Bool) : Option (Nat × Nat) × Node :=
  match if typ = 0x01 || severe then none else n.rlEntry typ code with
  | none => (some (0, 0), n)
  | some (idx, v) =>
    let b := n.refilled (n.bucket idx v) v
    if b.tokens < 1024 then
      let b := { b with pend := b.pend + 1, first := if b.pend = 0 then n.now else b.first }
      (none, { n.putBucket b with limited := n.limited + 1 }.bump (Reg.REC_SUPPRESSED n.dev))
    else (some (b.pend, b.first), n.putBucket { b with tokens := b.tokens - 1024, pend := 0 })

/-- Number, stamp and store one record, and send it by `send` (R12, R140). -/
def Node.record1 (n : Node) (cls typ code src flags : Nat) (payload : List Nat) (send : Record → Node → Node) : Node :=
  let (r, m) := n.mkRec cls typ code src flags payload
  send r (m.store r)

/-- Write a record: rate limit, the rate note of what the limit has suppressed, sent by `note`, and the record itself, sent by `send` (R140,
R149).  Every record of the device is written here. (DESIGN CHOICE: log 40.) -/
def Node.write (n : Node) (cls typ code src flags : Nat) (payload : List Nat) (send : Record → Node → Node)
    (severe : Bool := false) (note : Record → Node → Node := fun _ m => m) : Node :=
  match n.limit typ code severe with
  | (none, m) => m
  | (some (k, first), m) =>
    (if k = 0 then m else m.record1 cls typ code src 2 (le 4 k ++ le 4 first) note).record1 cls typ code src flags payload send

/-- A record that goes to the die ledger's journal or to the history store whatever a rate limit says; the recorder takes it after the limit
(R140, R147). (DESIGN CHOICE: log 18.) -/
def Node.localRec (n : Node) (cls typ code src : Nat) (payload : List Nat) : Record × Node :=
  match n.limit typ code false with
  | (none, m) => m.mkRec cls typ code src 0 payload
  | (some (k, first), m) =>
    let m := if k = 0 then m else m.record1 cls typ code src 2 (le 4 k ++ le 4 first) fun _ m => m
    let (r, m) := m.mkRec cls typ code src 0 payload
    (r, m.store r)

/-- Write a record and send it upward: the protocol messages of the data tree. -/
def Node.postUp (n : Node) (jobtag cls typ code src : Nat) (payload : List Nat) : Node :=
  n.write cls typ code src 0 payload fun r m => m.sendUp jobtag cls (.record r)

/-- Write a record and queue it at one port toward `dest`: downward and sideways messages, on an uplink in the slot of its job (R245). -/
def Node.postAt (n : Node) (port dest cls typ code src : Nat) (payload : List Nat) (lslot : Nat := 0) (jobtag : Nat := 0) : Node :=
  n.write cls typ code src 0 payload fun r m => m.queueAt port (m.uschSlot jobtag) (m.mkMsg dest cls (.record r)) lslot

/-- Queue a frame at one port. -/
def Node.sendFrame (n : Node) (port dest cls : Nat) (k : FrameKind) (args : List Nat) (bytes : List Nat := []) (jobtag : Nat := 0) : Node :=
  n.queueAt port (n.uschSlot jobtag) (n.mkMsg dest cls (.frame k args bytes))

/-- Send a frame upward. -/
def Node.frameUp (n : Node) (jobtag cls : Nat) (k : FrameKind) (args : List Nat) (bytes : List Nat := []) : Node :=
  n.sendUp jobtag cls (.frame k args bytes)

/-! ## Writing a record -/

/-- The source that a device's own LOSS records name: the event recorder (R13, R462, R463). (DESIGN CHOICE: log 18.) -/
def recSrc : Dev → Nat | .ddu => 498 | .abl => 652

/-- Write a LOSS record (R144): none for a COUNT of 0. -/
def Node.loss (n : Node) (count cause subject : Nat) (src : Option Nat := none) : Node :=
  if count = 0 then n
  else n.write 1 0x01 0x0001 (src.getD (recSrc n.dev)) 1 (le 4 count ++ le 2 cause ++ le 2 subject) fun r m => m.sendUp 0 1 (.record r)

/-- The LOSS records of drop runs that have ended (R249), and of upward records dropped while ORPHAN (R38). -/
def Node.flushLoss (n : Node) : Node :=
  let k := n.parent.orphanDrops
  let n := n.lossDue.foldl (fun (m : Node) (c, cause, subj) => m.loss c cause subj (some 641))
    { n with lossDue := [], parent := { n.parent with orphanDrops := 0 } }
  n.loss k 0x0006 0

/-! ## Events on the mailbox paths -/

/-- The class in which a record travels as an event (R611). -/
def eventClass (typ code : Nat) : Option Nat :=
  if (typ = 0x1A && (code == 0x0002 || code == 0x0020)) || (typ = 0x15 && code == 0x0020) ||
      (typ = 0x19 && code == 0x000B) || (typ = Config.parentSwitchType && code == Config.parentSwitchCode) then some 0
  else if typ = 0x12 && (code == 1 || code == 2 || code == 3 || code == 5) then some 1
  else if (typ = 0x1E && (1 ≤ code && code ≤ 4)) || (typ = 0x18 && (6 ≤ code && code ≤ 8)) || (typ = 0x16 && code == 2) ||
      (typ = 0x1A && (code == 0x0010 || code == 0x0011)) || (typ = 0x19 && (code == 0x0008 || code == 0x000A)) ||
      (typ = 0x1C && code == 4) || (typ = 0x1D && code == 3) then some 2
  else none

/-- Number of event paths of a device: PCI Express, I3C and Ethernet on the sentinel; the sentinel mailbox on a DDU. -/
def eventPaths : Dev → List Nat | .ddu => [0] | .abl => [0, 1, 2]

/-- The path's negotiation register (R623, R624). -/
def negReg : Dev → RegDef | .ddu => Reg.DDU_MB_NEG | .abl => Reg.ABL_MB_NEG

/-- The bytes of a path's event ring (R593). -/
def evRingSize (p : Nat) : Nat := if p = 0 then 65536 else 16384

/-- The state of one event path. -/
def Node.ev (n : Node) (p : Nat) : EvPath := n.evs.getD p ({} : EvPath)

/-- `n` with the state of one event path replaced. -/
def Node.setEv (n : Node) (p : Nat) (e : EvPath) : Node :=
  { n with evs := (padTo' n.evs).mapIdx fun i x => if i = p then e else x }
where
  /-- Three paths. -/
  padTo' (l : List EvPath) : List EvPath := l ++ List.replicate (3 - l.length) ({} : EvPath)

/-- An MSI-X vector is raised (R637). -/
def Node.msix (n : Node) (v : Nat) : Node := { n with msi := n.msi ++ [v] }

/-- Put an event at the head of a path: into its ring, or onto the wire for Ethernet (R612, R613). -/
def Node.evPut (n : Node) (p : Nat) (r : Record) : Node :=
  if p = 2 then
    n.setEv 2 { n.ev 2 with sent := (n.ev 2).sent ++ [(leAt r.payload 0 4, n.local, r)] }
  else
    let wr := n.rd Reg.ABL_MB_EVT_WR p
    let n := (n.setEv p { n.ev p with ring := (n.ev p).ring ++ [(wr, r)] }).wr Reg.ABL_MB_EVT_WR p (wr + r.size)
    if p = 0 && (r.payload.getD 4 0 == 0 ||
        decide (n.fld Reg.ABL_HOST_EVT_THRESH 0 0 16 ≤ n.rd Reg.ABL_MB_EVT_WR - n.rd Reg.ABL_MB_EVT_RD)) then n.msix 16
    else n

/-- Whether a path has room for an event of `len` bytes (R612, R613). -/
def Node.evFits (n : Node) (p len : Nat) : Bool :=
  if p = 2 then decide ((n.ev 2).sent.length < 256)
  else decide (n.rd Reg.ABL_MB_EVT_WR p + len ≤ evRingSize p + n.rd Reg.ABL_MB_EVT_RD p)

/-- Write an EVENT record (R610) carrying `r`, with the path's next EVENT_SEQ, which `place` puts on its way. -/
def Node.mkEvent (n : Node) (p c src : Nat) (r : Record) (place : Record → Node → Node) : Node :=
  let seq := n.rd Reg.ABL_MB_EVT_SEQ p
  n.write 6 0x1E 0x0010 src 0 (le 4 seq ++ [c, 0, 0, 0] ++ r.bytes) fun e m => place e (m.wr Reg.ABL_MB_EVT_SEQ p (seq + 1))

/-- Write an event of class `c` on one path of the sentinel: into the ring, into the class 0 backlog, or dropped
(R612). -/
def Node.eventOn (n : Node) (p c src : Nat) (r : Record) : Node :=
  let neg := n.rd Reg.ABL_MB_NEG p
  let fits := n.evFits p (align8 (24 + r.bytes.length))
  if !Machine.bit neg 7 || !(c == 0 || Machine.bit neg (8 + c)) then n
  else if fits && (c != 0 || (n.ev p).backlog.isEmpty) then n.mkEvent p c src r fun e m => m.evPut p e
  else if c = 0 then
    if (n.ev p).backlog.length < 256 then
      n.mkEvent p c src r fun e m => m.setEv p { m.ev p with backlog := (m.ev p).backlog ++ [e] }
    else (n.bumpFld Reg.ABL_MB_EVT_LOST p 16 16).loss 1 0x0191 0 (some src)
  else (n.setEv p { n.ev p with run := bindKey (n.ev p).run c (lookupD (n.ev p).run c 0 + 1) }).bumpFld
    Reg.ABL_MB_EVT_LOST p 0 16

/-- The Management Complex core, or the DDU's firmware unit, that writes events (R610). (DESIGN CHOICE: log 18.) -/
def evSrc : Dev → Nat | .ddu => 506 | .abl => 554

/-- Carry a record as an event on every path that takes it (R610, R611). -/
def Node.event (n : Node) (r : Record) : Node :=
  match eventClass r.typ r.code with
  | none => n
  | some c =>
    match n.dev with
    | .abl => (eventPaths .abl).foldl (fun m p => m.eventOn p c (evSrc .abl) r) n
    | .ddu =>
      let neg := n.rd Reg.DDU_MB_NEG 0
      if Machine.bit neg 7 && (c == 0 || Machine.bit neg (8 + c)) then
        n.write 6 0x1E 0x0010 506 0 (le 4 0 ++ [c, 0, 0, 0] ++ r.bytes) fun e m => m.sendUp 0 6 (.record e)
      else n

/-- An event of class 0 that the spec orders without naming its record (R397, R507, R516): `k` says which. -/
def Node.notice (n : Node) (k : Nat) (args : List Nat) : Node :=
  n.write 6 (Config.noticeType k) (Config.noticeCode k) (evSrc n.dev) 0 (Config.noticePayload k args) fun r m =>
    (eventPaths m.dev).foldl (fun m p => m.eventOn p 0 (evSrc m.dev) r) m

/-! ## Counting -/

/-- Whether the Counter Bank runs: the fast domain is up, no freeze, no COUNTERS reset (R51, R87). -/
def Node.bankRuns (n : Node) : Bool :=
  n.bit Reg.DDU_STATUS 0 2 && !n.bit Reg.DDU_CNT_FREEZE 0 0 && !n.bit Reg.DDU_SUBRESET 0 0

/-- The counters that select an event (R80): the one whose reset selection it is, unless rewritten, and every other
one rewritten to it. -/
def Node.countersOf (n : Node) (ev : Nat) : List Nat :=
  let own := if n.fld Reg.DDU_CNT_SEL ev 0 12 == ev then [ev] else []
  own ++ ((n.regs.filter fun p => 0x18000 ≤ p.1 && p.1 < 0x1C000 && bits p.2 0 12 == ev).map fun p =>
    (p.1 - 0x18000) / 4).filter fun k => k != ev

/-- Whether the pair of counter `k` is chained (R83). -/
def Node.chained (n : Node) (k : Nat) : Bool := n.bit Reg.DDU_CNT_CHAINED (k / 64) (k / 2 % 32)

/-- Write a Counter Bank record (R99): TYPE 0x10, unit 496. -/
def Node.cntRec (n : Node) (code : Nat) (payload : List Nat) : Node := n.postUp 0 2 0x10 code 496 payload

/-- Counter `k` wraps: OVF bit and CNT_WRAP (R83). -/
def Node.cntWrapped (n : Node) (k : Nat) : Node :=
  (n.setB Reg.DDU_CNT_OVF (k / 32) (k % 32) true).cntRec 0x0003 (le 2 k ++ zeros 6)

/-- The pair of even counter `k` chains at its carry (R83, mode 1): CNT_CHAINED with counter k + 1's value `old` from
before the carry cycle; counter k + 1 becomes 1. -/
def Node.cntChains (n : Node) (k old : Nat) : Node :=
  ((n.setB Reg.DDU_CNT_CHAINED (k / 64) (k / 2 % 32) true).cntRec 0x0002 (le 2 k ++ zeros 6 ++ le 8 old)).wr
    Reg.DDU_CNT (k + 1) 1

/-- The carry out of counter `k` under its pair's mode (R83); `before` holds the registers before the cycle. (DESIGN CHOICE: log 24.) -/
def Node.cntCarry (n : Node) (before : RegFile) (k : Nat) : Node :=
  if k % 2 = 1 then n.cntWrapped k
  else if n.chained k then
    let hi := n.rd Reg.DDU_CNT (k + 1) + 1
    if hi < 2 ^ 48 then n.wr Reg.DDU_CNT (k + 1) hi else (n.wr Reg.DDU_CNT (k + 1) 0).cntWrapped (k + 1)
  else if n.fld Reg.DDU_CNT_SEL k 12 2 = 1 then n.cntChains k (before.rd Reg.DDU_CNT (k + 1) % 2 ^ 48)
  else n.cntWrapped k

/-- Add `inc` to counter `k` (R83): the odd member of a chained pair does not count its own event. (DESIGN CHOICE: log 24.) -/
def Node.cntAdd (n : Node) (before : RegFile) (k inc : Nat) : Node :=
  if k % 2 = 1 && n.chained k then n
  else
    let v := n.rd Reg.DDU_CNT k % 2 ^ 48 + inc
    let n := n.wr Reg.DDU_CNT k (v % 2 ^ 48)
    if v < 2 ^ 48 then n else n.cntCarry before k

/-- Add an event's increments to the counters that select it, to its class total (R82) and to the bandwidth windows
(R100). -/
def Node.countRun (n : Node) (before : RegFile) (ev inc : Nat) : Node :=
  let n := (n.countersOf ev).foldl (fun m k => m.cntAdd before k inc) n
  let n := if ev ≤ 87 then n.wr Reg.DDU_CLASS_TOTAL (ev / 11) (n.rd Reg.DDU_CLASS_TOTAL (ev / 11) + inc) else n
  { n with bw := n.bw.map fun b => if b.begun && n.fld Reg.DDU_BW_CFG b.w 0 12 == ev then { b with acc := b.acc + inc } else b }

/-- Collect an increment in its pre-accumulator, which saturates at 2^24 - 1 with a LOSS record (R51). -/
def Node.preAdd (n : Node) (ev inc : Nat) : Node :=
  let v := lookupD n.preAcc ev 0 + inc
  let n : Node := { n with preAcc := bindKey n.preAcc ev (min v (2 ^ 24 - 1)) }
  if v ≤ 2 ^ 24 - 1 then n else n.loss (v - (2 ^ 24 - 1)) 0x0001 ev (some 496)

/-- Deliver increments of one event to a DDU's Counter Bank, or to its pre-accumulator while the bank does not run
(R51). -/
def Node.countIn (n : Node) (before : RegFile) (ev inc : Nat) : Node :=
  if inc = 0 then n else if n.bankRuns then n.countRun before ev inc else n.preAdd ev inc

/-- Count `k` occurrences of a DDU-internal event (R80). -/
def Node.count (n : Node) (ev : Nat) (k : Nat := 1) : Node := n.countIn n.regs ev k

/-- The mode of the pair of performance counter `e` (R116). -/
def Node.pmode (n : Node) (e : Nat) : Nat := bits (n.rd Reg.ABL_PCNT_CHAIN (e / 32)) (e / 2 % 16 * 2) 2

/-- Whether the pair of performance counter `e` is chained (R83, R116). -/
def Node.pchained (n : Node) (e : Nat) : Bool := n.pchain.contains (e / 2)

/-- Add to a performance counter of the sentinel (R112), with the chaining of R83: a pair of mode 1 chains at its first carry.  The sentinel's
bandwidth windows sum the same events (R116).  Chaining and wrapping write no records here. (DESIGN CHOICE: log 124.) -/
def Node.pcount (n : Node) (e : Nat) (k : Nat := 1) : Node :=
  let n : Node := { n with bw := n.bw.map fun b => if b.begun && n.fld Reg.ABL_BW_CFG b.w 0 12 == e then { b with acc := b.acc + k } else b }
  if e % 2 = 1 && n.pchained e then n
  else
    let v := n.rd Reg.ABL_PCNT e + k
    let n := n.wr Reg.ABL_PCNT e (v % 2 ^ 48)
    let wrapped (n : Node) (x : Nat) : Node := (n.setB Reg.ABL_PCNT_OVF (x / 32) (x % 32) true).irq 96
    if v < 2 ^ 48 then n
    else if e % 2 = 1 then wrapped n e
    else if n.pchained e then
      let hi := n.rd Reg.ABL_PCNT (e + 1) + 1
      let n := n.wr Reg.ABL_PCNT (e + 1) (hi % 2 ^ 48)
      if hi < 2 ^ 48 then n else wrapped n (e + 1)
    else if n.pmode e = 1 then { n.wr Reg.ABL_PCNT (e + 1) 1 with pchain := (e / 2) :: n.pchain }
    else wrapped n e

/-- Count the records written and rate-limited since the last count (R80: 0xF80, 0xF81). -/
def Node.settle (n : Node) : Node :=
  let n := n.flushLoss
  match n.dev with
  | .abl => { n with written := 0, limited := 0 }
  | .ddu =>
    let w := n.written
    let l := n.limited
    (({ n with written := 0, limited := 0 }).count 0xF80 w).count 0xF81 l

/-- Whether the sentinel's history store keeps a copy of a record (R508, R418, R530), and whether it is essential. -/
def storeClass (typ code : Nat) : Option Bool :=
  if (typ = 0x1A && (code == 2 || code == 3 || code == 4 || code == 0x20)) || (typ = 0x18 && (code == 6 || code == 7 || code == 8)) ||
      (typ = 0x1B && (code == 1 || code == 0x20)) then some true
  else if (typ = 0x1A && code == 1) || (typ = 0x1B && code == 2) then some false
  else none

/-- Note a record for the history store. -/
def Node.keep (n : Node) (r : Record) : Node :=
  if n.dev == .abl && (storeClass r.typ r.code).isSome then { n with tostore := n.tostore ++ [r] } else n

/-- Write a record: rate limit and rate note (R147 to R149), numbering (R12), recorder (R140), upward message in its class, event
(R611).  `severe` marks a record that the fault collector makes severe, which is never limited. -/
def Node.emit (n : Node) (jobtag cls typ code src : Nat) (payload : List Nat) (flags : Nat := 0) (severe : Bool := false) :
    Node :=
  let up (r : Record) (m : Node) : Node := m.sendUp jobtag cls (.record r)
  (n.write cls typ code src flags payload (fun r m => ((up r m).event r).keep r) severe up).settle

end Sys2Proof.Machine
end

