-- ==== Sys2Proof/Machine/Faults.lean ====
section
/-!
DEFINITION. The fault collector (chapter 13) as both devices have it: sliding windows, severity, escalation, channels
and their retirement.  A severe source's reaction reaches beyond the collector; the operations here answer it as a
`React` for the device to carry out.
-/

namespace Sys2Proof.Machine

/-- Note something for the device to carry out. -/
def Node.owe (n : Node) (r : React) : Node := { n with due := n.due ++ [r] }

/-- The collector's registers of a device. -/
def fltCtrl : Dev → RegDef | .ddu => Reg.DDU_FLT_CTRL | .abl => Reg.ABL_FLT_CTRL
def fltCfgR : Dev → RegDef | .ddu => Reg.DDU_FLT_CFG | .abl => Reg.ABL_FLT_CFG
def fltSev : Dev → RegDef | .ddu => Reg.DDU_FLT_SEV | .abl => Reg.ABL_FLT_SEV
def fltIso : Dev → RegDef | .ddu => Reg.DDU_FLT_ISO | .abl => Reg.ABL_FLT_ISO
def fltInj : Dev → RegDef | .ddu => Reg.DDU_FLT_INJ | .abl => Reg.ABL_FLT_INJ
def fltDenied : Dev → RegDef | .ddu => Reg.DDU_FLT_DENIED | .abl => Reg.ABL_FLT_DENIED

/-- Sources on which events are never counted (R462, R463). -/
def reservedSrc (d : Dev) (s : Nat) : Bool :=
  match d with
  | .ddu => decide (508 ≤ s)
  | .abl => decide (628 ≤ s) && decide (s ≤ 639) || decide (655 ≤ s)

/-- The sentinel's channel sources (R462). -/
def channelSrc (d : Dev) (s : Nat) : Bool :=
  match d with
  | .ddu => false
  | .abl => decide (272 ≤ s) && decide (s ≤ 553) || decide (560 ≤ s) && decide (s ≤ 623)

/-- Bit `s` of a register array of 32-bit words. -/
def Node.arrBit (n : Node) (r : RegDef) (s : Nat) : Bool := n.bit r (s / 32) (s % 32)

/-- Set or clear bit `s` of a register array of 32-bit words. -/
def Node.setArr (n : Node) (r : RegDef) (s : Nat) (v : Bool) : Node := n.setB r (s / 32) (s % 32) v

/-- Number of severe sources. -/
def Node.severeCount (n : Node) : Nat :=
  match n.dev with
  | .ddu => ((List.range 16).map fun w => popcount 32 (n.rd Reg.DDU_FLT_SEV w)).sum
  | .abl => ((List.range 32).map fun w => popcount 32 (n.rd Reg.ABL_FLT_SEV w)).sum

/-- Bring FLT_STATUS, and on the sentinel FAULT_N's level in ABL_STATUS, in step with the SEV bits (R470, R487). -/
def Node.fltRefresh (n : Node) : Node :=
  let k := n.severeCount
  match n.dev with
  | .ddu => (n.setFld Reg.DDU_FLT_STATUS 0 0 10 k).setB Reg.DDU_FLT_STATUS 0 31 (0 < k)
  | .abl => ((n.setFld Reg.ABL_FLT_STATUS 0 0 11 k).setB Reg.ABL_FLT_STATUS 0 31 (0 < k)).setB Reg.ABL_STATUS 0 31 (0 < k)

/-- Count in the window of a source (R459). -/
def Node.winCount (n : Node) (s : Nat) : Nat :=
  match n.flt.wins.find? fun w => w.src == s with
  | some w => w.subs.sum
  | none => 0

/-- Replace the window of a source. -/
def Node.setWin (n : Node) (s : Nat) (subs : List Nat) : Node :=
  let n : Node := { n with flt := { n.flt with wins := { src := s, subs := subs } :: n.flt.wins.filter fun w => w.src != s } }
  match n.dev with
  | .ddu => n.setFld Reg.DDU_FLT_CNT s 0 16 (min 65535 subs.sum)
  | .abl => n.setFld Reg.ABL_FLT_CNT s 0 16 (min 65535 subs.sum)

/-- One more event in the current sub-window of a source. -/
def Node.winAdd (n : Node) (s : Nat) : Node :=
  let subs := match n.flt.wins.find? fun w => w.src == s with
    | some w => w.subs
    | none => []
  n.setWin s (match subs with | [] => [1] | a :: t => (a + 1) :: t)

/-- Events since reset, saturating. -/
def Node.fltTotal (n : Node) (s : Nat) : Node :=
  match n.dev with
  | .ddu => n.satFld Reg.DDU_FLT_CNT s 16 16 1
  | .abl => n.satFld Reg.ABL_FLT_CNT s 32 32 1

/-- Raise an escalation (R478): an ESCALATION record, which is also a class 0 event. `src` is the source it concerns. (DESIGN CHOICE: log 69.) -/
def Node.escalate (n : Node) (src reason jobtag subject arg : Nat) : Node :=
  n.emit jobtag 1 0x1A 0x0020 src ([reason, 0, 0, 0] ++ le 4 jobtag ++ le 4 subject ++ le 4 arg)

/-- A source becomes severe with the given REACTION (R464). (DESIGN CHOICE: log 69.) -/
def Node.severe (n : Node) (s cause reaction count jobtag : Nat) : Node :=
  let win := n.fld (fltCfgR n.dev) s 0 16
  let n := (n.setArr (fltSev n.dev) s true).fltRefresh
  let n := match n.dev with
    | .ddu => (n.setFld Reg.DDU_FLT_STATUS 0 16 9 s).hostIrq 4
    | .abl => ((n.setFld Reg.ABL_FLT_STATUS 0 16 10 s).irqAll 0).msix 17
  let n := (n.emit jobtag 1 0x1A 0x0002 s (le 2 s ++ [cause, reaction] ++ le 4 count ++ le 4 jobtag ++ le 4 win) 0 true).owe
    .trigger
  match reaction with
  | 1 => (n.setArr (fltIso n.dev) s true).owe (.isolate s)
  | 2 => n.owe (.reset s)
  | 3 => n.escalate s 1 jobtag s 0
  | _ => n

/-- A source reaches SEV_N, or an IMMEDIATE event: severe, or the further reaction of R465. -/
def Node.severeAgain (n : Node) (s cause count jobtag : Nat) : Node :=
  let reaction := n.fld (fltCfgR n.dev) s 30 2
  if n.arrBit (fltSev n.dev) s then
    match reaction with
    | 2 => n.escalate s 2 jobtag s 0
    | 3 => n.escalate s 1 jobtag s 0
    | _ => n
  else n.severe s cause reaction count jobtag

/-! ## Channels -/

/-- The channel of a source and slot. -/
def Node.chan (n : Node) (s slot : Nat) : ChanX :=
  (n.flt.chans.find? fun c => c.src == s && c.slot == slot).getD { src := s, slot := slot }

/-- Store a channel and its register view (R489). -/
def Node.setChan (n : Node) (c : ChanX) : Node :=
  let n : Node := { n with flt := { n.flt with chans := c :: n.flt.chans.filter fun x => !(x.src == c.src && x.slot == c.slot) } }
  let v (old : Nat) : Nat := setBits (setBits (setBits old 62 2 c.st) 56 4 (min 8 c.fails.length)) 52 4 (min 15 c.retry)
  match n.dev with
  | .abl =>
    let n := n.wr Reg.ABL_FLT_CHAN c.src (v (n.rd Reg.ABL_FLT_CHAN c.src))
    if c.src = 552 ∨ c.src = 553 then n.setFld Reg.ABL_HS_PATH (c.src - 552) 62 2 c.st else n
  | .ddu => if c.src = 1000 then n.wr Reg.DDU_FLT_REGPATH 0 (v (n.rd Reg.DDU_FLT_REGPATH * 2 ^ 32) / 2 ^ 32) else n

/-- Write CHANNEL_STATE (R486) for a channel kind whose record it is (R473): HBM, flash and the regulator path. The
regulator path has no source number; its record names the unit that owns it. -/
def Node.chanRec (n : Node) (s old new fails : Nat) : Node :=
  let src := if n.dev == .ddu then 501 else s
  let n := if n.dev == .abl then n.irq 129 else n
  if n.dev == .ddu || (296 ≤ s && s ≤ 553) then
    n.emit 0 1 0x1A 0x0003 src (le 2 src ++ [old, new] ++ le 4 fails)
  else n

/-- The failures of the last 10 s. -/
def recent (now : Nat) (l : List Nat) : List Nat := l.filter fun t => now < t + 10000000000

/-- The unit that owns a DDU channel (R463): sensor channels 0 to 151 as they are, 1000 the regulator path, 1001 the
lane. -/
def dduChanUnit (s : Nat) : Nat := if s = 1000 then 501 else if s = 1001 then 503 else 497

/-- Retirement of a channel: on the sentinel its source becomes severe with reaction COUNT (R472) and its ISO bit is
set (R468). -/
def Node.chanRetire (n : Node) (c : ChanX) : Node :=
  let n := (n.setChan { c with st := 3 }).chanRec c.src c.st 3 c.fails.length
  match n.dev with
  | .abl =>
    let n := n.setArr Reg.ABL_FLT_ISO c.src true
    (if n.arrBit Reg.ABL_FLT_SEV c.src then n else n.severe c.src 0 0 1 0).owe (.retired c.src)
  | .ddu => n.owe (.retired c.src)

/-- One failure of a channel (R472): it opens an episode after 1 s in service, counts toward eight in 10 s, and
retires or waits for its retry. (DESIGN CHOICE: log 69.) -/
def Node.chanFail (n : Node) (s slot : Nat) : Node :=
  let c := n.chan s slot
  if c.st = 3 then n
  else
    let now := n.local
    let fresh := c.st = 0 && decide (c.since + 1000000000 ≤ now)
    let fails := recent now c.fails ++ [now]
    let retry := if fresh || !c.inEpisode then 1 else c.retry + 1
    let c' := { c with st := 1, fails := fails, retry := retry, inEpisode := true }
    let n := match n.dev with
      | .abl => n.satFld Reg.ABL_FLT_CHAN s 0 32 1
      | .ddu => n
    if 8 ≤ fails.length then n.chanRetire { c' with st := c.st }
    else
      let n := n.setChan c'
      if c.st = 1 then n else n.chanRec s c.st 1 fails.length

/-- A retry that succeeds: the channel is back in service (R472). -/
def Node.chanOk (n : Node) (s slot : Nat) : Node :=
  let c := n.chan s slot
  if c.st = 3 || c.st = 0 then n
  else (n.setChan { c with st := 0, since := n.local, retry := 0, inEpisode := false }).chanRec s c.st 0 c.fails.length

/-! ## Fault events -/

/-- The events of a source in its window once one more has come (R459, R475). -/
def Node.winAfter (n : Node) (s eflags : Nat) : Nat :=
  let armed := n.fld (fltInj n.dev) 0 48 10 == s && n.fld (fltInj n.dev) 0 0 16 != 0
  let counts := !(armed || Machine.bit eflags 0) || (n.bit (fltInj n.dev) 0 32 && !channelSrc n.dev s)
  if n.bit (fltCtrl n.dev) 0 0 && counts then (n.winAdd s).winCount s else n.winCount s

/-- One fault event (R459, R460, R475, R477, R687). EFLAGS: [0] INJECTED, [1] IMMEDIATE, [2] corrected.  An event of the source on which an
injection is armed is one of its inverted checks. -/
def Node.fault (n : Node) (s cause eflags0 jobtag arg : Nat) : Node :=
  if reservedSrc n.dev s then n
  else
    let armed := n.fld (fltInj n.dev) 0 48 10 == s && n.fld (fltInj n.dev) 0 0 16 != 0
    let n := if armed then n.setFld (fltInj n.dev) 0 0 16 (n.fld (fltInj n.dev) 0 0 16 - 1) else n
    let eflags := if armed then setBit eflags0 0 true else eflags0
    let n := n.fltTotal s
    if !n.bit (fltCtrl n.dev) 0 0 then n
    else
      let injected := Machine.bit eflags 0
      let counts := !injected || (n.bit (fltInj n.dev) 0 32 && !channelSrc n.dev s)
      let cfg := n.rd (fltCfgR n.dev) s
      let n := if counts then n.winAdd s else n
      let n := if n.dev == .abl then n.irq 130 else n
      let c := n.winCount s
      let n := n.emit jobtag 2 0x1A 0x0001 s (le 2 s ++ [cause, eflags] ++ le 4 c ++ le 4 jobtag ++ le 4 arg)
      let sevN := if bits cfg 0 16 = 0 then 1 else bits cfg 16 8
      let reached := counts && (Machine.bit eflags 1 || (decide (0 < sevN) && decide (sevN ≤ c)))
      if !reached then n
      else
        let n := n.setWin s []
        if channelSrc n.dev s then n.chanFail s 255 else n.severeAgain s cause c jobtag

/-- A sub-window of a source ends and the oldest leaves the count (R459). -/
def Node.subWindow (n : Node) (s : Nat) : Node :=
  match n.flt.wins.find? fun w => w.src == s with
  | some w => n.setWin s ((0 :: w.subs).take 8)
  | none => n

/-- FAULT_CLEAR of one source (R471). -/
def Node.faultClear (n : Node) (s : Nat) : Node :=
  if n.arrBit (fltSev n.dev) s then
    (((n.setArr (fltSev n.dev) s false).fltRefresh).setWin s []).emit 0 2 0x1A 0x0005 s (le 2 s ++ zeros 6)
  else n

/-- RESTORE_SOURCE of one source that is isolated or retired (R469). (DEDUCED: log 32.) -/
def Node.restore (n : Node) (s slot : Nat) : Node :=
  if n.arrBit (fltIso n.dev) s then
    let c := n.chan s slot
    let was := if c.st = 3 then 2 else 1
    let n := ((n.setArr (fltIso n.dev) s false).setArr (fltSev n.dev) s false).fltRefresh
    let n := n.setWin s []
    let n := if c.st = 3 then n.setChan { src := s, slot := slot, since := n.local } else n
    n.emit 0 1 0x1A 0x0004 s (le 2 s ++ [was] ++ zeros 5)
  else n

end Sys2Proof.Machine
end

