-- ==== Sys2Proof/Machine/TraceOps.lean ====
section
/-!
DEFINITION. The trace stream (R119 to R124), capture around a trigger (R125 to R130) and the starting of the fast
domain, which the trace needs (R47).
-/

namespace Sys2Proof.Machine

/-- Apply an operation of the common part. -/
def Ddu.on (d : Ddu) (f : Node → Node) : Ddu := { d with n := f d.n }

/-- The value of a register. -/
def Ddu.rd (d : Ddu) (r : RegDef) (i : Nat := 0) : Nat := d.n.rd r i

/-- Write a register. -/
def Ddu.wr (d : Ddu) (r : RegDef) (i v : Nat) : Ddu := d.on fun n => n.wr r i v

/-- Count in a register. -/
def Ddu.bump (d : Ddu) (r : RegDef) (i : Nat := 0) (k : Nat := 1) : Ddu := d.on fun n => n.bump r i k

/-- DDU_PWR_STATE (R542): 0 Slack, 1 Ebb, 2 Flood. -/
def Ddu.pwr (d : Ddu) : Nat := d.n.fld Reg.DDU_PWR_STATE 0 0 3

/-- Start the fast domain unless it runs or wakes already (R47); in Slack its causes do not start it (R542). -/
def Ddu.fastStart (d : Ddu) : Ddu :=
  if d.n.bit Reg.DDU_STATUS 0 2 || d.n.bit Reg.DDU_STATUS 0 1 || !d.bnd.corePgood || d.pwr == 0 then d
  else d.on fun n => n.setB Reg.DDU_STATUS 0 1 true

/-- Whether a window offset belongs to a fast-domain block: Counter Bank, Trace Unit, Snoop DMA, ABFT Checker. (DESIGN CHOICE: log 104.) -/
def fastBlock (x : Nat) : Bool :=
  [1, 4, 0xC].contains (x / 0x10000) || (decide (0x81000 ≤ x) && decide (x < 0x90000))

/-- Whether the host fabric initiator issues requests: a rate other than 0 (R58), and the fast domain running (R75). -/
def Ddu.fabricOn (d : Ddu) : Bool := d.n.fld Reg.DDU_FABRIC_RATE 0 0 16 != 0 && d.n.bit Reg.DDU_STATUS 0 2

/-- Trace states of R137. -/
def trcOff : Nat := 0
def trcArmed : Nat := 1
def trcTriggered : Nat := 2
def trcSpilling : Nat := 3
def trcDone : Nat := 4
def trcParked : Nat := 5

/-- DDU_TRC_STATE.STATE. -/
def Ddu.trcState (d : Ddu) : Nat := d.n.fld Reg.DDU_TRC_STATE 0 0 3

/-- Set DDU_TRC_STATE.STATE. -/
def Ddu.setTrcState (d : Ddu) (s : Nat) : Ddu := d.on fun n => n.setFld Reg.DDU_TRC_STATE 0 0 3 s

/-- Whether the Trace Unit writes packets: ARMED, TRIGGERED or SPILLING. -/
def Ddu.tracing (d : Ddu) : Bool := decide (1 ≤ d.trcState) && decide (d.trcState ≤ 3)

/-- WRAP_SEEN and TIME_NS as the trace packets carry them (R121). -/
def Ddu.trcTime (d : Ddu) : List Nat := le 2 (d.rd (Reg.TIME_WRAP .ddu)) ++ le 4 d.n.now

/-- A packet header byte (R120). -/
def pktHead (kind : Nat) (global : Bool) (core : Nat) : Nat := kind * 16 + b2n global * 8 + core % 8

/-- STREAM_OFFSET in its register. -/
def Ddu.trcView (d : Ddu) : Ddu := d.wr Reg.DDU_TRC_STREAM_OFFSET 0 (d.trc.off + d.trc.cur.length)

/-- Every core needs a CORE_SYNC for reason `r` before its next packet (R122). -/
def TraceX.needAll (t : TraceX) (r : Nat) : TraceX :=
  { t with cores := t.cores.map fun c => { c with need := some r } }

/-- Start a block: SYNC with `reason` at its head (R120), or with the reason that an exit from Slack has left for the next block (R131). -/
def Ddu.trcOpen (d : Ddu) (reason : Nat) : Ddu :=
  let t := d.trc.needAll (if reason = 3 then 3 else 0)
  { d with trc := { t with open_ := true, firstReason := none,
                           cur := [pktHead 1 true 0, t.firstReason.getD reason] ++ d.trcTime ++ le 8 t.off } }

/-- Whether the current position of the stream can take a block: in staging, while fewer than 16 blocks wait (R128). -/
def Ddu.trcRoom (d : Ddu) : Bool := !(d.trc.inStage && decide (16 ≤ d.trc.staging.length))

/-- Blocks of the post-trigger area (R125). -/
def Ddu.trcArea (d : Ddu) : Nat := 1024 - d.trc.headland.length

/-- Complete the current block: pad it with PAD bytes and store it in the buffer, or in staging beyond the post-trigger area (R119, R126). -/
def Ddu.trcPad (d : Ddu) : Ddu :=
  let t := d.trc
  if !t.open_ then d
  else
    let blk := padTo 4096 t.cur
    let t := if t.inStage then { t with staging := t.staging ++ [blk] }
      else { t with blocks := bindKey t.blocks t.idx (t.off, blk), idx := (t.idx + 1) % 1024 }
    { d with trc := { t with open_ := false, cur := [], off := t.off + 4096, complete := t.complete + 1,
                             post := if t.postOn then t.post + 4096 else t.post } }

/-- The transitions of R130 at the end of a block: POST_KIB reached, or the post-trigger area full. -/
def Ddu.trcNext (d : Ddu) : Ddu :=
  let t := d.trc
  if !t.postOn then d
  else if d.rd Reg.DDU_TRC_POST_KIB * 1024 ≤ t.post then { d with trc := { t with postOn := false } }.setTrcState trcDone
  else if 4096 * d.trcArea ≤ t.post && !t.inStage then { d with trc := { t with inStage := true } }.setTrcState trcSpilling
  else d

/-- End the current block (R119, R130). -/
def Ddu.trcClose (d : Ddu) : Ddu := if d.trc.open_ then d.trcPad.trcNext else d

/-- Put one packet into the stream (R119): it opens the next block when it does not fit; with all 16 staging blocks
waiting it is dropped and counted (R128). -/
def Ddu.trcPut (d : Ddu) (p : List Nat) : Ddu :=
  if !d.tracing || d.n.bit Reg.DDU_SUBRESET 0 3 then d
  else
    let d := if d.trc.open_ && 4096 < d.trc.cur.length + p.length then d.trcClose else d
    if !d.tracing then d
    else if !d.trc.open_ && !d.trcRoom then
      { d with trc := { d.trc with loss := d.trc.loss + 1 } }.bump Reg.DDU_TRC_LOST
    else
      let d := if d.trc.open_ then d else d.trcOpen 0
      { d with trc := { d.trc with cur := d.trc.cur ++ p } }

/-- The trace's knowledge of core `c`. -/
def TraceX.core (t : TraceX) (c : Nat) : TraceCore := (t.cores.find? fun x => x.core == c).getD { core := c }

/-- Replace the trace's knowledge of a core. -/
def TraceX.setCore (t : TraceX) (x : TraceCore) : TraceX := { t with cores := x :: t.cores.filter fun y => y.core != x.core }

/-- The block for a packet of `len` bytes: the next one when the packet does not fit in the current block (R119). -/
def Ddu.trcFresh (d : Ddu) (len : Nat) : Ddu :=
  let d := if d.trc.open_ && 4096 < d.trc.cur.length + len then d.trcClose else d
  if !d.trc.open_ && d.tracing && d.trcRoom then d.trcOpen 0 else d

/-- The packet that core `c` has due next, what it changes in the trace's knowledge of the core, and whether it is the last (R122, R123): a
CORE_SYNC, the CONTEXT after it or after a change, a TDELTA, then the packet `p` itself; `timed` marks ATOM and ADDR packets.  A delta above
2^24 - 1 ns comes before the periodic cause. (DEDUCED: log 112.) -/
def Ddu.trcDue (d : Ddu) (c : Nat) (timed : Bool) (p : Option (List Nat)) : Option (List Nat × (TraceCore → TraceCore) × Bool) :=
  let x := d.trc.core c
  let now := d.n.local
  let dt := now - x.lastRef
  let us := d.rd Reg.DDU_TRC_SYNC_US
  let job := d.rd Reg.DDU_JOB_TAG
  let cause := match x.need with
    | some r => some r
    | none => if timed && decide (2 ^ 24 - 1 < dt) then some 2
      else if us ≠ 0 && decide (us * 1000 ≤ now - x.lastSync) then some 1 else none
  match cause with
  | some r => some ([pktHead 2 false c, r] ++ d.trcTime ++ le 8 x.pc,
      fun y => { y with need := none, ctx := true, lastRef := now, lastSync := now }, false)
  | none =>
    if x.ctx || x.jobtag ≠ job then
      some ([pktHead 6 false c, x.level % 256, 0, 0] ++ le 4 job, fun y => { y with ctx := false, jobtag := job }, false)
    else if timed && decide (2 ^ d.n.fld Reg.DDU_TRC_CTRL 0 24 4 ≤ dt) then
      some ([pktHead 5 false c] ++ le 3 dt, fun y => { y with lastRef := now }, false)
    else p.map fun b => (b, fun y => y, true)

/-- Write what core `c` has due and then `p`, each packet in a block that it fits; a new block brings a CORE_SYNC of its own.  While staging is
full, the packet is dropped (R128). -/
def Ddu.trcCorePkts : Nat → Ddu → Nat → Bool → Option (List Nat) → Ddu
  | 0, d, _, _, _ => d
  | k + 1, d, c, timed, p =>
    match d.trcDue c timed p with
    | none => d
    | some (b, f, last) =>
      let e := d.trcFresh b.length
      if !e.tracing then e
      else if !e.trc.open_ then (match p with | some q => e.trcPut q | none => e)
      else if !d.trc.open_ || e.trc.off ≠ d.trc.off then Ddu.trcCorePkts k e c timed p
      else
        let e := e.trcPut b
        let e : Ddu := { e with trc := e.trc.setCore (f (e.trc.core c)) }
        if last then e else Ddu.trcCorePkts k e c timed p

/-- Packets of core `c`, whose next instruction to retire is at `pc`: those due, and `p` when there is one. -/
def Ddu.trcCorePkt (d : Ddu) (c pc : Nat) (timed : Bool) (p : Option (List Nat)) : Ddu :=
  if !d.tracing || !d.n.bit Reg.DDU_TRC_CTRL 0 (16 + c) then d
  else Ddu.trcCorePkts 10 { d with trc := d.trc.setCore { d.trc.core c with pc := pc } } c timed p

/-- The die's JobTag has changed: a CONTEXT of each core that the trace knows (R122). -/
def Ddu.trcJob (d : Ddu) : Ddu :=
  if d.tracing && d.n.bit Reg.DDU_STATUS 0 2 then
    let cs := d.trc.cores.filter fun x => x.jobtag ≠ d.rd Reg.DDU_JOB_TAG
    if cs.isEmpty then d else (cs.foldl (fun d x => d.trcCorePkt x.core x.pc false none) d).trcView
  else d

/-- The record of a loss episode (R128). -/
def Ddu.trcLossRec (d : Ddu) : Ddu :=
  let k := d.trc.loss
  ({ d with trc := { d.trc with loss := 0 } }).on fun n => n.loss k 0x0004 0 (some 499)

/-- A staging block is free after a loss (R128): SYNC with REASON 3, LOSS with CAUSE 0, and the record of the episode. -/
def Ddu.trcLossEnd (d : Ddu) : Ddu :=
  if d.trc.loss = 0 || !d.tracing || !d.trcRoom then d
  else
    let k := d.trc.loss
    let d := (d.trcLossRec.trcOpen 3).trcPut ([pktHead 10 true 0, 0, 0, 0] ++ le 4 k)
    ({ d with trc := d.trc.needAll 3 } : Ddu).trcView

/-- A trigger is taken or missed (R125, R130). `source` is the DDU_TRC_TRIG_SRC bit index, or 6 for TRIG_NOW. -/
def Ddu.trcTrigger (d : Ddu) (source arg : Nat) : Ddu :=
  let st := d.trcState
  if st = trcOff || d.n.bit Reg.DDU_SUBRESET 0 3 then d
  else if st ≠ trcArmed then d.bump Reg.DDU_TRC_TRIG_MISSED
  else
    let d := d.trcClose
    let h := min (min (d.n.fld Reg.DDU_TRC_CTRL 0 8 8 * 1024 / 100) 1023) d.trc.complete
    let frozen := (List.range h).map fun k => (d.trc.idx + 2048 - 1 - k) % 1024
    let t := { d.trc with headland := frozen, trigIdx := d.trc.idx, post := 0, postOn := true, inStage := false,
                          trigSeq := d.trc.trigSeq + 1 }
    let d : Ddu := { d with trc := t }.trcOpen 0
    let d : Ddu := { d with trc := { d.trc with cur := d.trc.cur ++
      ([pktHead 9 true 0, source] ++ d.trcTime ++ le 4 arg ++ le 4 t.trigSeq) } }
    let d := d.wr Reg.DDU_TRC_TRIG_INFO 0 (d.n.now * 2 ^ 32 + t.trigIdx * 2 ^ 16 + h)
    let d := d.on fun n => n.hostIrq 5
    let d : Ddu := if h = 1023 then d.setTrcState trcSpilling else d.setTrcState trcTriggered
    let fin : Ddu := { d with trc := { d.trc with postOn := false } }
    if d.rd Reg.DDU_TRC_POST_KIB = 0 then (fin.trcClose.setTrcState trcDone).trcView else d.trcView

/-- A trigger source fires (R138): it acts when it is enabled. -/
def Ddu.trcFire (d : Ddu) (source arg : Nat) : Ddu :=
  if d.n.bit Reg.DDU_TRC_TRIG_SRC 0 source then d.trcTrigger source arg else d

/-- Arm the Trace Unit (R130): the buffer is empty and the stream begins at 0; what an earlier capture has staged goes on draining. -/
def Ddu.trcArm (d : Ddu) : Ddu :=
  let d := d.trcLossRec
  let d : Ddu := { d with trc := { d.trc with cur := [], open_ := false, idx := 0, off := 0, complete := 0, blocks := [],
                                              headland := [], trigIdx := 0, post := 0, postOn := false, inStage := false,
                                              cores := [], firstReason := none } }
  ((d.setTrcState trcArmed).trcOpen 1).trcView

/-- The Trace Unit returns to OFF with buffer, staging and trigger state cleared; the spill offsets stay (R130). -/
def Ddu.trcClear (d : Ddu) : Ddu :=
  let d : Ddu := { d.trcLossRec with trc := { trigSeq := d.trc.trigSeq } }
  let d := d.on fun n => (n.wr Reg.DDU_TRC_STATE 0 0).setB Reg.DDU_TRC_CTRL 0 0 false
  (d.wr Reg.DDU_TRC_TRIG_INFO 0 0).trcView

/-- The Trace Unit parks at an entry to Slack (R130, R131): POWER_ENTER, pad, stop; RESUME is the state from which it parks. -/
def Ddu.trcPark (d : Ddu) : Ddu :=
  let d := d.trcPut ([pktHead 8 true 0, 0] ++ d.trcTime ++ le 4 d.n.frac ++ zeros 4)
  if !d.tracing then d.trcView
  else
    let d := d.trcPad
    ((d.on fun n => n.setFld Reg.DDU_TRC_STATE 0 4 3 d.trcState).setTrcState trcParked).trcView

/-- The Trace Unit leaves PARKED (R131, R170): the end of the block padded at the park has its effect, and SYNC with REASON 2 heads a new
block, as soon as staging has room for one. (DESIGN CHOICE: log 27.) -/
def Ddu.trcResume (d : Ddu) : Ddu :=
  if d.trcState ≠ trcParked then d
  else
    let d := d.setTrcState (d.n.fld Reg.DDU_TRC_STATE 0 4 3)
    let d := (d.on fun n => n.setFld Reg.DDU_TRC_STATE 0 4 3 0).trcNext
    let d : Ddu := { d with trc := { d.trc with firstReason := some 2 } }
    if d.trc.loss ≠ 0 then d.trcLossEnd
    else if d.tracing && d.trcRoom then (d.trcOpen 2).trcView else d

/-- A MARKER packet at a change between Ebb and Flood (R132): 1 Ebb to Flood, 2 Flood to Ebb. -/
def Ddu.trcMarker (d : Ddu) (dir : Nat) : Ddu :=
  (d.trcPut ([pktHead 7 true 0, dir, 0, 0] ++ le 4 d.n.now)).trcView

/-- Pad the current block and start a new one, at a load of time (R159). -/
def Ddu.trcTimeLoad (d : Ddu) : Ddu :=
  if d.tracing && d.trc.open_ then
    let d := d.trcClose
    if d.tracing && d.trcRoom then (d.trcOpen 0).trcView else d
  else d

/-- Usable bytes of the spill region (R127). -/
def Ddu.spillSize (d : Ddu) : Nat := d.rd Reg.DDU_SPILL_SIZE / 4096 * 4096

/-- Whether the spill can take a block now (R127). -/
def Ddu.spillReady (d : Ddu) : Bool :=
  decide (0 < d.spillSize) && d.fabricOn &&
  decide (d.rd Reg.DDU_TRC_SPILL_WR + 4096 ≤ d.spillSize + d.rd Reg.DDU_TRC_SPILL_RD)

/-- Cause 5 while the bytes not yet consumed reach the watermark (R129): judged after every command. -/
def Ddu.spillWater (d : Ddu) : Ddu :=
  let w := d.rd Reg.DDU_TRC_SPILL_WMARK
  if w ≠ 0 && w ≤ d.rd Reg.DDU_TRC_SPILL_WR - d.rd Reg.DDU_TRC_SPILL_RD then d.on fun n => n.hostIrq 5 else d

/-! ## Enabling, spilling, reading and exporting -/

/-- Whether a facility of the debug matrix is open to this DDU (R663): grant bit 4 TRACE, 5 INJECT. -/
def Ddu.dbgMay (d : Ddu) (g : Nat) : Bool :=
  let lc := d.n.fld Reg.DDU_STATUS 0 8 3
  d.pwr != 0 && (lc == 0 || lc == 3 || (lc == 2 && d.n.bit Reg.DDU_DBG_GRANT 0 31 && d.n.bit Reg.DDU_DBG_GRANT 0 g))

/-- DDU_TRC_CTRL with a new value's fields other than EN (R125, R136). -/
def Ddu.trcCtrl (d : Ddu) (v : Nat) : Ddu :=
  d.on fun n => ((n.setFld Reg.DDU_TRC_CTRL 0 24 4 (bits v 24 4)).setFld Reg.DDU_TRC_CTRL 0 16 8 (bits v 16 8)).setFld
    Reg.DDU_TRC_CTRL 0 8 8 (min 100 (bits v 8 8))

/-- A write of DDU_TRC_CTRL with EN = 1 (R130, R133). -/
def Ddu.trcEnable (d : Ddu) (v : Nat) : Ddu :=
  let prof := d.n.bit Reg.DDU_PROF_CTRL 0 0
  if !prof && !d.dbgMay 4 then d.bump Reg.DDU_ACCESS_DENIED
  else
    let d := d.trcCtrl v
    if d.trcState ≠ trcOff || d.n.bit Reg.DDU_SUBRESET 0 3 then d
    else
      let d := (d.on fun n => n.setB Reg.DDU_TRC_CTRL 0 0 true).fastStart
      let d := d.trcArm
      { d with trc := { d.trc with byDebug := !prof } }

/-- A write of DDU_TRC_CTRL with EN = 0 (R130): pad the block; staging goes on draining. -/
def Ddu.trcDisable (d : Ddu) (v : Nat) : Ddu :=
  let d := d.trcCtrl v
  let d := d.on fun n => n.setB Reg.DDU_TRC_CTRL 0 0 false
  if d.trcState = trcOff then d
  else
    let d : Ddu := (d.trcPad.trcLossRec.on fun n => n.wr Reg.DDU_TRC_STATE 0 0).trcView
    { d with trc := { d.trc with draining := d.trc.staging.length, postOn := false, byDebug := false } }

/-- The sentinel's grant on this DDU ends (R661, R662): trace enabled under it alone stops, counted injections are disarmed, and LIFECYCLE reads
its fuse again. -/
def Ddu.dbgEnd (d : Ddu) : Ddu :=
  if !d.n.bit Reg.DDU_DBG_GRANT 0 31 then d
  else
    let d := if d.n.bit Reg.DDU_DBG_GRANT 0 5 && d.n.bit Reg.DDU_FLT_INJ 0 32 then
        d.on fun n => (n.setB Reg.DDU_FLT_INJ 0 32 false).setFld Reg.DDU_FLT_INJ 0 0 16 0
      else d
    let d := if d.trc.byDebug then d.trcDisable (d.rd Reg.DDU_TRC_CTRL / 2 * 2) else d
    let d := (d.wr Reg.DDU_DBG_GRANT 0 0).wr Reg.DDU_DBG_EXPIRE 0 0
    if d.n.fld Reg.DDU_STATUS 0 8 3 = 2 then d.on fun n => n.setFld Reg.DDU_STATUS 0 8 3 1 else d

/-- The sentinel writes DDU_DBG_GRANT (R662, R668). -/
def Ddu.dbgGrant (d : Ddu) (v : Nat) : Ddu :=
  if bit v 31 then
    let d := d.wr Reg.DDU_DBG_GRANT 0 (v &&& 0x80000030)
    if d.n.fld Reg.DDU_STATUS 0 8 3 = 1 then d.on fun n => n.setFld Reg.DDU_STATUS 0 8 3 2 else d
  else (d.dbgEnd).wr Reg.DDU_DBG_GRANT 0 (v &&& 0x30)

/-- The staging drain of a disable ends (R130): one LOSS record counts the blocks that it left staged and that still are. (DESIGN CHOICE: log 27.) -/
def Ddu.trcDrainEnd (d : Ddu) : Ddu :=
  let k := d.trc.draining
  if k = 0 then d
  else
    let d : Ddu := { d with trc := { d.trc with staging := d.trc.staging.drop k, draining := 0 } }
    (d.on fun n => n.loss k 0x0002 3 (some 499)).trcLossEnd

/-- The host fabric accepts one block of the spill (R127, R128). -/
def Ddu.spillBlock (d : Ddu) : Ddu :=
  match d.trc.staging with
  | [] => d
  | b :: rest =>
    if !d.spillReady then d
    else
      let wr := d.rd Reg.DDU_TRC_SPILL_WR
      let d : Ddu := { d with fabric := d.fabric ++ [FabricOut.mk 2 (d.rd Reg.DDU_SPILL_BASE + wr % d.spillSize) b none],
                              trc := { d.trc with staging := rest, draining := d.trc.draining - 1 } }
      ((d.wr Reg.DDU_TRC_SPILL_WR 0 (wr + 4096)).on fun n => n.count 0xF82 64).trcLossEnd

/-- A write of DDU_TRC_SPILL_RD (R127). -/
def Ddu.spillRd (d : Ddu) (v : Nat) : Ddu :=
  if v < d.rd Reg.DDU_TRC_SPILL_RD || d.rd Reg.DDU_TRC_SPILL_WR < v || v % 4096 ≠ 0 then d.bump Reg.DDU_ACCESS_DENIED
  else d.wr Reg.DDU_TRC_SPILL_RD 0 v

/-- Whether block `i` of the buffer may be read (R134). -/
def Ddu.trcReadable (d : Ddu) (i : Nat) : Bool :=
  let st := d.trcState
  if st = trcArmed then false
  else if st = trcTriggered then
    d.trc.headland.contains i ||
      (List.range ((d.trc.idx + 1024 - d.trc.trigIdx) % 1024)).any fun k => (d.trc.trigIdx + k) % 1024 == i
  else true

/-- The bytes of block `i`; a block that the trace has not written holds zeros. (DESIGN CHOICE: log 27.) -/
def Ddu.trcBlock (d : Ddu) (i : Nat) : List Nat := (lookupD d.trc.blocks i (0, zeros 4096)).2

/-- Start a trace export (R139): the readable blocks as they are now, in STREAM_OFFSET order.  With none, one empty message ends the
operation. (DESIGN CHOICE: log 110.) -/
def Ddu.exportStart (d : Ddu) (handle : Nat) : Ddu :=
  let bs := (d.trc.blocks.filter fun b => d.trcReadable b.1).mergeSort fun a b => decide (a.2.1 ≤ b.2.1)
  if bs.isEmpty then d.on fun n => n.frameUp (n.rd Reg.DDU_JOB_TAG) 3 .traceBlock [handle, 0, 1] []
  else { d with trc := { d.trc with exp := some { handle := handle, left := bs.map fun b => b.2 } } }

/-- One block of the export goes to the sentinel in the TRACE class (R139). -/
def Ddu.exportBlock (d : Ddu) : Ddu :=
  match d.trc.exp with
  | some x =>
    match x.suspended, x.left with
    | false, (off, b) :: rest =>
      let d := d.on fun n => n.frameUp (n.rd Reg.DDU_JOB_TAG) 3 .traceBlock [x.handle, off, b2n rest.isEmpty] b
      { d with trc := { d.trc with exp := if rest.isEmpty then none else some { x with left := rest, sent := x.sent + 1 } } }
    | _, _ => d
  | none => d

end Sys2Proof.Machine
end

