-- ==== Sys2Proof/Machine/CounterOps.lean ====
section
/-!
DEFINITION. The Counter Bank, bandwidth windows, command snapshots and sensors (chapter 03).
-/

namespace Sys2Proof.Machine

/-- Fold the pre-accumulators into the counters, lowest event ID first (R51). -/
def Node.fold (n : Node) : Node :=
  if !n.bankRuns then n
  else
    let evs := (List.range 4096).filter fun e => lookupD n.preAcc e 0 != 0
    evs.foldl (fun m e => m.countRun m.regs e (lookupD n.preAcc e 0)) { n with preAcc := [] }

/-- The valid slots of one event-clock cycle that count: host IDs, each at its lowest slot (R50, R80); the second part
is the number dropped. -/
def busSlots (slots : List (Option (Nat × Nat))) : List (Nat × Nat) × Nat :=
  slots.foldl (fun (keep, drop) slot =>
    match slot with
    | none => (keep, drop)
    | some (ev, inc) =>
      if ev % 4096 ≥ 0xF00 || keep.any (fun p => p.1 == ev % 4096) then (keep, drop + 1)
      else (keep ++ [(ev % 4096, inc % 16)], drop)) ([], 0)

/-- The fault events that increments of a host event raise (R463): one on the named unit for each increment. -/
def Node.mapFaults (n : Node) (ev inc : Nat) : Node :=
  let units := (List.range 64).filterMap fun i =>
    let v := n.rd Reg.DDU_FLT_MAP i
    if Machine.bit v 31 && bits v 0 12 == ev then some (bits v 12 9) else none
  units.foldl (fun m u => (List.range inc).foldl (fun m _ => m.fault u 0 0 (m.rd Reg.DDU_JOB_TAG) ev) m) n

/-- One cycle of the event bus (R50): a marker that was accepted before it and still waits is cut later than its own cycle (R95). -/
def Ddu.eventBus (d : Ddu) (slots : List (Option (Nat × Nat))) : Ddu :=
  let (keep, drop) := busSlots (slots.take 16)
  let before := d.n.regs
  let d := d.on fun n => keep.foldl (fun m p => m.countIn before p.1 p.2) n
  let d := d.on fun n => keep.foldl (fun m p => m.mapFaults p.1 p.2) n
  let d : Ddu := { d with bnd := { d.bnd with markFifo := d.bnd.markFifo.map fun (m, t, _, k) => (m, t, true, k) } }
  if drop = 0 then d else d.bump Reg.DDU_HOST_EVENT_DROP 0 drop

/-! ## Selecting, clearing and freezing -/

/-- A write of DDU_CNT_SELn (R83, R84, R89). (DESIGN CHOICE: log 24.) -/
def Node.cntSel (n : Node) (k v : Nat) : Node :=
  if k ≤ 87 then n
  else
    let old := n.rd Reg.DDU_CNT_SEL k
    let mode := if k % 2 = 1 then 0 else if bits v 12 2 = 3 then 0 else bits v 12 2
    let n := n.wr Reg.DDU_CNT_SEL k (setBits (setBits (setBits old 15 1 (bits v 15 1)) 0 12 (bits v 0 12)) 12 2 mode)
    if k % 2 = 1 then n
    else
      let chain (n : Node) (b : Bool) : Node := n.setB Reg.DDU_CNT_CHAINED (k / 64) (k / 2 % 32) b
      match mode with
      | 2 => (chain n true).wr Reg.DDU_CNT (k + 1) 0
      | 0 => if n.chained k then (chain n false).wr Reg.DDU_CNT (k + 1) 0 else n
      | _ => n

/-- A write of DDU_CNT_SELn under open commands (R96): what its end of chaining clears is noted. -/
def Ddu.cntSel (d : Ddu) (k v : Nat) : Ddu :=
  let was := d.n.chained k
  let d := d.on fun n => n.cntSel k v
  let again := 87 < k && bits v 12 2 = 2
  if k % 2 = 0 && was && (!d.n.chained k || again) then
    { d with streams := d.streams.map fun s => { s with cleared := s.cleared ++ [k, k + 1] } }
  else d

/-- Counters `first` to `last` cleared, with the partners of chained pairs; mode-1 pairs unchain (R84, R86). -/
def Node.cntClearRange (n : Node) (first last : Nat) : Node :=
  let lo := if first % 2 = 1 && n.chained first then first - 1 else first
  let hi := if last % 2 = 0 && n.chained last then last + 1 else last
  let n1 := { n with regs := n.regs.resetRange (Reg.DDU_CNT.addr lo) (Reg.DDU_CNT.addr (hi + 1)) }
  (List.range 64).foldl (fun m w =>
    let v := m.rd Reg.DDU_CNT_CHAINED w
    if v = 0 then m
    else
      let drop := (setBitsOf 32 v).filter fun b =>
        let k := 64 * w + 2 * b
        decide (lo ≤ k + 1) && decide (k ≤ hi) && m.fld Reg.DDU_CNT_SEL k 12 2 == 1
      m.wr Reg.DDU_CNT_CHAINED w (drop.foldl (fun x b => setBit x b false) v)) n1

/-- DDU_CNT_CLEAR (R86); counters cleared under an open command are noted (R96). -/
def Ddu.cntClear (d : Ddu) (first count : Nat) : Ddu :=
  if count = 0 then d
  else
    let last := min (first + count - 1) 4095
    let wide := (List.range 64).filter fun i =>
      let k := d.n.fld Reg.DDU_SNAP_SEL i 0 12
      decide (first ≤ k) && decide (k ≤ last) ||
        d.n.chained k && decide (first ≤ k / 2 * 2 + 1) && decide (k / 2 * 2 ≤ last)
    let hit := wide.map fun i => d.n.fld Reg.DDU_SNAP_SEL i 0 12
    { (d.on fun n => n.cntClearRange first last) with streams := d.streams.map fun s => { s with cleared := s.cleared ++ hit } }

/-- DDU_CNT_FREEZE (R87). -/
def Node.cntFreeze (n : Node) (v : Nat) : Node :=
  let was := n.bit Reg.DDU_CNT_FREEZE 0 0
  let n := if Machine.bit v 1 then n.setB Reg.DDU_CNT_FREEZE 0 1 false else n
  let n := n.setB Reg.DDU_CNT_FREEZE 0 0 (Machine.bit v 0)
  if was && !Machine.bit v 0 then n.fold else n

/-- FREEZE clears by itself (R87). -/
def Node.cntFreezeExpiry (n : Node) : Node :=
  if n.bit Reg.DDU_CNT_FREEZE 0 0 then ((n.setB Reg.DDU_CNT_FREEZE 0 0 false).setB Reg.DDU_CNT_FREEZE 0 1 true).fold else n

/-- Whether a read of counter `k` is withheld (R91). -/
def Node.withheld (n : Node) (k : Nat) : Bool := n.bit Reg.DDU_CNT_SEL k 15 && !n.bit Reg.DDU_PROF_CTRL 0 0

/-- PROF_EN clears, and with it every counter with PROFILE = 1 (R92) and the trace (R133). -/
def Ddu.profClear (d : Ddu) : Ddu :=
  if d.n.bit Reg.DDU_PROF_CTRL 0 0 then
    let d := d.wr Reg.DDU_PROF_CTRL 0 0
    let ks := ((List.range 88) ++ (d.n.regs.filter fun (p : Nat × Nat) => decide (Reg.DDU_CNT_SEL.addr 88 ≤ p.1) && decide (p.1 < 0x1C000) &&
      Machine.bit p.2 15).map fun (p : Nat × Nat) => (p.1 - 0x18000) / 4).filter fun k => d.n.bit Reg.DDU_CNT_SEL k 15
    (ks.foldl (fun m k => m.cntClear k 1) d).trcClear
  else d

/-! ## Command snapshots -/

/-- The valid entries of the snapshot set, in order (R94). -/
def Node.snapSet (n : Node) : List Nat :=
  (List.range 64).filterMap fun i => if n.bit Reg.DDU_SNAP_SEL i 31 then some (n.fld Reg.DDU_SNAP_SEL i 0 12) else none

/-- The value of a counter as a snapshot takes it: 96 bits for a chained pair (R96). -/
def Node.cntWide (n : Node) (k : Nat) : Nat :=
  let e := k / 2 * 2
  if n.chained k then n.rd Reg.DDU_CNT e + 2 ^ 48 * n.rd Reg.DDU_CNT (e + 1) else n.rd Reg.DDU_CNT k

/-- The delta of one entry (R96).  For a counter both cleared and withheld the spec gives two replacements and no order: the model reports it as
cleared. (DESIGN CHOICE: log 105.) -/
def Node.snapDelta (n : Node) (k start : Nat) (cleared : Bool) : Nat :=
  if cleared then 2 ^ 64 - 1
  else if n.withheld k then 0
  else
    let m := if n.chained k then 2 ^ 96 else 2 ^ 48
    (n.cntWide k + m - start % m) % m % 2 ^ 64

/-- Write CMD_SNAPSHOT for a stream (R98). `flags` are END_MISSING and TAG_MISMATCH.  An odd counter whose pair has chained since the start was
cleared as it did (R83, R96). -/
def Ddu.snapRec (d : Ddu) (s : StreamX) (epoch flags endNs : Nat) (deferred : Bool) : Ddu :=
  let set := d.n.snapSet
  let gone (k : Nat) : Bool := s.cleared.contains k || (k % 2 == 1 && d.n.chained k && !s.chain.contains k)
  let deltas := set.zip s.start |>.map fun (k, v) => (d.n.snapDelta k v (gone k), gone k, d.n.withheld k)
  let fl := flags + 8 * b2n (s.deferred || deferred) + 16 * b2n (deltas.any fun x => x.2.1) +
    32 * b2n (deltas.any fun x => x.2.2 && !x.2.1)
  let jt := d.rd Reg.DDU_JOB_TAG
  d.on fun n => n.emit jt 2 0x10 0x0001 496 (le 4 jt ++ le 4 epoch ++ [s.stream, fl] ++ le 2 s.tag ++ le 4 s.startNs ++
    le 4 endNs ++ le 4 deltas.length ++ deltas.flatMap fun x => le 8 x.1)

/-- Refresh DDU_SNAP_OPEN. -/
def Ddu.snapOpenView (d : Ddu) : Ddu := d.wr Reg.DDU_SNAP_OPEN 0 ((d.streams.map fun s => 2 ^ s.stream).sum)

/-- Open a stream at a start marker (R97). -/
def Ddu.snapOpen (d : Ddu) (stream tag epoch stamp : Nat) (deferred : Bool) : Ddu :=
  let x : StreamX := { stream := stream, tag := tag, epoch := epoch, startNs := stamp, deferred := deferred,
                       start := d.n.snapSet.map d.n.cntWide, chain := d.n.snapSet.filter d.n.chained }
  { d with streams := x :: d.streams.filter fun s => s.stream != stream }.snapOpenView

/-- A start marker (R97). -/
def Ddu.snapStart (d : Ddu) (stream tag epoch stamp : Nat) (deferred : Bool) : Ddu :=
  match d.streams.find? fun s => s.stream == stream with
  | none => d.snapOpen stream tag epoch stamp deferred
  | some s => (d.snapRec s s.epoch 2 stamp deferred).snapOpen stream tag epoch stamp deferred

/-- An end marker (R97). -/
def Ddu.snapEnd (d : Ddu) (stream tag epoch stamp : Nat) (deferred : Bool) : Ddu :=
  match d.streams.find? fun s => s.stream == stream with
  | some s => ({ d.snapRec s epoch (if s.tag = tag then 0 else 4) stamp deferred with
      streams := d.streams.filter fun x => x.stream != stream }).snapOpenView
  | none =>
    let jt := d.rd Reg.DDU_JOB_TAG
    d.on fun n => n.emit jt 2 0x10 0x0001 496 (le 4 jt ++ le 4 epoch ++ [stream, 1 + 8 * b2n deferred] ++ le 2 tag ++
      le 4 0 ++ le 4 stamp ++ le 4 0)

/-- Open commands discarded (R97): one LOSS record with the number of streams. -/
def Ddu.snapDiscard (d : Ddu) : Ddu :=
  let k := d.streams.length
  ({ d with streams := [] }.snapOpenView).on fun n => n.loss k 0x0003 0 (some 496)

/-! ## Bandwidth windows -/

/-- The registers of a device's windows. -/
def bwCfg : Dev → RegDef | .ddu => Reg.DDU_BW_CFG | .abl => Reg.ABL_BW_CFG
def bwLast : Dev → RegDef | .ddu => Reg.DDU_BW_LAST | .abl => Reg.ABL_BW_LAST
def bwPeak : Dev → RegDef | .ddu => Reg.DDU_BW_PEAK | .abl => Reg.ABL_BW_PEAK

/-- A write of a window's CFG (R101). -/
def Node.bwWrite (n : Node) (w v : Nat) : Node :=
  let us := min (bits v 32 20) 1000000
  let n := ((n.wr (bwCfg n.dev) w (us * 2 ^ 32 + bits v 0 12)).wr (bwLast n.dev) w 0).wr (bwPeak n.dev) w 0
  let rest := n.bw.filter fun b => b.w != w
  { n with bw := if us = 0 then rest else { w := w } :: rest }

/-- A window's interval of WINDOW_US ends (R100, R102), by the wrap count and TIME_NS. -/
def Node.bwClose (n : Node) (w : Nat) : Node :=
  let step := n.fld (bwCfg n.dev) w 32 20 * 1000
  match n.bw.find? fun b => b.w == w && b.begun && decide (b.at_ + step ≤ n.rd (Reg.TIME_WRAP n.dev) * 2 ^ 32 + n.now) with
  | none => n
  | some b =>
    let last := n.rd (bwLast n.dev) w
    let n := n.wr (bwLast n.dev) w ((bits last 48 16 + 1) % 65536 * 2 ^ 48 + b.acc % 2 ^ 48)
    let n := n.wr (bwPeak n.dev) w (max (n.rd (bwPeak n.dev) w) (b.acc % 2 ^ 48))
    { n with bw := { b with acc := 0, at_ := b.at_ + step } :: n.bw.filter fun x => x.w != w }

/-! ## Sensors -/

/-- Whether a channel's values are signed (R103). -/
def thermal (c : Nat) : Bool := decide (c ≤ 63)

/-- The number that a 16-bit value of channel `c` encodes (R103). -/
def sensVal (c v : Nat) : Int := if thermal c then toInt 16 v else (v % 65536 : Nat)

/-- The ends of the encoding of channel `c`. -/
def sensMin (c : Nat) : Int := if thermal c then -32768 else 0
def sensMax (c : Nat) : Int := if thermal c then 32767 else 65535

/-- A calibrated value (R105): `clamp` 1 or 2 when the raw code stands at the low or high end of the converter's
range.  The raw code is taken as 16 bits, signed for thermal channels: the spec gives no width. (DESIGN CHOICE: log 106.)  A result outside the encoding is not stated by the spec: the open value `free`. -/
def calibrated (c raw clamp cal free : Nat) : Int :=
  if clamp = 1 then sensMin c
  else if clamp = 2 then sensMax c
  else
    let r : Int := if thermal c then toInt 16 raw else (raw % 65536 : Nat)
    let x := r * (bits cal 16 16 : Nat) / (2 ^ 14 : Nat) + toInt 16 cal
    if sensMin c ≤ x && x ≤ sensMax c then x else sensVal c free

/-- Write a sensor record (R111). (DEDUCED: log 16.) -/
def Node.sensRec (n : Node) (c code thr : Nat) : Node :=
  let v := n.rd Reg.DDU_SNS_VALUE c
  n.emit 0 1 0x11 code 497 (le 2 c ++ le 2 (bits v 16 16) ++ le 2 thr ++ le 2 (bits v 0 16))

/-- One crossing (R107): counted, recorded, and HIGH fires the trace trigger (R138); the fault collector does nothing with it.
(DESIGN CHOICE: log 124.) -/
def Ddu.sensCross (d : Ddu) (c : Nat) (high : Bool) : Ddu :=
  let thr := d.n.fld Reg.DDU_SNS_THRESH c (if high then 16 else 0) 16
  let d := d.on fun n =>
    (((n.bumpFld Reg.DDU_SNS_EVENTS c (if high then 16 else 0) 16).count (0xFC0 + c % 64))).sensRec c (if high then 1 else 2) thr
  if high && d.n.fld Reg.DDU_TRC_TRIG_SRC 0 24 8 == c then d.trcFire 0 c else d

/-- Evaluate the thresholds of a channel (R107). (DEDUCED: log 26.) -/
def Ddu.sensThresholds (d : Ddu) (c : Nat) : Ddu :=
  let f := sensVal c (d.n.fld Reg.DDU_SNS_VALUE c 16 16)
  let hi := sensVal c (d.n.fld Reg.DDU_SNS_THRESH c 16 16)
  let lo := sensVal c (d.n.fld Reg.DDU_SNS_THRESH c 0 16)
  let d : Ddu := if f < hi then { d with sens := { d.sens with high := d.sens.high.filter fun x => x != c } }
    else if d.n.bit Reg.DDU_SNS_CFG c 31 && !d.sens.high.contains c then
      { d with sens := { d.sens with high := c :: d.sens.high } }.sensCross c true
    else d
  if lo ≤ f then { d with sens := { d.sens with low := d.sens.low.filter fun x => x != c } }
  else if d.n.bit Reg.DDU_SNS_CFG c 30 && !d.sens.low.contains c then
    { d with sens := { d.sens with low := c :: d.sens.low } }.sensCross c false
  else d

/-- A channel completes a conversion (R104 to R108). (DEDUCED: log 26.) -/
def Ddu.sensSample (d : Ddu) (c raw clamp free : Nat) : Ddu :=
  let st := d.n.rd Reg.DDU_SNS_STATE c
  if bit st 31 || d.n.fld Reg.DDU_SNS_CFG c 0 24 = 0 || d.n.bit Reg.DDU_SUBRESET 0 1 then d
  else
    let x := calibrated c raw clamp (d.n.rd Reg.DDU_SNS_CAL c) free
    let old := sensVal c (d.n.fld Reg.DDU_SNS_VALUE c 16 16)
    let f := if d.sens.seeded.contains c then old + (x - old) / (2 ^ d.n.fld Reg.DDU_SNS_CFG c 24 4 : Nat) else x
    let mm := d.n.rd Reg.DDU_SNS_MINMAX c
    let (mx, mn) := if d.sens.minmax.contains c then (max x (sensVal c (bits mm 16 16)), min x (sensVal c (bits mm 0 16)))
      else (x, x)
    let d : Ddu := { d with sens := { d.sens with
      last := bindKey d.sens.last c d.n.local, seeded := c :: d.sens.seeded.filter fun y => y != c, minmax := c :: d.sens.minmax.filter fun y => y != c } }
    let d := d.wr Reg.DDU_SNS_VALUE c (ofInt 16 f * 65536 + ofInt 16 x)
    let d := d.wr Reg.DDU_SNS_MINMAX c (ofInt 16 mx * 65536 + ofInt 16 mn)
    let st := setBit (setBit (setBits st 0 16 (bits st 0 16 + 1)) 30 false) 29 (clamp == 1 || clamp == 2)
    let d := d.wr Reg.DDU_SNS_STATE c st
    let d := d.on fun n => if (n.chan c 255).st = 1 then n.chanOk c 255 else n
    d.sensThresholds c

/-- A write of DDU_SNSc_CFG (R104): a non-zero period below the minimum is stored as the minimum; four periods are counted from a start of
sampling. -/
def Ddu.snsCfg (d : Ddu) (c v : Nat) : Ddu :=
  let least := if 112 ≤ c ∧ c ≤ 127 then 50 else 5000
  let p := bits v 0 24
  let was := d.n.fld Reg.DDU_SNS_CFG c 0 24
  let d := d.on fun n => n.softWrite Reg.DDU_SNS_CFG c (ones 32) (if p = 0 then v else setBits v 0 24 (max p least))
  if was = 0 then { d with sens := { d.sens with last := bindKey d.sens.last c d.n.local } } else d

/-- The period by which a channel is sampled, in ns (R104, R544). -/
def Ddu.sensPeriod (d : Ddu) (c : Nat) : Nat :=
  let p := d.n.fld Reg.DDU_SNS_CFG c 0 24
  20 * (if d.pwr = 0 then max p 50000 else p)

/-- A channel goes STALE (R108) after four periods without a conversion: one failure under the channel rule; a retry has four periods more. (DEDUCED: log 26.) -/
def Ddu.sensStale (d : Ddu) (c : Nat) : Ddu :=
  let st := d.n.rd Reg.DDU_SNS_STATE c
  if bit st 31 || d.n.fld Reg.DDU_SNS_CFG c 0 24 = 0 || decide (d.n.local < lookupD d.sens.last c 0 + 4 * d.sensPeriod c) then d
  else
    let d := d.wr Reg.DDU_SNS_STATE c (setBit st 30 true)
    let d : Ddu := { d with sens := { d.sens with last := bindKey d.sens.last c d.n.local } }
    d.on fun n => (n.sensRec c 3 0).chanFail c 255

/-- A sensor channel is retired (R108): RETIRED, SENSOR_RETIRED. -/
def Ddu.sensRetire (d : Ddu) (c : Nat) : Ddu :=
  let d := d.wr Reg.DDU_SNS_STATE c (setBit (d.rd Reg.DDU_SNS_STATE c) 31 true)
  d.on fun n => n.sensRec c 4 0

/-- A retired sensor channel is restored (R106): its filter takes the first sample anew. -/
def Ddu.sensBack (d : Ddu) (c : Nat) : Ddu :=
  let d := d.on fun n => n.setB Reg.DDU_SNS_STATE c 31 false
  { d with sens := { d.sens with seeded := d.sens.seeded.filter fun x => x != c, last := bindKey d.sens.last c d.n.local } }

end Sys2Proof.Machine
end

