-- ==== Sys2Proof/Machine/LongOps.lean ====
section
/-!
DEFINITION. Status codes (R18), long operations and their handles (R616 to R618).
-/

namespace Sys2Proof.Machine

/-- The status codes of R18. -/
def stOk : Nat := 0x0000
def stZero : Nat := 0x0001
def stBusy : Nat := 0x0100
def stRefused : Nat := 0x0101
def stNoSpace : Nat := 0x0102
def stStale : Nat := 0x0103
def stCancelled : Nat := 0x0104
def stSuspended : Nat := 0x0105
def stBadCommand : Nat := 0x0200
def stBad : Nat := 0x0201
def stNotPermitted : Nat := 0x0202
def stUnsupported : Nat := 0x0203
def stInternal : Nat := 0x0300
def stRetired : Nat := 0x0301

/-- Write a record that travels to the controller as an event and not up the data tree (R611, R614). -/
def Node.evRec (n : Node) (typ code src : Nat) (payload : List Nat) : Node :=
  (n.write 6 typ code src 0 payload fun r m => m.event r).settle

/-- Answer the mailbox commands that wait for `key`: a command code and an instance. -/
def Node.done (n : Node) (code inst status : Nat) (data : List Nat := []) : Node :=
  { n with due := n.due ++ [React.opDone (code * 2 ^ 32 + inst) status data] }

/-- Replace the mailbox part. -/
def Node.setMb (n : Node) (m : MbX) : Node := { n with mb := m }

/-- The handle of an operation (R616). -/
def OpX.handle (x : OpX) : Nat := x.gen * 65536 + x.slot

/-- A handle without its reserved bits [15:6] (R9, R616). -/
def plainHandle (h : Nat) : Nat := h / 65536 * 65536 + h % 64

/-- The operation that a current handle names. -/
def Node.op (n : Node) (h : Nat) : Option OpX := n.mb.ops.find? fun x => x.handle == plainHandle h

/-- Store an operation. -/
def Node.putOp (n : Node) (x : OpX) : Node :=
  n.setMb { n.mb with ops := x :: n.mb.ops.filter fun y => y.slot != x.slot }

/-- C0 to C3 (R616): one of them counts milliseconds. -/
def Node.opCounters (n : Node) (x : OpX) : List Nat :=
  let ms := ((if x.state = 2 then x.ended else n.local) - x.began) / 1000000
  let k := match x.kind with | 1 => 3 | 4 => 3 | _ => 2
  (List.range 4).map fun i => if i = k then ms else x.cs.getD i 0

/-- The OP_STATE payload (R614). -/
def Node.opPayload (n : Node) (x : OpX) (old : Nat) : List Nat :=
  le 4 x.handle ++ [x.kind, old, x.state, x.kstate] ++ le 2 x.final ++ [x.outcome, 0] ++ le 4 x.jobtag ++
    (n.opCounters x).flatMap (le 8)

/-- Write OP_STATE for a change (R617). -/
def Node.opNote (n : Node) (x : OpX) (old : Nat) : Node := n.evRec 0x1E 0x0001 (evSrc n.dev) (n.opPayload x old)

/-- Change an operation; a new state or KSTATE writes OP_STATE (R617). -/
def Node.opChange (n : Node) (h : Nat) (f : OpX → OpX) : Node :=
  match n.op h with
  | some x =>
    let y := f x
    let n := n.putOp y
    if y.state = x.state && y.kstate = x.kstate then n else n.opNote y x.state
  | none => n

/-- Start an operation (R616): its handle, or none while no slot is free. -/
def Node.opStart (n : Node) (kind path jobtag : Nat) (kstate : Nat := 0) : Option Nat × Node :=
  match (List.range 64).find? fun s => !n.mb.ops.any fun x => x.slot == s with
  | none => (none, n)
  | some s =>
    let x : OpX := { slot := s, gen := lookupD n.mb.gens s 0, kind := kind, path := path, jobtag := jobtag, kstate := kstate, began := n.local }
    (some x.handle, n.putOp x)

/-- An operation ends (R616, R617); KSTATE 2 is done for KINDs 5 to 7. -/
def Node.opEnd (n : Node) (h status outcome : Nat) (cs : List Nat) : Node :=
  match n.op h with
  | some x =>
    if x.state = 2 then n
    else n.opChange h fun x => { x with state := 2, kstate := if 5 ≤ x.kind && x.kind ≤ 7 then 2 else x.kstate, final := status, outcome := outcome, cs := cs, ended := n.local }
  | none => n

/-- The slot of an ended operation leaves its guard (R616): its GEN rises. -/
def Node.opGuard (n : Node) (s : Nat) : Node :=
  match n.mb.ops.find? fun x => x.slot == s with
  | some x =>
    if x.state = 2 && decide (x.ended + 8000000 ≤ n.local) then
      n.setMb { n.mb with ops := n.mb.ops.filter (fun y => y.slot != s), gens := bindKey n.mb.gens s ((x.gen + 1) % 65536) }
    else n
  | none => n

/-- The retry hint while no slot is free (R616): microseconds until the next slot leaves its guard. -/
def Node.opHint (n : Node) : Nat :=
  let ends := (n.mb.ops.filter fun x => x.state == 2).map fun x => x.ended + 8000000
  match ends.min? with
  | some t => (t - n.local + 999) / 1000
  | none => 0

end Sys2Proof.Machine
end

