-- ==== Sys2Proof/Machine/Cells.lean ====
section
/-!
DEFINITION. Byte memories: (address, byte) pairs in rising order, with no byte 0; an address that is not listed reads 0.
-/

namespace Sys2Proof.Machine

/-- A byte memory. -/
abbrev Cells := List Host.Cell

/-- Whether every address of `m` is at least `lo`, the addresses rise strictly and no byte is 0. -/
def Cells.okFrom : Nat → Cells → Bool
  | _, [] => true
  | lo, (a, b) :: t => decide (lo ≤ a) && b != 0 && Cells.okFrom (a + 1) t

/-- The canonical form. (DESIGN CHOICE: log 7.) -/
def Cells.wf (m : Cells) : Bool := Cells.okFrom 0 m

/-- The byte at an address. (DESIGN CHOICE: log 7.) -/
def Cells.get : Cells → Nat → Nat
  | [], _ => 0
  | (b, v) :: t, a => if a = b then v.toNat else if a < b then 0 else Cells.get t a

/-- `k` bytes from address `a`, `m` having no address below `a`. -/
def Cells.take : Cells → Nat → Nat → List Nat
  | _, _, 0 => []
  | [], a, k + 1 => 0 :: Cells.take [] (a + 1) k
  | (b, v) :: t, a, k + 1 => if b = a then v.toNat :: Cells.take t (a + 1) k else 0 :: Cells.take ((b, v) :: t) (a + 1) k

/-- `k` bytes from address `a`. -/
def Cells.read (m : Cells) (a k : Nat) : List Nat := Cells.take (m.dropWhile fun c => decide (c.1 < a)) a k

/-- The entries that bytes at address `a` make. -/
def Cells.fresh : Nat → List Nat → Cells
  | _, [] => []
  | a, b :: t => if b % 256 = 0 then Cells.fresh (a + 1) t else (a, BitVec.ofNat 8 b) :: Cells.fresh (a + 1) t

/-- The entries below an address, and those from it on. -/
def Cells.below (m : Cells) (a : Nat) : Cells := m.takeWhile fun c => decide (c.1 < a)
def Cells.above (m : Cells) (a : Nat) : Cells := m.dropWhile fun c => decide (c.1 < a)

/-- Bytes written at address `a`. -/
def Cells.write (m : Cells) (a : Nat) (bytes : List Nat) : Cells :=
  m.below a ++ (Cells.fresh a bytes ++ m.above (a + bytes.length))

/-- Write only what lies from `lo` up to `hi`. -/
def Cells.writeIn (m : Cells) (lo hi addr : Nat) (bytes : List Nat) : Cells :=
  let s := max lo addr
  let e := min hi (addr + bytes.length)
  if s < e then m.write s ((bytes.drop (s - addr)).take (e - s)) else m

/-- The populated ranges of R633: stacked SRAM, and the HBM stacks, which follow one another. -/
def sramTop : Nat := 0x200000000
def hbmBase : Nat := 0x4000000000
def hbmTop : Nat := 0xD000000000

/-- Whether an address is populated (R633). (DESIGN CHOICE: log 8.) -/
def populated (a : Nat) : Bool := decide (a < sramTop) || (decide (hbmBase ≤ a) && decide (a < hbmTop))

/-- A write to the memory space: what lies outside the populated ranges goes nowhere. (DESIGN CHOICE: log 8.) -/
def Cells.store (m : Cells) (w : Nat × List Nat) : Cells :=
  (m.writeIn 0 sramTop w.1 w.2).writeIn hbmBase hbmTop w.1 w.2

/-- A read of `k` bytes: outside the populated ranges the bytes are open, as `free` gives them. (DESIGN CHOICE: log 8.) -/
def Cells.load (m : Cells) (a k : Nat) (free : Nat → Nat) : List Nat :=
  if a + k ≤ sramTop || (hbmBase ≤ a && a + k ≤ hbmTop) then m.read a k
  else (List.range k).map fun i => if populated (a + i) then m.get (a + i) else free i % 256

end Sys2Proof.Machine
end

