-- ==== Sys2Proof/Machine/TimeOps.lean ====
section
/-!
DEFINITION. The Time Unit (chapter 05): ticks, loads, the exchange, the table of R168, the launch queue.
-/

namespace Sys2Proof.Machine

/-- The source number of a device's Time Unit (R462, R463). -/
def timeSrc : Dev → Nat | .ddu => 500 | .abl => 645

/-- States of R183. -/
def tsUnaligned : Nat := 0
def tsLocked : Nat := 1
def tsHoldover : Nat := 2
def tsJumpHeld : Nat := 3
def tsResuming : Nat := 4

/-- Set TIME_STATUS.STATE. -/
def Node.setTimeState (n : Node) (s : Nat) : Node := n.setFld (Reg.TIME_STATUS n.dev) 0 8 3 s

/-- Whether firmware applies samples in place of the hardware servo (R159, R165). (DESIGN CHOICE: log 28.) -/
def Node.swServo (n : Node) : Bool := n.bit (Reg.TIME_CTRL n.dev) 0 30

/-- TIME_CTRL.SRC_SEL. -/
def Node.srcSel (n : Node) : Nat := n.fld (Reg.TIME_CTRL n.dev) 0 27 3

/-- TIME_CTRL.EXCH_100US. -/
def Node.exch (n : Node) : Nat := n.fld (Reg.TIME_CTRL n.dev) 0 16 8

/-- The increment that the next tick adds (R155). -/
def Node.incr (n : Node) : Nat :=
  if n.rd (Reg.TIME_SLEW_TICKS n.dev) ≠ 0 then n.rd (Reg.TIME_SLEW_INCR n.dev) else n.rd (Reg.TIME_INCR n.dev)

/-- TIME_NS and the fraction, 2^-32 ns, after the next tick, before wrapping. -/
def Node.tickSum (n : Node) : Nat := n.now * 2 ^ 32 + n.frac + n.incr

/-- SLEW_TICKS with its SLEWING bit. -/
def Node.setSlew (n : Node) (v : Nat) : Node :=
  (n.wr (Reg.TIME_SLEW_TICKS n.dev) 0 v).setB (Reg.TIME_STATUS n.dev) 0 3 (v % 2 ^ 32 != 0)

/-- One tick of a slew is used. -/
def Node.slewTick (n : Node) : Node :=
  let t := n.rd (Reg.TIME_SLEW_TICKS n.dev)
  if t = 0 then n else n.setSlew (t - 1)

/-- What a wrap of TIME_NS does (R158): bandwidth windows that wait begin (R100). -/
def Node.wrapped (n : Node) : Node :=
  let k := n.rd (Reg.TIME_WRAP n.dev) + 1
  let n : Node := { n.wr (Reg.TIME_WRAP n.dev) 0 k with
    bw := n.bw.map fun b => if b.begun then b else { b with begun := true, at_ := k * 2 ^ 32 } }
  match n.dev with
  | .ddu => (n.hostIrq 6).irqAll 1
  | .abl => n.irqAll 1

/-- The tideline time that the next tick shows without a load (R157). -/
def Node.would (n : Node) : Nat :=
  let s := n.tickSum
  ((n.rd (Reg.TIME_TIDE_BASE n.dev) + n.rd (Reg.TIME_WRAP n.dev) + s / 2 ^ 64) % 2 ^ 32) * 2 ^ 32 + s / 2 ^ 32 % 2 ^ 32

/-- A tick of time that no load replaces (R152). -/
def Node.advance (n : Node) : Node :=
  let s := n.tickSum
  let n : Node := ({ n.wr (Reg.TIME_NS n.dev) 0 (s / 2 ^ 32 % 2 ^ 32) with frac := s % 2 ^ 32 } : Node).slewTick
  if s < 2 ^ 64 then n else n.wrapped

/-- The load of a tick (R159, R177): TIME_STEP holds what the tick would have shown, and the step; PPS_OUT is held low. -/
def Node.timeLoad (n : Node) (ns frac : Nat) (base : Option Nat) : Node :=
  let would := n.would
  let wrap := n.rd (Reg.TIME_WRAP n.dev)
  let n : Node := ({ n.wr (Reg.TIME_NS n.dev) 0 ns with frac := frac } : Node).slewTick
  let n := match base with
    | some b => n.wr (Reg.TIME_TIDE_BASE n.dev) 0 b
    | none => n
  let n : Node := if n.dev == .abl then { n.setB (Reg.TIME_STATUS .abl) 0 6 true with timex := { n.timex with ppsOut := false } } else n
  (n.emit 0 2 0x12 0x0001 (timeSrc n.dev)
    (le 4 (would % 2 ^ 32) ++ le 4 wrap ++ le 8 (ofInt 64 ((n.tideline : Int) - (would : Int))))).owe .timeLoaded

/-- A load of a full tideline value: TIDE_BASE follows (R157).  R165 and R168 give no fraction, and the model's is 0. (DESIGN CHOICE: log 101.) -/
def Node.loadTide (n : Node) (t : Nat) : Node :=
  n.timeLoad (t % 2 ^ 32) 0 (some ((t / 2 ^ 32 % 2 ^ 32 + 2 ^ 32 - n.rd (Reg.TIME_WRAP n.dev)) % 2 ^ 32))

/-- The tideline value `t + d` modulo 2^64. -/
def tideAdd (t : Nat) (d : Int) : Nat := ofInt 64 ((t : Int) + d)

/-- One always-on tick (R152), with the load that waits for it (R159). -/
def Node.tick (n : Node) : Node :=
  let m : Node := { n with timex := { n.timex with elapsed := n.timex.elapsed + n.incr, load := none } }
  match n.timex.load with
  | some (.abs ns frac) => m.timeLoad ns frac none
  | some (.rel d) => m.loadTide (tideAdd m.would d)
  | none => m.advance

/-- A load waits for the next tick (R159). -/
def Node.loadNext (n : Node) (r : TimeLoadReq) : Node := { n with timex := { n.timex with load := some r } }

/-- The range of R154 for an increment: 19.98 to 20.02 ns. -/
def incrOk (v : Nat) : Bool := decide (1998 * 2 ^ 32 ≤ v * 100) && decide (v * 100 ≤ 2002 * 2 ^ 32)

/-- An increment held to the range of R154. (DESIGN CHOICE: log 28.) -/
def incrClamp (v : Int) : Nat :=
  let lo : Int := 85813447066
  let hi : Int := 85985245324
  (max lo (min hi v)).toNat

/-- The hardware servo's correction (R165): a slew of θ over half the interval, and θ ÷ 8 ÷ interval on INCR, both in
increments of one tick. (DESIGN CHOICE: log 28.) -/
def Node.servo (n : Node) (theta : Int) : Node :=
  let half := n.exch * 2500
  if half = 0 then n
  else
    let i : Int := n.rd (Reg.TIME_INCR n.dev)
    let n := n.wr (Reg.TIME_SLEW_INCR n.dev) 0 (incrClamp (i + theta * (2 ^ 32 : Nat) / (half : Int)))
    let n := n.setSlew half
    n.wr (Reg.TIME_INCR n.dev) 0 (incrClamp (i + theta * (2 ^ 32 : Nat) / (8 * (2 * half) : Nat)))

/-- TIME_HOLDOVER (R179) and the move to HOLDOVER. -/
def Node.toHoldover (n : Node) (cause : Nat) : Node :=
  let since := if n.timeState = tsHoldover then n.timex.holdSince else n.local
  let n : Node := { n.setTimeState tsHoldover with timex := { n.timex with holdSince := since } }
  n.emit 0 1 0x12 0x0003 (timeSrc n.dev) (le 2 cause ++ zeros 2 ++ le 4 n.timex.theta.natAbs)

/-- TIME_JUMP_REFUSED (R179) and the move to JUMP_HELD, counted in TIME_REFUSED. -/
def Node.toJumpHeld (n : Node) (theta : Int) (master : Nat) : Node :=
  let n := (n.setTimeState tsJumpHeld).bump (Reg.TIME_REFUSED n.dev)
  n.emit 0 1 0x12 0x0002 (timeSrc n.dev) (le 8 (ofInt 64 theta) ++ le 8 master)

/-- TIME_LOCKED (R179) and the move to LOCKED. -/
def Node.toLocked (n : Node) (theta : Int) : Node :=
  (n.setTimeState tsLocked).emit 0 2 0x12 0x0004 (timeSrc n.dev)
    (le 4 (ofInt 32 theta) ++ le 4 (n.rd (Reg.TIME_DELAY n.dev)))

/-- A TIME_ALIGN record with its alarm, which then clears after three good exchanges (R167, R179). -/
def Node.timeAlign (n : Node) (arg : Nat) : Node :=
  let n : Node := { n with timex := { n.timex with goodRun := 0 } }
  let scope := if n.dev == .abl || n.timex.serverHold then 2 else 1
  (n.setB (Reg.TIME_STATUS n.dev) 0 5 true).emit 0 1 0x12 0x0005 (timeSrc n.dev) ([scope, 0, 0, 0] ++ le 4 arg)

/-- The alignment check of one exchange (R167), which found the Time Unit in state `st`.  A record is written as a case begins, also while the
alarm of another is set. (DESIGN CHOICE: log 125.) -/
def Node.alignCheck (n : Node) (st : Nat) (theta : Int) : Node :=
  let degraded := n.dev == .ddu && n.bit (Reg.TIME_STATUS n.dev) 0 4
  let out := degraded || match n.dev with
    | .ddu => decide (20 < theta.natAbs)
    | .abl => decide (230 < theta.natAbs)
  if out then
    let bad := if n.dev == .ddu && (st != tsLocked || decide (theta.natAbs ≤ 20)) then 0 else n.timex.badRun + 1
    let n : Node := { n with timex := { n.timex with badRun := bad, goodRun := 0 } }
    if bad = if n.dev == .abl then 1 else 3 then n.timeAlign (ofInt 32 theta) else n
  else
    let good := n.timex.goodRun + 1
    let n : Node := { n with timex := { n.timex with badRun := 0, goodRun := good } }
    if 3 ≤ good then n.setB (Reg.TIME_STATUS n.dev) 0 5 false else n

/-- A DDU enters or leaves fallback (R166, R167): DEGRADED with its TIME_ALIGN, and SOURCE. -/
def Node.timeFallback (n : Node) : Node :=
  let on_ := n.inFallback
  let n := n.setB (Reg.TIME_STATUS n.dev) 0 4 on_
  let n := if n.srcSel = 1 then n.setFld (Reg.TIME_STATUS n.dev) 0 0 3 (if on_ then 2 else 1) else n
  if on_ then n.timeAlign (ofInt 32 n.timex.theta) else n

/-- The master and its SOURCE code are those of a sample (R168, R183). -/
def Node.follow (n : Node) (master source : Nat) : Node :=
  (n.wr (Reg.TIME_MASTER n.dev) 0 master).setFld (Reg.TIME_STATUS n.dev) 0 0 3 source

/-- One valid sample (R168): the offset, how far a load at the next tick moves that tick's time, the master, the SOURCE code, and whether the
hardware servo applies it. (DESIGN CHOICE: log 28.) -/
def Node.timeSample (n : Node) (theta move : Int) (master source : Nat) (hw : Bool) : Node :=
  let st := n.timeState
  let j := n.fld (Reg.TIME_CTRL n.dev) 0 0 16
  let mode := n.bit (Reg.TIME_CTRL n.dev) 0 31
  let current := st == tsUnaligned || st == tsResuming || n.rd (Reg.TIME_MASTER n.dev) == master
  let n : Node := { n with timex := { n.timex with theta := theta, master := master, source := source } }
  let small := decide (theta.natAbs ≤ j)
  let fix (n : Node) : Node := if hw then n.servo theta else n
  let load (n : Node) : Node := if hw then (n.loadNext (.rel move)).setTimeState tsLocked else n
  let n := if current then n.follow master source else n
  let n := if st = tsUnaligned then load n
    else if st = tsResuming then (if small then (if hw then (fix n).setTimeState tsLocked else n) else load n)
    else if current || mode then
      if small then
        let n := fix (n.follow master source)
        if st = tsLocked then n else n.toLocked theta
      else if st = tsJumpHeld then n else n.toJumpHeld theta master
    else if st = tsLocked then n.toHoldover 2
    else if st = tsHoldover then n.toJumpHeld theta master
    else n
  if current || (mode && small) then n.alignCheck st theta else n

/-- The highest-ranked of the announced clocks (R160): the default best master clock algorithm compares their data sets in order. (PRESUMED: log 113.) -/
def PtpX.best (x : PtpX) : Option PtpMaster :=
  let less (a b : List Nat) : Bool :=
    ((a.zip b).find? fun (p : Nat × Nat) => p.1 != p.2).any fun (p : Nat × Nat) => decide (p.1 < p.2)
  x.masters.foldl (fun (m : Option PtpMaster) c => match m with | some b => if less c.rank b.rank then some c else m | none => some c) none

/-- The source is lost (R168).  A PTP master whose announces have ceased leaves the list. (DESIGN CHOICE: log 29.) -/
def Node.sourceLost (n : Node) : Node :=
  let x := n.timex.ptp
  let n : Node := if n.srcSel ≠ 3 then n
    else { n with timex := { n.timex with ptp := { x with half := none, masters := x.masters.filter fun c => some c != x.best } } }
  if n.timeState = tsLocked || n.timeState = tsResuming then
    let n := n.toHoldover 1
    { n with timex := { n.timex with t1 := none } }
  else n

/-- A lane of the source goes down (R168): the DDU's own, or the last lane of the pair to the active parent. -/
def Node.sourceDown (n : Node) (p : Nat) : Node :=
  let base := if n.parent.st = 2 then 18 else 16
  if n.srcSel = 1 && (n.dev == .ddu || ((p == base || p == base + 1) && !n.portUp base && !n.portUp (base + 1))) then n.sourceLost else n

/-- Whether the device is in Slack, enters it or has not left it, where exchanges have stopped (R168). -/
def Node.asleep (n : Node) : Bool :=
  match n.dev with
  | .ddu => n.fld Reg.DDU_PWR_STATE 0 0 3 == 0
  | .abl => let s := n.fld Reg.ABL_PWR_STATE 0 0 3; s != 1 && s != 2

/-- Entry to Slack (R168): an exchange that runs ends.  The table has no row for RESUMING, and the model stays there. (DESIGN CHOICE: log 102.) -/
def Node.timeSlack (n : Node) : Node :=
  let st := n.timeState
  let n : Node := { n with timex := { n.timex with t1 := none, ptp := { n.timex.ptp with half := none, reqs := [] } } }
  if st = tsLocked || st = tsHoldover || st = tsJumpHeld then n.toHoldover 3 else n

/-- The stamp that a PCS takes now (R164): tideline time in 1/256 ns, interpolated within the tick. (DESIGN CHOICE: log 100.) -/
def Node.stamp (n : Node) : Nat := n.tideline * 256 + n.frac / 2 ^ 24 + Config.pcsPhase n.timex.stamps % max 1 (n.incr / 2 ^ 24)

/-- A stamp has been taken. -/
def Node.stamped (n : Node) : Node := { n with timex := { n.timex with stamps := n.timex.stamps + 1 } }

/-- Whether this node is the client of an exchange (R163, R166). -/
def Node.timeClient (n : Node) : Bool := n.srcSel == 1

/-- Send TIME_REQ (R163) with the δ of the previous exchange; its PCS stamps t1 as the frame starts. -/
def Node.timeReq (n : Node) : Node :=
  if !n.timeClient || n.exch = 0 || n.asleep then n
  else ({ n with timex := { n.timex with t1 := none } } : Node).frameUp 0 6 .timeReq [n.rd (Reg.TIME_DELAY n.dev)]

/-- An entry is counted as late (R173). -/
def Node.launchCount (n : Node) : Node := (n.bump Reg.ABL_LAUNCH_LATE).irq 106

/-- TIME_LAUNCH_LATE, as a late frame starts (R179). -/
def Node.launchTell (n : Node) (target : Nat) : Node := n.emit 0 2 0x12 0x0006 645 (le 4 target ++ le 4 n.now)

/-- A frame is late (R173, R179): counted, and told. -/
def Node.launchLate (n : Node) (target : Nat) : Node := n.launchCount.launchTell target

/-- The start of a message passes the PCS: t1 of a TIME_REQ is stamped, t3 is written into a TIME_RESP (R163), and a launched frame that has been
pushed more than 10 ns past its target is late (R173).  A frame's target comes with 0, with 1 where its entry has been counted as late and this frame
tells of it, or with 2 where another frame does. -/
def Node.leaves (n : Node) (t : TxMsg) : Node × TxMsg :=
  match t.target, t.msg.body with
  | some (at_, 0), _ => (if dist32 at_ n.now < -10 then n.launchLate at_ else n, { t with target := none })
  | some (at_, 1), _ => (n.launchTell at_, { t with target := none })
  | some _, _ => (n, { t with target := none })
  | none, .frame .timeReq _ _ =>
    (if t.msg.origin = n.ident then ({ n with timex := { n.timex with t1 := some n.stamp } } : Node).stamped else n, t)
  | none, .frame .timeResp args bytes =>
    (n.stamped, { t with msg := { t.msg with body := .frame .timeResp [args.getD 0 0, n.stamp / 256, args.getD 2 0] bytes } })
  | none, _ => (n, t)

/-- Exit from Slack (R168): an exchange starts at once. -/
def Node.timeWake (n : Node) : Node :=
  if n.timeState = tsHoldover then (n.setTimeState tsResuming).timeReq else n

/-- A server answers TIME_REQ (R163): it keeps the client's δ of slot 0, and answers when aligned; its PCS writes t3 as the answer leaves. -/
def Node.timeReqRx (n : Node) (port slot dest delta t2 : Nat) : Node :=
  let n := if n.dev == .abl && slot = 0 then n.wr (Reg.LNK_DELAY .abl) port delta else n
  if n.timeState = tsUnaligned then n
  else n.queueAt port 63 (n.mkMsg dest 6 (.frame .timeResp [t2, 0, n.timeState] [])) slot

/-- The stamp of the LINK message delivered last at a lane (R164), or one of now. -/
def Node.arrival (n : Node) (port slot : Nat) : Nat := (n.lane port slot).lastIn.getD n.stamp

/-- A client's exchange result (R163, R165, R166): `t2` and `t3` tideline nanoseconds, `flags` the server's state, `t4` the arrival in 1/256 ns.
Through a sibling the master is still the tray sentinel. -/
def Node.timeRespRx (n : Node) (port t2 t3 flags from_ t4 : Nat) : Node :=
  match n.timex.t1 with
  | none => n
  | some t1 =>
    let asym := toInt 32 (n.rd (Reg.TIME_ASYM n.dev)) * 256
    let d256 : Int := ((t4 : Int) - t1) - ((t3 : Int) - t2) * 256
    let o256 : Int := ((t2 : Int) * 256 - t1) + ((t3 : Int) * 256 - t4)
    let delta := (500 * d256 - asym + 128000) / 256000
    let theta := (500 * o256 + asym + 128000) / 256000
    let n := (n.wr (Reg.TIME_DELAY n.dev) 0 (ofInt 32 delta)).wr (Reg.TIME_OFFSET n.dev) 0 (ofInt 32 theta)
    let n := n.wr (Reg.LNK_DELAY n.dev) port (ofInt 32 delta)
    let n : Node := { n with timex := { n.timex with t1 := none, serverHold := flags == tsHoldover || flags == tsJumpHeld, serverOut := flags == tsHoldover } }.stamped
    let n := if n.dev == .abl then n.irq 108 else n
    n.timeSample theta ((t3 : Int) + delta - (t4 / 256 : Nat)) (if n.inFallback then n.parentIdent else from_)
      (if n.inFallback then 2 else 1) (n.dev == .ddu && !n.swServo)

/-- A write of CMD.LOAD by software (R159). (DESIGN CHOICE: log 101.) -/
def Node.loadCmd (n : Node) : Node :=
  let n := n.loadNext (.abs (n.rd (Reg.TIME_LOAD_NS n.dev)) (n.rd (Reg.TIME_LOAD_FRAC n.dev)))
  if n.swServo && n.srcSel ≠ 0 && (n.timeState == tsUnaligned || n.timeState == tsResuming) then n.setTimeState tsLocked else n

/-- A write of SLEW_TICKS by software (R155, R159). -/
def Node.slewWrite (n : Node) (v : Nat) : Node :=
  let n := n.setSlew v
  if v % 2 ^ 32 ≠ 0 && n.swServo && n.srcSel ≠ 0 && n.timeState == tsResuming then n.setTimeState tsLocked else n

/-- ACCEPT_JUMP (R168): load the time of the master whose sample came last. -/
def Node.acceptJump (n : Node) : Node :=
  if n.timeState = tsJumpHeld then
    ((n.loadNext (.rel n.timex.theta)).follow n.timex.master n.timex.source).setTimeState tsLocked
  else n

/-! ## PTP -/

/-- A stamp of a management port at the reference plane (R164): moved by the port's ingress or egress latency. (PRESUMED: log 113.) -/
def Node.ptpStamp (n : Node) (port : Nat) (egress : Bool) : Nat :=
  let v := n.rd Reg.ABL_PTP_LAT port
  if egress then n.stamp + bits v 16 16 * 256 else n.stamp - bits v 0 16 * 256

/-- Change the PTP state. -/
def Node.onPtp (n : Node) (f : PtpX → PtpX) : Node := { n with timex := { n.timex with ptp := f n.timex.ptp } }

/-- A Sync of the best master is complete with its origin time: a Delay_Req goes out and is stamped (R160, R164). (PRESUMED: log 113.) -/
def Node.ptpAsk (n : Node) (port src origin arrival : Nat) : Node :=
  let at_ := n.ptpStamp port true
  (n.onPtp fun x => { x with
    half := some (port, src, origin, arrival), seq := (x.seq + 1) % 65536, reqs := [(port, x.seq, at_)],
    out := x.out ++ [(port, n.ident, x.seq, .delayReq)] }).stamped

/-- A PTP message in this node's domain (R160): Announce feeds the choice of the best master; its Syncs, one-step or two-step, and the answer to
the Delay_Req give a sample; a port on which the best master is not serves Delay_Req while the node is aligned.  Firmware's servo then
corrects by register writes of its own. (PRESUMED: log 113.) -/
def Node.ptpRx (n : Node) (port src seq : Nat) (m : PtpMsg) : Node :=
  if n.asleep then n else
  let ours : Bool := n.srcSel == 3 && n.timex.ptp.best.any fun b => b.port == port && b.src == src
  match m with
  | .announce gm p1 cls acc var p2 steps =>
    n.onPtp fun x => { x with masters := x.masters.filter (fun c => !(c.port == port && c.src == src)) ++
      [{ port := port, src := src, gm := gm, rank := [p1, cls, acc, var, p2, gm, steps, src, port] }] }
  | .sync origin =>
    if !ours then n
    else
      let at_ := n.ptpStamp port false
      match origin with
      | some o => n.stamped.ptpAsk port src o at_
      | none => (n.onPtp fun x => { x with syncs := x.syncs.filter (fun y => y.1 != port) ++ [(port, src, seq, at_)] }).stamped
  | .followUp origin =>
    match n.timex.ptp.syncs.find? fun y => y.1 == port && y.2.1 == src && y.2.2.1 == seq with
    | some y => if ours then (n.onPtp fun x => { x with syncs := x.syncs.filter fun z => z != y }).ptpAsk port src origin y.2.2.2 else n
    | none => n
  | .delayReq =>
    if n.timeState = tsUnaligned || (n.timex.ptp.best.any fun b => b.port == port) then n
    else (n.onPtp fun x => { x with out := x.out ++ [(port, n.ident, seq, .delayResp src (n.ptpStamp port false))] }).stamped
  | .delayResp dest receive =>
    match n.timex.ptp.half, n.timex.ptp.reqs.find? (fun y => y.1 == port && y.2.1 == seq) with
    | some (p, s, origin, arrival), some req =>
      if dest ≠ n.ident || p ≠ port || s ≠ src || !ours then n
      else
        let o256 : Int := ((origin : Int) - arrival) + ((receive : Int) - req.2.2)
        let d256 : Int := ((arrival : Int) - origin) + ((receive : Int) - req.2.2)
        let n := n.onPtp fun x => { x with half := none, reqs := [] }
        let n := (n.wr (Reg.TIME_DELAY .abl) 0 (ofInt 32 ((d256 + 256) / 512))).wr (Reg.TIME_OFFSET .abl) 0 (ofInt 32 ((o256 + 256) / 512))
        let gm := (n.timex.ptp.best.map fun b => b.gm).getD 0
        (n.irq 109).timeSample ((o256 + 256) / 512) ((o256 + 256) / 512) gm (3 + port % 2) false
    | _, _ => n
  | .other => n

/-! ## The launch queue -/

/-- LAUNCH_STATUS.ENTRIES. -/
def Node.launchView (n : Node) : Node := n.setFld Reg.ABL_LAUNCH_STATUS 0 0 6 n.timex.launch.length

/-- The target of an entry on one port (R172): reduced by the port's δ under COMP. -/
def Node.launchAt (n : Node) (e : LaunchEntry) (p : Nat) : Nat :=
  if e.comp && p < 24 then (e.target + 2 ^ 32 - n.rd (Reg.LNK_DELAY .abl) p % 2 ^ 32) % 2 ^ 32 else e.target

/-- Whether a management port is down or retired (R174): in reset, or isolated. -/
def Node.mgmtDown (n : Node) (p : Nat) : Bool := n.bit Reg.ABL_ENGINE_RESET 0 (37 + (p - 24)) || n.arrBit Reg.ABL_FLT_ISO (647 + (p - 24))

/-- Whether a port is down or retired at launch (R174). -/
def Node.launchDown (n : Node) (p : Nat) : Bool := if p < 24 then !n.portUp p else n.mgmtDown p

/-- Launch an entry's frame on one port (R172 to R174): dropped where the port is down or retired.  `late` is 0 where its lateness shows as its start
passes the PCS, 1 where the entry is counted already and this frame tells of it, 2 where another does. (DESIGN CHOICE: log 30.) -/
def Node.launchOn (n : Node) (e : LaunchEntry) (p late : Nat) : Node :=
  let at_ := n.launchAt e p
  let body := lookupD n.timex.frames e.frame (.frame .other [e.frame] [])
  if n.launchDown p then n.bump Reg.ABL_LAUNCH_DROPPED
  else
    let n := if p < 24 then n
      else if late = 1 then n.launchTell at_
      else if late = 0 && decide (dist32 at_ n.now < -10) then n.launchLate at_ else n
    if 24 ≤ p then { n with timex := { n.timex with sent := n.timex.sent ++ [(p, body)] } }
    else
      let m := n.mkMsg (bits (n.rd (Reg.LNK_PEER .abl) p) 0 20) 6 body
      let t : TxMsg := { port := p, msg := m, size := m.size, at_ := n.local, launch := true, target := some (at_, late) }
      { n with txq := n.txq ++ [t] }

/-- Launch what is due of one entry; the ports that are left.  Where it is `late` the entry counts once, and its first frame tells of it (R173). -/
def Node.launchDueOf (n : Node) (e : LaunchEntry) (late : Bool := false) : Node × LaunchEntry :=
  let due := (setBitsOf 26 e.ports).filter fun p => decide (dist32 (n.launchAt e p) n.now ≤ 0)
  let first := due.find? fun p => !n.launchDown p
  let n := if late && !due.isEmpty then n.launchCount else n
  (due.foldl (fun m p => m.launchOn e p (if !late then 0 else if some p = first then 1 else 2)) n,
   { e with ports := due.foldl (fun v p => setBit v p false) e.ports })

/-- Launch every entry that is due (R173); `late` where a load has moved time past the targets.  FULL ends once a whole entry leaves.
(DESIGN CHOICE: log 125.) -/
def Node.launchDue (n : Node) (late : Bool := false) : Node :=
  let (m, left) := n.timex.launch.foldl (fun (m, left) e =>
    let (m, e') := m.launchDueOf e late
    (m, if e'.ports = 0 then left else left ++ [e'])) (n, [])
  let fewer := decide (left.length < n.timex.launch.length)
  let m : Node := { m with timex := { m.timex with launch := left } }.launchView
  if fewer then m.setB Reg.ABL_LAUNCH_STATUS 0 8 false else m

/-- ENQUEUE (R173, R174): what is due already launches at once and counts as late. -/
def Node.launchEnqueue (n : Node) (e : LaunchEntry) : Node :=
  if 32 ≤ n.timex.launch.length then n.setB Reg.ABL_LAUNCH_STATUS 0 8 true
  else
    let (m, e') := n.launchDueOf e true
    let m : Node := if e'.ports = 0 then m else { m with timex := { m.timex with launch := m.timex.launch ++ [e'] } }
    (if m.timex.launch.length < n.timex.launch.length + 1 then m.setB Reg.ABL_LAUNCH_STATUS 0 8 false else m).launchView

end Sys2Proof.Machine
end

