-- ==== Sys2Proof/Machine/LinkOps.lean ====
section
/-!
DEFINITION. Dervi Link lanes and ports (chapter 06) and the Uplink Scheduler's choice (R245 to R250).
-/

namespace Sys2Proof.Machine

/-- Lane states of R209. -/
def lsDisabled : Nat := 0
def lsDetect : Nat := 1
def lsTrain : Nat := 2
def lsUp : Nat := 3
def lsBackoff : Nat := 4
def lsRetired : Nat := 5

/-- ABL_NODE.ROLE: 0 unset, 1 TRAY, 2 RACK, 3 SPINE. -/
def Node.role (n : Node) : Nat := n.fld Reg.ABL_NODE 0 28 3

/-- Whether a port is a child port with four slots (R195). -/
def Node.slotted (n : Node) (p : Nat) : Bool := n.dev == .abl && decide (p < 16) && decide (2 ≤ n.role)

/-- The slots of a port. -/
def Node.slotsOf (n : Node) (p : Nat) : List Nat := if n.slotted p then [0, 1, 2, 3] else [0]

/-- Store a lane, with its state in LNK_STATUS (R209) and DDU_STATUS.LINK_UP.  RETIRED is that of a port with one lane; a port with slots shows
theirs in SLOT_RETIRED. (DESIGN CHOICE: log 121.) -/
def Node.setLane (n : Node) (p slot : Nat) (l : LaneX) : Node :=
  let r := Reg.LNK_STATUS n.dev
  let n : Node := { n with lanes := bindKey n.lanes (4 * p + slot) l }
  let n := if slot = 0 then n.setFld r p 0 4 l.st else n
  let n := if n.slotted p then ((n.setB r p (16 + slot) (l.st == lsUp)).setB r p (20 + slot) (l.st == lsRetired)).setB r p 31 false
    else if slot = 0 then n.setB r p 31 (l.st == lsRetired) else n
  if n.dev == .ddu then n.setB Reg.DDU_STATUS 0 6 (l.st == lsUp) else n

/-- LNK_STATUS of a port shows its lanes, as the role now gives the port slots (R195, R209). -/
def Node.portView (n : Node) (p : Nat) : Node := (n.slotsOf p).foldl (fun n s => n.setLane p s (n.lane p s)) n

/-- Change one lane. -/
def Node.modLane (n : Node) (p slot : Nat) (f : LaneX → LaneX) : Node := n.setLane p slot (f (n.lane p slot))

/-- The source number of a port's records. -/
def Node.portSrc (n : Node) (p : Nat) : Nat := match n.dev with | .ddu => 503 | .abl => 272 + p

/-- A link record (R206). -/
def Node.laneRec (n : Node) (p slot code cause arg : Nat) : Node :=
  n.emit 0 1 0x13 code (n.portSrc p) ([p, cause, if n.slotted p then slot else 0xFF, 0] ++ le 4 arg)

/-- Failures of a lane in the last 10 s. -/
def Node.laneFails (n : Node) (p slot : Nat) : Nat := (recent n.local (n.lane p slot).fails).length

/-- The three RESET_NOTICE flits of one announcement (R694). -/
def noticeFlits (slot cause : Nat) : List Flit := List.replicate 3 ({ ftype := 5, slot := slot, payload := [cause] } : Flit).seal

/-- This node's identity at a port, as its TRAIN flits carry it (R197, R210). -/
def Node.portIdent (n : Node) (p : Nat) : Nat :=
  2 ^ 63 + (match n.dev with | .ddu => 0 | .abl => n.role) * 2 ^ 25 + p % 32 * 2 ^ 20 + n.ident % 2 ^ 20

/-- A TRAIN flit (R197, R694): the identity of R210 and RESTARTED. (DESIGN CHOICE: log 31.) -/
def Node.trainFlit (n : Node) (p slot : Nat) : Flit :=
  ({ ftype := 3, slot := slot, payload := le 8 (n.portIdent p) ++ [b2n (n.lane p slot).restarted] } : Flit).seal

/-- Whether ports may leave DISABLED (R506, R507, R678, R681): a port that the mount of a blank store has isolated waits for its restore. (DEDUCED: log 32.) -/
def Node.portsReleased (n : Node) : Bool :=
  match n.dev with
  | .ddu => n.bit Reg.DDU_STATUS 0 0
  | .abl => n.fld Reg.ABL_STATUS 0 16 4 == 2 && n.role != 0 && (n.fld Reg.ABL_HS_STATUS 0 29 3 == 2 || n.fld Reg.ABL_HS_STATUS 0 29 3 == 4)

/-- The messages of a replay buffer that the peer has not acknowledged, as they wait again (R691). -/
def LaneX.unacked (l : LaneX) : List TxMsg := (l.replay.filter fun f => f.last).map fun f => { f.msg with sent := 0 }

/-- Queues of the Uplink Scheduler that get their first waiting message wake (R248): `ts` are about to wait at their ports. -/
def Node.wakeQueues (n : Node) (ts : List TxMsg) : Node :=
  ts.foldl (fun n t =>
    if n.dev == .abl && decide (16 ≤ t.port) && decide (1 ≤ t.msg.cls) && decide (t.msg.cls ≤ 4) then
      { n with usch := n.uschWake t.port t.slot t.msg.cls } else n) n

/-- The die port of a message's DEST, or the port where it waits. -/
def Node.homePort (n : Node) (t : TxMsg) : Nat :=
  ((List.range 16).find? fun c => n.fld Reg.ABL_RED_CHILD c 96 20 == bits t.msg.dest 0 20).getD t.port

/-- The port that takes a waiting message instead of the one where it waits (R690): a sibling or a host (R204, R205), or the other lane of an
uplink pair (R246). -/
def Node.wayOf (n : Node) (t : TxMsg) : Nat :=
  n.viaPort (if n.dev == .abl && decide (t.port < 16) && n.role == 1 then n.homePort t else t.port) t.msg.cls

/-- Messages that wait at a port which is not UP take the other path that the rules give them (R690). -/
def Node.reroute (n : Node) : Node :=
  let go (t : TxMsg) : Bool := t.sent == 0 && !t.launch && n.wayOf t != t.port
  let moved := (n.txq.filter go).map fun t => { t with port := n.wayOf t, lslot := 0 }
  if moved.isEmpty then n
  else
    let m : Node := { n with txq := n.txq.filter fun t => !go t }
    { m.wakeQueues moved with txq := moved ++ n.txq.filter fun t => !go t }

/-- Messages wait again after a lane has left UP (R691), those that the peer has not acknowledged ahead of the others. -/
def Node.requeue (n : Node) (p slot : Nat) : Node :=
  let l := n.lane p slot
  let mine (t : TxMsg) : Bool := t.port == p && t.lslot == slot
  let again := l.unacked
  let m := n.wakeQueues (again ++ n.txq.filter fun t => mine t && decide (0 < t.sent))
  { m with txq := again ++ m.txq.map fun t => if mine t then { t with sent := 0 } else t }.setLane p slot
    { l with replay := [], resend := [], got := [], arrived := [], nakDue := false, awaitSeq := false }

/-- Count one event of a lane on the sentinel (R112). -/
def Node.lcount (n : Node) (p k : Nat) (inc : Nat := 1) : Node := if n.dev == .abl then n.pcount (8 * p + k) inc else n

/-- Flits leave on a lane: the counts of flits and of 64-byte units sent (R80, R112). -/
def Node.sentFlits (n : Node) (p k : Nat) : Node :=
  match n.dev with
  | .ddu => n.count 0xF40 k
  | .abl => (n.lcount p 0 k).lcount p 2 (2 * k)

/-- A lane leaves UP for `st`: one link record, its messages wait again, or take another path. -/
def Node.leaveUp (n : Node) (p slot st code cause : Nat) (notice : Option Nat) : Node :=
  let n := if notice.isSome then n.sentFlits p 3 else n
  let n := n.modLane p slot fun l => { l with
    st := st, calm := l.calm || decide (l.upSince + 1000000000 ≤ n.local),
    wire := match notice with | some k => noticeFlits slot k | none => [] }
  let n := ((n.requeue p slot).reroute).sourceDown p
  (n.laneRec p slot code cause (if code = 1 then n.laneFails p slot else 0)).owe (.laneDown p slot)

/-- Whether a failure of the DDU's lane begins fallback (R202): RETIRED, or the third retry of an episode has failed. -/
def Node.fbDue (n : Node) : Bool :=
  let l := n.lane 0 0
  n.dev == .ddu && n.bit (Reg.LNK_CTRL .ddu) 0 29 && !n.bit Reg.DDU_STATUS 0 7 && (l.st == lsRetired || decide (4 ≤ l.episode))

/-- The DDU enters fallback through the first sibling of its list (R202, R203, R206).  With no entry VALID the die that FALLBACK_ENTER names
is open. (DESIGN CHOICE: log 33.) -/
def Node.fbEnter (n : Node) : Node :=
  if n.fbDue then
    let n := (n.setB Reg.DDU_STATUS 0 7 true).setB Reg.DDU_LNK_FB_STATUS 0 0 true
    let n := n.timeFallback
    let die := match (List.range 3).find? fun k => n.bit Reg.DDU_LNK_FB_PEER k 63 with
      | some k => Config.ringDie (n.rd Reg.DDU_LNK_FB_PEER k % 2 ^ 63)
      | none => Config.noHostDie
    (n.laneRec 0 0 0x0006 0 (die % 2 ^ 17)).owe .fbTry
  else n

/-- A lane is retired (R197, R200); a DDU's enters fallback (R202). -/
def Node.laneRetire (n : Node) (p slot : Nat) : Node :=
  let n := n.modLane p slot fun l => { l with st := lsRetired, wire := [] }
  let n := (n.laneRec p slot 0x0003 (n.fld (Reg.LNK_STATUS n.dev) p 12 4) (n.laneFails p slot)).reroute
  match n.dev with
  | .ddu => (n.owe (.retired 1001)).fbEnter
  | .abl =>
    let s := 272 + p
    let n := n.setChan { src := s, slot := slot, st := 3, fails := (n.lane p slot).fails, retry := (n.lane p slot).episode }
    let n := n.setArr Reg.ABL_FLT_ISO s true
    (if n.arrBit Reg.ABL_FLT_SEV s then n else n.severe s 0 0 1 0).owe (.retired s)

/-- Count one failure of a lane (R198, R209, R472): an episode starts with the first failure after the lane has been UP for 1 s. -/
def Node.failCount (n : Node) (p slot cause : Nat) : Node :=
  let l := n.lane p slot
  let now := n.local
  let ep := if l.calm || l.episode = 0 then 1 else l.episode + 1
  let fails := recent now l.fails ++ [now]
  let n := n.setLane p slot { l with fails := fails, episode := ep, calm := false }
  let n := (n.satFld (Reg.LNK_FAILS n.dev) p 16 16 1).setFld (Reg.LNK_STATUS n.dev) p 12 4 cause
  match n.dev with
  | .abl => (n.satFld Reg.ABL_FLT_CHAN (272 + p) 0 32 1).setChan
      { src := 272 + p, slot := slot, st := 1, fails := fails, retry := ep, since := l.upSince }
  | .ddu => n

/-- A failure of a lane that is not UP any more (R198): RETIRED at the eighth in 10 s, else BACKOFF. -/
def Node.laneFail (n : Node) (p slot cause : Nat) : Node :=
  let n := (n.failCount p slot cause).modLane p slot fun l => { l with st := lsBackoff, wire := if l.st = lsTrain then [] else l.wire }
  if 8 ≤ (n.lane p slot).fails.length then n.laneRetire p slot else n.fbEnter

/-- A failure of cause 1 to 4 on an UP lane (R197). -/
def Node.upFailure (n : Node) (p slot cause : Nat) (notice : Bool) : Node :=
  if (n.lane p slot).st ≠ lsUp then n
  else (n.leaveUp p slot lsBackoff 0x0001 cause (if notice then some cause else none)).laneFail p slot cause

/-- The first training after a power-up or reset is over, and RESTARTED with it (R694). -/
def LaneX.trainedOnce (l : LaneX) : LaneX := { l with restarted := false }

/-- A training failure (R197). (DESIGN CHOICE: log 31.) -/
def Node.trainFailure (n : Node) (p slot : Nat) : Node :=
  if (n.lane p slot).st ≠ lsTrain then n else (n.modLane p slot LaneX.trainedOnce).laneFail p slot 5

/-- A lane reaches UP (R197, R694): a cause 6 failure that is held is settled first. -/
def Node.laneUp (n : Node) (p slot peer us : Nat) (peerRestarted : Bool) : Node :=
  let now := n.local
  let early := (n.lane p slot).held6 && !peerRestarted
  let n : Node := if peerRestarted then { n with delivered := n.delivered.filter fun (x : Nat × Nat) => x.1 / 2 ^ 13 != bits peer 0 20 } else n
  let n := n.wr (Reg.LNK_PEER n.dev) p (2 ^ 63 + peer % 2 ^ 28)
  let n := (if early then n.failCount p slot 6 else n).modLane p slot fun l => { l with held6 := false }
  if early && 8 ≤ (n.lane p slot).fails.length then n.laneRetire p slot
  else
    let n := n.modLane p slot fun l => { l with
      st := lsUp, nextSeq := 0, expSeq := 0, nakDue := false, awaitSeq := false, replay := [], resend := [],
      credit := [64, 64, 64, 64, 64, 64, 64], creditDue := [0, 0, 0, 0, 0, 0, 0], got := [], arrived := [], upSince := now, lastRx := now,
      wire := [({ ftype := 0, slot := slot, ackValid := true } : Flit).seal] }
    let n := n.wr (Reg.LNK_TRAIN_US n.dev) p us
    let n := if n.dev == .abl then n.setChan { (n.chan (272 + p) slot) with st := 0, since := now } else n
    let n := (n.laneRec p slot 0x0002 0 us).reroute
    (if early then n.fbEnter else n).owe (.laneUp p slot)

/-- Training ends with a handshake (R197).  One that does not match leaves LNK_PEER as it is. (DESIGN CHOICE: log 4.) (DESIGN CHOICE: log 31.) -/
def Node.trained (n : Node) (p slot peer us : Nat) (peerRestarted : Bool) : Node :=
  if (n.lane p slot).st ≠ lsTrain then n
  else
    let n := n.modLane p slot LaneX.trainedOnce
    let e := n.rd (Reg.LNK_PEER_EXPECT n.dev) p
    if Machine.bit e 63 && bits e 0 28 != bits peer 0 28 then
      (n.modLane p slot fun l => { l with st := lsBackoff, wire := [] }).laneRec p slot 0x0005 0 (peer % 2 ^ 32)
    else n.laneUp p slot peer us peerRestarted

/-- Signal is lost (R197, R694). -/
def Node.signalLost (n : Node) (p slot : Nat) : Node :=
  let l := n.lane p slot
  if l.st = lsTrain then n.setLane p slot { l.trainedOnce with st := lsDetect, wire := [] }
  else if l.st = lsUp then
    let early := decide (n.local < l.upSince + 1000000000)
    (n.leaveUp p slot lsDetect 0x0001 0 none).modLane p slot fun l => { l with held6 := early }
  else n

/-- A RESET_NOTICE arrives (R197, R694). -/
def Node.noticeRx (n : Node) (p slot cause : Nat) : Node :=
  if (n.lane p slot).st ≠ lsUp then n
  else if cause = 0 then n.leaveUp p slot lsDetect 0x0004 0 none
  else n.upFailure p slot cause false

/-- RETRAIN (R207), and the exit at a port reset. -/
def Node.retrain (n : Node) (p slot : Nat) : Node :=
  if (n.lane p slot).st ≠ lsUp then n
  else (n.leaveUp p slot lsDetect 0x0004 0 (some 0))

/-- Whether a port has a use in the node's role (R193): RACK and SPINE hold UP_PORT4-7 in electrical idle. -/
def Node.portUsed (n : Node) (p : Nat) : Bool := !(n.dev == .abl && decide (20 ≤ p) && decide (2 ≤ n.role))

/-- A port is enabled or disabled by LNK_CTRL (R197).  A port that is isolated with none of its slots RETIRED waits for its restore. (DEDUCED: log 32.) -/
def Node.portCtrl (n : Node) (p : Nat) : Node :=
  let c := n.rd (Reg.LNK_CTRL n.dev) p
  let on := Machine.bit c 31 && !Machine.bit c 30 && n.portUsed p
  let held := n.dev == .abl && n.arrBit Reg.ABL_FLT_ISO (272 + p) && !(n.slotsOf p).any fun s => (n.lane p s).st == lsRetired
  (n.slotsOf p).foldl (fun n s =>
    let l := n.lane p s
    if on then (if l.st = lsDisabled && n.portsReleased && !held then n.setLane p s { l with st := lsDetect } else n)
    else if l.st = lsRetired || l.st = lsDisabled then n
    else if l.st = lsUp then n.leaveUp p s lsDisabled 0x0001 0 (some 0)
    else n.setLane p s { l with st := lsDisabled, wire := [] }) n

/-- A port reset of one slot (R201): the unacknowledged messages are dropped, and the slot retrains; the second part counts them.  The reset ends
a failure episode. (DESIGN CHOICE: log 121.) -/
def Node.slotReset (n : Node) (p s : Nat) : Node × Nat :=
  let l := n.lane p s
  if l.st = lsRetired then (n, 0)
  else
    let open_ (t : TxMsg) : Bool := t.port == p && t.lslot == s && decide (0 < t.sent)
    let dropped := l.unacked.length + (n.txq.filter open_).length
    let n : Node := { n with txq := n.txq.filter fun t => !open_ t }.setLane p s { l with replay := [], resend := [] }
    let n := if l.st = lsUp then n.leaveUp p s lsDetect 0x0004 0 (some 0)
      else if l.st = lsDisabled then n else n.modLane p s fun l => { l with st := lsDetect, wire := [] }
    (n.modLane p s fun l => { l with restarted := true, held6 := false, episode := 0 }, dropped)

/-- A port reset (R201): one LOSS record counts the messages that its slots drop. -/
def Node.portReset (n : Node) (p : Nat) : Node :=
  let (n, k) := (n.slotsOf p).foldl (fun (n, k) s => let (m, j) := Node.slotReset n p s; (m, k + j)) (n, 0)
  n.loss k 0x0110 p (some (n.portSrc p))

/-! ## Flits -/

/-- The replay buffer's size in flits (R191, R195). -/
def Node.replaySize (n : Node) (p : Nat) : Nat := if n.slotted p then 128 else 512

/-- Messages that wait at any port and have expired are dropped and counted there (R190, R690). -/
def Node.purge (n : Node) : Node :=
  let dead (t : TxMsg) : Bool := t.sent == 0 && decide (dist32 t.msg.expire n.now < 0)
  let gone := n.txq.filter dead
  if gone.isEmpty then n
  else gone.foldl (fun (n : Node) t => n.bump (Reg.LNK_EXPIRED n.dev) t.port) { n with txq := n.txq.filter fun t => !dead t }

/-- Whether a class may be sent on a port (R194). -/
def Node.classOk (n : Node) (p cls : Nat) : Bool :=
  match n.dev with
  | .ddu => cls == 6 || n.bit Reg.DDU_DIE_INDEX 0 31
  | .abl => decide (p < 20) || cls == 4 || cls == 6

/-- The key that comes after `last` among those of the node itself (0) and its guests, in turn (R204). -/
def turnAfter (last : Nat) (ks : List Nat) : Nat :=
  match (ks.filter fun k => decide (last < k)).min? with
  | some k => k
  | none => (ks.min?).getD 0

/-- Whether a message is a share transfer of a restore that a SUSPEND holds (R443). -/
def Node.shareHeld (n : Node) (m : Msg) : Bool :=
  match n.shareHold, m.body with
  | [], _ => false
  | l, .record r => r.typ == 0x19 && r.code == 3 && l.contains (leAt r.payload 0 4)
  | _, _ => false

/-- The messages of a class that may leave on a lane: none of this node passes an EPOCH_FENCE that waits (R285, R286). -/
def Node.mayLeave (n : Node) (p slot cls : Nat) : List TxMsg :=
  let q := n.txq.filter fun t => t.port == p && t.lslot == slot && t.msg.cls == cls && !t.launch && !t.fenced && !n.shareHeld t.msg
  let own := (q.filter fun t => t.guest == 0).takeWhile fun t => !t.ef
  q.filter fun t => t.guest != 0 || own.contains t

/-- The message of a class that a lane sends next: the open one, else the first of the source whose turn it is, this node or one of its
guests (R204). -/
def Node.headOf (n : Node) (p slot cls : Nat) : Option TxMsg :=
  let mine := n.mayLeave p slot cls
  match mine.find? fun t => decide (0 < t.sent) with
  | some t => some t
  | none =>
    let turn := turnAfter (lookupD (n.lane p slot).turns cls 0) (mine.map fun t => t.guest)
    mine.find? fun t => t.guest == turn

/-- The lowest tag among keys (R248); ties go to the lower index. -/
def UschX.least (u : UschX) : List Nat → Option Nat
  | [] => none
  | k :: t =>
    match UschX.least u t with
    | none => some k
    | some b => if tagLess (u.tag b).start (u.tag k).start then some b else some k

/-- The weight of class k (1 SUMMARY, 2 TRACE, 3 SECURE) on an uplink (R253). -/
def Node.classWeight (n : Node) (p k : Nat) : Nat := n.fld Reg.ABL_USCH_PORT (p - 16) (8 * k) 8

/-- The scheduler's pick on an uplink (R248): the slot and class whose head goes next. (DESIGN CHOICE: log 44.) -/
def Node.uschPick (n : Node) (p : Nat) : Option (Nat × Nat) :=
  let l := n.lane p 0
  let ready (s c : Nat) : Bool := n.classOk p c && decide (0 < l.credit.getD c 0) &&
    n.txq.any fun t => t.port == p && t.slot == s && t.msg.cls == c && t.sent == 0 && !t.launch
  let w (s : Nat) : Nat := n.fld Reg.ABL_USCH_JOB s 40 8
  let able (s : Nat) : Bool := decide (0 < w s) &&
    (ready s 1 || [2, 3, 4].any fun c => ready s c && decide (0 < n.classWeight p (c - 1)))
  if !n.bit Reg.ABL_USCH_CTRL 0 0 then none
  else
    let used := (List.range 64).filter fun s => n.txq.any fun t => t.port == p && t.slot == s
    match n.usch.least ((used.filter able).map (slotKey p)) with
    | none => none
    | some k =>
      let s := k - slotKey p 0
      if ready s 1 then some (s, 1)
      else
        match n.usch.least (([2, 3, 4].filter fun c => ready s c && decide (0 < n.classWeight p (c - 1))).map (uschQ p s)) with
        | none => none
        | some q => some (s, q % 4 + 1)

/-- Virtual time and tags advance for a pick (R247, R248). (DESIGN CHOICE: log 44.) -/
def Node.uschAdvance (n : Node) (p s c size : Nat) : Node :=
  let cost := size + n.fld Reg.ABL_USCH_PORT (p - 16) 0 8 * ((size + 115) / 116)
  let sk := slotKey p s
  let st := n.usch.tag sk
  let fin := (st.start + cost * 256 / max 1 (n.fld Reg.ABL_USCH_JOB s 40 8)) % 2 ^ 48
  let left := n.txq.filter fun t => t.port == p && t.slot == s && t.sent == 0 && decide (1 ≤ t.msg.cls) && decide (t.msg.cls ≤ 4)
  let u : UschX := { n.usch with v := bindKey n.usch.v (portKey p) st.start }
  let u := u.setTag { st with finish := fin, start := if 1 < left.length then fin else st.start }
  let u := if c = 1 then u
    else
      let q := uschQ p s c
      let ct := u.tag q
      let cf := (ct.start + cost * 256 / max 1 (n.classWeight p (c - 1))) % 2 ^ 48
      let more := decide (1 < (left.filter fun t => t.msg.cls == c).length)
      { u with v := bindKey u.v sk ct.start }.setTag { ct with finish := cf, start := if more then cf else ct.start }
  { n with usch := u }

/-- What an uplink sends of classes 1 to 4 (R189, R248): the message that is open in a class, else the scheduler's pick, whose cost is charged
once. -/
def Node.uplinkPick (n : Node) (p : Nat) : Node × Option TxMsg :=
  let l := n.lane p 0
  match [1, 2, 3, 4].find? fun c => decide (0 < l.credit.getD c 0) && (n.headOf p 0 c).any fun t => decide (0 < t.sent) with
  | some c => (n, n.headOf p 0 c)
  | none =>
    match n.uschPick p with
    | none => (n, none)
    | some (s, c) =>
      match n.txq.find? fun t => t.port == p && t.slot == s && t.msg.cls == c && t.sent == 0 && !t.launch with
      | none => (n, none)
      | some t => (n.uschAdvance p s c t.size, some t)

/-- The first entry that satisfies `q` replaced, or removed where `r` is none. -/
def replaceFirst {α : Type} (l : List α) (q : α → Bool) (r : Option α) : List α :=
  match l with
  | [] => []
  | a :: t => if q a then (match r with | some b => b :: t | none => t) else a :: replaceFirst t q r

/-- Send the next flit of a message (R189, R191). -/
def Node.sendMsgFlit (n : Node) (p slot : Nat) (t : TxMsg) : Node :=
  let (n, t0) := if t.sent = 0 then n.leaves t else (n, t)
  let l := n.lane p slot
  let c := t.msg.cls
  let len := min 116 (t.size - t.sent)
  let last := decide (t.size ≤ t.sent + 116)
  let f : Flit := { ftype := if t.sent = 0 then 1 else 2, slot := slot, cls := c, seq := l.nextSeq, ack := l.expSeq,
                    ackValid := true, payload := (t0.msg.bytes.drop t.sent).take len }
  let l : LaneX := { l with
    nextSeq := (l.nextSeq + 1) % 4096, wire := [f.seal],
    credit := modifyAt l.credit c fun x => x - 1,
    turns := if last then bindKey l.turns c t.guest else l.turns,
    replay := l.replay ++ [{ seq := l.nextSeq, cls := c, bytes := len, last := last, msg := { t0 with sent := t.sent } }] }
  let n := n.setLane p slot l
  let n : Node := { n with txq := replaceFirst n.txq (fun x => decide (x = t)) (if last then none else some { t0 with sent := t.sent + 116 }) }
  if n.dev == .abl && 16 ≤ p then
    n.setFld Reg.ABL_USCH_PSTAT (p - 16) 0 32 (n.fld Reg.ABL_USCH_PSTAT (p - 16) 0 32 + len)
  else n

/-- Resend the next flit of the replay buffer that is due (R191); the eighth resend of one SEQ fails the lane (R192). -/
def Node.resendFlit (n : Node) (p slot seq : Nat) (rest : List Nat) : Node :=
  let l := n.lane p slot
  match l.replay.find? fun f => f.seq == seq with
  | none => n.setLane p slot { l with resend := rest }
  | some f =>
    let w : Flit := { ftype := if f.msg.sent = 0 then 1 else 2, slot := slot, cls := f.cls, seq := seq, ack := l.expSeq,
                      ackValid := true, payload := (f.msg.msg.bytes.drop f.msg.sent).take f.bytes }
    let n := n.setLane p slot { l with
      resend := rest, wire := [w.seal],
      replay := replaceFirst l.replay (fun x => x.seq == seq) (some { f with resent := f.resent + 1 }) }
    let n := (n.bump (Reg.LNK_REPLAYS n.dev) p).lcount p 5
    if 8 ≤ f.resent + 1 then n.upFailure p slot 3 true else n

/-- Return receive credits in a flit (R188): up to 31 of the first class that has some due; those of OPERAND may be withheld (R339). -/
def Node.flitCredits (n : Node) (p slot : Nat) : Node :=
  let l := n.lane p slot
  match (List.range 7).find? fun c => decide (0 < l.creditDue.getD c 0) && !(c == 5 && n.opHold) with
  | none => n
  | some c =>
    let k := min 31 (l.creditDue.getD c 0)
    n.setLane p slot { l with
      creditDue := modifyAt l.creditDue c fun x => x - k,
      wire := l.wire.map fun f => ({ f with creditCls := c, credit := k } : Flit).seal }

/-- The launch frame that takes this flit time ahead of every other flit (R172, R188): one is due, and no other LINK message is open. -/
def Node.dueFrame (n : Node) (p slot : Nat) : Option TxMsg :=
  let l := n.lane p slot
  if l.credit.getD 6 0 = 0 || n.replaySize p ≤ l.replay.length || (n.headOf p slot 6).any fun t => decide (0 < t.sent) then none
  else n.txq.find? fun t => t.port == p && t.lslot == slot && t.launch

/-- Whether a port or the DDU's LINK sub-block is in reset and starts no new message (R72, R581). -/
def Node.portQuiet (n : Node) (p : Nat) : Bool := match n.dev with | .ddu => n.bit Reg.DDU_SUBRESET 0 6 | .abl => n.bit Reg.ABL_ENGINE_RESET 0 p

/-- The message that a flit time sends (R188): LINK, VERDICT, then the scheduler or round-robin. -/
def Node.flitPick (n : Node) (p slot : Nat) : Node × Option TxMsg :=
  let l := n.lane p slot
  let can (c : Nat) : Bool := n.classOk p c && (n.headOf p slot c).isSome
  let paid (c : Nat) : Bool := decide (0 < l.credit.getD c 0)
  let stalled := (List.range 7).any fun c => can c && !paid c
  let n := if stalled then n.lcount p 7 else n
  if can 6 && paid 6 then (n, n.headOf p slot 6)
  else if can 0 && paid 0 then (n, n.headOf p slot 0)
  else if n.dev == .abl && 16 ≤ p then n.uplinkPick p
  else
    let order := (List.range 5).map fun i => (l.rr + i) % 5 + 1
    match order.find? fun c => can c && paid c with
    | none => (n, none)
    | some c => (n.modLane p slot fun l => { l with rr := c % 5 }, n.headOf p slot c)

/-- What a flit time of an UP lane sends (R187, R188, R191): a launch frame that is due, a NAK, a flit to resend, a message flit, or IDLE. -/
def Node.flitSend (n : Node) (p slot : Nat) : Node :=
  let l := n.lane p slot
  match n.dueFrame p slot with
  | some t => n.sendMsgFlit p slot t
  | none =>
    if l.nakDue then
      n.setLane p slot { l with nakDue := false, wire := [({ ftype := 4, slot := slot, ack := l.expSeq, ackValid := true } : Flit).seal] }
    else
      match l.resend with
      | s :: rest => n.resendFlit p slot s rest
      | [] =>
        let idle (n : Node) : Node :=
          (n.modLane p slot fun l => { l with wire := [({ ftype := 0, slot := slot, ack := l.expSeq, ackValid := true } : Flit).seal] }).lcount p 6
        if n.replaySize p ≤ l.replay.length then idle n
        else
          match n.flitPick p slot with
          | (n, none) => idle n
          | (m, some t) => if t.sent = 0 && n.portQuiet p then idle n else m.sendMsgFlit p slot t

/-- Whether R188 and R191 leave the next flit time of an uplink to the scheduler: no launch frame, NAK or resend is due, the replay buffer has room,
no LINK or VERDICT message may go, and the scheduler has a message to pick. -/
def Node.uplinkFree (n : Node) (p : Nat) : Bool :=
  let l := n.lane p 0
  let can (c : Nat) : Bool := n.classOk p c && decide (0 < l.credit.getD c 0) && (n.headOf p 0 c).isSome
  l.st == lsUp && (n.dueFrame p 0).isNone && !l.nakDue && l.resend.isEmpty && decide (l.replay.length < n.replaySize p) &&
    !can 6 && !can 0 && (n.uplinkPick p).2.isSome

/-- One flit time of a lane (R187, R188). -/
def Node.flitTime (n : Node) (p slot : Nat) : Node :=
  if (n.lane p slot).st ≠ lsUp then n
  else
    let n := (n.purge.sentFlits p 1).flitSend p slot
    if (n.lane p slot).st = lsUp then n.flitCredits p slot else n

/-- SEQs of the replay buffer from `ack` onward are unacknowledged; the others leave it (R191). -/
def LaneX.acked (l : LaneX) (ack : Nat) : LaneX :=
  let after (s : Nat) : Bool := decide ((s + 4096 - ack % 4096) % 4096 < 2048)
  { l with replay := l.replay.filter fun f => after f.seq, resend := l.resend.filter after }

/-- The length of a message from its first bytes (R189). -/
def msgLen (b : List Nat) : Option Nat := if 22 ≤ b.length then some (16 + align8 (16 + leAt b 20 2)) else none

/-- Bytes of a flit join the open message of its class; a message that is complete waits for delivery. -/
def LaneX.take (l : LaneX) (f : Flit) : LaneX :=
  let b := (if f.ftype = 1 then [] else lookupD l.got f.cls []) ++ padTo f.len f.payload
  match msgLen b with
  | some k => if k ≤ b.length then { l with got := bindKey l.got f.cls [], done := l.done ++ [(f.cls, b)] }
              else { l with got := bindKey l.got f.cls b }
  | none => { l with got := bindKey l.got f.cls b }

/-- A flit is lost (R187, R191): a NAK is due, also for a further one while the expected SEQ is awaited. -/
def Node.flitLost (n : Node) (p slot : Nat) : Node := n.modLane p slot fun l => { l with nakDue := true, awaitSeq := true }

/-- ACK and CREDIT of a valid flit (R188, R191); a message that the peer has acknowledged need not be kept for another parent (R38). -/
def Node.flitAck (n : Node) (p slot : Nat) (f : Flit) : Node :=
  let l := n.lane p slot
  let m := if f.ackValid then l.acked f.ack else l
  let got := l.unacked.filter fun t => !m.unacked.contains t
  let n : Node := if n.parent.kept.isEmpty then n
    else { n with parent := { n.parent with kept := n.parent.kept.filter fun t => !got.any fun u => u.msg == t.msg } }
  n.setLane p slot { m with
    lastRx := n.local, credit := if f.creditCls < 7 then modifyAt m.credit f.creditCls fun x => x + f.credit else m.credit }

/-- A flit arrives (R187, R191). (DESIGN CHOICE: log 31.) -/
def Node.flitRx (n : Node) (p slot : Nat) (f : Flit) : Node :=
  if (n.lane p slot).st ≠ lsUp then n
  else
    let n := match n.dev with
      | .ddu => n.count 0xF41
      | .abl => (n.lcount p 1).lcount p 3 2
    if !f.intact then n.flitLost p slot
    else
      let n := n.flitAck p slot f
      match f.ftype with
      | 1 | 2 =>
        let l := n.lane p slot
        if f.seq ≠ l.expSeq then (if l.awaitSeq then n else n.flitLost p slot)
        else
          let l : LaneX := { l with
            expSeq := (l.expSeq + 1) % 4096, awaitSeq := false, creditDue := modifyAt l.creditDue f.cls fun x => x + 1 }
          if n.dev == .abl && 20 ≤ p && f.cls ≠ 4 && f.cls ≠ 6 then (n.setLane p slot l).lcount p 7
          else if f.cls = 6 && f.ftype = 1 then (n.setLane p slot ({ l with arrived := l.arrived ++ [n.stamp] }.take f)).stamped
          else n.setLane p slot (l.take f)
      | 4 => n.modLane p slot fun l => { l with resend := l.replay.map fun x => x.seq }
      | 5 => n.noticeRx p slot (f.payload.headD 0)
      | _ => n

/-- Queue depths and ages are latched (R250). -/
def Node.uschSample (n : Node) : Node :=
  if n.fld Reg.ABL_USCH_SAMPLE_US 0 0 20 = 0 then n
  else
    let q (t : TxMsg) : Nat := uschQ t.port t.slot t.msg.cls
    let mine := n.txq.filter fun t => decide (16 ≤ t.port) && decide (t.port < 24) && decide (1 ≤ t.msg.cls) && decide (t.msg.cls ≤ 4)
    let n : Node := { n with regs := n.regs.filter fun (r : Nat × Nat) =>
      !(decide (0x00704000 ≤ r.1) && decide (r.1 < 0x0070C000) && r.1 % 16 == 0) }
    (mine.map q).eraseDups.foldl (fun n k =>
      let ms := mine.filter fun t => q t == k
      let depth := min (ones 32) (ms.map fun t => t.size).sum
      let age := min (ones 32) (ms.foldl (fun a t => max a (n.local - t.at_)) 0)
      let old := n.rd Reg.ABL_USCH_QMAX k
      (n.wr Reg.ABL_USCH_QSAMP k (age * 2 ^ 32 + depth)).wr Reg.ABL_USCH_QMAX k
        (max age (bits old 32 32) * 2 ^ 32 + max depth (bits old 0 32))) n

/-! ## Fallback -/

/-- The guests that this DDU relays for now (R203): those from which something has come in the last 10 ms. (DESIGN CHOICE: log 33.) -/
def Ddu.guestsNow (d : Ddu) : List (Nat × Nat) := d.fb.guests.filter fun g => decide (d.n.local < g.2 + 10000000)

/-- DDU_LNK_FB_STATUS (R207). -/
def Ddu.fbView (d : Ddu) : Ddu :=
  d.wr Reg.DDU_LNK_FB_STATUS 0 (d.guestsNow.length % 4 * 2 ^ 16 + d.fb.entry % 4 * 2 ^ 8 + b2n (d.n.bit Reg.DDU_STATUS 0 7))

/-- A message goes out on the host fabric; its start passes this die's fabric port (R166, R204). -/
def Ddu.toFabric (d : Ddu) (addr : Nat) (m : Msg) : Ddu :=
  let (n, t) := d.n.leaves { port := 0, msg := m, size := 0, at_ := 0 }
  { d with n := n, fabric := d.fabric ++ [{ kind := 0, addr := addr, bytes := [], msg := some t.msg }] }

/-- Something goes to a sibling's ring over the host fabric (R204), or backs up in its queue while the initiator stands still (R58). (DESIGN CHOICE: log 33.) -/
def Ddu.toRing (d : Ddu) (addr : Nat) (m : Msg) : Ddu :=
  if d.fabricOn && d.fb.queue.isEmpty then d.toFabric addr m
  else { d with fb := { d.fb with queue := d.fb.queue ++ [(addr, m)] } }

/-- Fallback traffic that has backed up goes out once the initiator issues requests again, ahead of snoop and spill (R58). -/
def Ddu.fabricDrain (d : Ddu) : Ddu :=
  if d.fabricOn then d.fb.queue.foldl (fun (d : Ddu) x => d.toFabric x.1 x.2) { d with fb := { d.fb with queue := [] } } else d

/-- A guest asks the sibling of list entry `k`, or of the next valid entry (R203).  The spec names no answer but FB_REFUSED, so the guest counts
itself accepted until that comes. (DESIGN CHOICE: log 33.) -/
def Ddu.fbRequest (d : Ddu) (k : Nat) : Ddu :=
  match ((List.range 3).filter fun i => decide (k ≤ i)).find? fun i => d.n.bit Reg.DDU_LNK_FB_PEER i 63 with
  | none => { d with fb := { d.fb with accepted := false, exhausted := true } }.fbView
  | some i =>
    let d : Ddu := { d with fb := { d.fb with entry := i, accepted := true, exhausted := false } }
    (d.toRing (d.rd Reg.DDU_LNK_FB_PEER i % 2 ^ 63) (d.n.mkMsg d.n.parentIdent 6 (.frame .fbRequest [d.n.ident] []))).fbView

/-- A guest writes its next whole message into its host's ring (R204). (DESIGN CHOICE: log 33.) -/
def Ddu.fbSend (d : Ddu) : Ddu :=
  if !d.fb.accepted || !d.fabricOn then d
  else
    let order := [6, 0, 1, 2, 3, 4, 5]
    match (order.filterMap fun c => (d.n.mayLeave 0 0 c).head?).head? with
    | none => d
    | some t =>
      let d : Ddu := { d with n := { d.n with txq := replaceFirst d.n.txq (fun x => decide (x = t)) none },
                              fb := { d.fb with relayed := d.fb.relayed + 1 } }
      d.toRing (d.rd Reg.DDU_LNK_FB_PEER d.fb.entry % 2 ^ 63) t.msg

/-- The lane has been UP for 1 s: fallback ends (R202). -/
def Ddu.fbExit (d : Ddu) : Ddu :=
  let l := d.n.lane 0 0
  if d.n.bit Reg.DDU_STATUS 0 7 && l.st == lsUp && decide (l.upSince + 1000000000 ≤ d.n.local) then
    let k := d.fb.relayed
    let d : Ddu := { d with fb := { d.fb with entry := 0, accepted := false, exhausted := false, relayed := 0 } }
    ((d.on fun n => (n.setB Reg.DDU_STATUS 0 7 false).timeFallback).fbView).on fun n =>
      n.laneRec 0 0 0x0007 0 k
  else d

/-- Whether die `o` is a guest. -/
def Ddu.isGuest (d : Ddu) (o : Nat) : Bool := d.fb.guests.any fun g => g.1 == o

/-- A guest's TIME_REQ over the host fabric, stamped at the port there (R166, R679). -/
def Ddu.guestTime (d : Ddu) (o t2 : Nat) : Ddu :=
  if d.isGuest o && d.n.timeState ≠ tsUnaligned then
    d.toRing (Config.dieRing o) (d.n.mkMsg o 6 (.frame .timeResp [t2, 0, d.n.timeState] []))
  else d

/-- Note that a guest has written. -/
def Ddu.guestSeen (d : Ddu) (o : Nat) : Ddu :=
  { d with fb := { d.fb with guests := d.fb.guests.map fun g => if g.1 = o then (o, d.n.local) else g } }

/-- A sibling asks this DDU to host it (R203). (DESIGN CHOICE: log 33.) -/
def Ddu.fbGuest (d : Ddu) (guest addr : Nat) : Ddu :=
  let others := d.guestsNow.filter fun g => g.1 != guest
  if (d.n.lane 0 0).st == lsUp && !d.n.bit Reg.DDU_STATUS 0 7 && decide (others.length < 2) then
    { d with fb := { d.fb with guests := others ++ [(guest, d.n.local)] } }.fbView
  else d.toRing addr (d.n.mkMsg guest 6 (.frame .fbRefused [] []))

/-- The bytes of a message lie in the 16 KiB receive ring at 0x8_4000 (R204), after those of the message before it. (DESIGN CHOICE: log 33.) -/
def Ddu.ringStore (d : Ddu) (m : Msg) : Ddu :=
  let b := m.bytes
  let at_ := d.fb.ringAt % 16384
  let head := b.take (16384 - at_)
  { d with fb := { d.fb with ring := (Cells.write d.fb.ring at_ head).write 0 (b.drop head.length), ringAt := (at_ + b.length) % 16384 } }

end Sys2Proof.Machine
end

