-- ==== Sys2Proof/Machine/SyncOps.lean ====
section
/-!
DEFINITION. The data tree around a node (R31, R193, R195, R255), jobs and groups as a node knows them (R258, R264, R267,
R290), and sync objects (R268 to R275, R689).
-/

namespace Sys2Proof.Machine

/-! ## The tree -/

/-- Whether entry `c` of ABL_RED_CHILD is valid (R255). -/
def Node.childValid (n : Node) (c : Nat) : Bool := n.bit Reg.ABL_RED_CHILD c 127

/-- Fields of ABL_RED_CHILDc (R255). -/
def Node.childNode (n : Node) (c : Nat) : Nat := n.fld Reg.ABL_RED_CHILD c 96 20
def Node.childPeer (n : Node) (c : Nat) : Nat := n.fld Reg.ABL_RED_CHILD c 64 20
def Node.childFirst (n : Node) (c : Nat) : Nat := n.fld Reg.ABL_RED_CHILD c 0 17
def Node.childLast (n : Node) (c : Nat) : Nat := n.fld Reg.ABL_RED_CHILD c 24 17

/-- The child slot of a node identity. -/
def Node.childOf (n : Node) (ident : Nat) : Option Nat := (List.range 32).find? fun c => n.childValid c && n.childNode c == ident

/-- Port and lane slot toward child `c` for a class (R195): slots 0 and 1 for a primary child, 2 and 3 for an adopted one;
on a tray the die port itself. -/
def Node.childLane (n : Node) (c cls : Nat) : Nat × Nat :=
  let p := c % 16
  if n.role = 1 then (p, 0)
  else
    let base := c / 16 * 2
    let a := base + (n.childNode c + cls) % 2
    let b := base + (n.childNode c + cls + 1) % 2
    (p, if (n.lane p a).st = lsUp || (n.lane p b).st ≠ lsUp then a else b)

/-- Where a message for `ident` leaves (R190): the child itself, the child above that die, or none for upward. (DEDUCED: log 36.) -/
def Node.downChild (n : Node) (ident : Nat) : Option Nat :=
  match n.childOf ident with
  | some c => some c
  | none =>
    if bits ident 17 3 = 0 then
      (List.range 32).find? fun c => n.childValid c && decide (n.childFirst c ≤ ident) && decide (ident ≤ n.childLast c)
    else none

/-- Queue a message toward its DEST. -/
def Node.routeMsg (n : Node) (jobtag : Nat) (m : Msg) : Node :=
  match n.dev with
  | .ddu => n.sendUpMsg jobtag m
  | .abl =>
    match n.downChild (bits m.dest 0 20) with
    | some c =>
      let (p, k) := n.childLane c m.cls
      n.queueAt p 63 m k
    | none => n.sendUpMsg jobtag m

/-- Number a record of this node and send it toward `dest`. -/
def Node.postTo (n : Node) (jobtag dest cls typ code src : Nat) (payload : List Nat) : Node :=
  n.write cls typ code src 0 payload fun r m => m.routeMsg jobtag (m.mkMsg dest cls (.record r))

/-- Number a record and send it to child `c`. -/
def Node.postChild (n : Node) (c dest cls typ code src : Nat) (payload : List Nat) : Node :=
  let (p, k) := n.childLane c cls
  n.postAt p dest cls typ code src payload k

/-! ## Jobs and groups as a node holds them -/

/-- JOB_ID and GEN of a JobTag (R257). -/
def jobId (t : Nat) : Nat := bits t 16 16
def jobGen (t : Nat) : Nat := t % 65536

/-- The generation of a job's next incarnation (R257): after 0xFFFF it wraps to 1. -/
def genAfter (g : Nat) : Nat := if g % 65536 = 0xFFFF then 1 else g % 65536 + 1

/-- Whether generation `g` is older than `c` (R258). -/
def genOlder (g c : Nat) : Bool := decide (32768 ≤ (g % 65536 + 65536 - c % 65536) % 65536)

/-- The JobTags that a node holds: entries of ABL_JOB that are not FREE, or the die's current and held job. -/
def Node.heldJobs (n : Node) : List Nat :=
  match n.dev with
  | .abl => (List.range 64).filterMap fun j => if n.fld Reg.ABL_JOB j 125 3 ≠ 0 then some (n.fld Reg.ABL_JOB j 0 32) else none
  | .ddu =>
    (if n.fld Reg.DDU_JOB_STATE 0 0 3 ≠ 0 then [n.rd Reg.DDU_JOB_TAG] else []) ++
      (if n.bit Reg.DDU_JOB_STATE 0 8 then [n.rd Reg.DDU_JOB_PENDING] else [])

/-- The JobTags whose generations are a node's current ones (R258): on a DDU that of the job that it is in, not of one that it only holds. -/
def Node.currentJobs (n : Node) : List Nat :=
  match n.dev with
  | .abl => n.heldJobs
  | .ddu => if n.fld Reg.DDU_JOB_STATE 0 0 3 ≠ 0 then [n.rd Reg.DDU_JOB_TAG] else []

/-- What R258 says of a message of a job: 0 current, 1 stale, 2 unknown. -/
def Node.jobCheck (n : Node) (t : Nat) : Nat :=
  let same (l : List Nat) : List Nat := l.filter fun h => jobId h == jobId t
  let mine := if (same n.currentJobs).isEmpty then same n.heldJobs else same n.currentJobs
  if jobId t = 0 then 0
  else if mine.isEmpty then 2
  else if mine.any fun h => genOlder (jobGen t) (jobGen h) then 1
  else 0

def staleReg : Dev → RegDef | .ddu => Reg.DDU_SYNC_STALE | .abl => Reg.ABL_SYNC_STALE
def mismatchReg : Dev → RegDef | .ddu => Reg.DDU_SYNC_MISMATCH | .abl => Reg.ABL_SYNC_MISMATCH
def unknownReg : Dev → RegDef | .ddu => Reg.DDU_SYNC_MISMATCH | .abl => Reg.ABL_JOB_UNKNOWN
def orderReg : Dev → RegDef | .ddu => Reg.DDU_SYNC_MISMATCH | .abl => Reg.ABL_SYNC_GATE_ORDER

/-- Count in a register that each device has under its own name. -/
def Node.bumpOf (n : Node) (r : Dev → RegDef) : Node := n.bump (r n.dev)

/-- `f` on a message of a current job; otherwise the drop that R258 counts.  No recorder retains what is dropped, so no record is written with
FLAGS.STALE_GEN. (DESIGN CHOICE: log 122.) -/
def Node.ofJob (n : Node) (t : Nat) (f : Node → Node) : Node :=
  match n.jobCheck t with
  | 0 => f n
  | 1 => n.bumpOf staleReg
  | _ => n.bumpOf unknownReg

/-- The job entry that holds a JobTag. -/
def Node.jobSlot (n : Node) (t : Nat) : Option Nat :=
  (List.range 64).find? fun j => n.fld Reg.ABL_JOB j 125 3 != 0 && n.fld Reg.ABL_JOB j 0 32 == t

/-- The group entry of a job's GROUP_ID (R267). -/
def Node.groupOf (n : Node) (t gid : Nat) : Option Nat :=
  match n.jobSlot t with
  | none => none
  | some j => (List.range 512).find? fun g =>
      n.bit Reg.ABL_GROUP g 255 && n.fld Reg.ABL_GROUP g 224 16 == gid && n.fld Reg.ABL_GROUP g 240 6 == j

/-- Members beneath child `c` of group entry `g` (ABL_GROUP_EXP). -/
def Node.groupExp (n : Node) (g c : Nat) : Nat := n.fld Reg.ABL_GROUP_EXP g (32 * c) 32

/-- Children with members of group entry `g`. -/
def Node.groupChildren (n : Node) (g : Nat) : List Nat := (List.range 32).filter fun c => n.groupExp g c != 0

/-! ## Sync objects -/

/-- Objects of a device. -/
def syncCount : Dev → Nat | .ddu => 512 | .abl => 8192

/-- The unit that sync records name (R13, R462). -/
def syncSrc : Dev → Nat | .ddu => 505 | .abl => 651

/-- Object `k`. -/
def Node.obj (n : Node) (k : Nat) : SyncObj := (n.sync.objs.find? fun o => o.num == k).getD { num := k }

/-- Bring ABL_SYNC_FREE in step. -/
def Node.syncView (n : Node) : Node :=
  if n.dev == .abl then n.wr Reg.ABL_SYNC_FREE 0 (8192 - (n.sync.objs.filter fun o => o.st != 0).length) else n

/-- Replace an object. (DESIGN CHOICE: log 20.) -/
def Node.setObj (n : Node) (o : SyncObj) : Node :=
  let rest := n.sync.objs.filter fun x => x.num != o.num
  { n with sync := { n.sync with objs := if o = ({ num := o.num } : SyncObj) then rest else o :: rest } }.syncView

/-- The STATE byte of an object (R268). -/
def SyncObj.stateByte (o : SyncObj) : Nat := o.st % 4 + 4 * b2n o.reached + 8 * b2n o.failed + 16 * (o.kind % 4)

/-- The 64 bytes of an object as registers show it (R268). -/
def SyncObj.bytes (o : SyncObj) : List Nat :=
  le 8 o.value ++ le 8 o.target ++ le 4 o.jobtag ++ [o.stateByte, o.attempt % 256, 0, 0] ++ le 4 o.epoch ++ le 4 o.guardEnd ++
    le 8 o.waiters ++ le 4 o.mirrorHandle ++ le 4 o.mirrorNode ++ le 4 o.lastTime ++ le 4 o.lastSrc ++ le 4 o.updates ++ zeros 4

/-- The handle of an object (R268). -/
def SyncObj.handle (o : SyncObj) : Nat := jobGen o.jobtag * 65536 + o.num

/-- The payload of SYNC_UPDATE and SYNC_STATE (R284). -/
def syncPayload (jobtag handle b8 attempt group epoch d : Nat) : List Nat :=
  le 4 jobtag ++ le 4 handle ++ [b8 % 256, attempt % 256] ++ le 2 group ++ le 4 epoch ++ le 8 d

/-- The GROUP_ID of the group whose gate or mirror pair an object belongs to, or 0. -/
def Node.gateGroup (n : Node) (o : SyncObj) : Nat :=
  if n.dev == .ddu || o.kind ≠ 1 then 0
  else
    let names (l : Nat) : Bool := l != 0 && jobGen o.jobtag == l / 65536 && (l % 8192 == o.num || l % 8192 + 1 == o.num)
    match (List.range 512).find? fun g => n.bit Reg.ABL_GROUP g 255 && (names (n.fld Reg.ABL_GROUP g 128 32) ||
        (n.fld Reg.ABL_GROUP g 192 20 == n.ident && names (n.fld Reg.ABL_GROUP g 160 32))) with
    | some g => n.fld Reg.ABL_GROUP g 224 16
    | none => 0

/-- A SYNC_UPDATE of this node goes to one child with BROADCAST. -/
def Node.syncDown (n : Node) (payload : List Nat) (c : Nat) : Node :=
  n.postChild c (n.childNode c + 2 ^ 20) 0 0x15 0x0010 (syncSrc n.dev) payload

/-- Send a SYNC_UPDATE to every child of a group (R273); the whole job, GROUP_ID 0 (R266), has its members in the job's entry. -/
def Node.syncBroadcast (n : Node) (jobtag gid : Nat) (payload : List Nat) : Node :=
  if gid = 0 then (if n.dev == .abl && jobtag != 0 then n.owe (.wholeJob jobtag payload) else n)
  else
    match n.groupOf jobtag gid with
    | none => n
    | some g => (n.groupChildren g).foldl (fun m c => m.syncDown payload c) n

/-- An object's REACHED or FAILED has changed to 1: its waiters and its mirror are notified (R270, R274). -/
def Node.syncNotify (n : Node) (o : SyncObj) (op : Nat) : Node :=
  let gid := n.gateGroup o
  let body := syncPayload o.jobtag o.mirrorHandle op o.attempt gid o.epoch 0
  let n := match n.dev with
    | .abl =>
      let n := (setBitsOf 16 o.waiters).foldl (fun m p =>
        m.postAt p (bits (m.rd (Reg.LNK_PEER .abl) p) 0 20) 0 0x15 0x0010 651 body) n
      (setBitsOf 6 (bits o.waiters 16 6)).foldl (fun m k => m.irq (89 + k)) n
    | .ddu => (setBitsOf 2 (bits o.waiters 16 2)).foldl (fun m k => m.irq (Config.dduSyncIrq k)) n
  if o.mirrorNode = 0 then n
  else if Machine.bit o.mirrorNode 31 then n.syncBroadcast o.jobtag gid body
  else n.postTo o.jobtag (bits o.mirrorNode 0 20) 0 0x15 0x0010 (syncSrc n.dev) body

/-- The effect of an operation on an ACTIVE object (R269); `st` is the STATE byte of an answer. -/
def SyncObj.apply (o : SyncObj) (op d epoch attempt st : Nat) : SyncObj :=
  match op with
  | 1 => { o with value := d % 2 ^ 64 }
  | 2 => { o with value := min (2 ^ 64 - 1) (o.value + d % 2 ^ 64) }
  | 3 => { o with value := max o.value (d % 2 ^ 64) }
  | 4 => { o with failed := true }
  | 5 => { o with value := 0, target := d % 2 ^ 64, reached := false, failed := false, epoch := epoch, attempt := attempt, armed := true }
  | 8 => { o with value := max o.value o.target }
  | 9 => { o with reached := o.reached || bit st 2, failed := o.failed || bit st 3, value := max o.value (d % 2 ^ 64) }
  | _ => o

/-- After every operation REACHED is set when VALUE meets TARGET (R270). (DESIGN CHOICE: log 20.) -/
def SyncObj.settle (o : SyncObj) : SyncObj :=
  if !o.reached && !o.failed && decide (o.target ≤ o.value) then { o with reached := true } else o

/-- One operation on an ACTIVE object, with what R270 makes of it: a FAIL on an object that is FAILED changes nothing. -/
def Node.syncTouch (n : Node) (k op d epoch attempt st src : Nat) : Node :=
  let old := n.obj k
  if op = 4 && old.failed then n
  else
  let new := (old.apply op d epoch attempt st).settle
  let was := if op = 5 then { old with reached := false, failed := false } else old
  let new := { new with lastTime := n.now, lastSrc := src, updates := (old.updates + 1) % 2 ^ 32 }
  let n := n.setObj new
  let n := if !was.reached && new.reached then n.syncNotify new 8 else n
  if !was.failed && new.failed then n.syncNotify new 4 else n

/-- A FAIL of the gate of epoch E also fails the gate of the same pair that holds E + 1 (R278). (DESIGN CHOICE: log 46.) -/
def Node.failPair (n : Node) (k src : Nat) : Node :=
  let o := n.obj k
  let partner := n.obj (if o.epoch % 2 = 0 then k + 1 else k - 1)
  if o.kind == 1 && partner.st == 1 && partner.kind == 1 && partner.armed && partner.jobtag == o.jobtag &&
      partner.epoch == (o.epoch + 1) % 2 ^ 32 && !partner.failed then
    n.syncTouch partner.num 4 0 0 0 0 src
  else n

/-- Apply an operation to an ACTIVE object, with the pair's rule for a FAIL that sets FAILED. -/
def Node.syncApply (n : Node) (k op : Nat) (q : SyncReq) (src : Nat) : Node :=
  let was := (n.obj k).failed
  let n := n.syncTouch k op q.d q.epoch q.attempt q.st src
  if op = 4 && !was then n.failPair k src else n

/-- What R275 says of a gate operation: 0 apply, 1 ARM for the next epoch and apply, 2 ARM for the next attempt and apply,
3 dropped, 4 stale, 5 out of order. -/
def SyncObj.gateCase (o : SyncObj) (op epoch attempt : Nat) : Nat :=
  if !o.armed then (if op = 5 then 0 else 5)
  else if epoch = o.epoch && attempt = o.attempt then 0
  else if o.reached && !o.failed && epoch == (o.epoch + 2) % 2 ^ 32 && decide (attempt ≤ 3) then 1
  else if o.failed && epoch == o.epoch && attempt == o.attempt + 1 then (if o.attempt = 3 then 3 else 2)
  else if dist32 epoch o.epoch < 0 || (epoch == o.epoch && decide (toInt 8 (attempt + 256 - o.attempt % 256) < 0)) then 4
  else 5

/-- Whether the job has a secured state here (R41): a committed CUT_ID. -/
def Node.secured (n : Node) (jobtag : Nat) : Bool :=
  match n.jobSlot jobtag with
  | some j => n.fld Reg.ABL_SEC_JOB j 184 32 != 0
  | none => false

/-- Whether an operation is one of the gate operations of R275. -/
def gateOp (op : Nat) : Bool := op == 1 || op == 2 || op == 3 || op == 4 || op == 5 || op == 8 || op == 9

/-- The epoch of a gate has exhausted its attempts (R275): at a sentinel it escalates, once, where its job has no secured state (R41, R478). -/
def Node.exhausted (n : Node) (o : SyncObj) (q : SyncReq) : Node :=
  if n.dev == .ddu || n.secured o.jobtag || o.given == some q.epoch then n
  else (n.setObj { o with given := some q.epoch }).escalate 651 3 o.jobtag q.epoch q.attempt

/-- A gate operation (R275). -/
def Node.gateApply (n : Node) (k op : Nat) (q : SyncReq) (src : Nat) : Node :=
  let o := n.obj k
  match o.gateCase op q.epoch q.attempt with
  | 0 => n.syncApply k op q src
  | 1 => (n.syncTouch k 5 o.target q.epoch q.attempt 0 src).syncApply k op q src
  | 2 => (n.syncTouch k 5 o.target o.epoch q.attempt 0 src).syncApply k op q src
  | 3 => n.exhausted o q
  | 4 => n.bumpOf staleReg
  | _ => n.bumpOf orderReg

/-- What a sync operation leaves: the node, a status code of R18, and whether an object was found that may answer. -/
structure SyncRes where
  node : Node
  status : Nat
  found : Bool

/-- ALLOC (R269, R271). -/
def Node.syncAlloc (n : Node) (q : SyncReq) (src : Nat) : SyncRes :=
  let k := q.handle % 8192
  let tag := q.d / 2 ^ 32 % 2 ^ 32
  let gen := bits q.handle 16 16
  let o := n.obj k
  if gen ≠ jobGen tag then
    if genOlder gen (jobGen tag) then ⟨n.bumpOf staleReg, 0x0103, false⟩ else ⟨n.bumpOf mismatchReg, 0x0201, false⟩
  else if o.st = 2 then ⟨n, 0x0100, true⟩
  else if o.st = 1 then ⟨n, 0x0201, true⟩
  else
    let x : SyncObj := { num := k, st := 1, jobtag := tag, target := q.d % 2 ^ 32, kind := q.kind % 4 }
    ⟨(n.setObj x).syncTouch k 0 0 0 0 0 src, 0, true⟩

/-- Whether the sync objects apply operations (R689). -/
def Node.syncOn (n : Node) : Bool := n.dev == .ddu || n.bit Reg.ABL_SYNC_CTRL 0 0

/-- One operation on a local object (R269 to R275): `checkTag` compares the JOBTAG of a SYNC_UPDATE.  With EN 0 none is applied (R689). -/
def Node.syncOp (n : Node) (op : Nat) (q : SyncReq) (checkTag : Bool) (src : Nat) : SyncRes :=
  let k := q.handle % 8192
  let gen := bits q.handle 16 16
  if !n.syncOn then ⟨if checkTag then n.bumpOf mismatchReg else n, 0x0100, false⟩
  else if syncCount n.dev ≤ k || 10 ≤ op then ⟨if checkTag then n.bumpOf mismatchReg else n, 0x0201, false⟩
  else if op = 0 then n.syncAlloc q src
  else
    let o := n.obj k
    if o.st ≠ 1 then ⟨n.bumpOf mismatchReg, 0x0201, false⟩
    else if checkTag && q.jobtag ≠ o.jobtag then
      if jobId q.jobtag = jobId o.jobtag && genOlder (jobGen q.jobtag) (jobGen o.jobtag) then ⟨n.bumpOf staleReg, 0x0103, false⟩
      else ⟨n.bumpOf mismatchReg, 0x0201, false⟩
    else if gen ≠ jobGen o.jobtag then
      if genOlder gen (jobGen o.jobtag) then ⟨n.bumpOf staleReg, 0x0103, false⟩ else ⟨n.bumpOf mismatchReg, 0x0201, false⟩
    else if op = 6 then
      ⟨n.setObj { o with st := 2, guardEnd := (n.now + 8000000) % 2 ^ 32, lastTime := n.now, lastSrc := src,
                         updates := (o.updates + 1) % 2 ^ 32 }, 0, true⟩
    else if op = 7 then ⟨n, 0, true⟩
    else if o.kind = 1 && gateOp op then ⟨n.gateApply k op q src, 0, true⟩
    else ⟨n.syncApply k op q src, 0, true⟩

/-- Answer with SYNC_STATE (R273, R284). -/
def Node.syncAnswer (n : Node) (k dest gid : Nat) : Node :=
  let o := n.obj k
  n.postTo o.jobtag dest 0 0x15 0x0011 (syncSrc n.dev)
    (syncPayload o.jobtag o.handle o.stateByte o.attempt gid o.epoch o.value)

/-- Apply the operation of a SYNC_UPDATE, and answer one with ACK_REQ (R273). -/
def Node.syncServe (n : Node) (op : Nat) (q : SyncReq) (origin : Nat) : Node :=
  let r := n.syncOp op q true origin
  if r.found && (q.ack || op == 7) then r.node.syncAnswer (q.handle % 8192) origin q.group else r.node

/-- A SYNC_UPDATE for this node (R258, R271, R273, R689). (DESIGN CHOICE: log 47.) -/
def Node.syncUpdate (n : Node) (op : Nat) (q : SyncReq) (origin : Nat) : Node :=
  if !n.syncOn then n.bumpOf mismatchReg else n.ofJob q.jobtag fun n => n.syncServe op q origin

/-- A SYNC_UPDATE whose DEST has BROADCAST (R273, R689): forwarded to the group's children and applied to this node's own mirror
gate of the epoch, if it has one; on a DDU applied to the handle that the record names. -/
def Node.syncBcast (n : Node) (op : Nat) (q : SyncReq) (origin : Nat) : Node :=
  match n.dev with
  | .ddu => n.syncUpdate op q origin
  | .abl =>
    if !n.syncOn then n.bumpOf mismatchReg
    else n.ofJob q.jobtag fun n =>
      let n := n.syncBroadcast q.jobtag q.group
        (syncPayload q.jobtag q.handle (op % 16 + 128 * b2n q.ack) q.attempt q.group q.epoch q.d)
      match n.groupOf q.jobtag q.group with
      | none => n
      | some g =>
        let l := n.fld Reg.ABL_GROUP g 128 32
        if l = 0 || n.fld Reg.ABL_GROUP g 192 20 = n.ident then n
        else n.syncServe op { q with handle := l + q.epoch % 2 } origin

/-! ## Local requesters -/

/-- Set a requester's STATUS (R288). (DESIGN CHOICE: log 20.) -/
def Node.syncStatus (n : Node) (r code : Nat) (busy : Bool) : Node :=
  match n.dev with
  | .abl => n.wr Reg.ABL_SYNC_STATUS r (code * 65536 + b2n busy)
  | .ddu => n.wr Reg.DDU_SYNC_STATUS 0 (code * 65536 + b2n busy)

/-- The identity that a local requester's operations leave in LAST_SRC. -/
def Node.self (n : Node) : Nat := n.ident

/-- The JobTag of a remote operation: the job of the handle's generation, in the group named. -/
def Node.tagOfHandle (n : Node) (op : Nat) (q : SyncReq) : Nat :=
  if op = 0 then q.d / 2 ^ 32 % 2 ^ 32
  else
    let gen := bits q.handle 16 16
    (n.heldJobs.find? fun t => jobGen t == gen && (q.group == 0 || (n.groupOf t q.group).isSome)).getD gen

/-- DDU_FENCE_STATUS.SYNC (R291): a SYNC_FENCE is in progress. -/
def Node.fenceView (n : Node) : Node := if n.dev == .ddu then n.setB Reg.DDU_FENCE_STATUS 0 1 !n.sync.fencing.isEmpty else n

/-- A requester's SYNC_FENCE has completed. -/
def Node.syncFenced (n : Node) (r : Nat) : Node :=
  { n with sync := { n.sync with fencing := n.sync.fencing.filter fun x => x != r } }.fenceView

/-- Start a SYNC_FENCE of a requester (R286, R287): a QUERY with ACK_REQ of the object last named at each home touched. (DESIGN CHOICE: log 47.) -/
def Node.syncFence (n : Node) (r : Nat) : Node :=
  let homes := n.sync.homes.filter fun h => h.who == r
  let n : Node := { n with sync := { n.sync with
    homes := n.sync.homes.filter fun h => h.who != r
    awaited := n.sync.awaited ++ (homes.map fun (h : SyncHome) => (r, h.node)).filter fun h => !n.sync.awaited.contains h
    fencing := if n.sync.fencing.contains r then n.sync.fencing else r :: n.sync.fencing } }.fenceView
  let n := homes.foldl (fun m (h : SyncHome) => m.postTo h.jobtag h.node 0 0x15 0x0010 (syncSrc m.dev)
    (syncPayload h.jobtag h.handle (7 + 128) 0 0 0 0)) n
  if n.sync.awaited.any fun h => h.1 == r then n.syncStatus r 0 true else (n.syncFenced r).syncStatus r 0 false

/-- A local requester's operation (R288, R289, R689). (DESIGN CHOICE: log 47.) -/
def Node.syncIssue (n : Node) (r op : Nat) (q : SyncReq) (dest : Nat) : Node :=
  if !n.syncOn then n.syncStatus r 0x0100 false
  else if n.dev == .ddu || dest % 2 ^ 32 = 0 then
    let x := n.syncOp op q false n.self
    x.node.syncStatus r x.status false
  else if 10 ≤ op then n.syncStatus r 0x0201 false
  else
    let tag := n.tagOfHandle op q
    let wait := q.ack || op == 7
    let body := syncPayload tag q.handle (op % 16 + 128 * b2n wait) q.attempt q.group q.epoch q.d
    if Machine.bit dest 31 then (n.syncBroadcast tag q.group body).syncStatus r 0 false
    else
      let home := (r, bits dest 0 20)
      let last : SyncHome := { who := r, node := home.2, jobtag := tag, handle := q.handle % 2 ^ 32 }
      let n := n.postTo tag (bits dest 0 20) 0 0x15 0x0010 (syncSrc n.dev) body
      let n : Node := { n with sync := { n.sync with
        homes := last :: n.sync.homes.filter fun h => !(h.who == r && h.node == home.2)
        awaited := if wait && !n.sync.awaited.contains home then home :: n.sync.awaited else n.sync.awaited } }
      n.syncStatus r 0 wait

/-- A SYNC_STATE answer (R273, R275, R280): it settles the mirror of the object that answers, and completes what waits
for that node. -/
def Node.syncStateRx (n : Node) (q : SyncReq) (origin : Nat) : Node :=
  let mine := (n.sync.objs.filter fun o => o.st == 1 && o.kind == 1 && o.jobtag == q.jobtag &&
    ((o.mirrorHandle == q.handle && o.mirrorNode == origin) ||
      (n.dev == .abl && (List.range 512).any fun g => n.bit Reg.ABL_GROUP g 255 && n.fld Reg.ABL_GROUP g 192 20 == origin &&
        n.fld Reg.ABL_GROUP g 128 32 + q.handle % 8192 == o.handle + n.fld Reg.ABL_GROUP g 160 32 % 8192))).map fun o => o.num
  let n := n.ofJob q.jobtag fun n => if n.syncOn then mine.foldl (fun m k => m.gateApply k 9 q origin) n else n
  let done := n.sync.awaited.filter fun h => h.2 == origin
  let n : Node := { n with sync := { n.sync with awaited := n.sync.awaited.filter fun h => h.2 != origin } }
  done.foldl (fun m h =>
    if m.sync.awaited.any fun x => x.1 == h.1 then m
    else (m.syncFenced h.1).syncStatus h.1 0 false) n

/-- An operation that firmware issues on a local object (R28): a write of core 0's ABL_SYNC_OP, with its EPOCH and DEST. (DESIGN CHOICE: log 123.) -/
def Node.fwSync (n : Node) (op : Nat) (q : SyncReq) : Node :=
  ((n.wr Reg.ABL_SYNC_EPOCH 0 q.epoch).wr Reg.ABL_SYNC_DEST 0 0).syncIssue 0 op q 0

/-- A GUARD object becomes FREE (R271). (DESIGN CHOICE: log 49.) -/
def Node.guardExpiry (n : Node) (k : Nat) : Node :=
  let o := n.obj k
  if o.st = 2 && dist32 o.guardEnd n.now ≤ 0 then n.setObj { num := k } else n

/-- RELEASE every ACTIVE object of a job; the number released (R262, R269). -/
def Node.releaseJob (n : Node) (t : Nat) : Node × Nat :=
  let mine := n.sync.objs.filter fun o => o.st == 1 && o.jobtag == t
  (mine.foldl (fun m o => (m.syncOp 6 { handle := o.handle } false m.self).node) n, mine.length)

end Sys2Proof.Machine
end

