-- ==== Sys2Proof/Machine/FanOps.lean ====
section
/-!
DEFINITION. Fan-out (R239 to R244): a message carried from a root to every member die, with answers coming back up.
-/

namespace Sys2Proof.Machine

/-- Apply an operation of the common part. -/
def Abl.on (a : Abl) (f : Node → Node) : Abl := { a with n := f a.n }

/-! ## The message -/

/-- A range list in order of its first members. -/
def sortRanges (l : List (Nat × Nat)) : List (Nat × Nat) :=
  l.foldl (fun acc r => acc.takeWhile (fun x => decide (x.1 ≤ r.1)) ++ r :: acc.dropWhile (fun x => decide (x.1 ≤ r.1))) []

/-- How many dies of `lo` to `hi` the ranges name (R240). -/
def membersIn (rs : List (Nat × Nat)) (lo hi : Nat) : Nat :=
  ((sortRanges rs).foldl (fun (acc : Nat × Nat) r =>
    let a := max (max r.1 lo) acc.2
    let b := min r.2 hi
    if a ≤ b then (acc.1 + (b + 1 - a), b + 1) else acc) (0, 0)).1

/-- The range that names a die (R240). -/
def rangeOf (rs : List (Nat × Nat)) (die : Nat) : Option Nat :=
  rs.findIdx? fun r => decide (r.1 ≤ die) && decide (die ≤ r.2)

/-- The payload of FANOUT (R239). (DESIGN CHOICE: log 43.) -/
def fanBytes (m : FanMsg) : List Nat :=
  le 4 m.jobtag ++ le 4 m.seq ++ le 2 m.kind ++ le 2 m.ranges.length ++ le 4 m.deadline ++ le 2 m.body.length ++ zeros 6 ++
    m.ranges.flatMap (fun r => le 4 r.1 ++ le 4 r.2) ++ m.body ++ zeros (align8 m.body.length - m.body.length)

/-- The message that a FANOUT payload spells. -/
def fanOfBytes (b : List Nat) : FanMsg :=
  let k := min 32 (leAt b 10 2)
  { jobtag := leAt b 0 4, seq := leAt b 4 4, kind := leAt b 8 2, deadline := leAt b 12 4,
    ranges := (List.range k).map fun i => (leAt b (24 + 8 * i) 4, leAt b (28 + 8 * i) 4),
    body := (b.drop (24 + 8 * k)).take (min 1024 (leAt b 16 2)) }

/-- Children of a node with members of a fan-out, and how many (R240). -/
def Abl.fanKids (a : Abl) (m : FanMsg) (cs : List Nat) : List FanChild :=
  (cs.filter a.n.childValid).filterMap fun c =>
    let k := membersIn m.ranges (a.n.childFirst c) (a.n.childLast c)
    if k = 0 then none else some { c := c, dies := k }

/-- The children that a node forwards a FANOUT to: its primary children.  Adopted ones are reached by FAN_RELAY alone, so that the dies of a subtree
are never counted twice (R240, R243). -/
def Abl.ownChildren (a : Abl) : List Nat := (List.range 16).filter a.n.childValid

/-- All dies that a fan-out names beneath this node. -/
def Abl.fanExpected (a : Abl) (m : FanMsg) : Nat := ((a.fanKids m a.ownChildren).map fun k => k.dies).sum

/-- The adoption entries that a relay forwards a fan-out to, whose PEER names the failed child (R243). -/
def Abl.relayKids (a : Abl) (failed : Nat) (m : FanMsg) : List FanChild :=
  a.fanKids m ((List.range 32).filter fun c => 16 ≤ c && a.n.childPeer c == failed)

/-! ## Answers -/

/-- The payload of FAN_ACK (R239). -/
def fanAckBytes (jobtag seq expected acked : Nat) (miss : List (Nat × Nat)) (trunc : Bool) : List Nat :=
  let kept := miss.take 8
  le 4 jobtag ++ le 4 seq ++ le 4 expected ++ le 4 acked ++ le 2 kept.length ++ le 2 (b2n trunc) ++ zeros 4 ++
    kept.flatMap fun m => le 4 m.1 ++ le 4 m.2

/-- A fan-out's final answer as a FAN_ACK payload. -/
def FanX.ack (x : FanX) : List Nat := fanAckBytes x.msg.jobtag x.msg.seq x.expected x.acked x.miss x.trunc

/-- Answer a fan-out's sender: the active parent on the lane of its pair that R246 gives, any other sender on the lane that it came from (R243). -/
def Abl.fanAnswer (a : Abl) (x : FanX) (code : Nat) (payload : List Nat) : Abl :=
  match x.root with
  | some _ => a
  | none => a.on fun n =>
      if x.sender = n.parentIdent then n.postAt (n.upLane n.ident 0) x.sender 0 0x14 code 640 payload
      else n.postAt x.port x.sender 0 0x14 code 640 payload x.slot

/-- FAN_PENDING (R242). -/
def Abl.fanPending (a : Abl) (x : FanX) : Abl := a.fanAnswer x 0x0011 (le 4 x.msg.jobtag ++ le 4 x.msg.seq)

/-- Send the final answer again or for the first time (R241, R243). -/
def Abl.fanFinal (a : Abl) (x : FanX) : Abl := a.fanAnswer x (if x.relay.isSome then 0x0014 else 0x0012) x.ack

/-- The root's result (R244), which the command that waits for it takes; missing subtrees are escalated (R478). (DESIGN CHOICE: log 43.) -/
def Abl.fanResult (a : Abl) (i : Nat) (payload : List Nat) (expected acked : Nat) : Abl :=
  a.on fun n =>
    let n := n.wr Reg.ABL_RED_FAN_RESULT i (leNat payload)
    let n := (n.wr Reg.ABL_RED_FAN_STAT i (2 * 2 ^ 62 + acked % 2 ^ 18 * 2 ^ 32 + expected % 2 ^ 18)).irq 25
    let n := n.done 0x0600 i stOk payload
    if acked < expected then n.escalate 640 7 (leAt payload 0 4) n.ident (expected - acked) else n

/-- A job entry that is STARTING becomes ACTIVE when the node sends its FAN_ACK (R264). -/
def Abl.jobActive (a : Abl) (t : Nat) : Abl :=
  match a.n.jobSlot t with
  | some j => if a.n.fld Reg.ABL_JOB j 125 3 = 1 then a.on fun n => n.setFld Reg.ABL_JOB j 125 3 2 else a
  | none => a

/-- Replace a fan-out in the node's list. -/
def Abl.putFan (a : Abl) (x : FanX) : Abl :=
  { a with fans := a.fans.map fun y =>
      if y.msg.jobtag == x.msg.jobtag && y.msg.seq == x.msg.seq && y.relay == x.relay && y.root == x.root then x else y }

/-- When every child is DONE or MISSING the node answers, or the root's result is written (R242, R244). -/
def Abl.fanSettle (a : Abl) (x : FanX) : Abl :=
  if x.done || x.children.any fun k => decide (k.st < 4) then a.putFan x
  else
    let x := { x with done := true }
    let a := a.putFan x
    let a := match x.root with
      | some i => { a.fanResult i x.ack x.expected x.acked with fans := a.fans.filter fun y => y.root != some i }
      | none => a.fanFinal x
    if x.msg.kind = 1 then a.jobActive x.msg.jobtag else a

/-- Send FANOUT to a child; the message keeps its originator. (DESIGN CHOICE: log 43.) -/
def Abl.fanSend (a : Abl) (m : FanMsg) (origin c : Nat) : Abl :=
  a.on fun n =>
    let (p, k) := n.childLane c 0
    n.write 0 0x14 0x0010 640 0 (fanBytes m) fun r n => n.queueAt p 0 { n.mkMsg (n.childNode c) 0 (.record r) with origin := origin } k

/-- Add a fan-out, forward it, and tell the sender that answers are pending (R242). (DESIGN CHOICE: log 43.) -/
def Abl.fanOpen (a : Abl) (x : FanX) : Abl :=
  let x := { x with expected := (x.children.map fun k => k.dies).sum }
  let a : Abl := { a with fans := a.fans ++ [x] }
  let a := x.children.foldl (fun b k => b.fanSend x.msg x.origin k.c) a
  let a := if x.children.isEmpty then a else a.fanPending x
  a.fanSettle x

/-- A MISS entry for a child with all its expected dies. -/
def FanX.missing (x : FanX) (ident dies : Nat) : FanX :=
  if x.miss.length < 8 then { x with miss := x.miss ++ [(ident, dies)] } else { x with trunc := true }

/-- Set the state of one child. -/
def FanX.setChild (x : FanX) (c st : Nat) : FanX :=
  { x with children := x.children.map fun k => if k.c = c then { k with st := st } else k }

/-- A child becomes MISSING. -/
def Abl.fanMiss (a : Abl) (x : FanX) (k : FanChild) : FanX := (x.setChild k.c 5).missing (a.n.childNode k.c) k.dies

/-- Open fan-outs of a pair (R241). -/
def Abl.fansOf (a : Abl) (jobtag seq : Nat) : List FanX := a.fans.filter fun x => x.msg.jobtag == jobtag && x.msg.seq == seq

/-- A refused FANOUT (R244): the answer names this node, or for a relay the failed child (R239), as missing for all its expected dies.  The pair
and its answer are kept as those of any fan-out (R241). (DESIGN CHOICE: log 43.) -/
def Abl.fanRefuse (a : Abl) (x : FanX) : Abl :=
  let e := match x.relay with | some r => ((a.relayKids r.1 x.msg).map fun k => k.dies).sum | none => a.fanExpected x.msg
  let who := match x.relay with | some r => r.1 | none => a.n.ident
  let x : FanX := { x with expected := e, miss := [(who, e)], done := true }
  let a := a.on fun n => n.bump Reg.ABL_RED_FAN_REFUSED
  match x.root with
  | some i => a.fanResult i x.ack e 0
  | none => ({ a with fans := a.fans ++ [x] } : Abl).fanFinal x

/-- A message of a JobTag that the sentinel acts on, unless the JobTag is stale or unknown (R258). -/
def Abl.ofJob (a : Abl) (jobtag : Nat) (f : Abl → Abl) : Abl :=
  match a.n.jobCheck jobtag with
  | 0 => f a
  | 1 => a.on fun n => n.bumpOf staleReg
  | _ => a.on fun n => n.bumpOf unknownReg

/-- A securing record of a JobTag (R258).  A holder of shares need not hold their job: SHARE_DATA and SECURE_COMMIT reach it too
(R431, R438). -/
def Abl.secOfJob (a : Abl) (code t : Nat) (f : Abl → Abl) : Abl :=
  if (code = 3 || code = 7) && a.n.jobCheck t = 2 then f a else a.ofJob t f

/-- A FANOUT reaches a node (R241, R242, R244): `local` is what its KIND does here, and whether it is refused. -/
def Abl.fanArrive (a : Abl) (x : FanX) (local_ : Abl → Abl × Bool) : Abl :=
  match (a.fansOf x.msg.jobtag x.msg.seq).find? fun y => y.relay == none && y.root == none with
  | some y => if y.done then a.fanFinal { y with port := x.port, slot := x.slot, sender := x.sender }
      else a.fanPending { y with port := x.port, slot := x.slot, sender := x.sender }
  | none =>
    if 64 ≤ (a.fans.filter fun y => !y.done).length then a.fanRefuse x
    else
      let (b, ok) := local_ a
      if ok then b.fanOpen { x with children := b.fanKids x.msg b.ownChildren } else a.fanRefuse x

/-- FAN_ACK and FAN_RELAY_ACK settle a child (R242, R243). -/
def Abl.fanAckRx (a : Abl) (relay : Bool) (origin jobtag seq acked : Nat) (miss : List (Nat × Nat)) (trunc : Bool) : Abl :=
  a.ofJob jobtag fun a => (a.fansOf jobtag seq).foldl (fun b x =>
    let hit (k : FanChild) : Bool := decide (k.st < 4) &&
      (if relay then k.st == 3 && b.n.childPeer k.c == origin else b.n.childNode k.c == origin)
    match if x.done then none else x.children.find? hit with
    | none => b
    | some k =>
      let x := { x.setChild k.c 4 with acked := x.acked + acked, trunc := x.trunc || trunc }
      b.fanSettle (miss.foldl (fun y e => y.missing e.1 e.2) x)) a

/-- FAN_PENDING from a child, or from the relay of one (R242). -/
def Abl.fanPendingRx (a : Abl) (origin jobtag seq : Nat) : Abl :=
  a.ofJob jobtag fun a => (a.fansOf jobtag seq).foldl (fun b x =>
    b.putFan { x with children := x.children.map fun k =>
      if b.n.childNode k.c == origin && decide (k.st < 3) then { k with st := 1 } else k }) a

/-- ACK_US passes with no answer from a child (R242, R243). -/
def Abl.fanTimeout (a : Abl) (jobtag seq c : Nat) : Abl :=
  (a.fansOf jobtag seq).foldl (fun b x =>
    match if x.done then none else x.children.find? fun k => k.c == c && decide (k.st < 4) with
    | none => b
    | some k =>
      if k.st < 2 then (b.fanSend x.msg x.origin c).putFan (x.setChild c 2)
      else if k.st = 2 && x.relay.isNone && b.n.role ≠ 1 then
        let b := b.on fun n => n.postTo 0 (n.childPeer c) 0 0x14 0x0013 640 (le 4 (n.childNode c) ++ le 4 n.ident ++ fanBytes x.msg)
        b.putFan (x.setChild c 3)
      else b.fanSettle (b.fanMiss x k)) a

/-- DEADLINE_NS is reached (R242). -/
def Abl.fanDeadline (a : Abl) (jobtag seq : Nat) : Abl :=
  (a.fansOf jobtag seq).foldl (fun b x =>
    if x.done || 0 < dist32 x.msg.deadline b.n.now then b
    else b.fanSettle ((x.children.filter fun k => decide (k.st < 4)).foldl (fun y k => b.fanMiss y k) x)) a

/-- FAN_RELAY at the relay (R243): to each adoption entry whose PEER is the failed child. -/
def Abl.fanRelay (a : Abl) (failed requester port slot sender origin : Nat) (m : FanMsg) (local_ : Abl → Abl × Bool) : Abl :=
  let x : FanX := { msg := m, origin := origin, relay := some (failed, requester), port := port, slot := slot, sender := sender }
  match (a.fansOf m.jobtag m.seq).find? fun y => y.relay == some (failed, requester) with
  | some y => if y.done then a.fanFinal y else a.fanPending y
  | none =>
    if 64 ≤ (a.fans.filter fun y => !y.done).length then a.fanRefuse x
    else
      let (b, ok) := local_ a
      if ok then b.fanOpen { x with children := b.relayKids failed m }
      else a.fanRefuse x

end Sys2Proof.Machine
end

