-- ==== Sys2Proof/Machine/SumOps.lean ====
section
/-!
DEFINITION. The die's summary generator (R212 to R218).
-/

namespace Sys2Proof.Machine

/-- The value that an entry's source holds now, for a delta or as it is (R214). -/
def Ddu.sumSource (d : Ddu) (v : Nat) : Nat :=
  let src := bits v 0 12
  match bits v 60 3 with
  | 0 => d.n.cntWide src
  | 2 => d.rd Reg.DDU_CLASS_TOTAL (src % 8)
  | _ => 0

/-- Put the valid entries in effect, with the values at this window's start (R217). -/
def Ddu.sumLatch (d : Ddu) : Ddu :=
  let act := (List.range 240).filterMap fun e =>
    let v := d.rd Reg.DDU_SUM_ENT e
    if bit v 63 then some (e, v, d.sumSource v) else none
  { d with sum := { act := act } }

/-- A write of entry `e` while EN is 0 takes effect at once, for that entry (R217). -/
def Ddu.sumEnter (d : Ddu) (e : Nat) : Ddu :=
  let v := d.rd Reg.DDU_SUM_ENT e
  let l := d.sum.act.filter fun x => x.1 != e
  let mine := if bit v 63 then [(e, v, d.sumSource v)] else []
  { d with sum := { d.sum with act := l.takeWhile (fun x => decide (x.1 < e)) ++ mine ++ l.dropWhile fun x => decide (x.1 < e) } }

/-- One value of DIE_SUMMARY with its VFLAGS (R214, R218): 0 with STALE where KIND 2 or 6 names no class or window. (DESIGN CHOICE: log 111.) -/
def Ddu.sumValue (d : Ddu) (v start : Nat) : Int × Nat :=
  let src := bits v 0 12
  let kind := bits v 60 3
  let i64 (x : Nat) : Int := toInt 64 x
  let sensor (f : Int) : Int × Nat :=
    let st := d.rd Reg.DDU_SNS_STATE src
    (f, 2 * b2n (bit st 31 || bit st 30) + 4 * b2n (bit st 29))
  let latest := sensVal src (d.n.fld Reg.DDU_SNS_VALUE src 0 16)
  if kind = 0 then (if d.n.withheld src then (0, 1) else (i64 (d.n.snapDelta src start false), 0))
  else if kind = 1 then (if d.n.withheld src then (0, 1) else (i64 (d.n.cntWide src % 2 ^ 64), 0))
  else if kind = 2 then (if 7 < src then (0, 2) else (i64 ((d.rd Reg.DDU_CLASS_TOTAL src + 2 ^ 64 - start % 2 ^ 64) % 2 ^ 64), 0))
  else if kind = 6 then (if 31 < src then (0, 2) else (i64 (d.n.rd Reg.DDU_BW_LAST src % 2 ^ 48), 0))
  else if kind = 7 || 151 < src then (0, 2)
  else if kind = 3 then sensor (sensVal src (d.n.fld Reg.DDU_SNS_VALUE src 16 16))
  else if kind = 4 then sensor ((d.sum.smax.find? fun p => p.1 == src).map (fun p => p.2) |>.getD latest)
  else sensor ((d.sum.smin.find? fun p => p.1 == src).map (fun p => p.2) |>.getD latest)

/-- A summary window closes (R212, R213, R218). -/
def Ddu.sumClose (d : Ddu) : Ddu :=
  let period := d.n.fld Reg.DDU_SUM_CTRL 0 0 20
  if period = 0 then d
  else if !d.n.bit Reg.DDU_SUM_CTRL 0 31 then (d.bump Reg.DDU_SUM_SKIPPED).sumLatch
  else
    let t := d.rd Reg.DDU_JOB_TAG
    let w := d.n.tideline / (period * 100000) - 1
    let vals := d.sum.act.map fun (_, v, s) => (v, d.sumValue v s)
    let payload := le 4 t ++ le 4 w ++ le 4 vals.length ++ zeros 4 ++ vals.flatMap fun (v, x) =>
      le 2 (bits v 48 12) ++ le 2 x.2 ++ zeros 4 ++ le 8 (ofInt 64 x.1)
    let d := d.on fun n => n.postUp t 2 0x14 0x0001 496 payload
    (d.wr Reg.DDU_SUM_SENT 0 ((d.rd Reg.DDU_SUM_SENT + 1) % 65536)).sumLatch

/-- Note a sample for the window's extremes (R214). -/
def Ddu.sumNote (d : Ddu) (c : Nat) : Ddu :=
  let x := sensVal c (d.n.fld Reg.DDU_SNS_VALUE c 0 16)
  let get (l : List (Nat × Int)) : Int := (l.find? fun p => p.1 == c).map (fun p => p.2) |>.getD x
  { d with sum := { d.sum with smax := (c, max x (get d.sum.smax)) :: d.sum.smax.filter fun p => p.1 != c
                               smin := (c, min x (get d.sum.smin)) :: d.sum.smin.filter fun p => p.1 != c } }

end Sys2Proof.Machine
end

