-- ==== Sys2Proof/Machine/LrbOps.lean ====
section
/-!
DEFINITION. The DDU's Feature Front End and Local Rule Bank (R328 to R332).
-/

namespace Sys2Proof.Machine

/-- The value that a delta is taken of. (DESIGN CHOICE: log 52.) -/
def Ddu.ffeRaw (d : Ddu) (kind src : Nat) : Nat :=
  if kind = 0 then d.n.cntWide src else d.rd Reg.DDU_CLASS_TOTAL (src % 8)

/-- The value of feature `f` over the interval (R328), or none when it is missing (R329). -/
def Ddu.ffeValue (d : Ddu) (f : Nat) : Option Int :=
  let cfg := d.n.rd Reg.DDU_FFE_FEAT f % 2 ^ 32
  let kind := bits cfg 28 3
  let src := bits cfg 0 12
  let st := d.rd Reg.DDU_SNS_STATE src
  let prev := lookupD d.lrb.prev f 0
  let latest := sensVal src (d.n.fld Reg.DDU_SNS_VALUE src 0 16)
  let pick (l : List (Nat × Int)) : Option Int := some ((l.find? fun p => p.1 == src).map (fun p => p.2) |>.getD latest)
  if !bit cfg 31 || kind = 7 then none
  else if kind ≤ 2 || kind = 6 then
    if !d.n.bankRuns || (kind != 1 && kind != 6 && !d.lrb.seen) then none
    else match kind with
      | 0 =>
        let m := if d.n.chained src then 2 ^ 96 else 2 ^ 48
        some (toInt 64 ((d.ffeRaw 0 src + m - prev % m) % m))
      | 1 => some (toInt 64 (d.n.cntWide src))
      | 2 => if 7 < src then none else some (toInt 64 ((d.ffeRaw 2 src + 2 ^ 64 - prev % 2 ^ 64) % 2 ^ 64))
      | _ => if 31 < src then none else some (d.n.rd Reg.DDU_BW_LAST src % 2 ^ 48 : Nat)
  else if 151 < src || bit st 31 || bit st 30 then none
  else match kind with
    | 3 => some (sensVal src (d.n.fld Reg.DDU_SNS_VALUE src 16 16))
    | 4 => if d.lrb.seen then pick d.lrb.smax else none
    | _ => if d.lrb.seen then pick d.lrb.smin else none

/-- The bin of a feature (R328); none when it is missing. (DESIGN CHOICE: log 52.) -/
def Ddu.ffeBin (d : Ddu) (f : Nat) : Option Nat :=
  (d.ffeValue f).map fun v =>
    let w := d.n.rd Reg.DDU_FFE_FEAT f
    ((List.range (bits w 24 4)).filter fun k => decide (toInt 32 (bits w (32 + 32 * k) 32) ≤ v)).length

/-- The key (R330). -/
def Ddu.lrbKey (d : Ddu) : Nat :=
  let bins := (List.range 32).map d.ffeBin
  ((List.range 64).map fun i =>
    let m := d.rd Reg.DDU_FFE_MAP i
    let f := bits m 8 5
    let k := bits m 0 4
    let b := match bits m 30 2, bins.getD f none with
      | 1, some x => decide (k < x) && decide (k < d.n.fld Reg.DDU_FFE_FEAT f 24 4)
      | 2, none => true
      | _, _ => false
    b2n b * 2 ^ i).sum

/-- Show the floors (R333). -/
def Ddu.floorView (d : Ddu) : Ddu := d.wr Reg.DDU_LRB_FLOOR 0 ((d.lrb.floors.map fun f => f.2.1 * 2 ^ (4 * f.1)).sum)

/-- A THROTTLE action (R332). (DESIGN CHOICE: log 52.) -/
def Ddu.lrbFloor (d : Ddu) (c level holdMs : Nat) : Ddu :=
  if holdMs = 0 then d
  else
    let now := d.n.local
    let live := d.lrb.floors.find? fun f => f.1 == c && decide (now < f.2.2)
    let new := match live with
      | some f => (c, max f.2.1 level, max f.2.2 (now + holdMs * 1000000))
      | none => (c, level, now + holdMs * 1000000)
    { d with lrb := { d.lrb with floors := new :: d.lrb.floors.filter fun f => f.1 != c } }.floorView

/-- A floor's hold expires (R332). -/
def Ddu.floorExpiry (d : Ddu) (c : Nat) : Ddu :=
  { d with lrb := { d.lrb with floors := d.lrb.floors.filter fun f => f.1 != c || decide (d.n.local < f.2.2) } }.floorView

/-- Whether the Local Rule Bank evaluates (R331). -/
def Ddu.lrbOn (d : Ddu) : Bool := d.n.bit Reg.DDU_LRB_CTRL 0 31 && !d.n.bit Reg.DDU_SUBRESET 0 5

/-- The rows of the Local Rule Bank that a key matches (R331). -/
def Ddu.lrbHits (d : Ddu) (key : Nat) (e : Nat) : Bool :=
  d.n.bit Reg.DDU_LRB_ACT e 63 && ((d.rd Reg.DDU_LRB_KEY e ^^^ key) &&& d.rd Reg.DDU_LRB_MASK e) == 0

/-- The first row that a key matches (R331). -/
def Ddu.lrbFirst (d : Ddu) (key : Nat) : Option Nat := (List.range 2048).find? (d.lrbHits key)

/-- The action of row `e` on a match of `key` (R332). -/
def Ddu.lrbAct (d : Ddu) (key e : Nat) : Ddu :=
  let act := d.rd Reg.DDU_LRB_ACT e
  let d := (d.bump Reg.DDU_LRB_HITS).wr Reg.DDU_LRB_STATUS 0 e
  let t := d.rd Reg.DDU_JOB_TAG
  let body := le 2 e ++ [bits act 59 4, 0] ++ le 4 t ++ le 8 key
  let d := if bit act 62 then d.on fun n => n.emit t 1 0x16 0x0010 502 body
    else if bit act 59 then d.on fun n => n.emit t 2 0x16 0x0010 502 body else d
  let d := if bit act 60 then d.lrbFloor (bits act 25 3) (bits act 21 4) (bits act 32 10) else d
  if bit act 61 then d.on fun n => n.fault (bits act 0 9) 0 0 t e else d

/-- The features' values and extremes at the end of an evaluation, kept for the next one (R329). -/
def Ddu.lrbKeep (d : Ddu) : Ddu :=
  let kept := (List.range 32).map fun f =>
    let cfg := d.n.rd Reg.DDU_FFE_FEAT f % 2 ^ 32
    (f, if bits cfg 28 3 = 0 || bits cfg 28 3 = 2 then d.ffeRaw (bits cfg 28 3) (bits cfg 0 12) else 0)
  { d with lrb := { d.lrb with seen := true, prev := kept, smax := [], smin := [] } }

/-- One evaluation (R331, R332): the first row that the key matches acts. (DESIGN CHOICE: log 52.) -/
def Ddu.lrbEvaluate (d : Ddu) : Ddu :=
  if !d.lrbOn then d
  else
    let key := d.lrbKey
    let d := ((d.bump Reg.DDU_LRB_EVALS).wr Reg.DDU_LRB_LASTKEY 0 key).lrbKeep
    match d.lrbFirst key with
    | none => d.on fun n => n.setB Reg.DDU_LRB_STATUS 0 31 true
    | some e => d.lrbAct key e

/-- An evaluation at the period's end, or at a crossing of R107 (R331): of the two in one tick only the first evaluates. -/
def Ddu.lrbDue (d : Ddu) (period : Bool) : Ddu :=
  let t := d.n.timex.elapsed
  if d.lrb.at_ = some (t, !period) || (period && d.n.fld Reg.DDU_LRB_CTRL 0 0 16 = 0) then d
  else
    let d := d.lrbEvaluate
    { d with lrb := { d.lrb with at_ := some (t, period) } }

/-- Note a sample for the interval's extremes (R328). -/
def Ddu.lrbNote (d : Ddu) (c : Nat) : Ddu :=
  let x := sensVal c (d.n.fld Reg.DDU_SNS_VALUE c 0 16)
  let get (l : List (Nat × Int)) : Int := (l.find? fun p => p.1 == c).map (fun p => p.2) |>.getD x
  { d with lrb := { d.lrb with smax := (c, max x (get d.lrb.smax)) :: d.lrb.smax.filter fun p => p.1 != c
                               smin := (c, min x (get d.lrb.smin)) :: d.lrb.smin.filter fun p => p.1 != c } }

/-- A sensor sample with all that it feeds (R106, R107, R214, R328, R331): a threshold crossing evaluates the Local Rule
Bank. -/
def Ddu.sensStep (d : Ddu) (c raw clamp free : Nat) : Ddu :=
  let before := d.rd Reg.DDU_SNS_EVENTS c
  let d := ((d.sensSample c raw clamp free).sumNote c).lrbNote c
  if d.rd Reg.DDU_SNS_EVENTS c = before then d else d.lrbDue false

/-- The FFE_LRB sub-block reset (R332): floors, previous values and the evaluation state go, entries stay. -/
def Ddu.lrbReset (d : Ddu) : Ddu := { d with lrb := {} }.floorView

end Sys2Proof.Machine
end

