-- ==== Sys2Proof/Machine/PwrOps.lean ====
section
/-!
DEFINITION. The DDU's power controller (R542 to R563): its three states, the phase table, the loops, and rails whose meter and
estimate disagree.
-/

namespace Sys2Proof.Machine

/-! ## The three states -/

/-- Whether the DDU's always-on domain is up (R75, R77). -/
def Ddu.live (d : Ddu) : Bool := d.bnd.aonPgood && !d.bnd.resetN

/-- Whether the DDU's always-on outputs are live rather than clamped (R75, R78). -/
def Ddu.alive (d : Ddu) : Bool := d.live && d.n.bit Reg.DDU_STATUS 0 3

/-- The state of R542: 0 Slack, 1 Ebb, 2 Flood, with POWER_STATE (R565). -/
def Ddu.setPwr (d : Ddu) (st cause : Nat) : Ddu :=
  let old := d.pwr
  if old = st then d
  else
    let ms := min (2 ^ 32 - 1) ((d.n.local - d.pw.since) / 1000000)
    let d : Ddu := { d with pw := { d.pw with since := d.n.local } }
    let d := d.on fun n => (n.setFld Reg.DDU_PWR_STATE 0 0 3 st).emit 0 2 0x1C 0x0001 501 ([old, st, cause, 0] ++ le 4 ms)
    if old = 0 || st = 0 then d else d.trcMarker (if st = 2 then 1 else 2)

/-- The fast domain stops (R48). -/
def Ddu.fastStop (d : Ddu) : Ddu :=
  d.on fun n => (n.setFld Reg.DDU_STATUS 0 1 2 0).setB Reg.DDU_STATUS 0 5 true

/-- The DDU enters Slack (R543): RESET_NOTICE with CAUSE 0 on a lane that is UP, then electrical idle, this end's own forced idle (R197). -/
def Ddu.toSlack (d : Ddu) (cause : Nat) : Ddu :=
  if d.pwr = 0 then d
  else
    let d := (d.dbgEnd.trcPark.setPwr 0 cause).fastStop
    let d := d.on fun n =>
      let n := n.timeSlack
      let l := n.lane 0 0
      let n := if l.st = lsUp then n.leaveUp 0 0 lsDetect 0x0001 0 (some 0)
        else if l.st = lsTrain || l.st = lsBackoff then n.modLane 0 0 fun l => { l with st := lsDetect, wire := [] } else n
      n.modLane 0 0 fun l => { l with restarted := true }
    { d with pw := { d.pw with capNext := none } }

/-- The DDU leaves Slack, while CORE_PGOOD is high (R543): a cap of 0 until the first new one (R548). -/
def Ddu.leaveSlack (d : Ddu) (cause : Nat) : Ddu :=
  if d.pwr ≠ 0 || !d.bnd.corePgood then d
  else
    let d := d.setPwr (if d.bnd.hostActive then 2 else 1) cause
    let d : Ddu := { d.wr Reg.DDU_PWR_CAP 0 0 with pw := { d.pw with capAt := d.n.local, woke := d.n.local } }
    (d.fastStart).on Node.timeWake

/-- A report, marker or HOST_ACTIVE arrives: it ends Slack and starts the fast domain (R47, R543). -/
def Ddu.arouse (d : Ddu) (cause : Nat) : Ddu := (d.leaveSlack cause).fastStart

/-- The fast domain is ready (R47): its clamps go, and the pre-accumulators are folded in time of their own (R51). (DEDUCED: log 21.) -/
def Ddu.fastReady (d : Ddu) : Ddu :=
  if d.n.bit Reg.DDU_STATUS 0 1 then
    d.on fun n => (n.setFld Reg.DDU_STATUS 0 1 2 2).setB Reg.DDU_STATUS 0 5 false
  else d

/-- Whether the fast domain is up. -/
def Ddu.fastUp (d : Ddu) : Bool := d.n.bit Reg.DDU_STATUS 0 2

/-- An access that needs the fast domain starts it and goes on once it is up (R47, R75). (DEDUCED: log 120.) -/
def Ddu.fastAccess (d : Ddu) : Ddu := d.fastStart.fastReady

/-- Whether nothing keeps the fast domain running (R48). -/
def Ddu.fastIdle (d : Ddu) : Bool :=
  !d.bnd.hostActive && decide (d.bnd.lowAt + d.n.fld Reg.DDU_CTRL 0 0 16 * 1000 ≤ d.n.local) && d.bnd.chkFifo.isEmpty &&
    d.n.rd Reg.DDU_SNOOP_PEND == 0 && !d.tracing && d.n.mb.posted.isEmpty && d.n.mb.rev.isNone && !d.n.bit Reg.DDU_CTRL 0 16

/-- HOST_ACTIVE rises (R47, R542). -/
def Ddu.hostRise (d : Ddu) : Ddu :=
  let d : Ddu := { d with bnd := { d.bnd with hostActive := true } }
  if d.pwr = 0 then d.leaveSlack 5 else (d.setPwr 2 5).fastStart

/-- HOST_ACTIVE has been low for 10 µs (R542). -/
def Ddu.hostFall (d : Ddu) : Ddu :=
  let d : Ddu := { d with bnd := { d.bnd with hostActive := false, lowAt := d.n.local - 10000 } }
  if d.pwr = 2 then d.setPwr 1 5 else d

/-- FAST_IDLE_US has passed (R48). -/
def Ddu.fastIdleExpiry (d : Ddu) : Ddu :=
  if d.fastIdle && d.fastUp then d.fastStop else d

/-- A FAST_IDLE_US of 0 adds no wait (R48): the fast domain stops as soon as the other conditions hold. -/
def Ddu.fastRest (d : Ddu) : Ddu := if d.n.fld Reg.DDU_CTRL 0 0 16 = 0 then d.fastIdleExpiry else d

/-! ## Droop and the regulator -/

/-- A droop comparator passes its threshold (R61, R559). (DESIGN CHOICE: log 23.) -/
def Ddu.droopDetect (d : Ddu) : Ddu :=
  { d with pw := { d.pw with stretches := d.pw.stretches + 1, held := d.pw.held + 1,
                             stretchAt := if d.bnd.clkStretch then d.pw.stretchAt else d.n.local },
           bnd := { d.bnd with clkStretch := true } }

/-- HOLD_TICKS after the last droop (R559): the time counts under DROOP (R561). -/
def Ddu.stretchEnd (d : Ddu) : Ddu :=
  if d.bnd.clkStretch then
    { d with pw := { d.pw with strTicks := d.pw.strTicks + (d.n.local - d.pw.stretchAt) / 20 }, bnd := { d.bnd with clkStretch := false } }
  else d

/-- A setpoint is requested (R62): only a new value, and one at a time. (DESIGN CHOICE: log 23.) -/
def Ddu.regRequest (d : Ddu) : Ddu :=
  let v := d.n.fld Reg.DDU_PWR_VSET 0 0 16
  if v = 0 || v = d.bnd.regSet || d.bnd.regReq.isSome || (d.n.chan 1000 255).st ≠ 0 || d.n.bit Reg.DDU_SUBRESET 0 4 then d
  else { d with bnd := { d.bnd with regReq := some v } }

/-- REG_ACK (R62). -/
def Ddu.regAck (d : Ddu) : Ddu :=
  match d.bnd.regReq with
  | some v => ({ d with bnd := { d.bnd with regReq := none, regSet := v } }.on fun n => n.chanOk 1000 255).regRequest
  | none => d

/-- A request has waited 1 ms (R62): withdrawn, and one failure of the regulator path. -/
def Ddu.regTimeout (d : Ddu) : Ddu :=
  match d.bnd.regReq with
  | some _ => { d with bnd := { d.bnd with regReq := none } }.on fun n => n.chanFail 1000 255
  | none => d

/-! ## The phase table -/

/-- The entry in use. -/
def Ddu.phaseNow (d : Ddu) : Option Nat := if d.n.bit Reg.DDU_PWR_PHASE 0 15 then some (d.n.fld Reg.DDU_PWR_PHASE 0 0 6) else none

/-- An entry. -/
def PwrX.phase (p : PwrX) (e : Nat) : Option PhaseEnt := p.phases.find? fun x => x.e == e
def PwrX.putPhase (p : PwrX) (x : PhaseEnt) : PwrX := { p with phases := x :: p.phases.filter fun y => y.e != x.e }

/-- KEY_MODE as it acts now (R551): true for markers. -/
def Ddu.byMarker (d : Ddu) : Bool :=
  match d.n.fld Reg.DDU_PWR_CTRL 0 29 2 with
  | 0 => true
  | 1 => false
  | _ => match d.pw.markAt with
    | some t => decide (d.n.local ≤ t + d.n.fld Reg.DDU_PWR_CTRL 0 8 8 * 1000000)
    | none => false

/-- A phase marker (R551, R553): entry p is selected from the next window; one of another job starts anew. -/
def Ddu.phaseMarker (d : Ddu) (p : Nat) : Ddu :=
  let now := d.n.local
  let d : Ddu := { d with pw := { d.pw with markAt := some now } }
  if d.n.fld Reg.DDU_PWR_CTRL 0 29 2 = 1 then d
  else
    let job := jobIdOf (d.rd Reg.DDU_JOB_TAG)
    let x := match d.pw.phase p with
      | some x => if x.source = 0 && x.job = job then x else { e := p, source := 0, phase := p, job := job }
      | none => { e := p, source := 0, phase := p, job := job }
    { d with pw := { (d.pw.putPhase { x with markAt := some now, usedAt := now }) with select := some (some p) } }
where
  /-- JOB_ID of a JobTag (R257). -/
  jobIdOf (t : Nat) : Nat := bits t 16 16

/-- L1 distance of two signatures (R551). -/
def sigDist (a b : List Nat) : Nat := ((a.zip b).map fun (p : Nat × Nat) => (p.1 - p.2) + (p.2 - p.1)).sum

/-- Every 1 ms: form a signature from the duties in sixteenths and select an entry (R551). (DESIGN CHOICE: log 75.) -/
def Ddu.phaseTick (d : Ddu) (duty : List Nat) : Ddu :=
  if d.byMarker || d.pwr = 0 then d
  else
    let now := d.n.local
    let sig := (List.range 8).map fun c => min 15 (duty.getD c 0)
    let sigs := d.pw.phases.filter fun x => x.source == 1
    let best := (List.range 64).foldl (fun (b : Option (Nat × Nat)) e =>
      match sigs.find? fun x => x.e == e with
      | none => b
      | some x =>
        let k := sigDist x.sig sig
        if 8 < k then b else match b with | some y => if k < y.2 then some (e, k) else b | none => some (e, k)) none
    let use (d : Ddu) (x : PhaseEnt) : Ddu := { d with pw := { (d.pw.putPhase { x with usedAt := now }) with select := some (some x.e) } }
    match best with
    | some (e, _) => match d.pw.phase e with | some x => use d x | none => d
    | none =>
      let fresh : Option Nat := match (List.range 64).find? fun e => (d.pw.phase e).isNone with
        | some e => some e
        | none =>
          let safe := sigs.filter fun x => match x.markAt with | some t => decide (t + 10000000000 < now) | none => true
          (safe.foldl (fun (b : Option PhaseEnt) x => match b with | some y => if x.usedAt < y.usedAt then some x else b | none => some x) none).map
            fun x => x.e
      match fresh with
      | some e => use d { e := e, source := 1, sig := sig }
      | none => { d with pw := { d.pw with select := some none } }

/-- The bytes of the entry at an index (R552). -/
def PwrX.phaseBytes (p : PwrX) (e : Nat) : List Nat :=
  match p.phase e with
  | none => zeros 64
  | some x =>
    [1 + 2 * x.source, x.phase] ++ le 2 x.samples ++ le 4 ((x.sig.zipIdx.map fun (v : Nat × Nat) => v.1 % 16 * 16 ^ v.2).sum) ++ x.share ++
      le 2 x.demand ++ le 2 x.avg ++ le 4 x.ltime ++ x.classW.flatMap (le 2) ++ le 4 x.job ++ zeros 20

/-- The die scrub invalidates the marker entries (R553). -/
def Ddu.phaseScrub (d : Ddu) : Ddu :=
  let d : Ddu := { d with pw := { d.pw with phases := d.pw.phases.filter fun x => x.source == 1 } }
  match d.phaseNow with
  | some e => if (d.pw.phase e).isNone then d.wr Reg.DDU_PWR_PHASE 0 0 else d
  | none => d

/-! ## Power and rails -/

/-- The cap in force (R548). -/
def Ddu.capW (d : Ddu) : Nat :=
  let c := d.n.fld Reg.DDU_PWR_CAP 0 0 16
  let c := match d.pattern with
    | some x => min c (Config.campaignCap x.1 x.2)
    | none => c
  if d.n.bit Reg.DDU_PWR_STATE 0 8 then min c (d.n.fld Reg.DDU_PWR_SAFE 0 0 16) else c

/-- Whether a sensor channel is STALE or RETIRED (R108). -/
def Ddu.chanDead (d : Ddu) (c : Nat) : Bool := d.n.bit Reg.DDU_SNS_STATE c 31 || d.n.bit Reg.DDU_SNS_STATE c 30

/-- The latest sample of an unsigned channel. -/
def Ddu.latest (d : Ddu) (c : Nat) : Nat := d.n.fld Reg.DDU_SNS_VALUE c 0 16

/-- Fields of a rail (R567). -/
def Ddu.railOn (d : Ddu) (r : Nat) : Bool := d.n.bit Reg.DDU_PWR_RAIL r 63
def Ddu.railVch (d : Ddu) (r : Nat) : Nat := d.n.fld Reg.DDU_PWR_RAIL r 56 7
def Ddu.coef (d : Ddu) (r c : Nat) : Nat := d.n.fld Reg.DDU_PWR_COEF r (16 * c) 16

/-- Measured power of a rail in mW (R555): 0.125 mV times 25 mA. -/
def Ddu.railM (d : Ddu) (r : Nat) : Nat := d.latest (d.railVch r) * d.latest (128 + r) / 320

/-- Estimated power of a rail in mW (R555). -/
def Ddu.railE (d : Ddu) (r : Nat) (delta : List Nat) : Nat :=
  d.n.fld Reg.DDU_PWR_RAIL r 24 16 + ((List.range 8).map fun c => delta.getD c 0 * d.coef r c).sum / 1600

/-- The valid rails. -/
def Ddu.rails (d : Ddu) : List Nat := (List.range 24).filter d.railOn

/-- State of a rail (R562). -/
def Ddu.railState (d : Ddu) (r : Nat) : Nat := d.n.fld Reg.DDU_PWR_RSTATE r 29 3

/-- Whether both channels of a rail are in service. -/
def Ddu.railLive (d : Ddu) (r : Nat) : Bool := !d.chanDead (128 + r) && !d.chanDead (d.railVch r)

/-- The own part of a rail. -/
def PwrX.rail (p : PwrX) (r : Nat) : RailX := (p.rails.find? fun x => x.r == r).getD { r := r }
def PwrX.putRail (p : PwrX) (x : RailX) : PwrX := { p with rails := x :: p.rails.filter fun y => y.r != x.r }

/-- A rail goes DERATED (R562): its current channel is retired. -/
def Ddu.derate (d : Ddu) (r : Nat) : Ddu :=
  let d := d.on fun n => n.setFld Reg.DDU_PWR_RSTATE r 29 3 3
  let d : Ddu := { d with pw := d.pw.putRail { r := r } }
  d.on fun n => n.chanRetire (n.chan (128 + r) 255)

/-- One window of a rail's table (R562). (DESIGN CHOICE: log 75.) -/
def Ddu.railWindow (d : Ddu) (r m e : Nat) : Ddu :=
  if !d.railLive r then d
  else
    let st := d.railState r
    let lim := d.n.fld Reg.DDU_PWR_RAIL r 16 8 * 1000
    let off := decide (max m e < 4 * ((m - e) + (e - m))) && !(decide (m < lim) && decide (e < lim))
    let x := d.pw.rail r
    let x := { x with run := if off then x.run + 1 else 0, inState := x.inState + 1 }
    let x := if st = 1 && 0 < x.cal then { x with cal := x.cal - 1, sumM := x.sumM + m, sumE := x.sumE + e } else x
    let d : Ddu := { d with pw := d.pw.putRail x }
    if st = 0 && 16 ≤ x.run then
      let k := d.n.fld Reg.DDU_PWR_RSTATE r 0 16
      let d := d.on fun n => (n.setFld Reg.DDU_PWR_RSTATE r 29 3 1).emit 0 1 0x1C 0x0002 501
        ([r, 1] ++ le 2 k ++ le 4 m ++ le 4 e ++ le 4 x.inState)
      { d with pw := d.pw.putRail { r := r, cal := 1000 } }
    else if st = 2 && 16 ≤ x.run then d.derate r
    else d

/-- The recalibration of a rail has run its 1,000 windows (R562). -/
def Ddu.recalEnd (d : Ddu) (r : Nat) : Ddu :=
  let x := d.pw.rail r
  if d.railState r ≠ 1 || x.cal ≠ 0 then d
  else
    let m := x.sumM
    let e := x.sumE
    let k := if e = 0 || 65536 ≤ m * 4096 / e then Config.railK m e % 65536 else m * 4096 / e
    let d := d.on fun n => n.setFld Reg.DDU_PWR_RSTATE r 0 16 k
    if 75 * e ≤ 100 * m && 100 * m ≤ 133 * e && e ≠ 0 then
      let scale (v : Nat) : Nat := let y := v * m / e; if y < 65536 then y else Config.counterOverflow y % 65536
      let d := d.on fun n => (n.setFld Reg.DDU_PWR_RAIL r 24 16 (scale (n.fld Reg.DDU_PWR_RAIL r 24 16))).setFld Reg.DDU_PWR_RSTATE r 29 3 2
      let d := d.on fun n => (List.range 8).foldl (fun n c =>
        n.setFld Reg.DDU_PWR_COEF r (16 * c) 16 (scale (n.fld Reg.DDU_PWR_COEF r (16 * c) 16))) n
      { d with pw := d.pw.putRail { r := r, watchAt := d.n.local } }
    else d.derate r

/-- A rail has been in WATCH for 10 s (R562). -/
def Ddu.watchEnd (d : Ddu) (r : Nat) : Ddu :=
  if d.railState r = 2 && decide ((d.pw.rail r).watchAt + 10000000000 ≤ d.n.local) then
    { d.on fun n => n.setFld Reg.DDU_PWR_RSTATE r 29 3 0 with pw := d.pw.putRail { r := r } }
  else d

/-- RESTORE_SOURCE of a rail's current channel (R562): the coefficients come back from the die ledger. -/
def Ddu.railRestore (d : Ddu) (r : Nat) : Ddu :=
  if d.railState r = 3 then
    { d.on fun n => ((n.setFld Reg.DDU_PWR_RSTATE r 29 3 0).setFld Reg.DDU_PWR_RAIL r 24 16 (Config.ledgerStatic r)).wr
        Reg.DDU_PWR_COEF r (Config.ledgerCoef r) with pw := d.pw.putRail { r := r } }
  else d

/-- The power of a rail that the loops use (R555). -/
def Ddu.railP (d : Ddu) (r m e : Nat) : Nat :=
  if !d.railLive r || d.railState r = 3 then (115 * e + 99) / 100
  else if d.railState r = 1 then max m e
  else m

/-! ## The loops -/

/-- The thermal diodes that count: with a sample, neither STALE nor RETIRED. -/
def Ddu.diodes (d : Ddu) : List Nat := (List.range 64).filter fun c => d.sens.seeded.contains c && !d.chanDead c

/-- The largest filtered value of the valid thermal diodes, or none. -/
def Ddu.tMax (d : Ddu) : Option Int := (d.diodes.map fun c => sensVal c (d.n.fld Reg.DDU_SNS_VALUE c 16 16)).max?

/-- Each level moved by `k` and held in 0 to 15. -/
def bumpLv (l : List Nat) (k : Int) : List Nat := l.map fun (v : Nat) => (max 0 (min 15 ((v : Int) + k))).toNat

/-- The cap loop (R556): `p` and `cap` in mW, `over` the amount by which each class exceeds its budget. -/
def capLoop (lv : List Nat) (excess : List Int) (p cap : Nat) : List Nat :=
  let pick (ok : Nat → Bool) (key : Nat → Int) : Option Nat :=
    (List.range 8).foldl (fun (b : Option Nat) c => if !ok c then b else match b with | some x => if key x < key c then some c else b | none => some c) none
  if cap < p then
    match pick (fun c => decide (lv.getD c 0 < 15)) fun c => excess.getD c 0 with
    | some c => modifyAt lv c fun v => min 15 (v + 1 + 8 * (p - cap) / max cap 1000)
    | none => lv
  else if 16 * p < 15 * cap then
    match pick (fun _ => true) fun c => (lv.getD c 0 : Nat) with
    | some c => modifyAt lv c fun v => v - 1
    | none => lv
  else lv

/-- The thermal loop (R557). -/
def Ddu.thermalLoop (d : Ddu) : Ddu :=
  match d.tMax with
  | none =>
    let d1 : Ddu := { d with pw := { d.pw with thermal := List.replicate 8 8, noTherm := true } }
    if d.pw.noTherm then d1 else d1.on fun n => n.fault 497 0 0 (n.rd Reg.DDU_JOB_TAG) 0
  | some t =>
    let lim := toInt 16 (d.n.fld Reg.DDU_PWR_TLIM 0 0 16)
    let hyst : Int := d.n.fld Reg.DDU_PWR_TLIM 0 16 16
    let p := { d.pw with noTherm := false }
    if lim ≤ t then { d with pw := { p with thermal := bumpLv p.thermal 1, cool := 0 } }
    else if t < lim - hyst then
      { d with pw := if p.cool = 9 then { p with thermal := bumpLv p.thermal (-1), cool := 0 } else { p with cool := p.cool + 1 } }
    else { d with pw := p }

/-- The current loop for one class (R558): its new level and count of windows below 15/16. -/
def Ddu.currentClass (d : Ddu) (c lv cool : Nat) : Nat × Nat :=
  let rs := d.rails.filter fun r => d.coef r c != 0
  let imax (r : Nat) : Nat := d.n.fld Reg.DDU_PWR_RAIL r 40 16
  let i (r : Nat) : Nat := d.latest (128 + r)
  let hot (r : Nat) : Bool := if imax r = 0 then decide (0 < i r) else decide (imax r ≤ i r)
  if rs.any hot then (min 15 (lv + 2), 0)
  else if rs.all fun r => decide (16 * i r < 15 * imax r) || (imax r == 0 && i r == 0) then
    (if cool = 9 then (lv - 1, 0) else (lv, cool + 1))
  else (lv, cool)

/-- The droop loop (R559), at each window. -/
def PwrX.droopLoop (p : PwrX) (n mask : Nat) : PwrX :=
  let p := { p with win := p.win + 1 }
  let up (l : List Nat) : List Nat := l.mapIdx fun c v => if bit mask c then min 15 (v + 1) else v
  let p := if !p.raised && n ≤ p.stretches then { p with droop := up p.droop, raised := true, hold := 100, held := 0 }
    else if 0 < p.hold then
      if p.hold = 1 then
        (if p.held < n then { p with droop := bumpLv p.droop (-1), hold := if p.droop.all fun v => decide (v ≤ 1) then 0 else 100, held := 0 }
         else { p with hold := 100, held := 0 })
      else { p with hold := p.hold - 1 }
    else p
  if p.win = 10 then { p with win := 0, stretches := 0, raised := false } else p

/-- The external level of each class (R560). -/
def Ddu.extLv (d : Ddu) : List Nat :=
  (List.range 8).map fun c => max (d.n.fld Reg.DDU_LRB_FLOOR 0 (4 * c) 4) (d.n.fld Reg.DDU_PWR_EXT 0 (4 * c) 4)

/-- Levels as THROTTLE carries them. -/
def packLv (l : List Nat) : Nat := (l.zipIdx.map fun (v : Nat × Nat) => v.1 % 16 * 16 ^ v.2).sum

/-- The unthrottled estimate in W (R553): class powers `w` in mW, `lv` the levels applied, `static` in mW. (DESIGN CHOICE: log 75.) -/
def unthrottledW (w lv : List Nat) (static : Nat) : Nat :=
  static / 1000 + ((w.zip lv).map fun (v : Nat × Nat) => v.1 / 250 * 16 / (16 - min 15 v.2)).sum / 4

/-- Learn in the entry in use (R553): `u` the unthrottled estimate, `p` the power used in W. -/
def PhaseEnt.learn (x : PhaseEnt) (w : List Nat) (u p now ltime : Nat) : PhaseEnt :=
  let q := w.map fun v => v / 250
  let cw := x.classW.zip q |>.map fun (v : Nat × Nat) => ((v.1 : Int) + ((v.2 : Int) - (v.1 : Int)) / 64).toNat
  let s := cw.sum
  { x with classW := cw, share := cw.map fun v => if s = 0 then 32 else min 255 (256 * v / s),
           demand := max u (x.demand - (x.demand + 255) / 256), samples := min 65535 (x.samples + 1), avg := Config.phaseAvg x.avg p,
           usedAt := now, ltime := ltime }

/-- Show the load class of R405. -/
def Ddu.loadView (d : Ddu) : Ddu :=
  let c := d.capW
  d.wr Reg.DDU_CELL_LOAD 0 (if c = 0 then 15 else min 15 (16 * d.rd Reg.DDU_PWR_USED / (c * 1000)))

/-- One 100 µs window (R548, R553 to R562): the cap that waits, the rails, the entry in use, every loop, THROTTLE and the
reasons. (DESIGN CHOICE: log 75.) -/
def Ddu.loopWindow (d : Ddu) : Ddu :=
  if d.pwr = 0 || d.n.bit Reg.DDU_SUBRESET 0 4 || d.n.bit Reg.DDU_SUBRESET 0 10 then d
  else
    let d := match d.pw.capNext with
      | some c => ({ d with pw := { d.pw with capNext := none } } : Ddu).wr Reg.DDU_PWR_CAP 0 c
      | none => d
    let tot := (List.range 8).map fun c => d.rd Reg.DDU_CLASS_TOTAL c
    let delta := (tot.zip d.pw.totals).map fun (v : Nat × Nat) => (v.1 + 2 ^ 64 - v.2) % 2 ^ 64
    let d : Ddu := { d with pw := { d.pw with totals := tot } }
    let rs := d.rails
    let me := rs.map fun r => (r, d.railM r, d.railE r delta)
    let d := me.foldl (fun d x => d.railWindow x.1 x.2.1 x.2.2) d
    let p := (me.map fun x => d.railP x.1 x.2.1 x.2.2).sum
    let sumM := (me.map fun x => x.2.1).sum
    let sumE := (me.map fun x => x.2.2).sum
    let w := (List.range 8).map fun c => (rs.map fun r => delta.getD c 0 * d.coef r c / 1600).sum
    let static := (rs.map fun r => d.n.fld Reg.DDU_PWR_RAIL r 24 16).sum
    let d := ((d.wr Reg.DDU_PWR_LAST 0 (sumM % 2 ^ 32 * 2 ^ 32 + sumE % 2 ^ 32)).wr Reg.DDU_PWR_USED 0 p).loadView
    let lv := (List.range 8).map fun c => d.n.fld Reg.DDU_PWR_LEVEL 0 (4 * c) 4
    let u := unthrottledW w lv static
    let d : Ddu := { d with pw := { d.pw with unthrottled := u } }
    let d : Ddu := match d.phaseNow.bind d.pw.phase with
      | some x => { d with pw := d.pw.putPhase (x.learn w u (p / 1000) d.n.local (d.n.tideline / 1000000000 % 2 ^ 32)) }
      | none => d
    let share := match d.phaseNow.bind d.pw.phase with | some x => x.share | none => List.replicate 8 32
    let d : Ddu := match d.pw.select with
      | some (some e) => { d with pw := { d.pw with select := none } }.wr Reg.DDU_PWR_PHASE 0 (32768 + e)
      | some none => { d with pw := { d.pw with select := none } }.wr Reg.DDU_PWR_PHASE 0 0
      | none => d
    if !d.n.bit Reg.DDU_PWR_CTRL 0 31 then d
    else
      let cap := d.capW * 1000
      let d := d.thermalLoop
      let excess := (List.range 8).map fun c => (w.getD c 0 : Int) - (cap * share.getD c 0 / 256 : Nat)
      let cur := (List.range 8).map fun c => d.currentClass c (d.pw.current.getD c 0) (d.pw.curCool.getD c 0)
      let pw := ({ d.pw with cap := capLoop d.pw.cap excess p cap, current := cur.map fun x => x.1, curCool := cur.map fun x => x.2 } : PwrX).droopLoop
        (d.n.fld Reg.DDU_PWR_DROOP_CFG 0 24 8) (d.n.fld Reg.DDU_PWR_DROOP_CFG 0 16 8)
      let ext := d.extLv
      let app := (List.range 8).map fun c => max (max (max (pw.thermal.getD c 0) (pw.cap.getD c 0)) (max (pw.droop.getD c 0) (pw.current.getD c 0))) (ext.getD c 0)
      let capBy := if sumM ≤ cap then 4 else 1
      let asks (l : List Nat) : Bool := (l.zip app).any fun (v : Nat × Nat) => decide (0 < v.1) && v.1 == v.2
      let str := pw.strTicks + if d.bnd.clkStretch then (d.n.local - pw.stretchAt) / 20 else 0
      let t (r : Nat) : Nat := match r with
        | 0 => if asks pw.thermal then 5000 else 0
        | 2 => if asks pw.droop then 5000 else min 5000 str
        | 3 => if asks pw.current then 5000 else 0
        | 5 => if asks ext then 5000 else 0
        | _ => if r = capBy && asks pw.cap then 5000 else 0
      let ticks := (List.range 6).map fun r => pw.ticks.getD r 0 + t r
      let why := ((List.range 6).map fun r => if t r = 0 then 0 else 2 ^ r).sum
      let was := d.rd Reg.DDU_PWR_REASONS
      let d : Ddu := { d with pw := { pw with ticks := ticks, strTicks := 0, stretchAt := if d.bnd.clkStretch then d.n.local else pw.stretchAt } }
      let d := (d.wr Reg.DDU_PWR_LEVEL 0 (packLv app)).wr Reg.DDU_PWR_REASONS 0 why
      let d := d.on fun n => (List.range 6).foldl (fun n r => n.wr Reg.DDU_PWR_THR_US r (ticks.getD r 0 / 50)) n
      if why = was then d
      else d.on fun n => (n.hostIrq 7).emit (n.rd Reg.DDU_JOB_TAG) 2 0x1C 0x0003 501 ([why, was, 0, 0] ++ le 4 (packLv app))

/-- A new cap from the tray sentinel (R548): it takes effect at the next window and clears CAP_STALE. (DESIGN CHOICE: log 76.) -/
def Ddu.newCap (d : Ddu) (c : Nat) : Ddu :=
  { d with pw := { d.pw with capNext := some (c % 65536), capAt := d.n.local } }.on fun n => n.setB Reg.DDU_PWR_STATE 0 8 false

/-- No cap has arrived for 100 ms (R548). -/
def Ddu.capStale (d : Ddu) : Ddu :=
  if d.pwr ≠ 0 && decide (d.pw.capAt + 100000000 ≤ d.n.local) then d.on fun n => n.setB Reg.DDU_PWR_STATE 0 8 true else d

/-- The demand that DDU firmware reports (R549): that of the entry in use, else the unthrottled estimate. -/
def Ddu.demandW (d : Ddu) : Nat :=
  match d.phaseNow.bind d.pw.phase with
  | some x => x.demand
  | none => d.pw.unthrottled

/-- The POWER sub-block reset (R70, R561): loop state and the working phase table go; THROTTLE holds and times are kept. -/
def Ddu.pwrReset (d : Ddu) : Ddu :=
  let p : PwrX := { since := d.pw.since, capAt := d.pw.capAt, ticks := d.pw.ticks, totals := d.pw.totals, stretchAt := d.pw.stretchAt,
                    strTicks := d.pw.strTicks }
  let kept (x : Nat) : Bool := x == 0x60004 || x == 0x60020 || x == 0x60034 || (decide (0x60040 ≤ x) && decide (x < 0x60070)) ||
    (decide (0x60100 ≤ x) && decide (x < 0x60140))
  let d : Ddu := { d with pw := p }
  d.on fun n => { n with regs := n.regs.filter fun (r : Nat × Nat) => decide (r.1 < 0x60000) || decide (0x62000 ≤ r.1) || kept r.1 }

end Sys2Proof.Machine
end

