-- ==== Sys2Proof/Machine/JobOps.lean ====
section
/-!
DEFINITION. Jobs (R261 to R267, R276, R283 to R287): the die's membership, the sentinel's job and group entries, scrubs, and
fences.
-/

namespace Sys2Proof.Machine

/-! ## The die -/

/-- DDU_JOB_STATE.state: 0 IDLE, 1 ACTIVE, 2 SCRUBBING, 3 SCRUB_FAULT. -/
def Ddu.jobState (d : Ddu) : Nat := d.n.fld Reg.DDU_JOB_STATE 0 0 3

/-- The die's JobTag. -/
def Ddu.jobTag (d : Ddu) : Nat := d.rd Reg.DDU_JOB_TAG

/-- Set the state; DDU_SNOOP_CTRL.EN is 1 while it is ACTIVE (R395). (DEDUCED: log 126.) -/
def Ddu.setJobState (d : Ddu) (s : Nat) : Ddu := d.on fun n => (n.setFld Reg.DDU_JOB_STATE 0 0 3 s).setB Reg.DDU_SNOOP_CTRL 0 31 (s == 1)

/-- Change the held job and its registers. (DESIGN CHOICE: log 45.) -/
def Ddu.hold (d : Ddu) (j : Option JobStart) : Ddu :=
  let d : Ddu := { d with job := { d.job with held := j, heldAt := d.n.local } }
  match j with
  | some x => (d.wr Reg.DDU_JOB_PENDING 0 x.tag).on fun n => n.setB Reg.DDU_JOB_STATE 0 8 true
  | none => (d.wr Reg.DDU_JOB_PENDING 0 0).on fun n => n.setB Reg.DDU_JOB_STATE 0 8 false

/-- JOIN_REFUSED (R262, R284). -/
def Ddu.joinRefused (d : Ddu) (t : Nat) : Ddu :=
  let cur := d.jobTag
  d.on fun n => n.emit t 1 0x15 0x0001 505 (le 4 t ++ le 4 cur ++ zeros 8)

/-- An ARRIVAL record (R234): EXCLUDED while ALIGN_ALARM or DEGRADED is set. -/
def Ddu.arrival (d : Ddu) (epoch tag stamp : Nat) : Ddu :=
  let jt := d.jobTag
  d.on fun n =>
    let ex := n.bit (Reg.TIME_STATUS .ddu) 0 5 || n.bit (Reg.TIME_STATUS .ddu) 0 4
    n.postUp jt 2 0x14 0x0003 505 (le 4 jt ++ le 4 epoch ++ le 2 tag ++ le 2 (b2n ex) ++ le 4 stamp)

/-- Arm one gate of the pair at join (R276). (DESIGN CHOICE: log 46.) -/
def Ddu.armGate (d : Ddu) (base tag epoch : Nat) : Ddu :=
  let k := base + epoch % 2
  d.on fun n => n.setObj {
    num := k, st := 1, kind := 1, jobtag := tag, target := 1 + Config.otherMembers tag, epoch := epoch % 2 ^ 32,
    armed := true, mirrorHandle := jobGen tag * 65536 + (Config.trayPair tag + epoch % 2) % 8192, mirrorNode := n.parentIdent }

/-- Join with a gate pair in hand (R276, R263). -/
def Ddu.joinPair (d : Ddu) (j : JobStart) (base : Nat) : Ddu :=
  let prev := (j.stepFirst + 2 ^ 32 - 1) % 2 ^ 32
  let d := (d.armGate base j.tag j.stepFirst).armGate base j.tag prev
  let d := d.on fun n => n.syncTouch (base + prev % 2) 8 0 0 0 0 n.ident
  let d : Ddu := { d with job := { d.job with pair := base, waiting := none } }
  d.arrival 0xFFFFFFFF 0 d.n.now

/-- The pair to take (R276): the one not released most recently, when both its objects are FREE. (DESIGN CHOICE: log 46.) -/
def Ddu.freePair (d : Ddu) : Option Nat :=
  let ok (b : Nat) : Bool := (d.n.obj b).st == 0 && (d.n.obj (b + 1)).st == 0
  let first := 2 - min 2 d.job.lastPair
  if ok first then some first else if ok (2 - first) then some (2 - first) else none

/-- Arm the pair, or wait for one (R276). (DESIGN CHOICE: log 45.) -/
def Ddu.joinTry (d : Ddu) (j : JobStart) : Ddu :=
  match d.freePair with
  | some b => d.joinPair j b
  | none => { d with job := { d.job with waiting := some j } }

/-- Join a job from IDLE (R262). A change of JobTag ends profiling (R92).  The sentinel's JOB_START enables the summaries while the job has health
telemetry (R93, R213). (DEDUCED: log 117.) -/
def Ddu.join (d : Ddu) (j : JobStart) : Ddu :=
  let d := d.profClear
  let d := (d.wr Reg.DDU_JOB_TAG 0 j.tag).wr Reg.DDU_JOB_RANK 0 j.rank
  let d := (d.setJobState 1).on fun n => n.setB Reg.DDU_JOB_STATE 0 9 (bit j.flags 0)
  let d := d.on fun n => (n.setFld Reg.DDU_SNOOP_CTRL 0 0 4 (min 12 (bits j.flags 2 4))).setB Reg.DDU_SUM_CTRL 0 31 (bit j.flags 1)
  let d : Ddu := { d with job := { d.job with sent := [], verdictGroup := 0 }, bnd := { d.bnd with skipEpoch := none },
                          chk := { d.chk with epochs := [], closing := [], reps := [] } }
  d.joinTry j

/-- The JOB_START that a fan-out gives this die (R261), if it names it. -/
def Ddu.jobStartOf (d : Ddu) (m : FanMsg) : Option JobStart :=
  let die := d.n.fld Reg.DDU_DIE_INDEX 0 0 17
  match rangeOf m.ranges die with
  | none => none
  | some i => some { tag := m.jobtag, flags := leAt m.body 0 4, stepFirst := leAt m.body 4 4,
                     rank := leAt m.body (16 + 4 * i) 4 + (die - (m.ranges.getD i (0, 0)).1) }

/-- JOB_START at a die (R262). (DESIGN CHOICE: log 45.) -/
def Ddu.jobStart (d : Ddu) (m : FanMsg) : Ddu :=
  match d.jobStartOf m with
  | none => d
  | some j =>
    let st := d.jobState
    if st ≠ 0 && jobId j.tag = jobId d.jobTag && genOlder (jobGen j.tag) (jobGen d.jobTag) then d.bump Reg.DDU_SYNC_STALE
    else if st = 0 then d.join j
    else if j.tag = d.jobTag || (d.job.held.any fun h => h.tag == j.tag) then d.bump Reg.DDU_SYNC_MISMATCH
    else if d.job.held.isSome || st = 3 || d.n.fld Reg.DDU_JOB_HOLD_MS 0 0 16 = 0 then d.joinRefused j.tag
    else d.hold (some j)

/-- Start a source fence (R286, R287): a fence in progress is joined. -/
def Ddu.sourceFence (d : Ddu) : Ddu := d.on fun n => n.setB Reg.DDU_FENCE_STATUS 0 0 true

/-- Whether every message before the fence has been acknowledged, or handed to the sibling ring (R286). -/
def Ddu.fenceMet (d : Ddu) : Bool :=
  let l := d.n.lane 0 0
  !d.n.txq.any (fun t => !t.fenced) && (d.n.bit Reg.DDU_STATUS 0 7 || (l.replay.isEmpty && l.resend.isEmpty))

/-- An EPOCH_FENCE record leaves once every message before it has been acknowledged, or handed to the sibling ring (R286). -/
def Ddu.epochFences (d : Ddu) : Ddu :=
  let l := d.n.lane 0 0
  let ready (i : Nat) (t : TxMsg) : Bool :=
    i == 0 && (d.n.bit Reg.DDU_STATUS 0 7 || (l.resend.isEmpty && l.replay.all fun f => decide (t.at_ < f.msg.at_)))
  d.on fun n => { n with txq := n.txq.zipIdx.map fun (p : TxMsg × Nat) => if p.1.ef && ready p.2 p.1 then { p.1 with ef := false } else p.1 }

/-- What waited behind the source fence may leave. -/
def Node.unfence (n : Node) : Node := { n with txq := n.txq.map fun t => { t with fenced := false } }

/-- JOB_END at a die (R262). -/
def Ddu.jobEnd (d : Ddu) (m : FanMsg) : Ddu :=
  if d.jobState = 0 || m.jobtag ≠ d.jobTag then
    if d.n.jobCheck m.jobtag = 1 then d.bump Reg.DDU_SYNC_STALE else d.bump Reg.DDU_SYNC_MISMATCH
  else if d.jobState ≠ 1 then d.bump Reg.DDU_SYNC_MISMATCH
  else
    let d := (d.setJobState 2).sourceFence
    let (n, k) := d.n.releaseJob d.jobTag
    { d with n := n, job := { d.job with endAt := d.n.local, released := k, lastPair := d.job.pair, waiting := none } }

/-- What the die scrub clears beside the sync objects (R262): snoop slots and queued transfers, the job's reports, markers,
profiling and streams, the secure slots, CUT_ID and VERSIONs (R449), and the marker entries of the phase table (R553); how many entries. (DESIGN CHOICE: log 45.) -/
def Ddu.scrubClear (d : Ddu) : Ddu × Nat :=
  let tag := d.jobTag
  let reports := (d.bnd.chkFifo.filter fun r => r.1.jobtag == tag).length
  let k := reports + d.bnd.markFifo.length + d.streams.length + d.chk.slots.length + d.sec.slots.length
  let d : Ddu := { d with bnd := { d.bnd with chkFifo := d.bnd.chkFifo.filter fun r => r.1.jobtag != tag, markFifo := [] }, streams := [],
                          chk := { d.chk with slots := [], epochs := [], closing := [], reps := [] }, sec := {} }
  let d := d.on fun n => (n.resetRegs 0x82004 0x82010).resetRegs 0x82800 0x83000
  let d := (d.wr Reg.DDU_SNOOP_PEND 0 0).on fun n => n.setFld Reg.DDU_CHK_FIFO 0 0 11 d.bnd.chkFifo.length
  (d.phaseScrub.snapOpenView, k)

/-- The scrub has been fenced (R262, R284): SCRUB_DONE, then a held job is joined. `bytes` is what was erased. -/
def Ddu.scrubEnd (d : Ddu) (bytes : Nat) : Ddu :=
  let st := d.jobState
  let tag := d.jobTag
  let (d, k) := { d with job := { d.job with scrubbed := none } }.scrubClear
  let objs := d.job.released + k
  let d := d.on fun n => n.emit tag 0 0x15 0x0003 505
    (le 4 tag ++ le 4 n.ident ++ [0, 0, 0, 0] ++ le 4 objs ++ le 8 bytes ++ le 8 n.tideline)
  let d := d.profClear
  let d := (d.setJobState 0).wr Reg.DDU_JOB_TAG 0 0
  let d := (d.wr Reg.DDU_JOB_RANK 0 0).on fun n => (n.setB Reg.DDU_JOB_STATE 0 9 false).setB Reg.DDU_SUM_CTRL 0 31 false
  match d.job.held with
  | some j => if st = 2 then (d.hold none).join j else d
  | none => d

/-- The source fence completes (R286, R287).  The fence of a SCRUB_DONE that has joined another covers the records that came after that one too,
and both complete together. (DESIGN CHOICE: log 45.) -/
def Ddu.fenceEnd (d0 : Ddu) : Ddu :=
  let d := d0.epochFences
  if d.n.bit Reg.DDU_FENCE_STATUS 0 0 && d.fenceMet then
    match d.job.scrubbed with
    | none => d.on fun n => (n.setB Reg.DDU_FENCE_STATUS 0 0 false).unfence
    | some (bytes, own) =>
      if own || !d.n.txq.any (fun t => t.fenced) then (d.on fun n => (n.setB Reg.DDU_FENCE_STATUS 0 0 false).unfence).scrubEnd bytes
      else { d with job := { d.job with scrubbed := some (bytes, true) } }.on Node.unfence
  else d

/-- The scrub is complete (R262): a SOURCE_FENCE goes before SCRUB_DONE (R284, R286), and is met at once when nothing is under way. -/
def Ddu.scrubDone (d : Ddu) (bytes : Nat) : Ddu :=
  if (d.jobState = 2 || d.jobState = 3) && d.job.scrubbed.isNone then
    let own := !d.n.bit Reg.DDU_FENCE_STATUS 0 0
    ({ d with job := { d.job with scrubbed := some (bytes, own) } }.sourceFence).fenceEnd
  else d

/-- 5 ms since JOB_END and the scrub is not complete (R262). -/
def Ddu.scrubLate (d : Ddu) : Ddu :=
  if d.jobState ≠ 2 then d
  else
    let tag := d.jobTag
    let d := d.on fun n => n.emit tag 1 0x15 0x0002 505 (le 4 tag ++ le 4 ((n.local - d.job.endAt) / 1000) ++ zeros 8)
    let d := (d.on fun n => (n.fault 505 0 2 tag 0).escalate 505 8 tag n.ident 0).setJobState 3
    match d.job.held with
    | some j => (d.joinRefused j.tag).hold none
    | none => d

/-- A held JobTag has waited DDU_JOB_HOLD_MS (R262). -/
def Ddu.holdExpiry (d : Ddu) : Ddu :=
  match d.job.held with
  | some j => if d.jobState = 1 then (d.joinRefused j.tag).hold none else d
  | none => d

/-- GROUP_REGISTER at a die (R267). -/
def Ddu.groupRegister (d : Ddu) (m : FanMsg) : Ddu :=
  match d.n.jobCheck m.jobtag with
  | 1 => d.bump Reg.DDU_SYNC_STALE
  | 2 => d.bump Reg.DDU_SYNC_MISMATCH
  | _ =>
    if !bit (leAt m.body 2 2) 0 then d
    else if d.job.verdictGroup ≠ 0 then d.bump Reg.DDU_SYNC_MISMATCH
    else { d with job := { d.job with verdictGroup := leAt m.body 0 2 } }

/-- GROUP_RELEASE at a die. -/
def Ddu.groupRelease (d : Ddu) (m : FanMsg) : Ddu :=
  match d.n.jobCheck m.jobtag with
  | 1 => d.bump Reg.DDU_SYNC_STALE
  | 2 => d.bump Reg.DDU_SYNC_MISMATCH
  | _ => if d.job.verdictGroup = leAt m.body 0 2 then { d with job := { d.job with verdictGroup := 0 } } else d

/-- Whether a lifecycle code lets jobs start (R644, R646). -/
def lcJobs (l : Nat) : Bool := l == 1 || l == 2

/-- A FANOUT reaches a die (R241): delivered once and acknowledged.  A refusal (R646) is kept, and given again, as an acknowledgement is. -/
def Ddu.fanArrive (d : Ddu) (m : FanMsg) (deliver : Ddu → Ddu) : Ddu :=
  let key := (m.jobtag, m.seq)
  let refusing := m.kind = 1 && !lcJobs (d.n.fld Reg.DDU_STATUS 0 8 3) && !d.job.kept.contains key
  if refusing || d.job.refused.contains key then
    let d : Ddu := if d.job.refused.contains key then d else { d with job := { d.job with refused := key :: d.job.refused } }
    d.on fun n => n.postUp m.jobtag 0 0x14 0x0012 505 (fanAckBytes m.jobtag m.seq 1 0 [(n.ident, 1)] false)
  else
  let d := if d.job.kept.contains key then d else deliver { d with job := { d.job with kept := key :: d.job.kept } }
  d.on fun n => n.postUp m.jobtag 0 0x14 0x0012 505 (fanAckBytes m.jobtag m.seq 1 1 [] false)

/-- SYNC_QUERY of a die's gates to its tray's mirror pair (R280). -/
def Ddu.queryGates (d : Ddu) : Ddu :=
  if d.jobState ≠ 1 then d
  else [0, 1].foldl (fun d i =>
    let o := d.n.obj (d.job.pair + i)
    if o.st = 1 && o.kind = 1 then
      d.on fun n => n.postUp o.jobtag 0 0x15 0x0010 505 (syncPayload o.jobtag o.mirrorHandle (7 + 128) o.attempt 0 o.epoch 0)
    else d) d

/-! ## The sentinel -/

/-- The job entry's own part. -/
def Abl.jobA (a : Abl) (j : Nat) : JobA := (a.jobs.find? fun x => x.slot == j).getD { slot := j }

/-- Replace it. -/
def Abl.setJobA (a : Abl) (x : JobA) : Abl := { a with jobs := x :: a.jobs.filter fun y => y.slot != x.slot }

/-- Member children of a job and the dies beneath each: of every valid child for JobTag 0. -/
def Abl.members (a : Abl) (t : Nat) : List (Nat × Nat) :=
  if t = 0 then (((List.range 32).filter fun c => a.n.childValid c && (decide (c < 16) || a.adopted.contains c)).map fun c => (c, a.n.childLast c + 1 - a.n.childFirst c))
  else match a.n.jobSlot t with
    | some j => (a.jobA j).members
    | none => []

/-- A write of a job slot of the Uplink Scheduler (R252): a new JOBTAG moves the slot's messages to slot 63. -/
def Node.uschJob (n : Node) (k v : Nat) : Node :=
  let old := n.rd Reg.ABL_USCH_JOB k
  let fixed := k == 0 || k == 63
  let v' := if fixed then setBits old 40 8 (bits v 40 8) else bits v 63 1 * 2 ^ 63 + bits v 40 8 * 2 ^ 40 + bits v 0 32
  let n := n.wr Reg.ABL_USCH_JOB k v'
  let n := if fixed then n else (List.range 32).foldl (fun m c => m.wr Reg.ABL_RED_STRAG (32 * k + c) 0) n
  if fixed || bits v 0 32 == bits old 0 32 then n
  else
    let mine (t : TxMsg) : Bool := decide (16 ≤ t.port) && t.slot == k
    let moved := (n.txq.filter fun t => mine t && t.sent == 0).map fun t => { t with slot := 63 }
    { n.wakeQueues moved with txq := n.txq.map fun t => if mine t then { t with slot := 63 } else t }

/-- Add members of a fan-out, beneath some children, to a job entry; its ranges count once. -/
def Abl.addKids (a : Abl) (j : Nat) (m : FanMsg) (kids : List FanChild) : Abl :=
  let x := a.jobA j
  let ms := kids.foldl (fun (l : List (Nat × Nat)) k =>
    if l.any fun p => p.1 == k.c then l.map fun p => if p.1 = k.c then (p.1, p.2 + k.dies) else p else l ++ [(k.c, k.dies)]) x.members
  let ranks := (List.range m.ranges.length).map fun i => leAt m.body (16 + 4 * i) 4
  if m.ranges.all x.ranges.contains then a.setJobA { x with members := ms }
  else a.setJobA { x with members := ms, ranges := x.ranges ++ m.ranges, ranks := x.ranks ++ ranks }

/-- JOB_START at a sentinel for some of its children (R264): the entry of this JobTag, or a FREE one. -/
def Abl.jobTake (a : Abl) (m : FanMsg) (home : Nat) (kids : List FanChild) : Abl × Bool :=
  match a.n.jobSlot m.jobtag with
  | some j => (a.addKids j m kids, true)
  | none =>
    match (List.range 63).find? fun j => 1 ≤ j && a.n.fld Reg.ABL_JOB j 125 3 == 0 with
    | none => (a, false)
    | some j =>
      let fl := leAt m.body 0 4 % 64
      let v := 2 ^ 125 + bits fl 0 1 * 2 ^ 124 + min 12 (bits fl 2 4) * 2 ^ 120 + leAt m.body 4 4 * 2 ^ 64 + m.jobtag % 2 ^ 32
      let a := a.on fun n => ((n.wr Reg.ABL_JOB j v).uschJob j (2 ^ 63 + n.fld Reg.ABL_USCH_JOB j 40 8 * 2 ^ 40 + m.jobtag % 2 ^ 32)).wr
        Reg.ABL_SEC_JOB j (b2n (home == n.ident) * 2 ^ 252 + m.jobtag % 2 ^ 32 * 2 ^ 216)
      ((a.setJobA { slot := j, root := home, flags := fl }).addKids j m kids, true)

/-- JOB_START at a sentinel (R264), for its own children. -/
def Abl.jobStart (a : Abl) (m : FanMsg) (home : Nat) : Abl × Bool := a.jobTake m home (a.fanKids m a.ownChildren)

/-- JOB_END at a sentinel (R264). -/
def Abl.jobEnd (a : Abl) (m : FanMsg) : Abl :=
  match a.n.jobSlot m.jobtag with
  | some j =>
    let st := a.n.fld Reg.ABL_JOB j 125 3
    if st = 1 || st = 2 then
      let a := a.setJobA { a.jobA j with reason := leAt m.body 0 4 }
      a.on fun n => { n.setFld Reg.ABL_JOB j 125 3 3 with due := n.due ++ [React.jobEnded m.jobtag (leAt m.body 0 4)] }
    else a
  | none => a

/-- Two consecutive FREE sync objects (R267), while ALLOC is applied (R689). -/
def Node.freeTwo (n : Node) : Option Nat :=
  if !n.syncOn then none else (List.range 8191).find? fun k => !(n.sync.objs.any fun o => o.st != 0 && (o.num == k || o.num == k + 1))

/-- What is left, in ns, of the guard of a released group identifier (R260). -/
def Abl.guardLeft (a : Abl) (gid : Nat) : Option Nat :=
  (a.groupGuard.find? fun g => g.1 == gid && decide (a.n.local < g.2)).map fun g => g.2 - a.n.local

/-- A group that a node holds gains the members beneath further children (R267): GROUP_EXP and the total. -/
def Abl.groupMore (a : Abl) (g : Nat) (kids : List FanChild) : Abl :=
  a.on fun n =>
    let n := kids.foldl (fun (n : Node) k => n.setFld Reg.ABL_GROUP_EXP g (32 * k.c) 32 k.dies) n
    n.setFld Reg.ABL_GROUP g 96 18 (((List.range 32).map fun c => n.fld Reg.ABL_GROUP_EXP g (32 * c) 32).sum)

/-- GROUP_REGISTER at a sentinel for some of its children (R266, R267, R260): `home` is its originator.  A tray arms its mirror pair as a die arms its own at join (R276):
DEDUCED, since the spec names no other command that arms it. -/
def Abl.groupTake (a : Abl) (m : FanMsg) (home : Nat) (kids : List FanChild) : Abl × Bool :=
  let gid := leAt m.body 0 2
  let verdict := bit (leAt m.body 2 2) 0
  let gate := leAt m.body 4 4
  match a.n.jobSlot m.jobtag with
  | none => (a, false)
  | some j =>
    let busy := gid == 0 || gid == 0xFFFE || gid == 0xFFFF || (a.guardLeft gid).isSome
    let slot := (List.range 512).find? fun g => !a.n.bit Reg.ABL_GROUP g 255
    let isTray := a.n.role == 1
    let two := a.n.freeTwo
    match slot with
    | none => (a, false)
    | some g =>
      if busy || (a.n.groupOf m.jobtag gid).isSome || (verdict && isTray && two.isNone) then (a, false)
      else
        let total := (kids.map fun k => k.dies).sum
        let base := two.getD 0
        let localGate := if verdict && isTray then jobGen m.jobtag * 65536 + base else 0
        let v := 2 ^ 255 + b2n verdict * 2 ^ 254 + j * 2 ^ 240 + gid * 2 ^ 224 + home % 2 ^ 20 * 2 ^ 192 + gate * 2 ^ 160 +
          localGate * 2 ^ 128 + total % 2 ^ 18 * 2 ^ 96
        let a : Abl := { a with groupRanges := bindKey a.groupRanges g m.ranges }
        let a := a.on fun n => (n.wr Reg.ABL_GROUP g v).wr Reg.ABL_GROUP_EXP g
          ((kids.map fun k => k.dies % 2 ^ 32 * 2 ^ (32 * k.c)).sum)
        let first := a.n.fld Reg.ABL_JOB j 64 32
        let prior := (first + 2 ^ 32 - 1) % 2 ^ 32
        let mk (k i : Nat) : SyncObj := {
          num := k, st := 1, kind := 1, jobtag := m.jobtag, target := total, armed := true, epoch := if i = first % 2 then first else prior,
          reached := i != first % 2, value := if i = first % 2 then 0 else total,
          mirrorHandle := jobGen m.jobtag * 65536 + (Config.memberPair m.jobtag + i) % 8192, mirrorNode := 2 ^ 31 }
        let a := if verdict && isTray then a.on fun n => (n.setObj (mk base 0)).setObj (mk (base + 1) 1) else a
        let atHome := home % 2 ^ 20 == a.n.ident && gate != 0
        let a := if atHome then a.on fun n => [0, 1].foldl (fun n i =>
            let o := n.obj (gate % 8192 + i)
            let h := jobGen m.jobtag * 65536 + (Config.memberPair m.jobtag + i) % 8192
            if o.st = 1 then n.setObj { o with mirrorHandle := h, mirrorNode := 2 ^ 31 } else n) n
          else a
        (if verdict then a.on fun n => n.setFld Reg.ABL_JOB j 96 16 gid else a, true)

/-- GROUP_REGISTER at a sentinel (R266), for its own children; a group that only a relay has registered for other children gains them (R243). -/
def Abl.groupRegister (a : Abl) (m : FanMsg) (home : Nat) : Abl × Bool :=
  let kids := a.fanKids m a.ownChildren
  match (a.fansOf m.jobtag m.seq).any fun x => x.relay.isSome, a.n.groupOf m.jobtag (leAt m.body 0 2) with
  | true, some g => (a.groupMore g kids, true)
  | _, _ => a.groupTake m home kids

/-- Release one group entry (R260): its identifier and its mirror pair enter their guards. -/
def Abl.groupFree (a : Abl) (g : Nat) : Abl :=
  let gid := a.n.fld Reg.ABL_GROUP g 224 16
  let l := a.n.fld Reg.ABL_GROUP g 128 32
  let j := a.n.fld Reg.ABL_GROUP g 240 6
  let a := if l = 0 then a else a.on fun n => [0, 1].foldl (fun n i => (n.syncOp 6 { handle := l + i } false n.self).node) n
  let a := if a.n.bit Reg.ABL_GROUP g 254 then a.on fun n => n.setFld Reg.ABL_JOB j 96 16 0 else a
  let a := a.on fun n => (n.wr Reg.ABL_GROUP g 0).wr Reg.ABL_GROUP_EXP g 0
  { a with groupRanges := a.groupRanges.filter fun x => x.1 != g, groupGuard := (gid, a.n.local + 8000000) :: a.groupGuard.filter fun x => decide (a.n.local < x.2) }

/-- GROUP_RELEASE at a sentinel. -/
def Abl.groupRelease (a : Abl) (m : FanMsg) : Abl :=
  match a.n.groupOf m.jobtag (leAt m.body 0 2) with
  | some g => a.groupFree g
  | none => a

/-- A member child's SCRUB_DONE has arrived (R264). -/
def Abl.scrubDoneRx (a : Abl) (jobtag origin : Nat) : Abl :=
  match a.n.jobSlot jobtag, a.n.childOf origin with
  | some j, some c =>
    let x := a.jobA j
    if x.scrubbed.contains c then a else a.setJobA { x with scrubbed := c :: x.scrubbed }
  | _, _ => a.on fun n => n.ofJob jobtag fun n => n

/-- A SCRUB_DONE's opening section (R284). -/
def scrubOpen (tag node scope objs bytes done : Nat) : List Nat :=
  le 4 tag ++ le 4 node ++ [scope, 0, 0, 0] ++ le 4 objs ++ le 8 bytes ++ le 8 done

/-- GUARD becomes FREE 8 ms later (R264). (DESIGN CHOICE: log 49.) -/
def Abl.jobGuardExpiry (a : Abl) (j : Nat) : Abl :=
  if a.n.fld Reg.ABL_JOB j 125 3 = 4 && dist32 (a.n.fld Reg.ABL_JOB j 32 32) a.n.now ≤ 0 then
    { a with jobs := a.jobs.filter fun x => x.slot != j }.on fun n =>
      ((n.wr Reg.ABL_JOB j 0).wr Reg.ABL_SEC_JOB j 0).uschJob j (n.fld Reg.ABL_USCH_JOB j 40 8 * 2 ^ 40)
  else a

/-- Release what a job holds at a sentinel (R283): its sync objects, group entries and rank runs; how many. (DESIGN CHOICE: log 49.) -/
def Abl.jobRelease (a : Abl) (j : Nat) : Abl × Nat :=
  let tag := a.n.fld Reg.ABL_JOB j 0 32
  let gs := (List.range 512).filter fun g => a.n.bit Reg.ABL_GROUP g 255 && a.n.fld Reg.ABL_GROUP g 240 6 == j
  let objs := (a.n.sync.objs.filter fun o => o.st == 1 && o.jobtag == tag).length
  let a := gs.foldl (fun b g => b.groupFree g) a
  let a := a.on fun n => (n.releaseJob tag).1
  let ks := (List.range 1024).filter fun k => a.n.bit Reg.ABL_RANKMAP k 127 && a.n.fld Reg.ABL_RANKMAP k 112 6 == j
  (a.on fun n => ks.foldl (fun m k => m.wr Reg.ABL_RANKMAP k 0) n, objs + gs.length + ks.length)

/-- A tray that changes parent queries the home gates of the groups that it mirrors (R280). -/
def Abl.queryGates (a : Abl) : Abl :=
  a.on fun n =>
    let gs := (List.range 512).filter fun g => n.bit Reg.ABL_GROUP g 255 && n.fld Reg.ABL_GROUP g 128 32 != 0
    gs.foldl (fun m g => [0, 1].foldl (fun m i =>
      let o := m.obj (m.fld Reg.ABL_GROUP g 128 32 % 8192 + i)
      m.postTo o.jobtag (m.fld Reg.ABL_GROUP g 192 20) 0 0x15 0x0010 651
        (syncPayload o.jobtag (m.fld Reg.ABL_GROUP g 160 32 + i) (7 + 128) o.attempt (m.fld Reg.ABL_GROUP g 224 16) o.epoch 0)) m) n

end Sys2Proof.Machine
end

