-- ==== Sys2Proof/Machine/AbftOps.lean ====
section
/-!
DEFINITION. The die's side of chapter 11: the ABFT Checker (R378 to R384), the choice of tiles (R385, R386), the Snoop DMA
(R388 to R395), condition cells (R405), and the close of an epoch (R277).
-/

namespace Sys2Proof.Machine

/-! ## Condition cells, attempts and epochs -/

/-- TBIN of a unit now (R405). -/
def Ddu.tbin (d : Ddu) (u : Nat) : Nat :=
  let m := d.rd Reg.DDU_UNIT_DIODE u
  let c := m % 64
  let t := if bit m 31 && !d.chanDead c then some (sensVal c (d.n.fld Reg.DDU_SNS_VALUE c 16 16)) else d.tMax
  match t with
  | some t => ((List.range 7).filter fun i => decide (toInt 16 (d.rd Reg.DDU_CELL_TEDGE i) ≤ t)).length
  | none => Config.tbinOpen u % 8

/-- LCLASS now (R405). -/
def Ddu.lclass (d : Ddu) : Nat :=
  let c := d.capW
  if c = 0 then 15 else min 15 (16 * d.rd Reg.DDU_PWR_USED / (c * 1000))

/-- The condition cell of a unit now (R405). -/
def Ddu.cellOf (d : Ddu) (u : Nat) : Nat := 16 * d.tbin u + d.lclass

/-- The attempt that R381 assigns to an epoch; none for a stale one. -/
def Ddu.attemptOf (d : Ddu) (epoch : Nat) : Option Nat :=
  let o := d.n.obj (d.job.pair + epoch % 2)
  if o.st ≠ 1 || !o.armed then none
  else if o.epoch = epoch then some o.attempt
  else if o.epoch = (epoch + 2 ^ 32 - 2) % 2 ^ 32 then some 0
  else none

/-- The counts of an epoch's attempt. -/
def AbftX.ep (x : AbftX) (e a : Nat) : EpochX := (x.epochs.find? fun y => y.epoch == e && y.attempt == a).getD { epoch := e, attempt := a }

/-- Replace them. -/
def AbftX.putEp (x : AbftX) (y : EpochX) : AbftX :=
  { x with epochs := y :: x.epochs.filter fun z => !(z.epoch == y.epoch && z.attempt == y.attempt) }

/-- Change them. -/
def Ddu.onEp (d : Ddu) (e a : Nat) (f : EpochX → EpochX) : Ddu := { d with chk := d.chk.putEp (f (d.chk.ep e a)) }

/-- Change what is known of one tile. -/
def EpochX.onTile (x : EpochX) (t : Nat) (f : TileX → TileX) : EpochX :=
  let old := (x.tiles.find? fun y => y.tile == t).getD { tile := t, unit := 0xFFFF, cell := 0 }
  { x with tiles := f old :: x.tiles.filter fun y => y.tile != t }

/-- The suspect mask in force for an epoch, as words (R387): the staged one for an epoch after one whose close is under way; else that of
DDU_SUSPECT, or for an epoch before SUSPECT_FROM the newest earlier one that held for it. (DESIGN CHOICE: log 57.) -/
def Ddu.maskOf (d : Ddu) (epoch : Nat) : List Nat :=
  let words (r : RegDef) : List Nat := (List.range 16).map fun w => d.rd r w
  if d.chk.closing.any fun c => decide (0 < dist32 epoch c.1) then words Reg.DDU_SUSPECT_NEXT
  else if 0 ≤ dist32 epoch (d.rd Reg.DDU_SNOOP_SUSPECT_FROM) || d.chk.masks.isEmpty then words Reg.DDU_SUSPECT
  else match d.chk.masks.find? fun m => decide (0 ≤ dist32 epoch m.1) with
    | some m => m.2
    | none => (d.chk.masks.getLastD (0, [])).2

/-- Whether it has a unit's bit. -/
def Ddu.suspect (d : Ddu) (epoch unit : Nat) : Bool := bit ((d.maskOf epoch).getD (unit / 32) 0) (unit % 32)

/-- The staged mask takes effect from `e + 1` on (R387); the mask before it stays for the epochs that it held for. -/
def Ddu.maskCopy (d : Ddu) (e : Nat) : Ddu :=
  let from_ := d.rd Reg.DDU_SNOOP_SUSPECT_FROM
  let old := (List.range 16).map fun w => d.rd Reg.DDU_SUSPECT w
  let kept := if from_ = (e + 1) % 2 ^ 32 then d.chk.masks else (from_, old) :: d.chk.masks
  let d : Ddu := { d with chk := { d.chk with masks := kept.take 64 } }
  ((List.range 16).foldl (fun d w => d.wr Reg.DDU_SUSPECT w (d.rd Reg.DDU_SUSPECT_NEXT w)) d).wr Reg.DDU_SNOOP_SUSPECT_FROM 0 (e + 1)

/-- Whether R385 selects a tile. -/
def Ddu.selected (d : Ddu) (epoch tile unit : Nat) : Bool :=
  let k := d.n.fld Reg.DDU_SNOOP_CTRL 0 0 4
  let k := if d.suspect epoch unit then k - 2 else k
  crc32c (le 4 epoch ++ le 4 tile) % 2 ^ k == 0

/-- One more record of an epoch's attempt, for EPOCH_FENCE (R284). -/
def Ddu.sentNote (d : Ddu) (e a : Nat) : Ddu :=
  let k := match d.job.sent.find? fun x => x.1 == e && x.2.1 == a with | some x => x.2.2 | none => 0
  { d with job := { d.job with sent := (e, a, k + 1) :: d.job.sent.filter fun x => !(x.1 == e && x.2.1 == a) } }

/-- Write SNOOP_SKIPPED (R419) and count the tile. -/
def Ddu.snoopSkipped (d : Ddu) (e tile unit cause a : Nat) : Ddu :=
  let d := d.onEp e a fun x => ({ x with skipped := x.skipped + 1, missing := x.missing + b2n (cause == 4) } : EpochX).onTile tile
    fun t => { t with skipped := true }
  let jt := d.jobTag
  ((d.on fun n => n.count 0xF43).on fun n => n.emit jt 0 0x18 0x0002 503 (le 4 jt ++ le 4 e ++ le 4 tile ++ le 2 unit ++ [cause, a])).sentNote e a

/-- An access outside the regions of R57 is suppressed: counted, and a severe fault on the link and snoop unit. (DESIGN CHOICE: log 58.) -/
def Ddu.fabricViolation (d : Ddu) : Ddu := (d.bump Reg.DDU_FABRIC_VIOLATION).on fun n => n.fault 503 0 2 (n.rd Reg.DDU_JOB_TAG) 0

/-- Whether a range lies inside one snoop window (R57). (DESIGN CHOICE: log 58.) -/
def Ddu.inWindow (d : Ddu) (addr len : Nat) : Bool :=
  (List.range 8).any fun w =>
    let b := d.rd Reg.DDU_SNOOP_WIN_BASE w
    let z := d.rd Reg.DDU_SNOOP_WIN_SIZE w
    z != 0 && decide (b ≤ addr) && decide (addr + len ≤ b + z)

/-! ## Reports -/

/-- DDU_CHK_FIFO (R55). -/
def Ddu.chkView (d : Ddu) : Ddu :=
  let k := d.bnd.chkFifo.length
  d.on fun n => (n.setFld Reg.DDU_CHK_FIFO 0 0 11 k).setFld Reg.DDU_CHK_FIFO 0 16 11 (max k (n.fld Reg.DDU_CHK_FIFO 0 16 11))

/-- A report arrives (R55, R56, R75): discarded while DDU_ALIVE is 0, held by the host while the FIFO is full. (DEDUCED: log 21.) -/
def Ddu.reportAccept (d : Ddu) (r : Report) : Ddu :=
  if !d.alive then d
  else
    let d := d.arouse 6
    if d.bnd.chkFifo.length < 1024 then
      let cell := d.cellOf (r.unit % 512)
      { d with bnd := { d.bnd with chkFifo := d.bnd.chkFifo ++ [(r, cell)] }, chk := { d.chk with accepted := d.chk.accepted + 1 } }.chkView
    else (d.bump Reg.DDU_CHK_STALL).on fun n => n.count 0xF02

/-- The 64 bytes of a report (R54). -/
def reportBytes (r : Report) : List Nat :=
  le 4 r.jobtag ++ le 4 r.epoch ++ le 4 r.tile ++ [r.format % 256, r.flags % 256] ++ le 2 r.unit ++ le 8 r.rowRef ++ le 8 r.rowRes ++
    le 8 r.colRef ++ le 8 r.colRes ++ le 8 r.boundIn ++ zeros 8

/-- IEEE binary64. -/
def fp64 : FpFmt := ⟨11, 52, 1023, 3⟩

/-- `m 2^e` rounded upward to 53 bits. -/
def roundUp53 (m : Nat) (e : Int) : Fp :=
  if m < 2 ^ 53 then .fin false m e
  else
    let s := Nat.log2 m - 52
    .fin false ((m + 2 ^ s - 1) / 2 ^ s) (e + (s : Nat))

/-- TOL (R378): `mass` finite and not negative. (DESIGN CHOICE: log 57.) -/
def chkTol (format k : Nat) (mass : Fp) : Fp :=
  let blocks := (k + 31) / 32
  let nr := if format ≤ 8 then 2 * blocks else k + blocks
  match mass with
  | .fin _ m e => if k = 0 then .fin false 0 0 else roundUp53 ((nr + 4) * m) (e - 23)
  | _ => .fin false 0 0

/-- Whether a pair of binary64 values matches within TOL (R378, R379). (DESIGN CHOICE: log 57.) -/
def pairOk (tol : Fp) (ref res : Nat) : Bool :=
  match fp64.decode ref, fp64.decode res with
  | .nan, .nan => true
  | .inf a, .inf b => a == b
  | .fin s m e, .fin t k f =>
    let diff := match (Fp.fin s m e).add (Fp.fin t k f).neg with | .fin _ m e => Fp.fin false m e | x => x
    !tol.lt diff
  | _, _ => false

/-- What the checker finds in a report (R378 to R380). -/
structure ChkFound where
  malformed : Bool
  unbounded : Bool
  row : Bool
  col : Bool
  tol : Nat

/-- Compare a report. (DESIGN CHOICE: log 57.) -/
def reportFind (r : Report) (rowRes : Nat) : ChkFound :=
  let isInt := fmtInt r.format
  let mass := ofF32 (r.boundIn % 2 ^ 32)
  let k := bits r.boundIn 32 32
  let negative := match mass with | .inf n => n | .fin n m _ => n && m != 0 | .nan => false
  let bad := r.format == 0 || decide (11 < r.format) || (isInt && r.boundIn != 0) || (!isInt && negative)
  if bad then ⟨true, false, false, false, 0⟩
  else if isInt then ⟨false, false, r.rowRef != rowRes, r.colRef != r.colRes, 0⟩
  else if mass == .nan || mass == .inf false then ⟨false, true, false, false, 0⟩
  else
    let tol := chkTol r.format k mass
    ⟨false, false, !pairOk tol r.rowRef rowRes, !pairOk tol r.colRef r.colRes, fp64.encode tol⟩

/-- Check a report under its attempt (R378 to R384). -/
def Ddu.reportCheck (d : Ddu) (r : Report) (cell a : Nat) : Ddu :=
  let unit := r.unit % 512
  let e := r.epoch
  let inj := d.n.fld Reg.DDU_CHK_CTRL 0 0 16
  let d := if inj = 0 then d else d.on fun n => n.setFld Reg.DDU_CHK_CTRL 0 0 16 (inj - 1)
  let rowRes := if inj = 0 then r.rowRes else r.rowRes ^^^ 1
  let f := reportFind r rowRes
  let miss := f.malformed || f.row || f.col
  let sel := d.selected e r.tile unit
  let d := d.onEp e a fun x =>
    let first := !x.tiles.any fun t => t.tile == r.tile && t.rep
    ({ x with checked := x.checked + 1, mismatches := x.mismatches + b2n miss, unbounded := x.unbounded + b2n f.unbounded,
              selected := x.selected + b2n (sel && first) } : EpochX).onTile r.tile fun t => { t with unit := unit, cell := cell, sel := sel, rep := true }
  let d : Ddu := { d with chk := { d.chk with reps := (e, r.tile, unit) :: d.chk.reps } }
  let d := d.on fun n => (n.wr Reg.DDU_CHK_CHECKED 0 (n.rd Reg.DDU_CHK_CHECKED + 1)).count 0xF00
  let d := if f.unbounded then d.bump Reg.DDU_CHK_UNBOUNDED else d
  if !miss then d
  else
    let d := if f.malformed then d.bump Reg.DDU_CHK_MALFORMED else d
    let d := ((d.bump Reg.DDU_CHK_MISMATCH).on fun n => n.count 0xF01).trcFire 4 0
    let d := if d.rd Reg.DDU_CHK_LAST = 0 then d.wr Reg.DDU_CHK_LAST 0 (leNat (reportBytes r)) else d
    if 8 ≤ (d.chk.ep e a).sent then d
    else
      let d := d.onEp e a fun x => { x with sent := x.sent + 1 }
      let which := b2n f.row + 2 * b2n f.col + 4 * b2n f.malformed + 8 * b2n (inj != 0)
      let (ref, res) := if f.col && !f.row then (r.colRef, r.colRes) else (r.rowRef, rowRes)
      (d.on fun n => n.emit r.jobtag 0 0x18 0x0003 507 (le 4 r.jobtag ++ le 4 e ++ le 4 r.tile ++ [r.format % 256, which] ++ le 2 unit ++
        [cell, a] ++ zeros 6 ++ le 8 ref ++ le 8 res ++ le 8 f.tol)).sentNote e a

/-- The checker takes the next report (R56, R381). (DESIGN CHOICE: log 57.) -/
def Ddu.abftCheck (d : Ddu) : Ddu :=
  match d.bnd.chkFifo with
  | [] => d
  | (r, cell) :: rest =>
    if !d.n.bit Reg.DDU_STATUS 0 2 || d.n.bit Reg.DDU_SUBRESET 0 8 then d
    else
      let d := ({ d with bnd := { d.bnd with chkFifo := rest } } : Ddu).chkView
      if r.jobtag ≠ d.jobTag then d.bump Reg.DDU_SYNC_MISMATCH
      else match d.attemptOf r.epoch with
        | some a => d.reportCheck r cell a
        | none => d.bump Reg.DDU_SYNC_STALE

/-! ## The Snoop DMA -/

/-- Fields of a slot (R394). -/
def slotTag (v : Nat) : Nat := bits v 0 32
def slotEpoch (v : Nat) : Nat := bits v 32 32
def slotTile (v : Nat) : Nat := bits v 64 32
def slotUnit (v : Nat) : Nat := bits v 96 9
def slotAddr (v r : Nat) : Nat := bits v (256 + 128 * r) 64
def slotLen (v r : Nat) : Nat := bits v (320 + 128 * r) 32

/-- A tile is posted in slot `s` (R388): the conditions in order, then PEND. -/
def Ddu.snoopPost (d : Ddu) (s : Nat) : Ddu :=
  let v := d.rd Reg.DDU_SNOOP_SLOT s
  let e := slotEpoch v
  let t := slotTile v
  let u := slotUnit v
  if !d.n.bit Reg.DDU_SNOOP_CTRL 0 31 || d.n.bit Reg.DDU_SNOOP_PEND 0 s || d.n.bit Reg.DDU_SUBRESET 0 7 then d.bump Reg.DDU_SNOOP_REFUSED
  else if slotTag v ≠ d.jobTag then d.bump Reg.DDU_SYNC_MISMATCH
  else match d.attemptOf e with
    | none => d.bump Reg.DDU_SYNC_STALE
    | some a =>
      if !d.selected e t u then d.bump Reg.DDU_SNOOP_UNSELECTED
      else if (List.range 4).any fun r => slotLen v r != 0 && !d.inWindow (slotAddr v r) (slotLen v r) then
        (d.fabricViolation).snoopSkipped e t u 2 a
      else
        let cell := match (d.chk.ep e a).tiles.find? fun x => x.tile == t && x.rep with
          | some x => x.cell
          | none => match d.bnd.chkFifo.find? fun r => r.1.jobtag == d.jobTag && r.1.epoch == e && r.1.tile == t with
            | some r => r.2
            | none => d.cellOf u
        let d := (d.on fun n => n.setB Reg.DDU_SNOOP_PEND 0 s true).fastStart
        let d : Ddu := { d with chk := { d.chk with slots := d.chk.slots ++ [{ slot := s, val := v, attempt := a, cell := cell }] } }
        d.onEp e a fun x => ({ x with snooped := x.snooped + 1 } : EpochX).onTile t fun y => { y with posted := true }

/-- Release a slot. -/
def Ddu.snoopFree (d : Ddu) (x : SnoopX) : Ddu :=
  { d.on fun n => n.setB Reg.DDU_SNOOP_PEND 0 x.slot false with chk := { d.chk with slots := d.chk.slots.filter fun y => y.slot != x.slot } }

/-- A slot ends without its bundle: SNOOP_SKIPPED, and the tile counts as skipped. -/
def Ddu.snoopDrop (d : Ddu) (x : SnoopX) (cause : Nat) : Ddu :=
  let e := slotEpoch x.val
  let d := (d.snoopFree x).onEp e x.attempt fun y => { y with snooped := y.snooped - 1 }
  d.snoopSkipped e (slotTile x.val) (slotUnit x.val) cause x.attempt

/-- Payload of a SNOOP_DATA record (R392). (DESIGN CHOICE: log 58.) -/
def snoopBytes (v section_ sflags cell attempt offset : Nat) (data : List Nat) : List Nat :=
  le 4 (slotTag v) ++ le 4 (slotEpoch v) ++ le 4 (slotTile v) ++ [section_, sflags] ++ le 2 (slotUnit v) ++ [cell, attempt, 0, 0] ++ le 4 offset ++ data

/-- Bytes that the Snoop DMA has read (R80). -/
def Ddu.snoopRead (d : Ddu) (k : Nat) : Ddu :=
  let t := d.chk.readRem + k
  { d with chk := { d.chk with readRem := t % 64 } }.on fun n => n.count 0xF42 (t / 64)

/-- Send one section (R389, R390, R392). -/
def Ddu.sendSection (d : Ddu) (x : SnoopX) (sec : Nat) (data : List Nat) : Ddu :=
  let comp := d.n.bit Reg.DDU_SNOOP_CTRL 0 8
  let stream := if comp then deflate data else data
  (List.range ((stream.length + 4055) / 4056)).foldl (fun d i =>
    (d.on fun n => n.postUp (slotTag x.val) 5 0x18 0x0001 503
      (snoopBytes x.val sec (2 * b2n comp) x.cell x.attempt (4056 * i) ((stream.drop (4056 * i)).take 4056))).sentNote (slotEpoch x.val) x.attempt) d

/-- The next accepted slot is read and its sections sent (R389); `data` is what the host fabric answers for each range. (DESIGN CHOICE: log 58.) -/
def Ddu.snoopServe (d : Ddu) (data : List (List Nat)) : Ddu :=
  match d.chk.slots with
  | [] => d
  | x :: rest =>
    if x.served || !d.fabricOn || !d.fb.queue.isEmpty then d
    else
      let ranges := (List.range 4).filter fun r => slotLen x.val r != 0
      let ok := ranges.takeWhile fun r => d.inWindow (slotAddr x.val r) (slotLen x.val r)
      let sec (r : Nat) : List Nat := padTo (slotLen x.val r) (data.getD r [])
      let d := ok.foldl (fun d r => (d.snoopRead (slotLen x.val r)).sendSection x r (sec r)) d
      if ok.length < ranges.length then (d.fabricViolation).snoopDrop x 2
      else
        let get (r : Nat) : List Nat := if slotLen x.val r = 0 then [] else sec r
        let x := { x with served := true, lens := (List.range 4).map fun r => (get r).length, crcs := (List.range 4).map fun r => crc32c (get r) }
        { d with chk := { d.chk with slots := x :: rest } }

/-- The header record of a bundle (R357, R389). -/
def Ddu.snoopHeader (d : Ddu) (x : SnoopX) : List Nat :=
  let v := x.val
  le 4 (slotTag v) ++ le 4 (slotEpoch v) ++ le 4 (slotTile v) ++ le 4 (d.n.fld Reg.DDU_DIE_INDEX 0 0 17) ++ [bits v 120 8, x.attempt, 0, 0] ++
    le 2 (bits v 128 16) ++ le 2 (bits v 144 16) ++ le 4 (bits v 160 32) ++ [bits v 112 8, 0, 0, 0] ++ x.lens.flatMap (le 4) ++ x.crcs.flatMap (le 4)

/-- The last read of a slot completes (R389): PEND clears and the header record is sent. -/
def Ddu.snoopComplete (d : Ddu) : Ddu :=
  match d.chk.slots with
  | [] => d
  | x :: _ =>
    if !x.served then d
    else
      let d := d.snoopFree x
      let h := d.snoopHeader x
      let d := (d.on fun n => n.postUp (slotTag x.val) 5 0x18 0x0001 503 (snoopBytes x.val 0xFF 1 x.cell x.attempt 0 h)).sentNote
        (slotEpoch x.val) x.attempt
      d.wr Reg.DDU_SNOOP_SENT 0 (d.rd Reg.DDU_SNOOP_SENT + 1)

/-! ## Closing an epoch -/

/-- A closing marker is acted on (R277): `before` reports had been accepted when the marker was. (DESIGN CHOICE: log 57.) -/
def Ddu.epochClose (d : Ddu) (epoch before : Nat) : Ddu :=
  if d.jobState ≠ 1 then d.bump Reg.DDU_SYNC_MISMATCH
  else match d.attemptOf epoch with
    | none => d.bump Reg.DDU_SYNC_STALE
    | some a => { d with chk := { d.chk with closing := d.chk.closing ++ [(epoch, a, before)] } }

/-- The MISSING tiles of an epoch's attempt (R386). -/
def EpochX.missingTiles (x : EpochX) : List TileX := x.tiles.filter fun t => t.sel && t.rep && !t.posted && !t.skipped

/-- The oldest closing marker completes (R277, R284, R286, R386, R387, R419). -/
def Ddu.epochCloseDone (d : Ddu) : Ddu :=
  match d.chk.closing with
  | [] => d
  | (e, a, before) :: rest =>
    let waiting := decide (d.chk.accepted < before + d.bnd.chkFifo.length) || d.chk.slots.any fun x => slotEpoch x.val == e && x.attempt == a
    if waiting then d
    else
      let d : Ddu := { d with chk := { d.chk with closing := rest } }
      let jt := d.jobTag
      let d := (d.chk.ep e a).missingTiles.foldl (fun d t =>
        ((d.bump Reg.DDU_SNOOP_MISSING).snoopSkipped e t.tile t.unit 4 a).on fun n => n.fault 503 0 0 jt 0) d
      let x := d.chk.ep e a
      let k := d.n.fld Reg.DDU_SNOOP_CTRL 0 0 4
      let d := (d.on fun n => n.emit jt 0 0x18 0x0004 507 (le 4 jt ++ le 4 e ++ [a, k, 0, 0] ++ le 4 x.checked ++ le 4 x.mismatches ++ le 4 x.selected ++
        le 4 x.snooped ++ le 4 x.skipped ++ le 4 x.missing ++ le 4 x.unbounded)).sentNote e a
      let sent := match d.job.sent.find? fun y => y.1 == e && y.2.1 == a with | some y => y.2.2 | none => 0
      let was := d.n.txq.length
      let d := d.on fun n => n.postUp jt 0 0x15 0x0012 505 (le 4 jt ++ le 4 e ++ [a, 0, 0, 0] ++ le 4 sent)
      let d := d.on fun n => { n with txq := n.txq.mapIdx fun i t => if i < was then t else { t with ef := true } }
      let d : Ddu := { d with chk := { d.chk with epochs := d.chk.epochs.filter (fun y => !(y.epoch == e && y.attempt == a))
                                                  reps := d.chk.reps.filter fun y => decide (dist32 e y.1 ≤ 1) } }
      (d.maskCopy e).epochFences

/-- A write of a temperature edge (R405): out of order it is discarded. (DESIGN CHOICE: log 57.) -/
def Ddu.tedgeWrite (d : Ddu) (i v : Nat) : Ddu :=
  let edge (j : Nat) : Int := toInt 16 (if j = i then v else d.rd Reg.DDU_CELL_TEDGE j)
  if (List.range 6).all fun j => decide (edge j < edge (j + 1)) then d.wr Reg.DDU_CELL_TEDGE i (v % 65536) else d.bump Reg.DDU_ACCESS_DENIED

/-! ## Markers -/

/-- A marker arrives (R52, R53, R75): discarded while DDU_ALIVE is 0, held by the host while the FIFO is full. (DEDUCED: log 21.) -/
def Ddu.markerAccept (d : Ddu) (m : Nat) : Ddu :=
  if !d.alive then d
  else if 256 ≤ d.bnd.markFifo.length then d
  else
    let d := d.arouse 6
    let kind := bits m 60 4
    if kind = 0 || 4 < kind then { d with bnd := { d.bnd with markDropped := d.bnd.markDropped + 1 } }
    else
      let late := !d.bnd.markFifo.isEmpty || !d.n.bankRuns
      { d with bnd := { d.bnd with markFifo := d.bnd.markFifo ++ [(m, d.n.now, late, d.chk.accepted)] } }

/-- A skip marker (R60).  One of PHASE 1 whose skip epoch R381 finds stale is dropped and counted in DDU_SYNC_STALE. (DESIGN CHOICE: log 124.) -/
def Ddu.skipMarker (d : Ddu) (phase v : Nat) : Ddu :=
  match phase, d.bnd.skipEpoch with
  | 0, _ => { d with bnd := { d.bnd with skipEpoch := some v } }
  | 1, some e => match d.attemptOf e with
    | some a =>
      let unit := match d.chk.reps.find? fun t => t.1 == e && t.2.1 == v with
        | some t => t.2.2
        | none => match d.bnd.chkFifo.find? fun r => r.1.jobtag == d.jobTag && r.1.epoch == e && r.1.tile == v with
          | some r => r.1.unit % 512
          | none => 0xFFFF
      d.snoopSkipped e v unit 1 a
    | none => d.bump Reg.DDU_SYNC_STALE
  | _, _ => d.bump Reg.DDU_SYNC_MISMATCH

/-- A marker is taken from the FIFO (R95, R97, R138, R234, R277, R551). (DEDUCED: log 21.) -/
def Ddu.markerProcess (d : Ddu) : Ddu :=
  match d.bnd.markFifo with
  | [] => d
  | (m, stamp, late, before) :: rest =>
    if !d.n.bankRuns then d
    else
      let d : Ddu := { d with bnd := { d.bnd with markFifo := rest } }
      let tag := bits m 32 16
      let epoch := bits m 0 32
      let stream := bits m 54 6
      let phase := bits m 48 6
      let deferred := late || d.n.now != stamp
      let trig := d.rd Reg.DDU_TRC_TRIG_MARK
      let d := if bits trig 28 4 = bits m 60 4 && bits trig 0 16 = tag then d.trcFire 1 tag else d
      match bits m 60 4 with
      | 1 => if d.n.bit Reg.DDU_SNAP_CTRL 0 0 then d.snapStart stream tag epoch stamp deferred else d
      | 2 => if d.n.bit Reg.DDU_SNAP_CTRL 0 0 then d.snapEnd stream tag epoch stamp deferred else d
      | 3 => d.phaseMarker phase
      | _ =>
        if tag = 0xFFFF then d.skipMarker phase epoch
        else if tag = 0xFFFE then d.epochClose epoch before
        else d.arrival epoch tag stamp

end Sys2Proof.Machine
end

