-- ==== Sys2Proof/Machine/BoundOps.lean ====
section
/-!
DEFINITION. Resets of the DDU (R70 to R78): sub-blocks in four stages, both domains, and the supply.
-/

namespace Sys2Proof.Machine

/-- The unit that owns a sub-block (R589). -/
def subUnit (bit : Nat) : Nat :=
  match bit with
  | 0 => 496 | 1 => 497 | 2 => 498 | 3 => 499 | 4 => 501 | 5 => 502 | 6 => 503 | 7 => 503 | 8 => 507 | 9 => 505 | _ => 506

/-- The sub-blocks that a RESET reaction of a unit resets (R464, R589). -/
def subBitsOf (unit : Nat) : List Nat := (List.range 11).filter fun b => subUnit b == unit

/-- Units of work that a sub-block has accepted and not finished (R72): a sensor sample, a feature pass, a matched report and a command of the
cores begin and end within one command here. (DESIGN CHOICE: log 22.) -/
def Ddu.subWork (d : Ddu) (bit : Nat) : Nat :=
  match bit with
  | 0 => d.streams.length
  | 2 => d.n.recx.hold.length
  | 3 => d.trc.staging.length
  | 4 => if d.bnd.regReq.isSome then 1 else 0
  | 6 => (d.n.lane 0 0).unacked.length + (d.n.txq.filter fun t => decide (0 < t.sent)).length
  | 7 => d.chk.slots.length + d.sec.slots.length
  | 9 => d.n.mb.posted.length
  | _ => 0

/-- What remains at the end of the drain stage, `left` units, is discarded (R72); a LINK reset counts its own loss (R201). (DESIGN CHOICE: log 22.) -/
def Ddu.subDiscard (d : Ddu) (bit left : Nat) : Ddu :=
  let d : Ddu := match bit with
    | 0 => d.snapDiscard
    | 2 => { d with n := { d.n with recx := { d.n.recx with hold := [] } } }
    | 3 => { d with trc := { d.trc with staging := [], inStage := false, draining := 0 } }
    | 4 => { d with bnd := { d.bnd with regReq := none } }
    | 7 => ({ d.chk.slots.foldl (fun d x => d.snoopDrop x 3) d with sec := { d.sec with slots := [] } } : Ddu).wr Reg.DDU_SEC_PEND 0 0
    | 9 => { d with n := d.n.setMb { d.n.mb with posted := [] } }
    | _ => d
  if bit = 6 then d else d.on fun n => n.loss left 0x0002 bit (some (subUnit bit))

/-- The registers of an address range back at reset, but for some. (DESIGN CHOICE: log 22.) -/
def Node.resetBut (n : Node) (lo hi : Nat) (keep : Nat → Bool) : Node :=
  { n with regs := n.regs.filter fun (p : Nat × Nat) => decide (p.1 < lo) || decide (hi ≤ p.1) || keep p.1 }

/-- A sub-block returns to its reset values, but for what R70 leaves untouched. (DEDUCED: log 21.) (DESIGN CHOICE: log 22.) (DESIGN CHOICE: log 65.) -/
def Ddu.subClear (d : Ddu) (bit : Nat) : Ddu :=
  match bit with
  | 0 =>
    let d := d.snapDiscard
    let mode2 := (List.range 2048).filter fun i => d.n.fld Reg.DDU_CNT_SEL (2 * i) 12 2 == 2
    let d := d.on fun n => { (n.resetRegs 0x10000 0x18000).resetBut 0x1C000 0x1D000 (fun a => decide (0x1C320 ≤ a) && decide (a < 0x1C340)) with bw := [] }
    d.on fun n => mode2.foldl (fun n i => n.setB Reg.DDU_CNT_CHAINED (i / 32) (i % 32) true) n
  | 1 =>
    let dead := (List.range 152).filter fun c => d.n.bit Reg.DDU_SNS_STATE c 31
    let d : Ddu := { d with sens := {} }
    d.on fun n => dead.foldl (fun n c => n.setB Reg.DDU_SNS_STATE c 31 true)
      (n.resetBut 0x20000 0x30000 fun a => decide (a < 0x20000 + 32 * 152) && (a - 0x20000) % 32 == 0x14)
  | 2 =>
    let buckets := d.n.recx.buckets.map fun b => { b with pend := 0, first := 0 }
    { d with n := { d.n.resetRegs 0x30000 0x34000 with recx := { buckets := buckets, waiting := d.n.recx.waiting } } }
  | 3 =>
    let d := d.trcClear
    { d.on (fun n => n.resetBut 0x40000 0x50000 fun a => decide (0x40038 ≤ a) && decide (a < 0x40048)) with trc := { trigSeq := d.trc.trigSeq } }
  | 4 => d.pwrReset
  | 5 => (d.on fun n => n.resetRegs 0x70000 0x74000).lrbReset
  | 6 => d.on fun n => ((n.portReset 0).resetBut 0x80000 0x81000 fun a => a == 0x80004 || a == 0x80010 || a == 0x80058).portCtrl 0
  | 7 =>
    let ctl := d.rd Reg.DDU_SNOOP_CTRL
    let d : Ddu := { d with chk := { d.chk with slots := [] }, sec := { d.sec with slots := [] } }
    let d := d.wr Reg.DDU_SEC_PEND 0 0
    d.on fun n => (n.resetRegs 0x81000 0x82000).wr Reg.DDU_SNOOP_CTRL 0 (setBit (ctl % 2 ^ 32) 8 true)
  | 8 => { d with chk := { d.chk with epochs := [], closing := [], reps := [] } }.on fun n => n.resetRegs 0xC0000 0xD0000
  | 9 => d.on fun n => (n.setMb { n.mb with posted := [], resps := [], area := [], rev := none }).resetRegs 0xA5000 0xA5010
  | _ => d.on fun n => { n.resetRegs 0xB0000 0xB8000 with aic := {}, mc := {} }

/-- Start sub-block resets (R72, R73): `discard` gives the mode of each bit. -/
def Ddu.subStart (d : Ddu) (bs : List Nat) (discard : Nat → Bool) (cause : Nat) : Ddu :=
  (bs.filter fun b => !d.n.bit Reg.DDU_SUBRESET 0 b).foldl (fun d b =>
    let run : ResetRun := { bit := b, mode := b2n (discard b), cause := cause, inFlight := d.subWork b, began := d.n.local,
                            drained := discard b, discarded := if discard b then d.subWork b else 0 }
    let d := d.on fun n => { n.setB Reg.DDU_SUBRESET 0 b true with resets := n.resets ++ [run] }
    if discard b then d.subDiscard b run.inFlight else d) d

/-- A write of DDU_SUBRESET (R72 to R74). -/
def Ddu.subWrite (d : Ddu) (v cause : Nat) : Ddu :=
  if d.n.fld Reg.DDU_STATUS 0 8 3 = 4 then d.bump Reg.DDU_ACCESS_DENIED
  else d.subStart (setBitsOf 11 v) (fun b => d.n.bit Reg.DDU_SUBRESET_MODE 0 b) cause

/-- The drain stage of a sub-block ends (R72). (DESIGN CHOICE: log 4.) -/
def Ddu.subDrainEnd (d : Ddu) (b : Nat) : Ddu :=
  match d.n.resets.find? fun r => r.bit == b && !r.drained with
  | none => d
  | some r =>
    let left := min r.inFlight (d.subWork b)
    let r := { r with drained := true, discarded := left, done := r.inFlight - left }
    ({ d with n := { d.n with resets := r :: d.n.resets.filter fun x => x.bit != b } } : Ddu).subDiscard b left

/-- The sub-block is at its reset values (R72): DONE and SUBRESET_DONE (R589). -/
def Ddu.subDone (d : Ddu) (b : Nat) : Ddu :=
  match d.n.resets.find? fun r => r.bit == b && r.drained with
  | none => d
  | some r =>
    let d := d.subClear b
    let d : Ddu := { d with n := { d.n with resets := d.n.resets.filter fun x => x.bit != b } }
    d.on fun n => ((n.setB Reg.DDU_SUBRESET 0 b false).setB Reg.DDU_SUBRESET_DONE 0 b true).storeWaiting.emit 0 1 0x1D 0x0005 (subUnit b)
      ([b, r.mode, r.cause, 0] ++ le 4 r.done ++ le 4 r.discarded ++ le 4 ((n.local - r.began) / 1000))

/-- Both domains as they are in reset (R77, R682): the pins and the die ledger's MRAM stay. -/
def Ddu.cold (d : Ddu) : Ddu :=
  let n : Node := { dev := .ddu }
  let n := match d.bnd.fused with | some k => n.setFld Reg.DDU_STATUS 0 8 3 k | none => n
  { n := n,
    bnd := { fused := d.bnd.fused, hostActive := d.bnd.hostActive, aonPgood := d.bnd.aonPgood, corePgood := d.bnd.corePgood, resetN := d.bnd.resetN,
             engineBusy := d.bnd.engineBusy },
    led := { d.led with image := {} } }

/-- DDU_RESET_N is released (R681): the die ledger mounts, the lane waits in DETECT, and a HOST_ACTIVE that is high starts the fast domain (R47). -/
def Ddu.release (d : Ddu) : Ddu :=
  if !d.bnd.aonPgood then d
  else
    let d : Ddu := { d with bnd := { d.bnd with resetN := false } }
    let d := if d.bnd.hostActive then d.hostRise else d
    if d.n.fld Reg.DDU_DL_STATUS 0 0 3 ≠ 0 then d
    else
      let d := d.on fun n => ((n.setFld Reg.DDU_DL_STATUS 0 0 3 1).modLane 0 0 fun l =>
        if l.st = lsDisabled then { l with st := lsDetect } else l)
      d.on fun n => n.setFld (Reg.LNK_STATUS .ddu) 0 0 4 (n.lane 0 0).st

/-- DDU_ALIVE rises (R78): a time sample has arrived and the die ledger has passed its mount check. -/
def Ddu.aliveRaise (d : Ddu) : Ddu :=
  let m := d.n.fld Reg.DDU_DL_STATUS 0 0 3
  if d.live && d.n.timeState != tsUnaligned && (m == 2 || m == 3) then
    d.on fun n => (n.setB Reg.DDU_STATUS 0 3 true).setB Reg.DDU_STATUS 0 4 false
  else d

/-! ## The outputs at the boundary -/

/-- Whether the clamps hold the always-on outputs, which R78 releases with DDU_ALIVE, and the fast-domain ones (R75). -/
def Ddu.isoAon (d : Ddu) : Bool := !d.alive || d.n.bit Reg.DDU_STATUS 0 4
def Ddu.isoFast (d : Ddu) : Bool := !d.live || !d.fastUp

/-- DDU_IRQ[7:0] (R63): a line is high while its bit is set in STATUS and in ENABLE. -/
def Ddu.irqLines (d : Ddu) : Nat := if d.isoAon then 0 else (d.rd Reg.DDU_HOST_IRQ_STATUS &&& d.rd Reg.DDU_HOST_IRQ_ENABLE) % 256

/-- CHK_READY and MARK_READY (R52, R55, R75). -/
def Ddu.chkReady (d : Ddu) : Bool := d.isoAon || decide (d.bnd.chkFifo.length < 1024)
def Ddu.markReady (d : Ddu) : Bool := d.isoAon || decide (d.bnd.markFifo.length < 256)

/-- CLK_STRETCH (R61, R75): outside the clamp the droop path drives it whenever the always-on domain is up. -/
def Ddu.stretchOut (d : Ddu) : Bool := !d.isoAon && d.bnd.clkStretch

/-- THROTTLE[31:0], SNOOP_PEND[15:0] and the setpoint that REG_REQ carries (R75). -/
def Ddu.throttleOut (d : Ddu) : Nat := if d.isoFast then 0 else d.rd Reg.DDU_PWR_LEVEL
def Ddu.snoopPendOut (d : Ddu) : Nat := if d.isoFast then 0 else d.rd Reg.DDU_SNOOP_PEND % 65536
def Ddu.regReqOut (d : Ddu) : Option Nat := if d.isoFast then none else d.bnd.regReq

/-- CORE_PGOOD falls (R543). -/
def Ddu.coreFall (d : Ddu) : Ddu := ({ d with bnd := { d.bnd with corePgood := false } } : Ddu).toSlack 2

end Sys2Proof.Machine
end

