-- ==== Sys2Proof/Machine/RedOps.lean ====
section
/-!
DEFINITION. The Reduction Engine (R219 to R238, R256): operators, windows, frames, admission, baselines, barrier instances
and stragglers.
-/

namespace Sys2Proof.Machine

/-! ## Operators -/

/-- SRC of no die (R221). -/
def srcNone : Int := 2 ^ 31

/-- The empty state of an operator (R220). -/
def redEmpty (op : Nat) : RedEnt :=
  { vals := match op with
      | 1 => [2 ^ 63 - 1, srcNone]
      | 2 => [-(2 ^ 63), srcNone]
      | 4 => [0, 0]
      | 5 => List.replicate 256 0
      | 6 => []
      | _ => [0] }

/-- `x` held to a range, and whether it was outside. -/
def clampTo (lo hi x : Int) : Int × Bool := if x < lo then (lo, true) else if hi < x then (hi, true) else (x, false)

/-- Saturation of SUM (R221). -/
def satSum (x : Int) : Int × Bool := clampTo (-(2 ^ 63 - 1)) (2 ^ 63 - 1) x

/-- The bucket of a value (R222). -/
def bucketOf (v : Int) : Nat :=
  if v < 8 then v.toNat
  else
    let e := Nat.log2 v.toNat
    if 33 < e then 255 else 8 * (e - 2) + v.toNat / 2 ^ (e - 3) % 8

/-- Whether a value's place in the histogram sets SAT (R222). -/
def bucketSat (v : Int) : Bool := decide (v < 0) || decide (2 ^ 34 ≤ v)

/-- The pairs of a TOPK state. -/
def pairsOf : List Int → List (Int × Int)
  | a :: b :: t => (a, b) :: pairsOf t
  | _ => []

/-- Order of TOPK: larger values first, and the lower die among equals (R221). -/
def topLess (a b : Int × Int) : Bool := decide (b.1 < a.1) || (decide (a.1 = b.1) && decide (a.2 < b.2))

/-- Insert a pair into an ordered list and keep `k`. -/
def topInsert (k : Nat) (l : List (Int × Int)) (p : Int × Int) : List (Int × Int) :=
  (l.takeWhile (fun x => topLess x p) ++ p :: l.dropWhile (fun x => topLess x p)).take k

/-- The smaller or larger of two (VALUE, SRC), the lower die among equals (R221). -/
def pickMin (a b : Int × Int) : Int × Int := if a.1 < b.1 || (a.1 = b.1 && a.2 ≤ b.2) then a else b
def pickMax (a b : Int × Int) : Int × Int := if b.1 < a.1 || (a.1 = b.1 && a.2 ≤ b.2) then a else b

/-- Element `i` of a state. -/
def RedEnt.v (e : RedEnt) (i : Nat) : Int := e.vals.getD i 0

/-- Insert one raw value of die `src` (R220, R223). -/
def RedEnt.insert (e : RedEnt) (op param : Nat) (x : Int) (src : Nat) (withheld : Bool) : RedEnt :=
  let e := { e with n := e.n + 1 }
  if withheld then { e with withheld := true }
  else
    match op with
    | 0 =>
      let (s, o) := satSum (e.v 0 + x)
      { e with vals := [s], sat := e.sat || o }
    | 1 =>
      let p := pickMin (e.v 0, e.v 1) (x, src)
      { e with vals := [p.1, p.2] }
    | 2 =>
      let p := pickMax (e.v 0, e.v 1) (x, src)
      { e with vals := [p.1, p.2] }
    | 3 => { e with vals := [e.v 0 + if toInt 24 param ≤ x then 1 else 0] }
    | 4 =>
      let (y, o) := clampTo (-(2 ^ 31 - 1)) (2 ^ 31 - 1) x
      let (s, o1) := satSum (e.v 0 + y)
      let (q, o2) := clampTo 0 (2 ^ 128 - 1) (e.v 1 + y * y)
      { e with vals := [s, q], sat := e.sat || o || o1 || o2 }
    | 5 =>
      let b := bucketOf x
      let full := decide (2 ^ 32 - 1 ≤ e.v b)
      { e with vals := modifyAt e.vals b (fun k => if full then k else k + 1), sat := e.sat || full || bucketSat x }
    | 6 => { e with vals := (topInsert (min 16 param) (pairsOf e.vals) (x, src)).flatMap fun p => [p.1, p.2] }
    | _ => e

/-- Merge two states of one operator (R220, R221). -/
def RedEnt.merge (op param : Nat) (a b : RedEnt) : RedEnt :=
  let e := { a with n := a.n + b.n, sat := a.sat || b.sat, missed := a.missed || b.missed, withheld := a.withheld || b.withheld }
  match op with
  | 0 =>
    let (s, o) := satSum (a.v 0 + b.v 0)
    { e with vals := [s], sat := e.sat || o }
  | 1 =>
    let p := pickMin (a.v 0, a.v 1) (b.v 0, b.v 1)
    { e with vals := [p.1, p.2] }
  | 2 =>
    let p := pickMax (a.v 0, a.v 1) (b.v 0, b.v 1)
    { e with vals := [p.1, p.2] }
  | 3 => { e with vals := [a.v 0 + b.v 0] }
  | 4 =>
    let (s, o1) := satSum (a.v 0 + b.v 0)
    let (q, o2) := clampTo 0 (2 ^ 128 - 1) (a.v 1 + b.v 1)
    { e with vals := [s, q], sat := e.sat || o1 || o2 }
  | 5 =>
    let sums := (a.vals.zip b.vals).map fun p => p.1 + p.2
    { e with vals := sums.map fun x => min x (2 ^ 32 - 1), sat := e.sat || sums.any fun x => decide (2 ^ 32 - 1 < x) }
  | 6 => { e with vals := ((pairsOf b.vals).foldl (topInsert (min 16 param)) (pairsOf a.vals)).flatMap fun p => [p.1, p.2] }
  | _ => e

/-- The bytes of an entry (R220, R223). -/
def RedEnt.bytes (e : RedEnt) (m op : Nat) : List Nat :=
  let fl := b2n e.sat + 2 * b2n e.missed + 4 * b2n e.withheld
  let i8 (x : Int) : List Nat := le 8 (ofInt 64 x)
  le 2 m ++ [op, fl] ++ le 4 e.n ++
    match op with
    | 1 | 2 => i8 (e.v 0) ++ le 4 (e.v 1).toNat ++ zeros 4
    | 4 => i8 (e.v 0) ++ le 16 (e.v 1).toNat
    | 5 => e.vals.flatMap fun x => le 4 x.toNat
    | 6 =>
      let ps := pairsOf e.vals
      (ps ++ List.replicate (16 - ps.length) (0, srcNone)).flatMap fun (p : Int × Int) => i8 p.1 ++ le 4 p.2.toNat ++ zeros 4
    | _ => i8 (e.v 0)

/-- The length of an entry by operator (R223). -/
def redLen (op : Nat) : Nat :=
  match op with
  | 1 | 2 => 24
  | 4 => 32
  | 5 => 1032
  | 6 => 264
  | _ => 16

/-- An entry read from a frame (R223). -/
def redOfBytes (b : List Nat) : Nat × Nat × RedEnt :=
  let op := b.getD 2 0
  let fl := b.getD 3 0
  let st := b.drop 8
  let i8 (o : Nat) : Int := toInt 64 (leAt st o 8)
  (leAt b 0 2 % 4096, op,
   { n := leAt b 4 4, sat := bit fl 0, missed := bit fl 1, withheld := bit fl 2,
     vals := match op with
       | 1 | 2 => [i8 0, (leAt st 8 4 : Nat)]
       | 3 => [(leAt st 0 8 : Nat)]
       | 4 => [i8 0, (leAt st 8 16 : Nat)]
       | 5 => (List.range 256).map fun i => ((leAt st (4 * i) 4 : Nat) : Int)
       | 6 => (List.range 16).flatMap fun i => if bit (leAt st (16 * i + 8) 4) 31 then [] else [i8 (16 * i), (leAt st (16 * i + 8) 4 : Nat)]
       | _ => [i8 0] })

/-- The entries of one part of a frame. -/
def redEntries : Nat → List Nat → List (Nat × Nat × RedEnt)
  | 0, _ => []
  | k + 1, b => redOfBytes b :: redEntries k (b.drop (redLen (b.getD 2 0)))

/-! ## Slots -/

/-- Fields of ABL_RED_METm (R256). -/
def Node.metValid (n : Node) (m : Nat) : Bool := n.bit Reg.ABL_RED_MET m 127
def Node.metOp (n : Node) (m : Nat) : Nat := n.fld Reg.ABL_RED_MET m 124 3
def Node.metTag (n : Node) (m : Nat) : Nat := n.fld Reg.ABL_RED_MET m 64 32
def Node.metOut (n : Node) (m : Nat) : Nat := n.fld Reg.ABL_RED_MET m 44 20
def Node.metIn (n : Node) (m : Nat) : Nat := n.fld Reg.ABL_RED_MET m 24 20
def Node.metParam (n : Node) (m : Nat) : Nat := n.fld Reg.ABL_RED_MET m 0 24

/-- Nanoseconds of a period. -/
def periodNs (p : Nat) : Nat := p * 100000

/-- Slots at work. -/
def Abl.metSlots (a : Abl) : List Nat := a.red.slots.map fun s => s.m

/-- The slot `m` at work. -/
def Abl.redSlot (a : Abl) (m : Nat) : Option RedSlot := a.red.slots.find? fun s => s.m == m

/-- Replace a slot. -/
def Abl.putRed (a : Abl) (s : RedSlot) : Abl :=
  { a with red := { a.red with slots := a.red.slots.map fun x => if x.m = s.m then s else x } }

/-- The cost of an operator in a role (R220, R229). -/
def redCost (role op : Nat) : Nat :=
  if role ≤ 1 then 1 else if op = 4 || op = 6 then 2 else if op = 5 then 16 else 1

/-- CHILDREN_MAX (R229). -/
def childrenMax (role : Nat) : Nat := if role ≤ 1 then 16 else 32

/-- The committed load of a list of (operator, IN period), rounded up once (R229). -/
def redLoad (role : Nat) (l : List (Nat × Nat)) : Nat :=
  let (num, den) := l.foldl (fun (acc : Nat × Nat) s =>
    let n := acc.1 * s.2 + redCost role s.1 * childrenMax role * 10 * acc.2
    let d := acc.2 * s.2
    let g := max 1 (Nat.gcd n d)
    (n / g, d / g)) (0, 1)
  (num + den - 1) / den

/-- The baseline cells of a group back to unseeded (R233). (DESIGN CHOICE: log 41.) -/
def Abl.baseReset (a : Abl) (ks : List Nat) : Abl :=
  let a : Abl := { a with red := { a.red with cells := a.red.cells.filter fun c => !ks.contains c.k } }
  a.on fun n => ks.foldl (fun m k => m.wr Reg.ABL_RED_BASE k 0) n

/-- Child slot `c` has taken a node of another identity: its baseline cells and straggler histories clear (R233, R238). -/
def Abl.childFresh (a : Abl) (c : Nat) : Abl :=
  (a.baseReset ((List.range 256).map fun g => 32 * g + c)).on fun n => (List.range 64).foldl (fun m j => m.wr Reg.ABL_RED_STRAG (32 * j + c) 0) n

/-- A write of a metric slot (R224, R229, R230, R256), and whether it is accepted. -/
def Abl.metTry (a : Abl) (m v : Nat) : Abl × Bool :=
  let op := bits v 124 3
  let inP := min 10000 (bits v 24 20)
  let outP := min 10000 (bits v 44 20)
  let bl := bit v 123 && op ≤ 4
  let idx := bits v 99 8
  let param := if op = 6 then min 16 (bits v 0 24) else if op = 3 then bits v 0 24 else 0
  let valid := bit v 127 && op ≠ 7
  let refuse := (a.on fun n => n.bump Reg.ABL_RED_REFUSED, false)
  let others := a.metSlots.filter fun k => k != m
  let clash := bl && others.any fun k => a.n.bit Reg.ABL_RED_MET k 123 && a.n.fld Reg.ABL_RED_MET k 99 8 == idx
  let load := redLoad a.n.role ((others.map fun k => (a.n.metOp k, a.n.metIn k)) ++ if valid then [(op, inP)] else [])
  if bit v 127 && op ≠ 7 && (inP = 0 || outP = 0 || outP % inP ≠ 0) then refuse
  else if clash then refuse
  else if valid && 65536 < load then refuse
  else
    let lost := match a.redSlot m with
      | some s => (s.wins.filter fun w => !w.2.isEmpty).length + s.outs.length
      | none => 0
    let old := a.n.rd Reg.ABL_RED_MET m
    let a := a.on fun n => n.loss lost 0x0121 m (some 640)
    let v' := setBits (setBits (setBits (setBits (setBits (setBits v 127 1 (b2n valid)) 123 1 (b2n bl)) 44 20 outP) 24 20 inP) 0 24 param) 96 3 0
    let a := a.on fun n => (n.wr Reg.ABL_RED_MET m v').wr Reg.ABL_RED_LOAD 0 load
    let now := if inP = 0 then 0 else a.n.tideline / periodNs inP
    let rest := a.red.slots.filter fun s => s.m != m
    let feeds (f : RedFrame) : Bool := rest.any fun s => a.n.metTag s.m == f.jobtag && a.n.metOut s.m == f.out
    let a : Abl := { a with red := { a.red with
      frames := a.red.frames.filter feeds
      slots := if valid then rest.takeWhile (fun s => decide (s.m < m)) ++ { m := m, next := now } :: rest.dropWhile (fun s => decide (s.m < m))
        else rest } }
    let groups := (if bit old 123 then [bits old 99 8] else []) ++ (if bl then [idx] else [])
    (a.baseReset (groups.flatMap fun g => (List.range 32).map fun c => 32 * g + c), true)

/-! ## Contributions -/

/-- The full index of a window whose low 32 bits are given, nearest to the current one. -/
def fullWindow (cur w32 : Nat) : Nat := ((cur : Int) + dist32 w32 (cur % 2 ^ 32)).toNat

/-- Whether a window is open for a slot: 0 open, 1 late, 2 early (R225). -/
def Abl.windowCase (a : Abl) (s : RedSlot) (w : Nat) : Nat :=
  let cur := a.n.tideline / periodNs (a.n.metIn s.m)
  if w < s.next then 1 else if cur + 1 < w then 2 else 0

/-- Change a child's contribution to a slot's window. -/
def RedSlot.give (s : RedSlot) (w c dies : Nat) (empty : RedEnt) (f : RedEnt → RedEnt) (raw : Int := 0) (hidden : Bool := false) :
    RedSlot :=
  let l := lookupD s.wins w []
  let l := if l.any fun g => g.c == c then
      l.map fun g => if g.c = c then { g with ent := f g.ent, dies := dies, raw := raw, hidden := hidden } else g
    else l ++ [{ c := c, dies := dies, ent := f empty, raw := raw, hidden := hidden }]
  { s with wins := bindKey s.wins w l }

/-- The slots that a frame of a JobTag may feed, or the count that its drop makes (R219). -/
def Abl.frameSlots (a : Abl) (t : Nat) : Option (List Nat) := 
  let l := a.metSlots.filter fun m => a.n.metTag m == t
  if l.isEmpty then none else some l

/-- Whether a frame's generation is older than the job's at this node (R258), or than that of a slot of its JOB_ID (R219). -/
def Abl.oldFrame (a : Abl) (t : Nat) : Bool :=
  a.n.jobCheck t == 1 || (jobId t != 0 && a.metSlots.any fun m => jobId (a.n.metTag m) == jobId t && genOlder (jobGen t) (jobGen (a.n.metTag m)))

/-- A frame that feeds no slot (R219): of an older generation it is stale, and of an unknown job it counts there (R258) beside the count of R219
where no slot has its JobTag. (DESIGN CHOICE: log 40.) -/
def Abl.unmatched (a : Abl) (t : Nat) : Abl :=
  let stale := a.oldFrame t
  let none_ := (a.frameSlots t).isNone
  let unknown := a.n.jobCheck t == 2
  a.on fun n =>
    if stale then n.bumpOf staleReg
    else
      let n := if unknown then n.bumpOf unknownReg else n
      if none_ then n.bump Reg.ABL_RED_UNMATCHED else n

/-- Count a frame's late or early contributions once each (R225). (DESIGN CHOICE: log 40.) -/
def Abl.countCases (a : Abl) (cases : List Nat) : Abl :=
  let a := if cases.contains 1 then a.on fun n => n.bump Reg.ABL_RED_LATE else a
  if cases.contains 2 then a.on fun n => n.bump Reg.ABL_RED_EARLY else a

/-- The entries of a DIE_SUMMARY (R218): the slot, the flags and the value of each. -/
def dieEnts (p : List Nat) : List (Nat × Nat × Int) :=
  (List.range (min 240 (leAt p 8 4))).map fun i =>
    (leAt p (16 + 16 * i) 2 % 4096, leAt p (18 + 16 * i) 2, toInt 64 (leAt p (24 + 16 * i) 8))

/-- One entry of a DIE_SUMMARY of child `c` for the window whose index ends in `w32` (R219, R225), and the late and early ones so far. -/
def Abl.dieEntry (slots : List Nat) (origin c w32 : Nat) (acc : Abl × List Nat) (e : Nat × Nat × Int) : Abl × List Nat :=
  match if slots.contains e.1 then acc.1.redSlot e.1 else none with
  | none => acc
  | some s =>
    let w := fullWindow (acc.1.n.tideline / periodNs (acc.1.n.metIn s.m)) w32
    let k := acc.1.windowCase s w
    if k = 0 then
      let op := acc.1.n.metOp s.m
      let hidden := bit e.2.1 0 || bit e.2.1 1
      let f (x : RedEnt) : RedEnt := x.insert op (acc.1.n.metParam s.m) e.2.2 (bits origin 0 17) hidden
      (acc.1.putRed (s.give w c 1 (redEmpty op) f e.2.2 hidden), acc.2)
    else (acc.1, k :: acc.2)

/-- A DIE_SUMMARY arrives (R218, R219, R225). (DESIGN CHOICE: log 40.) -/
def Abl.dieSummary (a : Abl) (origin : Nat) (p : List Nat) : Abl :=
  let t := leAt p 0 4
  match a.n.childOf origin with
  | none => a.on fun n => n.bump Reg.ABL_RED_UNMATCHED
  | some c =>
    match if a.n.jobCheck t ≠ 0 then none else a.frameSlots t with
    | none => a.unmatched t
    | some slots =>
      let r := (dieEnts p).foldl (Abl.dieEntry slots origin c (leAt p 4 4)) (a, [])
      r.1.countCases r.2

/-- One entry of a NODE_SUMMARY part of child `c` (R219, R225, R228), and the late and early ones so far. -/
def Abl.nodeEntry (slots : List Nat) (c period present w32 : Nat) (acc : Abl × List Nat) (e : Nat × Nat × RedEnt) : Abl × List Nat :=
  match if slots.contains e.1 && acc.1.n.metOp e.1 == e.2.1 && acc.1.n.metIn e.1 == period then acc.1.redSlot e.1 else none with
  | none => acc
  | some s =>
    let w := fullWindow (acc.1.n.tideline / periodNs period) w32
    let k := acc.1.windowCase s w
    if k = 0 then
      let op := acc.1.n.metOp s.m
      (acc.1.putRed (s.give w c present (redEmpty op) fun x => RedEnt.merge op (acc.1.n.metParam s.m) x e.2.2), acc.2)
    else (acc.1, k :: acc.2)

/-- DIES_EXPECTED of a child for a JobTag, as its last frame gives it (R226, R228). -/
def Abl.knownDies (a : Abl) (t c d : Nat) : Abl :=
  { a with red := { a.red with known := (t, c, d) :: a.red.known.filter fun k => !(k.1 == t && k.2.1 == c) } }

/-- A NODE_SUMMARY part arrives (R219, R226, R228). (DESIGN CHOICE: log 40.) -/
def Abl.nodeSummary (a : Abl) (origin : Nat) (p : List Nat) : Abl :=
  let t := leAt p 0 4
  match a.n.childOf origin with
  | none => a.on fun n => n.bump Reg.ABL_RED_UNMATCHED
  | some c =>
    match if a.n.jobCheck t ≠ 0 then none else a.frameSlots t with
    | none => a.unmatched t
    | some slots =>
      let r := (redEntries (min 253 (leAt p 24 4)) (p.drop 32)).foldl (Abl.nodeEntry slots c (leAt p 8 4) (leAt p 16 4) (leAt p 4 4))
        (a.knownDies t c (leAt p 12 4), [])
      r.1.countCases r.2

/-! ## Baselines -/

/-- A cell's own part. -/
def Abl.cell (a : Abl) (k : Nat) : BaseX := (a.red.cells.find? fun x => x.k == k).getD { k := k }

/-- The sample that a child's contribution gives (R231). -/
def RedEnt.sample (e : RedEnt) (op : Nat) : Option Int :=
  if op = 4 then (if e.n = 0 then none else some ((e.v 0).tdiv e.n)) else some (e.v 0)

/-- 64 bits of a baseline value; beyond them the spec states none. (DESIGN CHOICE: log 19.) -/
def baseBits (signed : Bool) (x : Int) : Nat :=
  if signed then (if -(2 ^ 63) ≤ x && x < 2 ^ 63 then ofInt 64 x else Config.baselineOverflow x)
  else if 0 ≤ x && x < 2 ^ 64 then x.toNat else Config.baselineOverflow x

/-- A DRIFT record (R232, R256). -/
def Abl.driftRec (a : Abl) (m c z : Nat) (cleared : Bool) (x : Int) : Abl :=
  let t := a.n.metTag m
  a.on fun n => (n.irq 26).emit t 1 0x14 0x0007 640
    (le 4 t ++ le 2 m ++ [z, b2n cleared] ++ le 4 (n.childNode c) ++ zeros 4 ++ le 8 (ofInt 64 x))

/-- One sample of child `c` at the close of slot `m` (R231, R232). -/
def Abl.baseSample (a : Abl) (m c : Nat) (x : Int) : Abl :=
  let v := a.n.rd Reg.ABL_RED_MET m
  let shift := bits v 119 4
  let thr := bits v 111 8
  let need := bits v 107 4
  let k := 32 * bits v 99 8 + c
  let cell := a.cell k
  let f : Int := a.n.rd Reg.ABL_RED_DEV_FLOOR * 256
  let put (a : Abl) (mm d : Int) (x : BaseX) : Abl :=
    { a with red := { a.red with cells := x :: a.red.cells.filter fun y => y.k != k } }.on fun n =>
      n.wr Reg.ABL_RED_BASE k (baseBits true mm * 2 ^ 64 + baseBits false d % 2 ^ 64)
  if cell.count = 0 then put a (x * 256) f { cell with count := 1, z := 0 }
  else
    let mm := toInt 64 (a.n.fld Reg.ABL_RED_BASE k 64 64)
    let d : Int := (a.n.fld Reg.ABL_RED_BASE k 0 64 : Nat)
    let e := x * 256 - mm
    let ae : Int := (e.natAbs : Nat)
    let div := max d f
    let z := if div = 0 then Config.driftZero e.natAbs % 256 else min 255 (4 * ae / div).toNat
    let seen := cell.count + 1
    let watch := decide (2 ^ shift < seen) && need != 0
    let hot := decide (thr ≤ z)
    let run := if !watch then 0 else if hot == cell.alarmed then 0 else cell.run + 1
    let flip := watch && decide (need ≤ run)
    let alarmed := if flip then !cell.alarmed else cell.alarmed
    let learn := !cell.alarmed && !flip
    let (mm', d') := if learn || (flip && cell.alarmed) then (mm + e / (2 ^ shift : Nat), d + (ae - d) / (2 ^ shift : Nat)) else (mm, d)
    let a := put a mm' d' { cell with count := seen, run := if flip then 0 else run, alarmed := alarmed, z := z }
    if flip then a.driftRec m c z cell.alarmed x else a

/-! ## Closing windows -/

/-- The children of a JobTag's windows: its members, and the adopted children whose frames have said what they carry (R34, R226). (DEDUCED: log 114.) -/
def Abl.span (a : Abl) (t : Nat) : List (Nat × Nat) :=
  a.members t ++ ((a.red.known.filter fun k => k.1 == t && decide (16 ≤ k.2.1) && a.adopted.contains k.2.1 &&
    !(a.members t).any fun p => p.1 == k.2.1).map fun k => (k.2.1, k.2.2))

/-- DIES_EXPECTED of the node for a JobTag (R226, R228). -/
def Abl.diesExpected (a : Abl) (t : Nat) : Nat :=
  ((a.span t).map fun (c, d) =>
    if a.n.role ≤ 1 then 1 else match a.red.known.find? fun k => k.1 == t && k.2.1 == c with
      | some k => k.2.2
      | none => d).sum

/-- Entries packed into parts of at most 4,048 bytes (R228). -/
def packParts : List (List Nat) → List (List (List Nat)) → List (List (List Nat))
  | [], acc => acc.reverse
  | e :: t, [] => packParts t [[e]]
  | e :: t, p :: ps =>
    if (p.map List.length).sum + e.length ≤ 4048 then packParts t ((p ++ [e]) :: ps) else packParts t ([e] :: p :: ps)

/-- Send NODE_SUMMARY of an output window (R226, R228) and forget it; MISSING_CHILDREN is a number of slots (R35). (DEDUCED: log 114.) -/
def Abl.sendSummary (a : Abl) (f : RedFrame) : Abl :=
  let slots := a.red.slots.filter fun s => a.n.metTag s.m == f.jobtag && a.n.metOut s.m == f.out
  let ents := slots.map fun s => (lookupD s.outs f.w (redEmpty (a.n.metOp s.m))).bytes s.m (a.n.metOp s.m)
  let parts := packParts ents []
  let parts := if parts.isEmpty then [[]] else parts
  let expected := a.diesExpected f.jobtag
  let last := parts.length - 1
  let a := (parts.zipIdx).foldl (fun b (p, i) => b.on fun n => n.postUp f.jobtag 2 0x14 0x0002 640
    (le 4 f.jobtag ++ le 4 f.w ++ le 4 f.out ++ le 4 expected ++ le 4 (f.present.getD 0) ++
      [i, b2n (i == last) + 2 * b2n f.adopted] ++ le 2 (popcount 32 f.missing) ++ le 4 p.length ++ zeros 4 ++ p.flatten)) a
  let clear (s : RedSlot) : RedSlot :=
    if a.n.metTag s.m == f.jobtag && a.n.metOut s.m == f.out then { s with outs := s.outs.filter fun o => o.1 != f.w } else s
  { a with red := { a.red with slots := a.red.slots.map clear
                               frames := a.red.frames.filter fun g => !(g.jobtag == f.jobtag && g.out == f.out && g.w == f.w) } }

/-- Whether every slot of a frame has closed the last input window of its output window. -/
def Abl.frameDone (a : Abl) (f : RedFrame) : Bool :=
  (a.red.slots.filter fun s => a.n.metTag s.m == f.jobtag && a.n.metOut s.m == f.out).all fun s =>
    decide ((f.w + 1) * f.out ≤ s.next * a.n.metIn s.m)

/-- Note an input window of a frame: the dies present, the children missing (R226, R228). -/
def Abl.frameNote (a : Abl) (t out outW present missing : Nat) (adopted : Bool) : Abl :=
  let hit (g : RedFrame) : Bool := g.jobtag == t && g.out == out && g.w == outW
  let old := (a.red.frames.find? hit).getD { jobtag := t, out := out, w := outW }
  let f := { old with present := some (match old.present with | some k => min k present | none => present),
                      missing := old.missing ||| missing, adopted := old.adopted || adopted }
  { a with red := { a.red with frames := f :: a.red.frames.filter fun g => !hit g } }

/-- Close the oldest open input window of one slot (R225, R226, R231). -/
def Abl.closeSlot (a : Abl) (s : RedSlot) : Abl :=
  let m := s.m
  let t := a.n.metTag m
  let op := a.n.metOp m
  let param := a.n.metParam m
  let w := s.next
  let got := lookupD s.wins w []
  let expected := (a.span t).map fun p => p.1
  let short := expected.any fun c => !got.any fun g => g.c == c
  let outW := w * a.n.metIn m / a.n.metOut m
  let base := lookupD s.outs outW (redEmpty op)
  let merged := got.foldl (fun e g => RedEnt.merge op param e g.ent) base
  let merged := { merged with missed := merged.missed || short }
  let a := a.putRed { s with next := w + 1, wins := s.wins.filter fun x => x.1 != w, outs := bindKey s.outs outW merged, last := got }
  if a.n.bit Reg.ABL_RED_MET m 123 then
    got.foldl (fun b g => match g.ent.sample op with | some x => b.baseSample m g.c x | none => b) a
  else a

/-- The slots of one input period whose oldest open window is `w`. -/
def Abl.closing (a : Abl) (period w : Nat) : List RedSlot := a.red.slots.filter fun s => a.n.metIn s.m == period && s.next == w

/-- Close input window `w` of every slot with this input period (R225 to R228). -/
def Abl.closeWindow (a : Abl) (period w : Nat) : Abl :=
  let now := a.n.tideline
  if period = 0 || now < (w + 1) * periodNs period + a.n.fld Reg.ABL_RED_CLOSE_US 0 0 16 * 1000 || !a.n.bit Reg.ABL_RED_CTRL 0 0 then a
  else
    let slots := a.closing period w
    let keys := (slots.map fun s => (a.n.metTag s.m, a.n.metOut s.m)).eraseDups
    let a := keys.foldl (fun b (t, out) =>
      let mine := slots.filter fun s => b.n.metTag s.m == t && b.n.metOut s.m == out
      let got := mine.flatMap fun s => lookupD s.wins w []
      let cs := (got.map fun g => g.c).eraseDups
      let present := (cs.map fun c => match got.find? fun g => g.c == c with | some g => g.dies | none => 0).sum
      let missing := ((b.span t).filter fun p => !cs.contains p.1).foldl (fun v p => setBit v p.1 true) 0
      b.frameNote t out (w * period / out) present missing (cs.any fun c => decide (16 ≤ c))) a
    let a := slots.foldl Abl.closeSlot a
    let done := a.red.frames.filter a.frameDone
    done.foldl Abl.sendSummary a

/-! ## Barriers -/

/-- The children of an instance with their expected arrivals: the group that TAG names (R235, R266). -/
def Abl.barKids (a : Abl) (t tag : Nat) : Option (List BarChild) :=
  if tag = 0 then (if a.n.jobCheck t = 0 && (t = 0 || (a.n.jobSlot t).isSome) then some ((a.members t).map fun p => { c := p.1, expected := p.2 }) else none)
  else match a.n.groupOf t tag with
    | some g => some ((a.n.groupChildren g).map fun c => { c := c, expected := a.n.groupExp g c })
    | none => none

/-- The earlier, or later, of two stamps with their dies: the lower die among equals (R221, R235). -/
def pickStamp (later : Bool) (a b : Option (Nat × Nat)) : Option (Nat × Nat) :=
  match a, b with
  | none, y => y
  | x, none => x
  | some x, some y =>
    let d := dist32 x.1 y.1
    if d = 0 then (if x.2 ≤ y.2 then some x else some y)
    else if decide (d < 0) != later then some x else some y

/-- Take arrivals of one child; of a child that the instance does not list yet, such as one adopted meanwhile, `exp` are expected (R235, R236).
(DEDUCED: log 115.) -/
def BarX.give (b : BarX) (c k exp : Nat) (first last : Option (Nat × Nat)) : BarX :=
  let kids := if b.kids.any fun x => x.c == c then b.kids else b.kids ++ [{ c := c, expected := exp }]
  { b with kids := kids.map fun x =>
      if x.c = c then { x with count := x.count + k, first := pickStamp false x.first first, last := pickStamp true x.last last } else x }

/-- SRC in the form of R221. -/
def srcForm (x : Option (Nat × Nat)) : Nat := match x with | some p => p.2 % 2 ^ 17 | none => 2 ^ 31

/-- Note one child's lateness at a close (R237, R238). (DEDUCED: log 16.) (DESIGN CHOICE: log 42.) -/
def Abl.straggle (a : Abl) (t c late : Nat) (isLast : Bool) : Abl :=
  let x := 32 * a.n.uschSlot t + c
  let old := a.n.rd Reg.ABL_RED_STRAG x
  let lim := a.n.rd Reg.ABL_RED_BAR_LATE_NS
  let need := a.n.fld Reg.ABL_RED_BAR_CFG 0 0 7
  let hist := (bits old 0 64 * 2 + b2n (isLast && decide (lim ≤ late))) % 2 ^ 64
  let count := popcount 64 hist
  let was := bit old 127
  let now := if need = 0 then false else if was then decide (need / 2 ≤ count) else decide (need ≤ count)
  let now := if need = 0 then was else now
  let l32 := min (2 ^ 32 - 1) late
  let a := a.on fun n => n.wr Reg.ABL_RED_STRAG x (b2n now * 2 ^ 127 + l32 * 2 ^ 64 + hist)
  if now == was then a
  else a.on fun n => (n.irq 27).emit t 1 0x14 (if now then 0x0005 else 0x0006) 640
    (le 4 t ++ le 4 (n.childNode c) ++ [count, 0, 0, 0] ++ le 4 l32)

/-- Close an instance (R236, R237): `over` when it is force-closed. -/
def Abl.barClose (a : Abl) (b : BarX) (timedOut : Bool) : Abl :=
  let a : Abl := { a with bars := a.bars.filter fun x => !(x.jobtag == b.jobtag && x.tag == b.tag && x.epoch == b.epoch) }
  let short := b.kids.any fun k => decide (k.count < k.expected)
  let first := b.kids.foldl (fun x k => pickStamp false x k.first) none
  let last := b.kids.foldl (fun x k => pickStamp true x k.last) none
  let fl := b2n short + 2 * b2n timedOut + 4 * b2n first.isNone
  let expected := (b.kids.map fun k => k.expected).sum
  let arrived := (b.kids.map fun k => k.count).sum
  let stamp (x : Option (Nat × Nat)) : Nat := match x with | some p => p.1 | none => 0
  let a := a.on fun n => n.postUp b.jobtag 2 0x14 0x0004 640
    (le 4 b.jobtag ++ le 4 b.epoch ++ le 2 b.tag ++ le 2 fl ++ le 4 expected ++ le 4 arrived ++
      le 4 (stamp first) ++ le 4 (srcForm first) ++ le 4 (stamp last) ++ le 4 (srcForm last) ++ zeros 4)
  let a := if b.tag = 0 && b.epoch = 0xFFFFFFFF then a.on fun n => { n with due := n.due ++ [React.joined b.jobtag expected arrived] } else a
  let timeout := a.n.rd Reg.ABL_RED_BAR_TIMEOUT_US * 1000
  let lates := (b.kids.filter fun k => decide (0 < k.expected)).map fun k =>
    (k.c, if k.count < k.expected then timeout
      else match k.last, first with
        | some l, some f => if dist32 l.1 f.1 < 0 then Config.latenessOpen k.c else (dist32 l.1 f.1).toNat
        | _, _ => Config.latenessOpen k.c)
  let most := lates.foldl (fun (best : Option (Nat × Nat)) p => match best with
    | some q => if q.2 < p.2 || (q.2 = p.2 && p.1 < q.1) then some p else best
    | none => some p) none
  lates.foldl (fun a p => a.straggle b.jobtag p.1 p.2 (most == some p)) a

/-- Whether an instance has all its expected arrivals. -/
def BarX.full (b : BarX) : Bool := b.kids.all fun k => decide (k.expected ≤ k.count)

/-- Arrivals reach an instance (R235, R236). -/
def Abl.barGive (a : Abl) (t tag epoch c k exp : Nat) (first last : Option (Nat × Nat)) : Abl :=
  let hit (x : BarX) : Bool := x.jobtag == t && x.tag == tag && x.epoch == epoch
  let put (a : Abl) (b : BarX) : Abl :=
    let b := b.give c k (if 16 ≤ c then exp else 0) first last
    let a : Abl := { a with bars := if a.bars.any hit then a.bars.map fun x => if hit x then b else x else a.bars ++ [b] }
    if b.full then a.barClose b false else a
  match a.bars.find? hit with
  | some b => put a b
  | none =>
    match a.barKids t tag with
    | none => a.on fun n => n.bumpOf mismatchReg
    | some kids =>
      let a := if a.bars.length < 256 then a
        else match a.bars.head? with
          | some o => (a.on fun n => n.bump Reg.ABL_RED_BAR_OVERRUN).barClose o true
          | none => a
      put a { jobtag := t, tag := tag, epoch := epoch, began := a.n.local, kids := kids }

/-- An ARRIVAL from a die (R234, R235). (DESIGN CHOICE: log 42.) -/
def Abl.arrival (a : Abl) (origin : Nat) (p : List Nat) : Abl :=
  let t := leAt p 0 4
  match a.n.jobCheck t, a.n.childOf origin with
  | 0, some c =>
    let e := if bit (leAt p 10 2) 0 then none else some (leAt p 12 4, bits origin 0 17)
    a.barGive t (leAt p 8 2) (leAt p 4 4) c 1 0 e e
  | 0, none => a.on fun n => n.bumpOf mismatchReg
  | _, _ => a.on fun n => n.ofJob t fun n => n

/-- A BARRIER_PART from a child (R236). (DESIGN CHOICE: log 42.) -/
def Abl.barrierPart (a : Abl) (origin : Nat) (p : List Nat) : Abl :=
  let t := leAt p 0 4
  match a.n.jobCheck t, a.n.childOf origin with
  | 0, some c =>
    let get (o : Nat) : Option (Nat × Nat) := if bit (leAt p 10 2) 2 then none else some (leAt p o 4, leAt p (o + 4) 4 % 2 ^ 17)
    a.barGive t (leAt p 8 2) (leAt p 4 4) c (leAt p 16 4) (leAt p 12 4) (get 20) (get 28)
  | 0, none => a.on fun n => n.bumpOf mismatchReg
  | _, _ => a.on fun n => n.ofJob t fun n => n

/-- TIMEOUT_US after the first arrival (R236). -/
def Abl.barTimeout (a : Abl) (t tag epoch : Nat) : Abl :=
  match a.bars.find? fun x => x.jobtag == t && x.tag == tag && x.epoch == epoch with
  | some b => if a.n.local < b.began + a.n.rd Reg.ABL_RED_BAR_TIMEOUT_US * 1000 then a else a.barClose b false
  | none => a

end Sys2Proof.Machine
end

