-- ==== Sys2Proof/Machine/KindOps.lean ====
section
/-!
DEFINITION. What the KINDs of a fan-out do at a sentinel (R261, R452), and how a FANOUT is received there.
-/

namespace Sys2Proof.Machine

/-- The effect of a fan-out's KIND at this node, and whether the node takes it (R244, R646). -/
def Abl.fanKind (a : Abl) (m : FanMsg) (home : Nat) : Abl × Bool :=
  match m.kind with
  | 1 => if lcJobs (a.n.fld Reg.ABL_STATUS 0 28 3) then a.jobStart m home else (a, false)
  | 2 => (a.jobEnd m, true)
  | 3 => a.groupRegister m home
  | 4 => (a.groupRelease m, true)
  | _ => (if 0x10 ≤ m.kind && m.kind ≤ 0x14 then { a with n := { a.n with due := a.n.due ++ [React.secFan m home] } } else a, true)

/-- What a fan-out's KIND does at a relay (R243), whose own copy may have come already: a job or group that the node holds only gains the dies that
it relays to, and any other KIND that it has carried out is not carried out again. (DEDUCED: log 116.) -/
def Abl.relayKind (a : Abl) (failed : Nat) (m : FanMsg) (home : Nat) : Abl × Bool :=
  let own := (a.fansOf m.jobtag m.seq).filter fun x => x.relay.isNone
  let kids := (a.relayKids failed m).filter fun k => !own.any fun x => x.children.any fun y => y.c == k.c
  match m.kind, a.n.groupOf m.jobtag (leAt m.body 0 2) with
  | 1, _ => if lcJobs (a.n.fld Reg.ABL_STATUS 0 28 3) then a.jobTake m home kids else (a, false)
  | 3, some g => (a.groupMore g kids, true)
  | 3, none => a.groupTake m home kids
  | _, _ => if own.isEmpty then a.fanKind m home else (a, true)

/-- The message with the KIND of a command. -/
def fanAs (k : Nat) (m : FanMsg) : FanMsg := { m with kind := k }

/-- A fan-out that came on a port and slot from `sender`, originated by `origin`. -/
def fanFrom (port slot sender origin : Nat) (m : FanMsg) : FanX := { msg := m, origin := origin, port := port, slot := slot, sender := sender }

/-- A FANOUT reaches a sentinel (R241, R258): from `sender` on a port and slot, originated by `origin`. -/
def Abl.fanRx (a : Abl) (port slot sender origin : Nat) (m : FanMsg) : Abl :=
  let go := a.fanArrive (fanFrom port slot sender origin m) fun b => b.fanKind m origin
  match a.n.jobCheck m.jobtag with
  | 0 => go
  | 1 => a.on fun n => n.bumpOf staleReg
  | _ => if m.kind = 1 then go else a.on fun n => n.bumpOf unknownReg

/-- FAN_RELAY reaches the relay (R243, R258). -/
def Abl.relayRx (a : Abl) (failed requester port slot sender origin : Nat) (m : FanMsg) : Abl :=
  let go (a : Abl) : Abl := a.fanRelay failed requester port slot sender origin m fun b => b.relayKind failed m origin
  if m.kind = 1 && a.n.jobCheck m.jobtag = 2 then go a else a.ofJob m.jobtag go

/-- FAN_START of buffer `i` (R239, R240, R244). -/
def Abl.fanStart (a : Abl) (i : Nat) : Abl :=
  if a.n.fld Reg.ABL_RED_FAN_STAT i 62 2 = 1 then a.on fun n => n.bump Reg.ABL_RED_FAN_REFUSED
  else
    let m := fanOfBytes (le 2048 (a.n.rd Reg.ABL_RED_FAN_BUF i))
    let m : FanMsg := { m with deadline := (a.n.now + a.n.rd Reg.ABL_RED_FAN_DEADLINE_US * 1000) % 2 ^ 32 }
    let x : FanX := { msg := m, origin := a.n.ident, root := some i }
    let a := a.on fun n => n.wr Reg.ABL_RED_FAN_STAT i (2 ^ 62)
    if m.ranges.isEmpty then a.fanResult i (fanAckBytes m.jobtag m.seq 0 0 [] false) 0 0
    else
      let (b, ok) := a.fanKind m a.n.ident
      if ok then b.fanOpen { x with children := b.fanKids m b.ownChildren } else a.fanRefuse x

end Sys2Proof.Machine
end

