-- ==== Sys2Proof/Machine/ParentOps.lean ====
section
/-!
DEFINITION. Parents and attachment (R29 to R38).
-/

namespace Sys2Proof.Machine

/-- Parent states of R37. -/
def psPrimary : Nat := 0
def psAttaching : Nat := 1
def psAlternate : Nat := 2
def psOrphan : Nat := 3

/-- ATTACH_REQUEST on both lanes to a parent (R33): the child's identity and the JobTags beneath it. -/
def Node.attachRequest (n : Node) (alt : Bool) : Node :=
  let jobs := n.heldJobs.filter fun t => t != 0
  let dest := if alt then n.parent.alternate else n.parent.primary
  let base := if alt then 18 else 16
  (n.sendFrame base dest 6 .attachRequest (n.ident :: jobs)).sendFrame (base + 1) dest 6 .attachRequest (n.ident :: jobs)

/-- A PARENT_SWITCH record (R37, R611). (DEDUCED: log 16.) -/
def Node.parentSwitch (n : Node) (old new : Nat) : Node :=
  n.emit 0 1 Config.parentSwitchType Config.parentSwitchCode 554 (Config.parentSwitchPayload old new)

/-- Change the parent state.  PARENT_SWITCH tells of a new parent, and of the entry to ORPHAN (R37, R611); asking the alternate is neither.
(DEDUCED: log 16.) -/
def Node.setParent (n : Node) (s : Nat) : Node :=
  let old := n.parent.st
  let n : Node := { n with parent := { n.parent with st := s } }
  if old = s || s = psAttaching then n else n.parentSwitch old s

/-- The upward messages that the lanes of a pair have not delivered (R35): what their replay buffers hold, and what waits there. -/
def Node.undelivered (n : Node) (base : Nat) : List TxMsg :=
  let data (t : TxMsg) : Bool := decide (t.msg.cls < 5)
  let again := ([base, base + 1].flatMap fun p => (n.lane p 0).unacked).filter data
  again ++ n.txq.filter fun t => (t.port == base || t.port == base + 1) && data t && !again.any fun u => u.msg == t.msg

/-- Enter ORPHAN (R37, R38, R478): what the parent has not acknowledged is kept for the next one, and waits at the lanes to the primary. (DESIGN CHOICE: log 38.) -/
def Node.toOrphan (n : Node) : Node :=
  let ts := n.undelivered (if n.parent.st = psAlternate then 18 else 16)
  let n := ts.foldl (fun n t => n.keepUp t.slot t.msg) (n.setParent psOrphan)
  let off (t : TxMsg) : Bool := t.port == 18 || t.port == 19
  let back (t : TxMsg) : TxMsg := if off t then { t with port := t.port - 2, sent := 0 } else t
  let woken := n.wakeQueues ((n.txq.filter off).map back)
  ({ woken with txq := n.txq.map back } : Node).escalate 554 5 0 n.ident 0

/-- Resend to the active parent every upward message that the lost parent has not acknowledged, and what was kept while ORPHAN (R35, R37, R38):
addressed to the new parent, with a lifetime of its own. (DESIGN CHOICE: log 38.) -/
def Node.resendUp (n : Node) : Node :=
  let base := if n.parent.st = psAlternate then 18 else 16
  let flying := ([base, base + 1].flatMap fun p => (n.lane p 0).unacked) ++
    n.txq.filter fun t => (t.port == base || t.port == base + 1) && decide (0 < t.sent)
  let kept := n.parent.kept.filter fun t => !flying.any fun u => u.msg == t.msg
  let lost := (n.undelivered (34 - base)).filter fun t => !kept.any fun u => u.msg == t.msg
  let renew (t : TxMsg) : TxMsg :=
    let d := bits t.msg.dest 0 20
    { t with
      port := n.upLane t.msg.origin t.msg.cls, sent := 0, at_ := n.local,
      msg := { t.msg with expire := (n.now + 4000000) % 2 ^ 32,
                          dest := if d = n.parent.primary ∨ d = n.parent.alternate then n.parentIdent else t.msg.dest } }
  let moved := (kept ++ lost).map renew
  let rest := n.txq.filter fun t => !(decide (16 ≤ t.port) && decide (t.port < 20) && t.sent == 0 && (kept ++ lost).any fun u => u.msg == t.msg) &&
    !((t.port == 34 - base || t.port == 35 - base) && decide (t.msg.cls < 5))
  let n : Node := { n with txq := rest, parent := { n.parent with kept := [] } }
  { n.wakeQueues moved with txq := moved ++ rest }

/-- Whether the active parent is lost (R33): both lanes to it have left UP, or neither has brought a valid flit for 100 µs. -/
def Node.parentGone (n : Node) : Bool :=
  let base := if n.parent.st = psAlternate then 18 else 16
  let both := [base, base + 1]
  (both.all fun p => !n.portUp p) || both.all fun p => decide ((n.lane p 0).lastRx + 100000 ≤ n.local)

/-- The parent is lost (R33, R37). (DESIGN CHOICE: log 38.) -/
def Node.parentLost (n : Node) : Node :=
  if !n.parentGone then n
  else if n.parent.st = psPrimary then
    let n : Node := { n with parent := { n.parent with resent := false } }
    (n.setParent psAttaching).attachRequest true
  else if n.parent.st = psAlternate then n.toOrphan
  else n

/-- ATTACH_REQUEST arrives (R34): the child's entry, a free adoption entry, or a refusal.  The spec does not say what PEER, DIE_FIRST and DIE_LAST
of a filled adoption entry hold, and the model writes 0. (DESIGN CHOICE: log 38.) -/
def Abl.attachReq (a : Abl) (port slot child : Nat) : Abl :=
  let entry := match a.n.childOf child with
    | some c => some c
    | none => (List.range 32).find? fun c => 16 ≤ c && !a.n.childValid c
  match entry with
  | none => a.on fun n => n.queueAt port 63 (n.mkMsg child 6 (.frame .attachRefused [n.ident] [])) slot
  | some c =>
    let a := if a.n.childValid c then a
      else (a.on fun n => n.wr Reg.ABL_RED_CHILD c (2 ^ 127 + child % 2 ^ 20 * 2 ^ 96)).childFresh c
    let a : Abl := { a with adopted := if 16 ≤ c && !a.adopted.contains c then c :: a.adopted else a.adopted }
    let a := a.on fun n => n.queueAt port 63 (n.mkMsg child 6 (.frame .attachAck [n.ident] [])) slot
    a.on fun n => n.postUp 0 1 Config.adoptedType Config.adoptedCode 640 (Config.adoptedPayload child)

/-- ATTACH_ACK arrives on uplink `port` (R37). -/
def Abl.attachAck (a : Abl) (port : Nat) : Abl :=
  let alt := 18 ≤ port
  let st := a.n.parent.st
  let take (s : Nat) : Abl :=
    let a := a.on fun n => (n.setParent s).resendUp
    if a.n.role = 1 then a.queryGates else a
  if st = psAttaching then (if alt then take psAlternate else a)
  else if st = psOrphan then take (if alt then psAlternate else psPrimary)
  else a

/-- ATTACH_REFUSED, or the attach timer's end (R37). -/
def Node.attachFailed (n : Node) : Node := if n.parent.st = psAttaching then n.toOrphan else n

/-- RETURN_TO_PRIMARY (R36, R37), when the primary is reachable. -/
def Abl.returnPrimary (a : Abl) : Abl :=
  if a.n.parent.st = psAlternate then
    let a := a.on fun n => ((n.attachRequest false).setParent psPrimary).resendUp
    if a.n.role = 1 then a.queryGates else a
  else a

/-- Whether the primary parent is reachable: a lane to it is UP. -/
def Node.primaryUp (n : Node) : Bool := n.portUp 16 || n.portUp 17

/-- A copy of an abort (R29): the first acts as a FAIL on the gate, later ones of the same (JobTag, StepEpoch) are
dropped. (DESIGN CHOICE: log 38.) (DESIGN CHOICE: log 39.) -/
def Node.abortCopy (n : Node) (q : SyncReq) (origin : Nat) : Node :=
  let key := (q.jobtag, q.epoch)
  if n.parent.acted.contains key then n
  else ({ n with parent := { n.parent with acted := key :: n.parent.acted } } : Node).syncUpdate 4 q origin

end Sys2Proof.Machine
end

