-- ==== Sys2Proof/Machine/MailOps.lean ====
section
/-!
DEFINITION. Mailboxes (R593 to R609): posting, the order in which commands start, the checks of R599, responses, and the room that event
paths regain (R612, R613).
-/

namespace Sys2Proof.Machine

/-! ## The catalogue -/

/-- A row of R619 or R620: CMD, class, authority (0 any controller, 1 FLEET, 2 sentinel mailbox, 3 host mailboxes, 4 both), feature bit (99:
none) and the bytes of its fixed parameters. -/
structure CmdRow where
  code : Nat
  cls : Nat
  auth : Nat
  feature : Nat
  fixed : Nat
  deriving DecidableEq, Repr

/-- R619, commands 0x0001 to 0x0305. -/
def ablCmds0 : List CmdRow :=
  [⟨0x0001, 2, 0, 99, 40⟩, ⟨0x0002, 2, 0, 0, 1⟩, ⟨0x0003, 2, 0, 0, 4⟩, ⟨0x0004, 2, 0, 0, 4⟩, ⟨0x0005, 2, 0, 0, 4⟩, ⟨0x0006, 2, 0, 0, 4⟩,
   ⟨0x0007, 0, 0, 1, 4⟩, ⟨0x0008, 2, 0, 0, 0⟩, ⟨0x0010, 3, 0, 2, 8⟩, ⟨0x0011, 3, 0, 2, 16⟩, ⟨0x0012, 3, 0, 2, 8⟩, ⟨0x0013, 3, 0, 2, 20⟩,
   ⟨0x0014, 3, 0, 2, 4⟩, ⟨0x0101, 1, 0, 3, 9⟩, ⟨0x0102, 1, 0, 3, 0⟩, ⟨0x0103, 1, 0, 3, 16⟩, ⟨0x0104, 1, 0, 3, 6⟩, ⟨0x0201, 2, 0, 4, 6⟩,
   ⟨0x0202, 2, 0, 4, 12⟩, ⟨0x0203, 2, 0, 4, 4⟩, ⟨0x0301, 2, 1, 5, 8⟩, ⟨0x0302, 2, 1, 5, 0⟩, ⟨0x0303, 2, 1, 5, 24⟩, ⟨0x0304, 2, 1, 5, 16⟩,
   ⟨0x0305, 2, 1, 5, 1⟩]

/-- R619, commands 0x0401 to 0x0805. -/
def ablCmds1 : List CmdRow :=
  [⟨0x0401, 0, 0, 6, 3⟩, ⟨0x0402, 2, 1, 6, 4⟩, ⟨0x0403, 2, 0, 6, 8⟩, ⟨0x0404, 2, 0, 7, 7⟩, ⟨0x0405, 0, 0, 9, 9⟩, ⟨0x0501, 2, 1, 8, 8⟩,
   ⟨0x0502, 2, 1, 8, 5⟩, ⟨0x0503, 2, 1, 8, 5⟩, ⟨0x0601, 2, 1, 9, 10⟩, ⟨0x0602, 2, 1, 9, 1⟩, ⟨0x0603, 2, 0, 9, 6⟩, ⟨0x0604, 2, 0, 9, 2⟩,
   ⟨0x0605, 2, 0, 9, 2⟩, ⟨0x0606, 2, 0, 9, 24⟩, ⟨0x0607, 2, 0, 9, 16⟩, ⟨0x0701, 3, 0, 10, 32⟩, ⟨0x0702, 2, 0, 10, 1⟩, ⟨0x0703, 2, 0, 10, 24⟩,
   ⟨0x0801, 3, 0, 11, 32⟩, ⟨0x0802, 2, 0, 11, 1⟩, ⟨0x0803, 2, 0, 11, 8⟩, ⟨0x0804, 2, 0, 11, 1⟩, ⟨0x0805, 2, 0, 11, 1⟩]

/-- R619, commands 0x0901 to 0x0E01. -/
def ablCmds2 : List CmdRow :=
  [⟨0x0901, 2, 0, 12, 16⟩, ⟨0x0902, 2, 1, 12, 28⟩, ⟨0x0A01, 2, 0, 13, 76⟩, ⟨0x0A02, 2, 1, 13, 6⟩, ⟨0x0A03, 2, 0, 13, 9⟩, ⟨0x0B01, 2, 0, 14, 0⟩,
   ⟨0x0B02, 3, 1, 14, 48⟩, ⟨0x0B03, 2, 1, 14, 0⟩, ⟨0x0B04, 3, 0, 14, 11⟩, ⟨0x0C01, 2, 0, 15, 32⟩, ⟨0x0C02, 2, 0, 15, 1⟩, ⟨0x0C03, 2, 0, 16, 3⟩,
   ⟨0x0C04, 2, 0, 16, 2⟩, ⟨0x0D01, 2, 0, 17, 34⟩, ⟨0x0D02, 2, 0, 17, 0⟩, ⟨0x0D03, 2, 0, 17, 0⟩, ⟨0x0D04, 2, 0, 17, 0⟩, ⟨0x0D05, 2, 1, 17, 4⟩,
   ⟨0x0E01, 3, 1, 18, 32⟩]

/-- R620. -/
def dduCmds : List CmdRow :=
  [⟨0x0001, 2, 4, 99, 40⟩, ⟨0x0002, 2, 4, 0, 1⟩, ⟨0x0003, 2, 4, 0, 4⟩, ⟨0x0004, 2, 4, 0, 4⟩, ⟨0x0005, 2, 4, 0, 4⟩, ⟨0x0006, 2, 4, 0, 4⟩,
   ⟨0x0008, 2, 4, 0, 0⟩, ⟨0x1001, 2, 2, 19, 32⟩, ⟨0x1002, 2, 2, 19, 2⟩, ⟨0x1003, 2, 2, 19, 10⟩, ⟨0x1004, 2, 2, 19, 0⟩, ⟨0x1005, 2, 2, 19, 64⟩,
   ⟨0x1006, 2, 2, 19, 8⟩, ⟨0x1007, 2, 2, 19, 38⟩, ⟨0x1008, 2, 2, 19, 2⟩, ⟨0x1009, 0, 2, 19, 11⟩, ⟨0x100A, 3, 2, 19, 10⟩, ⟨0x100B, 2, 2, 19, 1⟩,
   ⟨0x100C, 2, 2, 19, 11⟩, ⟨0x100D, 2, 2, 19, 5⟩, ⟨0x1201, 2, 3, 20, 0⟩]

/-- The commands that a device defines. -/
def cmdRows : Dev → List CmdRow | .ddu => dduCmds | .abl => ablCmds0 ++ ablCmds1 ++ ablCmds2

/-- The row of a command. -/
def cmdRow (d : Dev) (code : Nat) : Option CmdRow := (cmdRows d).find? fun r => r.code == code

/-- The class of a command (R600): FENCE takes the class that it names. -/
def cmdCls (d : Dev) (c : Cmd) : Nat :=
  if c.code = 2 then min 3 (c.params.headD 0) else ((cmdRow d c.code).map fun r => r.cls).getD 2

/-- The device that answers on a path (R593). -/
def pathDev (path : Nat) : Dev := if path < 3 then .abl else .ddu

/-- The index of a path's negotiation registers (R623, R624). -/
def negIdx (path : Nat) : Nat := match path with | 3 => 0 | 4 => 1 | p => p

/-- Whether a path has a mailbox (R593). -/
def mbOk (path mb : Nat) : Bool :=
  match path with
  | 0 => decide (mb < 16)
  | 1 => decide (16 ≤ mb) && decide (mb < 20)
  | 2 => decide (20 ≤ mb) && decide (mb < 52)
  | 3 => mb == 4
  | _ => path == 4 && decide (mb < 3)

def ownedReg : Dev → RegDef | .ddu => Reg.DDU_MB_OWNED | .abl => Reg.ABL_MB_OWNED
def mbDiscarded : Dev → RegDef | .ddu => Reg.DDU_MB_DISCARDED | .abl => Reg.ABL_MB_DISCARDED
def featReg : Dev → RegDef | .ddu => Reg.DDU_MB_FEAT | .abl => Reg.ABL_MB_FEAT

/-! ## Posting -/

/-- The request line of a mailbox class (R578): high while a command of the class waits for service. (DESIGN CHOICE: log 83.) -/
def Node.mbLines (n : Node) : Node :=
  [0, 1, 2, 3].foldl (fun (n : Node) k => n.irqLine (5 + k) (n.mb.posted.any fun p => p.wait.isNone && cmdCls n.dev p.cmd == k)) n

/-- The header and parameters of a command as its mailbox holds them (R595, R596). (DESIGN CHOICE: log 83.) -/
def cmdHeader (c : Cmd) : List Nat :=
  le 2 c.code ++ le 2 c.flags ++ le 2 c.tag ++ le 2 c.params.length ++ le 4 c.jobtag ++ zeros 20

/-- MAILBOX_POST (R598, R602): the write of OWN = 1. -/
def Node.post (n : Node) (c : Cmd) : Node :=
  if n.bit (ownedReg n.dev) 0 c.mb then n.bump (mbDiscarded n.dev)
  else
    let area := Cells.write (Cells.write n.mb.area (c.mb * 4096 + 0x10) (cmdHeader c)) (c.mb * 4096 + 0x40) (c.params.take 1984)
    let p : PostedX := { n := n.mb.next, cmd := c, at_ := n.local }
    ((n.setMb { n.mb with area := area, next := n.mb.next + 1, posted := n.mb.posted ++ [p] }).setB (ownedReg n.dev) 0 c.mb true).mbLines

/-! ## Order -/

/-- Whether firmware runs (R678): on the sentinel at BOOT 2 outside SLACK and its wake; on a DDU that is alive outside Slack, while its cores
are not in reset (R72). (DESIGN CHOICE: log 86.) -/
def Node.booted (n : Node) : Bool :=
  match n.dev with
  | .ddu => n.bit Reg.DDU_STATUS 0 3 && n.fld Reg.DDU_PWR_STATE 0 0 3 != 0 && !n.bit Reg.DDU_SUBRESET 0 10
  | .abl => n.fld Reg.ABL_STATUS 0 16 4 == 2 && n.fld Reg.ABL_PWR_STATE 0 0 3 != 0 && n.fld Reg.ABL_PWR_STATE 0 0 3 != 4

/-- Whether a command of the DDU needs a fast-domain block (R47): the lists of the checker, profiling, a cut, the trace, and a register write
that reaches such a block. (DESIGN CHOICE: log 104.) -/
def cmdFast (c : Cmd) : Bool :=
  [0x1005, 0x1006, 0x1007, 0x1008, 0x100B].contains c.code ||
    (c.code == 0x1002 && (List.range (min 120 (leAt c.params 0 2))).any fun k => fastBlock (leAt c.params (16 + 16 * k) 4))

/-- Whether R603, R604, R608 and R678 let a posted command start, once a fast domain that it needs is up (R47). -/
def Node.ready (n : Node) (p : PostedX) : Bool :=
  let earlier := n.mb.posted.filter fun q => q.cmd.path == p.cmd.path && decide (q.n < p.n)
  let k := cmdCls n.dev p.cmd
  p.wait.isNone && n.booted && (n.dev == .abl || !cmdFast p.cmd || n.bit Reg.DDU_STATUS 0 2) &&
    !(earlier.any fun q => cmdCls n.dev q.cmd == k && (Machine.bit p.cmd.flags 0 || p.cmd.code == 2 || q.cmd.code == 2)) &&
    !(earlier.any fun q => q.cmd.code == 1) &&
    !(p.cmd.code == 1 && n.mb.posted.any fun q => q.cmd.path == p.cmd.path && q.wait.isSome)

/-- Whether a posted command is the next to start (R601): by class and, within a class, by posting order. -/
def Node.serves (n : Node) (p : PostedX) : Bool :=
  n.ready p && !n.mb.posted.any fun q => n.ready q &&
    (decide (cmdCls n.dev q.cmd < cmdCls n.dev p.cmd) || (cmdCls n.dev q.cmd == cmdCls n.dev p.cmd && decide (q.n < p.n)))

/-! ## Checks -/

/-- ABL_STATUS.LIFECYCLE or DDU_STATUS.LIFECYCLE (R644). -/
def Node.lifecycle (n : Node) : Nat := match n.dev with | .ddu => n.fld Reg.DDU_STATUS 0 8 3 | .abl => n.fld Reg.ABL_STATUS 0 28 3

/-- Whether the open debug session, or on a DDU its grant, has a facility (R660, R662). -/
def Node.granted (n : Node) (k : Nat) : Bool :=
  match n.dev with
  | .ddu => n.bit Reg.DDU_DBG_GRANT 0 31 && n.bit Reg.DDU_DBG_GRANT 0 k
  | .abl => n.bit Reg.ABL_DBG_CTRL 0 31 && n.bit Reg.ABL_DBG_CTRL 0 k

/-- Whether the matrix of R663 and R665 refuse a command in the device's lifecycle. -/
def Node.lcDenies (n : Node) (c : Cmd) : Bool :=
  let l := n.lifecycle
  let counts := (n.dev == .abl && c.code == 0x0404 && Machine.bit (leAt c.params 6 1) 0) ||
    (n.dev == .ddu && c.code == 0x1009 && leAt c.params 0 1 == 4 && Machine.bit (leAt c.params 10 1) 0)
  (n.dev == .abl && l == 4 && c.code != 8 && c.code != 0x0B02) ||
    (counts && l != 0 && l != 3 && !(l == 2 && n.granted 5))

/-- The JOBTAG check of R599: none when it passes. (DESIGN CHOICE: log 83.) -/
def Node.tagCheck (n : Node) (c : Cmd) : Option Nat :=
  let t := c.jobtag
  let same := n.heldJobs.filter fun h => jobId h == jobId t && h != 0
  if c.code = 0x0601 ∨ c.code = 0x0902 then
    if jobId t = 0 || jobGen t = 0 then some stBad
    else if same.any fun h => !genOlder (jobGen h) (jobGen t) then some stStale
    else none
  else if t = 0 then none
  else if jobId t = 0 || same.isEmpty then some stBad
  else if same.contains t then none
  else some stStale

/-- Whether a host mailbox carries a command that the catalogue gives to another path (R27, R594). (DEDUCED: log 119.) -/
def cmdForeign (c : Cmd) : Bool :=
  c.path == 4 && match cmdRow .ddu c.code with | some r => r.auth < 3 | none => (cmdRow .abl c.code).isSome

/-- The checks of R599 that all commands share, in their order: the status of the first that fails. (DESIGN CHOICE: log 83.) -/
def Node.check (n : Node) (c : Cmd) : Option Nat :=
  if cmdForeign c then some (if n.bit (negReg n.dev) (negIdx c.path) 7 then stNotPermitted else stUnsupported)
  else match cmdRow n.dev c.code with
  | none => some stBadCommand
  | some r =>
    let i := negIdx c.path
    if c.code ≠ 1 && !n.bit (negReg n.dev) i 7 then some stUnsupported
    else if r.feature < 99 && !n.bit (featReg n.dev) i r.feature then some stUnsupported
    else if (r.auth = 1 && c.path ≠ 2) || (r.auth = 2 && c.path ≠ 3) || (r.auth = 3 && c.path ≠ 4) then some stNotPermitted
    else if n.lcDenies c then some stNotPermitted
    else if c.params.length < r.fixed || 1984 < c.params.length then some stBad
    else n.tagCheck c

/-- What a command's own rules answer: status, data, handle, retry hint in µs, and what it waits for while it is in service. -/
structure Ans where
  status : Nat := 0
  data : List Nat := []
  handle : Nat := 0
  hint : Nat := 0
  wait : Option Nat := none
  deriving DecidableEq, Repr

/-! ## Responses -/

/-- Complete a command (R597, R598): the response, OWN = 0, and the completion signal of its path. -/
def Node.respond (n : Node) (p : PostedX) (r : Ans) : Node :=
  let m := n.mb
  let n := n.setMb { m with posted := m.posted.filter (fun q => q.n != p.n), muted := m.muted.filter fun k => k != p.n }
  if m.muted.contains p.n then n.mbLines
  else
    let x : RespX := { path := p.cmd.path, mb := p.cmd.mb, status := r.status, tag := p.cmd.tag, hint := r.hint, handle := r.handle,
                       data := r.data.take 1984 }
    let n := n.setMb { n.mb with resps := x :: n.mb.resps.filter fun y => y.mb != p.cmd.mb }
    let n := (n.setB (ownedReg n.dev) 0 p.cmd.mb false).mbLines
    let us := min 65535 ((n.local - p.at_) / 1000)
    let n := if n.dev == .abl && cmdCls n.dev p.cmd == 0 then n.wr Reg.ABL_MB_CLASS0_MAX 0 (max us (n.rd Reg.ABL_MB_CLASS0_MAX)) else n
    match p.cmd.path with
    | 0 => if Machine.bit p.cmd.flags 1 then n.msix p.cmd.mb else n
    | 3 => n.frameUp 0 6 .mailboxResp [r.status, p.cmd.tag, r.hint, r.handle] r.data
    | 4 => if Machine.bit p.cmd.flags 1 then n.hostIrq p.cmd.mb else n
    | _ => n

/-- The 32 header bytes and the data of a response (R597). -/
def RespX.bytes (x : RespX) : List Nat :=
  le 2 x.status ++ le 2 x.tag ++ le 2 x.data.length ++ zeros 2 ++ le 4 x.hint ++ le 4 x.handle ++ zeros 16 ++ zeros 32 ++ x.data

/-- What an answer leaves of the command: it waits, or it completes. -/
def Node.answer (n : Node) (p : PostedX) (r : Ans) : Node :=
  match r.wait with
  | some k => (n.setMb { n.mb with posted := n.mb.posted.map fun q => if q.n = p.n then { q with wait := some k } else q }).mbLines
  | none => n.respond p r

/-- The posted command that a row of the catalogue serves: the one that equals `c`, when it is the next to start. (DESIGN CHOICE: log 83.) -/
def Node.pick (n : Node) (c : Cmd) (code : Nat) : Option PostedX :=
  n.mb.posted.find? fun p => p.cmd == c && c.code == code && pathDev c.path == n.dev && n.serves p

/-- What the common checks and the shedding of class 3 (R600) answer instead of the command's own rules. (DESIGN CHOICE: log 83.) -/
def Node.early (n : Node) (c : Cmd) : Option Ans :=
  match n.check c with
  | some st => some { status := st }
  | none => if n.mc.shed.isSome && cmdCls n.dev c == 3 then some { status := stBusy, hint := 10000 } else none

/-- Serve a command on either device. -/
def Node.serve (n : Node) (c : Cmd) (code : Nat) (f : Node → Node × Ans) : Node :=
  match n.pick c code with
  | none => n
  | some p =>
    match n.early c with
    | some r => n.answer p r
    | none => (f n).1.answer p (f n).2

/-- Serve a command on the sentinel. -/
def Abl.serve (a : Abl) (c : Cmd) (code : Nat) (f : Abl → Abl × Ans) : Abl :=
  match a.n.pick c code with
  | none => a
  | some p =>
    match a.n.early c with
    | some r => a.on fun n => n.answer p r
    | none => let r := f a; r.1.on fun n => n.answer p r.2

/-- Serve a command on the DDU. -/
def Ddu.serve (d : Ddu) (c : Cmd) (code : Nat) (f : Ddu → Ddu × Ans) : Ddu :=
  match d.n.pick c code with
  | none => d
  | some p =>
    match d.n.early c with
    | some r => d.on fun n => n.answer p r
    | none => let r := f d; r.1.on fun n => n.answer p r.2

/-- Commands that wait for `key` complete. -/
def Node.mbDone (n : Node) (key status : Nat) (data : List Nat) : Node :=
  (n.mb.posted.filter fun p => p.wait == some key).foldl (fun n p => n.respond p { status := status, data := data }) n

/-- Whether the operation byte of LIFECYCLE_SET, DIE_FAULT, DIE_LEDGER or DIE_TRACE names no operation (R620, R648). -/
def Node.badOp (n : Node) (c : Cmd) : Bool :=
  let op := leAt c.params 0 1
  (cmdRow n.dev c.code).isSome && (op == 0 ||
    (match c.code with | 0x0D05 => decide (5 < op) | 0x1009 => decide (4 < op) | 0x100A => decide (2 < op) | 0x100B => decide (5 < op) | _ => false)) &&
    [0x0D05, 0x1009, 0x100A, 0x100B].contains c.code

/-- Commands whose CMD the device does not define complete with BAD_COMMAND, and those whose operation byte names nothing with BAD_PARAMETER,
after the common checks (R599). -/
def Node.mbSweep (n : Node) : Node :=
  (n.mb.posted.filter fun p => ((cmdRow n.dev p.cmd.code).isNone || n.badOp p.cmd) && n.ready p).foldl
    (fun n p => n.respond p ((n.early p.cmd).getD { status := stBad })) n

/-- A status alone. -/
def Ans.of (status : Nat) : Ans := { status := status }

/-! ## The device's feature map and HELLO -/

/-- Features that a path offers (R609). -/
def pathFeatures (path : Nat) : Nat := match path with | 3 => 2 ^ 19 + 3 | 4 => 2 ^ 20 + 1 | _ => 0x7FFFF

/-- AUTHORITY (R606) and the mailboxes of a path (R593). -/
def pathAuthority (path : Nat) : Nat := match path with | 2 => 2 | 3 => 3 | 4 => 0 | _ => 1
def pathMailboxes (path : Nat) : Nat := match path with | 0 => 16 | 1 => 4 | 2 => 32 | 3 => 1 | _ => 3

/-- HELLO (R606, R607): major 1, minor 0 is what the firmware supports. -/
def Node.hello (n : Node) (c : Cmd) : Node × Ans :=
  let i := negIdx c.path
  if leAt c.params 0 2 = 1 then
    let feat := leAt c.params 8 32 &&& pathFeatures c.path
    let neg := 2 ^ 48 + leAt c.params 5 1 % 16 * 2 ^ 8 + 2 ^ 7 + pathAuthority c.path
    ((n.wr (negReg n.dev) i neg).wr (featReg n.dev) i feat,
      { data := le 2 1 ++ le 2 0 ++ [pathAuthority c.path, pathMailboxes c.path] ++ le 2 1984 ++ le 32 feat })
  else ((n.wr (negReg n.dev) i 0).wr (featReg n.dev) i 0, { status := stUnsupported, data := [1, 0, 0, 0] ++ le 2 1 ++ le 2 0 })

/-! ## Long operations by command -/

/-- OP_QUERY (R617, R619). -/
def Node.opQuery (n : Node) (c : Cmd) : Ans :=
  match n.op (leAt c.params 0 4) with
  | some x => { data := n.opPayload x x.state }
  | none => Ans.of stStale

/-- Whether a path may suspend, resume and cancel an operation (R618). -/
def opMay (x : OpX) (path : Nat) : Bool := x.path == path || path == 2 || x.path == 255

/-! ## Events -/

/-- Write what now fits on an event path: the class 0 backlog in order, then one LOSS record for each run of drops (R612, R613). -/
def Node.evRefill (n : Node) (p : Nat) : Node :=
  let n := (n.ev p).backlog.foldl (fun (n : Node) e =>
    if (n.ev p).backlog.head? == some e && n.evFits p e.size then
      (n.setEv p { n.ev p with backlog := (n.ev p).backlog.drop 1 }).evPut p e
    else n) n
  if !(n.ev p).backlog.isEmpty || !n.evFits p 48 then n
  else
    let run := (n.ev p).run
    run.foldl (fun (n : Node) (x : Nat × Nat) => n.loss x.2 0x0190 x.1 (some (evSrc n.dev))) (n.setEv p { n.ev p with run := [] })

/-- EVENT_RD_WRITE (R612): a controller's cursor. -/
def Node.evRead (n : Node) (p v : Nat) : Node :=
  let rd := n.rd Reg.ABL_MB_EVT_RD p
  if v < rd || n.rd Reg.ABL_MB_EVT_WR p < v || v % 8 ≠ 0 then n.bump Reg.ABL_MB_DISCARDED
  else
    let n := n.wr Reg.ABL_MB_EVT_RD p v
    (n.setEv p { n.ev p with ring := (n.ev p).ring.filter fun (x : Nat × Record) => decide (v ≤ x.1) }).evRefill p

/-- EVENT_ACK (R613): cumulative, on Ethernet only. -/
def Node.evAck (n : Node) (c : Cmd) : Node × Ans :=
  if c.path ≠ 2 then (n, Ans.of stBad)
  else
    let seq := leAt c.params 0 4
    ((n.setEv 2 { n.ev 2 with sent := (n.ev 2).sent.filter fun (x : Nat × Nat × Record) => decide (0 < dist32 x.1 seq) }).evRefill 2, {})

/-- EVENT_RESEND (R613): every Ethernet event that is not acknowledged, 10 ms after it was last sent. -/
def Node.evResend (n : Node) : Node :=
  n.setEv 2 { n.ev 2 with sent := (n.ev 2).sent.map fun (x : Nat × Nat × Record) =>
    if x.2.1 + 10000000 ≤ n.local then (x.1, n.local, x.2.2) else x }

end Sys2Proof.Machine
end

