-- ==== Sys2Proof/Machine/Crypto.lean ====
section
/-!
DEFINITION. SHA-384 (FIPS 180-4), the deterministic CBOR encoding of RFC 8949, and the COSE_Sign1 layout of RFC 9052 that R416,
R417 and R527 use.  The ES384 signature itself is an open function of the bytes signed.
-/

namespace Sys2Proof.Machine

/-! ## SHA-384 -/

/-- The round constants of SHA-384 and SHA-512. -/
def shaK : List Nat :=
  [0x428A2F98D728AE22, 0x7137449123EF65CD,
   0xB5C0FBCFEC4D3B2F, 0xE9B5DBA58189DBBC,
   0x3956C25BF348B538, 0x59F111F1B605D019,
   0x923F82A4AF194F9B, 0xAB1C5ED5DA6D8118] ++
  [0xD807AA98A3030242, 0x12835B0145706FBE,
   0x243185BE4EE4B28C, 0x550C7DC3D5FFB4E2,
   0x72BE5D74F27B896F, 0x80DEB1FE3B1696B1,
   0x9BDC06A725C71235, 0xC19BF174CF692694] ++
  [0xE49B69C19EF14AD2, 0xEFBE4786384F25E3,
   0x0FC19DC68B8CD5B5, 0x240CA1CC77AC9C65,
   0x2DE92C6F592B0275, 0x4A7484AA6EA6E483,
   0x5CB0A9DCBD41FBD4, 0x76F988DA831153B5] ++
  [0x983E5152EE66DFAB, 0xA831C66D2DB43210,
   0xB00327C898FB213F, 0xBF597FC7BEEF0EE4,
   0xC6E00BF33DA88FC2, 0xD5A79147930AA725,
   0x06CA6351E003826F, 0x142929670A0E6E70] ++
  [0x27B70A8546D22FFC, 0x2E1B21385C26C926,
   0x4D2C6DFC5AC42AED, 0x53380D139D95B3DF,
   0x650A73548BAF63DE, 0x766A0ABB3C77B2A8,
   0x81C2C92E47EDAEE6, 0x92722C851482353B] ++
  [0xA2BFE8A14CF10364, 0xA81A664BBC423001,
   0xC24B8B70D0F89791, 0xC76C51A30654BE30,
   0xD192E819D6EF5218, 0xD69906245565A910,
   0xF40E35855771202A, 0x106AA07032BBD1B8] ++
  [0x19A4C116B8D2D0C8, 0x1E376C085141AB53,
   0x2748774CDF8EEB99, 0x34B0BCB5E19B48A8,
   0x391C0CB3C5C95A63, 0x4ED8AA4AE3418ACB,
   0x5B9CCA4F7763E373, 0x682E6FF3D6B2B8A3] ++
  [0x748F82EE5DEFB2FC, 0x78A5636F43172F60,
   0x84C87814A1F0AB72, 0x8CC702081A6439EC,
   0x90BEFFFA23631E28, 0xA4506CEBDE82BDE9,
   0xBEF9A3F7B2C67915, 0xC67178F2E372532B] ++
  [0xCA273ECEEA26619C, 0xD186B8C721C0C207,
   0xEADA7DD6CDE0EB1E, 0xF57D4F7FEE6ED178,
   0x06F067AA72176FBA, 0x0A637DC5A2C898A6,
   0x113F9804BEF90DAE, 0x1B710B35131C471B] ++
  [0x28DB77F523047D84, 0x32CAAB7B40C72493,
   0x3C9EBE0A15C9BEBC, 0x431D67C49C100D4C,
   0x4CC5D4BECB3E42B6, 0x597F299CFC657E2A,
   0x5FCB6FAB3AD6FAEC, 0x6C44198C4A475817]

/-- The initial hash value of SHA-384. -/
def shaInit : List Nat :=
  [0xCBBB9D5DC1059ED8, 0x629A292A367CD507, 0x9159015A3070DD17, 0x152FECD8F70E5939,
   0x67332667FFC00B31, 0x8EB44A8768581511, 0xDB0C2E0D64F98FA7, 0x47B5481DBEFA4FA4]

/-- Rotate a 64-bit word right. -/
def rotr64 (x k : Nat) : Nat := x / 2 ^ k + x * 2 ^ (64 - k) % 2 ^ 64

/-- Sum modulo 2^64. -/
def add64 (a b : Nat) : Nat := (a + b) % 2 ^ 64

/-- The big-endian number of a byte list. -/
def beNat (l : List Nat) : Nat := l.foldl (fun a b => a * 256 + b % 256) 0

/-- The `n` big-endian bytes of `v`. -/
def be (n v : Nat) : List Nat := (le n v).reverse

/-- The message with its padding. -/
def shaPad (m : List Nat) : List Nat :=
  m ++ [128] ++ zeros ((239 - m.length % 128) % 128) ++ be 16 (8 * m.length)

/-- The next word of the message schedule; the newest word stands first. -/
def shaNext (w : List Nat) : Nat :=
  let w15 := w.getD 14 0
  let w2 := w.getD 1 0
  let s0 := (rotr64 w15 1 ^^^ rotr64 w15 8) ^^^ (w15 / 2 ^ 7)
  let s1 := (rotr64 w2 19 ^^^ rotr64 w2 61) ^^^ (w2 / 2 ^ 6)
  add64 (add64 (w.getD 15 0) s0) (add64 (w.getD 6 0) s1)

/-- The message schedule of a block of 128 bytes. -/
def shaSchedule (b : List Nat) : List Nat :=
  let w := ((List.range 16).map fun i => beNat ((b.drop (8 * i)).take 8)).reverse
  ((List.range 64).foldl (fun w _ => shaNext w :: w) w).reverse

/-- One round on the working variables a to h. -/
def shaRound (v : List Nat) (kw : Nat) : List Nat :=
  match v with
  | [a, b, c, d, e, f, g, h] =>
    let s1 := (rotr64 e 14 ^^^ rotr64 e 18) ^^^ rotr64 e 41
    let ch := (e &&& f) ^^^ ((2 ^ 64 - 1 - e) &&& g)
    let t1 := add64 (add64 h s1) (add64 ch kw)
    let s0 := (rotr64 a 28 ^^^ rotr64 a 34) ^^^ rotr64 a 39
    let mj := ((a &&& b) ^^^ (a &&& c)) ^^^ (b &&& c)
    [add64 t1 (add64 s0 mj), a, b, c, add64 d t1, e, f, g]
  | _ => v

/-- One block. -/
def shaBlock (h b : List Nat) : List Nat :=
  let kw := (shaK.zip (shaSchedule b)).map fun p => add64 p.1 p.2
  (h.zip (kw.foldl shaRound h)).map fun p => add64 p.1 p.2

/-- The blocks of a padded message, one by one; the first argument bounds their number. -/
def shaBlocks : Nat → List Nat → List Nat → List Nat
  | 0, h, _ => h
  | n + 1, h, m => shaBlocks n (shaBlock h (m.take 128)) (m.drop 128)

/-- SHA-384: 48 bytes. (DESIGN CHOICE: log 61.) -/
def sha384 (m : List Nat) : List Nat :=
  let p := shaPad m
  ((shaBlocks (p.length / 128) shaInit p).take 6).flatMap (be 8)

/-! ## CBOR and COSE -/

/-- The head of a CBOR item in its shortest form. -/
def cborHead (major n : Nat) : List Nat :=
  if n < 24 then [32 * major + n]
  else if n < 2 ^ 8 then [32 * major + 24, n]
  else if n < 2 ^ 16 then [32 * major + 25] ++ be 2 n
  else if n < 2 ^ 32 then [32 * major + 26] ++ be 4 n
  else [32 * major + 27] ++ be 8 n

/-- An unsigned integer. -/
def cborUint (n : Nat) : List Nat := cborHead 0 n

/-- An integer. -/
def cborInt (i : Int) : List Nat := if i < 0 then cborHead 1 (-1 - i).toNat else cborHead 0 i.toNat

/-- A byte string. -/
def cborBytes (b : List Nat) : List Nat := cborHead 2 b.length ++ b

/-- An array of encoded items. -/
def cborArr (l : List (List Nat)) : List Nat := cborHead 4 l.length ++ l.flatten

/-- A map with unsigned keys, given in ascending order, and encoded values. -/
def cborMap (l : List (Nat × List Nat)) : List Nat := cborHead 5 l.length ++ l.flatMap fun p => cborUint p.1 ++ p.2

/-- A Boolean. -/
def cborBool (b : Bool) : List Nat := [if b then 0xF5 else 0xF4]

/-- Whether a binary64 value has an exact binary16 or binary32 counterpart, with `ew` exponent bits and `mw` fraction bits: zeros,
infinities and normal numbers of that format, and its subnormals. -/
def f64Fits (v ew mw : Nat) : Bool :=
  let e := bits v 52 11
  let m := bits v 0 52
  let bias := 2 ^ (ew - 1) - 1
  if e = 0 then m == 0
  else if e = 2047 then m % 2 ^ (52 - mw) == 0
  else if 1023 < e + bias ∧ e ≤ 1023 + bias then m % 2 ^ (52 - mw) == 0
  else if e + bias + mw < 1024 ∨ 1023 + bias < e then false
  else m % 2 ^ (52 - mw + (1024 - bias - e)) == 0

/-- The same number in the narrower format. -/
def f64Narrow (v ew mw : Nat) : Nat :=
  let e := bits v 52 11
  let m := bits v 0 52
  let bias := 2 ^ (ew - 1) - 1
  let s := bits v 63 1 * 2 ^ (ew + mw)
  if e = 0 then s
  else if e = 2047 then s + (2 ^ ew - 1) * 2 ^ mw + m / 2 ^ (52 - mw)
  else if 1023 < e + bias then s + (e + bias - 1023) * 2 ^ mw + m / 2 ^ (52 - mw)
  else s + (2 ^ 52 + m) / 2 ^ (52 - mw + (1024 - bias - e))

/-- A float in the shortest form that keeps its value. -/
def cborFloat (v : Nat) : List Nat :=
  if f64Fits v 5 10 then [0xF9] ++ be 2 (f64Narrow v 5 10)
  else if f64Fits v 8 23 then [0xFA] ++ be 4 (f64Narrow v 8 23)
  else [0xFB] ++ be 8 v

/-- The protected header of R416, encoded: the map of 1 to -35. -/
def coseProtected : List Nat := [0xA1, 0x01, 0x38, 0x22]

/-- The bytes of the Sig_structure of RFC 9052 over a payload, with an empty external AAD. -/
def coseSigInput (payload : List Nat) : List Nat :=
  cborArr [cborHead 3 10 ++ [0x53, 0x69, 0x67, 0x6E, 0x61, 0x74, 0x75, 0x72, 0x65, 0x31], cborBytes coseProtected, cborBytes [],
    cborBytes payload]

/-- A COSE_Sign1 object under tag 18 (R416) with the key identifier and the signature. (DESIGN CHOICE: log 61.) -/
def coseSign1 (kid payload sig : List Nat) : List Nat :=
  [0xD2] ++ cborArr [cborBytes coseProtected, cborMap [(4, cborBytes kid)], cborBytes payload, cborBytes sig]

end Sys2Proof.Machine
end

