-- ==== Sys2Proof/Machine/HistOps.lean ====
section
/-!
DEFINITION. The history store's medium (R497 to R507, R514 to R519): flash bytes, blocks, superblocks, appends, the daily cap, free space,
mounting and compaction.
-/

namespace Sys2Proof.Machine

/-! ## Bytes of the two devices -/

/-- LTIME (R491). -/
def Node.ltime (n : Node) : Nat := n.tideline / 1000000000 % 2 ^ 32

/-- Program bytes at an address: programming only clears bits, so that complemented bytes only gain them (R497, R500). -/
def Cells.program (m : Cells) (addr : Nat) (bytes : List Nat) : Cells :=
  let old := m.read addr bytes.length
  m.write addr ((old.zip bytes).map fun p => p.1 ||| (255 - p.2 % 256))

/-- Erase a block of 64 KiB. -/
def Cells.eraseBlock (m : Cells) (b : Nat) : Cells := m.below (65536 * b) ++ m.above (65536 * b + 65536)

/-- The complemented bytes of a path. -/
def HistX.path (h : HistX) (p : Nat) : Cells := if p = 0 then h.flash else h.flashB

/-- Replace them. -/
def HistX.setPath (h : HistX) (p : Nat) (m : Cells) : HistX := if p = 0 then { h with flash := m } else { h with flashB := m }

/-- Bytes as a path reads them. -/
def HistX.read (h : HistX) (p addr k : Nat) : List Nat := ((h.path p).read addr k).map fun c => 255 - c

/-- Change the store. -/
def Abl.onHist (a : Abl) (f : HistX → HistX) : Abl := { a with hist := f a.hist }

/-- The paths that are not retired (R500, R501). -/
def Abl.hsPaths (a : Abl) : List Nat := [0, 1].filter fun p => a.n.fld Reg.ABL_HS_PATH p 62 2 != 3

/-- Program bytes on some paths, counted in PHYS_BYTES (R502). -/
def Abl.hsProgram (a : Abl) (paths : List Nat) (addr : Nat) (bytes : List Nat) : Abl :=
  if paths.isEmpty then a
  else
    let a := a.onHist fun h => paths.foldl (fun h p => h.setPath p ((h.path p).program addr bytes)) h
    a.on fun n => n.bump Reg.ABL_HS_PHYS_BYTES 0 bytes.length

/-! ## Blocks -/

/-- ERASE_COUNT of a block. -/
def HistX.eraseCount (h : HistX) (b : Nat) : Nat := lookupD h.erases b 0

/-- The free log blocks (R498, R506). -/
def HistX.freeBlocks (h : HistX) : List Nat :=
  (List.range 4096).filter fun b => decide (2 ≤ b) && !(h.bad.contains b) && !(h.blocks.any fun x => x.b == b)

/-- How many log blocks are free. -/
def HistX.freeCount (h : HistX) : Nat := 4094 - (h.blocks.filter fun x => decide (2 ≤ x.b)).length - h.bad.length

/-- ABL_HS_FREE, LOW_SPACE and ABL_HS_ERASE (R516, R533). -/
def Abl.hsView (a : Abl) : Abl :=
  let h := a.hist
  let counts := h.erases.map fun p => p.2
  let hi := counts.foldl max 0
  let lo := if counts.length < 4096 then 0 else counts.foldl min hi
  a.on fun n => ((n.wr Reg.ABL_HS_FREE 0 (min 4095 h.freeCount)).setB Reg.ABL_HS_STATUS 0 24 (decide (h.freeCount < 256))).wr Reg.ABL_HS_ERASE 0
    (min hi (2 ^ 17 - 1) * 2 ^ 32 + min lo (2 ^ 17 - 1))

/-- Erase a block on every path that is not retired; one that reaches 100,000 erases leaves use (R515). -/
def Abl.hsErase (a : Abl) (b : Nat) : Abl :=
  let ps := a.hsPaths
  let k := a.hist.eraseCount b + 1
  a.onHist fun h =>
    let h := ps.foldl (fun h p => h.setPath p ((h.path p).eraseBlock b)) h
    { h with erases := bindKey h.erases b k, blocks := h.blocks.filter fun x => x.b != b,
             bad := if 100000 ≤ k && !h.bad.contains b then b :: h.bad else h.bad }

/-- The header page of a block (R498). -/
def blockHeader (role format erase first ltime : Nat) : List Nat :=
  let b := [0x5A, role] ++ le 2 format ++ le 4 erase ++ le 8 first ++ le 4 ltime ++ zeros 232
  b ++ le 4 (crc32c b)

/-- STORE_FLAGS (R502). -/
def Abl.storeFlags (a : Abl) : Nat :=
  let ret (p : Nat) : Nat := b2n (a.n.fld Reg.ABL_HS_PATH p 62 2 == 3)
  b2n (a.n.bit Reg.ABL_HS_STATUS 0 28) + 2 * ret 0 + 4 * ret 1 + 8 * b2n (a.n.bit Reg.ABL_HS_STATUS 0 26) +
    16 * b2n (a.n.bit Reg.ABL_HS_STATUS 0 27)

/-- The superblock as it stands (R502). -/
def Abl.superBytes (a : Abl) (half seq : Nat) : List Nat :=
  let h := a.hist
  let b := [0x5A, 0x0A + half] ++ le 2 (a.n.fld Reg.ABL_HS_STATUS 0 0 16) ++ le 2 h.formatAlt ++ le 2 a.storeFlags ++ le 8 seq ++
    le 8 h.ckptJseq ++ le 4 (h.ckptBlocks.headD 0) ++ le 4 h.ckptBlocks.length ++ le 4 (h.altBlocks.headD 0) ++ le 4 h.altBlocks.length ++
    le 8 (h.ckptJseq + 1) ++ le 4 (h.open_.getD 0) ++ le 4 h.probation ++ le 8 (a.n.rd Reg.ABL_HS_PHYS_BYTES) ++ zeros 188
  b ++ le 4 (crc32c b)

/-- Write a superblock (R503): blocks A and B in turn, the next free slot, a full block erased first. -/
def Abl.superWrite (a : Abl) : Abl :=
  let seq := a.n.rd Reg.ABL_HS_SB_SEQ + 1
  let half := seq % 2
  let used := if half = 0 then a.hist.sbSlots.1 else a.hist.sbSlots.2
  let fresh := used = 0 || 255 ≤ used
  let a := if 255 ≤ used then a.hsErase half else a
  let a := if fresh then a.hsProgram a.hsPaths (65536 * half) (blockHeader 0 (a.n.fld Reg.ABL_HS_STATUS 0 0 16) (a.hist.eraseCount half)
      (a.n.rd Reg.ABL_HS_JSEQ) a.n.ltime) else a
  let k := if 255 ≤ used then 0 else used
  let a := a.hsProgram a.hsPaths (65536 * half + 256 * (k + 1)) (a.superBytes half seq)
  let a := a.onHist fun h => { h with sbAt := some a.n.local, sbDue := false,
                                      sbSlots := if half = 0 then (k + 1, h.sbSlots.2) else (h.sbSlots.1, k + 1) }
  a.on fun n => n.wr Reg.ABL_HS_SB_SEQ 0 seq

/-- A cause for a superblock (R503): written now, or once 10 s have passed since the last. -/
def Abl.superCause (a : Abl) : Abl :=
  match a.hist.sbAt with
  | some t => if t + 10000000000 ≤ a.n.local then a.superWrite else a.onHist fun h => { h with sbDue := true }
  | none => a.superWrite

/-- Open the free block with the lowest ERASE_COUNT for a role (R499, R515); none while no block is free. -/
def Abl.hsOpenBlock (a : Abl) (role first : Nat) : Option (Nat × Abl) :=
  let pick := a.hist.freeBlocks.foldl (fun (o : Option Nat) b => match o with
    | none => some b
    | some c => if a.hist.eraseCount b < a.hist.eraseCount c then some b else o) none
  match pick with
  | none => none
  | some b =>
    let a := a.hsProgram a.hsPaths (65536 * b) (blockHeader role (a.n.fld Reg.ABL_HS_STATUS 0 0 16) (a.hist.eraseCount b) first a.n.ltime)
    let a := a.onHist fun h => { h with blocks := h.blocks ++ [{ b := b, role := role, first := first }] }
    some (b, a.hsView)

/-! ## Appends -/

/-- MOUNT (R534). -/
def Abl.hsMount (a : Abl) : Nat := a.n.fld Reg.ABL_HS_STATUS 0 29 3

/-- Whether the store takes records: mounted or formatted empty, enabled, not sealed, and PWRFAIL_N high (R504, R529, R534). -/
def Abl.hsOn (a : Abl) : Bool :=
  (a.hsMount == 2 || a.hsMount == 4) && a.n.bit Reg.ABL_HS_CTRL 0 0 && !a.n.bit Reg.ABL_HS_STATUS 0 26 && !a.hist.pwrFail

/-- Record bytes of the last 24 hours, and OVER_CAP (R514). -/
def Abl.dayView (a : Abl) : Abl :=
  let sum := a.hist.hours.sum
  a.on fun n => (n.wr Reg.ABL_HS_DAY_MB 0 (sum / 1000000)).setB Reg.ABL_HS_STATUS 0 25
    (decide (n.fld Reg.ABL_HS_CTRL 0 16 16 * 1000000 ≤ sum))

/-- Add to the first bucket. -/
def addHead (l : List Nat) (k : Nat) : List Nat := match l with | [] => [k] | x :: t => (x + k) :: t

/-- The block and offset where `need` bytes go (R499): the open block, or a new one. -/
def Abl.hsPlace (a : Abl) (need : Nat) : Option (Nat × Nat × Abl) :=
  let here := match a.hist.open_ with
    | some b => (a.hist.blocks.find? fun x => x.b == b && decide (x.next + need ≤ 65536)).map fun x => (b, x.next)
    | none => none
  match here with
  | some (b, off) => some (b, off, a)
  | none =>
    match a.hsOpenBlock 1 (a.n.rd Reg.ABL_HS_JSEQ) with
    | none => none
    | some (b, a) => some (b, 256, (a.onHist fun h => { h with open_ := some b }).superCause)

/-- End the runs of refused ordinary records (R514, R516). -/
def Abl.hsRuns (a : Abl) : Abl :=
  let c := a.hist.capRun
  let s := a.hist.spaceRun
  let a := a.onHist fun h => { h with capRun := 0, spaceRun := 0 }
  a.on fun n => (n.loss c 0x0170 0 (some 650)).loss s 0x0171 0 (some 650)

/-- Refuse a record for want of space or under the cap (R514, R516), or say that it may be stored. -/
def Abl.hsAdmit (a : Abl) (size : Nat) (ess : Bool) : Abl × Bool :=
  let free := a.hist.freeCount
  let excess := decide (a.n.fld Reg.ABL_HS_CTRL 0 16 16 * 1000000 ≤ a.hist.hours.sum)
  if free < 32 && ess then (a.on fun n => n.notice 1 [], false)
  else if free < 256 && !ess then (a.onHist fun h => { h with spaceRun := h.spaceRun + 1 }, false)
  else if excess && !ess then
    (((a.onHist fun h => { h with capRun := h.capRun + 1 })).on fun n => n.bump Reg.ABL_HS_DEFERRED, false)
  else
    let a := if ess then a else a.hsRuns
    if excess then
      let a := (a.onHist fun h => { h with overHours := addHead h.overHours size }).on fun n => n.bump Reg.ABL_HS_OVERCAP 0 size
      let again := match a.hist.overAt with | some t => decide (t + 86400000000000 ≤ a.n.local) | none => true
      if 1000000000 ≤ a.hist.overHours.sum && again then
        ((a.onHist fun h => { h with overAt := some a.n.local }).on fun n => n.escalate 650 6 0 650 0, true)
      else (a, true)
    else (a, true)

/-- Append a record (R499, R500): its body on every path, MARK on those of `marks`. -/
def Abl.hsWrite (a : Abl) (rec : List Nat) (ess : Bool) (marks : List Nat) : Abl :=
  let need := rec.length + 8
  match a.hsPlace need with
  | none => a
  | some (b, off, a) =>
    let jseq := a.n.rd Reg.ABL_HS_JSEQ
    let addr := 65536 * b + off
    let body := rec.drop 1 ++ le 4 (crc32c rec) ++ le 4 (jseq % 2 ^ 32)
    let a := a.hsProgram a.hsPaths (addr + 1) body
    let a := a.hsProgram (marks.filter fun p => a.hsPaths.contains p) addr [0x5A]
    let x : HsRec := { jseq := jseq, bytes := rec, block := b, off := off, marks := marks, essential := ess, tab := a.hist.tab, gov := a.gov }
    let a := a.onHist fun h => { h with
      log := h.log ++ [x], blocks := h.blocks.map fun y => if y.b = b then { y with next := off + need } else y,
      hours := addHead h.hours rec.length, sinceCkpt := h.sinceCkpt + need }
    (a.on fun n => n.wr Reg.ABL_HS_JSEQ 0 (jseq + 1)).dayView

/-- Store a record of the firmware; an essential one is durable before its change shows (R505). -/
def Abl.hsStore (a : Abl) (r : Record) (ess : Bool) : Abl :=
  if !a.hsOn then a
  else
    let (a, ok) := a.hsAdmit r.size ess
    if ok then a.hsWrite r.bytes ess a.hsPaths else a

/-- Store a change of a table to whose record the spec gives no layout (R508): 0 Dies, 1 Sources, 2 Breakwater, 3 Securing, 4 Baselines. -/
def Abl.hsTable (a : Abl) (table : Nat) (ess : Bool := true) : Abl :=
  let (r, n) := a.n.localRec 1 (Config.tableType table) (Config.tableCode table) 650 (Config.tablePayload table (a.n.rd Reg.ABL_HS_JSEQ))
  { a with n := n }.hsStore r ess

/-- Change the tables. -/
def Abl.onTab (a : Abl) (f : HistTab → HistTab) : Abl := a.onHist fun h => { h with tab := f h.tab }

/-- Store the records that the step has left for the store. -/
def Abl.hsDrain (a : Abl) : Abl :=
  match a.n.tostore with
  | [] => a
  | rs =>
    let a := a.on fun n => { n with tostore := [] }
    rs.foldl (fun a r =>
      let ess := (storeClass r.typ r.code).getD false
      let a := if r.typ = 0x18 && r.code == 7 then a.onTab fun t => { t with sigs := t.sigs ++ [(a.n.ltime, r)] }
        else if ess then a.onTab fun t => { t with events := t.events ++ [r] } else a
      a.hsStore r ess) a

/-- HS_APPEND (R500): step 1 of an append; nothing while another append is under way. (DESIGN CHOICE: log 73.) -/
def Abl.hsAppend (a : Abl) (ess : Bool) (r : Record) : Abl :=
  if !a.hsOn || a.hist.pending.isSome then a
  else
    let (a, ok) := a.hsAdmit r.size ess
    if ok then
      let jseq := a.n.rd Reg.ABL_HS_JSEQ
      let b := a.hsWrite r.bytes ess []
      if b.n.rd Reg.ABL_HS_JSEQ = jseq then b else b.onHist fun h => { h with pending := some (jseq, ess, r.bytes) }
    else a

/-- HS_APPEND_DURABLE (R500): MARK of the append under way on one path; the append ends when every path has it. -/
def Abl.hsMark (a : Abl) (p : Nat) : Abl :=
  match a.hist.pending with
  | none => a
  | some (jseq, _, _) =>
    if a.hist.pwrFail || !a.hsPaths.contains p then a
    else
      match a.hist.log.find? fun x => x.jseq == jseq with
      | none => a
      | some x =>
        let a := a.hsProgram [p] (65536 * x.block + x.off) [0x5A]
        let marks := if x.marks.contains p then x.marks else x.marks ++ [p]
        a.onHist fun h => { h with log := h.log.map (fun y => if y.jseq = jseq then { y with marks := marks } else y),
                                   pending := if a.hsPaths.all marks.contains then none else h.pending }

/-! ## Compaction -/

/-- COMPACT (R534). -/
def Abl.compactSt (a : Abl) : Nat := a.n.fld Reg.ABL_HS_STATUS 0 21 3

/-- COMPACT_STATE (R517, R530), and the operation's KSTATE. -/
def Abl.compactNote (a : Abl) (old new freed : Nat) : Abl :=
  match a.hist.pass with
  | none => a
  | some x =>
    let ms := (a.n.local - x.began) / 1000000
    let a := a.on fun n => (n.setFld Reg.ABL_HS_STATUS 0 21 3 new).emit 0 2 0x1B 0x0040 650
      (le 4 (n.tideline / 2 ^ 32) ++ le 4 x.handle ++ [old, new, 0, 0] ++ le 4 freed ++ le 8 x.bytes ++ le 4 freed ++ le 4 ms) 8
    a.on fun n => n.opChange x.handle fun o =>
      { o with kstate := new, cs := [freed, x.bytes, freed, 0], state := if new = 2 then 1 else if o.state = 2 then 2 else 0 }

/-- Passes that began in the last 24 hours (R517). -/
def Abl.passesToday (a : Abl) : List Nat := a.hist.passTimes.filter fun t => decide (a.n.tideline < t + 86400000000000)

/-- Whether a cause of R517 stands. -/
def Abl.compactCause (a : Abl) : Bool :=
  let h := a.hist
  decide (67108864 ≤ h.sinceCkpt) || decide (h.ckptAt + 86400000000000 ≤ a.n.tideline) || decide (h.freeCount < 256) || h.passDue.isSome

/-- Write a chain of checkpoint blocks of a role; how many blocks is open (R517). -/
def Abl.writeChain (a : Abl) (role jseq : Nat) : Abl × List Nat :=
  (List.range (1 + Config.ckptMore jseq % 1536)).foldl (fun (p : Abl × List Nat) i =>
    match p.1.hsOpenBlock role jseq with
    | some (b, a) => (a.hsProgram a.hsPaths (65536 * b + 256) ((Config.ckptData jseq i).take 65280), p.2 ++ [b])
    | none => p) (a, [])

/-- A pass starts (R517, R518). -/
def Abl.compactStart (a : Abl) : Abl :=
  let urgent := decide (a.hist.freeCount < 32)
  let may := a.n.bit Reg.ABL_HS_CTRL 0 1 && decide (a.passesToday.length < 24)
  if !a.hsOn || a.hist.pass.isSome || !a.compactCause || !(may || urgent) then a
  else
    let (h, n) := match a.hist.passDue with
      | some h => (h, a.n)
      | none => match a.n.opStart 4 255 0 with | (o, n) => (o.getD 0, n)
    let a : Abl := { a with n := n }
    let j := a.n.rd Reg.ABL_HS_JSEQ - 1
    let phys := a.n.rd Reg.ABL_HS_PHYS_BYTES
    let (a, bs) := a.writeChain 2 j
    let (a, alt) := if a.n.bit Reg.ABL_HS_STATUS 0 27 then a.writeChain 3 j else (a, [])
    let x : PassX := { handle := h, jseq := j, began := a.n.local, blocks := bs, alt := alt, bytes := a.n.rd Reg.ABL_HS_PHYS_BYTES - phys,
                       tab := a.hist.tab, gov := a.gov, urgent := urgent }
    let a := a.onHist fun h => { h with pass := some x, passDue := none, passTimes := a.n.tideline :: a.passesToday }
    let a := a.compactNote 0 1 0
    if urgent then a.on fun n => n.escalate 650 6 0 650 0 else a

/-- Load has risen above 85 % (R518). -/
def Abl.compactDefer (a : Abl) : Abl := if a.compactSt = 1 then a.compactNote 1 3 0 else a

/-- Load at or below 85 % for 10 ms, or fewer than 32 free blocks (R518). -/
def Abl.compactResume (a : Abl) : Abl :=
  if a.compactSt = 3 && (decide (a.n.mc.highAt + 10000000 ≤ a.n.local) || decide (a.hist.freeCount < 32)) then a.compactNote 3 1 0 else a

/-- SUSPEND and RESUME (R518). -/
def Abl.compactSuspend (a : Abl) : Abl :=
  if a.compactSt = 1 || a.compactSt == 3 then a.compactNote a.compactSt 2 0 else a
def Abl.compactUnsuspend (a : Abl) : Abl := if a.compactSt = 2 then a.compactNote 2 1 0 else a

/-- Free blocks: they are erased at once, ready for use. -/
def Abl.hsFree (a : Abl) (bs : List Nat) : Abl := (bs.foldl Abl.hsErase a).hsView

/-- What a checkpoint drops (R512). -/
def HistTab.trim (t : HistTab) (ltime windowH : Nat) (days : Nat := 400) : HistTab :=
  let old (l h : Nat) : Bool := decide (l + 3600 * h < ltime)
  let gone := (t.dies.filter fun d => d.departed != 0 && old d.departed (24 * days)).map fun d => d.serial
  let day := ltime / 86400
  let k := t.sigs.length
  { t with
    dies := t.dies.filter fun d => !gone.contains d.serial
    cells := t.cells.filter fun c => !gone.contains c.serial &&
      !((match c.fails with | [] => true | f :: _ => old f.ltime (max windowH 720)) && c.expose.all fun e => decide (e.1 + 8 < day))
    sigs := (t.sigs.zipIdx.filter fun p => !(old p.1.1 (24 * days) && decide (p.2 + 65536 < k))).map fun p => p.1 }

/-- Whether a superblock may be written now: 10 s have passed since the last (R503). (DESIGN CHOICE: log 73.) -/
def Abl.superFree (a : Abl) : Bool := match a.hist.sbAt with | some t => decide (t + 10000000000 ≤ a.n.local) | none => true

/-- The chain is complete (R517, R518): superblock, and every block wholly before J + 1 that nothing reads is freed. (DESIGN CHOICE: log 73.) -/
def Abl.compactDone (a : Abl) : Abl :=
  match a.hist.pass with
  | none => a
  | some x =>
    if a.compactSt ≠ 1 || !a.superFree then a
    else
      let windowH := a.n.fld Reg.ABL_VER_HIST_CFG 0 0 16
      let keep := x.blocks ++ x.alt
      let held := a.hist.exports.flatMap fun e => e.left.map fun p => p.1
      let live := a.hist.log.filter fun r => decide (x.jseq < r.jseq) || held.contains r.jseq
      let free := (a.hist.blocks.filter fun y => decide (2 ≤ y.b) && !keep.contains y.b && a.hist.open_ != some y.b &&
        !(live.any fun r => r.block == y.b)).map fun y => y.b
      let tab := x.tab.trim a.n.ltime windowH
      let a := a.onHist fun h => { h with
        ckptTab := tab, ckptGov := x.gov, ckptJseq := x.jseq, ckptBlocks := x.blocks, altBlocks := x.alt, ckptAt := a.n.tideline,
        sinceCkpt := 0, log := h.log.filter fun r => decide (x.jseq < r.jseq) || held.contains r.jseq,
        tab := h.tab.trim a.n.ltime windowH }
      let a := a.superCause.hsFree free
      let a := a.compactNote 1 0 free.length
      let ms := (a.n.local - x.began) / 1000000
      let a := a.on fun n => n.opEnd x.handle stOk 1 [free.length, x.bytes, free.length, ms]
      a.onHist fun h => { h with pass := none }

/-- CANCEL, an engine reset or a power cut ends a pass (R518). -/
def Abl.compactCancel (a : Abl) : Abl :=
  match a.hist.pass with
  | none => a
  | some x =>
    let a := (a.hsFree (x.blocks ++ x.alt)).compactNote a.compactSt 0 0
    let a := a.on fun n => n.opEnd x.handle stCancelled 2 [0, x.bytes, 0, 0]
    a.onHist fun h => { h with pass := none }

/-! ## Power and paths -/

/-- PWRFAIL_N falls (R504): no new program or erase starts, an erase in flight is abandoned, and firmware is interrupted. -/
def Abl.pwrFailed (a : Abl) : Abl :=
  if a.hist.pwrFail then a
  else
    let cut := match a.hist.op with | some (3, _, addr) => some (addr / 65536) | _ => none
    let a := match cut with
      | some b => (a.hsProgram a.hsPaths (65536 * b) [0]).onHist fun h => { h with blocks := h.blocks.filter fun x => x.b != b, op := none }
      | none => a
    let a := if cut.isSome then a.on fun n => n.setB Reg.ABL_HS_OP_STATUS 0 0 false else a
    (a.onHist fun h => { h with pwrFail := true }).on fun n => (n.satFld Reg.ABL_HS_PWRFAIL 0 0 32 1).irqAll 2

/-- PWRFAIL_N has been high for 1 ms (R504). -/
def Abl.pwrResume (a : Abl) : Abl := a.onHist fun h => { h with pwrFail := false }

/-- UNMIRRORED follows the paths (R501): set when one is retired; cleared by the compaction that levels a restored one. -/
def Abl.hsMirror (a : Abl) : Abl :=
  let lost := a.hsPaths.length < 2
  if lost && !a.n.bit Reg.ABL_HS_STATUS 0 28 then (a.on fun n => n.setB Reg.ABL_HS_STATUS 0 28 true).superCause
  else a

end Sys2Proof.Machine
end

