-- ==== Sys2Proof/Machine/GovOps.lean ====
section
/-!
DEFINITION. What a tray keeps of its dies (R407, R479, R484, R493, R513): unit states, suspect masks, HISTORY words; its drain proposals;
and the Breakwater governor (R480 to R485).
-/

namespace Sys2Proof.Machine

/-! ## Dies of the tray -/

/-- The die port of a die index: its own child slot (R255). -/
def Node.portOfDie (n : Node) (die : Nat) : Option Nat :=
  (List.range 16).find? fun c => n.childValid c && n.childNode c == die % 2 ^ 17

/-- The die index at a port. -/
def Node.dieOf (n : Node) (port : Nat) : Nat := n.childNode port % 2 ^ 17

/-- A command to the DDU of a port over the sentinel mailbox (R593, R620): a LINK-class message with the command code. (DESIGN CHOICE: log 37.) -/
def Node.dieCmd (n : Node) (port code : Nat) (params : List Nat) : Node := n.sendFrame port (n.childNode port) 6 .mailbox [code] params

/-- At the end of training on a die port (R194, R606): HELLO as REQUESTER 4, then DIE_IDENT with the die's index and its list of siblings. (DEDUCED: log 34.) -/
def Node.identify (n : Node) (port : Nat) : Node :=
  if n.role = 1 && decide (port < 16) then
    let n := n.dieCmd port 0x0001 (le 2 1 ++ le 2 0 ++ [4] ++ padTo 35 ((Config.dieHello port).map fun b => b % 256))
    n.dieCmd port 0x1001 (le 4 (n.ident % 2 ^ 17 * 16 + port) ++ zeros 4 ++
      (List.range 3).flatMap fun k => le 8 (2 ^ 63 + Config.fbPeerAddr port k % 2 ^ 63))
  else n

/-- The serial of the die that a port holds, 0 while it is not known. -/
def Abl.serialAt (a : Abl) (port : Nat) : Nat := lookupD a.hist.tab.ports port 0

/-- The die entry of a serial. -/
def HistTab.die (t : HistTab) (serial : Nat) : DieRec := (t.dies.find? fun d => d.serial == serial).getD { serial := serial }

/-- Replace a die entry. -/
def HistTab.putDie (t : HistTab) (d : DieRec) : HistTab := { t with dies := d :: t.dies.filter fun x => x.serial != d.serial }

/-- Change a die entry. -/
def HistTab.onDie (t : HistTab) (serial : Nat) (f : DieImage → DieImage) : HistTab :=
  let d := t.die serial
  t.putDie { d with image := f d.image }

/-- A unit entry of an image. -/
def DieImage.unit (m : DieImage) (u : Nat) : UnitEnt := (m.units.find? fun x => x.u == u).getD { u := u }

/-- Replace a unit entry. -/
def DieImage.putUnit (m : DieImage) (x : UnitEnt) : DieImage := { m with units := x :: m.units.filter fun y => y.u != x.u }

/-- A cell record. -/
def HistTab.cell (t : HistTab) (serial unit cell : Nat) : CellRec :=
  (t.cells.find? fun c => c.serial == serial && c.unit == unit && c.cell == cell).getD { serial := serial, unit := unit, cell := cell }

/-- Replace a cell record. -/
def HistTab.putCell (t : HistTab) (c : CellRec) : HistTab :=
  { t with cells := c :: t.cells.filter fun x => !(x.serial == c.serial && x.unit == c.unit && x.cell == c.cell) }

/-- P_WINDOW_H (R421). -/
def Node.windowH (n : Node) : Nat := n.fld Reg.ABL_VER_HIST_CFG 0 0 16

/-- Failures of distinct epochs of a cell within the window (R409, R510). -/
def CellRec.count (c : CellRec) (ltime windowH : Nat) : Nat :=
  (((c.fails.filter fun f => decide (ltime ≤ f.ltime + 3600 * windowH)).map fun f => (f.epoch, f.jobtag)).eraseDups).length

/-- MATCH tiles of a cell whose day begins within the window (R510). -/
def CellRec.tiles (c : CellRec) (ltime windowH : Nat) : Nat :=
  ((c.expose.filter fun e => decide (ltime ≤ 86400 * e.1 + 3600 * windowH)).map fun e => e.2).sum

/-- The cells of a unit. -/
def HistTab.cellsOf (t : HistTab) (serial unit : Nat) : List CellRec := t.cells.filter fun c => c.serial == serial && c.unit == unit

/-! ## Suspect masks -/

/-- Whether a die's proposal is HELD, or has no answer yet (R481, R484). -/
def Abl.heldProp (a : Abl) (die : Nat) : Bool := a.gov.props.any fun p => p.die == die && (p.decision == 0 || p.decision == 2)

/-- The suspect mask of a port (R387, R407, R484, R520): every unit while the die is not reconciled or its proposal is HELD. -/
def Abl.suspectMask (a : Abl) (port : Nat) : Nat :=
  if a.heldProp (a.n.dieOf port) || !a.hist.reconciled.contains port then 2 ^ 512 - 1
  else
    let v := a.n.rd Reg.ABL_VER_UNITS port
    (List.range 512).foldl (fun m u => if bits v (2 * u) 2 = 1 ∨ bits v (2 * u) 2 = 2 then m + 2 ^ u else m) 0

/-- Stage the mask at the die: DIE_SUSPECT (R387, R620). -/
def Abl.stageSuspect (a : Abl) (port : Nat) : Abl :=
  let m := a.suspectMask port
  a.on fun n => n.dieCmd port 0x1005 (le 64 m)

/-! ## HISTORY words -/

/-- Write a HISTORY word and set its HVALID bit (R296, R327). (DESIGN CHOICE: log 98.) -/
def Node.histWord (n : Node) (port w v : Nat) : Node := (n.wr Reg.ABL_TREE_HIST (16 * port + w) v).setB Reg.ABL_TREE_HVALID port w true

/-- Words 0 to 3 of a port (R479). (DESIGN CHOICE: log 98.) -/
def Abl.faultWords (a : Abl) (port : Nat) : Abl :=
  let now := a.n.local
  let k (l : List (Nat × Nat)) (ns : Nat) : Nat := (l.filter fun p => p.1 == port && decide (now < p.2 + ns)).length
  let img := (a.hist.tab.die (a.serialAt port)).image
  let iso := (img.units.filter fun u => u.isolated).length
  let ret := (img.chans.filter fun c => c.2.1).length + b2n (a.n.portState port == 5)
  a.on fun n => (((n.histWord port 0 (k a.gov.faults 600000000000)).histWord port 1 (k a.gov.severes 86400000000000)).histWord port 2 iso).histWord
    port 3 ret

/-- Words 4 to 14 of a reconciled port (R513). (DESIGN CHOICE: log 98.) -/
def Abl.unitWords (a : Abl) (port : Nat) : Abl :=
  if !a.hist.reconciled.contains port then a
  else
    let s := a.serialAt port
    let t := a.n.ltime
    let w := a.n.windowH
    let img := (a.hist.tab.die s).image
    let cs := a.hist.tab.cells.filter fun c => c.serial == s
    let v := a.n.rd Reg.ABL_VER_UNITS port
    let count (st : Nat) : Nat := ((List.range 512).filter fun u => bits v (2 * u) 2 == st).length
    let last := cs.foldl (fun m c => match c.fails with | [] => m | f :: _ => max m f.ltime) 0
    let n := a.n
    let n := n.histWord port 4 ((cs.map fun c => c.count t w).foldl max 0)
    let k := Config.dieCell (n.dieOf port) n.tideline % 128
    let n := n.histWord port 5 (((cs.filter fun (c : CellRec) => c.cell == k).map fun (c : CellRec) => c.count t w).foldl max 0)
    let n := (n.histWord port 6 (count 1)).histWord port 7 (count 2)
    let n := n.histWord port 8 (if last = 0 then 2 ^ 31 - 1 else min (2 ^ 31 - 1) ((t - last) / 3600))
    let n := n.histWord port 9 (((cs.filter fun (c : CellRec) => decide (0 < c.count t w)).map fun (c : CellRec) => c.cell).eraseDups).length
    let n := (n.histWord port 10 img.proposals).histWord port 11 img.moves
    let n := n.histWord port 12 ((t - img.firstMount) / 86400)
    { a with n := (n.histWord port 13 img.fails).histWord port 14 img.campaigns }

/-! ## Proposals of a tray -/

/-- Send a record to one node, with its copy in the recorder and its event (R140, R611). -/
def Node.sendRec (n : Node) (jobtag dest cls typ code src : Nat) (payload : List Nat) : Node :=
  (n.write cls typ code src 0 payload fun r m =>
    let m := (m.event r).keep r
    m.routeMsg jobtag (m.mkMsg dest cls (.record r))).settle

/-- DRAIN_PROPOSAL's payload (R486). (DESIGN CHOICE: log 68.) -/
def PropX.bytes (p : PropX) : List Nat :=
  le 4 p.die ++ le 4 p.id ++ [p.cls, 0] ++ le 2 p.score ++ le 2 p.unit ++ [p.cell, 0] ++ le 4 p.sig ++ zeros 4

/-- L (R482). -/
def Abl.bwLimit (a : Abl) : Nat := min a.gov.cap (a.gov.spares / 2)

/-- Drop admissions older than 60 minutes (R482, R485). -/
def Abl.bwPrune (a : Abl) : Abl :=
  { a with gov := { a.gov with window := a.gov.window.filter fun w => decide (a.n.tideline < w.2.2 + 3600000000000) } }

/-- The proposals that are held, class 1 first and then by arrival (R483). -/
def Abl.bwQueue (a : Abl) : List BwItem :=
  let q := a.gov.items.filter fun x => !x.admitted
  (q.filter fun x => x.cls == 1) ++ q.filter fun x => x.cls != 1

/-- BW_DECISION's payload (R486). -/
def Abl.bwBytes (a : Abl) (die id decision : Nat) : List Nat :=
  le 4 die ++ le 4 id ++ [decision, 0] ++ le 2 a.gov.window.length ++ le 2 a.bwLimit ++ zeros 2 ++ le 4 a.gov.spares ++ le 4 a.bwQueue.length

/-- Keep the governor in the history store at every change (R485). -/
def Abl.bwKeep (a : Abl) : Abl := a.hsTable 2

/-- A unit of a die changes state (R407): UNIT_STATE, the unit entry, and the suspect bit. -/
def Abl.setUnit (a : Abl) (die unit new cell reason : Nat) : Abl :=
  match a.n.portOfDie die with
  | none => a
  | some port =>
    let old := bits (a.n.rd Reg.ABL_VER_UNITS port) (2 * unit) 2
    if old = new then a
    else
      let s := a.serialAt port
      let t := a.n.ltime
      let count := (a.hist.tab.cell s unit cell).count t a.n.windowH
      let a := a.onTab fun tab => tab.onDie s fun m => m.putUnit { m.unit unit with state := new, stateAt := t }
      let a := a.on fun n => (n.setFld Reg.ABL_VER_UNITS port (2 * unit) 2 new).emit 0 1 0x18 0x0006 0
        (le 4 die ++ le 2 unit ++ [old, new, cell, reason] ++ le 2 count ++ zeros 4)
      let ob := a.ver.obs.filter fun o => !(o.die == die && o.unit == unit)
      let a : Abl := { a with ver := { a.ver with obs := if new = 1 then { die := die, unit := unit, since := t } :: ob else ob } }
      (a.hsTable 0).stageSuspect port |>.unitWords port

/-- Every CONFIRMED unit of a die moves to `new` (R407, R483). -/
def Abl.unitsFrom (a : Abl) (die new reason : Nat) : Abl :=
  match a.n.portOfDie die with
  | none => a
  | some port =>
    let v := a.n.rd Reg.ABL_VER_UNITS port
    ((List.range 512).filter fun u => bits v (2 * u) 2 == 2).foldl (fun a u =>
      a.setUnit die u new ((a.hist.tab.die (a.serialAt port)).image.unit u).worst reason) a

/-- A tray receives the governor's decision on an open proposal (R481, R483). -/
def Abl.bwDecision (a : Abl) (die id decision : Nat) : Abl :=
  match a.gov.props.find? fun p => p.die == die && p.id == id with
  | none => a
  | some p =>
    let rest := a.gov.props.filter fun q => q.id != id
    let closed := decision == 4 || decision == 5 || decision == 6
    let a : Abl := { a with gov := { a.gov with props := if closed then rest else { p with decision := decision } :: rest } }
    let admitted := (decision == 1 || decision == 3) && p.decision != 1 && p.decision != 3
    let a := match a.n.portOfDie die with
      | some port =>
        let s := a.serialAt port
        let a := if admitted then ((a.onTab fun t => t.onDie s fun m => { m with proposals := m.proposals + 1 }).hsTable 0).unitWords port else a
        a.stageSuspect port
      | none => a
    if decision = 5 then a.unitsFrom die 3 4 else if decision = 6 then a.unitsFrom die 1 5 else a

/-! ## The Breakwater node -/

/-- Answer a tray (R483). -/
def Abl.bwAnswer (a : Abl) (x : BwItem) (decision : Nat) : Abl :=
  let p := a.bwBytes x.die x.id decision
  if x.tray = a.n.ident then
    ({ a with n := a.n.write 1 0x1A 0x0011 554 0 p fun r m => m.event r }).bwDecision x.die x.id decision
  else a.on fun n => n.sendRec 0 x.tray 1 0x1A 0x0011 554 p

/-- Admit a proposal: into the window, and forward to the fleet fault manager (R483). -/
def Abl.bwAdmit (a : Abl) (x : BwItem) (decision : Nat) : Abl :=
  let a : Abl := { a with gov := { a.gov with
    window := a.gov.window ++ [(x.die, x.id, a.n.tideline)],
    items := a.gov.items.map fun y => if y.id = x.id then { y with admitted := true } else y } }
  ({ a with n := a.n.write 1 0x1A 0x0010 554 0 x.body fun r m => m.event r }).bwAnswer x decision

/-- Held proposals are released while the window holds fewer than L (R482, R483). -/
def Abl.bwRelease : Nat → Abl → Abl
  | 0, a => a
  | k + 1, a =>
    if a.gov.window.length < a.bwLimit then
      match a.bwQueue with
      | [] => a
      | x :: _ => Abl.bwRelease k (a.bwAdmit x 3)
    else a

/-- Recompute: old admissions leave, then releases. -/
def Abl.bwRun (a : Abl) : Abl := let a := a.bwPrune; Abl.bwRelease 1024 a

/-- A DRAIN_PROPOSAL reaches the Breakwater node (R483): a known one may be raised, or is answered again. -/
def Abl.bwProposal (a : Abl) (tray : Nat) (p : List Nat) : Abl :=
  let die := leAt p 0 4
  let id := leAt p 4 4
  let cls := leAt p 8 1
  let a := a.bwPrune
  match a.gov.items.find? fun x => x.id == id with
  | some x =>
    let y := { x with cls := min x.cls cls, body := p }
    let a : Abl := { a with gov := { a.gov with items := a.gov.items.map fun z => if z.id = id then y else z } }
    if x.admitted then a.bwAnswer y 1
    else
      let a := a.bwRun
      let a := if (a.gov.items.any fun z => z.id == id && !z.admitted) then a.bwAnswer y 2 else a
      a.bwKeep
  | none =>
    let x : BwItem := { tray := tray, die := die, id := id, cls := cls, body := p, at_ := a.n.tideline }
    let put (a : Abl) : Abl := { a with gov := { a.gov with items := a.gov.items ++ [x] } }
    if a.gov.window.length < a.bwLimit && a.bwQueue.isEmpty then ((put a).bwAdmit x 1).bwKeep
    else if 1024 ≤ a.bwQueue.length then a.bwAnswer x 2
    else
      let a := (put a).bwRun
      let a := if (a.gov.items.any fun z => z.id == id && !z.admitted) then a.bwAnswer x 2 else a
      a.bwKeep

/-- Close a proposal at the Breakwater node with a decision. -/
def Abl.bwClose (a : Abl) (x : BwItem) (decision : Nat) : Abl :=
  let a : Abl := { a with gov := { a.gov with items := a.gov.items.filter fun y => y.id != x.id } }
  a.bwAnswer x decision

/-- A die's level as the Breakwater node hears of it: a held class 2 proposal of a die below Surge is withdrawn (R483). -/
def Abl.bwRisk (a : Abl) (die level : Nat) : Abl :=
  if 2 ≤ level then a
  else match a.gov.items.find? fun x => x.die == die && x.cls == 2 && !x.admitted with
    | some x => (a.bwClose x 4).bwKeep
    | none => a

/-- An admission leaves the window (R482). -/
def Abl.bwExpiry (a : Abl) : Abl :=
  let b := a.bwPrune
  if b.gov.window.length = a.gov.window.length then a else b.bwRun.bwKeep

/-- BW_CONFIG (R480). -/
def Abl.bwConfig (a : Abl) (pool cap spares : Nat) : Abl :=
  ({ a with gov := { a.gov with pool := pool, cap := cap, spares := spares } } : Abl).bwRun.bwKeep

/-- BW_OVERRIDE (R483): 1 DRAIN, 2 REJECT; none for a closed proposal. (DESIGN CHOICE: log 68.) -/
def Abl.bwOverride (a : Abl) (id what : Nat) : Option Abl :=
  match a.gov.items.find? fun x => x.id == id with
  | none => none
  | some x =>
    if what = 1 then
      let a : Abl := if x.admitted then a else { a with gov := { a.gov with window := a.gov.window ++ [(x.die, x.id, a.n.tideline)] } }
      some (a.bwClose x 5).bwKeep
    else some (a.bwClose x 6).bwRun.bwKeep

/-- BW_REPORT (R482, R483): 1 drained, 2 declined, 3 repaired die returned, 4 new die.  At a tray a drain makes its CONFIRMED units
DRAINED, and either outcome closes its proposal. (DESIGN CHOICE: log 68.) -/
def Abl.bwReport (a : Abl) (key outcome : Nat) : Abl :=
  let item := a.gov.items.find? fun x => x.id == key || (x.die == key && x.admitted)
  let prop := a.gov.props.find? fun p => p.id == key || p.die == key
  let a : Abl := match item with
    | some x => if outcome = 1 ∨ outcome = 2 then { a with gov := { a.gov with items := a.gov.items.filter fun y => y.id != x.id } } else a
    | none => a
  let a : Abl := match outcome with
    | 1 => { a with gov := { a.gov with spares := a.gov.spares - 1 } }
    | 2 => match item with
      | some x => { a with gov := { a.gov with window := a.gov.window.filter fun w => w.2.1 != x.id } }
      | none => a
    | _ => { a with gov := { a.gov with spares := a.gov.spares + 1 } }
  let a := match prop with
    | some p =>
      let a : Abl := if outcome = 1 ∨ outcome = 2 then { a with gov := { a.gov with props := a.gov.props.filter fun q => q.id != p.id } } else a
      if outcome = 1 then a.unitsFrom p.die 3 4 else a
    | none => if outcome = 1 then a.unitsFrom key 3 4 else a
  a.bwRun.bwKeep

/-! ## Sending proposals -/

/-- Send a proposal to the Breakwater node (R481), which may be this node. -/
def Abl.sendProp (a : Abl) (p : PropX) : Abl :=
  let p := { p with sent := a.n.local }
  let a : Abl := { a with gov := { a.gov with props := p :: a.gov.props.filter fun q => q.id != p.id } }
  if Config.bwNode % 2 ^ 20 = a.n.ident then
    ({ a with n := a.n.write 1 0x1A 0x0010 554 0 p.bytes fun r m => m.event r }).bwProposal a.n.ident p.bytes
  else a.on fun n => n.sendRec 0 (Config.bwNode % 2 ^ 20) 1 0x1A 0x0010 554 p.bytes

/-- Raise a proposal for a die, or raise the class of its open one (R481). (DESIGN CHOICE: log 68.) -/
def Abl.propose (a : Abl) (die cls unit cell sig : Nat) : Abl :=
  let score := match a.n.portOfDie die with | some p => a.n.fld Reg.ABL_TREE_RISK p 48 10 | none => 0
  match a.gov.props.find? fun p => p.die == die with
  | some p => if cls < p.cls then a.sendProp { p with cls := cls, unit := unit, cell := cell, sig := sig } else a
  | none =>
    let id := (a.n.ident % 2 ^ 17) * 32768 + a.gov.nextId % 32768
    let a : Abl := { a with gov := { a.gov with nextId := a.gov.nextId + 1 } }
    let a := a.sendProp { die := die, id := id, cls := cls, score := score, unit := unit, cell := cell, sig := sig, sent := a.n.local }
    match a.n.portOfDie die with | some p => a.stageSuspect p | none => a

/-- 1 s without a decision that lets the die go: the proposal is sent again (R481); HELD is resent too, since the node may not have
queued it (R483). (DESIGN CHOICE: log 68.) -/
def Abl.bwResend (a : Abl) : Abl :=
  (a.gov.props.filter fun p => (p.decision == 0 || p.decision == 2) && decide (p.sent + 1000000000 ≤ a.n.local)).foldl Abl.sendProp a

end Sys2Proof.Machine
end

