-- ==== Sys2Proof/Machine/GridArith.lean ====
section
/-!
DEFINITION. The arithmetic contract on whole operands (R343 to R351, R692, R693): matrix products, vector work and
conversions, as functions of bytes.
-/

namespace Sys2Proof.Machine

/-! ## Packing -/

/-- Bytes of a row of `k` elements of `b` bits (R343). -/
def rowBytes (k b : Nat) : Nat := (k * b + 7) / 8

/-- The elements of one packed row. -/
def unpackRow (b k : Nat) (bytes : List Nat) : List Nat :=
  let v := leNat bytes
  (List.range k).map fun i => bits v (i * b) b

/-- One packed row of elements. -/
def packRow (b : Nat) (es : List Nat) : List Nat :=
  le (rowBytes es.length b) ((es.zipIdx.map fun (e, i) => e % 2 ^ b * 2 ^ (i * b)).sum)

/-- `m` rows of `k` packed elements. -/
def unpackRows (b m k : Nat) (bytes : List Nat) : List (List Nat) :=
  let w := rowBytes k b
  (List.range m).map fun i => unpackRow b k ((bytes.drop (i * w)).take w)

/-- The 32-bit numbers of a byte string. -/
def words32 (n : Nat) (bytes : List Nat) : List Nat := (List.range n).map fun i => leAt bytes (4 * i) 4

/-- Consecutive runs of 32. -/
def blocks32 {α : Type} (l : List α) : List (List α) := (List.range ((l.length + 31) / 32)).map fun b => (l.drop (32 * b)).take 32

/-! ## Matrix products -/

/-- RFLAGS bits of the contract (R373): SAT, SCALE_CLAMP, SCALE_NAN. -/
def fgSat : Nat := 1
def fgClamp : Nat := 2
def fgNan : Nat := 4

/-- The base of a row or column (R345). -/
def baseOf (scales : List Nat) : Nat := ((scales.filter fun s => s != 255).min?).getD 127

/-- Hold to 32 bits, and whether that changed it. -/
def sat32 (x : Int) : Int × Nat := if x < -(2 ^ 31) then (-(2 ^ 31), fgSat) else if 2 ^ 31 - 1 < x then (2 ^ 31 - 1, fgSat) else (x, 0)

/-- A shift term, and its flag (R345). -/
def shiftTerm (s base : Nat) : Int × Nat :=
  let d : Int := (s : Int) - base
  (min d 7, if d < 0 || 7 < d then fgClamp else 0)

/-- The integer path on one element (R345): operand rows in blocks, their scales (none for INT8), and the bases. -/
def mmaInt (code : Nat) (as bs : List (List Nat)) (sa sb : List Nat) (ba bb : Nat) (init : Int) : Int × Nat :=
  let w := fmtBits code
  ((as.zip bs).zipIdx).foldl (fun (acc : Int × Nat) (p : (List Nat × List Nat) × Nat) =>
    let s : Int := ((p.1.1.zip p.1.2).map fun q => toInt w q.1 * toInt w q.2).sum
    if fmtScaled code then
      let x := sa.getD p.2 255
      let y := sb.getD p.2 255
      if x = 255 || y = 255 then (acc.1, acc.2 ||| fgNan)
      else
        let (t, f1) := shiftTerm x ba
        let (u, f2) := shiftTerm y bb
        let sh := t + u
        let v : Int := if 0 ≤ sh then s * 2 ^ sh.toNat else s / (2 ^ (-sh).toNat : Nat)
        let (r, f3) := sat32 (acc.1 + v)
        (r, acc.2 ||| f1 ||| f2 ||| f3)
    else
      let (r, f) := sat32 (acc.1 + s)
      (r, acc.2 ||| f)) (init, 0)

/-- Multiply by a power of two. -/
def Fp.scale (x : Fp) (k : Int) : Fp := match x with | .fin n m e => .fin n m (e + k) | y => y

/-- The narrow float path on one element (R346). -/
def mmaNarrow (code : Nat) (as bs : List (List Nat)) (sa sb : List Nat) (init : Nat) : Nat × Nat :=
  ((as.zip bs).zipIdx).foldl (fun (acc : Nat × Nat) (p : (List Nat × List Nat) × Nat) =>
    let x := sa.getD p.2 255
    let y := sb.getD p.2 255
    let s := (p.1.1.zip p.1.2).foldl (fun t q => Fp.add t ((element code q.1).mul (element code q.2))) (.fin false 0 0)
    if x = 255 || y = 255 then (fAdd acc.1 fNan, acc.2 ||| fgNan)
    else (fAdd acc.1 (toF32 (s.scale ((x : Int) + y - 254))), acc.2)) (init, 0)

/-- The wide path on one element (R347). -/
def mmaWide (code : Nat) (as bs : List (List Nat)) (init : Nat) : Nat :=
  (as.zip bs).foldl (fun acc p =>
    let q := (p.1.zip p.2).foldl (fun q e => toF32 (((element code e.1).mul (element code e.2)).add (ofF32 q))) 0
    fAdd acc q) init

/-- A matrix product (R344 to R348): operands A and B with their scales as bytes, the accumulator before it, and the bases when
they are given. It answers the accumulator's bytes, the bases' bytes for INT2 and INT4, and the flags. -/
def mma (code m n k : Nat) (a b sa sb : List Nat) (acc : Option (List Nat)) (given : Option (List Nat)) : List Nat × List Nat × Nat :=
  let w := fmtBits code
  let nb := (k + 31) / 32
  let rows (cnt : Nat) (x : List Nat) : List (List (List Nat)) := (unpackRows w cnt k x).map blocks32
  let scales (cnt : Nat) (s : List Nat) : List (List Nat) := (List.range cnt).map fun i => (s.drop (i * nb)).take nb
  let ra := rows m a
  let rb := rows n b
  let xa := scales m sa
  let xb := scales n sb
  let bases := match given with
    | some g => g
    | none => xa.map baseOf ++ xb.map baseOf
  let old (i j : Nat) : Nat := match acc with | some l => leAt l (4 * (i * n + j)) 4 | none => 0
  let out := (List.range m).flatMap fun i => (List.range n).map fun j =>
    let pa := ra.getD i []
    let pb := rb.getD j []
    let ua := xa.getD i []
    let ub := xb.getD j []
    if fmtInt code then
      let (r, f) := mmaInt code pa pb ua ub (bases.getD i 127) (bases.getD (m + j) 127) (toInt 32 (old i j))
      (ofInt 32 r, f)
    else if code ≤ 8 then mmaNarrow code pa pb ua ub (old i j)
    else (mmaWide code pa pb (old i j), 0)
  (out.flatMap fun p => le 4 p.1, if code = 1 || code = 2 then bases else [], out.foldl (fun f p => f ||| p.2) 0)

/-! ## Vector work -/

def cLog2e : Nat := 0x3FB8AA3B
def cGelu1 : Nat := 0x3F4C422A
def cGelu2 : Nat := 0x3D372713
def cOne : Nat := 0x3F800000
def cHalf : Nat := 0x3F000000

/-- EXP, SIGMOID and GELU_TANH (R350). -/
def fExp (x free : Nat) : Nat := fExp2 (fMul x cLog2e) free
def fSigmoid (x free : Nat) : Nat := fRcp (fAdd (fExp2 (fMul x (cLog2e + 2 ^ 31)) free) cOne)
def fGelu (x free : Nat) : Nat :=
  let u := fMul (fMul x x) x
  let t := fTanh (fMul (fFma u cGelu2 x) cGelu1) free
  fMul (fMul x cHalf) (fAdd t cOne)

/-- SUM and MAX (R351). -/
def fSum (l : List Nat) : Nat := l.foldl fAdd 0
def fMaxOf (l : List Nat) : Nat := l.foldl fMax 0xFF800000

/-- An element-wise code of R692 on x, s and y; `free` is the open value of a function that the bounds do not settle. -/
def vecElem (code x s y free : Nat) : Nat :=
  match code with
  | 0x00 => fAdd x s
  | 0x01 => fSub x s
  | 0x02 => fMul x s
  | 0x03 => fFma x s y
  | 0x04 => fMin x s
  | 0x05 => fMax x s
  | 0x06 => fSqrt x
  | 0x07 => fRcp x
  | 0x08 => fRsqrt x
  | 0x09 => fExp2 x free
  | 0x0A => fLog2 x free
  | 0x0B => fTanh x free
  | 0x10 => fExp x free
  | 0x11 => fSigmoid x free
  | 0x12 => fMul x (fSigmoid x free)
  | _ => fGelu x free

/-- Whether a code is one of R692. -/
def vecCode (code : Nat) : Bool := decide (code ≤ 0x0B) || (decide (0x10 ≤ code) && decide (code ≤ 0x17))

/-- A VEC command's results from the runs x, s and y (R350, R351, R692). -/
def vecRun (code : Nat) (xs ss ys : List Nat) (scalar free : Nat) : List Nat :=
  match code with
  | 0x14 =>
    let m := fMaxOf xs
    let es := xs.map fun x => fExp (fSub x m) free
    let r := fRcp (fSum es)
    es.map fun e => fMul e r
  | 0x15 =>
    let s := fMul (fSum (xs.map fun x => fMul x x)) (fRcp (i2f xs.length))
    let r := fRsqrt (fAdd s scalar)
    (xs.zip ss).map fun p => fMul (fMul p.1 r) p.2
  | 0x16 => [fSum xs]
  | 0x17 => [fMaxOf xs]
  | _ => (xs.zip (ss.zip ys)).map fun p => vecElem code p.1 p.2.1 p.2.2 free

/-! ## Conversions -/

/-- floor(log2 |x|) of a finite number other than zero. -/
def Fp.exponent (x : Fp) : Int := match x with | .fin _ m e => (Nat.log2 m : Nat) + e | _ => 0

/-- The magnitude of a number. -/
def Fp.abs : Fp → Fp
  | .fin _ m e => .fin false m e
  | .inf _ => .inf false
  | .nan => .nan

/-- QUANT of one block (R349): its scale and elements. -/
def quantBlock (code : Nat) (xs : List Fp) : Nat × List Nat :=
  if xs.any fun x => x == .nan then (255, xs.map fun _ => 0)
  else
    let amax := xs.foldl (fun m x => if m.lt x.abs then x.abs else m) (.fin false 0 0)
    let s : Nat := match amax with
      | .inf _ => 254
      | y => if y.isZero then 127 else (max 0 (min 254 (y.exponent - quantOffset code + 127))).toNat
    (s, xs.map fun x => convert code (x.scale (127 - (s : Int))))

/-- Rows of `nc` of a run. -/
def rowsOf {α : Type} (nc : Nat) (l : List α) : List (List α) :=
  if nc = 0 then [] else (List.range ((l.length + nc - 1) / nc)).map fun r => (l.drop (r * nc)).take nc

/-- A CVT command (R349, R693): the elements' bytes and the scales' bytes. -/
def cvtRun (code nc : Nat) (quant : Bool) (xs : List Fp) : List Nat × List Nat :=
  let rows := rowsOf nc xs
  if quant then
    let qs := rows.map fun r => (blocks32 r).map (quantBlock code)
    (qs.flatMap fun r => packRow (fmtBits code) (r.flatMap fun b => b.2), qs.flatMap fun r => r.map fun b => b.1)
  else (rows.flatMap fun r => packRow (fmtBits code) (r.map (convert code)), [])

/-- The numbers of a run of INT32 with row and column bases (R345, R693). -/
def intRun (nc : Nat) (accs bases : List Nat) : List Fp :=
  let r := if nc = 0 then 0 else (accs.length + nc - 1) / nc
  accs.zipIdx.map fun (v, k) =>
    Fp.ofInt (toInt 32 v) ((bases.getD (k / nc) 127 : Int) + bases.getD (r + k % nc) 127 - 254)

end Sys2Proof.Machine
end

