-- ==== Sys2Proof/Machine/TreeOps.lean ====
section
/-!
DEFINITION. The Tree Engine (R292 to R322): features and bins, walks, links, die risk, model images and bindings.
-/

namespace Sys2Proof.Machine

/-! ## Power domains -/

/-- Start a Flood domain (R537, R541): 0 grid, 1 tree, 2 HBM, 3 securing, 4 compression. -/
def Node.domStart (n : Node) (k : Nat) : Node :=
  let n := n.setB Reg.ABL_PWR_STATE 0 (8 + k) true
  if n.fld Reg.ABL_PWR_STATE 0 0 3 = 1 then n.setFld Reg.ABL_PWR_STATE 0 0 3 2 else n

/-- Whether a Flood domain runs. -/
def Node.domOn (n : Node) (k : Nat) : Bool := n.bit Reg.ABL_PWR_STATE 0 (8 + k)

/-! ## Features -/

/-- The bin of a missing feature (R298). -/
def binMissing : Nat := 255

/-- The bin of a value under a feature's thresholds (R297, R298). -/
def TreeFeat.bin (f : TreeFeat) (y : Nat) : Nat :=
  let v := fFma y f.scale f.bias
  if fIsNan v then binMissing else (f.thr.filter fun t => fLe t v).length

/-- The value of a merged entry that CHILD_METRIC takes (R296). -/
def metricValue (tray : Bool) (op : Nat) (g : RedGot) : Option Int :=
  if tray then (if g.hidden then none else some g.raw)
  else if g.ent.withheld then none
  else g.ent.sample op

/-- The raw FP32 pattern of a feature for subject `c` at window `w` of a binding's JobTag, or none when it is missing (R296,
R297). `submit` holds COUNT of a firmware submit. -/
def Abl.featValue (a : Abl) (t c w : Nat) (submit : Option Nat) (f : TreeFeat) : Option Nat :=
  let pattern (v : Nat) : Nat := if f.float then v % 2 ^ 32 else i2f (toInt 64 v)
  match f.kind with
  | 0 =>
    match a.redSlot f.src with
    | some s =>
      if s.next = w + 1 then
        match s.last.find? fun g => g.c == c with
        | some g => (metricValue (a.n.role == 1) (a.n.metOp f.src) g).map i2f
        | none => none
      else none
    | none => none
  | 1 =>
    let cell := a.cell (32 * f.src + c)
    match a.red.slots.find? fun s => a.n.bit Reg.ABL_RED_MET s.m 123 && a.n.fld Reg.ABL_RED_MET s.m 99 8 == f.src with
    | some s => if cell.count ≤ 2 ^ a.n.fld Reg.ABL_RED_MET s.m 119 4 then none else some (i2f cell.z)
    | none => none
  | 2 =>
    let s := a.n.uschSlot t
    if s = 63 then none else some (i2f (popcount 64 (a.n.rd Reg.ABL_RED_STRAG (32 * s + c))))
  | 3 => if a.n.bit Reg.ABL_TREE_HVALID c f.src then some (pattern (a.n.rd Reg.ABL_TREE_HIST (16 * c + f.src))) else none
  | 4 =>
    match submit with
    | some k => if f.src < k then some (pattern (a.n.rd Reg.ABL_TREE_VECBUF f.src)) else none
    | none => none
  | _ => none

/-- The bins of a model's features (R298, R300), in order. (DESIGN CHOICE: log 50.) -/
def Abl.binsOf (a : Abl) (m : TreeModel) (t c w : Nat) (submit : Option Nat) : List Nat :=
  m.feats.foldl (fun bins f =>
    let b := if f.kind = 5 then
        let x := bins.getD (f.src % 256) binMissing
        let y := bins.getD (f.src / 256) binMissing
        if x = binMissing || y = binMissing then binMissing else (m.luts.getD f.lut []).getD (16 * x + y) 0
      else match a.featValue t c w submit f with
        | some y => f.bin y
        | none => binMissing
    bins ++ [b]) []

/-! ## Walks -/

/-- Bit of a stage key's field from a descriptor (R302, R305). -/
def descBit (bins : List Nat) (d : Nat) : Bool :=
  let b := bins.getD (bits d 8 8) binMissing
  match bits d 30 2 with
  | 1 => b != binMissing && decide (bits d 0 8 < b)
  | 2 => b == binMissing
  | _ => false

/-- The stage key (R301, R302). -/
def stageKey (slot tree node : Nat) (map bins : List Nat) : Nat :=
  slot * 2 ^ 250 + tree * 2 ^ 237 + node * 2 ^ 225 + (map.zipIdx.map fun (d, i) => b2n (descBit bins d) * 2 ^ i).sum

/-- The first matching entry of a bank (R301, R304). -/
def firstMatch (ents : List TreeEnt) (bank key : Nat) : Option Nat :=
  (ents.find? fun e => e.bank == bank && ((e.key ^^^ key) &&& e.mask) == 0).map fun e => e.res

/-- How a walk ends: a leaf, no match, or the stage limit. -/
inductive WalkEnd where
  | leaf (v : Nat)
  | noMatch
  | stageLimit
  deriving DecidableEq, Repr

/-- One tree's walk with `k` stages left (R304). -/
def walk (m : TreeModel) (bins : List Nat) (t : Nat) (bank : Nat) : Nat → Nat → Nat → WalkEnd
  | 0, _, _ => .stageLimit
  | k + 1, node, map =>
    match firstMatch m.ents bank (stageKey m.slot t node (m.maps.getD map []) bins) with
    | none => .noMatch
    | some r => if bit r 63 then .leaf (r % 2 ^ 32) else walk m bins t bank k (bits r 0 12) (bits r 16 12)

/-- The sums of a sample, the walks that found no match, those cut at the limit, and whether it is complete (R304, R306). A
tree on a bank in `bad` contributes 0 and makes the sample incomplete. (DESIGN CHOICE: log 50.) -/
def walkAll (m : TreeModel) (bins bad : List Nat) : List Nat × List Nat × List Nat × Bool :=
  m.trees.zipIdx.foldl (fun (acc : List Nat × List Nat × List Nat × Bool) (r, t) =>
    let (sums, none_, cut, whole) := acc
    let add (v : Nat) : List Nat := modifyAt sums r.out fun s => fAdd s v
    if bad.contains r.bank then (add 0, none_, cut, false)
    else match walk m bins t r.bank m.stages r.node r.map with
      | .leaf v => (add v, none_, cut, whole)
      | .noMatch => (add 0, none_ ++ [r.bank], cut, false)
      | .stageLimit => (add 0, none_, cut ++ [r.bank], false)) (List.replicate m.outs.length 0, [], [], true)

/-- The result of an output (R307). (DESIGN CHOICE: log 50.) -/
def TreeOut.result (o : TreeOut) (sum : Nat) : Nat :=
  match o.link with
  | 1 => if fFinite sum then ((ofF32 (fFma sum o.scale o.bias)).toInt 0 1023).toNat else if bit sum 31 then 0 else 1023
  | 2 => (o.table.filter fun t => fLe t sum).length
  | _ => sum

/-! ## Die risk -/

/-- The band of a score (R42). -/
def bandOf (score : Nat) : Nat := if score ≤ 255 then 0 else if score ≤ 767 then 1 else 2

/-- The lower bound of a band. -/
def bandLow (level : Nat) : Nat := match level with | 0 => 0 | 1 => 256 | _ => 768

/-- The level of a die. -/
def Node.riskLevel (n : Node) (d : Nat) : Nat := n.fld Reg.ABL_TREE_RISK d 62 2

/-- The tray level (R43). -/
def Node.trayLevel (n : Node) : Nat := ((List.range 16).map fun d => n.riskLevel d).foldl max 0

/-- A die's level changes (R43, R310): RISK_LEVEL, and what securing and the governor do about it. -/
def Abl.riskSet (a : Abl) (d level : Nat) : Abl :=
  let old := a.n.riskLevel d
  if old = level then a
  else
    let n := a.n.setFld Reg.ABL_TREE_RISK d 62 2 level
    let n := n.wr Reg.ABL_TREE_TRAYRISK 0 n.trayLevel
    let n := n.emit 0 1 0x16 0x0002 256
      (le 4 (bits (n.childNode d) 0 17) ++ le 2 (n.fld Reg.ABL_TREE_RISK d 48 10) ++ [old, level, n.trayLevel] ++ zeros 7)
    { a with n := { n with due := n.due ++ [React.risk d old level] },
             tree := { a.tree with below := if level < old then bindKey a.tree.below d a.n.tideline
                                            else a.tree.below.filter fun p => p.1 != d } }

/-- The scores of a die that are younger than 10 s (R310), of the bindings that are VALID with RISK. -/
def Abl.freshScores (a : Abl) (d : Nat) : List Nat :=
  let holds (i : Nat) : Bool := a.n.bit Reg.ABL_TREE_BIND i 127 && a.n.bit Reg.ABL_TREE_BIND i 126
  (a.tree.scores.filter fun s => s.2.1 == d && holds s.1 && decide (a.n.local < s.2.2.2)).map fun s => s.2.2.1

/-- Show how long the scores of a die have been below its band (R310, R327). -/
def Abl.belowView (a : Abl) (d : Nat) : Abl :=
  let ms := match a.tree.below.find? fun p => p.1 == d with
    | some p => min (2 ^ 24 - 1) ((a.n.tideline - p.2) / 1000000)
    | none => 0
  a.on fun n => n.setFld Reg.ABL_TREE_RISK d 0 24 ms

/-- Apply R43 and R310 to a die. -/
def Abl.riskUpdate (a : Abl) (d : Nat) : Abl :=
  let l := a.freshScores d
  if l.isEmpty then a.on fun n => n.setB Reg.ABL_TREE_RISK d 61 true
  else
    let score := l.foldl max 0
    let a := a.on fun n => (n.setFld Reg.ABL_TREE_RISK d 48 10 score).setB Reg.ABL_TREE_RISK d 61 false
    let level := a.n.riskLevel d
    let a := if level < bandOf score then a.riskSet d (bandOf score) else a
    let low := decide (score < bandLow (a.n.riskLevel d))
    let a : Abl := { a with tree := { a.tree with
      below := if !low then a.tree.below.filter fun p => p.1 != d
               else if a.tree.below.any fun p => p.1 == d then a.tree.below else (d, a.n.tideline) :: a.tree.below } }
    a.belowView d

/-- 10 s below the band (R43): the die falls one band. (DESIGN CHOICE: log 51.) -/
def Abl.riskFall (a : Abl) (d : Nat) : Abl :=
  match a.tree.below.find? fun p => p.1 == d with
  | some p =>
    let level := a.n.riskLevel d
    if level = 0 || (a.freshScores d).isEmpty || a.n.tideline < p.2 + 10000000000 then a
    else (a.riskSet d (level - 1)).riskUpdate d
  | none => a

/-- The entry of a port returns to Neap when another die stands there (R311). -/
def Abl.riskReset (a : Abl) (d : Nat) : Abl :=
  let a : Abl := { a with tree := { a.tree with scores := a.tree.scores.filter (fun s => s.2.1 != d),
                                                below := a.tree.below.filter fun p => p.1 != d } }
  let a := a.on fun n => n.wr Reg.ABL_TREE_RISK d (n.riskLevel d * 2 ^ 62 + 2 ^ 61)
  a.riskSet d 0

/-! ## Samples -/

/-- The model in a slot. -/
def Abl.model (a : Abl) (s : Nat) : Option TreeModel := a.tree.models.find? fun m => m.slot == s

/-- STATE of a model slot (R325). -/
def Node.modelState (n : Node) (s : Nat) : Nat := n.fld Reg.ABL_TREE_MODEL s 125 3

/-- Show the samples in flight (R324). -/
def Abl.treeView (a : Abl) : Abl := a.on fun n => n.setFld Reg.ABL_TREE_STATUS 0 0 13 a.tree.samples.length

/-- One dropped sample of binding `i` (R294). -/
def Abl.treeDrop (a : Abl) (i : Nat) : Abl :=
  { (a.on fun n => n.bump Reg.ABL_TREE_DROPPED) with tree := { a.tree with drops := bindKey a.tree.drops i (lookupD a.tree.drops i 0 + 1) } }

/-- The run of drops from a binding ends (R294). -/
def Abl.treeDropEnd (a : Abl) (i : Nat) : Abl :=
  let k := lookupD a.tree.drops i 0
  if k = 0 then a
  else { (a.on fun n => n.loss k 0x0130 i (some 256)) with tree := { a.tree with drops := a.tree.drops.filter fun p => p.1 != i } }

/-- Whether the engine's clocks run; a trigger or submit starts them (R322). -/
def Abl.treeWake (a : Abl) : Bool := a.n.domOn 1

/-- Start one sample (R292 to R294). -/
def Abl.treeStart (a : Abl) (i t w : Nat) (m : TreeModel) (c : Nat) : Abl :=
  let busy := a.tree.samples.any fun s => s.i == i && s.c == c
  let queued := ((a.tree.samples.filter fun s => s.waiting && decide (s.i < 128)).map fun s => (s.i, s.w)).eraseDups
  let full := !a.treeWake && !queued.contains (i, w) && decide (64 ≤ queued.length)
  if busy || full then a.treeDrop i
  else
    let a := a.treeDropEnd i
    let s : TreeSample := { i := i, c := c, w := w, jobtag := t, model := m, bins := a.binsOf m t c w none,
                            bind := a.n.rd Reg.ABL_TREE_BIND i, waiting := !a.treeWake }
    { a with tree := { a.tree with samples := a.tree.samples ++ [s] } }.treeView

/-- Trigger the bindings whose trigger slot is `k`, at the close of its window `w` (R292). (DESIGN CHOICE: log 50.) -/
def Abl.treeTrigger (a : Abl) (k w : Nat) : Abl :=
  if !a.n.bit Reg.ABL_TREE_CTRL 0 0 then a
  else
    let mine := (List.range 128).filter fun i => a.n.bit Reg.ABL_TREE_BIND i 127 && a.n.fld Reg.ABL_TREE_BIND i 0 12 == k
    mine.foldl (fun a i =>
      let s := a.n.fld Reg.ABL_TREE_BIND i 118 6
      match a.model s with
      | some m =>
        if a.n.modelState s != 2 then a
        else ((setBitsOf 32 (a.n.fld Reg.ABL_TREE_BIND i 32 32)).filter a.n.childValid).foldl
          (fun a c => a.treeStart i (a.n.fld Reg.ABL_TREE_BIND i 64 32) w m c) a
      | none => a) a

/-- Close an input window, and trigger the bindings of the slots that it closed (R225, R292). -/
def Abl.windowClose (a : Abl) (period w : Nat) : Abl :=
  let b := a.closeWindow period w
  let shut := (a.closing period w).filter fun s => match b.redSlot s.m with | some x => x.next == w + 1 | none => false
  shut.foldl (fun b s => b.treeTrigger s.m w) b

/-- ABL_TREE_SUBMIT (R295). (DESIGN CHOICE: log 50.) -/
def Abl.treeSubmit (a : Abl) (v : Nat) : Abl :=
  let busy := a.tree.samples.any (fun s => s.i == 128) || decide (4096 ≤ a.tree.samples.length)
  let s := bits v 16 6
  match a.model s with
  | some m =>
    if busy || !a.n.bit Reg.ABL_TREE_CTRL 0 0 || a.n.modelState s != 2 then a.on fun n => n.setB Reg.ABL_TREE_SUBMIT_STATUS 0 1 true
    else
      let c := bits v 0 5
      let x : TreeSample := { i := 128, c := c, w := 0, jobtag := 0, model := m,
                              bins := a.binsOf m 0 c 0 (some (min 256 (bits v 32 9))), waiting := !a.treeWake }
      let a := a.on fun n => n.wr Reg.ABL_TREE_SUBMIT_STATUS 0 2
      { a with tree := { a.tree with samples := a.tree.samples ++ [x] } }.treeView
  | none => a.on fun n => n.setB Reg.ABL_TREE_SUBMIT_STATUS 0 1 true

/-- One MODEL_FAULT event of causes 1 to 3 (R323): at most one record a second for each slot. (DESIGN CHOICE: log 50.) -/
def Abl.modelFault (a : Abl) (s cause bank : Nat) : Abl :=
  let old := (a.tree.faults.find? fun f => f.1 == s).getD (s, 0, 0)
  let count := old.2.2 + 1
  let put (a : Abl) (t k : Nat) : Abl := { a with tree := { a.tree with faults := (s, t, k) :: a.tree.faults.filter fun f => f.1 != s } }
  let due := cause = 4 || !(a.tree.faults.any fun f => f.1 == s && f.2.1 != 0) || decide (old.2.1 + 1000000000 ≤ a.n.local + 1)
  if due then
    (put a (a.n.local + 1) 0).on fun n => (n.irq 43).emit 0 1 0x16 0x0003 256 ([s, cause, bank, 0] ++ le 4 count)
  else put a old.2.1 count

/-- Free a model slot (R319). -/
def Abl.modelFree (a : Abl) (s : Nat) : Abl :=
  match a.model s with
  | some m =>
    let a : Abl := { a with tree := { a.tree with models := a.tree.models.filter (fun x => x.slot != s),
                                                  faults := a.tree.faults.filter fun f => f.1 != s } }
    a.on fun n =>
      let n := n.wr Reg.ABL_TREE_MODEL s 0
      (List.range 16).foldl (fun n b =>
        if n.bit Reg.ABL_TREE_STATUS 0 (16 + b) then n
        else n.wr Reg.ABL_TREE_FREE b (n.rd Reg.ABL_TREE_FREE b + (m.ents.filter fun e => e.bank == b).length)) n
  | none => a

/-- A draining slot whose last sample has completed (R319). -/
def Abl.modelDrained (a : Abl) (s : Nat) : Abl :=
  if a.n.modelState s = 3 && !a.tree.samples.any fun x => x.model.slot == s then (a.modelFree s).on fun n => n.done 0x0702 s stOk
  else a

/-- What the walks of a sample that found no match, were cut, or met a parity error leave (R304, R306, R320, R323). -/
def Abl.treeLost (a : Abl) (x : TreeSample) (lost cut used : List Nat) : Abl :=
  let s := x.model.slot
  let a := a.on fun n => (n.bump Reg.ABL_TREE_NOMATCH 0 lost.length).bump Reg.ABL_TREE_STAGE_LIMIT 0 cut.length
  let a := lost.foldl (fun a b => a.modelFault s 1 b) a
  let a := cut.foldl (fun a b => a.modelFault s 2 b) a
  used.foldl (fun a b => (a.on fun n => (n.bump Reg.ABL_TREE_SCRUB_FIX).fault (256 + b) 3 0 x.jobtag 0).modelFault s 3 b) a

/-- The outputs of a sample from the sums of its walks (R307). -/
def TreeSample.outs (x : TreeSample) (sums : List Nat) : List Nat := (x.model.outs.zip sums).map fun p => p.1.result p.2

/-- The body of a sample's result (R308): the model, the flags, the features missing and four outputs. -/
def TreeSample.body (x : TreeSample) (sums : List Nat) (whole : Bool) : List Nat :=
  let missing := (x.bins.filter fun b => b == binMissing).length
  [x.model.slot, b2n (!whole) + 2 * b2n (x.i == 128)] ++ le 2 missing ++
    (x.outs sums ++ List.replicate (4 - (x.outs sums).length) 0).flatMap (le 4)

/-- Where the result of a sample goes (R295, R308 to R310): to the registers of a submit; else to a record, and to the risk of a die. -/
def Abl.treeResult (a : Abl) (x : TreeSample) (sums : List Nat) (whole : Bool) : Abl :=
  let m := x.model
  let body := x.body sums whole
  let full := le 4 x.jobtag ++ le 4 (a.n.childNode x.c) ++ le 4 x.w ++ body
  if x.i = 128 then
    a.on fun n => ((n.wr Reg.ABL_TREE_SUBMIT_RESULT 0 (leNat body)).wr Reg.ABL_TREE_SUBMIT_STATUS 0 1).irq 41
  else
    let rep := bits x.bind 124 2
    let first := (x.outs sums).getD 0 0
    let scored := (m.outs.head?.map fun o => o.link).getD 0 != 0
    let high := if scored then decide (bits x.bind 96 10 ≤ first) else fLe (i2f (bits x.bind 96 10)) first
    let a := if rep = 1 || (rep = 2 && high) then a.on fun n => n.emit x.jobtag 2 0x16 0x0001 256 full else a
    if whole && bit x.bind 126 && x.c < 16 then
      let a : Abl := { a with tree := { a.tree with
        scores := (x.i, x.c, first, a.n.local + 10000000000) :: a.tree.scores.filter fun s => !(s.1 == x.i && s.2.1 == x.c) } }
      a.riskUpdate x.c
    else a

/-- A sample leaves the engine. -/
def Abl.treeTake (a : Abl) (i c : Nat) : Abl :=
  ({ a with tree := { a.tree with samples := a.tree.samples.filter fun s => !(s.i == i && s.c == c) } } : Abl).treeView

/-- The walks of a sample finish (R304 to R310, R320, R323). `parity` are the banks in which a lookup met a parity error. (DESIGN CHOICE: log 50.) -/
def Abl.treeComplete (a : Abl) (i c : Nat) (parity : List Nat) : Abl :=
  match a.tree.samples.find? fun s => s.i == i && s.c == c && !s.waiting with
  | none => a
  | some x =>
    let used := parity.filter fun b => x.model.trees.any fun r => r.bank == b
    let isolated := (List.range 16).filter fun b => a.n.bit Reg.ABL_TREE_STATUS 0 (16 + b)
    let w := walkAll x.model x.bins (used ++ isolated)
    (((a.treeTake i c).treeLost x w.2.1 w.2.2.1 used).treeResult x w.1 w.2.2.2).modelDrained x.model.slot

/-- The engine's clocks have started (R322): queued triggers begin. -/
def Abl.treeOn (a : Abl) : Abl :=
  let a := a.on fun n => (n.domStart 1).irq 145
  { a with tree := { a.tree with samples := a.tree.samples.map fun s => { s with waiting := false } } }

/-! ## Model images -/

/-- Whether an FP32 pattern is finite, and finite and not zero. -/
def okBias (v : Nat) : Bool := fFinite v
def okScale (v : Nat) : Bool := fFinite v && fNonzero v

/-- The features of an image from offset `off` (R316). -/
def featsAt (img : List Nat) : Nat → Nat → List TreeFeat × Nat
  | 0, off => ([], off)
  | k + 1, off =>
    let b0 := leAt img off 1
    let nt := leAt img (off + 1) 1
    let f : TreeFeat := { kind := b0 % 8, float := bit b0 7, src := leAt img (off + 2) 2, scale := leAt img (off + 4) 4,
                          bias := leAt img (off + 8) 4, lut := leAt img (off + 12) 2,
                          thr := (List.range nt).map fun j => leAt img (off + 16 + 4 * j) 4 }
    let (l, e) := featsAt img k (off + 16 + align8 (4 * nt))
    (f :: l, e)

/-- The outputs of an image from offset `off` (R316). -/
def outsAt (img : List Nat) : Nat → Nat → List TreeOut × Nat
  | 0, off => ([], off)
  | k + 1, off =>
    let link := leAt img off 1
    let o : TreeOut := { link := link, scale := leAt img (off + 4) 4, bias := leAt img (off + 8) 4,
                         table := if link = 2 then (List.range 1023).map fun j => leAt img (off + 16 + 4 * j) 4 else [] }
    let (l, e) := outsAt img k (off + 16 + if link = 2 then 4096 else 0)
    (o :: l, e)

/-- Strictly ascending, and non-decreasing, lists of FP32 values. -/
def ascending (lt : Nat → Nat → Bool) : List Nat → Bool
  | a :: b :: t => lt a b && ascending lt (b :: t)
  | _ => true

/-- The checks of R296, R299 and R300 on feature `k`. -/
def featOk (feats : List TreeFeat) (luts : List (List Nat)) (k : Nat) (f : TreeFeat) : Bool :=
  let part (j : Nat) : Bool :=
    decide (j < k) && match feats[j]? with
      | some g => g.kind != 5 && decide (g.thr.length ≤ 15)
      | none => false
  let src := match f.kind with
    | 0 => decide (f.src < 4096)
    | 1 => decide (f.src < 256)
    | 2 => f.src == 0
    | 3 => decide (f.src < 16)
    | 4 => decide (f.src < 256)
    | 5 => part (f.src % 256) && part (f.src / 256) && f.thr.isEmpty && decide (f.lut < luts.length) &&
        (luts.getD f.lut []).all fun v => decide (v ≤ 254)
    | _ => false
  src && decide (f.thr.length ≤ 254) && f.thr.all fFinite && ascending fLt f.thr &&
    (f.kind == 5 || (okScale f.scale && okBias f.bias))

/-- The checks on a key map's descriptor (R302, R317). (DESIGN CHOICE: log 51.) -/
def descOk (feats : List TreeFeat) (d : Nat) : Bool :=
  let f := bits d 8 8
  match bits d 30 2 with
  | 0 => true
  | 1 => match feats[f]? with
    | some g => if g.kind = 5 then decide (bits d 0 8 < 254) else decide (bits d 0 8 < g.thr.length)
    | none => false
  | 2 => decide (f < feats.length)
  | _ => false

/-- An entry as the image gives it. -/
structure RawEnt where
  key : Nat
  mask : Nat
  res : Nat

/-- TREE and NODE of an entry's key (R301). -/
def RawEnt.tree (e : RawEnt) : Nat := bits e.key 237 13
def RawEnt.node (e : RawEnt) : Nat := bits e.key 225 12

/-- R305 for one entry under its map: each THERM bit it cares about has a MISS bit that it holds at 0. -/
def missOk (map : List Nat) (e : RawEnt) : Bool :=
  map.zipIdx.all fun (d, i) =>
    !(bits d 30 2 == 1 && bit e.mask i) ||
      map.zipIdx.any fun (x, j) => bits x 30 2 == 2 && bits x 8 8 == bits d 8 8 && bit e.mask j && !bit e.key j

/-- What an image holds once its checks have passed; `bank` of trees and entries is still the logical one. (DESIGN CHOICE: log 51.) -/
def parseModel (img : List Nat) (size : Nat) : Option TreeModel :=
  let h (off k : Nat) : Nat := leAt img off k
  let nF := h 16 2
  let nM := h 18 2
  let nT := h 20 2
  let nO := h 22 1 + 1
  let nE := h 24 4
  let nL := h 28 2
  let offs := [h 32 4, h 36 4, h 40 4, h 44 4, h 48 4, h 52 4]
  let at_ (k : Nat) : Nat := offs.getD k 0
  let crc := crc32c (img.take 60 ++ zeros 4 ++ img.drop 64)
  let counts := decide (nF ≤ 256) && decide (nM ≤ 4096) && decide (nT ≤ 8192) && decide (nO ≤ 4) && decide (h 23 1 ≤ 15) &&
    decide (nE ≤ 524288) && decide (nL ≤ 256)
  if !(decide (64 ≤ size) && h 0 4 == 0x31455254 && h 4 2 == 1 && h 12 4 == size && img.length == size && h 60 4 == crc && counts &&
      offs.all fun o => o % 8 == 0 && decide (64 ≤ o) && decide (o ≤ size)) then none
  else
    let (feats, endF) := featsAt img nF (at_ 0)
    let (outs, endO) := outsAt img nO (at_ 5)
    let luts := (List.range nL).map fun i => (img.drop (at_ 1 + 256 * i)).take 256
    let maps := (List.range nM).map fun i => (List.range 224).map fun j => h (at_ 2 + 896 * i + 4 * j) 4
    let trees := (List.range nT).map fun i =>
      let o := at_ 3 + 8 * i
      ({ node := h o 2, map := h (o + 2) 2, out := h (o + 4) 1, bank := h (o + 5) 1 } : TreeRow)
    let ents := (List.range nE).map fun i =>
      let o := at_ 4 + 72 * i
      ({ key := h o 32, mask := h (o + 32) 32, res := h (o + 64) 8 } : RawEnt)
    let ends := [endF, at_ 1 + 256 * nL, at_ 2 + 896 * nM, at_ 3 + 8 * nT, at_ 4 + 72 * nE, endO]
    let nexts := ents.filter fun e => !bit e.res 63
    let refs := trees.zipIdx.map (fun (r, t) => (t, r.node, r.map)) ++ nexts.map fun e => (e.tree, bits e.res 0 12, bits e.res 16 12)
    let mapOf (e : RawEnt) : Option Nat := (refs.find? fun r => r.1 == e.tree && r.2.1 == e.node).map fun r => r.2.2
    let leaves := ents.filter fun e => bit e.res 63
    let absLeaf (e : RawEnt) : Fp := ofF32 (e.res % 2 ^ 31)
    let largest (t : Nat) : Fp := (leaves.filter fun e => e.tree == t).foldl (fun m e => if m.lt (absLeaf e) then absLeaf e else m) (.fin false 0 0)
    let sumOk (o : Nat) : Bool :=
      ((trees.zipIdx.filter fun (p : TreeRow × Nat) => p.1.out == o).foldl (fun (s : Fp) (p : TreeRow × Nat) => Fp.add s (largest p.2)) (.fin false 0 0)).lt (.fin false 1 126)
    let good := ends.all (fun e => decide (e ≤ size)) &&
      (feats.zipIdx.all fun (f, k) => featOk feats luts k f) &&
      (maps.all fun m => m.all (descOk feats)) &&
      (trees.all fun r => decide (r.out < nO) && decide (r.bank < 16) && decide (r.node < 4096)) &&
      (refs.all fun r => decide (r.2.2 < nM)) &&
      (ents.all fun e => e.mask / 2 ^ 224 == 2 ^ 32 - 1 && (e.key &&& e.mask) == e.key && decide (e.tree < nT)) &&
      (refs.all fun r => refs.all fun q => !(r.1 == q.1 && r.2.1 == q.2.1) || r.2.2 == q.2.2) &&
      (ents.all fun e => match mapOf e with | some m => missOk (maps.getD m []) e | none => false) &&
      (nexts.all fun e => decide (e.node < bits e.res 0 12)) &&
      (leaves.all fun e => fFinite (e.res % 2 ^ 32)) &&
      (outs.all fun o => decide (o.link ≤ 2) && (o.link != 1 || (fFinite o.scale && fFinite o.bias)) &&
        o.table.all fFinite && ascending fLe o.table) &&
      (List.range nO).all sumOk
    if good then
      some { slot := 0, feats := feats, luts := luts, maps := maps, trees := trees, stages := h 23 1 + 1, outs := outs,
             ents := ents.map fun e => { bank := (trees[e.tree]?.map fun r => r.bank).getD 0, key := e.key, mask := e.mask, res := e.res } }
    else none

/-- Place the logical banks (R318): pairs of logical and physical bank, or none. `free` lists the physical banks that are not
retired with their free entries. -/
def placeBanks : List (Nat × Nat) → List (Nat × Nat) → Option (List (Nat × Nat))
  | [], _ => some []
  | (b, k) :: t, free =>
    match free.foldl (fun (best : Option (Nat × Nat)) p => match best with
        | some q => if q.2 < p.2 then some p else best
        | none => some p) none with
    | some p => if k ≤ p.2 then (placeBanks t (free.filter fun q => q.1 != p.1)).map fun r => (b, p.1) :: r else none
    | none => none

/-- Load an image into a slot (R317 to R319): the model with its state, and the status; a load that is accepted completes
later. -/
def Abl.modelLoad (a : Abl) (s : Nat) (img : List Nat) (size : Nat) : Abl × Option Nat :=
  match parseModel img size with
  | none => (a, some stBad)
  | some m =>
    let all := a.tree.models
    let fits := decide ((all.map fun x => x.maps.length).sum + m.maps.length ≤ 4096) &&
      decide ((all.map fun x => x.feats.length).sum + m.feats.length ≤ 8192) &&
      decide ((all.map fun x => x.luts.length).sum + m.luts.length ≤ 256) &&
      decide ((all.map fun x => x.trees.length).sum + m.trees.length ≤ 65536)
    if a.n.modelState s != 0 || !fits then (a, some stRefused)
    else
      let logical := ((List.range 16).filter fun b => m.trees.any fun r => r.bank == b).map fun b =>
        (b, (m.ents.filter fun e => e.bank == b).length)
      let order := logical.mergeSort fun x y => decide (y.2 < x.2) || (x.2 == y.2 && decide (x.1 ≤ y.1))
      let free := ((List.range 16).filter fun b => !a.n.bit Reg.ABL_TREE_STATUS 0 (16 + b)).map fun b => (b, a.n.rd Reg.ABL_TREE_FREE b)
      match placeBanks order free with
      | none => (a, some stRefused)
      | some pl =>
        let phys (b : Nat) : Nat := lookupD pl b 0
        let m : TreeModel := { m with slot := s, trees := m.trees.map (fun r => { r with bank := phys r.bank }),
                                      ents := m.ents.map fun e => { e with bank := phys e.bank, key := setBits e.key 250 6 s } }
        let banks := ((pl.map fun p => p.2).map fun b => 2 ^ b).sum
        let v := 1 * 2 ^ 125 + (m.outs.length - 1) * 2 ^ 120 + banks * 2 ^ 104 + (m.stages - 1) * 2 ^ 96 + leAt img 8 4 * 2 ^ 64 +
          m.ents.length * 2 ^ 32 + m.trees.length
        let a : Abl := { a with tree := { a.tree with models := m :: a.tree.models } }
        (a.on fun n =>
          let n := n.wr Reg.ABL_TREE_MODEL s v
          pl.foldl (fun n p => n.wr Reg.ABL_TREE_FREE p.2 (n.rd Reg.ABL_TREE_FREE p.2 - (m.ents.filter fun e => e.bank == p.2).length)) n,
         none)

/-- A load ends (R319): every entry written and read back, or a mismatch. -/
def Abl.modelLoaded (a : Abl) (s : Nat) (ok : Bool) : Abl :=
  if a.n.modelState s != 1 then a
  else if ok then a.on fun n => ((n.setFld Reg.ABL_TREE_MODEL s 125 3 2).irq 42).done 0x0701 s stOk
  else (a.modelFree s).on fun n => n.done 0x0701 s stInternal

/-- Lookups per millisecond that a binding commits to bank `b` (R312). -/
def Abl.bindLoad (a : Abl) (v b : Nat) : Nat :=
  match a.model (bits v 118 6) with
  | some m =>
    let per := a.n.metIn (bits v 0 12)
    let x := popcount 32 (bits v 32 32) * 10 * (m.trees.filter fun r => r.bank == b).length * m.stages
    if per = 0 then 0 else (x + per - 1) / per
  | none => 0

/-- Show the committed loads (R312). -/
def Abl.bindView (a : Abl) : Abl :=
  let valid := (List.range 128).filter fun i => a.n.bit Reg.ABL_TREE_BIND i 127
  a.on fun n => (List.range 16).foldl (fun n b => n.wr Reg.ABL_TREE_LOAD b
    ((valid.map fun i => a.bindLoad (a.n.rd Reg.ABL_TREE_BIND i) b).sum)) n

/-- MODEL_UNLOAD (R319): the status, or none while the slot drains. -/
def Abl.modelUnload (a : Abl) (s : Nat) : Abl × Option Nat :=
  match a.n.modelState s with
  | 2 =>
    if (List.range 128).any fun i => a.n.bit Reg.ABL_TREE_BIND i 127 && a.n.fld Reg.ABL_TREE_BIND i 118 6 == s then (a, some stBad)
    else if a.tree.samples.any fun x => x.model.slot == s then (a.on fun n => n.setFld Reg.ABL_TREE_MODEL s 125 3 3, none)
    else (a.modelFree s, some stOk)
  | 4 => ((a.modelFree s).bindView, some stOk)
  | _ => (a, some stBad)

/-- A bank is isolated (R319, R466): the models on it go FAULTED; with every bank isolated the device escalates. -/
def Abl.bankIsolate (a : Abl) (b : Nat) : Abl :=
  let a := a.on fun n => (n.setB Reg.ABL_TREE_STATUS 0 (16 + b) true).wr Reg.ABL_TREE_FREE b 0
  let hit := a.tree.models.filter fun m => a.n.bit Reg.ABL_TREE_MODEL m.slot (104 + b) && a.n.modelState m.slot == 2
  hit.foldl (fun a m => (a.on fun n => n.setFld Reg.ABL_TREE_MODEL m.slot 125 3 4).modelFault m.slot 4 b) a

/-- A bank returns to service (R469). -/
def Abl.bankRestore (a : Abl) (b : Nat) : Abl :=
  let held := (a.tree.models.map fun m => (m.ents.filter fun e => e.bank == b).length).sum
  a.on fun n => if n.bit Reg.ABL_TREE_STATUS 0 (16 + b) then (n.setB Reg.ABL_TREE_STATUS 0 (16 + b) false).wr Reg.ABL_TREE_FREE b (32768 - held) else n

/-! ## Bindings -/

/-- A write of a metric slot, and whether it is accepted; the loads of the bindings that it triggers follow its period (R224, R312). -/
def Abl.metSet (a : Abl) (m v : Nat) : Abl × Bool :=
  let r := a.metTry m v
  (if r.2 then r.1.bindView else r.1, r.2)

/-- A write of a metric slot (R224, R229, R230, R256, R312). -/
def Abl.metWrite (a : Abl) (m v : Nat) : Abl := (a.metSet m v).1

/-- Whether the features of a binding's model are sound for it (R313). (DESIGN CHOICE: log 51.) -/
def Abl.bindSound (a : Abl) (v : Nat) (m : TreeModel) : Bool :=
  let k := bits v 0 12
  m.feats.all fun f =>
    match f.kind with
    | 0 => a.n.metValid f.src && a.n.metTag f.src == bits v 64 32 && a.n.metIn f.src == a.n.metIn k && a.n.metOp f.src != 5 &&
        a.n.metOp f.src != 6
    | 1 => a.red.slots.any fun s => a.n.bit Reg.ABL_RED_MET s.m 123 && a.n.fld Reg.ABL_RED_MET s.m 99 8 == f.src
    | _ => true

/-- A write of ABL_TREE_BINDi (R309, R312, R313, R326): the status. (DESIGN CHOICE: log 51.) -/
def Abl.bindWrite (a : Abl) (i v : Nat) : Abl × Nat :=
  let mask := 2 ^ 127 + 2 ^ 126 + 3 * 2 ^ 124 + 63 * 2 ^ 118 + 1023 * 2 ^ 96 + (2 ^ 32 - 1) * 2 ^ 64 + (2 ^ 32 - 1) * 2 ^ 32 + 4095
  let v := v &&& mask
  let v := if bits v 124 2 = 3 then setBits v 124 2 2 else v
  let put (a : Abl) : Abl :=
    let a := (a.on fun n => n.wr Reg.ABL_TREE_BIND i v).bindView
    if bit v 127 && bit v 126 then a
    else
      let ds := (a.tree.scores.filter fun s => s.1 == i).map fun s => s.2.1
      ds.foldl Abl.riskUpdate { a with tree := { a.tree with scores := a.tree.scores.filter fun s => s.1 != i } }
  let refused (a : Abl) : Abl := a.on fun n => n.bump Reg.ABL_TREE_REFUSED
  let s := bits v 118 6
  let link := ((a.model s).bind fun m => m.outs.head?).map fun o => o.link
  if bit v 126 && (a.n.role != 1 || !(link == some 1 || link == some 2)) then (refused a, stBad)
  else if !bit v 127 then (put a, stOk)
  else
    match a.model s with
    | none => (a, stBad)
    | some m =>
      if a.n.modelState s != 2 || !a.bindSound v m then (a, stBad)
      else
        let others := (List.range 128).filter fun j => j != i && a.n.bit Reg.ABL_TREE_BIND j 127
        let excess := (List.range 16).any fun b =>
          decide (1080000 < (others.map fun j => a.bindLoad (a.n.rd Reg.ABL_TREE_BIND j) b).sum + a.bindLoad v b)
        let reserve := (others.map fun j => popcount 32 (a.n.fld Reg.ABL_TREE_BIND j 32 32)).sum + popcount 32 (bits v 32 32)
        if excess || 3072 < reserve then (refused a, stRefused) else (put a, stOk)

/-- An engine reset (R321): samples in flight and the trigger queue go. -/
def Abl.treeReset (a : Abl) : Abl :=
  let k := a.tree.samples.length
  let loading := (a.tree.models.filter fun m => a.n.modelState m.slot == 1).map fun m => m.slot
  let draining := (a.tree.models.filter fun m => a.n.modelState m.slot == 3).map fun m => m.slot
  let a : Abl := { a with tree := { a.tree with samples := [] } }
  let a := (a.treeView).on fun n => (n.loss k 0x0131 0 (some 256)).wr Reg.ABL_TREE_SUBMIT_STATUS 0 0
  let a := loading.foldl (fun a s => (a.modelFree s).on fun n => n.done 0x0701 s stBusy) a
  draining.foldl Abl.modelDrained a

/-- Entry to Slack (R319): every model slot empties. -/
def Abl.treeSlack (a : Abl) : Abl :=
  let a := a.treeReset
  let a := (List.range 128).foldl (fun a i =>
    if a.n.bit Reg.ABL_TREE_BIND i 127 && a.n.modelState (a.n.fld Reg.ABL_TREE_BIND i 118 6) != 0 then
      a.on fun n => n.setB Reg.ABL_TREE_BIND i 127 false else a) a
  ((a.tree.models.map fun m => m.slot).foldl Abl.modelFree a).bindView

/-- A scrub pass ends (R320): `fixed` rows of each named bank were rewritten. -/
def Abl.treeScrub (a : Abl) (fixed : List (Nat × Nat)) : Abl :=
  fixed.foldl (fun a (b, k) => a.on fun n =>
    (List.range k).foldl (fun n _ => n.fault (256 + b % 16) 3 0 0 0) (n.bump Reg.ABL_TREE_SCRUB_FIX 0 k)) a

end Sys2Proof.Machine
end

