-- ==== Sys2Proof/Machine/GridOps.lean ====
section
/-!
DEFINITION. The Replay Grid (R335 to R373, R688): programs and their loader, contexts, bundles and ingest, the scheduler, runs,
and the commands of a core.
-/

namespace Sys2Proof.Machine

/-! ## Cores and partitions -/

/-- Whether a core is isolated (R372). -/
def Node.coreIso (n : Node) (k : Nat) : Bool := n.bit Reg.ABL_GRID_ISO (k / 64) (k % 64)

/-- The cores of the partition of a shape whose lowest-numbered core is `k`, in row-major order (R359, R366). (DESIGN CHOICE: log 55.) -/
def partition (shape k : Nat) : List Nat :=
  (List.range (2 ^ shape)).flatMap fun r => (List.range (2 ^ shape)).map fun c => k + 16 * r + c

/-- The lowest-numbered cores of the partitions of a shape, aligned to its side (R366). -/
def corners (shape : Nat) : List Nat :=
  (List.range 256).filter fun k => k / 16 % 2 ^ shape == 0 && k % 16 % 2 ^ shape == 0

/-- Whether some partition of a shape holds no isolated core (R363, R372). -/
def Node.placeable (n : Node) (shape : Nat) : Bool := (corners shape).any fun k => (partition shape k).all fun c => !n.coreIso c

/-- Whether a core runs something. -/
def Abl.coreBusy (a : Abl) (k : Nat) : Bool := a.grid.runs.any fun r => r.part.contains k

/-- The partitions of a shape that are free, hold no isolated core and none to avoid. -/
def Abl.freeParts (a : Abl) (shape : Nat) (avoid : List Nat) : List (List Nat) :=
  ((corners shape).map (partition shape)).filter fun p => p.all fun c => !a.n.coreIso c && !a.coreBusy c && !avoid.contains c

/-! ## Views -/

/-- The field of a context. -/
def Node.ctxFld (n : Node) (c lo w : Nat) : Nat := n.fld Reg.ABL_GRID_CTX c lo w
def Node.ctxState (n : Node) (c : Nat) : Nat := n.ctxFld c 253 3

/-- STATE of a program slot (R377). -/
def Node.progState (n : Node) (s : Nat) : Nat := n.fld Reg.ABL_GRID_PROG s 125 3

/-- POWER of the grid (R375). -/
def Node.gridPower (n : Node) : Nat := n.fld Reg.ABL_GRID_STATUS 0 30 2

/-- Show the running and queued slices and the isolated cores (R375); known-answer runs are no slices (R370). -/
def Abl.gridView (a : Abl) : Abl :=
  let queued := (a.grid.slices.filter fun s => s.st == 0 && s.kat == 0).length
  let running := (a.grid.slices.filter fun s => s.kat == 0 && a.grid.runs.any fun r => r.id == s.id).length
  let iso := ((List.range 4).map fun w => popcount 64 (a.n.rd Reg.ABL_GRID_ISO w)).sum
  a.on fun n => ((n.setFld Reg.ABL_GRID_STATUS 0 18 9 running).setFld Reg.ABL_GRID_STATUS 0 9 9 iso).setFld
    Reg.ABL_GRID_STATUS 0 0 9 (min 511 queued)

/-- Whether the grid has no slice queued or running, no load and no known-answer run (R370). -/
def Abl.gridIdle (a : Abl) : Bool :=
  a.grid.slices.isEmpty && a.grid.runs.isEmpty && !(List.range 64).any fun s => a.n.progState s == 1

/-- Start the grid's clocks and HBM when they are stopped (R369); the answer says whether they were. -/
def Abl.gridStart (a : Abl) : Abl × Bool :=
  if a.n.gridPower = 0 then ((a.on fun n => n.setFld Reg.ABL_GRID_STATUS 0 30 2 1), true) else (a, false)

/-- Clocks, power and HBM are up (R369). -/
def Abl.gridUp (a : Abl) : Abl :=
  if a.n.gridPower = 1 then
    { (a.on fun n => (((n.setFld Reg.ABL_GRID_STATUS 0 30 2 2).domStart 2).domStart 0).irq 145) with grid := { a.grid with idleAt := a.n.local } }
  else a

/-- Whether a host access keeps HBM up (R636): the last was less than ABL_PWR_DOM_IDLE_US ago. -/
def Abl.hbmHeld (a : Abl) : Bool :=
  match a.pwr.idleAt.find? fun x => x.1 == 2 with
  | some x => decide (a.n.local < x.2 + a.n.fld Reg.ABL_PWR_DOM_IDLE_US 0 0 20 * 1000)
  | none => false

/-- Stop a Flood domain (R537, R541): HBM with the last domain that needs it. -/
def Abl.domStop (a : Abl) (k : Nat) : Abl :=
  let held := a.hbmHeld
  a.on fun n =>
    let n := n.setB Reg.ABL_PWR_STATE 0 (8 + k) false
    let needHbm := n.domOn 0 || n.domOn 3 || n.domOn 4 || !n.mb.stages.isEmpty || held
    let n := if needHbm then n else n.setB Reg.ABL_PWR_STATE 0 10 false
    let n := if n.fld Reg.ABL_PWR_STATE 0 8 5 = 0 && n.fld Reg.ABL_PWR_STATE 0 0 3 = 2 then n.setFld Reg.ABL_PWR_STATE 0 0 3 1 else n
    n.irq 146

/-- IDLE_US with no grid work (R370). -/
def Abl.gridSleep (a : Abl) : Abl :=
  if a.n.gridPower = 2 && a.gridIdle && decide (a.grid.idleAt + a.n.rd Reg.ABL_GRID_IDLE_US * 1000 ≤ a.n.local) then
    (a.on fun n => n.setFld Reg.ABL_GRID_STATUS 0 30 2 0).domStop 0
  else a

/-- Bytes of HBM in use: program images, replay windows, staged objects and secured shares. -/
def Abl.hbmUsed (a : Abl) : Nat :=
  (a.grid.progs.map fun p => p.len).sum + ((List.range 32).map fun c => if a.n.ctxState c = 0 then 0 else a.n.ctxFld c 160 16 * 2 ^ 20).sum +
    (a.n.mb.stages.map fun s => s.len).sum + a.n.rd Reg.ABL_SEC_USED_MIB * 2 ^ 20

/-- Bytes of HBM in service: 16 stacks of 16 pseudo-channels of 2.25 GiB, without the isolated ones (R462). -/
def Abl.hbmSize (a : Abl) : Nat :=
  ((List.range 256).filter fun i => !a.n.arrBit Reg.ABL_FLT_ISO (296 + i)).length * 2415919104

/-! ## Core faults -/

/-- A fault of a core (R372, R373). -/
def Abl.coreFault (a : Abl) (k cause jobtag : Nat) (eflags : Nat := 0) (arg : Nat := 0) : Abl :=
  a.on fun n =>
    (n.fault k cause eflags jobtag arg).emit jobtag 1 0x17 0x0002 0 (le 2 k ++ [cause] ++ zeros 5 ++ le 4 jobtag ++ le 4 (n.winAfter k eflags))

/-! ## Results -/

/-- The program in a slot. -/
def Abl.prog (a : Abl) (s : Nat) : Option GridProg := a.grid.progs.find? fun p => p.slot == s

/-- The own part of a context. -/
def Abl.gctx (a : Abl) (c : Nat) : GridCtx := (a.grid.ctxs.find? fun x => x.c == c).getD { c := c }
def Abl.putGctx (a : Abl) (x : GridCtx) : Abl := { a with grid := { a.grid with ctxs := x :: a.grid.ctxs.filter fun y => y.c != x.c } }

/-- Bytes of a bundle (R357). -/
def Bundle.size (b : Bundle) : Nat := 64 + (b.secs.map List.length).sum

/-- Move a done bundle to its context's replay window (R365). -/
def Abl.keepBundle (a : Abl) (c : Nat) (b : Bundle) : Abl :=
  let limit := a.n.ctxFld c 160 16 * 2 ^ 20
  if limit = 0 then a
  else
    let x := a.gctx c
    let all := x.window ++ [(b.epoch, b.size, b)]
    let newestOf (l : List (Nat × Nat × Bundle)) (e : Nat) : Nat := l.foldl (fun m w => if 0 < dist32 w.1 m then w.1 else m) e
    let newest := newestOf all b.epoch
    let older := all.filter fun w => w.1 != newest
    let second := (older.head?.map fun w => newestOf older w.1).getD newest
    let recent (e : Nat) : Bool := e == newest || e == second
    let keep := all.filter fun w => recent w.1
    let total (l : List (Nat × Nat × Bundle)) : Nat := (l.map fun w => w.2.1).sum
    let trim := keep.foldl (fun (acc : List (Nat × Nat × Bundle) × Nat) _ =>
      if total acc.1 ≤ limit then acc else (acc.1.drop 1, acc.2 + 1)) (keep, 0)
    let a := a.putGctx { x with window := trim.1, bytes := max x.bytes (total trim.1), slices := x.slices + 1 }
    a.on fun n => n.satFld Reg.ABL_GRID_CTX c 128 32 trim.2

/-- LAST_EPOCH of a context follows the bundles that it sees (R376). -/
def Abl.ctxSeen (a : Abl) (c epoch : Nat) : Abl :=
  if 32 ≤ c || ((a.gctx c).seen && decide (dist32 epoch (a.n.ctxFld c 32 32) ≤ 0)) then a
  else (a.putGctx { a.gctx c with seen := true }).on fun n => n.setFld Reg.ABL_GRID_CTX c 32 32 epoch

/-- A result goes to the verdict logic (R367, R373): the context's counts, SLICE_RESULT and the counters. -/
def Abl.sliceDone (a : Abl) (o : SliceOut) : Abl :=
  let now := a.n.local
  let limit := if o.started then 210000 else 150000
  let late := decide (o.lastByte + limit < now)
  let o := { o with rflags := o.rflags + if late then 16 else 0 }
  let a := if late then a.on fun n => n.bump Reg.ABL_GRID_LATE else a
  let a := match o.result with
    | 2 => a.on fun n => n.bump Reg.ABL_GRID_SUSPECT
    | 3 => a.on fun n => n.bump Reg.ABL_GRID_BADBUNDLE
    | 4 => a.on fun n => n.bump Reg.ABL_GRID_UNBOUND
    | 5 => a.on fun n => n.bump Reg.ABL_GRID_ABANDONED
    | _ => a
  let a := if o.ctx < 32 then
      let a := a.on fun n =>
        let n := n.setFld Reg.ABL_GRID_CTX o.ctx 96 32 ((n.ctxFld o.ctx 96 32 + 1) % 2 ^ 32)
        if o.result = 1 then n.satFld Reg.ABL_GRID_CTX o.ctx 64 32 1 else n
      a.keepBundle o.ctx o.bundle
    else a
  let b := o.bundle
  let f := o.first.getD { cmp := 0xFF, idx := 0xFFFFFFFF, bits := 0, die := 0, replay := 0 }
  let a := if o.result = 0 then a
    else a.on fun n => n.emit b.jobtag 1 0x17 0x0001 0
      (le 4 b.jobtag ++ le 4 b.epoch ++ le 4 b.tile ++ le 4 b.die ++ [o.result, if o.ctx < 32 then o.ctx else 0xFF, b.format, o.rflags,
        f.cmp, f.bits] ++ zeros 2 ++ le 4 (min (2 ^ 32 - 1) o.count) ++ le 4 f.idx ++ le 8 f.die ++ le 8 f.replay ++
        le 4 (now - o.lastByte) ++ zeros 4)
  let a := a.on fun n => n.irq 50
  { a with grid := { a.grid with outs := a.grid.outs ++ [o], idleAt := now }, n := { a.n with due := a.n.due ++ [React.slices] } }

/-- A slice is DONE with a result (R367). (DESIGN CHOICE: log 55.) -/
def Abl.sliceEnd (a : Abl) (s : GridSlice) (result rflags count : Nat) (first : Option FirstMiss) : Abl :=
  let a : Abl := { a with grid := { a.grid with slices := a.grid.slices.filter fun x => x.id != s.id } }
  if s.kat ≠ 0 then ({ a with grid := { a.grid with idleAt := a.n.local } } : Abl).gridView
  else (a.sliceDone { bundle := s.bundle, unit := s.unit, cell := s.cell, result := if s.doomed then 5 else result, ctx := s.ctx,
                      rflags := rflags, count := count, first := first, started := s.started, lastByte := s.arrived, slot := s.slot }).gridView

/-! ## Contexts -/

/-- A draining context whose last slice is done begins to scrub (R364). -/
def Abl.ctxDrained (a : Abl) (c : Nat) : Abl :=
  if a.n.ctxState c = 2 && !a.grid.slices.any fun s => s.ctx == c then a.on fun n => n.setFld Reg.ABL_GRID_CTX c 253 3 3 else a

/-- Slices of a context that wait end ABANDONED (R364). -/
def Abl.abandon (a : Abl) (c : Nat) : Abl :=
  (a.grid.slices.filter fun s => s.ctx == c && (s.st == 0 || s.st == 2)).foldl (fun a s => a.sliceEnd s 5 0 0 none) a

/-- The header fields of a bundle (R357) over sections. -/
def bundleOf (h : List Nat) (secs : List (List Nat)) : Bundle :=
  { jobtag := leAt h 0 4, epoch := leAt h 4 4, tile := leAt h 8 4, die := leAt h 12 4 % 2 ^ 17, format := leAt h 16 1, attempt := leAt h 17 1,
    m := leAt h 20 2, n := leAt h 22 2, k := leAt h 24 4, prog := leAt h 28 1, secs := secs }

/-- What has arrived of a bundle, under the identity that its records give. -/
def IngestX.sofar (x : IngestX) : Bundle :=
  match x.hdr with
  | some h => { bundleOf h x.secs with jobtag := x.jobtag, epoch := x.epoch, tile := x.tile, die := x.die, attempt := x.attempt }
  | none => { jobtag := x.jobtag, epoch := x.epoch, tile := x.tile, die := x.die, format := 0, attempt := x.attempt, m := 0, n := 0, k := 0,
              prog := 0, secs := x.secs }

/-- Whether an arriving bundle belongs to a BOUND context (R364): by its header, or by its job alone where only one context is bound to that. -/
def Abl.landsAt (a : Abl) (c : Nat) (x : IngestX) : Bool :=
  a.n.ctxState c == 1 && a.n.ctxFld c 192 32 == x.jobtag &&
    match x.hdr with
    | some h => leAt h 28 1 == a.n.ctxFld c 238 8
    | none => (List.range 32).all fun k => k == c || a.n.ctxState k != 1 || a.n.ctxFld k 192 32 != x.jobtag

/-- Bundles that are still arriving end ABANDONED (R367); what else comes of them is dropped. -/
def Abl.landingEnd (a : Abl) (which : IngestX → Bool) : Abl :=
  let mine := a.grid.ingest.filter fun x => !x.gone && which x
  let ctx (x : IngestX) : Nat := ((List.range 32).find? fun c => a.landsAt c x).getD 255
  let outs : List SliceOut := mine.map fun x =>
    { bundle := x.sofar, unit := x.unit, cell := x.cell, result := 5, ctx := ctx x, started := x.started, lastByte := x.at_ }
  let drop (x : IngestX) : IngestX := if mine.contains x then { x with gone := true, secs := [[], [], [], []], hdr := none } else x
  outs.foldl Abl.sliceDone { a with grid := { a.grid with ingest := a.grid.ingest.map drop } }

/-- A context leaves BOUND (R364, R367): its arriving and waiting slices end, counted in one LOSS record, and those that run end ABANDONED when
their run does, since a running slice is never preempted (R366). (DESIGN CHOICE: log 55.) -/
def Abl.ctxDrain (a : Abl) (c : Nat) : Abl :=
  if a.n.ctxState c = 1 then
    let lost := (a.grid.slices.filter fun s => s.ctx == c && (s.st == 0 || s.st == 2)).length
    let a := ((a.landingEnd (a.landsAt c)).on fun n => n.setFld Reg.ABL_GRID_CTX c 253 3 2).abandon c
    let a := a.on fun n => n.loss lost 0x0140 c (some 0)
    let mark (s : GridSlice) : GridSlice := if s.ctx = c then { s with doomed := true } else s
    ({ a with grid := { a.grid with slices := a.grid.slices.map mark } } : Abl).ctxDrained c
  else a

/-- Committed load of all contexts (R363). -/
def Abl.ctxLoadView (a : Abl) : Abl :=
  a.on fun n => n.wr Reg.ABL_GRID_LOAD 0 (((List.range 32).map fun c => if n.ctxState c = 0 then 0 else n.ctxFld c 0 32).sum)

/-- Zeroing is complete (R364): the context is FREE, and what was scrubbed is noted for the job. -/
def Abl.ctxScrubbed (a : Abl) (c : Nat) : Abl :=
  let a := a.ctxDrained c
  if a.n.ctxState c != 3 then a
  else
    let x := a.gctx c
    let tag := a.n.ctxFld c 192 32
    let a : Abl := { a with grid := { a.grid with ctxs := a.grid.ctxs.filter (fun y => y.c != c),
                                                  scrubbed := a.grid.scrubbed ++ [(tag, x.bytes, x.slices)] } }
    (a.on fun n => (n.wr Reg.ABL_GRID_CTX c 0).done 0x0804 c stOk).ctxLoadView

/-- CTX_BIND (R363): the status. -/
def Abl.ctxBind (a : Abl) (c prog slot rate window jobtag : Nat) : Abl × Nat :=
  let refused (st : Nat) : Abl × Nat := (a.on fun n => n.bump Reg.ABL_GRID_REFUSED, st)
  match a.prog slot with
  | none => refused stBad
  | some p =>
    if 32 ≤ c || a.n.ctxState c != 0 || a.n.progState slot != 2 then refused stBad
    else
      let load := rate * p.wUs * 4 ^ p.shape
      let total := ((List.range 32).map fun k => if a.n.ctxState k = 0 then 0 else a.n.ctxFld k 0 32).sum + load
      if 128000 < total || a.hbmSize < a.hbmUsed + window * 2 ^ 20 || !a.n.placeable p.shape then
        refused stRefused
      else
        let v := 1 * 2 ^ 253 + slot * 2 ^ 246 + prog % 256 * 2 ^ 238 + jobtag * 2 ^ 192 + rate * 2 ^ 176 + window * 2 ^ 160 + load
        (((a.on fun n => n.wr Reg.ABL_GRID_CTX c v).putGctx { c := c }).ctxLoadView, stOk)

/-- CTX_UNBIND (R364): the status, or none while the context drains. -/
def Abl.ctxUnbind (a : Abl) (c : Nat) : Abl × Option Nat :=
  if c < 32 && a.n.ctxState c == 1 then (a.ctxDrain c, none) else (a, some stBad)

/-- Isolation of a core (R372, R466): contexts whose shape has no partition left set NO_PLACE, and their waiting slices end. -/
def Abl.coreIsolate (a : Abl) (k : Nat) : Abl :=
  let a := a.on fun n => (n.setB Reg.ABL_GRID_ISO (k / 64) (k % 64) true).setFld Reg.ABL_GRID_CORE k 48 3 4
  let a := (List.range 32).foldl (fun a c =>
    match a.prog (a.n.ctxFld c 246 6) with
    | some p =>
      if a.n.ctxState c = 1 && !a.n.placeable p.shape then
        ((a.on fun n => n.setB Reg.ABL_GRID_CTX c 252 true)).abandon c
      else a
    | none => a) a
  a.gridView

/-- The isolated cores show their state (R371, R374). -/
def Abl.coresView (a : Abl) : Abl :=
  a.on fun n => (List.range 256).foldl (fun n k => if n.coreIso k then n.setFld Reg.ABL_GRID_CORE k 48 3 4 else n) n

/-- A core returns to service (R469). -/
def Abl.coreRestore (a : Abl) (k : Nat) : Abl :=
  let a := a.on fun n => (n.setB Reg.ABL_GRID_ISO (k / 64) (k % 64) false).setFld Reg.ABL_GRID_CORE k 48 3 0
  ((List.range 32).foldl (fun a c =>
    match a.prog (a.n.ctxFld c 246 6) with
    | some p => if a.n.placeable p.shape then a.on fun n => n.setB Reg.ABL_GRID_CTX c 252 false else a
    | none => a) a).gridView

/-! ## Ingest -/

/-- Bytes of the landing buffer in use (R339). -/
def Abl.landing (a : Abl) : Nat :=
  ((a.grid.ingest.filter fun x => !x.gone).map fun x => (x.secs.map List.length).sum + 64).sum +
    ((a.grid.slices.filter fun s => s.kat == 0).map fun s => s.bundle.size).sum

/-- Whether OPERAND credits are withheld (R339): `len` the bytes of the next message, taken as the largest (log 56). -/
def Abl.ingestFull (a : Abl) (len : Nat) : Bool :=
  decide (512 * 2 ^ 20 < a.landing + len) || decide (1024 ≤ (a.grid.slices.filter fun s => s.kat == 0 && s.st == 0).length)

/-- The context of a bundle (R364). -/
def Abl.bundleCtx (a : Abl) (jobtag prog : Nat) : Option Nat :=
  (List.range 32).find? fun c => a.n.ctxState c == 1 && a.n.ctxFld c 192 32 == jobtag && a.n.ctxFld c 238 8 == prog

/-- A SNOOP_DATA record reaches ingest (R391, R392). -/
def Abl.snoopData (a : Abl) (origin : Nat) (p : List Nat) : Abl :=
  let t := leAt p 0 4
  let die := bits origin 0 17
  let epoch := leAt p 4 4
  let tile := leAt p 8 4
  let hit (x : IngestX) : Bool := x.die == die && x.jobtag == t && x.epoch == epoch && x.tile == tile
  a.ofJob t fun a =>
    let (a, woken) := if (List.range 32).any fun c => a.n.ctxState c == 1 && a.n.ctxFld c 192 32 == t then a.gridStart else (a, false)
    let old := (a.grid.ingest.find? hit).getD { die := die, jobtag := t, epoch := epoch, tile := tile, attempt := leAt p 17 1,
                                                unit := leAt p 14 2 % 512, cell := leAt p 16 1, at_ := a.n.local }
    let sec := leAt p 12 1
    let data := p.drop 24
    let x := if old.gone then old
      else if sec < 4 then
        { old with secs := modifyAt old.secs sec (fun s => s ++ data),
                   packed := if bit (leAt p 13 1) 1 && !old.packed.contains sec then old.packed ++ [sec] else old.packed,
                   bad := old.bad || leAt p 20 4 != (old.secs.getD sec []).length }
      else if sec = 0xFF then { old with hdr := some data, bad := old.bad || old.hdr.isSome || leAt p 20 4 != 0 }
      else { old with bad := true }
    let x := { x with last := bit (leAt p 13 1) 0, at_ := a.n.local, started := x.started || woken }
    { a with grid := { a.grid with ingest := a.grid.ingest.filter (fun y => !hit y) ++ [x] } }

/-- The sections of an arriving bundle after inflation, when they agree with the header's LEN and CRC (R354, R391). -/
def IngestX.sections (x : IngestX) : Option (List (List Nat)) :=
  match x.hdr with
  | none => none
  | some h =>
    let ss := x.secs.zipIdx.map fun (s, i) => if x.packed.contains i then inflate s else some s
    let out := ss.map fun s => s.getD []
    if !x.bad && x.last && h.length == 64 && ss.all Option.isSome &&
        (out.zipIdx.all fun (s, i) => s.length == leAt h (32 + 4 * i) 4 && crc32c s == leAt h (48 + 4 * i) 4) then some out
    else none

/-- An arriving bundle ends as BAD_BUNDLE (R391). (DESIGN CHOICE: log 56.) -/
def Abl.badIngest (a : Abl) (x : IngestX) : Abl :=
  let a : Abl := { a with grid := { a.grid with ingest := a.grid.ingest.filter fun y =>
    !(y.die == x.die && y.jobtag == x.jobtag && y.epoch == x.epoch && y.tile == x.tile) } }
  let b := x.sofar
  let c := (a.bundleCtx b.jobtag b.prog).getD 255
  if x.gone then a
  else (a.ctxSeen c b.epoch).sliceDone { bundle := b, unit := x.unit, cell := x.cell, result := 3, ctx := c, started := x.started, lastByte := x.at_ }

/-- A bundle's last byte lands (R354, R357, R364, R367). (DESIGN CHOICE: log 56.) -/
def Abl.bundleLanded (a : Abl) (die t epoch tile : Nat) : Abl :=
  match a.grid.ingest.find? fun x => x.die == die && x.jobtag == t && x.epoch == epoch && x.tile == tile && (x.last || x.bad) with
  | none => a
  | some x =>
    match x.sections with
    | none => a.badIngest x
    | some secs =>
      let b := bundleOf (x.hdr.getD []) secs
      let a : Abl := { a with grid := { a.grid with ingest := a.grid.ingest.filter fun y =>
        !(y.die == die && y.jobtag == t && y.epoch == epoch && y.tile == tile) } }
      let out (r c slot : Nat) : SliceOut :=
        { bundle := b, unit := x.unit, cell := x.cell, result := r, ctx := c, started := x.started, lastByte := x.at_, slot := slot }
      a.ofJob b.jobtag fun a => match a.bundleCtx b.jobtag b.prog with
        | none => a.sliceDone (out 4 255 64)
        | some c =>
          let a := a.ctxSeen c b.epoch
          let slot := a.n.ctxFld c 246 6
          match a.prog slot with
          | none => a.sliceDone (out 4 255 64)
          | some p =>
            if b.format ≠ p.format || 256 < b.m || 256 < b.n || b.m ≠ p.kat.m || b.n ≠ p.kat.n || p.sliceMax < b.size then
              a.sliceDone (out 3 c slot)
            else if a.n.bit Reg.ABL_GRID_CTX c 252 then a.sliceDone (out 5 c slot)
            else
              let s : GridSlice := { id := a.grid.next, ctx := c, slot := slot, bundle := b, unit := x.unit, cell := x.cell, arrived := x.at_,
                                     since := a.n.local, started := x.started }
              let a : Abl := { a with grid := { a.grid with slices := a.grid.slices ++ [s], next := a.grid.next + 1 } }
              (a.gridStart).1.gridView

/-- Bundles of a die that are incomplete when its EPOCH_FENCE arrives end as BAD_BUNDLE (R391). (DESIGN CHOICE: log 56.) -/
def Abl.ingestFence (a : Abl) (die epoch attempt : Nat) : Abl :=
  (a.grid.ingest.filter fun x => x.die == die && x.epoch == epoch && x.attempt == attempt && (!x.last || x.bad)).foldl Abl.badIngest a

/-! ## The scheduler -/

/-- Whether a context is within its SLICE_RATE for the current millisecond (R366). -/
def Abl.withinRate (a : Abl) (c : Nat) : Bool :=
  let x := a.gctx c
  let ms := a.n.tideline / 1000000
  decide ((if x.ms = ms then x.placed else 0) < a.n.ctxFld c 176 16)

/-- Whether a job is gated (R261). -/
def Node.gatedJob (n : Node) (t : Nat) : Bool := match n.jobSlot t with | some j => n.bit Reg.ABL_JOB j 124 | none => false

/-- The order in which slices are placed (R366): known-answer runs of a load come last. -/
def Abl.sliceKey (a : Abl) (s : GridSlice) : List Nat :=
  [b2n (s.st != 2), b2n (s.kat != 0), b2n !(a.n.gatedJob s.bundle.jobtag), b2n !(a.withinRate s.ctx), s.arrived, s.ctx, s.id]

/-- Lexicographic order. -/
def lexLe : List Nat → List Nat → Bool
  | a :: s, b :: t => decide (a < b) || (a == b && lexLe s t)
  | _, _ => true

/-- Begin a run of a slice on a partition (R336, R359, R366). -/
def Abl.beginRun (a : Abl) (s : GridSlice) (part : List Nat) : Abl :=
  let run : GridRun := { id := s.id, part := part, began := a.n.local, cores := part.zipIdx.map fun (c, k) => { core := c, k := k } }
  let st := if s.st = 2 then 3 else 1
  let s' : GridSlice := { s with st := st, part := if st = 1 then part else s.part }
  let code := if s.kat ≠ 0 then 3 else if st = 3 then 2 else 1
  let a : Abl := { a with grid := { a.grid with runs := a.grid.runs ++ [run], slices := a.grid.slices.map fun x => if x.id = s.id then s' else x } }
  let a := a.on fun n => part.foldl (fun n c => (n.setFld Reg.ABL_GRID_CORE c 56 8 (if s.kat ≠ 0 then 0xFF else s.ctx)).setFld Reg.ABL_GRID_CORE c 48 3 code) n
  let a : Abl := if s.kat = 0 then a
    else { a with grid := { a.grid with katLast := part.foldl (fun l c => bindKey l c a.n.local) a.grid.katLast } }
  let a := if s.kat ≠ 0 || st = 3 then a
    else
      let x := a.gctx s.ctx
      let ms := a.n.tideline / 1000000
      a.putGctx { x with ms := ms, placed := (if x.ms = ms then x.placed else 0) + 1 }
  a.gridView

/-- The shape of a slice's program. -/
def Abl.shapeOf (a : Abl) (s : GridSlice) : Nat := ((a.prog s.slot).map fun p => p.shape).getD 0

/-- The cores from which a slice's next run stays away: those that faulted, and for a confirmation those of the first run. -/
def GridSlice.away (s : GridSlice) : List Nat := s.avoid ++ if s.st = 2 then s.part else []

/-- Place the first slice that fits, in order; one that has waited 10 µs lets none go ahead (R366). (DESIGN CHOICE: log 55.) -/
def Abl.placeFrom (a : Abl) : List GridSlice → Abl
  | [] => a
  | s :: t =>
    match (a.freeParts (a.shapeOf s) s.away).head? with
    | some p => a.beginRun s p
    | none => if s.since + 10000 ≤ a.n.local then a else a.placeFrom t

/-- SLICE_PLACE (R366, R688). -/
def Abl.slicePlace (a : Abl) : Abl :=
  if !a.n.bit Reg.ABL_GRID_CTRL 0 0 || a.n.gridPower != 2 then a
  else
    let waiting := a.grid.slices.filter fun s => s.st == 0 || s.st == 2
    a.placeFrom (waiting.mergeSort fun s t => lexLe (a.sliceKey s) (a.sliceKey t))

/-- Queue a known-answer run of a program (R356, R361). -/
def Abl.katSlice (a : Abl) (p : GridProg) (kind : Nat) (avoid : List Nat) : Abl :=
  let s : GridSlice := { id := a.grid.next, ctx := 255, slot := p.slot, bundle := p.kat, arrived := a.n.local, since := a.n.local, kat := kind, avoid := avoid }
  { a with grid := { a.grid with slices := a.grid.slices ++ [s], next := a.grid.next + 1 } }

/-- When a core last ran a known answer. -/
def Abl.katTime (a : Abl) (c : Nat) : Nat := lookupD a.grid.katLast c 0

/-- The program slot whose turn it is: the next READY one from katTurn on, else the first (R356). -/
def Abl.katSlot (a : Abl) : Option Nat :=
  let ready := (List.range 64).filter fun s => a.n.progState s == 2
  (ready.filter fun s => decide (a.grid.katTurn ≤ s)).head?.orElse fun _ => ready.head?

/-- The free partition of program `p`'s shape whose cores have gone longest without a known-answer run (R356). -/
def Abl.katPart (a : Abl) (p : GridProg) : Option (List Nat) :=
  let age (q : List Nat) : Nat := (q.map a.katTime).foldl max 0
  (a.freeParts p.shape []).foldl (fun b q => match b with
    | some r => if age q < age r then some q else b
    | none => some q) none

/-- KAT_RUN_START (R356): the next READY program's known-answer run on the partition whose cores have gone longest without one. -/
def Abl.katStart (a : Abl) : Abl :=
  let ms := a.n.rd Reg.ABL_GRID_KAT_MS
  let waiting := a.grid.slices.any fun s => s.st == 0 || s.st == 2
  if !a.n.bit Reg.ABL_GRID_CTRL 0 0 || !a.n.bit Reg.ABL_GRID_CTRL 0 1 || ms = 0 || waiting || a.n.local < a.grid.katAt + ms * 1000000 then a
  else if a.n.gridPower != 2 then (a.gridStart).1
  else
    match a.katSlot with
    | none => a
    | some s =>
      match a.prog s with
      | none => a
      | some p =>
        match a.katPart p with
        | none => a
        | some part =>
          let a := a.katSlice p 2 []
          let a : Abl := { a with grid := { a.grid with katTurn := s + 1, katAt := a.n.local } }
          match a.grid.slices.getLast? with
          | some x => a.beginRun x part
          | none => a

/-! ## The ends of runs -/

/-- A slice by its number, and its run. -/
def Abl.slice (a : Abl) (id : Nat) : Option GridSlice := a.grid.slices.find? fun s => s.id == id
def Abl.run (a : Abl) (id : Nat) : Option GridRun := a.grid.runs.find? fun r => r.id == id

/-- What precise sampling records of a core in a run: the byte offset in the image of the command at which it stands, bytes 0 to 3 of that
command, the JobTag and the number of its context (R118, R359). -/
def Abl.sampled (a : Abl) (core : Nat) : Option (Nat × Nat × SampleTag) := do
  let r ← a.grid.runs.find? fun r => r.part.contains core
  let s ← a.slice r.id
  let p ← a.prog s.slot
  let c ← r.cores.find? fun c => c.core == core
  let cmd ← (p.streams.getD c.k [])[c.pc]?
  pure (p.offs.getD c.k 0 + 32 * c.pc, cmd.op + 2 ^ 8 * cmd.fmt + 2 ^ 16 * cmd.flags, ⟨if s.kat = 0 then s.bundle.jobtag else 0, s.ctx⟩)

/-- Free the cores of a run. -/
def Abl.dropRun (a : Abl) (r : GridRun) : Abl :=
  let a : Abl := { a with grid := { a.grid with runs := a.grid.runs.filter fun x => x.id != r.id } }
  a.on fun n => r.part.foldl (fun n c =>
    (n.setFld Reg.ABL_GRID_CORE c 56 8 0xFF).setFld Reg.ABL_GRID_CORE c 48 3 (if n.coreIso c then 4 else 0)) n

/-- The smaller first mismatch (R359). -/
def pickFirst (x y : Option FirstMiss) : Option FirstMiss :=
  match x, y with
  | none, y => y
  | x, none => x
  | some a, some b => if b.cmp < a.cmp || (a.cmp = b.cmp && b.idx < a.idx) then some b else some a

/-- The union result of a run (R359): mismatches, first mismatch, flags. -/
def GridRun.tally (r : GridRun) : Nat × Option FirstMiss × Nat :=
  ((r.cores.map fun c => c.count).sum, r.cores.foldl (fun f c => pickFirst f c.first) none, r.cores.foldl (fun f c => f ||| c.flags) 0)

/-- Whether two tallies agree (R355). -/
def sameTally (x y : Nat × Option FirstMiss) : Bool :=
  x.1 == y.1 && (x.2.map fun f => (f.cmp, f.idx, f.die, f.replay)) == (y.2.map fun f => (f.cmp, f.idx, f.die, f.replay))

/-- A draining program slot whose last known-answer run has ended (R362). -/
def Abl.progDrained (a : Abl) (s : Nat) : Abl :=
  if a.n.progState s = 3 && !a.grid.slices.any fun x => x.slot == s && x.kat != 0 then
    { (a.on fun n => (n.wr Reg.ABL_GRID_PROG s 0).done 0x0802 s stOk) with grid := { a.grid with progs := a.grid.progs.filter fun p => p.slot != s } }
  else a

/-- A known-answer run ends (R356, R361): `got` is what it found, or none when it faulted or ran over. -/
def Abl.katEnd (a : Abl) (s : GridSlice) (r : GridRun) (got : Option (Nat × Nat × Nat)) : Abl :=
  let a := (a.dropRun r).sliceEnd s 0 0 0 none
  match a.prog s.slot with
  | none => a
  | some p =>
    let us := (a.n.local - r.began + 999) / 1000
    if s.kat = 1 then
      let e : KatEnd := { us := us, part := r.part, got := got }
      let a : Abl := { a with grid := { a.grid with progs := a.grid.progs.map fun x => if x.slot = p.slot then { x with ends := x.ends ++ [e] } else x } }
      if p.ends.isEmpty then (a.katSlice p 1 r.part).gridView else a
    else
      let ok := match got with
        | some g => g.1 == p.expect.1 && (g.1 == 0 || g.2 == p.expect.2)
        | none => false
      let a := if s.kat = 3 then
          { a with grid := { a.grid with sweep := a.grid.sweep.map fun x => { x with runs := x.runs + 1, fails := x.fails + b2n (!ok) } } }
        else a
      let a := if got.isSome then a.on fun n => n.setFld Reg.ABL_GRID_PROG s.slot 32 16 (min 65535 (max (n.fld Reg.ABL_GRID_PROG s.slot 32 16) us)) else a
      let a := if ok then a else r.part.foldl (fun a c => a.coreFault c 1 0) a
      a.progDrained s.slot

/-- A run ends with every core at END (R355, R367). -/
def Abl.runDone (a : Abl) (id : Nat) : Abl :=
  match a.slice id, a.run id with
  | some s, some r =>
    if !(r.cores.all fun c => c.st == 4) then a
    else
      let (count, first, flags) := r.tally
      let a := if s.kat ≠ 0 then a.katEnd s r (some (count, (first.map fun f => f.idx).getD 0xFFFFFFFF, (first.map fun f => f.cmp).getD 0xFF))
        else
          let a := a.dropRun r
          if s.doomed then a.sliceEnd s 5 flags 0 none
          else if s.st = 3 then
            if sameTally s.tally (count, first) then a.sliceEnd s 1 (s.flags ||| flags ||| 8) count first
            else
              let a := (s.part ++ r.part).foldl (fun a c => a.coreFault c 4 s.bundle.jobtag) a
              a.sliceEnd s 2 (s.flags ||| flags) count first
          else if count = 0 then a.sliceEnd s 0 flags 0 none
          else
            let s' : GridSlice := { s with st := 2, since := a.n.local, tally := (count, first), flags := flags }
            ({ a with grid := { a.grid with slices := a.grid.slices.map fun x => if x.id = id then s' else x } } : Abl).gridView
      if s.ctx < 32 then a.ctxDrained s.ctx else a
  | _, _ => a

/-- Cores of a run fault, and the slice is requeued once or ABANDONED (R367). -/
def Abl.runFault (a : Abl) (id cause : Nat) (cores : List Nat) : Abl :=
  match a.slice id, a.run id with
  | some s, some r =>
    let a := cores.foldl (fun a c => a.coreFault c cause (if s.kat ≠ 0 then 0 else s.bundle.jobtag)) a
    if s.kat ≠ 0 then a.katEnd s r none
    else
      let a := a.dropRun r
      let a := if s.requeued || s.doomed then a.sliceEnd s 5 0 0 none
        else
          let s' : GridSlice := { s with st := 0, since := a.n.local, requeued := true, avoid := s.avoid ++ cores, part := [], tally := (0, none), flags := 0 }
          ({ a with grid := { a.grid with slices := a.grid.slices.map fun x => if x.id = id then s' else x } } : Abl).gridView
      if s.ctx < 32 then a.ctxDrained s.ctx else a
  | _, _ => a

/-- 2 × W_US passes in a run (R359, R367). -/
def Abl.runTimeout (a : Abl) (id : Nat) : Abl :=
  match a.slice id, a.run id with
  | some s, some r =>
    let w := ((a.prog s.slot).map fun p => p.wUs).getD 0
    if a.n.local < r.began + 2 * w * 1000 || r.cores.all (fun c => c.st == 4) then a
    else a.runFault id 3 ((r.cores.filter fun c => c.st != 4).map fun c => c.core)
  | _, _ => a

/-- A bundle that a command cannot read ends its slice as BAD_BUNDLE (R357). -/
def Abl.runBad (a : Abl) (id : Nat) : Abl :=
  match a.slice id, a.run id with
  | some s, some r =>
    if s.kat ≠ 0 then a.katEnd s r none
    else
      let a := (a.dropRun r).sliceEnd s 3 0 0 none
      if s.ctx < 32 then a.ctxDrained s.ctx else a
  | _, _ => a

/-- A fault of a core (R372): its slice is requeued or abandoned. (DESIGN CHOICE: log 55.) -/
def Abl.gridCoreFault (a : Abl) (k cause : Nat) : Abl :=
  match a.grid.runs.find? fun r => r.part.contains k with
  | some r => a.runFault r.id cause [k]
  | none => a.coreFault k cause 0

/-! ## The commands of a core -/

/-- Bytes of the working region (R336). -/
def workBytes : Nat := 30 * 2 ^ 20

/-- What a command answers: the core, or 0 for a bundle that it cannot read, else the cause of a core fault. -/
abbrev CoreRes := Except Nat GridCore

/-- What a command sees: the bundle, the program, the side of its partition. -/
structure GridEnv where
  bundle : Bundle
  prog : GridProg

/-- The command at which a core stands. -/
def GridEnv.cmd (e : GridEnv) (c : GridCore) : Option GridCmd := (e.prog.streams.getD c.k [])[c.pc]?

/-- ARG `i` of a command at a core (R358, ADJ). -/
def GridCmd.arg (x : GridCmd) (c : GridCore) (i : Nat) : Nat :=
  let v := x.args.getD i 0
  if bit x.flags 15 && i < 3 then (v + (c.loops.map fun l => l.i * l.incs.getD i 0).sum) % 2 ^ 32 else v

/-- Read the working region (R336, R359). -/
def workRead (c : GridCore) (off len : Nat) : Except Nat (List Nat) :=
  if len = 0 then .ok [] else if off + len ≤ workBytes then .ok (Cells.read c.mem off len) else .error 2

/-- Write the working region (R359). -/
def workWrite (c : GridCore) (off : Nat) (bytes : List Nat) : CoreRes :=
  if bytes.isEmpty then .ok c
  else if off + bytes.length ≤ workBytes then .ok { c with mem := Cells.write c.mem off bytes } else .error 2

/-- Read a location (R358, R357, R359). -/
def locRead (e : GridEnv) (c : GridCore) (loc add len : Nat) : Except Nat (List Nat) :=
  let off := bits loc 0 29 + add
  let from_ (l : List Nat) (err : Nat) : Except Nat (List Nat) :=
    if off + len ≤ l.length then .ok ((l.drop off).take len) else .error err
  if len = 0 then .ok []
  else match bits loc 29 3 with
    | 4 => from_ e.prog.consts 2
    | 5 => workRead c off len
    | 6 | 7 => .error 2
    | s => from_ (e.bundle.secs.getD s []) 0

/-- Leave every LOOP whose body ends where the core stands, or begin its next iteration (R358, R359); `fuel` is the depth. -/
def GridCore.settle : Nat → GridCore → GridCore
  | 0, c => c
  | fuel + 1, c =>
    match c.loops with
    | l :: rest =>
      if c.pc < l.last then c
      else if l.i + 1 < l.count then { c with pc := l.first, loops := { l with i := l.i + 1 } :: rest }
      else GridCore.settle fuel { c with loops := rest }
    | [] => c

/-- The core at its next command. -/
def GridCore.advance (c : GridCore) : GridCore := GridCore.settle 5 { c with pc := c.pc + 1, st := 0 }

/-- LOOP (R358): a count or a body of 0 commands does nothing. (DESIGN CHOICE: log 54.) -/
def coreLoop (x : GridCmd) (c : GridCore) : CoreRes :=
  let count := x.arg c 2
  let len := x.args.getD 3 0
  if count = 0 then .ok (GridCore.settle 5 { c with pc := c.pc + 1 + len })
  else if len = 0 then .ok c.advance
  else .ok { c with pc := c.pc + 1, loops := { first := c.pc + 1, last := c.pc + 1 + len, i := 0, count := count, incs := (x.args.drop 4).take 3 } :: c.loops }

/-- The source bytes of a LOAD (R358): its rows one after another. -/
def loadBytes (e : GridEnv) (c : GridCore) (src len stride rows : Nat) : Except Nat (List Nat) :=
  (List.range rows).foldl (fun acc r => do
    let l ← acc
    let b ← locRead e c src (r * stride) len
    return l ++ b) (.ok [])

/-- LOAD without ASYNC. -/
def coreLoad (e : GridEnv) (x : GridCmd) (c : GridCore) : CoreRes := do
  let b ← loadBytes e c (x.arg c 0) (x.arg c 2) (x.args.getD 3 0) (x.args.getD 4 0)
  let c ← workWrite c (x.arg c 1) b
  return c.advance

/-- LOAD with ASYNC (R340): the stream engine takes it. (DESIGN CHOICE: log 54.) -/
def coreLoadAsync (e : GridEnv) (x : GridCmd) (c : GridCore) : CoreRes := do
  let args := [x.arg c 0, x.arg c 1, x.arg c 2, x.args.getD 3 0, x.args.getD 4 0]
  let b ← loadBytes e c (x.arg c 0) (x.arg c 2) (x.args.getD 3 0) (x.args.getD 4 0)
  return GridCore.advance { c with async := c.async ++ [{ stream := bits x.flags 0 2, args := args, issued := b }] }

/-- A stream engine finishes its oldest LOAD (R340): a source byte that changed since the issue is taken at one of the two
instants, which is open. (DESIGN CHOICE: log 54.) -/
def streamDone (e : GridEnv) (s free : Nat) (c : GridCore) : CoreRes :=
  match c.async.find? fun x => x.stream == s with
  | none => .ok c
  | some x => do
    let b ← loadBytes e c (x.args.getD 0 0) (x.args.getD 2 0) (x.args.getD 3 0) (x.args.getD 4 0)
    let mixed := (x.issued.zip b).zipIdx.map fun (p, i) => if bit free i then p.1 else p.2
    let c ← workWrite c (x.args.getD 1 0) mixed
    let c : GridCore := { c with async := c.async.eraseP fun y => y.stream == s }
    let waits := c.st = 3 && (match e.cmd c with | some w => w.op == 2 && bits w.flags 0 2 == s | none => false) &&
      !c.async.any fun y => y.stream == s
    return if waits then c.advance else c

/-- WAIT. -/
def coreWait (x : GridCmd) (c : GridCore) : CoreRes :=
  if c.async.any fun y => y.stream == bits x.flags 0 2 then .ok { c with st := 3 } else .ok c.advance

/-- The partition index of a SEND's destination, when it lies inside the shape (R338). -/
def sendDest (shape : Nat) (x : GridCmd) (c : GridCore) : Option Nat :=
  let r := bits (x.arg c 0) 4 4
  let k := bits (x.arg c 0) 0 4
  if r < 2 ^ shape && k < 2 ^ shape then some (r * 2 ^ shape + k) else none

/-- SEND: the core waits for its partner. -/
def coreSend (e : GridEnv) (x : GridCmd) (c : GridCore) : CoreRes :=
  match sendDest e.prog.shape x c with
  | none => .error 2
  | some _ => .ok { c with st := 1 }

/-- RECV: the core posts its buffer and waits; only a byte written outside the region faults (R359). -/
def coreRecv (c : GridCore) : CoreRes := .ok { c with st := 2 }

/-- MMA. -/
def coreMma (e : GridEnv) (x : GridCmd) (c : GridCore) : CoreRes := do
  let code := e.prog.format
  let w := fmtBits code
  let m := bits (x.args.getD 3 0) 0 16
  let n := bits (x.args.getD 3 0) 16 16
  let k := x.args.getD 4 0
  let nb := (k + 31) / 32
  let sized (q : Nat) : Nat := if fmtScaled code then q * nb else 0
  let hasBases := code = 1 || code = 2
  if m = 0 || n = 0 then return GridCore.advance { c with nc := some n }
  let a ← workRead c (x.arg c 0) (m * rowBytes k w)
  let b ← workRead c (x.arg c 1) (n * rowBytes k w)
  let sa ← workRead c (x.args.getD 5 0) (sized m)
  let sb ← workRead c (x.args.getD 6 0) (sized n)
  let at_ := x.arg c 2
  let old ← workRead c at_ (4 * m * n)
  let given ← workRead c (at_ + 4 * m * n) (if hasBases then m + n else 0)
  let (out, bases, fl) := mma code m n k a b sa sb (if bit x.flags 0 then some old else none) (if bit x.flags 1 && hasBases then some given else none)
  let c ← workWrite c at_ (out ++ bases)
  return GridCore.advance { c with nc := some n, flags := c.flags ||| fl }

/-- The VEC codes that take no second operand (R692). -/
def vecUnary (code : Nat) : Bool := decide (6 ≤ code) && code != 0x15

/-- VEC. (DESIGN CHOICE: log 54.) -/
def coreVec (free : Nat) (x : GridCmd) (c : GridCore) : CoreRes := do
  let n := x.arg c 2
  let code := x.args.getD 3 0
  let second := x.args.getD 4 0
  let scalar := x.args.getD 5 0
  let unary := vecUnary code
  let bx ← workRead c (x.arg c 0) (4 * n)
  let bs ← if unary || second = 0xFFFFFFFF then .ok [] else workRead c second (4 * n)
  let by_ ← if code = 3 then workRead c (x.arg c 1) (4 * n) else .ok []
  let xs := words32 n bx
  let ss := if unary then xs else if second = 0xFFFFFFFF then List.replicate n (if code = 0x15 then cOne else scalar) else words32 n bs
  let ys := if code = 3 then words32 n by_ else xs
  let c ← workWrite c (x.arg c 1) ((vecRun code xs ss ys scalar free).flatMap (le 4))
  return c.advance

/-- N_c of a core (R693). -/
def GridEnv.nc (e : GridEnv) (c : GridCore) : Nat := c.nc.getD e.bundle.n

/-- CVT. -/
def coreCvt (e : GridEnv) (x : GridCmd) (c : GridCore) : CoreRes := do
  let n := x.arg c 2
  let nc := e.nc c
  if n = 0 || nc = 0 then return c.advance
  let src ← workRead c (x.arg c 0) (4 * n)
  let bases ← if bit x.flags 1 then workRead c (x.args.getD 4 0) ((n + nc - 1) / nc + nc) else .ok []
  let xs := if bit x.flags 1 then intRun nc (words32 n src) bases else (words32 n src).map ofF32
  let (out, scales) := cvtRun x.fmt nc (bit x.flags 0) xs
  let c ← workWrite c (x.arg c 1) out
  let c ← workWrite c (x.args.getD 3 0) scales
  return c.advance

/-- One row of a CMP (R353, R358): bits per element, the row's first index, columns left in the output's row. (DESIGN CHOICE: log 54.) -/
def cmpRow (b id idx cols : Nat) (die rep : List Nat) : Nat × Option FirstMiss :=
  let k := if b = 0 then 0 else 8 * rep.length / b
  let k := if b < 8 then min k cols else k
  let bad := ((unpackRow b k die).zip (unpackRow b k rep)).zipIdx.filter fun p => p.1.1 != p.1.2
  (bad.length, bad.head?.map fun p => { cmp := id, idx := idx + p.2, bits := b, die := p.1.1 % 2 ^ 64, replay := p.1.2 % 2 ^ 64 })

/-- CMP. -/
def coreCmp (e : GridEnv) (x : GridCmd) (c : GridCore) : CoreRes := do
  let len := x.arg c 2
  let rows := x.args.getD 3 0
  let stride := x.args.getD 4 0
  let i0 := bits (x.args.getD 5 0) 0 16
  let j0 := bits (x.args.getD 5 0) 16 16
  let b := bits (x.args.getD 6 0) 0 8
  let id := bits (x.args.getD 6 0) 8 8
  let c ← (List.range rows).foldl (fun (acc : CoreRes) r => do
    let c ← acc
    let rep ← workRead c (x.arg c 0 + r * len) len
    let die ← locRead e c (x.arg c 1) (r * stride) len
    let (k, f) := cmpRow b id ((i0 + r) * e.bundle.n + j0) (e.bundle.n - j0) die rep
    return { c with count := c.count + k, first := pickFirst c.first f }) (.ok c)
  return c.advance

/-- The run in which a core works, with its environment and the core. -/
def Abl.coreAt (a : Abl) (k : Nat) : Option (GridRun × GridEnv × GridCore) :=
  match a.grid.runs.find? fun r => r.part.contains k with
  | none => none
  | some r =>
    match a.slice r.id, r.cores.find? fun c => c.core == k with
    | some s, some c => (a.prog s.slot).map fun p => (r, { bundle := s.bundle, prog := p }, c)
    | _, _ => none

/-- Store a core of a run. -/
def Abl.putCore (a : Abl) (id : Nat) (c : GridCore) : Abl :=
  { a with grid := { a.grid with runs := a.grid.runs.map fun r =>
    if r.id = id then { r with cores := r.cores.map fun y => if y.core = c.core then c else y } else r } }

/-- One more command retired by a core (R374). -/
def Abl.retire (a : Abl) (k : Nat) : Abl :=
  a.on fun n => n.setFld Reg.ABL_GRID_CORE k 0 32 ((n.fld Reg.ABL_GRID_CORE k 0 32 + 1) % 2 ^ 32)

/-- What a command's answer does: the core goes on, or its slice ends. -/
def Abl.coreApply (a : Abl) (r : GridRun) (k : Nat) (old : GridCore) (res : CoreRes) : Abl :=
  match res with
  | .ok c =>
    let a := a.putCore r.id c
    if c.st = 1 || c.st = 2 || c.st = 3 || (c.pc = old.pc && c.st = old.st && c.loops == old.loops) then a else a.retire k
  | .error 0 => a.runBad r.id
  | .error cause => a.runFault r.id cause [k]

/-- END. -/
def coreEnd (c : GridCore) : CoreRes := .ok { c with st := 4 }

/-- The class and position of R81 and the number of operations of a command (R112, R352). -/
def opCount (format : Nat) (x : GridCmd) (c : GridCore) : Nat × Nat × Nat :=
  match x.op with
  | 5 => (0, format - 1, 2 * bits (x.args.getD 3 0) 0 16 * bits (x.args.getD 3 0) 16 16 * x.args.getD 4 0)
  | 6 => (if 0x16 ≤ x.args.getD 3 0 then 3 else if x.args.getD 3 0 ≤ 5 then 1 else 2, 10, x.arg c 2)
  | 7 => (4, x.fmt - 1, x.arg c 2)
  | 1 => (5, format - 1, x.arg c 2 * x.args.getD 4 0)
  | 3 | 4 => (6, format - 1, x.args.getD 3 0)
  | _ => (7, format - 1, 1)

/-- Operations of profiled contexts are counted (R112, R113). -/
def Abl.countOps (a : Abl) (e : GridEnv) (x : GridCmd) (c : GridCore) : Abl :=
  if a.profJobs.contains e.bundle.jobtag then
    let (k, pos, ops) := opCount e.prog.format x c
    a.on fun n => n.pcount (768 + 11 * k + pos) (Config.gridOps k ops)
  else a

/-- Core `k` executes the command at which it stands when `want` names it. -/
def Abl.coreStep (a : Abl) (k : Nat) (want : GridCmd → Bool) (f : GridEnv → GridCmd → GridCore → CoreRes) : Abl :=
  match a.coreAt k with
  | some (r, e, c) =>
    match e.cmd c with
    | some x => if c.st = 0 && want x then (a.countOps e x c).coreApply r k c (f e x c) else a
    | none => a
  | none => a

/-- A message is delivered (R338): core `k`, in SEND, meets the RECV that its destination has posted on the queue. -/
def Abl.meshDeliver (a : Abl) (k : Nat) : Abl :=
  match a.coreAt k with
  | some (r, e, c) =>
    match e.cmd c with
    | some x =>
      match if c.st = 1 then sendDest e.prog.shape x c else none with
      | none => a
      | some d =>
        match r.cores.find? fun y => y.k == d with
        | none => a
        | some t =>
          match e.cmd t with
          | some y =>
            if t.st = 2 && t.core != c.core && bits (y.arg t 1) 0 3 == bits (x.arg c 1) 0 3 then
              let len := x.args.getD 3 0
              let room := y.args.getD 3 0
              match workRead c (x.arg c 2) len with
              | .error cause => a.runFault r.id cause [k]
              | .ok b =>
                match workWrite t (y.arg t 2) (b.take room) with
                | .error cause => a.runFault r.id cause [t.core]
                | .ok t' =>
                  let a := (a.putCore r.id t'.advance).retire t.core
                  if room < len then a.runFault r.id 2 [k] else (a.putCore r.id c.advance).retire k
            else a
          | none => a
    | none => a
  | none => a

/-- A stream engine of core `k` finishes a LOAD (R340). -/
def Abl.streamDone (a : Abl) (k s free : Nat) : Abl :=
  match a.coreAt k with
  | some (r, e, c) => a.coreApply r k c (Machine.streamDone e s free c)
  | none => a

/-! ## Program images -/

/-- The commands of a stream. -/
def cmdsAt (img : List Nat) (off count : Nat) : List GridCmd :=
  (List.range count).map fun i =>
    let o := off + 32 * i
    { op := leAt img o 1, fmt := leAt img (o + 1) 1, flags := leAt img (o + 2) 2, args := (List.range 7).map fun j => leAt img (o + 4 + 4 * j) 4 }

/-- A stream with its LOOPs and ADJ expanded; `fuel` bounds the commands and `inc` holds the sums of increments. -/
def expand : Nat → List GridCmd → List Nat → List GridCmd
  | 0, _, _ => []
  | _, [], _ => []
  | fuel + 1, x :: rest, inc =>
    let y := if bit x.flags 15 then { x with args := x.args.zipIdx.map fun (v, i) => if i < 3 then (v + inc.getD i 0) % 2 ^ 32 else v } else x
    if x.op = 9 then
      let len := x.args.getD 3 0
      let by_ := (x.args.drop 4).take 3
      ((List.range (y.args.getD 2 0)).flatMap fun i => expand fuel (rest.take len) ((inc.zip by_).map fun p => p.1 + i * p.2)) ++
        expand fuel (rest.drop len) inc
    else y :: expand fuel rest inc

/-- The checks on one command (R361): a word of ARG that the command does not have is reserved. (DESIGN CHOICE: log 54.) -/
def cmdOk (format shape : Nat) (x : GridCmd) : Bool :=
  let arg (i : Nat) : Nat := x.args.getD i 0
  let work (i : Nat) : Bool := decide (arg i < workBytes)
  let loc (i : Nat) : Bool := decide (bits (arg i) 29 3 ≤ 5) && (bits (arg i) 29 3 != 5 || decide (bits (arg i) 0 29 < workBytes))
  let flagsIn (m : Nat) : Bool := (x.flags ||| m ||| 0x8000) == (m ||| 0x8000)
  let fmt0 := x.fmt == 0
  let unused (l : List Nat) : Bool := l.all fun i => arg i == 0
  match x.op with
  | 0 => flagsIn 0 && fmt0 && unused [0, 1, 2, 3, 4, 5, 6]
  | 1 => flagsIn 7 && fmt0 && loc 0 && work 1 && unused [5, 6]
  | 2 => flagsIn 3 && fmt0 && unused [0, 1, 2, 3, 4, 5, 6]
  | 3 => flagsIn 0 && fmt0 && decide (arg 0 < 256) && decide (bits (arg 0) 4 4 < 2 ^ shape) && decide (bits (arg 0) 0 4 < 2 ^ shape) &&
      decide (arg 1 < 8) && work 2 && unused [4, 5, 6]
  | 4 => flagsIn 0 && fmt0 && decide (arg 1 < 8) && work 2 && unused [0, 4, 5, 6]
  | 5 => flagsIn 3 && x.fmt == format && work 0 && work 1 && work 2 && work 5 && work 6 && decide (bits (arg 3) 0 16 ≤ 256) &&
      decide (bits (arg 3) 16 16 ≤ 256)
  | 6 => flagsIn 0 && fmt0 && work 0 && work 1 && vecCode (arg 3) && unused [6] &&
      (vecUnary (arg 3) || arg 4 == 0xFFFFFFFF || work 4)
  | 7 => flagsIn 3 && decide (0 < fmtBits x.fmt) && work 0 && work 1 && work 3 && work 4 && (!bit x.flags 0 || fmtScaled x.fmt) && unused [5, 6]
  | 8 => flagsIn 0 && fmt0 && work 0 && loc 1 && decide (arg 6 < 65536)
  | 9 => flagsIn 0 && fmt0 && decide (1 ≤ arg 3) && decide (arg 3 ≤ 64) && unused [0, 1]
  | _ => false

/-- Whether the LOOPs of a stream nest at most four deep and lie inside their bodies and the stream (R361): `open_` holds where
the open bodies end. -/
def loopsOk (len : Nat) : List GridCmd → Nat → List Nat → Bool
  | [], _, _ => true
  | x :: t, i, open_ =>
    let live := open_.filter fun e => decide (i < e)
    if x.op = 9 then
      let stop := i + 1 + x.args.getD 3 0
      decide (stop ≤ len) && decide (live.length < 4) && live.all (fun e => decide (stop ≤ e)) && loopsOk len t (i + 1) (stop :: live)
    else loopsOk len t (i + 1) live

/-- Whether the SENDs to each queue of each core equal the RECVs there (R361). -/
def queuesOk (shape : Nat) (full : List (List GridCmd)) : Bool :=
  let side := 2 ^ shape
  (List.range (side * side)).all fun d => (List.range 8).all fun q =>
    let sends := (full.flatMap fun s => s.filter fun x => x.op == 3 && bits (x.args.getD 0 0) 4 4 * side + bits (x.args.getD 0 0) 0 4 == d &&
      x.args.getD 1 0 == q).length
    sends == ((full.getD d []).filter fun x => x.op == 4 && x.args.getD 1 0 == q).length

/-- Whether the CMPs of compare ID 0 cover an M × N accumulator (R353): 32-bit elements, each row compared with that of section 3 (R357). -/
def coverOk (m n : Nat) (full : List (List GridCmd)) : Bool :=
  let cs := full.flatMap fun s => s.filter fun x => x.op == 8 && bits (x.args.getD 6 0) 8 8 == 0 && bits (x.args.getD 6 0) 0 8 == 32 &&
    bits (x.args.getD 1 0) 29 3 == 3
  let spans := cs.flatMap fun x => (List.range (x.args.getD 3 0)).filterMap fun r =>
    let at_ := (bits (x.args.getD 5 0) 0 16 + r) * n + bits (x.args.getD 5 0) 16 16
    if bits (x.args.getD 1 0) 0 29 + r * x.args.getD 4 0 = 4 * at_ then some (at_, x.args.getD 2 0 / 4) else none
  (List.range (m * n)).all fun i => spans.any fun s => decide (s.1 ≤ i) && decide (i < s.1 + s.2)

/-- A program image's checks up to the one that its known-answer bundle decides (R360, R361): the program, or the status. -/
def parseProg (img : List Nat) (size wMax contract : Nat) : Except Nat GridProg :=
  let h (off k : Nat) : Nat := leAt img off k
  let shape := h 7 1
  let ns := h 24 2
  let offS := h 32 4
  let offC := h 36 4
  let lenC := h 40 4
  let offK := h 44 4
  let lenK := h 48 4
  let entries := (List.range ns).map fun i => (h (offS + 8 * i) 4, h (offS + 8 * i + 4) 4)
  let hdr := (img.drop offK).take 64
  let secLen (i : Nat) : Nat := leAt hdr (32 + 4 * i) 4
  let secOff (i : Nat) : Nat := offK + 64 + ((List.range i).map secLen).sum
  let kat := bundleOf hdr ((List.range 4).map fun i => (img.drop (secOff i)).take (secLen i))
  let expOff := offK + kat.size
  let form := decide (64 ≤ size) && h 0 4 == 0x31505247 && h 4 2 == 1 && h 12 4 == size && img.length == size &&
    h 60 4 == crc32c (img.take 60 ++ zeros 4 ++ img.drop 64) && offS % 8 == 0 && offC % 8 == 0 && offK % 8 == 0 &&
    decide (offS + 8 * ns ≤ size) && decide (offC + lenC ≤ size) && decide (lenC ≤ 2 ^ 21) && decide (offK + lenK ≤ size) &&
    decide (expOff + 16 ≤ offK + lenK) && entries.all fun e => decide (e.1 + 32 * e.2 ≤ size)
  if !form then .error stBad
  else if h 20 4 ≠ contract then .error stUnsupported
  else
    let streams := entries.map fun e => cmdsAt img e.1 e.2
    let full := streams.map fun s => expand (s.length + 1) s [0, 0, 0]
    if !(decide (0 < fmtBits (h 6 1)) && decide (shape ≤ 4) && ns == 4 ^ shape &&
        streams.all fun s => (s.getLast?.map fun x => x.op) == some 0) then .error stBad
    else if !(streams.all fun s => (s.all (cmdOk (h 6 1) shape)) && loopsOk s.length s 0 []) then .error stBad
    else if !queuesOk shape full then .error stBad
    else if !coverOk kat.m kat.n full then .error stBad
    else if wMax < h 16 4 then .error stRefused
    else .ok { slot := 0, format := h 6 1, shape := shape, wUs := h 16 4, sliceMax := h 28 4, len := size, streams := streams,
               consts := (img.drop offC).take lenC, kat := kat, expect := (h expOff 4, h (expOff + 4) 4, h (expOff + 8) 1),
               offs := entries.map fun e => e.1 }

/-- PROG_LOAD (R361, R362): the status, or none once the slot is LOADING. -/
def Abl.progLoad (a : Abl) (s : Nat) (img : List Nat) (size : Nat) : Abl × Option Nat :=
  match parseProg img size (a.n.rd Reg.ABL_GRID_WMAX_US) (a.n.fld Reg.ABL_GRID_ID 0 0 8) with
  | .error st => (a.on fun n => n.bump Reg.ABL_GRID_REFUSED, some st)
  | .ok p =>
    if a.n.progState s != 0 || a.hbmSize < a.hbmUsed + size then (a.on fun n => n.bump Reg.ABL_GRID_REFUSED, some stRefused)
    else
      let p := { p with slot := s }
      let v := 1 * 2 ^ 125 + p.format * 2 ^ 112 + p.shape * 2 ^ 109 + leAt img 8 4 * 2 ^ 64 + p.wUs % 65536 * 2 ^ 48 + size % 2 ^ 32
      let a : Abl := { (a.on fun n => n.wr Reg.ABL_GRID_PROG s v) with grid := { a.grid with progs := p :: a.grid.progs } }
      ((a.katSlice p 1 []).gridStart.1.gridView, none)

/-- The known-answer checks of a load end with its second run (R361, R362): the slot becomes READY or EMPTY. -/
def Abl.progLoadDone (a : Abl) (s : Nat) : Abl :=
  match a.prog s with
  | none => a
  | some p =>
    if a.n.progState s != 1 then a
    else
      let a : Abl := { a with grid := { a.grid with idleAt := a.n.local } }
      let drop (a : Abl) (st : Nat) : Abl :=
        { (a.on fun n => (n.wr Reg.ABL_GRID_PROG s 0).done 0x0801 s st) with grid := { a.grid with progs := a.grid.progs.filter fun x => x.slot != s } }
      match p.ends with
      | [e, f] =>
        let late (x : KatEnd) : Bool := decide (p.wUs < x.us) || x.got.isNone
        let right (x : KatEnd) : Bool := !late x && match x.got with | some g => g.1 == p.expect.1 && (g.1 == 0 || g.2 == p.expect.2) | none => false
        if right e && right f then
          let a := a.on fun n => (((n.setFld Reg.ABL_GRID_PROG s 125 3 2).setFld Reg.ABL_GRID_PROG s 32 16 (max e.us f.us)).irq 49).done 0x0801 s stOk
          { a with grid := { a.grid with progs := a.grid.progs.map fun x => if x.slot = s then { x with ends := [] } else x } }
        else if (late e && late f) || (!late e && !late f && e.got == f.got) then drop a stBad
        else drop ((e.part ++ f.part).foldl (fun a c => a.coreFault c 1 0) a) stInternal
      | _ => a

/-- PROG_UNLOAD (R362): the status, or none while the slot drains. -/
def Abl.progUnload (a : Abl) (s : Nat) : Abl × Option Nat :=
  if a.n.progState s != 2 || (List.range 32).any (fun c => a.n.ctxState c != 0 && a.n.ctxFld c 246 6 == s) then (a, some stBad)
  else
    let a := a.on fun n => n.setFld Reg.ABL_GRID_PROG s 125 3 3
    if a.grid.slices.any fun x => x.slot == s then (a, none)
    else
      let a := a.on fun n => n.wr Reg.ABL_GRID_PROG s 0
      (({ a with grid := { a.grid with progs := a.grid.progs.filter fun p => p.slot != s } } : Abl), some stOk)

/-! ## Resets -/

/-! ## Sweeps -/

/-- The cores that are isolated. -/
def Node.isoCount (n : Node) : Nat := ((List.range 256).filter n.coreIso).length

/-- A sweep goes on (R616): a run on each partition that is free; it ends with its last run. (DESIGN CHOICE: log 55.) -/
def Abl.sweepStep (a : Abl) : Abl :=
  match a.grid.sweep with
  | none => a
  | some x0 =>
    let x : SweepX := { x0 with left := x0.left.filter fun q => !q.any a.n.coreIso }
    let a : Abl := { a with grid := { a.grid with sweep := some x } }
    let running := match a.n.op x.handle with | some o => o.state == 0 | none => false
    match a.prog x.slot with
    | none =>
      let a : Abl := { a with grid := { a.grid with sweep := none } }
      a.on fun n => n.opEnd x.handle stInternal 0 [x.runs, x.fails, 0, n.isoCount - x.iso]
    | some p =>
      if !running || (!x.left.isEmpty && !a.n.bit Reg.ABL_GRID_CTRL 0 0) then a
      else if x.left.isEmpty then
        if a.grid.slices.any fun s => s.kat == 3 then a
        else
          let a : Abl := { a with grid := { a.grid with sweep := none } }
          (a.on fun n => n.opEnd x.handle stOk 0 [x.runs, x.fails, 0, n.isoCount - x.iso])
      else if a.n.gridPower ≠ 2 then a.gridStart.1
      else x.left.foldl (fun (a : Abl) part =>
        if part.any fun c => a.coreBusy c || a.n.coreIso c then a
        else
          let a : Abl := { a with grid := { a.grid with sweep := a.grid.sweep.map fun y => { y with left := y.left.filter fun q => q != part } } }
          let a := a.katSlice p 3 []
          match a.grid.slices.getLast? with
          | some s => a.beginRun s part
          | none => a) a

/-- GRID_SWEEP (R619): known-answer runs of the lowest READY program of a shape on every placeable partition. -/
def Abl.sweepStart (a : Abl) (path shape : Nat) : Abl × Nat × Nat :=
  let ready := (List.range 64).filter fun s => a.n.progState s == 2 && (a.prog s).any fun p => p.shape == shape
  match ready with
  | [] => (a, stBad, 0)
  | s :: _ =>
    if a.grid.sweep.isSome then (a, stBusy, 0)
    else match a.n.opStart 7 path 0 with
      | (none, n) => ({ a with n := n }, stBusy, 0)
      | (some h, n) =>
        let a : Abl := { a with n := match n.op h with | some o => n.opNote o 0 | none => n }
        let parts := ((corners shape).map (partition shape)).filter fun q => !q.any a.n.coreIso
        let x : SweepX := { handle := h, slot := s, left := parts, iso := a.n.isoCount }
        (({ a with grid := { a.grid with sweep := some x } } : Abl).sweepStep, stOk, h)

/-- SUSPEND 0, RESUME 1, CANCEL 2 of a sweep. -/
def Abl.sweepOp (a : Abl) (h what : Nat) : Abl × Bool :=
  match a.grid.sweep with
  | none => (a, false)
  | some x => match what with
    | 0 => (a.on fun n => n.opChange h fun o => { o with state := 1, kstate := 1 }, true)
    | 1 => ((a.on fun n => n.opChange h fun o => { o with state := 0, kstate := 0 }).sweepStep, true)
    | _ => (({ a with grid := { a.grid with sweep := none } } : Abl).on fun n => n.opEnd h stCancelled 0 [x.runs, x.fails, 0, n.isoCount - x.iso], true)

/-- An engine reset of the grid (R362, R371): queued and running slices end ABANDONED, the landing buffer empties.  The one LOSS record names the
context of the slices where they have only one. (DESIGN CHOICE: log 55.) -/
def Abl.gridReset (a : Abl) : Abl :=
  let mine := a.grid.slices.filter fun s => s.kat == 0
  let kats := a.grid.slices.filter fun s => s.kat != 0
  let a := a.grid.runs.foldl Abl.dropRun a
  let a := (mine ++ kats).foldl (fun a s => a.sliceEnd s 5 0 0 none) a
  let a := a.landingEnd fun _ => true
  let subject := match (mine.map fun s => s.ctx).eraseDups with | [c] => c | _ => 0xFFFF
  let a := a.on fun n => n.loss mine.length 0x0140 subject (some 0)
  let loading := (List.range 64).filter fun s => a.n.progState s == 1
  let a := loading.foldl (fun a s =>
    { (a.on fun n => (n.wr Reg.ABL_GRID_PROG s 0).done 0x0801 s stBusy) with grid := { a.grid with progs := a.grid.progs.filter fun p => p.slot != s } }) a
  let a := (List.range 64).foldl Abl.progDrained a
  ((List.range 32).foldl Abl.ctxDrained a).gridView

/-- Entry to Slack (R362, R364, R367): every lost slice ends ABANDONED and is counted by context, and slots and contexts empty. -/
def Abl.gridSlack (a : Abl) : Abl :=
  let mine := a.grid.slices.filter fun s => s.kat == 0
  let a := mine.foldl (fun a s => a.sliceEnd s 5 0 0 none) (a.landingEnd fun _ => true)
  let a := (List.range 32).foldl (fun a c =>
    let k := (mine.filter fun s => s.ctx == c).length
    a.on fun n => (n.loss k 0x0140 c (some 0)).wr Reg.ABL_GRID_CTX c 0) a
  let a := a.grid.runs.foldl Abl.dropRun a
  let a := (List.range 64).foldl (fun a s =>
    a.on fun n => (if n.progState s = 1 then n.done 0x0801 s stBusy else n).wr Reg.ABL_GRID_PROG s 0) a
  let a : Abl := { a with grid := { next := a.grid.next, scrubbed := a.grid.scrubbed, outs := a.grid.outs } }
  (a.on fun n => n.setFld Reg.ABL_GRID_STATUS 0 30 2 0).ctxLoadView.gridView

end Sys2Proof.Machine
end

