-- ==== Sys2Proof/Machine/VerdictOps.lean ====
section
/-!
DEFINITION. The tray's side of chapter 11: verdict entries (R396 to R402), failures, their classification (R405 to R410), campaigns
(R411 to R415) and signatures (R416 to R418).
-/

namespace Sys2Proof.Machine

/-! ## Entries -/

/-- Change the verdict logic. -/
def Abl.onVer (a : Abl) (f : VerdX → VerdX) : Abl := { a with ver := f a.ver }

/-- A field of a verdict entry (R422). -/
def Node.verFld (n : Node) (e lo w : Nat) : Nat := n.fld Reg.ABL_VER_EPOCH e lo w

/-- STATE of an entry: 0 FREE, 1 OPEN, 2 PASSED, 3 FAILED. -/
def Node.verState (n : Node) (e : Nat) : Nat := n.verFld e 254 2

/-- What is known of an entry beyond its register. -/
def Abl.verX (a : Abl) (e : Nat) : VerX := (a.ver.entries.find? fun x => x.e == e).getD { e := e }

/-- Replace it. -/
def Abl.putVerX (a : Abl) (x : VerX) : Abl := a.onVer fun v => { v with entries := x :: v.entries.filter fun y => y.e != x.e }

/-- The VERDICT group of a job at this node (R267): its entry. -/
def Node.verdictGroup (n : Node) (jobtag : Nat) : Option Nat :=
  match n.jobSlot jobtag with
  | some j =>
    let gid := n.fld Reg.ABL_JOB j 96 16
    if gid = 0 then none else n.groupOf jobtag gid
  | none => none

/-- The entry of an epoch of a group. -/
def Node.verOf (n : Node) (jobtag gid epoch : Nat) : Option Nat :=
  (List.range 64).find? fun e => n.verState e != 0 && n.verFld e 192 32 == jobtag && n.verFld e 224 16 == gid && n.verFld e 160 32 == epoch

/-- The order of two keys of one parity (R275, R398): 0 older, 1 equal, 2 newer. -/
def keyOrder (e a e' a' : Nat) : Nat :=
  if e = e' then (if a = a' then 1 else if a < a' then 0 else 2) else if dist32 e e' < 0 then 0 else 2

/-- Free an entry. -/
def Abl.verFree (a : Abl) (e : Nat) : Abl :=
  (a.onVer fun v => { v with entries := v.entries.filter fun x => x.e != e }).on fun n => n.wr Reg.ABL_VER_EPOCH e 0

/-- Open an entry for a key (R396, R397): it takes the place of the group's entry of that parity, but a FAILED entry of attempt 3 stays. (DESIGN
CHOICE: log 59.) -/
def Abl.verOpen (a : Abl) (g jobtag gid epoch attempt : Nat) : Abl × Option Nat :=
  let a := a.onVer fun v => { v with keys := ((jobtag, gid, epoch % 2), (epoch, attempt)) :: v.keys.filter fun k => k.1 != (jobtag, gid, epoch % 2) }
  let a := a.onVer fun v => { v with skips := v.skips.filter fun s => s.1 != jobtag || s.2.2.1 % 2 != epoch % 2 || s.2.2.1 == epoch }
  let ended (e : Nat) : Bool := a.n.verState e == 3 && a.n.verFld e 240 8 == 3
  let same := (List.range 64).find? fun e => a.n.verState e != 0 && a.n.verFld e 192 32 == jobtag && a.n.verFld e 224 16 == gid &&
    a.n.verFld e 160 32 % 2 == epoch % 2 && !ended e
  let slot := match same with
    | some e => some e
    | none => (List.range 64).find? fun e => a.n.verState e == 0
  match slot with
  | none => (a, none)
  | some e =>
    let members := a.n.fld Reg.ABL_GROUP g 96 18 % 256
    let a := a.putVerX { e := e }
    (a.on fun n => n.wr Reg.ABL_VER_EPOCH e (2 ^ 254 + attempt * 2 ^ 240 + gid * 2 ^ 224 + jobtag % 2 ^ 32 * 2 ^ 192 + epoch % 2 ^ 32 * 2 ^ 160 +
      members * 2 ^ 128), some e)

/-- The entry that a member's record of (E, A) joins (R396 to R398): opened if it is the first of its key, unless it is one that opens none; none
for a record that joins no verdict.  `die` is the record's die. -/
def Abl.verEntry (a : Abl) (jobtag die epoch attempt : Nat) (opens : Bool := true) : Abl × Option Nat :=
  match a.n.verdictGroup jobtag with
  | none => (a, none)
  | some g =>
    let gid := a.n.fld Reg.ABL_GROUP g 224 16
    let member := match a.n.childOf (die % 2 ^ 17) with | some c => a.n.groupExp g c != 0 | none => false
    if !member then (a, none)
    else match a.ver.keys.find? fun k => k.1 == (jobtag, gid, epoch % 2) with
      | none => if opens then a.verOpen g jobtag gid epoch attempt else (a, none)
      | some (_, e', a') =>
        match keyOrder epoch attempt e' a' with
        | 0 => (a.on fun n => n.bump Reg.ABL_VER_STALE, none)
        | 1 => (a, a.n.verOf jobtag gid epoch)
        | _ =>
          let last := match a.n.verOf jobtag gid epoch with
            | some e => a.n.verState e == 3 && a.n.verFld e 240 8 == 3
            | none => false
          if last || !opens then (a, none) else a.verOpen g jobtag gid epoch attempt

/-! ## Failing and passing -/

/-- An operation on a gate of the group of an entry: the home's (R279, R397) or the tray's mirror. -/
def Node.gateSend (n : Node) (g : Nat) (home : Bool) (op : Nat) (ack : Bool) (jobtag epoch attempt d : Nat) : Node :=
  let gid := n.fld Reg.ABL_GROUP g 224 16
  let h := (if home then n.fld Reg.ABL_GROUP g 160 32 else n.fld Reg.ABL_GROUP g 128 32) + epoch % 2
  let dest := n.fld Reg.ABL_GROUP g 192 20
  if !home || dest == n.ident then
    if n.syncOn then (n.syncOp op { jobtag := jobtag, handle := h, attempt := attempt, group := gid, epoch := epoch, d := d } false n.ident).node else n
  else n.postTo jobtag dest 0 0x15 0x0010 651 (syncPayload jobtag h (op + 128 * b2n ack) attempt gid epoch d)

/-- VERDICT_NS (R402): from the last bundle's last byte, or from the last fence. -/
def Abl.verdictNs (a : Abl) (e : Nat) : Nat :=
  let x := a.verX e
  match x.lastBundle with
  | some t => a.n.local - t
  | none => if x.fenced.isEmpty then 0 else a.n.local - x.lastFence

/-- EPOCH_VERDICT (R419), with the count of late verdicts (R402). -/
def Abl.verdictRec (a : Abl) (e verdict cause : Nat) (gateOp : Bool) : Abl :=
  let x := a.verX e
  let ns := if gateOp then a.verdictNs e else 0
  let late := decide ((if x.started then 210000 else 150000) < ns)
  let n := a.n
  let n := if late then n.bump Reg.ABL_VER_LATE else n
  let jobtag := n.verFld e 192 32
  let n := n.emit jobtag 2 0x18 0x0005 0
    (le 4 jobtag ++ le 4 (n.verFld e 160 32) ++ [n.verFld e 240 8, verdict, cause, b2n late + 2 * b2n x.started] ++ le 2 (n.verFld e 224 16) ++
      le 2 (n.verFld e 128 8) ++ le 4 x.checked ++ le 4 x.good ++ le 4 x.other ++ le 4 x.skipped ++ le 4 ns ++ zeros 4)
  { a with n := n.irq 51 }

/-- A failing verdict (R279, R281, R397): `cause` 1 replay, 2 checksum, 3 unverified, 0 failed elsewhere. (DESIGN CHOICE: log 59.) -/
def Abl.verFail (a : Abl) (e cause : Nat) : Abl :=
  if a.n.verState e ≠ 1 then a
  else
    let jobtag := a.n.verFld e 192 32
    let gid := a.n.verFld e 224 16
    let epoch := a.n.verFld e 160 32
    let attempt := a.n.verFld e 240 8
    let a := a.on fun n => (n.setFld Reg.ABL_VER_EPOCH e 254 2 3).bump Reg.ABL_VER_FAIL
    let a := if cause = 3 then a.on fun n => n.bump Reg.ABL_VER_UNVERIFIED else a
    let a := if cause = 0 then a
      else match a.n.groupOf jobtag gid with
        | none => a
        | some g =>
          a.on fun n =>
            let n := if n.fld Reg.ABL_GROUP g 128 32 = 0 then n else n.gateSend g false 4 false jobtag epoch attempt 0
            let n := n.gateSend g true 4 true jobtag epoch attempt 0
            n.emit jobtag 1 0x15 0x0020 0 (le 4 jobtag ++ le 4 epoch ++ [attempt, cause] ++ le 2 gid ++ le 4 n.ident)
    let a := a.verdictRec e 2 cause (cause != 0)
    if cause ≠ 0 && attempt = 3 && !a.n.secured jobtag then a.on fun n => n.escalate 0 3 jobtag epoch attempt else a

/-- A passing verdict (R397). (DESIGN CHOICE: log 59.) -/
def Abl.verPass (a : Abl) (e : Nat) : Abl :=
  let jobtag := a.n.verFld e 192 32
  let epoch := a.n.verFld e 160 32
  let attempt := a.n.verFld e 240 8
  let a := a.on fun n => (n.setFld Reg.ABL_VER_EPOCH e 254 2 2).bump Reg.ABL_VER_PASS
  let a := match a.n.groupOf jobtag (a.n.verFld e 224 16) with
    | none => a
    | some g => a.on fun n => n.gateSend g true 2 false jobtag epoch attempt (n.fld Reg.ABL_GROUP g 96 18)
  a.verdictRec e 1 0 true

/-- The dies of an entry's group that have not fenced. -/
def Abl.silent (a : Abl) (e : Nat) : List Nat :=
  match a.n.groupOf (a.n.verFld e 192 32) (a.n.verFld e 224 16) with
  | none => []
  | some g => ((a.n.groupChildren g).map fun c => a.n.childNode c % 2 ^ 17).filter fun d => !(a.verX e).fenced.contains d

/-- Whether every fence is in. -/
def Abl.allFenced (a : Abl) (e : Nat) : Bool := decide (a.n.verFld e 128 8 ≤ a.n.verFld e 144 8)

/-- Pass an entry whose condition holds (R397, R399). -/
def Abl.verCheck (a : Abl) (e : Nat) : Abl :=
  if a.n.verState e = 1 && a.allFenced e && decide (a.n.verFld e 96 32 ≤ a.n.verFld e 64 32) then a.verPass e else a

/-! ## Failures -/

/-- Note a failure to classify and sign (R404, R406, R418). -/
def Abl.failure (a : Abl) (f : FailX) : Abl :=
  let id := a.ver.nextId
  a.onVer fun v => { v with fails := v.fails ++ [{ f with id := id }], nextId := id + 1 }

/-- WAIT_US has passed with a fence missing (R397, R400): the silent members are named, and each leaves an UNVERIFIED failure. -/
def Abl.verUnverified (a : Abl) (e : Nat) : Abl :=
  if a.n.verState e ≠ 1 || a.allFenced e || (a.verX e).fenced.isEmpty then a
  else
    let l := a.silent e
    let jobtag := a.n.verFld e 192 32
    let epoch := a.n.verFld e 160 32
    let attempt := a.n.verFld e 240 8
    let a := a.verFail e 3
    let a := a.on fun n => n.notice 2 ([jobtag, epoch, attempt] ++ l)
    l.foldl (fun a d => a.failure { id := 0, kind := 3, jobtag := jobtag, epoch := epoch, attempt := attempt, die := d, locus := 5,
                                    time := a.n.tideline, began := a.n.local }) a

/-- Whether R385 selects a tile, as the tray can tell: SAMPLE_K of the job and the unit's state. (DESIGN CHOICE: log 60.) -/
def Abl.tileSelected (a : Abl) (jobtag die epoch tile unit : Nat) : Bool :=
  match a.n.jobSlot jobtag, a.n.portOfDie die with
  | some j, some p =>
    let k := a.n.fld Reg.ABL_JOB j 120 4
    let k := if bit (a.suspectMask p) unit then k - 2 else k
    crc32c (le 4 epoch ++ le 4 tile) % 2 ^ k == 0
  | _, _ => false

/-- The campaign of a JobTag. -/
def Abl.campOf (a : Abl) (jobtag : Nat) : Option CampX := a.ver.camps.find? fun c => c.jobtag == jobtag

/-- Whether a failure is one that a checksum shows (R417). -/
def FailX.isChk (f : FailX) : Bool := f.detail.any fun d => d.1 == 8

/-- Whether a failure is of a tile of a die's attempt. -/
def FailX.ofTile (f : FailX) (jobtag die epoch attempt tile : Nat) : Bool :=
  f.jobtag == jobtag && f.die == die && f.epoch == epoch && f.attempt == attempt && f.tile == tile

/-- Whether the EPOCH_FENCE of a die's attempt has come: every CHK_MISMATCH of it came before (R285). -/
def Abl.fencedBy (a : Abl) (jobtag die epoch attempt : Nat) : Bool :=
  match a.ver.fences.find? fun x => x.1 == (jobtag, die, epoch % 2) with
  | some x => keyOrder epoch attempt x.2.1 x.2.2 ≤ 1
  | none => false

/-- Drop the failures of a tile's slice result that are neither signed nor counted: they give way to its CHK_MISMATCH (R406). -/
def Abl.dropOpen (a : Abl) (jobtag die epoch attempt tile : Nat) : Abl :=
  a.onVer fun v => { v with fails := v.fails.filter fun f =>
    !(f.ofTile jobtag die epoch attempt tile && !f.isChk && !f.signed && !f.counted && (f.kind == 1 || f.kind == 4)) }

/-- CHK_MISMATCH from a die (R397, R398, R406). A slice result of its tile that came first counts, and its own failure gives way to this one.
(DESIGN CHOICE: log 59.) -/
def Abl.chkMismatchRx (a : Abl) (origin : Nat) (p : List Nat) : Abl :=
  let jobtag := leAt p 0 4
  let epoch := leAt p 4 4
  let tile := leAt p 8 4
  let format := leAt p 12 1
  let which := leAt p 13 1
  let unit := leAt p 14 2
  let attempt := leAt p 17 1
  let die := origin % 2 ^ 17
  a.ofJob jobtag fun a =>
    let (a, o) := a.verEntry jobtag die epoch attempt
    let a := match o with | some e => a.verFail e 2 | none => a
    let first := a.ver.results.find? fun r => r.jobtag == jobtag && r.die == die && r.epoch == epoch && r.attempt == attempt && r.tile == tile
    let a := a.dropOpen jobtag die epoch attempt tile
    let pair := if bit which 2 then 4 else if bit which 0 && bit which 1 then 3 else if bit which 0 then 1 else 2
    a.failure { id := 0, kind := if (a.campOf jobtag).isSome then 4 else 2, jobtag := jobtag, epoch := epoch, attempt := attempt, die := die,
                unit := unit, cell := leAt p 16 1, tile := tile, format := format, time := a.n.tideline, began := a.n.local,
                detail := [(8, pair), (9, leAt p 24 8), (10, leAt p 32 8), (11, leAt p 40 8)],
                wait := first.isNone && a.tileSelected jobtag die epoch tile unit, replayed := first.map fun r => r.result,
                digest := (first.map fun r => r.digest).getD [], slot := (first.map fun r => r.slot).getD 64 }

/-- EPOCH_SUMMARY from a die (R399). -/
def Abl.summaryRx (a : Abl) (origin : Nat) (p : List Nat) : Abl :=
  let jobtag := leAt p 0 4
  a.ofJob jobtag fun a => match a.verEntry jobtag (origin % 2 ^ 17) (leAt p 4 4) (leAt p 8 1) with
    | (a, none) => a
    | (a, some e) =>
      let x := a.verX e
      let a := a.putVerX { x with checked := x.checked + leAt p 12 4, skipped := x.skipped + leAt p 28 4 }
      (a.on fun n => n.setFld Reg.ABL_VER_EPOCH e 96 32 (n.verFld e 96 32 + leAt p 24 4)).verCheck e

/-- SNOOP_SKIPPED from a die (R396, R399): it opens no entry; its bundle, if part of it lands, is not a result. -/
def Abl.skippedRx (a : Abl) (origin : Nat) (p : List Nat) : Abl :=
  let jobtag := leAt p 0 4
  a.ofJob jobtag fun a => (a.verEntry jobtag (origin % 2 ^ 17) (leAt p 4 4) (leAt p 15 1) false).1.onVer fun v =>
    { v with skips := (jobtag, origin % 2 ^ 17, leAt p 4 4, leAt p 15 1, leAt p 8 4) :: v.skips }

/-- What a die's EPOCH_FENCE closes beside the epoch's entry (R391, R406): its bundles that can no longer complete, the slice results that wait
for a checksum of the tile, and the wait of its replay failures. -/
def Abl.fenceNote (a : Abl) (jobtag die epoch attempt : Nat) : Abl :=
  (a.ingestFence die epoch attempt).onVer fun v => { v with
    fences := ((jobtag, die, epoch % 2), (epoch, attempt)) :: v.fences.filter (fun x => x.1 != (jobtag, die, epoch % 2))
    results := v.results.filter (fun r => !(r.jobtag == jobtag && r.die == die && r.epoch % 2 == epoch % 2))
    fails := v.fails.map fun f =>
      if !f.isChk && f.jobtag == jobtag && f.die == die && f.epoch == epoch && f.attempt == attempt then { f with wait := false } else f }

/-- EPOCH_FENCE from a die (R391, R397, R400). (DESIGN CHOICE: log 59.) -/
def Abl.fenceRx (a : Abl) (origin : Nat) (p : List Nat) : Abl :=
  let jobtag := leAt p 0 4
  let epoch := leAt p 4 4
  let attempt := leAt p 8 1
  let die := origin % 2 ^ 17
  a.ofJob jobtag fun a =>
    let a := a.fenceNote jobtag die epoch attempt
    match a.verEntry jobtag die epoch attempt with
    | (a, none) => a
    | (a, some e) =>
      let x := a.verX e
      if x.fenced.contains die then a
      else
        let first := x.fenced.isEmpty
        let a := a.putVerX { x with fenced := die :: x.fenced, firstFence := if first then a.n.local else x.firstFence, lastFence := a.n.local }
        let a := a.on fun n =>
          let n := n.setFld Reg.ABL_VER_EPOCH e 144 8 (x.fenced.length + 1)
          if first then n.setFld Reg.ABL_VER_EPOCH e 32 32 n.now else n
        let a := a.verCheck e
        if a.n.rd Reg.ABL_VER_WAIT_US = 0 then a.verUnverified e else a

/-- WAIT_US since the first fence of an entry (R400). -/
def Abl.verTimeouts (a : Abl) : Abl :=
  (List.range 64).foldl (fun a e =>
    if a.n.verState e = 1 && decide ((a.verX e).firstFence + a.n.rd Reg.ABL_VER_WAIT_US * 1000 ≤ a.n.local) then a.verUnverified e else a) a

/-- A SNOOP_DATA record reaches its entry (R396, R402); the bundles of repeat runs join no verdict (R408). -/
def Abl.verData (a : Abl) (origin : Nat) (p : List Nat) : Abl :=
  let jobtag := leAt p 0 4
  if bit (leAt p 8 4) 31 || a.n.jobCheck jobtag ≠ 0 then a
  else match a.verEntry jobtag (origin % 2 ^ 17) (leAt p 4 4) (leAt p 17 1) with
    | (a, none) => a
    | (a, some e) =>
      let x := a.verX e
      let woke := a.grid.ingest.any fun y => y.die == origin % 2 ^ 17 && y.jobtag == jobtag && y.epoch == leAt p 4 4 && y.tile == leAt p 8 4 && y.started
      let a := a.putVerX { x with lastBundle := some a.n.local, started := x.started || woke }
      a.on fun n => n.setFld Reg.ABL_VER_EPOCH e 0 32 n.now

/-! ## Slice results -/

/-- The header and sections of a bundle as landed (R357). (DESIGN CHOICE: log 56.) -/
def Bundle.bytes (b : Bundle) : List Nat :=
  le 4 b.jobtag ++ le 4 b.epoch ++ le 4 b.tile ++ le 4 b.die ++ [b.format, b.attempt, 0, 0] ++ le 2 b.m ++ le 2 b.n ++ le 4 b.k ++
    [b.prog, 0, 0, 0] ++ (b.secs.map fun s => le 4 s.length).flatten ++ (b.secs.map fun s => le 4 (crc32c s)).flatten ++ b.secs.flatten

/-- Push a MATCH into ABL_HS_TALLY (R511). -/
def Abl.tally (a : Abl) (port unit cell : Nat) : Abl :=
  if a.hist.tally.length < 1024 then a.onHist fun h => { h with tally := h.tally ++ [(port, unit, cell)] }
  else a.on fun n => n.bump Reg.ABL_HS_TALLY_LOST

/-- Store a campaign and its operation's counters. -/
def Abl.putCamp (a : Abl) (c : CampX) : Abl :=
  let ms := (c.inCell + (match c.cellSince with | some t => a.n.local - t | none => 0)) / 1000000
  (a.onVer fun v => { v with camps := c :: v.camps.filter fun x => x.handle != c.handle }).on fun n =>
    match n.op c.handle with
    | some o => n.putOp { o with cs := [c.tiles, c.bad, ms, 0] }
    | none => n

/-- KSTATE of a campaign (R414): 0 QUEUED, 1 STARTING, 2 HEATING, 3 TESTING, 4 SUSPENDED, 5 ENDING, 6 DONE. -/
def Abl.campSt (a : Abl) (c : CampX) : Nat := match a.n.op c.handle with | some o => o.kstate | none => 6

/-- A campaign leaves the cell: its time there is kept. -/
def CampX.outOfCell (c : CampX) (now : Nat) : CampX :=
  match c.cellSince with
  | some t => { c with inCell := c.inCell + (now - t), cellSince := none }
  | none => c

/-- The time limit stops. -/
def CampX.pause (c : CampX) (now : Nat) : CampX :=
  match c.runs with
  | some t => { c with used := c.used + (now - t), runs := none }
  | none => c

/-- A fan-out that the firmware originates (R239, R244): in the first buffer that is not busy. -/
def Abl.originate (a : Abl) (m : FanMsg) : Abl × Option Nat :=
  match (List.range 4).find? fun i => a.n.fld Reg.ABL_RED_FAN_STAT i 62 2 != 1 with
  | none => (a, none)
  | some i => ((a.on fun n => n.wr Reg.ABL_RED_FAN_BUF i (leNat (fanBytes m))).fanStart i, some i)

/-- The next FAN_SEQ of this node for a job: above every one in use. -/
def Abl.fanSeq (a : Abl) (jobtag : Nat) : Nat :=
  (a.fans.filter fun x => x.msg.jobtag == jobtag && x.origin == a.n.ident).foldl (fun m x => max m (x.msg.seq + 1)) 1

/-- A fan-out that firmware owes: originated as soon as a buffer is free, in the order in which they came (R244). -/
def Abl.fanOwe (a : Abl) (m : FanMsg) : Abl :=
  let wait : Abl := { a with red := { a.red with owed := a.red.owed ++ [m] } }
  if !a.red.owed.isEmpty then wait
  else match a.originate { m with seq := a.fanSeq m.jobtag } with
    | (b, some _) => b
    | (_, none) => wait

/-- The fan-outs that wait for a buffer. -/
def Abl.owedSweep (a : Abl) : Abl := a.red.owed.foldl Abl.fanOwe { a with red := { a.red with owed := [] } }

/-- A campaign ends (R414): ENDING with its outcome, JOB_END of the campaign job, and the pattern stops. -/
def Abl.campEnd (a : Abl) (c : CampX) (outcome : Nat) : Abl :=
  let c := { (c.outOfCell a.n.local).pause a.n.local with outcome := outcome }
  let a := (a.putCamp c).on fun n => n.opChange c.handle fun o => { o with kstate := 5, state := 0 }
  let a := match a.n.portOfDie c.die with | some p => a.on fun n => n.dieCmd p 0x100D (le 4 c.handle ++ [0xFF, 0, 0, 0]) | none => a
  a.fanOwe { jobtag := c.jobtag, seq := 0, kind := 2, deadline := 0, ranges := [(c.die, c.die)], body := zeros 8 }

/-- A slice result of a campaign's job (R413, R414). (DESIGN CHOICE: log 60.) -/
def Abl.campResult (a : Abl) (c : CampX) (o : SliceOut) : Abl :=
  if a.campSt c = 3 && o.unit = c.unit && o.cell = c.cell then
    let c := { c with tiles := c.tiles + 1, bad := c.bad + b2n (o.result == 1), good := c.good + b2n (o.result == 0) }
    let a := a.putCamp c
    if c.reproN ≤ c.bad then a.campEnd c 1 else if c.target ≤ c.tiles then a.campEnd c 2 else a
  else a

/-- The failure that a replay mismatch leaves (R406, R417); whether the checksum of its tile matched is known at the die's EPOCH_FENCE. (DEDUCED:
log 126.) -/
def Abl.replayFail (a : Abl) (o : SliceOut) (kind : Nat) : Abl :=
  let b := o.bundle
  let f := o.first.getD { cmp := 0, idx := 0, bits := 0, die := 0, replay := 0 }
  a.failure { id := 0, kind := kind, jobtag := b.jobtag, epoch := b.epoch, attempt := b.attempt, die := b.die, unit := o.unit, cell := o.cell,
              tile := b.tile, format := b.format, slot := o.slot, cmp := f.cmp, time := a.n.tideline, began := a.n.local,
              wait := !a.fencedBy b.jobtag b.die b.epoch b.attempt, detail := [(1, f.cmp), (2, f.bits), (3, o.count), (4, f.idx), (5, f.die), (6, f.replay), (7, o.rflags)],
              digest := (sha384 b.bytes).take 16 }

/-- A repeat run's result (R408): bit 30 of TILE marks the run on the other unit. -/
def Abl.repeatResult (a : Abl) (o : SliceOut) : Abl :=
  let b := o.bundle
  let tile := b.tile % 2 ^ 30
  let take (f : FailX) : FailX :=
    if f.asked && f.die == b.die && f.epoch == b.epoch && f.tile % 2 ^ 30 == tile then
      if bit b.tile 30 then { f with cross := some o.result } else { f with same := some o.result }
    else f
  a.onVer fun v => { v with fails := v.fails.map take }

/-- One slice result (R397, R399, R402, R406, R511). -/
def Abl.sliceResult (a : Abl) (o : SliceOut) : Abl :=
  let b := o.bundle
  if bit b.tile 31 then a.repeatResult o
  else
    let camp := a.campOf b.jobtag
    let a := if o.result = 0 && camp.isNone then
        let a := match a.n.portOfDie b.die with | some p => a.tally p o.unit o.cell | none => a
        a.onVer fun v => { v with obs := v.obs.map fun x => if x.die == b.die && x.unit == o.unit then { x with good := x.good + 1 } else x }
      else a
    let told (f : FailX) : FailX :=
      if f.wait && f.isChk && f.ofTile b.jobtag b.die b.epoch b.attempt b.tile then
        { f with wait := false, replayed := some o.result, digest := (sha384 b.bytes).take 16, slot := o.slot } else f
    let a := a.onVer fun v => { v with fails := v.fails.map told }
    let a := match camp with | some c => a.campResult c o | none => a
    let (a, e) := a.verEntry b.jobtag b.die b.epoch b.attempt
    let twice := a.ver.fails.any fun f => f.isChk && f.ofTile b.jobtag b.die b.epoch b.attempt b.tile
    let a := if a.fencedBy b.jobtag b.die b.epoch b.attempt then a
      else a.onVer fun v => { v with results := v.results ++ [{ jobtag := b.jobtag, die := b.die, epoch := b.epoch, attempt := b.attempt, tile := b.tile,
                                                                  result := o.result, slot := o.slot, digest := (sha384 b.bytes).take 16 }] }
    let a := match e with
      | none => a
      | some e =>
        let x := a.verX e
        if o.result = 3 && a.ver.skips.contains (b.jobtag, b.die, b.epoch, b.attempt, b.tile) then a
        else
          let t := match x.lastBundle with | some t => max t o.lastByte | none => o.lastByte
          let a := a.putVerX { x with good := x.good + b2n (o.result == 0), other := x.other + b2n (o.result != 0),
                                      started := x.started || o.started, lastBundle := some t }
          let a := a.on fun n => n.setFld Reg.ABL_VER_EPOCH e 64 32 (n.verFld e 64 32 + 1)
          if o.result = 1 then a.verFail e 1 else a
    if o.result = 1 && !twice then a.replayFail o (if camp.isSome then 4 else 1) else a

/-- The slice results that the grid has delivered (R367, R398): mismatches before the passes they forestall. -/
def Abl.slicesIn (a : Abl) : Abl :=
  let l := a.grid.outs
  let a : Abl := { a with grid := { a.grid with outs := [] } }
  let a := ((l.filter fun o => o.result == 1) ++ l.filter fun o => o.result != 1).foldl Abl.sliceResult a
  (List.range 64).foldl Abl.verCheck a

/-! ## What the gates tell the entries -/

/-- An OPEN entry whose mirror gate another tray has failed fails with CAUSE 0; a PASSED one whose gate holds a later epoch becomes FREE
(R397). -/
def Abl.verSweep (a : Abl) : Abl :=
  if a.ver.entries.isEmpty then a
  else (a.ver.entries.map fun x => x.e).foldl (fun a e =>
    let jobtag := a.n.verFld e 192 32
    let epoch := a.n.verFld e 160 32
    match a.n.groupOf jobtag (a.n.verFld e 224 16) with
    | none => a
    | some g =>
      let l := a.n.fld Reg.ABL_GROUP g 128 32
      let o := a.n.obj (l % 8192 + epoch % 2)
      if l = 0 || o.st ≠ 1 then a
      else if a.n.verState e = 1 && o.failed && o.epoch == epoch && o.attempt == a.n.verFld e 240 8 then a.verFail e 0
      else if a.n.verState e = 2 && decide (0 < dist32 o.epoch epoch) then a.verFree e
      else a) a

/-- JOB_END frees every entry of the job (R397) and drops its keys. -/
def Abl.verJobEnd (a : Abl) (jobtag : Nat) : Abl :=
  let a := ((List.range 64).filter fun e => a.n.verState e != 0 && a.n.verFld e 192 32 == jobtag).foldl Abl.verFree a
  a.onVer fun v => { v with keys := v.keys.filter (fun k => k.1.1 != jobtag), results := v.results.filter (fun r => r.jobtag != jobtag)
                            fences := v.fences.filter (fun x => x.1.1 != jobtag), skips := v.skips.filter fun s => s.1 != jobtag }

/-! ## Classification -/

/-- LOCUS (R406). -/
def FailX.locusOf (f : FailX) : Nat :=
  match f.kind with
  | 3 => 5
  | _ => if f.isChk then (if f.replayed = some 0 then 4 else 1) else if f.cmp = 0 then 2 else 3

/-- Key 13 of a signature (R417): checksum values as integers, or as floats by format. -/
def FailX.detailMap (f : FailX) : List Nat :=
  cborMap (f.detail.map fun d =>
    (d.1, if d.1 < 9 then cborUint d.2
          else if d.1 = 11 && fmtInt f.format then cborUint d.2
          else if fmtInt f.format then cborInt (toInt 64 d.2) else cborFloat d.2))

/-- The payload of a signature (R417); a key that does not apply is absent. -/
def Abl.sigPayload (a : Abl) (f : FailX) (num : Nat) : List Nat :=
  let hasUnit := f.kind != 3
  let ofTile := hasUnit && !f.detail.isEmpty
  let serial := match a.n.portOfDie f.die with | some p => a.serialAt p | none => 0
  let c := a.hist.tab.cell serial f.unit f.cell
  let w := a.n.windowH
  let opt (b : Bool) (k : Nat) (v : List Nat) : List (Nat × List Nat) := if b then [(k, v)] else []
  cborMap ([(1, cborUint 1), (2, cborArr [cborUint a.n.ident, cborUint num]), (3, cborUint f.jobtag), (4, cborUint f.epoch),
    (5, cborUint f.attempt), (6, cborUint f.die)] ++ opt hasUnit 7 (cborUint f.unit) ++ opt hasUnit 8 (cborUint f.cell) ++
    opt ofTile 9 (cborUint f.tile) ++ opt ofTile 10 (cborUint f.format) ++ [(11, cborUint f.kind), (12, cborUint f.locus)] ++
    opt ofTile 13 f.detailMap ++ [(14, cborArr [cborUint (f.time / 2 ^ 32), cborUint (f.time % 2 ^ 32)])] ++
    opt hasUnit 15 (cborMap [(1, cborInt (Config.unitTemp f.die f.unit f.time)), (2, cborUint (f.cell % 16))]) ++
    opt hasUnit 16 (cborArr [cborUint (c.count a.n.ltime w), cborUint (c.tiles a.n.ltime w), cborUint (min w 192)]) ++
    opt hasUnit 17 (cborUint f.cls) ++
    opt (decide (f.slot < 64)) 18 (cborArr [cborUint (a.n.fld Reg.ABL_GRID_PROG f.slot 64 32), cborUint (a.n.fld Reg.ABL_GRID_ID 0 0 8)]) ++
    opt (!f.digest.isEmpty) 19 (cborBytes f.digest))

/-- Sign a failure (R416, R418): FAILURE_SIGNATURE with the next signature number. (DESIGN CHOICE: log 60.) -/
def Abl.sign (a : Abl) (f : FailX) : Abl :=
  let num := a.ver.sigSeq
  let a := a.onVer fun v => { v with sigSeq := num + 1, fails := v.fails.map fun g => if g.id = f.id then { g with signed := true } else g }
  let p := a.sigPayload f num
  let cose := coseSign1 (le 8 Config.signKid) p (padTo 96 (Config.es384 (coseSigInput p)))
  a.on fun n => n.emit f.jobtag 1 0x18 0x0007 0 (le 4 (n.tideline / 2 ^ 32) ++ le 2 cose.length ++ zeros 2 ++ cose) 8

/-- FAILURE_ENTRY (R530). -/
def Abl.failureEntry (a : Abl) (f : FailX) (serial : Nat) : Abl :=
  a.on fun n => n.emit f.jobtag 2 0x1B 0x0001 650 (le 4 (n.tideline / 2 ^ 32) ++ le 8 serial ++ le 4 f.die ++ le 2 f.unit ++
    [f.cell, f.locus, f.cls, f.kind, 0, 0] ++ le 4 f.jobtag ++ le 4 f.epoch ++ le 4 a.ver.sigSeq) 8

/-- Add a failure to its cell and to its unit's entry (R409, R493, R509). -/
def Abl.addCellFail (a : Abl) (serial : Nat) (f : FailX) : Abl :=
  let t := a.n.ltime
  let w := a.n.windowH
  let x : CellFail := { epoch := f.epoch, jobtag := f.jobtag, ltime := t, locus := f.locus, cls := f.cls, kind := f.kind }
  let c := a.hist.tab.cell serial f.unit f.cell
  let c := { c with fails := (x :: c.fails).take 16 }
  a.onTab fun tab =>
    let tab := tab.putCell c
    tab.onDie serial fun m =>
      let k := c.count t w
      let u := m.unit f.unit
      let map := (tab.cellsOf serial f.unit).foldl (fun v y => setBit v y.cell (decide (0 < y.count t w))) 0
      { m.putUnit { u with cells := map, worst := if u.worstFails ≤ k then f.cell else u.worst, worstFails := max u.worstFails k,
                           fails := min 65535 (u.fails + 1) } with fails := m.fails + 1 }

/-- R409: what history says of a failure in a cell, counting it. -/
def Abl.historyClass (a : Abl) (serial unit cell : Nat) : Nat :=
  let pn := min 16 (a.n.fld Reg.ABL_VER_HIST_CFG 0 24 8)
  let c := a.hist.tab.cell serial unit cell
  if pn = 0 || c.reproduced || decide (pn ≤ c.count a.n.ltime a.n.windowH) then 2 else 1

/-- What a decided class does to the unit (R407). -/
def Abl.classActs (a : Abl) (f : FailX) : Abl :=
  match a.n.portOfDie f.die with
  | none => a
  | some p =>
    let st := bits (a.n.rd Reg.ABL_VER_UNITS p) (2 * f.unit) 2
    if st = 1 && (f.cls = 2 || f.cls = 3) then (a.setUnit f.die f.unit 2 f.cell 2).propose f.die 1 f.unit f.cell (a.ver.sigSeq - 1)
    else if st = 1 && f.cls = 1 then
      a.onVer fun v => { v with obs := v.obs.map fun o => if o.die == f.die && o.unit == f.unit then { o with since := a.n.ltime, good := 0 } else o }
    else a

/-- The epoch's held inputs have been released (R39, R41): the group has moved to a later epoch of the same parity, or the job has no VERDICT
group that would hold them (R423). -/
def Abl.released (a : Abl) (f : FailX) : Bool :=
  ((a.n.jobSlot f.jobtag).isSome && (a.n.verdictGroup f.jobtag).isNone) || a.ver.keys.any fun k => k.1.1 == f.jobtag && k.1.2.2 == f.epoch % 2 && decide (0 < dist32 k.2.1 f.epoch)

/-- A failure whose inputs are gone and whose job has no secured state escalates (R41, R478). -/
def Abl.unrecovered (a : Abl) (f : FailX) : Abl :=
  if a.released f && !a.n.secured f.jobtag then a.on fun n => n.escalate 0 3 f.jobtag f.epoch f.die else a

/-- Count a failure once: cell, entry, and the unit becomes OBSERVED (R407, R409). -/
def Abl.attribute (a : Abl) (f : FailX) : Abl :=
  if f.counted then a
  else match a.n.portOfDie f.die with
    | none => a
    | some p =>
      let s := a.serialAt p
      let a := a.addCellFail s f
      let st := bits (a.n.rd Reg.ABL_VER_UNITS p) (2 * f.unit) 2
      let a := if st = 0 then a.setUnit f.die f.unit 1 f.cell 1 else a
      (a.unrecovered f).unitWords p

/-- Write the class of a failure into its cell slot. -/
def Abl.slotClass (a : Abl) (serial : Nat) (f : FailX) : Abl :=
  a.onTab fun tab =>
    let c := tab.cell serial f.unit f.cell
    tab.putCell { c with fails := c.fails.map fun x => if x.epoch = f.epoch && x.jobtag = f.jobtag then { x with cls := f.cls } else x }

/-- A failure's class is decided: entry, unit state, signature, proposal (R407, R409, R418). -/
def Abl.decide_ (a : Abl) (f : FailX) (cls : Nat) : Abl :=
  let f := { f with cls := cls }
  let s := match a.n.portOfDie f.die with | some p => a.serialAt p | none => 0
  let a := ((a.slotClass s f).failureEntry f s).sign f
  let a := a.classActs f
  a.onVer fun v => { v with fails := v.fails.filter fun g => g.id != f.id }

/-- Put a failure back. -/
def Abl.putFail (a : Abl) (f : FailX) : Abl := a.onVer fun v => { v with fails := v.fails.map fun g => if g.id = f.id then f else g }

/-- What the repeat runs say (R408): none while a run is outstanding, 0 when they leave it PENDING. -/
def FailX.repeatClass (f : FailX) : Option Nat :=
  match f.same, f.cross with
  | some 1, some 0 => some 2
  | some 0, some 0 => some 1
  | some 1, some 1 => some 3
  | some _, some _ => some 0
  | _, _ => none

/-- Classify the first failure that waits for nothing (R406 to R409, R418). (DESIGN CHOICE: log 60.) -/
def Abl.classify (a : Abl) : Abl :=
  match a.ver.fails.find? fun f => !f.wait && !(f.asked && f.repeatClass.isNone) with
  | none => a
  | some f =>
    let f := { f with locus := f.locusOf }
    if f.kind = 3 || f.kind = 4 then
      (if f.signed then a else a.sign f).onVer fun v => { v with fails := v.fails.filter fun g => g.id != f.id }
    else
      let a := a.attribute f
      let f := { f with counted := true }
      let s := match a.n.portOfDie f.die with | some p => a.serialAt p | none => 0
      if a.n.bit Reg.ABL_VER_CTRL 0 0 && !f.asked then
        let a := a.putFail { f with asked := true }
        let ask (n : Node) (other : Nat) : Node := match n.portOfDie f.die with
          | some p => n.dieCmd p 0x100C (le 4 f.epoch ++ le 4 f.tile ++ le 2 f.unit ++ [other, 0])
          | none => n
        a.on fun n => ask (ask n 0) 1
      else match f.repeatClass with
        | some 0 | none => a.decide_ f (a.historyClass s f.unit f.cell)
        | some c => a.decide_ f c

/-- t_CLASS, 1,000 ms, has passed (R406, R418): the failure is signed PENDING, and waits no longer for its tile. -/
def Abl.classifyLate (a : Abl) : Abl :=
  (a.ver.fails.filter fun f => !f.signed && decide (f.began + 1000000000 ≤ a.n.local)).foldl (fun a f =>
    let f := { f with locus := f.locusOf, wait := false }
    (a.putFail f).sign f) a

/-- t_REPEAT, 1,000 ms, has passed with a run outstanding (R408): the failure stays PENDING, and R409 applies. -/
def Abl.repeatLate (a : Abl) : Abl :=
  (a.ver.fails.filter fun f => f.asked && f.repeatClass.isNone && decide (f.began + 1000000000 ≤ a.n.local)).foldl (fun a f =>
    a.putFail { f with same := some (f.same.getD 5), cross := some 5 }) a

/-- OBSERVED units that meet R410 return to HEALTHY. -/
def Abl.obsClear (a : Abl) : Abl :=
  let h := a.n.fld Reg.ABL_VER_OBS_CFG 0 16 16
  let k := a.n.fld Reg.ABL_VER_OBS_CFG 0 0 16
  (a.ver.obs.filter fun o => decide (o.since + 3600 * h ≤ a.n.ltime) && decide (1000 * k ≤ o.good)).foldl (fun a o =>
    match a.n.portOfDie o.die with
    | some p => a.setUnit o.die o.unit 0 ((a.hist.tab.die (a.serialAt p)).image.unit o.unit).worst 3
    | none => a) a

/-! ## Campaigns -/

/-- Whether a die is not IDLE, as the tray can tell (R411): some job that has not ended has it as a member. (DESIGN CHOICE: log 60.) -/
def Abl.dieBusy (a : Abl) (port : Nat) : Bool :=
  (List.range 63).any fun j =>
    let st := a.n.fld Reg.ABL_JOB j 125 3
    decide (1 ≤ j) && decide (1 ≤ st) && decide (st ≤ 3) && (a.jobA j).members.any (fun m => m.1 == port) && !(a.jobA j).scrubbed.contains port

/-- CAMPAIGN_START (R411): a handle, or a status. -/
def Abl.campStart (a : Abl) (path jobtag : Nat) (p : List Nat) : Abl × Nat × Nat :=
  let die := leAt p 0 4
  let unit := leAt p 4 2
  let cell := leAt p 6 1
  let slot := leAt p 7 1
  let target := leAt p 16 4
  let reproN := leAt p 20 2
  match a.n.portOfDie die with
  | none => (a, stBad, 0)
  | some port =>
    if target = 0 || reproN = 0 then (a, stZero, 0)
    else if 512 ≤ unit || 128 ≤ cell || 64 ≤ slot || a.n.progState slot ≠ 2 then (a, stBad, 0)
    else if a.dieBusy port then (a, stBusy, 0)
    else match a.n.opStart 1 path jobtag with
      | (none, n) => ({ a with n := n }, stBusy, 0)
      | (some h, n) =>
        let a : Abl := { a with n := match n.op h with | some o => n.opNote o 0 | none => n }
        let c : CampX := { handle := h, jobtag := jobtag, die := die, unit := unit, cell := cell, slot := slot, seed := leAt p 8 8, target := target,
                           reproN := reproN, limit := leAt p 24 4 }
        let a := (a.putCamp c).on fun n => n.opChange h fun o => { o with kstate := 1 }
        (a.fanOwe { jobtag := jobtag, seq := 0, kind := 1, deadline := 0, ranges := [(die, die)], body := le 4 2 ++ zeros 8 ++ le 4 1 ++ zeros 4 }, stOk, h)

/-- A directed test has proved a die's unit faulty (R41): every other job of the die that the tray still holds escalates where it has no secured
state, with its newest epoch. (DEDUCED: log 118.) -/
def Abl.provenFaulty (a : Abl) (port die own : Nat) : Abl :=
  (a.jobs.filter fun x => x.members.any fun m => m.1 == port).foldl (fun a x =>
    let t := a.n.fld Reg.ABL_JOB x.slot 0 32
    let epoch := match a.ver.keys.find? fun k => k.1.1 == t with | some k => k.2.1 | none => a.n.fld Reg.ABL_JOB x.slot 64 32
    if t = own || a.n.fld Reg.ABL_JOB x.slot 125 3 = 0 || a.n.secured t then a else a.on fun n => n.escalate 0 3 t epoch die) a

/-- A campaign's job becomes ACTIVE, or its die has scrubbed (R414). (DESIGN CHOICE: log 60.) -/
def Abl.campSweep (a : Abl) : Abl :=
  a.ver.camps.foldl (fun a c =>
    match a.n.jobSlot c.jobtag with
    | none => a
    | some j =>
      let st := a.campSt c
      if st = 1 && a.n.fld Reg.ABL_JOB j 125 3 == 2 then
        let a := (a.putCamp { c with runs := some a.n.local }).on fun n => n.opChange c.handle fun o => { o with kstate := 2 }
        match a.n.portOfDie c.die with | some p => a.on fun n => n.dieCmd p 0x100D (le 4 c.handle ++ [c.cell, 0, 0, 0]) | none => a
      else match a.n.portOfDie c.die with
        | none => a
        | some p =>
          if st = 5 && (a.jobA j).scrubbed.contains p then
            let ms := c.inCell / 1000000
            let a := a.on fun n => n.emit c.jobtag 2 0x18 0x0008 0 (le 4 c.handle ++ le 4 c.die ++ le 2 c.unit ++ [c.cell, c.outcome] ++ le 4 c.tiles ++
              le 4 c.bad ++ le 4 ms)
            let a := a.on fun n => (n.opChange c.handle fun o => { o with kstate := 6, state := 2, final := if c.outcome = 4 then stCancelled else stOk,
                                                                           outcome := c.outcome, cs := [c.tiles, c.bad, ms, 0], ended := n.local })
            let a := a.onVer fun v => { v with camps := v.camps.filter fun x => x.handle != c.handle }
            let s := a.serialAt p
            if c.outcome = 1 then
              let f : FailX := { id := a.ver.nextId, kind := 4, jobtag := c.jobtag, epoch := 0, attempt := 0, die := c.die, unit := c.unit, cell := c.cell, locus := 1,
                                 cls := 2, time := a.n.tideline, began := a.n.local }
              let a := a.addCellFail s f
              let a := a.onTab fun t => (t.putCell { t.cell s c.unit c.cell with reproduced := true }).onDie s fun m => { m with campaigns := m.campaigns + 1 }
              let a := (a.failureEntry f s).sign f
              let a := if bits (a.n.rd Reg.ABL_VER_UNITS p) (2 * c.unit) 2 = 0 then a.setUnit c.die c.unit 1 c.cell 1 else a
              ((a.classActs f).provenFaulty p c.die c.jobtag).unitWords p
            else
              let day := a.n.ltime / 86400
              a.onTab fun t =>
                let r := t.cell s c.unit c.cell
                t.putCell { r with expose := bindKey r.expose day (lookupD r.expose day 0 + c.good) }
          else a) a

/-- The unit has been in the target cell for 10 ms (R414). -/
def Abl.campDwell (a : Abl) (h : Nat) : Abl :=
  match a.ver.camps.find? fun c => c.handle == h with
  | some c =>
    if a.campSt c = 2 then
      (a.putCamp { c with tested := true, cellSince := some (a.n.local - 10000000) }).on fun n => n.opChange h fun o => { o with kstate := 3 }
    else a
  | none => a

/-- The unit leaves the target cell (R414). -/
def Abl.campLeave (a : Abl) (h : Nat) : Abl :=
  match a.ver.camps.find? fun c => c.handle == h with
  | some c => if a.campSt c = 3 then (a.putCamp (c.outOfCell a.n.local)).on fun n => n.opChange h fun o => { o with kstate := 2 } else a
  | none => a

/-- The time limit is reached (R414). -/
def Abl.campLimit (a : Abl) (h : Nat) : Abl :=
  match a.ver.camps.find? fun c => c.handle == h with
  | some c =>
    let spent := c.used + (match c.runs with | some t => a.n.local - t | none => 0)
    let st := a.campSt c
    if (st = 2 || st = 3) && decide (c.limit * 1000000000 ≤ spent) then a.campEnd c (if c.tested then 2 else 3) else a
  | none => a

/-- SUSPEND, RESUME and CANCEL of a campaign (R414, R618): whether the state took it. -/
def Abl.campOp (a : Abl) (h what : Nat) : Abl × Bool :=
  match a.ver.camps.find? fun c => c.handle == h with
  | none => (a, false)
  | some c =>
    let st := a.campSt c
    match what with
    | 0 =>
      if st = 2 || st = 3 then
        let a := (a.putCamp ((c.outOfCell a.n.local).pause a.n.local)).on fun n => n.opChange h fun o => { o with kstate := 4, state := 1 }
        (match a.n.portOfDie c.die with | some p => a.on fun n => n.dieCmd p 0x100D (le 4 h ++ [0xFF, 0, 0, 0]) | none => a, true)
      else (a, false)
    | 1 =>
      if st = 4 then
        let a := (a.putCamp { c with runs := some a.n.local }).on fun n => n.opChange h fun o => { o with kstate := 2, state := 0 }
        (match a.n.portOfDie c.die with | some p => a.on fun n => n.dieCmd p 0x100D (le 4 h ++ [c.cell, 0, 0, 0]) | none => a, true)
      else (a, false)
    | _ => if st ≤ 4 then (a.campEnd c 4, true) else (a, false)

end Sys2Proof.Machine
end

