-- ==== Sys2Proof/Machine/ShareOps.lean ====
section
/-!
DEFINITION. Arithmetic and transport of shares (R428 to R435, R444 to R447): GF(2^8), containers, rings, streams, and SHARE messages.
-/

namespace Sys2Proof.Machine

/-! ## GF(2^8) (R432) -/

/-- Multiply by x modulo 0x11D. -/
def gfDouble (a : Nat) : Nat := if 128 ≤ a then (2 * a) ^^^ 0x11D else 2 * a

/-- The product. -/
def gfMul (a b : Nat) : Nat :=
  ((List.range 8).foldl (fun (p : Nat × Nat) i => (gfDouble p.1, if bit b i then p.2 ^^^ p.1 else p.2)) (a % 256, 0)).2

/-- The inverse of a nonzero element. -/
def gfInv (a : Nat) : Nat := ((List.range 256).find? fun x => gfMul a x == 1).getD 0

/-- c(j, i). (DESIGN CHOICE: log 63.) -/
def rsCoef (j i : Nat) : Nat := gfInv (j ^^^ (0x10 + i))

/-- A stream times a coefficient. -/
def gfScale (c : Nat) (l : List Nat) : List Nat := l.map (gfMul c)

/-- The sum of two streams, the shorter read as zero beyond its end. -/
def xorLong (a b : List Nat) : List Nat := (List.range (max a.length b.length)).map fun x => a.getD x 0 ^^^ b.getD x 0

/-- One step of elimination on the rows of a matrix: column `k` becomes that of the identity. -/
def gfPivot (rows : List (List Nat)) (k : Nat) : List (List Nat) :=
  let p := rows.getD k []
  let p := gfScale (gfInv (p.getD k 0)) p
  rows.mapIdx fun i r => if i = k then p else xorLong r (gfScale (r.getD k 0) p)

/-- The inverse of a square part of the Cauchy matrix of R432, whose leading parts are never singular. -/
def gfInvert (rows : List (List Nat)) : List (List Nat) :=
  let k := rows.length
  let wide := rows.mapIdx fun i r => r ++ (List.range k).map fun c => b2n (c == i)
  ((List.range k).foldl gfPivot wide).map fun r => r.drop k

/-- The streams of lost members from what the shards hold less what the survivors give (R432, R441): `shards` and `lost` in step with `syns`. -/
def gfSolve (shards lost : List Nat) (syns : List (List Nat)) : List (List Nat) :=
  (gfInvert (shards.map fun j => lost.map fun m => rsCoef j m)).map fun row => (row.zip syns).foldl (fun acc p => xorLong acc (gfScale p.1 p.2)) []

/-! ## Containers (R446) -/

/-- Cut a list into pieces of `k`. -/
def pieces (k : Nat) : Nat → List Nat → List (List Nat)
  | 0, _ => []
  | _, [] => []
  | fuel + 1, l => l.take k :: pieces k fuel (l.drop k)

/-- A block stored as DEFLATE blocks of at most 65,535 bytes. -/
def storedStream (b : List Nat) : List Nat :=
  let ps := pieces 65535 (b.length + 1) b
  (ps.zipIdx.map fun p => [b2n (p.2 + 1 == ps.length)] ++ le 2 p.1.length ++ le 2 (65535 - p.1.length) ++ p.1).flatten

/-- The stream of a block: stored where that is not longer. -/
def blockStream (op : Nat) (b : List Nat) : List Nat :=
  let z := Config.deflateOp op b
  let s := storedStream b
  if z.length < s.length then z else s

/-- A container. (DESIGN CHOICE: log 63.) -/
def container (op size : Nat) (bytes : List Nat) : List Nat :=
  let ss := (pieces size (bytes.length + 1) bytes).map (blockStream op)
  le 4 0x31424D43 ++ le 4 size ++ le 8 bytes.length ++ ss.flatMap (fun s => le 4 s.length) ++ ss.flatten

/-- Inflate block streams: lengths, what is left of ORIG_LEN, and the bytes. -/
def unblock (size : Nat) : List Nat → Nat → List Nat → Option (List Nat)
  | [], left, rest => if left = 0 && rest.isEmpty then some [] else none
  | k :: ks, left, rest =>
    if rest.length < k then none
    else match inflate (rest.take k) true with
      | none => none
      | some b =>
        if b.length ≠ min size left then none
        else match unblock size ks (left - b.length) (rest.drop k) with
          | some t => some (b ++ t)
          | none => none

/-- The bytes of a container, none when it is malformed (R447). -/
def uncontain (c : List Nat) : Option (List Nat) :=
  let size := leAt c 4 4
  let orig := leAt c 8 8
  let nb := (orig + size - 1) / size
  if c.length < 16 || leAt c 0 4 != 0x31424D43 || size == 0 || decide (c.length < 16 + 4 * nb) then none
  else unblock size ((List.range nb).map fun i => leAt c (16 + 4 * i) 4) orig (c.drop (16 + 4 * nb))

/-! ## The ring (R431) -/

/-- A field of ABL_SEC_RING. -/
def Node.ring (n : Node) (lo w : Nat) : Nat := n.fld Reg.ABL_SEC_RING 0 lo w
def Node.ringValid (n : Node) : Bool := n.bit Reg.ABL_SEC_RING 0 127
def Node.ringP (n : Node) : Nat := n.ring 124 3
def Node.ringG (n : Node) : Nat := n.ring 120 4
def Node.ringSucc (n : Node) : Nat := n.ring 80 20
def Node.ringPred (n : Node) : Nat := n.ring 60 20
def Node.ringLen (n : Node) : Nat := n.ring 32 14
def Node.ringPos (n : Node) : Nat := n.ring 0 14

/-- The first position of this tray's group, its member number, and the position of holder `j` of the group that begins at `base`. -/
def Node.groupBase (n : Node) : Nat := n.ringPos / n.ringG * n.ringG
def Node.memberNo (n : Node) : Nat := n.ringPos % n.ringG
def Node.holderPos (n : Node) (base j : Nat) : Nat := (base + n.ringG + j) % n.ringLen

/-- The identity at a ring position. -/
def Node.ringIdent (n : Node) (pos : Nat) : Nat :=
  if pos = n.ringPos then n.ident
  else if pos = (n.ringPos + 1) % n.ringLen then n.ringSucc
  else if (pos + 1) % n.ringLen = n.ringPos then n.ringPred
  else Config.ringNode pos

/-- The peer lane toward the successor (ports 20, 21) or the predecessor (22, 23) that a SECURE message takes (R193, R431). -/
def Node.peerPort (n : Node) (succ : Bool) : Nat :=
  let base := if succ then 20 else 22
  let p := base + n.ident % 2
  let q := base + (n.ident + 1) % 2
  if n.portUp p || !n.portUp q then p else q

/-- SHARE_DATA's payload (R451). -/
def shareBytes (jobtag cut tensor kind i j origin offset flags crc : Nat) (data : List Nat) : List Nat :=
  le 4 jobtag ++ le 4 cut ++ [tensor, kind, i, j] ++ le 4 origin ++ le 8 offset ++ [flags, 0, 0, 0] ++ le 4 crc ++ data

/-- Send a stream of SHARE_DATA to a neighbour. -/
def Abl.sendShare (a : Abl) (succ : Bool) (jobtag cut tensor kind i j origin : Nat) (bytes : List Nat) (isCont : Bool := false) : Abl :=
  let k := max 1 ((bytes.length + 4047) / 4048)
  a.on fun n =>
    let port := n.peerPort succ
    let dest := if succ then n.ringSucc else n.ringPred
    (List.range k).foldl (fun n x =>
      let last := x + 1 == k
      n.postAt port dest 4 0x19 0x0003 642
        (shareBytes jobtag cut tensor kind i j origin (4048 * x) (b2n last + 2 * b2n isCont) (if last then crc32c bytes else 0)
          ((bytes.drop (4048 * x)).take 4048)) 0 jobtag) n

/-- A securing record toward a node, which may be this one (R434, R451). -/
def Abl.secPostTo (a : Abl) (dest jobtag cls code : Nat) (payload : List Nat) : Abl :=
  if dest % 2 ^ 20 = a.n.ident then a.on fun n => { n with due := n.due ++ [React.secMsg n.ident code payload] }
  else a.on fun n => n.postTo jobtag (dest % 2 ^ 20) cls 0x19 code 642 payload

/-- A securing frame without a TYPE: 0x100 abandon, 0x101 release and scrub, 0x102 RESTORE_DONE, 0x103 release, 0x104 RESTORE off the job's tree,
0x105 and 0x106 the reads of a cut are held and go on, 0x107 and 0x108 the share transfers of a restore are held and go on. (DESIGN CHOICE: log 62.) -/
def Abl.secFrame (a : Abl) (dest jobtag code : Nat) (args : List Nat) : Abl :=
  if dest % 2 ^ 20 = a.n.ident then a.on fun n => { n with due := n.due ++ [React.secMsg n.ident code (args.flatMap (le 8))] }
  else a.on fun n => n.routeMsg jobtag (n.mkMsg (dest % 2 ^ 20) 0 (.frame (if code = 0x102 then .secureDone else .secureStop) (code :: args) []))

/-! ## Shares held (R435) -/

/-- Change what is held. -/
def Abl.onSec (a : Abl) (f : SecX → SecX) : Abl := { a with sec := f a.sec }

/-- Bytes rounded up to MiB. (DESIGN CHOICE: log 62.) -/
def mib (k : Nat) : Nat := (k + 2 ^ 20 - 1) / 2 ^ 20

/-- Bytes held. -/
def Abl.shareUsed (a : Abl) : Nat := (a.sec.shares.map fun x => x.bytes.length).sum

/-- ABL_SEC_USED_MIB and SHARE_MIB (R455, R456). -/
def Abl.secView (a : Abl) : Abl :=
  let used := mib a.shareUsed
  a.on fun n => (List.range 64).foldl (fun n j =>
    let t := n.fld Reg.ABL_SEC_JOB j 216 32
    if t = 0 then n
    else n.setFld Reg.ABL_SEC_JOB j 32 32 (mib ((a.sec.shares.filter fun x => x.jobtag == t).map fun x => x.bytes.length).sum))
    (n.wr Reg.ABL_SEC_USED_MIB 0 used)

/-- Whether two shares are parts of one stream. -/
def ShareX.same (x y : ShareX) : Bool :=
  x.jobtag == y.jobtag && x.cut == y.cut && x.tensor == y.tensor && x.kind == y.kind && x.shard == y.shard && x.origin == y.origin && x.gen == y.gen

/-- The share of a stream. -/
def Abl.share (a : Abl) (y : ShareX) : ShareX := (a.sec.shares.find? fun x => x.same y).getD y

/-- Replace it. -/
def Abl.putShare (a : Abl) (y : ShareX) : Abl := (a.onSec fun s => { s with shares := y :: s.shares.filter fun x => !x.same y }).secView

/-- Drop shares. -/
def Abl.dropShares (a : Abl) (p : ShareX → Bool) : Abl := (a.onSec fun s => { s with shares := s.shares.filter fun x => !p x }).secView

/-- A share that is complete: with one CRC-32C for every 64 KiB (R444). -/
def ShareX.close (x : ShareX) : ShareX := { x with complete := true, crcs := (pieces 65536 (x.bytes.length + 1) x.bytes).map crc32c }

/-- The bytes of a share's stream, out of its container. -/
def ShareX.stream (x : ShareX) : List Nat := if x.container then (uncontain x.bytes).getD [] else x.bytes

end Sys2Proof.Machine
end

