-- ==== Sys2Proof/Machine/ManifestOps.lean ====
section
/-!
DEFINITION. Tensor 255 of a cut, the manifest, and the tray streams that it describes (R428).  The spec names what the manifest holds and not how; the
layout is the model's, and it holds the method of each tensor beside what R428 names. (DESIGN CHOICE: log 65.)
-/

namespace Sys2Proof.Machine

/-- A tensor of a die in the manifest: TENSOR_ID, method, VERSION, length, and offset in the tray stream. -/
structure ManTensor where
  tensor : Nat
  method : Nat
  version : Nat
  len : Nat
  off : Nat
  deriving DecidableEq, Repr

/-- The bytes that a length takes in a tray stream: a multiple of 4 KiB. -/
def pad4k (k : Nat) : Nat := (k + 4095) / 4096 * 4096

/-- Member die ports of a job. -/
def Abl.memberPorts (a : Abl) (t : Nat) : List Nat := (((a.members t).map fun m => m.1).filter fun c => decide (c < 16)).mergeSort

/-- The instances of a tensor that the members posted, in ascending die port: port, changed, VERSION and length. -/
def CutX.posted (x : CutX) (t : Nat) : List (Nat × Bool × Nat × Nat) :=
  (x.done.mergeSort fun d e => decide (d.1 ≤ e.1)).flatMap fun d => (d.2.filter fun e => e.1 == t).map fun e => (d.1, e.2)

/-- What the manifest says of a member die's tensors. -/
def CutX.dieTensors (x : CutX) (port : Nat) : List ManTensor :=
  ((x.done.filter fun d => d.1 == port).flatMap fun d => d.2).map fun e =>
    { tensor := e.1, method := x.methods.getD e.1 0, version := e.2.2.1, len := e.2.2.2
      off := (((x.posted e.1).filter fun y => decide (y.1 < port)).map fun y => pad4k y.2.2.2).sum }

/-- One tensor as 24 bytes. -/
def ManTensor.bytes (m : ManTensor) : List Nat := [m.tensor, m.method, 0, 0] ++ le 4 m.version ++ le 8 m.len ++ le 8 m.off

/-- The rank of a die in a job's runs (R265), or all ones. -/
def Node.rankOf (n : Node) (j die : Nat) : Nat :=
  match (List.range 1024).find? fun k => n.bit Reg.ABL_RANKMAP k 127 && n.fld Reg.ABL_RANKMAP k 112 6 == j &&
      decide (n.fld Reg.ABL_RANKMAP k 32 17 ≤ die) && decide (die < n.fld Reg.ABL_RANKMAP k 32 17 + n.fld Reg.ABL_RANKMAP k 64 18) with
  | some k => n.fld Reg.ABL_RANKMAP k 0 17 + (die - n.fld Reg.ABL_RANKMAP k 32 17)
  | none => ones 32

/-- The sections Tray, Job, Groups and Rank map. -/
def Node.manifestHead (n : Node) (j : Nat) : List Nat :=
  let gs := (List.range 512).filter fun g => n.bit Reg.ABL_GROUP g 255 && n.fld Reg.ABL_GROUP g 240 6 == j
  let ks := (List.range 1024).filter fun k => n.bit Reg.ABL_RANKMAP k 127 && n.fld Reg.ABL_RANKMAP k 112 6 == j
  let held := if n.ringValid && decide (2 ≤ n.ringG) && decide (n.memberNo < n.ringP) then (n.groupBase + n.ringLen - n.ringG) % n.ringLen else ones 32
  le 4 n.ident ++ le 16 (n.rd Reg.ABL_SEC_RING) ++ le 4 held ++ le 4 n.parent.primary ++ le 4 n.parent.alternate ++ le 16 (n.rd Reg.ABL_JOB j) ++
    le 2 gs.length ++ (gs.flatMap fun g => le 32 (n.rd Reg.ABL_GROUP g) ++ le 128 (n.rd Reg.ABL_GROUP_EXP g)) ++
    le 2 ks.length ++ ks.flatMap fun k => le 16 (n.rd Reg.ABL_RANKMAP k)

/-- One die of the section Dies. -/
def Abl.manifestDie (a : Abl) (x : CutX) (j port : Nat) : List Nat :=
  let die := a.n.dieOf port
  let ts := x.dieTensors port
  let gate := Config.memberPair x.jobtag
  le 4 die ++ le 4 (a.n.rankOf j die) ++ (List.range 3).flatMap (fun k => le 8 (Config.diePeer die k)) ++ le 4 gate ++ le 4 (gate + 1) ++ le 2 ts.length ++
    ts.flatMap ManTensor.bytes

/-- The manifest of a tray's cut: the length of the sections before Dies, those sections, the number of dies, and the dies. -/
def Abl.manifest (a : Abl) (x : CutX) : List Nat :=
  let j := (a.n.jobSlot x.jobtag).getD 0
  let ports := a.memberPorts x.jobtag
  let head := a.n.manifestHead j
  le 4 head.length ++ head ++ le 2 ports.length ++ ports.flatMap (a.manifestDie x j)

/-- The dies of a manifest with their tensors, read from the section Dies. -/
def manifestWalk : Nat → List Nat → List (Nat × List ManTensor)
  | 0, _ => []
  | k + 1, l =>
    let c := leAt l 40 2
    let ts := (List.range c).map fun i =>
      let o := 42 + 24 * i
      { tensor := leAt l o 1, method := leAt l (o + 1) 1, version := leAt l (o + 4) 4, len := leAt l (o + 8) 8, off := leAt l (o + 16) 8 }
    (leAt l 0 4, ts) :: manifestWalk k (l.drop (42 + 24 * c))

/-- The dies of a manifest. -/
def manifestDies (m : List Nat) : List (Nat × List ManTensor) :=
  let rest := m.drop (4 + leAt m 0 4)
  manifestWalk (leAt rest 0 2) (rest.drop 2)

/-- What a manifest says of a tensor of a die: length 0 where it has none. -/
def manifestInst (m : List Nat) (die t : Nat) : ManTensor :=
  let none_ : ManTensor := { tensor := t, method := 3, version := 0, len := 0, off := 0 }
  match (manifestDies m).find? fun d => d.1 == die with
  | some d => (d.2.find? fun x => x.tensor == t).getD none_
  | none => none_

/-- The methods of a manifest's tensors; those it does not have are NONE. -/
def manifestMethods (m : List Nat) : List Nat :=
  let ts := (manifestDies m).flatMap fun d => d.2
  (List.range 240).map fun t => match ts.find? fun x => x.tensor == t with | some x => x.method | none => 3

/-- The tray stream of a tensor (R428): in a cut the members' instances; in a restore those that the surviving dies still hold, each at its place, with
zeros for the rest (R441, R442). -/
def Abl.stream (a : Abl) (x : CutX) (t : Nat) : List Nat :=
  if t = 255 then x.manifest
  else if x.restore then
    let inst (die : Nat) : List Nat := match a.n.portOfDie die with
      | some p => ((x.insts.find? fun i => i.port == p && i.tensor == t && i.ok).map fun i => i.bytes).getD []
      | none => []
    let ds := (manifestDies (lookupD a.sec.manifests x.jobtag [])).flatMap fun d => (d.2.filter fun y => y.tensor == t).map fun y => (d.1, y)
    (ds.mergeSort fun d e => decide (d.2.off ≤ e.2.off)).flatMap fun d => padTo (pad4k d.2.len) ((inst d.1).take d.2.len)
  else ((x.insts.filter fun i => i.tensor == t).mergeSort fun i j => decide (i.port ≤ j.port)).flatMap fun i => padTo (pad4k i.bytes.length) i.bytes

end Sys2Proof.Machine
end

