-- ==== Sys2Proof/Machine/SecOps.lean ====
section
/-!
DEFINITION. Securing at a sentinel (R423 to R443): the root's pass, a tray's part of a cut, shares of holders, and restores.
-/

namespace Sys2Proof.Machine

/-! ## Jobs -/

/-- A field of ABL_SEC_JOB of a JobTag. -/
def Node.secFld (n : Node) (t lo w : Nat) : Nat := match n.jobSlot t with | some j => n.fld Reg.ABL_SEC_JOB j lo w | none => 0

/-- Write it. -/
def Node.setSec (n : Node) (t lo w v : Nat) : Node := match n.jobSlot t with | some j => n.setFld Reg.ABL_SEC_JOB j lo w v | none => n

/-- PASS of a job: 0 IDLE, 1 CUTTING, 2 SUSPENDED, 3 COMMITTING, 4 CANCELLING, 5 RESTORING. -/
def Abl.passSt (a : Abl) (t : Nat) : Nat := a.n.secFld t 253 3

/-- Whether this node is the job's securing root (R423). -/
def Abl.isRoot (a : Abl) (t : Nat) : Bool := match a.n.jobSlot t with | some j => (a.jobA j).root % 2 ^ 20 == a.n.ident | none => false

/-- What the root keeps of a job. -/
def Abl.root (a : Abl) (t : Nat) : RootX := (a.sec.roots.find? fun r => r.jobtag == t).getD { jobtag := t }

/-- Replace it. -/
def Abl.putRoot (a : Abl) (r : RootX) : Abl := a.onSec fun s => { s with roots := r :: s.roots.filter fun x => x.jobtag != r.jobtag }

/-- The ranges of a job. -/
def Abl.jobRanges (a : Abl) (t : Nat) : List (Nat × Nat) := match a.n.jobSlot t with | some j => (a.jobA j).ranges | none => []

/-- The trays of ranges: their identities (R193). -/
def traysOf (rs : List (Nat × Nat)) : List Nat :=
  (rs.flatMap fun r => (List.range (r.2 / 16 + 1 - r.1 / 16)).map fun k => 2 ^ 17 + (r.1 / 16 + k)).eraseDups

/-- Originate a fan-out of a KIND to every member of a job, 32 ranges at a time (R239). -/
def Abl.jobFan (a : Abl) (t kind : Nat) (body : List Nat) : Abl :=
  let rs := a.jobRanges t
  (List.range ((rs.length + 31) / 32)).foldl (fun a i =>
    a.fanOwe { jobtag := t, seq := 0, kind := kind, deadline := 0, ranges := (rs.drop (32 * i)).take 32, body := body }) a

/-- Whether a fan-out that this node originates for a job is under way, or waits for a buffer. -/
def Abl.fanOut (a : Abl) (t : Nat) : Bool := (a.fans.any fun x => x.msg.jobtag == t && x.root.isSome) || a.red.owed.any fun m => m.jobtag == t

/-! ## The pass at the root (R430, R436) -/

/-- The resolved method of a tensor (R430): 0 REPLICA, 1 PARITY, 3 NONE; the root knows that the rings have groups from its own ring, or from a holder of
shard 0 that a tray named. -/
def Abl.method (a : Abl) (r : RootX) (t : Nat) : Nat :=
  let chg := 16 - (r.changed.take 16).length + ((r.changed.take 16).filter fun l => l.contains t).length
  let groups := (a.n.ringValid && decide (2 ≤ a.n.ringG)) || r.last.any fun p => leAt p.2 1012 4 != 0
  if r.forced.any fun f => f.1 == t && decide (0 < f.2) then 0
  else match r.policy.getD t 0 with
    | 1 => 0
    | 2 => 1
    | 3 => 3
    | _ => if groups && r.known.contains t && decide (a.n.fld Reg.ABL_SEC_POLICY 0 0 20 ≤ r.mib.getD t 0) && decide (chg ≤ a.n.fld Reg.ABL_SEC_POLICY 0 20 4) then 1 else 0

/-- SECURE_CUT's body (R452). -/
def cutBody (cut epoch : Nat) (ms : List Nat) : List Nat :=
  le 4 cut ++ le 4 epoch ++ le 60 ((ms.zipIdx.map fun p => p.1 % 4 * 4 ^ p.2).sum) ++ zeros 4

/-- A change of the pass (R436): PASS, and the operation's KSTATE and counters. -/
def Abl.passNote (a : Abl) (t st : Nat) : Abl :=
  let h := a.n.secFld t 0 32
  let r := a.root t
  a.on fun n => (n.setSec t 253 3 st).opChange h fun o =>
    { o with kstate := st, state := if st = 2 then 1 else 0, cs := [r.trays.length, Config.passBytes t (n.secFld t 152 32), (n.local - r.began - r.held) / 1000000, 0] }

/-- Start a pass (R424, R436): E_c follows the newest e_r, or where no request has come since a restore the committed cut's epoch. (DESIGN CHOICE: log 62.) -/
def Abl.passStart (a : Abl) (t : Nat) : Abl :=
  let r := a.root t
  if a.passSt t ≠ 0 || !a.isRoot t || !a.n.bit Reg.ABL_SEC_CTRL 0 0 || (a.n.verdictGroup t).isNone then a.putRoot { r with noted := true }
  else match a.n.opStart 2 255 t 1 with
    | (none, n) => ({ a with n := n } : Abl).putRoot { r with noted := true }
    | (some h, n) =>
      let a : Abl := { a with n := n }
      let margin := min 16 (max 3 (a.n.fld Reg.ABL_SEC_POLICY 0 24 8) + r.extra)
      let margin := if r.extra = 0 then max 3 (a.n.fld Reg.ABL_SEC_POLICY 0 24 8) else margin
      let ec := (r.er.getD r.epoch + margin) % 2 ^ 32
      let ms := (List.range 240).map (a.method r)
      let a := a.putRoot { r with next := r.next + 1, noted := false, lost := false, began := a.n.local, held := 0, trays := [], methods := ms,
                                  outcome := 0, acks := [] }
      let a := a.on fun n => ((n.setSec t 152 32 r.next).setSec t 88 32 ec).setSec t 0 32 h
      let a := a.on fun n => match n.op h with | some o => (n.setSec t 253 3 1).opNote o 0 | none => n
      a.jobFan t 0x10 (cutBody r.next ec ms)

/-- Whether CUT_MIN_MS has passed since the last commit. -/
def Abl.cutDue (a : Abl) (r : RootX) : Bool :=
  match r.commitAt with
  | some c => decide (c + a.n.rd Reg.ABL_SEC_CUT_MIN_MS * 1000000 ≤ a.n.local)
  | none => true

/-- The holders and successors that TRAY_CUT_DONE payloads name (R451). -/
def holdersOf (ps : List (Nat × List Nat)) : List Nat :=
  ((ps.flatMap fun p => (List.range 5).map fun k => leAt p.2 (1008 + 4 * k) 4).filter fun x => x != 0).eraseDups

/-- Holders off the job's data-tree paths (R449). (DESIGN CHOICE: log 62.) -/
def Abl.offHolders (a : Abl) (t : Nat) (ps : List (Nat × List Nat)) : List Nat :=
  let trays := traysOf (a.jobRanges t)
  (holdersOf ps).filter fun h => !trays.contains h

/-- Cancel a pass with an outcome of CUT_RESULT and a cause for SECURE_ABANDON (R436); a job's end and a RESTORE also cancel one that is
COMMITTING (R439). (DESIGN CHOICE: log 62.) -/
def Abl.passCancel (a : Abl) (t outcome cause : Nat) (late : Bool := false) : Abl :=
  if a.passSt t ≠ 1 && a.passSt t ≠ 2 && !(late && a.passSt t == 3) then a
  else
    let r := a.root t
    let cut := a.n.secFld t 152 32
    let off := a.offHolders t r.trays
    let a := (a.putRoot { r with outcome := outcome, acks := off }).passNote t 4
    let a := a.jobFan t 0x12 (le 4 cut ++ [cause, 0, 0, 0])
    off.foldl (fun a h => a.secFrame h t 0x100 [t, cut, a.n.ident]) a

/-- CUT_RESULT (R451). -/
def Abl.cutResult (a : Abl) (t outcome : Nat) : Abl :=
  let r := a.root t
  a.on fun n => n.emit t 1 0x19 0x0008 642 (le 4 t ++ le 4 (n.secFld t 152 32) ++ le 4 (n.secFld t 88 32) ++ [outcome, 0, 0, 0] ++
    le 4 ((n.local - r.began - r.held) / 1000000) ++ le 4 r.trays.length ++ le 8 (Config.passBytes t (n.secFld t 152 32)))

/-- The pass ends (R436): IDLE, with its operation. -/
def Abl.passEnd (a : Abl) (t outcome status : Nat) : Abl :=
  let h := a.n.secFld t 0 32
  let r := a.root t
  let a := a.cutResult t outcome
  let ms := (a.n.local - r.began - r.held) / 1000000
  a.on fun n => (((n.setSec t 253 3 0).setSec t 0 32 0).opEnd h status outcome
    [r.trays.length, Config.passBytes t (n.secFld t 152 32), ms, 0])

/-- The changed bits of a TRAY_CUT_DONE. -/
def trayBits (p : List Nat) : Nat := leAt p 16 32

/-- Whether the changed bits of each PARITY tensor agree within every group: trays of one group name one holder of shard 0. -/
def disagrees (r : RootX) : Option Nat :=
  (List.range 240).find? fun t => r.methods.getD t 0 == 1 &&
    r.trays.any fun x => r.trays.any fun y => leAt x.2 1012 4 == leAt y.2 1012 4 && bit (trayBits x.2) t != bit (trayBits y.2) t

/-- The registrations of a job's groups as fan-outs (R441), for a new JobTag. (DESIGN CHOICE: log 62.) -/
def Abl.groupMsgs (a : Abl) (t : Nat) : List FanMsg :=
  match a.n.jobSlot t with
  | none => []
  | some j => ((List.range 512).filter fun g => a.n.bit Reg.ABL_GROUP g 255 && a.n.fld Reg.ABL_GROUP g 240 6 == j).map fun g =>
      { jobtag := t, seq := 0, kind := 3, deadline := 0, ranges := lookupD a.groupRanges g [],
        body := le 2 (a.n.fld Reg.ABL_GROUP g 224 16) ++ le 2 (b2n (a.n.bit Reg.ABL_GROUP g 254)) ++ le 4 (a.n.fld Reg.ABL_GROUP g 160 32) }

/-- Every tray is done (R436): commit, or cancel when the trays of a group disagree. -/
def Abl.passCommit (a : Abl) (t : Nat) : Abl :=
  let r := a.root t
  match disagrees r with
  | some k => (a.putRoot { r with forced := (k, 16) :: r.forced.filter fun f => f.1 != k }).passCancel t 6 0
  | none =>
    let cut := a.n.secFld t 152 32
    let ec := a.n.secFld t 88 32
    let a := (a.onTab fun tab => { tab with cuts := bindKey tab.cuts t cut }).hsTable 3
    let hs := holdersOf r.trays
    let a := (a.putRoot { r with acks := hs }).passNote t 3
    let a := a.jobFan t 0x11 (le 4 cut ++ le 4 ec)
    hs.foldl (fun a h => a.secPostTo h t 0 7 (le 4 t ++ le 4 cut ++ le 4 ec ++ zeros 4)) a

/-- TRAY_CUT_DONE reaches the root (R436). (DESIGN CHOICE: log 62.) -/
def Abl.trayCutDone (a : Abl) (origin : Nat) (p : List Nat) : Abl :=
  let t := leAt p 0 4
  let st := a.passSt t
  if !a.isRoot t || leAt p 4 4 ≠ a.n.secFld t 152 32 || !(st == 1 || st == 2) then a
  else match leAt p 10 1 with
    | 0 =>
      let r := a.root t
      let a := a.putRoot { r with trays := (origin, p) :: r.trays.filter fun x => x.1 != origin }
      let all := (traysOf (a.jobRanges t)).all fun x => (a.root t).trays.any fun y => y.1 == x
      if all && st == 1 then a.passCommit t else a
    | c => a.passCancel t (match c with | 1 => 5 | 2 => 3 | 3 => 4 | _ => 7) c

/-- What the root takes up once the pass is over or a time has come (R436, R439, R440). -/
def Abl.rootSweep (a : Abl) (t : Nat) : Abl :=
  let r := a.root t
  let cut := a.n.secFld t 152 32
  let limit := a.n.rd Reg.ABL_SEC_PASS_LIMIT_MS
  match a.passSt t with
  | 0 =>
    if !r.reqs.isEmpty && r.reqs.all r.neaps.contains then
      let off := a.offHolders t r.last
      let a := (a.jobFan t 0x13 (zeros 8)).putRoot { r with reqs := [], neaps := [], noted := false, cutId := 0, last := [], changed := [], mib := [], known := [] }
      off.foldl (fun a h => a.secFrame h t 0x103 [t]) a
    else if r.lost || (r.noted && a.cutDue r) then a.passStart t else a
  | 1 =>
    if limit = 0 then a.passCancel t 7 0
    else if !(traysOf (a.jobRanges t)).isEmpty && (traysOf (a.jobRanges t)).all (fun x => r.trays.any fun y => y.1 == x) then a.passCommit t
    else a
  | 3 =>
    if a.fanOut t || !r.acks.isEmpty then a
    else
      let ec := a.n.secFld t 88 32
      let bits := (List.range 240).filter fun k => r.trays.any fun x => bit (trayBits x.2) k
      let mibs := (List.range 240).map fun k => (r.trays.map fun x => leAt x.2 (48 + 4 * k) 4).foldl max 0
      let a := a.passEnd t 1 stOk
      let j := (a.n.jobSlot t).getD 0
      let x := a.jobA j
      let a := a.putRoot { r with commitAt := some a.n.local, changed := (bits :: r.changed).take 16, mib := mibs, extra := 0, last := r.trays,
                                  forced := (r.forced.map fun f => (f.1, f.2 - 1)).filter fun f => f.2 != 0, cutId := cut, epoch := ec,
                                  done := r.methods, known := (r.known ++ bits).eraseDups,
                                  ranges := x.ranges, ranks := x.ranks, flags := x.flags, groups := a.groupMsgs t }
      a.on fun n => (((n.setSec t 184 32 cut).setSec t 120 32 ec).setSec t 152 32 0).setSec t 88 32 0
  | 4 =>
    if a.fanOut t || !r.acks.isEmpty then a
    else
      let a := a.passEnd t r.outcome (if r.outcome = 2 then stCancelled else stInternal)
      let a := a.on fun n => (n.setSec t 152 32 0).setSec t 88 32 0
      if r.outcome = 3 || r.outcome = 4 then
        (a.putRoot { r with extra := min (r.extra + 2) (16 - min 16 (max 3 (a.n.fld Reg.ABL_SEC_POLICY 0 24 8))), noted := true }).passStart t
      else a
  | _ => a

/-- SECURE_REQUEST reaches the root (R424, R436, R439, R440). -/
def Abl.requestRx (a : Abl) (origin : Nat) (p : List Nat) : Abl :=
  let t := leAt p 0 4
  let er := leAt p 4 4
  let r := a.root t
  if !a.isRoot t then a
  else if leAt p 8 1 = 0 then (a.putRoot { r with neaps := (origin :: r.neaps).eraseDups }).rootSweep t
  else
    let newest := match r.er with
      | some x => if 0 < dist32 er x then er else x
      | none => er
    let r := { r with reqs := (origin :: r.reqs).eraseDups, neaps := r.neaps.filter fun x => x != origin, er := some newest }
    if a.passSt t = 0 && a.cutDue r then (a.putRoot r).passStart t else a.putRoot { r with noted := true }

/-- SHARES_LOST reaches the root (R435): a pass starts at once, or after the one that runs. -/
def Abl.sharesLostRx (a : Abl) (p : List Nat) : Abl :=
  let t := leAt p 0 4
  if a.isRoot t then (a.putRoot { a.root t with lost := true }).rootSweep t else a

/-- PASS_LIMIT_MS since the fan-out (R436); the time a pass was suspended does not count. (DESIGN CHOICE: log 62.) -/
def Abl.passLimit (a : Abl) : Abl :=
  a.sec.roots.foldl (fun a r =>
    if a.passSt r.jobtag = 1 && decide (r.began + r.held + a.n.rd Reg.ABL_SEC_PASS_LIMIT_MS * 1000000 ≤ a.n.local) then
      (a.passCancel r.jobtag 7 0).rootSweep r.jobtag else a) a

/-- Tell every member tray that the reads of a cut are held, 0x105, or go on, 0x106 (R436). (DESIGN CHOICE: log 62.) -/
def Abl.passTell (a : Abl) (t code : Nat) : Abl := (traysOf (a.jobRanges t)).foldl (fun a x => a.secFrame x t code [t]) a

/-- SUSPEND 0, RESUME 1 and CANCEL 2 of a pass (R436): whether its state takes it. (DESIGN CHOICE: log 62.) -/
def Abl.passOp (a : Abl) (t what : Nat) : Abl × Bool :=
  let st := a.passSt t
  let r := a.root t
  match what with
  | 0 => if st = 1 then (((a.putRoot { r with heldAt := a.n.local }).passNote t 2).passTell t 0x105, true) else (a, false)
  | 1 => if st = 2 then ((((a.putRoot { r with held := r.held + (a.n.local - r.heldAt) }).passNote t 1).passTell t 0x106).rootSweep t, true) else (a, false)
  | _ => if st = 1 || st = 2 then ((a.passCancel t 2 0).rootSweep t, true) else (a, false)

/-! ## A tray's part of a cut -/

/-- The cut of a job at this tray. -/
def Abl.cut (a : Abl) (t cut : Nat) : Option CutX := a.sec.cuts.find? fun x => x.jobtag == t && x.cut == cut

/-- Replace it. -/
def Abl.putCut (a : Abl) (x : CutX) : Abl := a.onSec fun s => { s with cuts := x :: s.cuts.filter fun y => !(y.jobtag == x.jobtag && y.cut == x.cut) }

/-- e_r (R424): the newest epoch that the tray's mirror pair holds REACHED and not FAILED. -/
def Abl.newestEpoch (a : Abl) (t : Nat) : Option Nat :=
  match a.n.verdictGroup t with
  | none => none
  | some g =>
    let l := a.n.fld Reg.ABL_GROUP g 128 32 % 8192
    let os := ([a.n.obj l, a.n.obj (l + 1)].filter fun o => o.st == 1 && o.reached && !o.failed).map fun o => o.epoch
    match os with
    | [x] => some x
    | [x, y] => some (if 0 < dist32 x y then x else y)
    | _ => none

/-- Jobs with dies of this tray that are not ending. -/
def Abl.trayJobs (a : Abl) : List Nat :=
  (List.range 63).filterMap fun j =>
    let st := a.n.fld Reg.ABL_JOB j 125 3
    if 1 ≤ j && (st == 1 || st == 2) && !(a.jobA j).members.isEmpty then some (a.n.fld Reg.ABL_JOB j 0 32) else none

/-- SECURE_REQUEST of one job (R424, R440). -/
def Abl.secRequest (a : Abl) (t level : Nat) : Abl :=
  match a.newestEpoch t, a.n.jobSlot t with
  | some e, some j =>
    let a := a.onSec fun s => { s with reqAt := if level = 0 then s.reqAt.filter fun x => x.1 != t else bindKey s.reqAt t a.n.local }
    a.secPostTo (a.jobA j).root t 0 5 (le 4 t ++ le 4 e ++ [level] ++ zeros 7)
  | _, _ => a

/-- The tray's level enters Spring or Surge (R424). -/
def Abl.secEnter (a : Abl) : Abl :=
  if a.n.role = 1 && a.n.bit Reg.ABL_SEC_CTRL 0 0 then a.trayJobs.foldl (fun a t => a.secRequest t a.n.trayLevel) a else a

/-- CUT_MIN_MS since the last request while the level stays there (R424). -/
def Abl.secTimer (a : Abl) : Abl :=
  if a.n.role ≠ 1 || a.n.trayLevel = 0 || !a.n.bit Reg.ABL_SEC_CTRL 0 0 then a
  else a.trayJobs.foldl (fun a t =>
    match a.sec.reqAt.find? fun x => x.1 == t with
    | some x => if x.2 + a.n.rd Reg.ABL_SEC_CUT_MIN_MS * 1000000 ≤ a.n.local then a.secRequest t a.n.trayLevel else a
    | none => a.secRequest t a.n.trayLevel) a

/-- The tray's level has been Neap for 10 s (R440). -/
def Abl.secNeap (a : Abl) : Abl :=
  if a.n.role = 1 && a.n.trayLevel = 0 then (a.sec.reqAt.map fun x => x.1).foldl (fun a t => a.secRequest t 0) a else a

/-- The reads of a job's cut at this tray's dies are held, or go on (R436). -/
def Abl.cutHold (a : Abl) (t code : Nat) : Abl :=
  (a.memberPorts t).foldl (fun a p => a.on fun n => n.routeMsg t (n.mkMsg (n.childNode p) 0 (.frame .secureStop [code, t] []))) a

/-- TRAY_CUT_DONE (R437, R451). -/
def Abl.cutDone (a : Abl) (x : CutX) (status cause : Nat) : Abl :=
  let n := a.n
  let posted (t : Nat) : List (Nat × Bool × Nat × Nat) := x.done.flatMap fun d => d.2.filter fun e => e.1 == t
  let changed (t : Nat) : Bool := t == 255 || (posted t).any fun e => e.2.1
  let bits := ((List.range 256).filter changed).foldl (fun v t => v + 2 ^ t) 0
  let size (t : Nat) : Nat := ((posted t).map fun e => (e.2.2.2 + 4095) / 4096 * 4096).sum
  let g := n.ringG
  let base := n.groupBase
  let holder (j : Nat) : Nat := if n.ringValid && decide (2 ≤ g) && decide (j < n.ringP) then n.ringIdent (n.holderPos base j) else 0
  let p := le 4 x.jobtag ++ le 4 x.cut ++ le 2 status ++ [cause, 0] ++ le 4 n.ringPos ++ le 32 bits ++
    (List.range 240).flatMap (fun t => le 4 (mib (size t))) ++ le 4 (if n.ringValid then n.ringSucc else 0) ++
    (List.range 4).flatMap fun j => le 4 (holder j)
  if x.restore then a.putCut { x with ended := true }
  else (a.putCut { x with ended := true }).secPostTo x.root x.jobtag 0 6 p

/-- The tray's part fails (R437): 1 NO_SPACE, 2 POISONED, 3 LATE, 4 ROUTE, 5 RESET. -/
def Abl.cutFail (a : Abl) (x : CutX) (cause : Nat) : Abl :=
  if x.ended then a else a.cutDone x (if cause = 1 then stNoSpace else stInternal) cause

/-- SECURE_CUT at a node (R429, R436): BUILDING, and at a tray the dies' pending cut with the VALID bits of changed methods cleared. (DESIGN CHOICE: log 65.) -/
def Abl.cutBegin (a : Abl) (m : FanMsg) (home : Nat) : Abl :=
  let cut := leAt m.body 0 4
  let ec := leAt m.body 4 4
  let packed := leAt m.body 8 60
  let ms := (List.range 240).map fun t => bits packed (2 * t) 2
  let t := m.jobtag
  let a := a.on fun n => (n.setSec t 152 32 cut).setSec t 88 32 ec
  if a.n.role ≠ 1 || (a.cut t cut).isSome then a
  else
    let old := lookupD a.sec.methods t []
    let clear := (List.range 240).filter fun k => ms.getD k 0 != old.getD k (ms.getD k 0)
    let bytes := le 4 cut ++ le 4 ec ++ le 30 ((clear.map fun k => 2 ^ k).sum)
    let a := (a.memberPorts t).foldl (fun a p => a.on fun n => n.dieCmd p 0x1007 bytes) a
    let x : CutX := { jobtag := t, cut := cut, epoch := ec, methods := ms, root := home }
    let a := a.putCut x
    if a.n.bit Reg.ABL_SEC_CTRL 0 0 then a else a.cutFail x 4

/-- SECURE_DATA from a member die (R428, R439): an OFFSET out of place or a CRC that fails ends the tray's part with ROUTE. -/
def Abl.secData (a : Abl) (origin : Nat) (p : List Nat) : Abl :=
  let t := leAt p 0 4
  match a.cut t (leAt p 4 4), a.n.childOf (origin % 2 ^ 20) with
  | some x, some port =>
    let k := leAt p 12 1
    let old := (x.insts.find? fun i => i.port == port && i.tensor == k && !i.ok).getD { port := port, tensor := k, version := leAt p 8 4 }
    let data := p.drop 32
    if x.ended then a
    else if leAt p 16 8 ≠ old.bytes.length then a.cutFail x 4
    else
      let last := bit (leAt p 13 1) 0
      let i : SecInst := { old with bytes := old.bytes ++ data, ok := last }
      let a := a.putCut { x with insts := i :: x.insts.filter fun y => !(y.port == port && y.tensor == k) }
      if last && leAt p 24 4 ≠ crc32c i.bytes then a.cutFail ((a.cut t x.cut).getD x) 4 else a
  | _, _ => a

/-- SECURE_DIE_DONE from a member die (R437).  It follows the die's source fence, so data of a changed tensor that has not come, or has not ended, does
not come any more: ROUTE (R427, R439). (DEDUCED: log 127.) -/
def Abl.dieDoneRx (a : Abl) (origin : Nat) (p : List Nat) : Abl :=
  match a.cut (leAt p 0 4) (leAt p 4 4), a.n.childOf (origin % 2 ^ 20) with
  | some x, some port =>
    let es := (List.range (leAt p 8 2)).map fun i =>
      let o := 16 + 16 * i
      (leAt p o 1, bit (leAt p (o + 1) 1) 0, leAt p (o + 4) 4, leAt p (o + 8) 8)
    let x := { x with done := (port, es) :: x.done.filter fun d => d.1 != port }
    let a := a.putCut x
    if bit (leAt p 10 1) 0 then a.cutFail x 3
    else if es.all fun e => !e.2.1 || (x.insts.any fun i => i.port == port && i.tensor == e.1 && i.ok) then a
    else a.cutFail x 4
  | _, _ => a

/-- Whether a member posted a tensor as changed. -/
def CutX.changed (x : CutX) (t : Nat) : Bool := t == 255 || x.done.any fun d => d.2.any fun e => e.1 == t && e.2.1

/-- How a tensor travels from this tray (R429, R430): a PARITY tensor of a ring without groups is secured as REPLICA. -/
def Abl.travels (a : Abl) (x : CutX) (t : Nat) : Nat :=
  if t = 255 then 0
  else match x.methods.getD t 0 with
    | 1 => if 2 ≤ a.n.ringG then 1 else 0
    | k => k

/-- The first member of this tray's group whose tray holds a die of the job: it starts the chain, and the members before it contribute zeros (R431,
R433). (DESIGN CHOICE: log 63.) -/
def Abl.chainFirst (a : Abl) (t : Nat) : Nat :=
  let n := a.n
  ((List.range n.ringG).find? fun k => k == n.memberNo || (traysOf (a.jobRanges t)).contains (n.ringIdent (n.groupBase + k))).getD n.memberNo

/-- Whether a job's policy sets COMPRESS, as this node knows it (R445). (DESIGN CHOICE: log 65.) -/
def Abl.compresses (a : Abl) (t : Nat) : Bool :=
  match a.sec.roots.find? fun r => r.jobtag == t && !r.policy.isEmpty with
  | some r => r.compress
  | none => a.n.bit Reg.ABL_SEC_CTRL 0 1

/-- A REPLICA stream passes through the Compression Engine (R445, R457): OP 1, blocks of 1 MiB, DST_CAP the input length; a descriptor that ends with
NO_SPACE leaves the stream raw. (DESIGN CHOICE: log 65.) -/
def Abl.pack (a : Abl) (t : Nat) (s : List Nat) : Abl × List Nat × Bool :=
  if !a.compresses t || s.isEmpty || !a.n.bit Reg.ABL_CMP_CTRL 0 0 then (a, s, false)
  else
    let z := container 1 1048576 s
    let a := a.on fun n => n.wr Reg.ABL_CMP_IN_BYTES 0 (n.rd Reg.ABL_CMP_IN_BYTES + s.length)
    if s.length < z.length then (a.on fun n => n.bump Reg.ABL_CMP_EXHAUSTED, s, false)
    else (a.on fun n => n.wr Reg.ABL_CMP_OUT_BYTES 0 (n.rd Reg.ABL_CMP_OUT_BYTES + z.length), z, true)

/-- Send one tensor's shares (R433, R445). (DESIGN CHOICE: log 63.) -/
def Abl.sendTensorShares (a : Abl) (x : CutX) (t : Nat) : Abl :=
  let n := a.n
  let s := a.stream x t
  match a.travels x t with
  | 0 =>
    let a := a.putCut { x with sentT := t :: x.sentT, awaits := (t, 1) :: x.awaits }
    let (a, z, comp) := a.pack x.jobtag s
    a.sendShare true x.jobtag x.cut t 1 0 0 n.ringPos z comp
  | 1 =>
    let i := n.memberNo
    let starts := i == a.chainFirst x.jobtag
    let a := a.putCut { x with sentT := t :: x.sentT, awaits := if starts && !x.restore then (List.replicate n.ringP (t, 2)) ++ x.awaits else x.awaits }
    if !starts then a
    else (List.range n.ringP).foldl (fun a j => a.sendShare true x.jobtag x.cut t 2 i j n.ringPos (gfScale (rsCoef j i) s)) a
  | _ => a.putCut { x with sentT := t :: x.sentT }

/-- Forward partial shards that wait for this member's own data (R433). -/
def Abl.chainSweep (a : Abl) : Abl :=
  (a.sec.shares.filter fun s => s.gen == 3 && s.complete).foldl (fun a s =>
    match a.cut s.jobtag s.cut with
    | none => a
    | some x =>
      if !x.sentT.contains s.tensor then a
      else
        let i := a.n.memberNo
        let own := if x.restore || x.changed s.tensor then gfScale (rsCoef s.shard i) (a.stream x s.tensor) else []
        (a.dropShares fun y => y.same s).sendShare true s.jobtag s.cut s.tensor 2 i s.shard s.origin (xorLong s.bytes own)) a

/-- The gate of E_c − 1 (R425, R437): 0 not decided, 1 passed, 2 FAILED. -/
def Abl.cutGate (a : Abl) (x : CutX) : Nat :=
  match a.n.verdictGroup x.jobtag with
  | none => 0
  | some g =>
    let e := (x.epoch + 2 ^ 32 - 1) % 2 ^ 32
    let o := a.n.obj (a.n.fld Reg.ABL_GROUP g 128 32 % 8192 + e % 2)
    if o.epoch = e then (if o.failed then 2 else if o.reached then 1 else 0)
    else if 0 < dist32 o.epoch e then 1 else 0

/-- The restore that a chain belongs to. -/
def Abl.restTray (a : Abl) (t cut : Nat) : Option RestTray := a.sec.restTrays.find? fun r => r.tag == t && r.cut == cut

/-- Whether a die is a replacement. -/
def RestTray.fresh (r : RestTray) (die : Nat) : Bool := r.pairs.any fun p => p.2 == die

/-- The die of the old job whose place a die has. -/
def RestTray.formerly (r : RestTray) (die : Nat) : Nat := ((r.pairs.find? fun p => p.2 == die).map fun p => p.1).getD die

/-- Where the staged restore of a tray stands: each needed instance of a tensor that is back is written to its staging address, with
RESTORE_READY (R441, R442). `who` are the dies for which the stream holds the tensor. -/
def Abl.stageTensor (a : Abl) (r : RestTray) (t : Nat) (s : List Nat) (who : Nat → Bool := fun _ => true) : Abl :=
  match r.manifest with
  | none => a
  | some m =>
    (a.memberPorts r.tag).foldl (fun a p =>
      let die := a.n.dieOf p
      let e := manifestInst m (r.formerly die) t
      if !who die || r.kept.contains die || e.len = 0 || (a.sec.staged.any fun x => x.jobtag == r.tag && x.die == die && x.tensor == t) then a
      else
        let addr := Config.stageAddr r.tag die t
        let a : Abl := { a with out := a.out ++ [(addr, padTo e.len (s.drop e.off))] }
        let a := a.onSec fun z => { z with staged := { jobtag := r.tag, die := die, tensor := t, addr := addr, len := e.len } :: z.staged }
        a.on fun n => n.emit r.tag 2 0x19 0x0009 642 (le 4 r.tag ++ le 4 die ++ [t] ++ zeros 7 ++ le 8 addr ++ le 8 e.len)) a

/-- The member dies that a cut waits for: in a restore those that are no replacements (R442). -/
def Abl.cutPorts (a : Abl) (x : CutX) : List Nat :=
  match if x.restore then a.restTray x.jobtag x.cut else none with
  | some r => (a.memberPorts x.jobtag).filter fun p => !r.fresh (a.n.dieOf p)
  | none => a.memberPorts x.jobtag

/-- A restore's part in the decode chains (R441, R442): once the tray knows the manifest and every surviving die has posted, its instances of the PARITY
tensors go into the chains, and are staged for those dies. -/
def Abl.decodePart (a : Abl) (x : CutX) : Abl :=
  match a.restTray x.jobtag x.cut with
  | none => a
  | some r =>
    if r.manifest.isNone then a
    else
      let want := (List.range 240).filter fun t => x.methods.getD t 3 == 1 && a.travels x t == 1 && !x.sentT.contains t
      let a := want.foldl (fun a t =>
        (a.sendTensorShares ((a.cut x.jobtag x.cut).getD x) t).stageTensor r t (a.stream x t) fun d => !r.fresh d) a
      a.chainSweep

/-- What a tray's cut takes up (R433, R437): shares once every member is done, TRAY_CUT_DONE once they are acknowledged and the gate passed. -/
def Abl.cutSweep (a : Abl) (x0 : CutX) : Abl :=
  match if x0.ended then none else a.cut x0.jobtag x0.cut with
  | none => a
  | some x =>
    let ports := a.cutPorts x
    let all := (x.restore || !ports.isEmpty) && ports.all fun p => x.done.any fun d => d.1 == p
    let whole := x.done.all fun d => d.2.all fun e => !e.2.1 || (x.insts.any fun i => i.port == d.1 && i.tensor == e.1 && i.ok)
    if !x.restore && a.cutGate x = 2 then a.cutFail x 2
    else if !all then a
    else if !whole then a
    else if !a.n.ringValid then a.cutFail x 4
    else if x.restore then a.decodePart x
    else
      let x := if x.manifest.isEmpty then { x with manifest := a.manifest x } else x
      let a := a.putCut x
      let want := (List.range 256).filter fun t => x.changed t && !x.sentT.contains t
      let a := want.foldl (fun a t => a.sendTensorShares ((a.cut x.jobtag x.cut).getD x) t) a
      let a := a.chainSweep
      let x := (a.cut x.jobtag x.cut).getD x
      if x.awaits.isEmpty && a.cutGate x == 1 then a.cutDone x stOk 0 else a

/-! ## Shares -/

/-- SHARE_ACK (R451). -/
def Abl.shareAck (a : Abl) (dest t cut tensor kind status stored : Nat) : Abl :=
  a.secPostTo dest t 0 4 (le 4 t ++ le 4 cut ++ [tensor, kind] ++ le 2 status ++ zeros 4 ++ le 8 stored)

/-- SHARE_ACK reaches the tray that originated the share, or the root that waits for a holder (R436, R437). -/
def Abl.shareAckRx (a : Abl) (origin : Nat) (p : List Nat) : Abl :=
  let t := leAt p 0 4
  let cut := leAt p 4 4
  let kind := leAt p 9 1
  if kind = 0 then
    let r := a.root t
    if a.isRoot t then (a.putRoot { r with acks := r.acks.filter fun h => h != origin }).rootSweep t else a
  else match a.cut t cut with
    | none => a
    | some x =>
      let st := leAt p 10 2
      let x := { x with awaits := x.awaits.erase (leAt p 8 1, kind) }
      let a := a.putCut x
      if st = 0 then a.cutSweep x else a.cutFail x (if st = stNoSpace then 1 else 4)

/-- A complete share of KIND 1, or a shard that this holder keeps: checked and acknowledged (R433, R437). (DESIGN CHOICE: log 63.) -/
def Abl.shareStored (a : Abl) (s : ShareX) (dest crc : Nat) : Abl :=
  if crc ≠ crc32c s.bytes then
    ((a.dropShares fun y => y.same s).on fun n => n.bump Reg.ABL_SEC_CHAIN_ERR).shareAck dest s.jobtag s.cut s.tensor s.kind stInternal 0
  else (a.putShare s.close).shareAck dest s.jobtag s.cut s.tensor s.kind stOk s.bytes.length

/-- Whether the share of these bytes fits (R435). -/
def Abl.shareFits (a : Abl) (k : Nat) : Bool := decide (a.shareUsed + k ≤ a.n.fld Reg.ABL_SEC_CAP_GIB 0 0 10 * 2 ^ 30)

/-- The tray of a die (R193). -/
def trayOf (die : Nat) : Nat := 2 ^ 17 + die / 16

/-- Trays of lost dies (R441). -/
def lostTrays (pairs : List (Nat × Nat)) : List Nat := (pairs.map fun p => trayOf p.1).eraseDups

/-- Whether the tray at a ring position has lost a die, and whether a replacement stands in its place. (DESIGN CHOICE: log 67.) -/
def RestTray.lostAt (r : RestTray) (n : Node) (pos : Nat) : Bool :=
  let id := n.ringIdent (pos % n.ringLen)
  r.pairs.any fun p => trayOf p.1 == id || trayOf p.2 == id
def RestTray.goneAt (r : RestTray) (n : Node) (pos : Nat) : Bool :=
  let id := n.ringIdent (pos % n.ringLen)
  r.pairs.any fun p => trayOf p.2 == id && trayOf p.1 != id

/-- The lost members of a group, and the lowest-numbered surviving shards that solve for them (R441). -/
def RestTray.erased (r : RestTray) (n : Node) (base : Nat) : List Nat × List Nat :=
  let lost := (List.range n.ringG).filter fun i => r.lostAt n (base + i)
  (lost, ((List.range n.ringP).filter fun j => !r.goneAt n (n.holderPos base j)).take lost.length)

/-- The first of the holders that solve has all they give: the lost streams go back along the ring (R432, R441, R444). -/
def Abl.decode (a : Abl) (r : RestTray) (tensor base : Nat) : Abl :=
  let (lost, js) := r.erased a.n base
  let syn (j : Nat) : Option ShareX :=
    a.sec.shares.find? fun y => y.gen == 4 && y.complete && y.jobtag == r.tag && y.tensor == tensor && y.shard == j && y.origin == base
  if lost.isEmpty || js.length < lost.length || !js.all (fun j => (syn j).isSome) then a
  else
    let ds := gfSolve js lost (js.map fun j => ((syn j).map fun y => y.bytes).getD [])
    let a := a.dropShares fun y => y.gen == 4 && y.jobtag == r.tag && y.tensor == tensor && y.origin == base
    (lost.zip ds).foldl (fun a p => a.sendShare false r.tag r.cut tensor 3 p.1 (js.headD 0) ((base + p.1) % a.n.ringLen) p.2) a

/-- A decode chain has reached the holder of its shard (R441): what the shard holds beyond it goes to the first of the holders that solve, along the
predecessor lanes. (DESIGN CHOICE: log 63.) -/
def Abl.syndrome (a : Abl) (r : RestTray) (s : ShareX) : Abl :=
  let base := s.origin / a.n.ringG * a.n.ringG
  let (lost, js) := r.erased a.n base
  let held := a.sec.shares.find? fun y => y.kind == 2 && y.gen == 1 && y.jobtag == s.jobtag && y.tensor == s.tensor && y.shard == s.shard
  match held with
  | none => a
  | some sh =>
    if lost.isEmpty || !js.contains s.shard then a
    else
      let y : ShareX := { s with kind := 3, gen := 4, origin := base, bytes := xorLong sh.bytes s.bytes, complete := true }
      if js.headD 0 = s.shard then (a.putShare y).decode r s.tensor base
      else a.sendShare false s.jobtag s.cut s.tensor 3 0xF0 s.shard (a.n.holderPos base (js.headD 0)) y.bytes

/-- A complete partial shard at a holder: kept as its shard, forwarded, or, in a restore, solved for (R433, R441). -/
def Abl.holderGot (a : Abl) (s : ShareX) (crc : Nat) : Abl :=
  let n := a.n
  let h := (n.ringPos + 2 * n.ringLen - (s.origin / n.ringG * n.ringG + n.ringG) % n.ringLen) % n.ringLen
  if crc ≠ crc32c s.bytes then
    ((a.dropShares fun y => y.same s).on fun n => n.bump Reg.ABL_SEC_CHAIN_ERR).shareAck (n.ringIdent s.origin) s.jobtag s.cut s.tensor s.kind stInternal 0
  else
    let a := a.dropShares fun y => y.same s
    if h < s.shard then a.sendShare true s.jobtag s.cut s.tensor 2 (n.ringG - 1) s.shard s.origin s.bytes
    else match a.restTray s.jobtag s.cut with
      | some r => a.syndrome r s
      | none => (a.putShare { s with gen := 0 }.close).shareAck (n.ringIdent s.origin) s.jobtag s.cut s.tensor 2 stOk s.bytes.length

/-- A stream of a restore has come back to its tray: the manifest of a tray that has none of its own tells it the methods too; a decoded tensor holds
only what the lost dies had. -/
def Abl.restoreGot (a : Abl) (s : ShareX) : Abl :=
  match a.restTray s.jobtag s.cut with
  | none => a
  | some r =>
    if s.tensor = 255 && r.manifest.isNone then
      let m := s.stream
      let r := { r with manifest := some m }
      let ms := manifestMethods m
      let a := a.onSec fun z => { z with
        restTrays := r :: z.restTrays.filter (fun x => x.tag != r.tag), manifests := bindKey z.manifests r.tag m, methods := bindKey z.methods r.tag ms
        cuts := z.cuts.map fun x => if x.jobtag = r.tag && x.restore then { x with methods := ms } else x }
      (a.sec.shares.filter fun y => y.gen == 2 && y.complete && y.jobtag == r.tag && y.tensor != 255).foldl (fun a y => a.stageTensor r y.tensor y.stream) a
    else if (lookupD a.sec.methods r.tag []).getD s.tensor 0 = 1 then a.stageTensor r s.tensor s.stream r.fresh
    else a.stageTensor r s.tensor s.stream

/-- SHARE_DATA (R431 to R435, R441): from a neighbour. (DESIGN CHOICE: log 63.) -/
def Abl.shareRx (a : Abl) (origin : Nat) (p : List Nat) : Abl :=
  let t := leAt p 0 4
  let cut := leAt p 4 4
  let tensor := leAt p 8 1
  let kind := leAt p 9 1
  let i := leAt p 10 1
  let j := leAt p 11 1
  let pos := leAt p 12 4
  let off := leAt p 16 8
  let fl := leAt p 24 1
  let crc := leAt p 28 4
  let data := p.drop 32
  let n := a.n
  let base := n.groupBase
  let member := kind == 2 && pos / n.ringG * n.ringG == base && decide (2 ≤ n.ringG) && i + 1 == n.memberNo
  let syn := kind == 3 && i == 0xF0 && pos == n.ringPos
  let gen := if syn then 4 else if kind = 3 then 2 else if kind = 1 then 0 else 3
  let owes := (pos + 2 * n.ringLen - n.memberNo - n.ringG) % n.ringLen
  let key : ShareX := { jobtag := t, cut := cut, tensor := tensor, kind := kind, shard := j, origin := if syn then owes else pos, gen := gen }
  let s := a.share key
  let owner := if kind = 1 then origin else n.ringIdent pos
  if !n.bit Reg.ABL_SEC_CTRL 0 0 || kind = 0 || 3 < kind then a
  else if off ≠ s.bytes.length then
    ((a.dropShares fun y => y.same key).on fun n => n.bump Reg.ABL_SEC_CHAIN_ERR).shareAck owner t cut tensor kind stInternal 0
  else if kind ≠ 3 && !a.shareFits data.length then
    ((a.dropShares fun y => y.same key).on fun n => n.bump Reg.ABL_SEC_NOSPACE).shareAck owner t cut tensor kind stNoSpace 0
  else
    let s := { s with bytes := s.bytes ++ data, container := bit fl 1 }
    let a := a.putShare s
    if !bit fl 0 then a
    else if kind = 1 then a.shareStored s owner crc
    else if kind = 3 then
      if crc ≠ crc32c s.bytes then (a.dropShares fun y => y.same s).on fun n => n.bump Reg.ABL_SEC_CHAIN_ERR
      else if pos ≠ n.ringPos then (a.dropShares fun y => y.same s).sendShare false t cut tensor 3 i j pos s.bytes s.container
      else
        let a := a.putShare { s with complete := true }
        match if syn then a.restTray t cut else none with
        | some r => a.decode r tensor s.origin
        | none => if syn then a else a.restoreGot { s with complete := true }
    else if member then
      if crc ≠ crc32c s.bytes then
        ((a.dropShares fun y => y.same s).on fun n => n.bump Reg.ABL_SEC_CHAIN_ERR).shareAck owner t cut tensor 2 stInternal 0
      else if (a.members t).isEmpty then
        (a.dropShares fun y => y.same s).sendShare true t cut tensor 2 n.memberNo j pos s.bytes
      else (a.putShare { s with complete := true }).chainSweep
    else a.holderGot s crc

/-- A commit reaches a holder or member (R435, R438): the building generation, with the shares carried forward, becomes the committed one, and
the rest is erased.  A holder that the SECURE_CUT did not reach knows of a changed method by a share of the new one. (DESIGN CHOICE: log 67.) -/
def Abl.secCommitted (a : Abl) (t cut epoch : Nat) : Abl :=
  let x := a.cut t cut
  let new (z y : ShareX) : Bool := z.jobtag == t && z.gen == 0 && z.cut == cut && z.tensor == y.tensor
  let fresh (y : ShareX) : Bool := a.sec.shares.any fun z => new z y && (z.origin == y.origin || (z.kind == 2 && y.kind == 2 && z.shard == y.shard))
  let keeps (y : ShareX) : Bool := match x with
    | some c => y.tensor == 255 || a.travels c y.tensor == y.kind - 1
    | none => !a.sec.shares.any fun z => new z y && z.kind != y.kind
  let live (y : ShareX) : Bool := (y.gen == 0 && y.cut == cut) || (y.gen == 1 && y.cut == cut) || (y.gen == 1 && !fresh y && keeps y)
  let a := a.dropShares fun y => y.jobtag == t && decide (y.gen ≤ 1) && !live y
  let a := (a.onSec fun s => { s with
    shares := s.shares.map fun y => if y.jobtag = t && decide (y.gen ≤ 1) then { y with gen := 1, cut := cut } else y }).secView
  let a := a.on fun n => (((n.setSec t 184 32 cut).setSec t 120 32 epoch).setSec t 152 32 0).setSec t 88 32 0
  let root := match a.n.jobSlot t with | some j => (a.jobA j).root | none => lookupD a.sec.offTree t 0
  let a := if (a.sec.shares.any fun y => y.jobtag == t) then
      (a.onTab fun tab => { tab with cuts := bindKey tab.cuts t cut, holdings := (t, cut, root) :: tab.holdings.filter fun h => h.1 != t }).hsTable 3
    else a
  match x with
  | none => a
  | some c =>
    let a := (a.memberPorts t).foldl (fun a p =>
      let vs := ((c.done.filter fun d => d.1 == p).flatMap fun d => d.2).filter fun e => c.methods.getD e.1 0 != 3
      a.on fun n => n.dieCmd p 0x1008 (le 2 vs.length ++ zeros 6 ++ vs.flatMap fun e => le 4 e.1 ++ le 4 e.2.2.1)) a
    a.onSec fun s => { s with methods := bindKey s.methods t c.methods, manifests := bindKey s.manifests t c.manifest
                              cuts := s.cuts.filter fun y => y.jobtag != t }

/-- The building generation of a job is freed (R436). -/
def Abl.secAbandoned (a : Abl) (t : Nat) : Abl :=
  let a := a.dropShares fun y => y.jobtag == t && (y.gen == 0 || y.gen == 3)
  let a := a.onSec fun s => { s with cuts := s.cuts.filter fun y => y.jobtag != t }
  if a.isRoot t then a else a.on fun n => (n.setSec t 152 32 0).setSec t 88 32 0

/-- Both generations of a job are erased (R440). -/
def Abl.secReleased (a : Abl) (t : Nat) : Abl :=
  let a := (a.dropShares fun y => y.jobtag == t).onSec fun s =>
    { s with cuts := s.cuts.filter (fun y => y.jobtag != t), methods := s.methods.filter (fun m => m.1 != t)
             manifests := s.manifests.filter fun m => m.1 != t }
  let a := a.onTab fun tab => { tab with cuts := tab.cuts.filter (fun c => c.1 != t), holdings := tab.holdings.filter fun h => h.1 != t }
  a.on fun n => ((n.setSec t 184 32 0).setSec t 120 32 0).setSec t 32 32 0

/-- The SECURE_COMMIT record at a holder (R438): committed, and acknowledged to the root. -/
def Abl.commitRx (a : Abl) (origin : Nat) (p : List Nat) : Abl :=
  let t := leAt p 0 4
  let cut := leAt p 4 4
  let a := if (a.n.jobSlot t).isNone then a.onSec fun s => { s with offTree := bindKey s.offTree t origin } else a
  (a.secCommitted t cut (leAt p 8 4)).shareAck origin t cut 0 0 stOk ((a.sec.shares.filter fun y => y.jobtag == t).map fun y => y.bytes.length).sum

/-! ## Restoring -/

/-- Whether the committed cut can be restored after the loss of these dies, as far as the root's trays tell (R434): a tray is lost with its shares when
every member die of it is; a tray that has lost some keeps its shares. (DESIGN CHOICE: log 67.) -/
def recoverable (r : RootX) (pairs : List (Nat × Nat)) : Bool :=
  let hit := lostTrays pairs
  let dies (x : Nat) : List Nat := (List.range 16).map (fun k => (x - 2 ^ 17) * 16 + k) |>.filter fun d => r.ranges.any fun q => decide (q.1 ≤ d) && decide (d ≤ q.2)
  let gone := hit.filter fun x => (dies x).all fun d => pairs.any fun p => p.1 == d
  let succ (x : Nat × List Nat) : Nat := leAt x.2 1008 4
  let next := r.last.all fun x => !(hit.contains x.1 && gone.contains (succ x) && succ x != x.1)
  let holders (x : Nat × List Nat) : List Nat := ((List.range 4).map fun k => leAt x.2 (1012 + 4 * k) 4).filter fun h => h != 0
  let group (x : Nat × List Nat) : List (Nat × List Nat) := r.last.filter fun y => leAt y.2 1012 4 == leAt x.2 1012 4
  let few (x : Nat × List Nat) : Bool :=
    decide (((group x).filter fun y => hit.contains y.1).length + ((holders x).filter gone.contains).length ≤ (holders x).length)
  next && (!(r.done.contains 1) || r.last.all fun x => holders x == [] || few x)

/-- The JOB_START fan-outs of the new job (R441): the old ranges with each replacement in the rank of the die it replaces. (DESIGN CHOICE: log 67.) -/
def restartRanges (ranges : List (Nat × Nat)) (ranks : List Nat) (pairs : List (Nat × Nat)) : List (Nat × Nat × Nat) :=
  let cut (acc : List (Nat × Nat × Nat)) (p : Nat × Nat) : List (Nat × Nat × Nat) := acc.flatMap fun x =>
    if x.1 ≤ p.1 ∧ p.1 ≤ x.2.1 then
      ((if x.1 < p.1 then [(x.1, p.1 - 1, x.2.2)] else []) ++ [(p.2, p.2, x.2.2 + (p.1 - x.1))]) ++
        (if p.1 < x.2.1 then [(p.1 + 1, x.2.1, x.2.2 + (p.1 + 1 - x.1))] else [])
    else [x]
  pairs.foldl cut (ranges.zipIdx.map fun x => (x.1.1, x.1.2, ranks.getD x.2 0))

/-- Cut a list of fan-out ranges into messages. -/
def startMsgs (t flags step : Nat) (rs : List (Nat × Nat × Nat)) : List FanMsg :=
  (List.range ((rs.length + 31) / 32)).map fun i =>
    let l := (rs.drop (32 * i)).take 32
    { jobtag := t, seq := 0, kind := 1, deadline := 0, ranges := l.map fun x => (x.1, x.2.1),
      body := le 4 flags ++ le 4 step ++ zeros 4 ++ le 4 l.length ++ l.flatMap fun x => le 4 x.2.2 }

/-- A message once for every 32 of some ranges. -/
def chunkMsgs (m : FanMsg) (rs : List (Nat × Nat)) : List FanMsg :=
  (List.range ((rs.length + 31) / 32)).map fun i => { m with ranges := (rs.drop (32 * i)).take 32 }

/-- The body of a RESTORE fan-out (R452). -/
def restoreBody (old cut : Nat) (pairs : List (Nat × Nat)) : List Nat :=
  le 4 old ++ le 4 cut ++ le 2 pairs.length ++ zeros 2 ++ pairs.flatMap fun q => le 4 q.1 ++ le 4 q.2

/-- The next fan-out of a restore leaves when the one before has been answered (R441); with the first RESTORE the share holders off the job's tree are
told. (DESIGN CHOICE: log 67.) -/
def Abl.restStep (a : Abl) (x : RestX) : Abl :=
  let suspended := match a.n.op x.handle with | some o => o.state == 1 | none => false
  match if suspended || a.fanOut x.old || a.fanOut x.new then [] else x.todo with
  | [] => a
  | m :: rest =>
    match a.originate { m with seq := a.fanSeq m.jobtag } with
    | (_, none) => a
    | (b, some _) =>
      let tell := m.kind == 0x14 && !x.told
      let b := b.onSec fun s => { s with restores := s.restores.map fun y => if y.handle = x.handle then { y with todo := rest, told := x.told || tell } else y }
      if !tell then b
      else x.off.foldl (fun b h => b.secFrame h x.new 0x104 ([x.new, x.old, x.cut, x.pairs.length] ++ x.pairs.flatMap fun q => [q.1, q.2])) b

/-- RESTORE_RESULT and the end of the operation (R443): 1 RESTORED, 2 UNRECOVERABLE, 3 CANCELLED. -/
def Abl.restEnd (a : Abl) (x : RestX) (outcome : Nat) : Abl :=
  let status := match outcome with | 1 => stOk | 2 => stInternal | _ => stCancelled
  let a := a.on fun n => n.emit x.new 1 0x19 0x000A 642 (le 4 x.new ++ le 4 x.cut ++ [outcome, 0, 0, 0] ++ le 4 x.dies ++ le 8 x.bytes)
  let a := a.on fun n => (n.setSec x.new 253 3 0).opEnd x.handle status outcome [x.dies, x.bytes, 0, 0]
  let a := if outcome = 2 then a.on fun n => n.escalate 642 4 x.old x.cut 0 else a
  let a := a.onSec fun s => { s with restores := s.restores.filter fun y => y.handle != x.handle }
  if outcome = 3 then a.jobFan x.new 2 (le 4 1 ++ zeros 4) else a

/-- What a node knows of the cut that a RESTORE may name (R438, R441): the root's own record, or where the root cannot be reached what this node holds of
the job: its committed cut, or the one whose commit is on its way. (DESIGN CHOICE: log 67.) -/
def Abl.restorable (a : Abl) (t cut : Nat) : RootX :=
  let r := a.root t
  if r.cutId ≠ 0 then r
  else match a.n.jobSlot t with
    | none => r
    | some j =>
      let x := a.jobA j
      let next := cut != 0 && cut == a.n.secFld t 152 32
      { r with cutId := if next then cut else a.n.secFld t 184 32, epoch := if next then a.n.secFld t 88 32 else a.n.secFld t 120 32
               ranges := x.ranges, ranks := x.ranks, flags := x.flags, groups := a.groupMsgs t, done := lookupD a.sec.methods t [] }

/-- RESTORE (R441): a handle, or a status.  `old` is the JobTag that the command names. -/
def Abl.restoreStart (a : Abl) (path old : Nat) (p : List Nat) : Abl × Nat × Nat :=
  let r := a.restorable old (leAt p 0 4)
  let cut := if leAt p 0 4 = 0 then r.cutId else leAt p 0 4
  let k := leAt p 4 2
  let pairs := (List.range k).map fun i => (leAt p (8 + 8 * i) 4, leAt p (12 + 8 * i) 4)
  if 126 < k || cut = 0 || cut ≠ r.cutId then (a, stBad, 0)
  else if a.sec.restores.any fun x => x.old == old then (a, stBusy, 0)
  else
    let a := (a.passCancel old 2 0 true).rootSweep old
    match a.n.opStart 3 path old 1 with
    | (none, n) => ({ a with n := n }, stBusy, 0)
    | (some h, n) =>
      let a : Abl := { a with n := match n.op h with | some o => n.opNote o 0 | none => n }
      let new := jobId old * 65536 + genAfter (jobGen old)
      let rs := restartRanges r.ranges r.ranks pairs
      let live := match a.n.jobSlot old with
        | some j => let st := a.n.fld Reg.ABL_JOB j 125 3; st == 1 || st == 2
        | none => false
      let ends := if live then chunkMsgs { jobtag := old, seq := 0, kind := 2, deadline := 0, ranges := [], body := le 4 2 ++ zeros 4 } r.ranges else []
      let remap (m : FanMsg) : FanMsg := { m with jobtag := new, ranges := (restartRanges m.ranges (m.ranges.map fun _ => 0) pairs).map fun x => (x.1, x.2.1) }
      let all := rs.map fun x => (x.1, x.2.1)
      let back := chunkMsgs { jobtag := new, seq := 0, kind := 0x14, deadline := 0, ranges := [], body := restoreBody old cut pairs } all
      let x : RestX := { handle := h, old := old, new := new, cut := cut, pairs := pairs, trays := traysOf all, off := a.offHolders old r.last
                         todo := ends ++ startMsgs new r.flags r.epoch rs ++ r.groups.map remap ++ back }
      if !recoverable r pairs then (a.restEnd x 2, stOk, h)
      else
        let a := a.onSec fun s => { s with restores := x :: s.restores }
        (a.restStep x, stOk, h)

/-- The securing state of a job goes over to its new JobTag (R441): at the root the requests of the old one are gone (R424). -/
def Abl.secRename (a : Abl) (old new : Nat) : Abl :=
  let key {β : Type} (x : Nat × β) : Nat × β := if x.1 = old then (new, x.2) else x
  let a := (a.onSec fun s => { s with
    shares := s.shares.map (fun y => if y.jobtag = old then { y with jobtag := new } else y), methods := s.methods.map key
    manifests := s.manifests.map key, offTree := s.offTree.map key, holds := s.holds.filter (fun h => h.1 != old)
    roots := s.roots.map fun y => if y.jobtag = old then { y with jobtag := new, er := none, reqs := [], neaps := [], noted := false } else y }).secView
  a.onTab fun tab => { tab with cuts := tab.cuts.map key, holdings := tab.holdings.map key }

/-- The RESTORE fan-out at a node (R441, R442): the shares belong to the new JobTag; a successor sends its predecessor's replicas back; a tray
prepares to stage, and asks the surviving dies for their instances of PARITY tensors, at the epoch with which the job starts again.  A building generation
that the RESTORE names is committed first (R438).  `kept` are the member dies whose DDU_SEC_RETAINED equals CUT_ID. (DESIGN CHOICE: log 67.) -/
def Abl.restored (a : Abl) (m : FanMsg) (home : Nat) (kept : List Nat) : Abl :=
  let old := leAt m.body 0 4
  let cut := leAt m.body 4 4
  let new := m.jobtag
  let pairs := (List.range (leAt m.body 8 2)).map fun i => (leAt m.body (12 + 8 * i) 4, leAt m.body (16 + 8 * i) 4)
  let a := if a.sec.shares.any fun y => y.jobtag == old && y.gen == 0 && y.cut == cut then a.secCommitted old cut (a.n.secFld old 88 32) else a
  let a := a.secRename old new
  let a := a.on fun n => (n.setSec new 184 32 cut).setSec new 253 3 (if home = n.ident then 5 else 0)
  if a.n.role ≠ 1 then a
  else
    let reps := a.sec.shares.filter fun y => y.jobtag == new && y.kind == 1 && y.gen == 1
    let a := reps.foldl (fun a y => a.sendShare false new cut y.tensor 3 0 0 y.origin y.bytes y.container) a
    let own := a.sec.manifests.find? fun x => x.1 == new
    let r : RestTray := { tag := new, old := old, cut := cut, root := home, pairs := pairs, kept := kept, manifest := own.map fun x => x.2 }
    let a := a.onSec fun s => { s with restTrays := r :: s.restTrays.filter fun x => x.tag != new }
    let ms := lookupD a.sec.methods new []
    if (a.members new).isEmpty then a
    else
      let step := match a.n.jobSlot new with | some j => a.n.fld Reg.ABL_JOB j 64 32 | none => 0
      let a := a.putCut { jobtag := new, cut := cut, epoch := step, methods := ms, root := home, restore := true }
      let ask := (a.memberPorts new).filter fun p => !r.fresh (a.n.dieOf p)
      let clear := ((List.range 240).filter fun k => ms.getD k 0 == 1).map fun k => 2 ^ k
      if !ms.contains 1 then a else ask.foldl (fun a p => a.on fun n => n.dieCmd p 0x1007 (le 4 cut ++ le 4 step ++ le 30 clear.sum)) a

/-- RESTORE_DONE once everything staged has been loaded (R441); the streams that came back are no longer held. -/
def Abl.restTraySweep (a : Abl) (r : RestTray) : Abl :=
  let mine := a.sec.staged.filter fun x => x.jobtag == r.tag
  let m := r.manifest.getD []
  let want := (a.memberPorts r.tag).flatMap fun p =>
    let die := a.n.dieOf p
    if r.kept.contains die then [] else ((List.range 240).filter fun t => (manifestInst m (r.formerly die) t).len != 0).map fun t => (die, t)
  let ready := (r.kept.length == (a.memberPorts r.tag).length || r.manifest.isSome) &&
    want.all fun w => mine.any fun x => x.die == w.1 && x.tensor == w.2 && x.loaded
  if r.finished || !ready then a
  else
    let a := a.onSec fun s => { s with restTrays := s.restTrays.map fun x => if x.tag = r.tag then { x with finished := true } else x }
    let a := a.dropShares fun y => y.gen == 2 && y.jobtag == r.tag
    a.secFrame r.root r.tag 0x102 [r.tag, (a.memberPorts r.tag).length, (mine.map fun x => x.len).sum]

/-- RESTORE_LOADED (R441): a status. -/
def Abl.restoreLoaded (a : Abl) (h die tensor : Nat) : Abl × Nat :=
  let suspended := match a.n.op h with | some o => o.state == 1 | none => false
  match a.sec.staged.find? fun x => x.die == die && x.tensor == tensor && !x.loaded with
  | none => (a, stBad)
  | some x =>
    if suspended then (a, stSuspended)
    else
      let a := a.onSec fun s => { s with staged := { x with loaded := true } :: s.staged.filter fun y => !(y.jobtag == x.jobtag && y.die == die && y.tensor == tensor) }
      (a.sec.restTrays.foldl Abl.restTraySweep a, stOk)

/-- The root's restore: RESTORED after the last RESTORE_DONE and the close of the join barrier (R441). -/
def Abl.restCheck (a : Abl) (x : RestX) : Abl :=
  if x.todo.isEmpty && x.joined && x.trays.all x.done.contains then a.restEnd x 1 else a

/-- RESTORE_DONE reaches the root (R441). -/
def Abl.restoreDoneRx (a : Abl) (origin t dies bytes : Nat) : Abl :=
  match a.sec.restores.find? fun x => x.new == t with
  | none => a
  | some x =>
    let x := if x.done.contains origin then x else { x with done := origin :: x.done, dies := x.dies + dies, bytes := x.bytes + bytes }
    (a.onSec fun s => { s with restores := x :: s.restores.filter fun y => y.handle != x.handle }).restCheck x

/-- A join barrier has closed at the root. -/
def Abl.restJoined (a : Abl) (t : Nat) : Abl :=
  match a.sec.restores.find? fun x => x.new == t with
  | none => a
  | some x =>
    let x := { x with joined := true }
    (a.onSec fun s => { s with restores := x :: s.restores.filter fun y => y.handle != x.handle }).restCheck x

/-- Tell the trays of a restore, and the holders off the job's tree, that its share transfers are held, 0x107, or go on, 0x108 (R443). (DESIGN CHOICE:
log 62.) -/
def Abl.restTell (a : Abl) (x : RestX) (code : Nat) : Abl := (x.trays ++ x.off).foldl (fun a y => a.secFrame y x.new code [x.new]) a

/-- SUSPEND 0, RESUME 1, CANCEL 2 of a restore (R443). -/
def Abl.restOp (a : Abl) (h what : Nat) : Abl × Bool :=
  match a.sec.restores.find? fun x => x.handle == h with
  | none => (a, false)
  | some x => match what with
    | 0 => ((a.on fun n => n.opChange h fun o => { o with state := 1 }).restTell x 0x107, true)
    | 1 => (((a.on fun n => n.opChange h fun o => { o with state := 0 }).restTell x 0x108).restStep x, true)
    | _ => (a.restEnd x 3, true)

/-! ## What securing takes up at the end of a step -/

/-- Requests, cuts, passes and restores that can go on. -/
def Abl.secSweep (a : Abl) : Abl :=
  let a := a.sec.cuts.foldl Abl.cutSweep a
  let a := (a.sec.roots.map fun r => r.jobtag).foldl Abl.rootSweep a
  let a := a.sec.restores.foldl Abl.restStep a
  a.sec.restTrays.foldl Abl.restTraySweep a

/-- A securing fan-out at this node (R452). -/
def Abl.secFan (a : Abl) (m : FanMsg) (home : Nat) : Abl :=
  match m.kind with
  | 0x10 => a.cutBegin m home
  | 0x11 => a.secCommitted m.jobtag (leAt m.body 0 4) (leAt m.body 4 4)
  | 0x12 => a.secAbandoned m.jobtag
  | 0x13 => a.secReleased m.jobtag
  | 0x14 =>
    let found := ((a.memberPorts m.jobtag).map a.n.dieOf).filter fun d => Config.dieRetains d (leAt m.body 4 4)
    (a.restored m home (a.sec.kept.getD found)).onSec fun s => { s with kept := none }
  | _ => a

/-- A node's own erasure for a job whose holder lies off the tree, with its own SCRUB_DONE of SCOPE 1 (R449). -/
def Abl.offRelease (a : Abl) (t root : Nat) : Abl :=
  let mine := a.sec.shares.filter fun y => y.jobtag == t
  let bytes := (mine.map fun y => y.bytes.length).sum
  let a := (a.secReleased t).onSec fun s => { s with offTree := s.offTree.filter fun x => x.1 != t }
  a.on fun n => n.sendRec t root 0 0x15 0x0003 642
    (scrubOpen t n.ident 1 0 bytes n.tideline ++ zeros 16 ++ le 4 mine.length ++ zeros 4 ++ le 8 bytes)

/-- A securing message or frame (R451): by CODE, or by the codes of `secFrame`. -/
def Abl.secMsg (a : Abl) (origin code : Nat) (p : List Nat) : Abl :=
  let arg (i : Nat) : Nat := leAt p (8 * i) 8
  match code with
  | 4 => a.shareAckRx origin p
  | 5 => a.requestRx origin p
  | 6 => a.trayCutDone origin p
  | 7 => a.commitRx origin p
  | 0xB => a.sharesLostRx p
  | 0x100 => (a.secAbandoned (arg 0)).shareAck (arg 2) (arg 0) (arg 1) 0 0 stOk 0
  | 0x101 => a.offRelease (arg 0) (arg 1)
  | 0x102 => a.restoreDoneRx origin (arg 0) (arg 1) (arg 2)
  | 0x103 => (a.secReleased (arg 0)).onSec fun s => { s with offTree := s.offTree.filter fun x => x.1 != arg 0 }
  | 0x104 =>
    let pairs := (List.range (arg 3)).map fun i => (arg (4 + 2 * i), arg (5 + 2 * i))
    a.restored { jobtag := arg 0, seq := 0, kind := 0x14, deadline := 0, ranges := [], body := restoreBody (arg 1) (arg 2) pairs } origin []
  | 0x105 | 0x106 => a.cutHold (arg 0) code
  | 0x107 => a.on fun n => { n with shareHold := (arg 0 :: n.shareHold).eraseDups }
  | 0x108 => a.on fun n => { n with shareHold := n.shareHold.filter fun t => t != arg 0 }
  | _ => a

/-- SHARES_LOST of a job's cut to its root (R435, R451). -/
def Abl.tellLost (a : Abl) (t cut root : Nat) : Abl :=
  let p := le 4 t ++ le 4 cut ++ zeros 8
  if root % 2 ^ 20 = a.n.ident then
    let n := a.n.write 1 0x19 0x000B 642 0 p fun r m => m.event r
    { a with n := { n with due := n.due ++ [React.secMsg n.ident 0xB p] } }
  else a.on fun n => n.sendRec t (root % 2 ^ 20) 1 0x19 0x000B 642 p

/-- After a power loss (R435): the holdings that the history store names and that are not held any more. -/
def Abl.holdingsLost (a : Abl) : Abl :=
  let gone := a.hist.tab.holdings.filter fun h => !a.sec.shares.any fun s => s.jobtag == h.1 && s.gen == 1
  let a := a.onTab fun tab => { tab with holdings := tab.holdings.filter fun h => !gone.contains h }
  gone.foldl (fun a h => a.tellLost h.1 h.2.1 h.2.2) a

/-- Shares lost with an HBM channel (R435): SHARES_LOST to each affected root. -/
def Abl.sharesLost (a : Abl) (c : Nat) : Abl :=
  let gone := (a.sec.shares.zipIdx.filter fun p => Config.shareLost c p.2).map fun p => p.1
  let keys := (gone.map fun s => (s.jobtag, s.cut)).eraseDups
  let a := a.dropShares fun s => gone.contains s
  keys.foldl (fun a k =>
    a.tellLost k.1 k.2 (match a.n.jobSlot k.1 with | some j => (a.jobA j).root | none => lookupD a.sec.offTree k.1 0)) a

/-- An engine reset of the Securing Engine (R448). -/
def Abl.secReset (a : Abl) : Abl :=
  let a := (a.sec.cuts.filter fun x => !x.ended).foldl (fun a x =>
    let k := x.awaits.length + (a.sec.shares.filter fun s => s.jobtag == x.jobtag && !s.complete).length
    let j := (a.n.jobSlot x.jobtag).getD 0
    (a.on fun n => n.loss k 0x0150 j (some 642)).cutFail x 5) a
  a.dropShares fun s => !s.complete || s.gen == 3

/-! ## Scrubbing at job end (R439, R449, R450) -/

/-- The compression descriptors of a job, cleared with their buffers. -/
def Abl.cmpScrub (a : Abl) (t : Nat) : Abl × Nat :=
  let qs := (List.range 64).filter fun q => t != 0 && a.n.fld Reg.ABL_CMP_DESC q (8 * 52) 32 == t
  (qs.foldl (fun a q =>
    let d := a.n.rd Reg.ABL_CMP_DESC q
    let wipe (addr len : Nat) : Nat × List Nat := (addr, zeros len)
    let a : Abl := { a with out := a.out ++ [wipe (bits d 0 64) (bits d 128 64), wipe (bits d 64 64) (bits d 192 64)] }
    let a := a.onSec fun s => { s with cmps := s.cmps.filter fun c => c.q != q }
    a.on fun n => (n.wr Reg.ABL_CMP_DESC q 0).setB Reg.ABL_CMP_BUSY 0 q false) a, qs.length)

/-- Firmware closes every grant of a job (R634). -/
def Node.grantsOff (n : Node) (jobtag : Nat) : Node :=
  (List.range 16).foldl (fun (n : Node) g => if n.fld Reg.ABL_HOST_GRANT g 80 32 = jobtag then n.wr Reg.ABL_HOST_GRANT g 0 else n) n

/-- ENDING becomes GUARD (R264, R449, R450): every member child has scrubbed, and the node's own erasures are done. -/
def Abl.jobScrubDone (a : Abl) (j : Nat) : Abl :=
  let t := a.n.fld Reg.ABL_JOB j 0 32
  let x := a.jobA j
  let kids := x.members.all fun m => x.scrubbed.contains m.1
  let ctxs := (List.range 64).any fun c => a.n.ctxState c != 0 && a.n.ctxFld c 192 32 == t
  if a.n.fld Reg.ABL_JOB j 125 3 ≠ 3 || !kids || ctxs then a
  else
    let cs := a.grid.scrubbed.filter fun s => s.1 == t
    let replay := (cs.map fun s => s.2.1).sum
    let slices := (cs.map fun s => s.2.2).sum
    let hold := x.reason == 2 && a.sec.shares.any fun s => s.jobtag == t && s.gen == 1
    let erased := a.sec.shares.filter fun s => s.jobtag == t && (!hold || s.gen != 1)
    let staged := a.sec.staged.filter fun s => s.jobtag == t
    let shareBytes := (erased.map fun s => s.bytes.length).sum + (staged.map fun s => s.len).sum
    let a : Abl := { a with out := a.out ++ staged.map fun s => (s.addr, zeros s.len), n := a.n.grantsOff t }
    let a := a.dropShares fun s => s.jobtag == t && (!hold || s.gen != 1)
    let a := a.onSec fun s => { s with
      staged := s.staged.filter (fun y => y.jobtag != t), cuts := s.cuts.filter (fun y => y.jobtag != t),
      restTrays := s.restTrays.filter (fun y => y.tag != t), reqAt := s.reqAt.filter (fun y => y.1 != t),
      holds := if hold then bindKey s.holds t (a.n.local + a.n.rd Reg.ABL_SEC_HOLD_S * 1000000000) else s.holds }
    let off := if x.root % 2 ^ 20 = a.n.ident then a.offHolders t (a.root t).last else []
    let a := if x.reason = 2 then a else off.foldl (fun a h => a.secFrame h t 0x101 [t, a.n.ident]) a
    let (a, descs) := a.cmpScrub t
    let (a, objs) := a.jobRelease j
    let a : Abl := { a with grid := { a.grid with scrubbed := a.grid.scrubbed.filter fun s => s.1 != t } }
    a.on fun n =>
      let n := n.emit t 0 0x15 0x0003 651 (scrubOpen t n.ident 1 objs (replay + shareBytes) n.tideline ++ le 4 cs.length ++ le 4 slices ++ le 8 replay ++
        le 4 erased.length ++ le 4 descs ++ le 8 shareBytes)
      (n.setFld Reg.ABL_JOB j 125 3 4).setFld Reg.ABL_JOB j 32 32 ((n.now + 8000000) % 2 ^ 32)

/-- HOLD_S after an escalated JOB_END (R439): the kept generation is scrubbed, and holders off the tree are told. -/
def Abl.holdExpiry (a : Abl) : Abl :=
  (a.sec.holds.filter fun h => decide (h.2 ≤ a.n.local)).foldl (fun a h =>
    let t := h.1
    let off := a.offHolders t (a.root t).last
    let a := (a.secReleased t).onSec fun s => { s with holds := s.holds.filter (fun x => x.1 != t), roots := s.roots.filter fun r => r.jobtag != t }
    off.foldl (fun a x => a.secFrame x t 0x101 [t, a.n.ident]) a) a

/-- A job ends (R439): its pass is cancelled, and a restore of it goes on. -/
def Abl.secJobEnd (a : Abl) (t : Nat) : Abl :=
  if a.isRoot t then a.passCancel t 2 0 true else a

/-! ## The Compression Engine (R446, R447, R457, R458) -/

/-- A descriptor starts. -/
def Abl.cmpSubmit (a : Abl) (q : Nat) : Abl :=
  if !a.n.bit Reg.ABL_CMP_CTRL 0 0 || a.n.bit Reg.ABL_CMP_BUSY 0 q then a
  else (a.onSec fun s => { s with cmps := s.cmps ++ [{ q := q, at_ := a.n.local }] }).on fun n => n.setB Reg.ABL_CMP_BUSY 0 q true

/-- What a descriptor gives: status, output, and blocks. -/
def cmpRun (d : Nat) (src : List Nat) : Nat × List Nat × Nat :=
  let op := bits d 256 8
  let cap := bits d 192 64
  let size := (bits d 272 8 + 1) * 4096
  if src.isEmpty then (stZero, [], 0)
  else if 2 < op then (stBad, [], 0)
  else if op = 2 then
    if src.length < 16 || leAt src 0 4 != 0x31424D43 then (stBad, [], 0)
    else if cap < leAt src 8 8 then (stNoSpace, [], 0)
    else match uncontain src with
      | some b => (stOk, b, (leAt src 8 8 + leAt src 4 4 - 1) / leAt src 4 4)
      | none => (stBad, [], 0)
  else
    let c := container op size src
    if cap < c.length then (stNoSpace, [], 0) else (stOk, c, (src.length + size - 1) / size)

/-- A descriptor completes: `src` is what memory holds at SRC.  A DEFLATE that exceeds DST_CAP leaves its destination undefined: `junk`. -/
def Abl.cmpDone (a : Abl) (q : Nat) (src : List Nat) (junk : Nat → Nat) : Abl :=
  if !a.n.bit Reg.ABL_CMP_BUSY 0 q then a
  else
    let d := a.n.rd Reg.ABL_CMP_DESC q
    let (st, o, blocks) := cmpRun d src
    let dst := bits d 64 64
    let open_ := st == stNoSpace && bits d 256 8 != 2
    let a : Abl := { a with out := a.out ++ (if open_ then [(dst, (List.range (bits d 192 64)).map junk)] else if o.isEmpty then [] else [(dst, o)]) }
    let a := a.onSec fun s => { s with cmps := s.cmps.filter fun c => c.q != q }
    a.on fun n =>
      let n := (((n.setFld Reg.ABL_CMP_DESC q 288 16 st).setFld Reg.ABL_CMP_DESC q 320 64 o.length).setFld Reg.ABL_CMP_DESC q 384 32 blocks)
      let n := n.setB Reg.ABL_CMP_BUSY 0 q false
      let n := if st = stNoSpace then n.bump Reg.ABL_CMP_EXHAUSTED else n
      let n := (n.wr Reg.ABL_CMP_IN_BYTES 0 (n.rd Reg.ABL_CMP_IN_BYTES + src.length)).wr Reg.ABL_CMP_OUT_BYTES 0 (n.rd Reg.ABL_CMP_OUT_BYTES + o.length)
      if bit d 264 then n.irq 73 else n

/-- An engine reset of the Compression Engine (R448). -/
def Abl.cmpReset (a : Abl) : Abl :=
  let qs := a.sec.cmps.map fun c => c.q
  let a := a.onSec fun s => { s with cmps := [] }
  a.on fun n => (qs.foldl (fun n q => (n.setFld Reg.ABL_CMP_DESC q 288 16 stCancelled).setB Reg.ABL_CMP_BUSY 0 q false) n).loss qs.length 0x0160 0 (some 643)

end Sys2Proof.Machine
end

