-- ==== Sys2Proof/Machine/LedgerOps.lean ====
section
/-!
DEFINITION. The die ledger (R491 to R496, R525, R526): the bytes of a snapshot, changes and the journal, and the mount.
-/

namespace Sys2Proof.Machine

/-! ## Sections of a snapshot as bytes (R492, R493) -/

/-- CONTROL. -/
def DieImage.control (m : DieImage) : List Nat :=
  padTo 256 (le 4 m.index ++ le 4 m.tray ++ [m.port % 256, 0, 0, 0] ++ le 4 m.moves ++ le 4 m.firstMount ++ le 4 m.reconciled ++ le 4 m.fails ++
    le 4 m.proposals ++ le 4 m.campaigns)

/-- One entry of CHANNELS. -/
def DieImage.chan (m : DieImage) (c : Nat) : Bool × Nat := ((m.chans.find? fun x => x.1 == c).map fun x => x.2).getD (false, 0)

/-- CHANNELS. -/
def DieImage.channels (m : DieImage) : List Nat :=
  padTo 2048 ((List.range 154).flatMap fun c => le 8 ((m.chan c).2 % 2 ^ 32 + b2n (m.chan c).1 * 2 ^ 63))

/-- CALIB: a diode's bit 31 and bits [5:0] in bits 7 and [5:0] of its byte. -/
def DieImage.calib (m : DieImage) : List Nat :=
  padTo 1536 ((List.range 152).flatMap (fun c => le 4 (lookupD m.cal c (Reg.DDU_SNS_CAL.rst c))) ++ (List.range 7).flatMap (fun i => le 2 (m.tedges.getD i 0)) ++
    (List.range 512).map fun u => let v := lookupD m.diodes u 0; v % 64 + bits v 31 1 * 128)

/-- PHASE. -/
def DieImage.phase (m : DieImage) : List Nat :=
  let p : PwrX := { phases := m.phases }
  (List.range 64).flatMap p.phaseBytes

/-- A unit entry. -/
def UnitEnt.bytes (x : UnitEnt) : List Nat :=
  le 16 x.cells ++ [x.state % 4 + 4 * b2n x.isolated, x.worst % 256] ++ le 2 x.worstFails ++ le 2 (min 65535 x.fails) ++ zeros 2 ++ le 4 x.stateAt ++ le 4 x.isoAt

/-- UNITS. -/
def DieImage.unitBytes (m : DieImage) : List Nat := (List.range 512).flatMap fun u => (m.unit u).bytes

/-- The body of a snapshot: +0x0100 to +0x5FFF. -/
def DieImage.body (m : DieImage) : List Nat := m.control ++ m.channels ++ m.calib ++ m.phase ++ m.unitBytes

/-- HEADER. -/
def LedHalf.header (h : LedHalf) (half : Nat) : List Nat :=
  let b := [0x5A, 0x0A + half] ++ le 2 h.format ++ le 2 h.alt ++ zeros 2 ++ le 8 h.seq ++ le 4 h.ltime ++ le 4 (crc32c h.image.body) ++ zeros 228
  b ++ le 4 (crc32c b)

/-- A snapshot; of another format than 1 the body is open. -/
def LedHalf.bytes (h : LedHalf) (half : Nat) : List Nat :=
  if h.format = 1 then h.header half ++ h.image.body else (List.range 24576).map fun i => Config.oldFormatByte h.format i % 256

/-! ## Sections read back -/

/-- An image with CONTROL replaced. -/
def DieImage.setControl (m : DieImage) (b : List Nat) : DieImage :=
  { m with
    index := leAt b 0 4, tray := leAt b 4 4, port := leAt b 8 1, moves := leAt b 12 4, firstMount := leAt b 16 4,
    reconciled := leAt b 20 4, fails := leAt b 24 4, proposals := leAt b 28 4, campaigns := leAt b 32 4 }

/-- An image with CHANNELS replaced. -/
def DieImage.setChannels (m : DieImage) (b : List Nat) : DieImage :=
  let one (c : Nat) : Nat × Bool × Nat := (c, bit (leAt b (8 * c) 8) 63, leAt b (8 * c) 4)
  { m with chans := ((List.range 154).map one).filter fun x => x.2.1 || x.2.2 != 0 }

/-- An image with CALIB replaced. -/
def DieImage.setCalib (m : DieImage) (b : List Nat) : DieImage :=
  let cal := (List.range 152).map fun c => (c, leAt b (4 * c) 4)
  let dio := (List.range 512).map fun u => let v := leAt b (622 + u) 1; (u, v % 64 + bits v 7 1 * 2 ^ 31)
  { m with
    cal := cal.filter fun p => p.2 != Reg.DDU_SNS_CAL.rst p.1
    tedges := (List.range 7).map fun i => leAt b (608 + 2 * i) 2
    diodes := dio.filter fun p => p.2 != 0 }

/-- A phase entry from its bytes. -/
def phaseOf (e : Nat) (b : List Nat) : PhaseEnt :=
  { e := e, source := bits (leAt b 0 1) 1 1, phase := leAt b 1 1, samples := leAt b 2 2,
    sig := (List.range 8).map (fun c => bits (leAt b 4 4) (4 * c) 4), share := (List.range 8).map (fun c => leAt b (8 + c) 1),
    demand := leAt b 16 2, avg := leAt b 18 2, ltime := leAt b 20 4, classW := (List.range 8).map (fun c => leAt b (24 + 2 * c) 2),
    job := leAt b 40 4 }

/-- An image with PHASE replaced. -/
def DieImage.setPhase (m : DieImage) (b : List Nat) : DieImage :=
  { m with phases := ((List.range 64).filter fun e => bit (leAt b (64 * e) 1) 0).map fun e => phaseOf e ((b.drop (64 * e)).take 64) }

/-- A unit entry from its bytes. -/
def unitOf (u : Nat) (b : List Nat) : UnitEnt :=
  { u := u, cells := leAt b 0 16, state := leAt b 16 1 % 4, isolated := bit (leAt b 16 1) 2, worst := leAt b 17 1, worstFails := leAt b 18 2,
    fails := leAt b 20 2, stateAt := leAt b 24 4, isoAt := leAt b 28 4 }

/-- An image with UNITS replaced. -/
def DieImage.setUnits (m : DieImage) (b : List Nat) : DieImage :=
  { m with units := ((List.range 512).map fun u => unitOf u ((b.drop (32 * u)).take 32)).filter fun x => x != { u := x.u } }

/-- An image from a snapshot body. -/
def imageOf (b : List Nat) : DieImage :=
  (((((({} : DieImage).setControl (b.take 256)).setChannels ((b.drop 256).take 2048)).setCalib ((b.drop 2304).take 1536)).setPhase
    ((b.drop 3840).take 4096)).setUnits ((b.drop 7936).take 16384))

/-- Sections in the order of R492's table: 1 CONTROL, 2 CHANNELS, 3 CALIB, 4 PHASE, 5 UNITS; 0 is HEADER. (DESIGN CHOICE: log 71.) -/
def DieImage.section_ (m : DieImage) (k : Nat) : List Nat :=
  match k with | 1 => m.control | 2 => m.channels | 3 => m.calib | 4 => m.phase | 5 => m.unitBytes | _ => []

/-- An image with bytes of one section replaced from an offset on. -/
def DieImage.patch (m : DieImage) (k off : Nat) (data : List Nat) : DieImage :=
  let old := m.section_ k
  let b := (old.take off ++ data ++ old.drop (off + data.length)).take old.length
  match k with | 1 => m.setControl b | 2 => m.setChannels b | 3 => m.setCalib b | 4 => m.setPhase b | 5 => m.setUnits b | _ => m

/-! ## The medium -/

/-- MOUNT (R532). -/
def Ddu.dlMount (d : Ddu) : Nat := d.n.fld Reg.DDU_DL_STATUS 0 0 3

/-- The current half. -/
def Ddu.dlHalf (d : Ddu) : Nat := d.n.fld Reg.DDU_DL_STATUS 0 4 1

/-- A half. -/
def LedgerX.half (l : LedgerX) (h : Nat) : Option LedHalf := if h = 0 then l.a else l.b
def LedgerX.setHalf (l : LedgerX) (h : Nat) (x : Option LedHalf) : LedgerX := if h = 0 then { l with a := x } else { l with b := x }

/-- Bytes of the journal in use. -/
def LedgerX.used (l : LedgerX) : Nat := (l.journal.map fun j => j.1.length).sum

/-- The journal region as it reads. -/
def LedgerX.region (l : LedgerX) : List Nat := let b := l.journal.flatMap fun j => j.1; b ++ l.stale.drop b.length

/-- `k` bytes of MRAM from an address (R491). (DESIGN CHOICE: log 71.) -/
def Ddu.mram (d : Ddu) (addr k : Nat) : List Nat :=
  (List.range k).map fun i =>
    let a := addr + i
    let part (h : Nat) : Nat := match d.led.half h with
      | some x => (x.bytes h).getD (a - 0x400 - 0x6000 * h) 0
      | none => Config.mramOpen a % 256
    if a < 8 then (le 8 Config.dieSerial).getD a 0
    else if a < 0x400 then Config.dieIdent a % 256
    else if a < 0x6400 then part 0
    else if a < 0xC400 then part 1
    else if a < 0x10000 then d.led.region.getD (a - 0xC400) 0
    else 0

/-- A snapshot of the working state in a half (R495). -/
def Ddu.snapshot (d : Ddu) (h format alt seq : Nat) : Ddu :=
  { d with led := d.led.setHalf h (some { format := format, alt := alt, seq := seq, ltime := d.n.ltime, image := d.led.image }) }

/-- The journal restarts after snapshot `seq` (R495). -/
def Ddu.journalRestart (d : Ddu) (seq : Nat) : Ddu :=
  ({ d with led := { d.led with journal := [], jtag := seq, stale := d.led.region } } : Ddu).on fun n =>
    (n.wr Reg.DDU_DL_SEQ 0 seq).wr Reg.DDU_DL_JOURNAL 0 0

/-- A new snapshot (R495, R526): into the other half, and in probation F - 1 into the half that was current. -/
def Ddu.snapNext (d : Ddu) : Ddu :=
  let h := 1 - d.dlHalf
  let seq := d.rd Reg.DDU_DL_SEQ + 1
  let prob := d.n.bit Reg.DDU_DL_STATUS 0 8
  let d := d.snapshot h 1 0 seq
  let d := if prob then (d.snapshot h 1 0 seq).snapshot (1 - h) 0 1 seq else d
  (d.on fun n => n.setFld Reg.DDU_DL_STATUS 0 4 1 h).journalRestart seq

/-- Whether the firmware may write MRAM: mounted, and not DECOMMISSIONED (R496, R529). -/
def Ddu.dlWrites (d : Ddu) : Bool := d.dlMount == 2 && d.n.fld Reg.DDU_STATUS 0 8 3 != 4

/-- A record goes into the journal with its trailer (R494); more than 11,520 bytes bring a new snapshot (R495). -/
def Ddu.journalPut (d : Ddu) (r : Record) : Ddu :=
  if !d.dlWrites then d
  else
    let b := r.bytes ++ le 4 (crc32c r.bytes) ++ le 4 (d.led.jtag % 2 ^ 32)
    let d : Ddu := { d with led := { d.led with journal := d.led.journal ++ [(b, d.led.image)] } }
    let d := d.wr Reg.DDU_DL_JOURNAL 0 d.led.used
    if 11520 < d.led.used then d.snapNext else d

/-- A change of the working state, recorded in the journal (R494). -/
def Ddu.ledChange (d : Ddu) (f : DieImage → DieImage) : Ddu :=
  let m := f d.led.image
  if m = d.led.image then d
  else
    let d : Ddu := { d with led := { d.led with image := m } }
    let k := d.led.used
    let (r, n) := d.n.localRec 1 (Config.journalType k) (Config.journalCode k) 504 (Config.journalPayload k)
    ({ d with n := n } : Ddu).journalPut r

/-! ## What the ledger's contents act on -/

/-- Retire a lane as the ledger says (R200); the DDU enters fallback (R202). -/
def Ddu.laneRetired (d : Ddu) : Ddu :=
  d.on fun n => ((n.modLane 0 0 fun l => { l with st := lsRetired, wire := [] }).setChan { src := 1001, st := 3 }).fbEnter

/-- Load calibration, retirements and isolations (R496). -/
def Ddu.ledLoad (d : Ddu) : Ddu :=
  let m := d.led.image
  let d := d.on fun n =>
    let n := (List.range 152).foldl (fun (n : Node) c => n.wr Reg.DDU_SNS_CAL c (lookupD m.cal c (Reg.DDU_SNS_CAL.rst c))) n
    let n := (List.range 7).foldl (fun (n : Node) i => n.wr Reg.DDU_CELL_TEDGE i (m.tedges.getD i 0)) n
    let n := (List.range 512).foldl (fun (n : Node) u => n.wr Reg.DDU_UNIT_DIODE u (lookupD m.diodes u 0)) n
    let one (n : Node) (src : Nat) (ret : Bool) : Node :=
      if ret then n.setChan { src := src, st := 3 } else if (n.chan src 255).st = 3 then n.setChan { src := src, since := n.local } else n
    let n := (List.range 152).foldl (fun (n : Node) c => one (n.setB Reg.DDU_SNS_STATE c 31 (m.chan c).1) c (m.chan c).1) n
    let n := one n 1000 (m.chan 153).1
    (List.range 512).foldl (fun (n : Node) u => n.setArr Reg.DDU_FLT_ISO u (m.unit u).isolated) n
  if (m.chan 152).1 then d.laneRetired else d

/-- The phase table goes into the power controller (R496). -/
def Ddu.ledPower (d : Ddu) : Ddu := { d with pw := { d.pw with phases := d.led.image.phases } }

/-! ## Mount -/

/-- The registers after a mount: MOUNT, HALF and FORMAT. -/
def Ddu.dlSet (d : Ddu) (mount half format alt seq : Nat) : Ddu :=
  d.on fun n => (((((n.setFld Reg.DDU_DL_STATUS 0 0 3 mount).setFld Reg.DDU_DL_STATUS 0 4 1 half).wr Reg.DDU_DL_FORMAT 0 (alt * 65536 + format)).wr
    Reg.DDU_DL_SEQ 0 seq).wr Reg.DDU_DL_JOURNAL 0 d.led.used).wr Reg.DDU_DL_SERIAL 0 Config.dieSerial

/-- FORMAT_CHANGE of the die ledger (R530): 1 migrate, 2 rollback, 3 commit. -/
def Ddu.dlFormat (d : Ddu) (old new what : Nat) : Ddu :=
  d.on fun n => n.emit 0 1 0x1B 0x0030 504 (le 4 (n.tideline / 2 ^ 32) ++ le 2 old ++ le 2 new ++ [what, 1] ++ zeros 6) 8

/-- One fault event of unit 504 with CAL_MISSING (R496). -/
def Ddu.dlMissing (d : Ddu) : Ddu := d.on fun n => (n.setB Reg.DDU_DL_STATUS 0 6 true).fault 504 0 0 0 0

/-- Replay the journal over a snapshot: the slots of its SEQ up to the first that fails (R495). -/
def LedgerX.replay (l : LedgerX) (h : LedHalf) (good : Nat) : LedgerX × DieImage :=
  let js := if l.jtag = h.seq then l.journal.take good else []
  ({ l with journal := js, jtag := h.seq, stale := l.region }, match js.getLast? with | some j => j.2 | none => h.image)

/-- The mount check (R496, R525).  `bad` bits 0 and 1: a CRC of half A or B fails; `good` is the number of journal slots that pass. (DESIGN CHOICE: log 71.) -/
def Ddu.ledMount (d : Ddu) (bad good : Nat) : Ddu :=
  if !d.live || 2 ≤ d.dlMount then d
  else
    let gone (h : Nat) : Bool := bit bad h && (d.led.half h).isSome
    let errs := b2n (gone 0) + b2n (gone 1) + b2n (decide (good < d.led.journal.length))
    let d := (d.bump Reg.DDU_DL_ERRORS 0 errs).on fun n => if good < d.led.journal.length then n.malformed 504 else n
    let l := if gone 0 then d.led.setHalf 0 none else d.led
    let l := if gone 1 then l.setHalf 1 none else l
    let newer (x y : LedHalf) : Bool := decide (y.seq < x.seq) || (x.seq == y.seq && decide (y.format ≤ x.format))
    let pick : Option (Nat × LedHalf) := match l.a, l.b with
      | some x, some y => if newer x y then some (0, x) else some (1, y)
      | some x, none => some (0, x)
      | none, some y => some (1, y)
      | none, none => none
    let refused (d : Ddu) (h : Nat) (x : LedHalf) : Ddu :=
      ((({ d with led := { d.led with image := {} } } : Ddu).dlSet 3 h x.format x.alt x.seq).ledLoad.ledPower).dlMissing
    match pick with
    | none =>
      let d : Ddu := { d with led := { l with image := {} } }
      let d := (d.snapshot 0 1 0 1).journalRestart 1
      let d := (d.dlSet 2 0 1 0 1).on fun n => n.setB Reg.DDU_DL_STATUS 0 7 true
      d.ledLoad.ledPower.dlMissing
    | some (h, x) =>
      if x.format = 1 then
        let (l, m) := l.replay x good
        let prob := match l.half (1 - h) with | some y => decide (y.format = 0) && decide (y.alt = 1) | none => false
        ((({ d with led := { l with image := m } } : Ddu).dlSet 2 h 1 (if prob then 0 else x.alt) x.seq).on fun n => n.setB Reg.DDU_DL_STATUS 0 8 prob).ledLoad.ledPower
      else if x.format = 0 then
        let (l, m) := l.replay x good
        let d : Ddu := { d with led := { l with image := m } }
        let d := ((d.snapshot (1 - h) 1 0 (x.seq + 1)).snapshot h 0 1 (x.seq + 1)).journalRestart (x.seq + 1)
        let d := (d.dlSet 2 (1 - h) 1 0 (x.seq + 1)).on fun n => n.setB Reg.DDU_DL_STATUS 0 8 true
        d.ledLoad.ledPower.dlFormat 0 1 1
      else if x.format = 2 && x.alt = 1 then
        match l.half (1 - h) with
        | some y =>
          if y.format = 1 then
            let (l, m) := l.replay y good
            ((({ d with led := { l with image := m } } : Ddu).dlSet 2 (1 - h) 1 0 y.seq).ledLoad.ledPower).dlFormat 2 1 2
          else refused { d with led := l } h x
        | none => refused { d with led := l } h x
      else refused { d with led := l } h x

/-- The F - 1 half is freed at the end of probation (R526). -/
def Ddu.dlCommit (d : Ddu) : Ddu :=
  if d.n.bit Reg.DDU_DL_STATUS 0 8 then
    let d : Ddu := { d with led := d.led.setHalf (1 - d.dlHalf) none }
    (d.on fun n => (n.setB Reg.DDU_DL_STATUS 0 8 false).setFld Reg.DDU_DL_FORMAT 0 16 16 0).dlFormat 0 1 3
  else d

/-! ## Changes that the die makes itself -/

/-- A unit's isolation (R468, R493). -/
def Ddu.ledIsolate (d : Ddu) (u : Nat) (on_ : Bool) : Ddu :=
  if 512 ≤ u then d else d.ledChange fun m => m.putUnit { m.unit u with isolated := on_, isoAt := d.n.ltime }

/-- CHANNELS' index of a channel of the DDU: a sensor channel, 1001 the lane, 1000 the regulator path. -/
def chanIdx (c : Nat) : Nat := if c = 1001 then 152 else if c = 1000 then 153 else c

/-- A channel's retirement or its end (R200, R468). -/
def Ddu.ledChan (d : Ddu) (c : Nat) (retired : Bool) : Ddu :=
  d.ledChange fun m => { m with chans := (chanIdx c, retired, d.n.ltime) :: m.chans.filter fun x => x.1 != chanIdx c }

/-- Calibration as the registers hold it. -/
def Ddu.ledCal (d : Ddu) : Ddu :=
  d.ledChange fun m =>
    { m with
      cal := ((List.range 152).map fun c => (c, d.rd Reg.DDU_SNS_CAL c)).filter fun p => p.2 != Reg.DDU_SNS_CAL.rst p.1
      tedges := (List.range 7).map fun i => d.rd Reg.DDU_CELL_TEDGE i
      diodes := ((List.range 512).map fun u => (u, d.rd Reg.DDU_UNIT_DIODE u)).filter fun p => p.2 != 0 }

/-- The phase table is written into the ledger (R553). -/
def Ddu.ledPhases (d : Ddu) : Ddu := d.ledChange fun m => { m with phases := d.pw.phases }

/-- DIE_LEDGER op 2 (R522, R620): bytes of a section, applied to the ledger and to what it acts on.  A write of CALIB ends CAL_MISSING;
one that stamps RECONCILED in CONTROL completes the reconciliation. -/
def Ddu.ledWrite (d : Ddu) (k off : Nat) (data : List Nat) : Ddu :=
  let was := d.led.image.reconciled
  let d := (d.ledChange fun m => m.patch k off data).ledLoad
  let d := if k = 4 then d.ledPower else d
  let d := if k = 3 then d.on fun n => n.setB Reg.DDU_DL_STATUS 0 6 false else d
  if d.led.image.reconciled ≠ was then d.on fun n => n.setB Reg.DDU_DL_STATUS 0 5 true else d

end Sys2Proof.Machine
end

