-- ==== Sys2Proof/Machine/ReconOps.lean ====
section
/-!
DEFINITION. Reconciliation of a die with the tray's store (R520 to R523).
-/

namespace Sys2Proof.Machine

/-- Send DIE_LEDGER reads for a section (R520, R620), 1,968 bytes each. -/
def Node.ledRead (n : Node) (port k len : Nat) : Node :=
  (List.range ((len + 1967) / 1968)).foldl (fun n i =>
    n.dieCmd port 0x100A ([1, 0] ++ le 2 k ++ le 4 (1968 * i) ++ le 2 (min 1968 (len - 1968 * i)) ++ zeros 6)) n

/-- Send DIE_LEDGER writes for a section. -/
def Node.ledSend (n : Node) (port k : Nat) (b : List Nat) : Node :=
  (List.range ((b.length + 1967) / 1968)).foldl (fun n i =>
    let part := (b.drop (1968 * i)).take 1968
    n.dieCmd port 0x100A ([2, 0] ++ le 2 k ++ le 4 (1968 * i) ++ le 2 part.length ++ zeros 6 ++ part)) n

/-- The exchange of R520 begins: the die is wholly suspect, its HVALID bits are clear, and its sections are asked for. -/
def Abl.reconStart (a : Abl) (port : Nat) : Abl :=
  let a := a.onHist fun h => { h with
    reconciled := h.reconciled.filter fun p => p != port
    retry := if h.retry.contains port then h.retry else h.retry ++ [port] }
  let a := a.stageSuspect port
  a.on fun n => (((((n.wr Reg.ABL_TREE_HVALID port 0).ledRead port 0 256).ledRead port 1 256).ledRead port 2 2048).ledRead port 3 1536).ledRead port 5 16384

/-- Whether the tray reconciles the die of a port: a tray whose store is mounted (R520). -/
def Abl.reconciles (a : Abl) (port : Nat) : Bool := decide (port < 16) && a.n.role == 1 && (a.hsMount == 2 || a.hsMount == 4)

/-- A lane came up (R520): the first time after the write of R194. -/
def Abl.reconUp (a : Abl) (port : Nat) : Abl :=
  if a.reconciles port && !a.hist.reconciled.contains port then a.reconStart port else a

/-- The cells of a unit that hold a failure within the window, as CELL_MAP. -/
def HistTab.cellMap (t : HistTab) (serial u ltime w : Nat) : Nat :=
  (t.cellsOf serial u).foldl (fun v y => setBit v y.cell (decide (0 < y.count ltime w))) 0

/-- Merge of a unit entry (R522): `t` is the tray's, `d` the die's; CELL_MAP, WORST_CELL and WORST_FAILS are the tray's while it holds cell
records of the unit. (DESIGN CHOICE: log 72.) -/
def mergeUnit (now : Nat) (tab : HistTab) (serial w : Nat) (t d : UnitEnt) : UnitEnt :=
  let die := t.stateAt < d.stateAt || (t.stateAt == d.stateAt && decide (t.state < d.state))
  let st := if die then d.state else t.state
  let at_ := if die then d.stateAt else t.stateAt
  let isoDie := t.isoAt < d.isoAt || (t.isoAt == d.isoAt && d.isolated)
  let held := !(tab.cellsOf serial t.u).isEmpty
  { u := t.u, cells := if held then tab.cellMap serial t.u now w else d.cells, state := if st = 3 then 1 else st,
    stateAt := if st = 3 then now else at_, isolated := if isoDie then d.isolated else t.isolated, isoAt := if isoDie then d.isoAt else t.isoAt,
    worst := if held then t.worst else d.worst, worstFails := if held then t.worstFails else d.worstFails, fails := max t.fails d.fails }

/-- Merge of a channel (R522). -/
def mergeChan (t d : Bool × Nat) : Bool × Nat := if t.2 < d.2 || (t.2 == d.2 && d.1) then d else t

/-- Merge of an image (R522): `ok` says that the die's snapshot is valid. (DESIGN CHOICE: log 72.) -/
def mergeImage (now : Nat) (tab : HistTab) (serial w : Nat) (ok : Bool) (t d : DieImage) : DieImage :=
  let cal := if ok then d else t
  { t with
    moves := max t.moves d.moves, fails := max t.fails d.fails, proposals := max t.proposals d.proposals, campaigns := max t.campaigns d.campaigns,
    firstMount := if t.firstMount = 0 then d.firstMount else t.firstMount,
    cal := cal.cal, tedges := cal.tedges, diodes := cal.diodes, phases := cal.phases,
    chans := ((List.range 154).map fun c => (c, mergeChan (t.chan c) (d.chan c))).filter fun x => x.2.1 || x.2.2 != 0,
    units := ((List.range 512).map fun u => mergeUnit now tab serial w (t.unit u) (d.unit u)).filter fun x => x != { u := x.u } }

/-- The cell records that a die of another tray brings (R521, MOVED_IN). (DESIGN CHOICE: log 72.) -/
def importCells (serial : Nat) (m : DieImage) : List CellRec :=
  m.units.flatMap fun x => (setBitsOf 128 x.cells).map fun c =>
    let k := if c = x.worst then x.worstFails else 1
    { serial := serial, unit := x.u, cell := c, imported := true,
      fails := (List.range (min 16 k)).map fun i =>
        let v := Config.importSlot serial x.u c i
        { epoch := v % 2 ^ 32, jobtag := bits v 32 32, ltime := x.stateAt } }

/-- The case of R521, tested in the order 4, 5, 1, 2, 3; a serial that is known and not departed but stood at another port counts as a
RETURN. (DESIGN CHOICE: log 72.) -/
def reconCase (tab : HistTab) (port serial : Nat) (fresh : Bool) : Nat :=
  let known := tab.dies.any fun d => d.serial == serial
  if fresh then (if known then 4 else 5)
  else if lookupD tab.ports port 0 = serial && known then 1
  else if known then 2
  else 3

/-- The case of a die that is at a port of the tray: flags bit 0 says that its ledger is FRESH or REFUSED. -/
def Abl.reconCase (a : Abl) (port serial flags : Nat) : Nat := Machine.reconCase a.hist.tab port serial (bit flags 0)

/-- The cell records that come with the die. -/
def Abl.reconCells (a : Abl) (port serial flags : Nat) (body : List Nat) : List CellRec :=
  if a.reconCase port serial flags = 3 then importCells serial (imageOf body) else []

/-- The merged image of the die (R521, R522): flags bit 1 says that its snapshot is valid. -/
def Abl.reconImage (a : Abl) (port serial flags : Nat) (body : List Nat) : DieImage :=
  let tab := a.hist.tab
  let now := a.n.ltime
  let die := imageOf body
  let was := (tab.die serial).image
  let k := a.reconCase port serial flags
  let m : DieImage := match k with
    | 3 => mergeImage now tab serial a.n.windowH true die die
    | 4 => mergeImage now tab serial a.n.windowH false was {}
    | 5 => { firstMount := now }
    | _ => mergeImage now tab serial a.n.windowH (bit flags 1) was die
  { m with index := a.n.dieOf port, tray := a.n.ident, port := port, reconciled := now, moves := if k = 2 ∨ k = 3 then m.moves + 1 else m.moves }

/-- The tray's tables after the merge: the die's entry, and the end of the entry that was at the port (R521). -/
def Abl.reconTab (a : Abl) (port serial flags : Nat) (body : List Nat) : HistTab :=
  let last := lookupD a.hist.tab.ports port 0
  let t := (a.reconCells port serial flags body).foldl HistTab.putCell a.hist.tab
  let t := t.putDie { serial := serial, image := a.reconImage port serial flags body, port := port, departed := 0 }
  let t := if 2 ≤ a.reconCase port serial flags && last != serial && last != 0 then t.putDie { t.die last with departed := a.n.ltime } else t
  { t with ports := bindKey t.ports port serial }

/-- The die is reconciled: the tables hold the merge, and the port waits for no retry. -/
def Abl.reconTake (a : Abl) (port serial flags : Nat) (body : List Nat) : Abl :=
  a.onHist fun h => { h with
    tab := a.reconTab port serial flags body, reconciled := port :: h.reconciled.filter (fun p => p != port), retry := h.retry.filter fun p => p != port }

/-- What the tray does with the merge (R522, R530): each unit whose state it changes writes UNIT_STATE (R407), the image goes to the die, and the case
is recorded.  `was` is the image that the tray held; that of a die new to the tray is the die's. -/
def Abl.reconTell (a : Abl) (port serial k last flags : Nat) (was img die : DieImage) (cells : Nat) : Abl :=
  let differs (x y : DieImage) : Nat := ((List.range 512).filter fun u => x.unit u != y.unit u).length
  let changed := ((List.range 512).filter fun u => (was.unit u).state != (img.unit u).state || (was.unit u).isolated != (img.unit u).isolated).length
  let a := if last = serial then a else a.riskReset port
  let before (u : Nat) : Nat :=
    if (die.unit u).state == 3 && (img.unit u).state == 1 then 3 else if k = 3 then (die.unit u).state else (was.unit u).state
  let a := ((List.range 512).filter fun u => before u != (img.unit u).state).foldl (fun (a : Abl) u =>
    let c := (img.unit u).worst
    a.on fun n => n.emit 0 1 0x18 0x0006 0 (le 4 (n.dieOf port) ++ le 2 u ++ [before u, (img.unit u).state, c, 6] ++
      le 2 ((a.hist.tab.cell serial u c).count n.ltime n.windowH) ++ zeros 4)) a
  let a := a.on fun n => n.wr Reg.ABL_VER_UNITS port (img.units.foldl (fun v x => v + x.state % 4 * 4 ^ x.u) 0)
  let obs := a.ver.obs.filter fun o => o.die != a.n.dieOf port
  let mine : List ObsX := (img.units.filter fun x => x.state == 1).map fun x => { die := a.n.dieOf port, unit := x.u, since := x.stateAt }
  let a : Abl := { a with ver := { a.ver with obs := mine ++ obs } }
  let a := a.on fun n =>
    let n := ((n.ledSend port 5 img.unitBytes).ledSend port 2 img.channels)
    let n := if k = 4 || (k != 5 && !bit flags 1) then (n.ledSend port 3 img.calib).ledSend port 4 img.phase else n
    n.ledSend port 1 img.control
  let a := a.on fun n => n.emit 0 1 0x1B 0x0020 650 (le 4 (n.tideline / 2 ^ 32) ++ le 8 serial ++ le 4 (n.dieOf port) ++ [k, 0] ++ le 2 changed ++
    le 2 cells ++ le 2 (differs die img) ++ le 4 die.tray ++ zeros 4) 8
  (((a.hsTable 0).stageSuspect port).unitWords port).faultWords port

/-- RECONCILE (R521, R522, R530): flags bit 0 the die's ledger is FRESH or REFUSED, bit 1 its snapshot is valid; `body` is the die's snapshot
body. (DESIGN CHOICE: log 72.) -/
def Abl.reconcile (a : Abl) (port serial flags : Nat) (body : List Nat) : Abl :=
  if !a.reconciles port then a
  else (a.reconTake port serial flags body).reconTell port serial (a.reconCase port serial flags) (lookupD a.hist.tab.ports port 0) flags
    (a.hist.tab.die serial).image (a.reconImage port serial flags body) (imageOf body) (a.reconCells port serial flags body).length

/-- RECONCILE_RETRY (R523): each die that is not reconciled counts a fault event on its unit 504 and is asked again. -/
def Abl.reconRetry (a : Abl) : Abl :=
  a.hist.retry.foldl (fun a port =>
    let a : Abl := { a with gov := { a.gov with faults := (port, a.n.local) :: a.gov.faults } }
    (a.reconStart port).faultWords port) a

end Sys2Proof.Machine
end

