-- ==== Sys2Proof/Machine/StoreOps.lean ====
section
/-!
DEFINITION. The history store as firmware runs it (R501 to R518, R525, R526, R533): mount, isolations and retirements kept, exposure,
baselines, wear levelling, probation, exports and the controller's operations.
-/

namespace Sys2Proof.Machine

/-! ## Sources kept (R468, R508) -/

/-- The key of a source and child-port slot in the Sources table; 255 for a source without slots. -/
def sourceKey (src slot : Nat) : Nat := src * 256 + slot

/-- Keep an isolation (1) or a retirement (2) with its LTIME. -/
def Abl.keepSource (a : Abl) (src slot kind : Nat) : Abl :=
  (a.onTab fun t => { t with sources := bindKey t.sources (sourceKey src slot) (kind * 2 ^ 32 + a.n.ltime) }).hsTable 1

/-- A source returns to service (R469). -/
def Abl.dropSource (a : Abl) (src slot : Nat) : Abl :=
  (a.onTab fun t => { t with sources := t.sources.filter fun p => p.1 != sourceKey src slot }).hsTable 1

/-- Take one kept source out of service at power-up (R200, R468); a port without slots is kept under slot 255. -/
def Abl.applySource (a : Abl) (key v : Nat) : Abl :=
  let src := key / 256
  let slot := key % 256
  let a := a.on fun n => n.setArr Reg.ABL_FLT_ISO src true
  let a := if v / 2 ^ 32 = 2 then a.on fun n => n.setChan { src := src, slot := slot, st := 3 } else a
  if src < 256 then a.coreIsolate src
  else if src < 272 then a.bankIsolate (src - 256)
  else if src < 296 && v / 2 ^ 32 = 2 then a.on fun n => n.modLane (src - 272) (if slot < 4 then slot else 0) fun l => { l with st := lsRetired }
  else a

/-! ## Moving a block (R506, R515) -/

/-- A record as it lies on flash, with its trailer (R499). (DESIGN CHOICE: log 73.) -/
def HsRec.slotBytes (x : HsRec) : List Nat := x.bytes ++ le 4 (crc32c x.bytes) ++ le 4 (x.jseq % 2 ^ 32)

/-- Move the live records of a block into a new block on every path in service; the old block is erased. -/
def Abl.blockMove (a : Abl) (b : Nat) : Abl :=
  match a.hist.blocks.find? fun x => x.b == b with
  | none => a
  | some x =>
    match a.hsOpenBlock x.role x.first with
    | none => a
    | some (c, a) =>
      let ps := a.hsPaths
      let a := if x.role = 1 then (a.hist.log.filter fun r => r.block == b).foldl (fun (a : Abl) r => a.hsProgram ps (65536 * c + r.off) r.slotBytes) a
        else a.hsProgram ps (65536 * c + 256) (a.hist.read (ps.headD 0) (65536 * b + 256) 65280)
      let a := a.onHist fun h => { h with
        log := h.log.map fun r => if r.block = b then { r with block := c, marks := ps } else r
        blocks := h.blocks.map fun y => if y.b = c then { y with next := x.next } else y
        ckptBlocks := h.ckptBlocks.map fun k => if k = b then c else k
        altBlocks := h.altBlocks.map fun k => if k = b then c else k
        open_ := if h.open_ = some b then some c else h.open_ }
      (a.hsErase b).hsView.superCause

/-- Wear levelling (R515): while counts differ by more than 2,000, the coldest block's live records move. (DESIGN CHOICE: log 73.) -/
def Abl.wearLevel (a : Abl) : Abl :=
  let used := a.hist.blocks.filter fun x => decide (2 ≤ x.b) && a.hist.open_ != some x.b
  let hi := (used.map fun x => a.hist.eraseCount x.b).foldl max 0
  let cold := used.foldl (fun (o : Option HsBlock) x => match o with
    | none => some x
    | some y => if a.hist.eraseCount x.b < a.hist.eraseCount y.b then some x else some y) none
  match cold with
  | some x => if a.hist.eraseCount x.b + 2000 < hi then a.blockMove x.b else a
  | none => a

/-! ## Mount (R506, R507, R525) -/

/-- Whether 256 bytes are a valid superblock of a half (R502). -/
def superOk (half : Nat) (b : List Nat) : Bool :=
  leAt b 0 1 == 0x5A && leAt b 1 1 == 0x0A + half && leAt b 252 4 == crc32c (b.take 252)

/-- The newest valid superblock of a path. -/
def HistX.newest (h : HistX) (p : Nat) : Option (List Nat) :=
  ((List.range 2).flatMap fun half => (List.range 255).map fun k => (half, 65536 * half + 256 * (k + 1))).foldl (fun (o : Option (List Nat)) x =>
    if (h.read p x.2 1).headD 0 ≠ 0x5A then o
    else
      let b := h.read p x.2 256
      if !superOk x.1 b then o
      else match o with
        | some c => if leAt c 8 8 < leAt b 8 8 then some b else some c
        | none => some b) none

/-- Whether a header of a block is valid on a path (R498). -/
def HistX.headerOk (h : HistX) (p b : Nat) : Bool :=
  let x := h.read p (65536 * b) 256
  leAt x 0 1 == 0x5A && leAt x 252 4 == crc32c (x.take 252) && (decide (b < 2) == (leAt x 1 1 == 0))

/-- Slots used of a superblock block: past the last programmed one, and all of them where its header is not valid. -/
def HistX.slotsUsed (h : HistX) (half : Nat) : Nat :=
  if !(h.headerOk 0 half || h.headerOk 1 half) then 255
  else ((List.range 255).filter fun k => [0, 1].any fun p => (h.path p).any fun c =>
    decide (65536 * half + 256 * (k + 1) ≤ c.1) && decide (c.1 < 65536 * half + 256 * (k + 2))).foldl (fun _ k => k + 1) 0

/-- Whether a stored record reads valid on a path (R500, R506). -/
def HistX.recOk (h : HistX) (p : Nat) (x : HsRec) : Bool := h.read p (65536 * x.block + x.off) x.slotBytes.length == x.slotBytes

/-- Whether a stored record's slot reads malformed on a path (R16): appended but not yet marked, it is only unwritten. -/
def HistX.slotMalformed (h : HistX) (x : HsRec) : Bool :=
  [0, 1].any fun p =>
    let b := h.read p (65536 * x.block + x.off) 8
    slotRead (leAt b 0 1) (leAt b 4 2) == .malformed

/-- Whether every 0 bit of the copy on path `p` is also 0 in the valid bytes. -/
def HistX.mayProgram (h : HistX) (p : Nat) (x : HsRec) : Bool :=
  ((h.read p (65536 * x.block + x.off) x.slotBytes.length).zip x.slotBytes).all fun v => v.1 &&& v.2 == v.2

/-- Level one record (R506, step 5). -/
def Abl.levelRec (a : Abl) (x : HsRec) : Abl :=
  (a.hsPaths.filter fun p => !a.hist.recOk p x).foldl (fun a p =>
    if a.hist.mayProgram p x then a.hsProgram [p] (65536 * x.block + x.off) x.slotBytes else a.blockMove x.block) a

/-- Whether nothing is programmed on either path in a range. -/
def HistX.erased (h : HistX) (lo hi : Nat) : Bool := [0, 1].all fun p => (h.path p).all fun c => decide (c.1 < lo) || decide (hi ≤ c.1)

/-- What the tables say is put into effect: sources, unit states, baselines, whose cells have learned already, and each die port awaits
reconciliation (R468, R520, R233). (DESIGN CHOICE: log 41.) -/
def Abl.tabApply (a : Abl) : Abl :=
  let t := a.hist.tab
  let a := t.sources.foldl (fun a p => a.applySource p.1 p.2) a
  let a := a.on fun n =>
    let n := t.ports.foldl (fun n p => n.wr Reg.ABL_VER_UNITS p.1 ((t.die p.2).image.units.foldl (fun v x => v + x.state % 4 * 4 ^ x.u) 0)) n
    t.baselines.foldl (fun n p => n.wr Reg.ABL_RED_BASE p.1 p.2) n
  let cells := t.baselines.map fun p => ({ k := p.1, count := 2 ^ 15 + 1 } : BaseX)
  let a : Abl := { a with red := { a.red with cells := cells ++ a.red.cells.filter fun x => !cells.any fun y => y.k == x.k } }
  let a := a.onHist fun h => { h with reconciled := [] }
  let a := (List.range 16).foldl (fun a p => if a.n.portUp p || lookupD t.ports p 0 ≠ 0 then a.reconUp p else a) a
  a.on fun n => (List.range 24).foldl Node.portCtrl n

/-- FORMAT_CHANGE of the store (R530): 1 migrate, 2 rollback, 3 commit. -/
def Abl.hsFormat (a : Abl) (old new what : Nat) : Abl :=
  a.on fun n => n.emit 0 1 0x1B 0x0030 650 (le 4 (n.tideline / 2 ^ 32) ++ le 2 old ++ le 2 new ++ [what, 0] ++ zeros 6) 8

/-- Steps 2 to 7 of R506 from a superblock: replay from its checkpoint, level, free, write a superblock. (DESIGN CHOICE: log 73.) -/
def Abl.mountFrom (a : Abl) (sb : List Nat) : Abl :=
  let flags := leAt sb 6 2
  let a := a.on fun n => ((((n.setFld Reg.ABL_HS_STATUS 0 0 16 1).setB Reg.ABL_HS_STATUS 0 28 (bit flags 0)).setB Reg.ABL_HS_STATUS 0 26 (bit flags 3)).setB
    Reg.ABL_HS_STATUS 0 27 (bit flags 4)).wr Reg.ABL_HS_SB_SEQ 0 (leAt sb 8 8)
  let a := a.on fun n => n.wr Reg.ABL_HS_PHYS_BYTES 0 (leAt sb 56 8)
  let ret (a : Abl) (p : Nat) : Abl := if bit flags (1 + p) then a.on fun n => n.setChan { src := 552 + p, st := 3 } else a
  let a := ret (ret a 0) 1
  let j := leAt sb 16 8
  let live := a.hist.log.filter fun x => decide (j < x.jseq)
  let good := live.takeWhile fun x => [0, 1].any fun p => a.hist.recOk p x
  let tab := match good.getLast? with | some x => x.tab | none => a.hist.ckptTab
  let gov := match good.getLast? with | some x => x.gov | none => a.hist.ckptGov
  let open_ := match good.getLast? with
    | some x => if a.hist.erased (65536 * x.block + x.off + x.slotBytes.length) (65536 * x.block + 65536) then some x.block else none
    | none => none
  let a : Abl := { a with gov := { gov with faults := a.gov.faults, severes := a.gov.severes } }
  let a := a.onHist fun h => { h with
    tab := tab, log := good, open_ := open_, sbSlots := (h.slotsUsed 0, h.slotsUsed 1), pass := none, exports := [], pending := none, op := none
    probation := leAt sb 52 4, formatAlt := leAt sb 4 2
    blocks := h.blocks.map fun y => { y with next := (good.filter fun x => x.block == y.b).foldl (fun m x => max m (x.off + x.slotBytes.length)) 256 } }
  let a := if (live.drop good.length).head?.any a.hist.slotMalformed then a.on fun n => n.malformed 650 else a
  let a := a.on fun n => n.wr Reg.ABL_HS_JSEQ 0 (match good.getLast? with | some x => x.jseq + 1 | none => j + 1)
  let a := good.foldl Abl.levelRec a
  let dead := (a.hist.blocks.filter fun y => decide (2 ≤ y.b) &&
    (!([0, 1].any fun p => a.hist.headerOk p y.b) ||
      (if y.role = 1 then !(a.hist.log.any fun x => x.block == y.b) && a.hist.open_ != some y.b
       else !(a.hist.ckptBlocks.contains y.b) && !a.hist.altBlocks.contains y.b))).map fun y => y.b
  let a := (a.hsFree dead).superWrite
  (a.on fun n => n.setFld Reg.ABL_HS_STATUS 0 29 3 2).dayView

/-- No valid superblock (R507): formatted empty; everything that can be isolated is, and every port stays DISABLED. (DESIGN CHOICE: log 73.) -/
def Abl.mountBlank (a : Abl) : Abl :=
  let a := a.onHist fun h => { h with
    tab := {}, ckptTab := {}, ckptGov := {}, ckptJseq := 0, ckptBlocks := [], altBlocks := [], log := [], blocks := [], open_ := none, flash := [],
    flashB := [], sbSlots := (0, 0), pass := none, exports := [], pending := none, op := none, probation := 0, formatAlt := 0, reconciled := [], retry := [] }
  let a := a.on fun n => ((n.setFld Reg.ABL_HS_STATUS 0 29 3 4).setFld Reg.ABL_HS_STATUS 0 0 16 1).wr Reg.ABL_HS_JSEQ 0 1
  let a := a.superWrite.hsView
  let a := a.on fun n => n.notice 0 []
  let all := List.range 296
  let a := a.onTab fun t => { t with sources := all.map fun s => (sourceKey s 255, 2 ^ 32 + a.n.ltime) }
  ((all.foldl (fun a s => a.applySource (sourceKey s 255) (2 ^ 32)) a)).hsTable 1

/-- HS_MOUNT (R506, R507, R525). -/
def Abl.mount (a : Abl) : Abl :=
  if 2 ≤ a.hsMount || a.n.fld Reg.ABL_STATUS 0 16 4 ≠ 2 then a
  else
    let f0 := a.hist.newest 0
    let f1 := a.hist.newest 1
    let seq (o : Option (List Nat)) : Nat := match o with | some b => leAt b 8 8 | none => 0
    let best := if seq f0 < seq f1 then f1 else match f0 with | some b => some b | none => f1
    match best with
    | none => a.mountBlank
    | some sb =>
      let a := a.on fun n => (n.setB Reg.ABL_HS_PATH 0 0 (decide (seq f0 < leAt sb 8 8))).setB Reg.ABL_HS_PATH 1 0 (decide (seq f1 < leAt sb 8 8))
      let fmt := leAt sb 2 2
      if fmt = 1 then (a.mountFrom sb).tabApply
      else if fmt = 0 then
        let a := a.mountFrom sb
        let old := a.hist.ckptBlocks
        let j := a.n.rd Reg.ABL_HS_JSEQ - 1
        let (a, bs) := a.writeChain 2 j
        let a := a.onHist fun h => { h with
          ckptBlocks := bs, altBlocks := old, ckptJseq := j, ckptTab := h.tab, ckptGov := a.gov, ckptAt := a.n.tideline, sinceCkpt := 0
          formatAlt := 0, probation := a.n.ltime + 2592000 }
        let a := (a.on fun n => n.setB Reg.ABL_HS_STATUS 0 27 true).superWrite
        (a.hsFormat 0 1 1).tabApply
      else if fmt = 2 && leAt sb 4 2 = 1 then
        let a := a.onHist fun h => { h with ckptBlocks := h.altBlocks, altBlocks := [] }
        let a := a.mountFrom sb
        let a := a.onHist fun h => { h with formatAlt := 0, probation := 0 }
        let a := (a.on fun n => n.setB Reg.ABL_HS_STATUS 0 27 false).superWrite
        (a.hsFormat 2 1 2).tabApply
      else a.on fun n => (n.setFld Reg.ABL_HS_STATUS 0 29 3 3).setFld Reg.ABL_HS_STATUS 0 0 16 fmt

/-! ## Timed work -/

/-- SUPERBLOCK_WRITE_DUE (R503). -/
def Abl.superDue (a : Abl) : Abl :=
  match a.hist.sbDue, a.hist.sbAt with
  | true, some t => if t + 10000000000 ≤ a.n.local then a.superWrite else a
  | true, none => a.superWrite
  | false, _ => a

/-- An hourly bucket rolls over (R514), and wear is levelled (R515). -/
def Abl.dayBucket (a : Abl) : Abl :=
  let a := a.onHist fun h => { h with hours := (0 :: h.hours).take 24, overHours := (0 :: h.overHours).take 24 }
  let a := a.dayView
  if a.hsOn then a.wearLevel else a

/-- EXPOSURE_FLUSH (R511): the tally's entries go into EXPOSE, one EXPOSURE record for each cell. -/
def Abl.exposureFlush (a : Abl) : Abl :=
  if !a.hsOn then a
  else
    let es := a.hist.tally
    let a := a.onHist fun h => { h with tally := [] }
    es.eraseDups.foldl (fun a e =>
      let k := es.count e
      let serial := a.serialAt e.1
      if serial = 0 then a
      else
        let day := a.n.ltime / 86400
        let c := a.hist.tab.cell serial e.2.1 e.2.2
        let c := { c with expose := (bindKey c.expose day (lookupD c.expose day 0 + k)).filter fun x => decide (day < x.1 + 8) }
        let a := a.onTab fun t => t.putCell c
        a.on fun n => n.emit 0 2 0x1B 0x0002 650 (le 4 (n.tideline / 2 ^ 32) ++ le 8 serial ++ le 2 e.2.1 ++ [e.2.2, 0] ++ le 4 day ++ le 4 k) 8) a

/-- BASELINE_SAVE (R508): the seeded baseline cells. -/
def Abl.baselineSave (a : Abl) : Abl :=
  if !a.hsOn then a
  else
    let cells := (a.n.regs.filter fun p => decide (0x00630000 ≤ p.1) && decide (p.1 < 0x00650000)).map fun p => ((p.1 - 0x00630000) / 16, p.2)
    (a.onTab fun t => { t with baselines := cells }).hsTable 4 false

/-- EXPORT_SUSPEND_TIMEOUT (R528): exports suspended for 10 min end CANCELLED. -/
def Abl.exportTimeout (a : Abl) : Abl :=
  let dead := a.hist.exports.filter fun e => match e.suspendedAt with | some t => decide (t + 600000000000 ≤ a.n.local) | none => false
  dead.foldl (fun a e =>
    let a := a.onHist fun h => { h with exports := h.exports.filter fun x => x.handle != e.handle }
    a.on fun n => n.opEnd e.handle stCancelled 0 [e.segs, e.bytes, 0, a.n.rd Reg.ABL_HS_JSEQ - 1]) a

/-- The end of probation (R526), at its time or at the commit command. -/
def Abl.probationEnd (a : Abl) : Abl :=
  if !a.n.bit Reg.ABL_HS_STATUS 0 27 then a
  else
    let alt := a.hist.altBlocks
    let a := a.onHist fun h => { h with altBlocks := [], formatAlt := 0, probation := 0 }
    let a := (a.on fun n => n.setB Reg.ABL_HS_STATUS 0 27 false).superCause
    (a.hsFree alt).hsFormat 0 1 3

/-! ## The controller's operations (R533) -/

/-- Start an operation: 1 read, 2 program, 3 erase, 4 program MARK; none while one runs, and no program or erase while PWRFAIL_N is low. (DESIGN CHOICE: log 74.) -/
def Abl.hsOpStart (a : Abl) (op paths addr : Nat) : Abl :=
  if a.hist.op.isSome || (a.hist.pwrFail && op ≠ 1) then a
  else (a.onHist fun h => { h with op := some (op, paths % 4, addr % 2 ^ 32) }).on fun n => n.setB Reg.ABL_HS_OP_STATUS 0 0 true

/-- A path fails an operation (R473, R534): field `lo` of ABL_HS_PATH counts it. -/
def Abl.pathFail (a : Abl) (p lo : Nat) : Abl := a.on fun n => (n.satFld Reg.ABL_HS_PATH p lo 16 1).chanFail (552 + p) 255

/-- HS_OP_DONE: the operation completes; bit p of `fail` says that path p failed. (DESIGN CHOICE: log 74.) -/
def Abl.hsOpDone (a : Abl) (fail : Nat) : Abl :=
  match a.hist.op with
  | none => a
  | some (op, mask, addr) =>
    let ps := a.hsPaths.filter fun p => bit mask p
    let good := ps.filter fun p => !bit fail p
    let bad := ps.filter fun p => bit fail p
    let ok := decide (addr < 2 ^ 28)
    let a := a.onHist fun h => { h with op := none }
    let a := if !ok then a else bad.foldl (fun a p => a.pathFail p (if op = 1 then 32 else 16)) a
    let a := if !ok then a else match op with
      | 1 => match good with | p :: _ => a.on fun n => n.wr Reg.ABL_HS_BUF 0 (leNat (a.hist.read p addr 4096)) | [] => a
      | 2 => a.hsProgram good addr (le 256 (a.n.rd Reg.ABL_HS_BUF))
      | 3 =>
        let b := addr / 65536
        let a := a.onHist fun h => { good.foldl (fun h p => h.setPath p ((h.path p).eraseBlock b)) h with
                                     erases := bindKey h.erases b (h.eraseCount b + 1), blocks := h.blocks.filter fun x => x.b != b }
        a.hsView
      | _ => a.hsProgram good addr [0x5A]
    let a := if op = 1 || bad.isEmpty || !ok then a
      else a.onHist fun h => { h with bad := if h.bad.contains (addr / 65536) then h.bad else addr / 65536 :: h.bad }
    let st := if !ok then stBad else if ps.isEmpty then stRetired else if op = 1 then (if good.isEmpty then stInternal else stOk)
      else if bad.isEmpty then stOk else stInternal
    a.on fun n => (n.wr Reg.ABL_HS_OP_STATUS 0 (st * 65536)).irq 97

end Sys2Proof.Machine
end

