-- ==== Sys2Proof/Machine/SlackOps.lean ====
section
/-!
DEFINITION. The sentinel's power states and domains (R536 to R541), what its main rails lose (R673), the division of the tray's budget (R545 to
R549) and its own power loop (R564).
-/

namespace Sys2Proof.Machine

/-- The state of R568: 0 SLACK, 1 EBB, 2 FLOOD, 3 ENTERING_SLACK, 4 WAKING. -/
def Node.pwrState (n : Node) : Nat := n.fld Reg.ABL_PWR_STATE 0 0 3

/-- POWER_STATE of the sentinel (R565). (DESIGN CHOICE: log 77.) -/
def Abl.pwrRec (a : Abl) (old new cause : Nat) : Abl :=
  let ms := min (2 ^ 32 - 1) ((a.n.local - a.pwr.since) / 1000000)
  let a : Abl := { a with pwr := { a.pwr with since := a.n.local } }
  a.on fun n => n.emit 0 2 0x1C 0x0001 654 ([old, new, cause, 0] ++ le 4 ms)

/-! ## Flood domains -/

/-- Domains that need HBM: grid, securing, compression (R537). -/
def needsHbm (k : Nat) : Bool := k == 0 || k == 3 || k == 4

/-- The order of starting (R537): HBM, grid, Tree Engine, securing, compression. -/
def domOrder : List Nat := [2, 0, 1, 3, 4]

/-- Domains are demanded in the same microsecond (R537, R541): bit k of `mask` as in ABL_PWR_STATE[12:8]. (DESIGN CHOICE: log 77.) -/
def Abl.domDemand (a : Abl) (mask : Nat) : Abl :=
  if a.n.pwrState ≠ 1 && a.n.pwrState ≠ 2 then a
  else
    let want (k : Nat) : Bool := bit mask k || (k == 2 && [0, 3, 4].any fun j => bit mask j)
    let ks := domOrder.filter fun k => want k && !a.n.domOn k && !a.pwr.starting.contains k
    if ks.isEmpty then a
    else
      let a : Abl := { a with pwr := { a.pwr with starting := a.pwr.starting ++ ks } }
      let a := if ks.contains 0 then a.gridStart.1 else a
      a.on fun n => n.setFld Reg.ABL_PWR_STATE 0 0 3 2

/-- A started domain is ready (R537). -/
def Abl.domReady (a : Abl) (k : Nat) : Abl :=
  if !a.pwr.starting.contains k then a
  else
    let a : Abl := { a with pwr := { a.pwr with starting := a.pwr.starting.filter (fun j => j != k), idleAt := bindKey a.pwr.idleAt k a.n.local } }
    match k with
    | 0 => a.gridUp
    | 1 => a.treeOn
    | _ => a.on fun n => (n.domStart k).irq 145

/-- Whether a domain that stops by ABL_PWR_DOM_IDLE_US has work (R537). -/
def Abl.domBusy (a : Abl) (k : Nat) : Bool :=
  match k with
  | 1 => !a.tree.samples.isEmpty || [1, 3].any fun st => (List.range 64).any fun s => a.n.modelState s == st
  | 3 => (a.sec.cuts.any fun c => !c.ended) || (a.sec.roots.any fun r => decide (0 < r.trays.length) && r.outcome == 0) || a.sec.restores.any fun r => r.outcome == 0
  | 4 => !a.sec.cmps.isEmpty
  | _ => false

/-- Work is posted to the securing or the Compression Engine (R537): its domain runs; idleness counts from the last work. -/
def Abl.domWork (a : Abl) : Abl :=
  [3, 4].foldl (fun a k =>
    if a.domBusy k then
      let a : Abl := { a with pwr := { a.pwr with idleAt := bindKey a.pwr.idleAt k a.n.local } }
      if a.n.domOn k || (a.n.pwrState ≠ 1 && a.n.pwrState ≠ 2) then a else a.on fun n => ((n.domStart k).domStart 2).irq 145
    else a) a

/-- ABL_PWR_DOM_IDLE_US of idleness (R537, R541). -/
def Abl.domIdle (a : Abl) (k : Nat) : Abl :=
  if a.n.domOn k && !a.domBusy k && (k == 1 || k == 3 || k == 4) &&
      decide (lookupD a.pwr.idleAt k 0 + a.n.fld Reg.ABL_PWR_DOM_IDLE_US 0 0 20 * 1000 ≤ a.n.local) then a.domStop k
  else if k == 2 && a.n.domOn 2 && !(a.n.domOn 0 || a.n.domOn 3 || a.n.domOn 4 || !a.n.mb.stages.isEmpty || a.hbmHeld) then a.domStop 2
  else a

/-! ## Slack -/

/-- Whether R538 allows Slack. -/
def Abl.slackOk (a : Abl) : Bool :=
  ((List.range 63).all fun j => a.n.fld Reg.ABL_JOB (j + 1) 125 3 == 0) && a.n.rd Reg.ABL_SEC_USED_MIB == 0 &&
    (a.n.mb.ops.all fun o => o.state == 2) && (List.range 16).all fun p => !a.n.portUp p

/-- RESET_NOTICE with CAUSE 0 on a port, then electrical idle, this end's own forced idle (R197, R539). -/
def Node.portIdle (n : Node) (p : Nat) : Node :=
  let l := n.lane p 0
  let n := if l.st = lsUp then n.leaveUp p 0 lsDetect 0x0001 0 (some 0) else n
  n.modLane p 0 fun l => { l with st := if l.st = lsRetired then lsRetired else lsDetect, restarted := true }

/-- Steps 1 to 4 of the entry to Slack (R539). (DESIGN CHOICE: log 77.) -/
def Abl.slackEnter (a : Abl) : Abl :=
  let old := a.n.pwrState
  let a := a.gridSlack.treeSlack
  let a := a.on fun n => (n.setFld Reg.ABL_PWR_STATE 0 8 5 0).timeSlack
  let a := a.on fun n => [16, 17, 18, 19].foldl Node.portIdle n
  let a := a.pwrRec old 0 1
  let a := a.onHist fun h => { h with pending := none }
  { a with pwr := { a.pwr with starting := [] } }.on fun n => n.setFld Reg.ABL_PWR_STATE 0 0 3 3

/-- Whether a register lies outside the main group (R536, R629): identity, mailboxes, Management Complex, fault collector, Time Unit, risk
table, recorder, power, history store. (DESIGN CHOICE: log 77.) -/
def alwaysOn (a : Nat) : Bool :=
  decide (a < 0x00500000) || (decide (0x00801000 ≤ a) && decide (a < 0x00801084)) || (decide (0x00C00000 ≤ a) && decide (a < 0x00D00000)) ||
    decide (0x00E00000 ≤ a)

/-- The main group loses its power (R536, R673): Ebb and Flood domains are as after reset, staged objects are freed, and what the Management
Complex keeps in its SRAM stays. (DESIGN CHOICE: log 77.) -/
def Abl.mainLost (a : Abl) : Abl :=
  let n := a.n
  let lost : Node := { n with
    regs := n.regs.filter fun p => alwaysOn p.1
    txq := [], lossDue := [], delivered := [], lanes := [], fbHost := [], usch := {}, bw := [], preAcc := [], sync := {}, resets := []
    mb := { n.mb with stages := [] } }
  { a with
    n := lost, psamp := {}, profJobs := [], adopted := [], fans := [], jobs := [], groupGuard := [], groupRanges := [], red := {}, bars := []
    tree := { scores := a.tree.scores, below := a.tree.below }, grid := { next := a.grid.next }
    ver := { sigSeq := a.ver.sigSeq, obs := a.ver.obs, camps := a.ver.camps, nextId := a.ver.nextId }
    hist := { a.hist with reconciled := [], retry := [] }, sec := {}
    pwr := { a.pwr with starting := [], falling := [], rising := [] }, out := [], wipe := true }

/-- The wake causes that are enabled (R540), as in ABL_PWR_WAKE_EN: 0 PCI Express, 1 I3C, 2 port signal, 3 fault, 4 timer.  In SLACK the wake
begins; while Slack is being entered it is held. (DESIGN CHOICE: log 77.) -/
def Abl.wakeUp (a : Abl) (causes : Nat) : Abl :=
  let on_ := causes &&& a.n.fld Reg.ABL_PWR_WAKE_EN 0 0 5
  if on_ = 0 then a
  else if a.n.pwrState = 3 then { a with pwr := { a.pwr with wake := a.pwr.wake ||| on_ } }
  else if a.n.pwrState = 0 then
    { a with pwr := { a.pwr with wake := on_ }, pins := { a.pins with mainEn := a.pins.aonPgood && !a.pins.thermtrip } }.on fun n =>
      (n.setFld Reg.ABL_PWR_STATE 0 0 3 4).wr Reg.ABL_PWR_WAKE_CAUSE 0 (n.rd Reg.ABL_PWR_WAKE_CAUSE ||| on_)
  else a

/-- Step 5 of R539: SLACK; a wake that was held acts now.  A running engine reset holds it off (R584). -/
def Abl.slackDone (a : Abl) : Abl :=
  if a.n.pwrState ≠ 3 || !a.n.resets.isEmpty then a
  else
    let held := a.pwr.wake
    let a := a.mainLost
    let a : Abl := { a with pwr := { a.pwr with wake := 0 }, pins := { a.pins with mainEn := false } }.on fun n => n.setFld Reg.ABL_PWR_STATE 0 0 3 0
    a.wakeUp held

/-- POWER_STATE's cause of a wake (R565). -/
def wakeCause (m : Nat) : Nat :=
  if bit m 2 then 3 else if bit m 0 || bit m 1 then 4 else if bit m 3 then 7 else 8

/-- The Management Complex runs again (R540, R541): EBB, POWER_STATE, time, retirements, unit states, ports, and every open proposal anew. -/
def Abl.wakeDone (a : Abl) : Abl :=
  if a.n.pwrState ≠ 4 || !a.pins.mainPgood || a.pins.lost then a
  else
    let why := wakeCause a.pwr.wake
    let a := (({ a with pwr := { a.pwr with wake := 0 } } : Abl).on fun n => n.setFld Reg.ABL_PWR_STATE 0 0 3 1).pwrRec 0 1 why
    let a := a.on Node.timeWake
    let a := if a.hsMount = 2 || a.hsMount = 4 then a.tabApply else a
    (a.gov.props.filter fun p => p.decision == 0 || p.decision == 2).foldl Abl.sendProp a

/-- TIME_NS reaches ABL_PWR_WAKE_AT (R173, R540). -/
def Abl.wakeAt (a : Abl) : Abl := if 0 ≤ dist32 a.n.now (a.n.rd Reg.ABL_PWR_WAKE_AT) then a.wakeUp 16 else a

/-! ## Dividing the budget -/

/-- The dies that are attached and not in Slack (R546). -/
def Abl.powered (a : Abl) : List Nat := (List.range 16).filter fun p => a.n.childValid p && (a.n.portUp p || a.n.fbHost.any fun h => h.1 == p)

/-- The cap of a port that was sent last. (DESIGN CHOICE: log 76.) -/
def Node.dieCap (n : Node) (p : Nat) : Nat := n.fld Reg.ABL_PWR_DIE_CAP p 0 16

/-- Send a cap by DIE_CAP (R547, R620); a new one is not acknowledged yet. (DESIGN CHOICE: log 37.) (DESIGN CHOICE: log 76.) -/
def Abl.sendCap (a : Abl) (p cap : Nat) : Abl :=
  let ext := if a.ver.camps.any fun c => c.die == a.n.dieOf p && c.outcome == 0 then Config.extFloor (a.n.dieOf p) a.n.tideline % 2 ^ 32 else 0
  a.on fun n =>
    let n := if n.dieCap p = cap then n else n.wr Reg.ABL_PWR_DIE_CAP p cap
    n.dieCmd p 0x1003 (le 2 cap ++ zeros 2 ++ le 4 ext ++ le 2 0)

/-- Rising and unchanged caps leave once every falling cap is acknowledged, or has been counted for 2 ms (R547). -/
def Abl.sendRising (a : Abl) : Abl :=
  if a.pwr.falling.isEmpty || decide (a.pwr.fallAt + 2000000 ≤ a.n.local) then
    let rs := a.pwr.rising
    rs.foldl (fun a x => a.sendCap x.1 x.2) { a with pwr := { a.pwr with rising := [], falling := [] } }
  else a

/-- The caps of R546: `ds` are (port, demand), `e` the budget beyond the floors, `total` the budget of all dies. -/
def capsOf (ds : List (Nat × Nat)) (floor total : Nat) : List (Nat × Nat) :=
  let n := ds.length
  if total < n * floor then ds.map fun x => (x.1, total / n)
  else
    let e := total - n * floor
    let sum := (ds.map fun x => x.2 - floor).sum
    if sum ≤ e then ds.map fun x => (x.1, floor + (x.2 - floor) + (e - sum) / n)
    else ds.map fun x => (x.1, floor + e * (x.2 - floor) / sum)

/-- The demand R545 counts for a port: its last DEMAND event if at most 10 ms old, else the last acknowledged cap. -/
def Abl.demandOf (a : Abl) (p : Nat) : Nat :=
  match a.pwr.demandAt.find? fun x => x.1 == p with
  | some x => if a.n.local ≤ x.2 + 10000000 then a.n.fld Reg.ABL_PWR_DIE_DEMAND p 0 16 else lookupD a.pwr.acked p 0
  | none => lookupD a.pwr.acked p 0

/-- BUDGET_DIVISION (R546, R547). (DESIGN CHOICE: log 76.) -/
def Abl.divide (a : Abl) : Abl :=
  let b := a.n.rd Reg.ABL_PWR_BUDGET
  let ds := a.powered
  if !bit b 63 || ds.isEmpty || a.n.role ≠ 1 then a
  else
    let demands : List (Nat × Nat) := ds.map fun p => (p, a.demandOf p)
    let tray := bits b 0 16
    let reserve := bits b 16 16
    let caps := capsOf demands (bits b 32 16) (tray - reserve)
    let excess := decide (tray < reserve + ds.length * bits b 32 16)
    let a := if excess then a.on fun n => (n.bump Reg.ABL_PWR_OVER).emit 0 1 0x1C 0x0004 654
        (le 4 tray ++ le 4 reserve ++ le 4 ds.length ++ le 4 (demands.map fun x => x.2).sum)
      else a
    let down := caps.filter fun x => decide (x.2 < a.n.dieCap x.1)
    let up := caps.filter fun x => decide (a.n.dieCap x.1 ≤ x.2)
    let late := a.pwr.falling.filter fun p => !(down.any fun x => x.1 == p)
    let a := down.foldl (fun a x => a.sendCap x.1 x.2) a
    let old := a.pwr.falling.isEmpty
    let a : Abl := { a with pwr := { a.pwr with falling := late ++ down.map (fun x => x.1), rising := up,
                                                fallAt := if old then a.n.local else a.pwr.fallAt } }
    a.sendRising

/-- CAP_ACK_RX: the DIE_CAP of a port completes (R547, R548, R620). (DESIGN CHOICE: log 76.) -/
def Abl.capAck (a : Abl) (p : Nat) : Abl :=
  let a := a.on fun n => n.setB Reg.ABL_PWR_DIE_CAP p 31 true
  let a : Abl := { a with pwr := { a.pwr with acked := bindKey a.pwr.acked p (a.n.dieCap p), falling := a.pwr.falling.filter fun q => q != p } }
  a.sendRising

/-- A DEMAND event of a die arrives (R549). -/
def Abl.demandRx (a : Abl) (p w : Nat) : Abl :=
  { a with pwr := { a.pwr with demandAt := bindKey a.pwr.demandAt p a.n.local } }.on fun n => n.wr Reg.ABL_PWR_DIE_DEMAND p (w % 65536)

/-! ## The sentinel's own loop -/

/-- SENTINEL_POWER_LOOP (R564): package power in W on its own rails, and the hottest diode in 1/64 °C. (DESIGN CHOICE: log 78.) -/
def Abl.powerLoop (a : Abl) (logic memory : Nat) (temp : Int) : Abl :=
  let a := a.on fun n => n.wr Reg.ABL_PWR_PKG 0 (logic % 65536 * 65536 + memory % 65536)
  let p := (logic + memory) * 1000
  let cap := a.n.fld Reg.ABL_PWR_SELF_CAP_W 0 0 16 * 1000
  let lv := (capLoop [a.pwr.cap] [0] p cap).getD 0 0
  let lim := toInt 16 (a.n.fld Reg.ABL_PWR_TLIM 0 0 16)
  let hyst : Int := a.n.fld Reg.ABL_PWR_TLIM 0 16 16
  let th := a.pwr.thermal
  let (th, cool) := if lim ≤ temp then (min 15 (th + 1), 0)
    else if temp < lim - hyst then (if a.pwr.cool = 9 then (th - 1, 0) else (th, a.pwr.cool + 1))
    else (th, a.pwr.cool)
  let app := max lv th
  let t (r : Nat) : Nat := if r = 0 then (if 0 < th ∧ th = app then 5000 else 0) else if r = 1 then (if 0 < lv ∧ lv = app then 5000 else 0) else 0
  let ticks := (List.range 6).map fun r => a.pwr.ticks.getD r 0 + t r
  { a with pwr := { a.pwr with cap := lv, thermal := th, cool := cool, ticks := ticks } }.on fun n =>
    (List.range 6).foldl (fun n r => n.wr Reg.ABL_PWR_THR_US r (ticks.getD r 0 / 50)) n

/-- The store is mounted (R506, R507); the holdings that it names and that a power loss took are reported (R435). -/
def Abl.mountHeld (a : Abl) : Abl :=
  let b := a.mount
  if 2 ≤ a.hsMount || b.hsMount < 2 then b else b.holdingsLost

end Sys2Proof.Machine
end

