-- ==== Sys2Proof/Machine/HostOps.lean ====
section
/-!
DEFINITION. The host interface (R626 to R640): MSI-X, the aperture, resets of the function, Bus Master Enable, data references (R615), and the
staged objects.
-/

namespace Sys2Proof.Machine

/-! ## MSI-X -/

/-- One vector is raised (R637): signalled, or pending while it is masked; vectors 19 to 31 never. (PRESUMED: log 89.) -/
def HostX.raise (h : HostX) (v : Nat) : HostX :=
  if 19 ≤ v then h
  else if bit h.mask v then { h with pend := setBit h.pend v true }
  else { h with sent := bindKey h.sent v (lookupD h.sent v 0 + 1) }

/-- The vectors that the step has raised. (PRESUMED: log 89.) -/
def Abl.msixOut (a : Abl) : Abl :=
  match a.n.msi with
  | [] => a
  | vs => { a with host := vs.foldl HostX.raise a.host, n := { a.n with msi := [] } }

/-! ## Grants and the aperture -/

/-- The grant that holds an address: VALID, and BASE to LIMIT with whole pages (R643). (DESIGN CHOICE: log 90.) -/
def Abl.grantAt (a : Abl) (addr : Nat) : Option Nat :=
  (List.range 16).find? fun g =>
    let v := a.n.rd Reg.ABL_HOST_GRANT g
    bit v 127 && decide (bits v 0 40 / 4096 * 4096 ≤ addr) && decide (addr ≤ bits v 40 40 / 4096 * 4096 + 4095)

/-- Firmware opens a grant over `len` bytes, if one is free (R634). -/
def Abl.grantOpen (a : Abl) (addr len jobtag : Nat) (write : Bool) : Abl :=
  match (List.range 16).find? fun g => !a.n.bit Reg.ABL_HOST_GRANT g 127 with
  | none => a
  | some g =>
    let base := addr % 2 ^ 40 / 4096 * 4096
    let limit := (addr + len - 1) % 2 ^ 40 / 4096 * 4096 + 4095
    a.on fun n => n.wr Reg.ABL_HOST_GRANT g (2 ^ 127 + b2n write * 2 ^ 126 + jobtag % 2 ^ 32 * 2 ^ 80 + limit * 2 ^ 40 + base)

/-- Firmware closes the grants that begin at an address. -/
def Abl.grantClose (a : Abl) (addr : Nat) : Abl :=
  a.on fun n => (List.range 16).foldl (fun (n : Node) g =>
    if n.fld Reg.ABL_HOST_GRANT g 0 40 = addr % 2 ^ 40 / 4096 * 4096 then n.wr Reg.ABL_HOST_GRANT g 0 else n) n

/-- Whether a debug session or the lifecycle lets BAR4 reach memory outside the grants (R660, R663). (DESIGN CHOICE: log 12.) -/
def Abl.memDebug (a : Abl) (addr : Nat) : Bool :=
  let l := a.n.lifecycle
  let owner := Config.memoryOwner addr
  let other := owner != 0 && owner != a.n.rd Reg.ABL_DBG_JOBTAG
  a.n.pwrState != 0 && (l == 0 || l == 3 || (l == 2 && a.n.granted 3 && !other))

/-- Whether one byte of BAR4 reaches memory (R634). -/
def Abl.apByte (a : Abl) (addr : Nat) (write : Bool) : Bool :=
  let onHbm := decide (hbmBase ≤ addr)
  let retired := onHbm && a.n.arrBit Reg.ABL_FLT_ISO (296 + Config.hbmChannel addr % 256)
  a.n.bit Reg.ABL_HOST_AP_BASE 0 0 && populated addr && !retired &&
    ((match a.grantAt addr with | some g => !write || a.n.bit Reg.ABL_HOST_GRANT g 126 | none => false) || a.memDebug addr)

/-- Whether the endpoint decodes its memory: not while PERST_N is low or the sentinel is without its always-on rails. (DESIGN CHOICE: log 14.) -/
def Abl.decodes (a : Abl) : Bool := a.pins.perstN && a.pins.aonPgood

/-- The address of a BAR4 offset (R634). (DESIGN CHOICE: log 91.) -/
def Abl.apAddr (a : Abl) (x : Nat) : Nat := a.n.fld Reg.ABL_HOST_AP_BASE 0 21 19 * 2 ^ 21 + x

/-- Whether a BAR4 access of `len` bytes reaches memory. (DESIGN CHOICE: log 90.) (DESIGN CHOICE: log 91.) -/
def Abl.apOk (a : Abl) (x len : Nat) (write : Bool) : Bool :=
  a.decodes && a.n.pwrState != 0 && (List.range len).all fun i => a.apByte (a.apAddr x + i) write

/-- What a BAR4 access does beside the memory itself (R634, R636): a refused one counts; one to HBM demands it. (DESIGN CHOICE: log 90.) -/
def Abl.apTouch (a : Abl) (x len : Nat) (write : Bool) : Abl :=
  if !a.decodes then a
  else if a.apOk x len write then
    if hbmBase ≤ a.apAddr x then
      let a := a.domDemand 4
      { a with pwr := { a.pwr with idleAt := bindKey a.pwr.idleAt 2 a.n.local } }
    else a
  else a.on fun n => n.bump Reg.ABL_HOST_AP_DENIED

/-! ## Resets of the function -/

/-- The PCI Express path loses its commands (R608): those not started are withdrawn, the responses of the others are discarded. -/
def Node.pathClear (n : Node) (path : Nat) : Node :=
  let mine (p : PostedX) : Bool := p.cmd.path == path
  let started := (n.mb.posted.filter fun p => mine p && p.wait.isSome).map fun p => p.n
  let n := n.setMb { n.mb with posted := n.mb.posted.filter (fun p => !(mine p && p.wait.isNone)), muted := n.mb.muted ++ started,
                               resps := n.mb.resps.filter fun x => x.path != path }
  let n := (n.wr (negReg n.dev) (negIdx path) 0).wr (featReg n.dev) (negIdx path) 0
  n.mbLines

/-- FUNCTION_RESET (R640). (PRESUMED: log 89.) -/
def Abl.fnReset (a : Abl) : Abl :=
  let a := a.on fun n => n.pathClear 0
  let a := a.on fun n => (List.range 16).foldl (fun (n : Node) m => n.setB Reg.ABL_MB_OWNED 0 m false) n
  let a := a.on fun n => ((n.wr Reg.ABL_HOST_AP_BASE 0 0).wr Reg.ABL_HOST_REC_WIN_BASE 0 0).wr Reg.ABL_HOST_EVT_THRESH 0 0
  { a with host := { a.host with mask := 0xFFFFFFFF, pend := 0, busMaster := false, shadow := none } }

/-- The running operations that need host memory: ledger exports and trace exports with a reference of KIND 2 (R638). -/
def Abl.hostOps (a : Abl) : List Nat :=
  (a.hist.exports.filter fun e => leAt e.ref 0 1 == 2).map (fun e => e.handle) ++ (a.traces.filter fun t => leAt t.ref 0 1 == 2).map fun t => t.handle

/-- The device holds an operation SUSPENDED (R638). -/
def Abl.hold (a : Abl) (h : Nat) : Abl :=
  let running := match a.n.op h with | some o => o.state == 0 | none => false
  if !running then a
  else
    let a := a.onHist fun x => { x with exports := x.exports.map fun e => if e.handle = h then { e with suspendedAt := some a.n.local } else e }
    let a := a.on fun n => n.opChange h fun o => { o with state := 1, kstate := 1 }
    match a.traces.find? fun t => t.handle == h with
    | some t => a.on fun n => n.dieCmd t.port 0x100B [3]
    | none => a

/-- BUS_MASTER_CHANGE (R638). -/
def Abl.busMaster (a : Abl) (on_ : Bool) : Abl :=
  let a : Abl := { a with host := { a.host with busMaster := on_ } }
  if on_ then a else a.hostOps.foldl Abl.hold a

/-! ## Staged objects and data references -/

/-- A staged object (R615). -/
def Node.stage (n : Node) (id : Nat) : Option StageX := n.mb.stages.find? fun x => x.id == id

/-- Replace it, touched now. -/
def Node.putStage (n : Node) (x : StageX) : Node :=
  n.setMb { n.mb with stages := { x with touched := n.local } :: n.mb.stages.filter fun y => y.id != x.id }

/-- Free a staged object, and close its grant (R615, R634). -/
def Abl.stageFree (a : Abl) (x : StageX) : Abl :=
  (a.on fun n => n.setMb { n.mb with stages := n.mb.stages.filter fun y => y.id != x.id }).grantClose x.addr

/-- STAGE_IDLE_FREE (R615): objects that no command has touched for 60 s. -/
def Abl.stageIdle (a : Abl) : Abl :=
  (a.n.mb.stages.filter fun x => decide (x.touched + 60000000000 ≤ a.n.local)).foldl Abl.stageFree a

/-- STAGE_OPEN (R615, R619). -/
def Abl.stageOpen (a : Abl) (c : Cmd) : Abl × Ans :=
  let len := leAt c.params 0 8
  let used := (a.n.mb.stages.map fun x => x.len).sum
  if len = 0 then (a, Ans.of stZero)
  else if 2 ^ 28 < len then (a, Ans.of stRefused)
  else if 8 ≤ a.n.mb.stages.length || 2 ^ 30 < used + len then (a, Ans.of stNoSpace)
  else
    let id := a.n.mb.nextStage
    let x : StageX := { id := id, addr := Config.objectAddr id len, len := len, touched := a.n.local }
    let a := a.on fun n => (n.setMb { n.mb with nextStage := (id + 1) % 2 ^ 32 }).putStage x
    ((a.grantOpen x.addr len c.jobtag true).domDemand 4, { data := le 4 id })

/-- STAGE_WRITE (R615). -/
def Abl.stageWrite (a : Abl) (c : Cmd) : Abl × Ans :=
  let off := leAt c.params 8 8
  let data := c.params.drop 16
  if data.isEmpty then (a, Ans.of stZero)
  else match a.n.stage (leAt c.params 0 4) with
    | none => (a, Ans.of stBad)
    | some x =>
      if x.closed || x.len < off + data.length then (a, Ans.of stBad)
      else ({ (a.on fun n => n.putStage x) with out := a.out ++ [(x.addr + off, data)] }, {})

/-- STAGE_CLOSE (R615): `bytes` are the object's contents. -/
def Abl.stageClose (a : Abl) (c : Cmd) (bytes : StageX → List Nat) : Abl × Ans :=
  match a.n.stage (leAt c.params 0 4) with
  | none => (a, Ans.of stBad)
  | some x =>
    if crc32c (bytes x) ≠ leAt c.params 4 4 then (a.on fun n => n.putStage x, Ans.of stBad)
    else (a.on fun n => n.putStage { x with closed := true }, {})

/-- STAGE_READ (R619). -/
def Abl.stageRead (a : Abl) (c : Cmd) (bytes : StageX → List Nat) : Abl × Ans :=
  let off := leAt c.params 8 8
  let len := leAt c.params 16 4
  if len = 0 then (a, Ans.of stZero)
  else match a.n.stage (leAt c.params 0 4) with
    | none => (a, Ans.of stBad)
    | some x =>
      if 1984 < len || x.len < off + len then (a, Ans.of stBad)
      else (a.on fun n => n.putStage x, { data := ((bytes x).drop off).take len })

/-- What a data reference of 24 bytes gives a command (R615, R638): a status, or the bytes with the staged object that they come from.  `host`
is what host memory answers, none where the fabric refuses. -/
def Abl.refBytes (a : Abl) (path : Nat) (ref : List Nat) (host : Option (List Nat)) (bytes : StageX → List Nat) :
    Except Nat (List Nat × Option StageX) :=
  let len := leAt ref 16 8
  match leAt ref 0 1 with
  | 1 => match a.n.stage (leAt ref 4 4) with
    | some x => if x.len < len then .error stBad else if len = 0 then .error stZero else .ok ((bytes x).take len, some x)
    | none => .error stBad
  | 2 =>
    if path ≠ 0 then .error stNotPermitted
    else if len = 0 then .error stZero
    else if !a.host.busMaster then .error stBad
    else match host with
      | some b => .ok (padTo len b, none)
      | none => .error stBad
  | _ => .error stBad

/-- A load has consumed the object it named (R615). (DESIGN CHOICE: log 85.) -/
def Abl.consume (a : Abl) (x : Option StageX) : Abl := match x with | some y => a.stageFree y | none => a

/-! ## Trace exports at the sentinel -/

/-- Bytes that the sentinel writes to host memory (R615, R638). -/
def Abl.dmaWrite (a : Abl) (addr : Nat) (b : List Nat) : Abl := { a with host := { a.host with dma := a.host.dma ++ [(addr, b)] } }

/-- A block of a trace export arrives (R139): the Trace Router writes it to the host memory that the command names, or passes it to the active
parent; the last one ends the operation.  A block beyond the reference's LENGTH ends it with NO_SPACE. (DESIGN CHOICE: log 110.) -/
def Abl.traceBlock (a : Abl) (port handle off : Nat) (last : Bool) (b : List Nat) : Abl :=
  match a.traces.find? fun t => t.port == port && t.handle == handle with
  | none => a
  | some t =>
    let toHost := leAt t.ref 0 1 == 2
    let full := toHost && decide (leAt t.ref 16 8 < t.bytes + b.length)
    let a := if full then a.on fun n => n.dieCmd port 0x100B [5]
      else if toHost then a.dmaWrite (leAt t.ref 8 8 + t.bytes) b
      else a.on fun n => n.frameUp 0 3 .traceBlock [handle, off, b2n last] b
    let t := if full then t else { t with blocks := t.blocks + b2n (!b.isEmpty), bytes := t.bytes + b.length }
    let cs := [t.blocks, t.bytes, 0, a.n.dieOf port]
    if full then ({ a with traces := a.traces.filter fun y => y.handle != handle } : Abl).on fun n => n.opEnd handle stNoSpace 0 cs
    else if last then ({ a with traces := a.traces.filter fun y => y.handle != handle } : Abl).on fun n => n.opEnd handle stOk 0 cs
    else ({ a with traces := t :: a.traces.filter fun y => y.handle != handle } : Abl).on fun n => n.opChange handle fun o => { o with cs := cs }

/-- TRACE_EXPORT (R139, R619). -/
def Abl.traceStart (a : Abl) (c : Cmd) : Abl × Ans :=
  let port := leAt c.params 0 1
  let ref := (c.params.drop 8).take 24
  let kind := leAt ref 0 1
  if 16 ≤ port || !a.n.childValid port || 1 == kind || 2 < kind then (a, Ans.of stBad)
  else if kind = 2 && c.path ≠ 0 then (a, Ans.of stNotPermitted)
  else if kind = 2 && leAt ref 16 8 = 0 then (a, Ans.of stZero)
  else if kind = 2 && !a.host.busMaster then (a, Ans.of stBad)
  else if a.traces.any fun t => t.port == port then (a, Ans.of stBusy)
  else match a.n.opStart 6 c.path c.jobtag with
    | (none, n) => ({ a with n := n }, { status := stBusy, hint := a.n.opHint })
    | (some h, n) =>
      let n := match n.op h with | some o => n.opNote o 0 | none => n
      let a : Abl := { a with n := n, traces := { handle := h, port := port, ref := ref } :: a.traces }
      (a.on fun n => n.dieCmd port 0x100B (2 :: le 4 h), { handle := h })

/-- SUSPEND 0, RESUME 1, CANCEL 2 of a trace export (R139, R638). -/
def Abl.traceOp (a : Abl) (h what : Nat) : Abl × Bool :=
  match a.traces.find? fun t => t.handle == h with
  | none => (a, false)
  | some t =>
    let cs := [t.blocks, t.bytes, 0, a.n.dieOf t.port]
    match what with
    | 0 => ((a.on fun n => n.opChange h fun o => { o with state := 1, kstate := 1, cs := cs }).on fun n => n.dieCmd t.port 0x100B [3], true)
    | 1 =>
      if leAt t.ref 0 1 = 2 && !a.host.busMaster then (a, false)
      else ((a.on fun n => n.opChange h fun o => { o with state := 0, kstate := 0, cs := cs }).on fun n => n.dieCmd t.port 0x100B [4], true)
    | _ =>
      let a : Abl := { a with traces := a.traces.filter fun y => y.handle != h }
      ((a.on fun n => n.opEnd h stCancelled 0 cs).on fun n => n.dieCmd t.port 0x100B [5], true)

end Sys2Proof.Machine
end

