-- ==== Sys2Proof/Machine/McOps.lean ====
section
/-!
DEFINITION. The interrupt controllers (R574 to R579, R588), watchdogs (R585), load and shedding (R586, R587), and the roles of cores (R572,
R573).
-/

namespace Sys2Proof.Machine

/-! ## The interrupt controller -/

/-- Whether a source's request line or edge is pending for a core (R577, R578). -/
def Node.aicPending (n : Node) (core id : Nat) : Bool :=
  if privBase n.dev ≤ id then
    let k := id - privBase n.dev
    n.aic.ppend.contains (core, k) || n.aic.plines.contains k
  else
    decide (0 < id) && (n.aic.pend.contains id || n.aic.lines.contains id) && n.fld (Reg.AIC_CFG n.dev) id 16 3 == core

/-- EN and PRIO of a source at a core (R591). -/
def Node.aicCfg (n : Node) (core id : Nat) : Bool × Nat :=
  let v := if privBase n.dev ≤ id then n.rd (Reg.AIC_PCFG n.dev core) (id - privBase n.dev) else n.rd (Reg.AIC_CFG n.dev) id
  (Machine.bit v 31, bits v 0 4)

/-- EDGE of a source (R591). (DESIGN CHOICE: log 79.) -/
def Node.aicEdge (n : Node) (id : Nat) : Bool :=
  if privBase n.dev ≤ id then n.bit (Reg.AIC_PCFG n.dev 0) (id - privBase n.dev) 30 else n.bit (Reg.AIC_CFG n.dev) id 30

/-- A core's stack, top first (R574). -/
def Node.aicStack (n : Node) (core : Nat) : List (Nat × Nat) := n.aic.nests.getD core []

/-- The running priority (R574). -/
def Node.runPri (n : Node) (core : Nat) : Nat := ((n.aicStack core).head?.map fun x => x.2).getD 0

/-- Whether a source is signalled to a core (R574). -/
def Node.signalled (n : Node) (core id : Nat) : Bool :=
  let (en, prio) := n.aicCfg core id
  let floor := if id = privBase n.dev + 4 then n.runPri core else max (n.runPri core) (n.fld (Reg.AIC_PMASK n.dev) core 0 4)
  n.bit (Reg.AIC_CTRL n.dev) 0 0 && n.aicPending core id && en && decide (floor < prio)

/-- The IDs that may be pending at a core. -/
def Node.aicIds (n : Node) (core : Nat) : List Nat :=
  n.aic.pend ++ n.aic.lines ++ (n.aic.ppend.filter fun x => x.1 == core).map (fun x => privBase n.dev + x.2) ++
    n.aic.plines.map fun k => privBase n.dev + k

/-- The most urgent source signalled to a core; the lower ID wins a tie (R575). -/
def Node.aicBest (n : Node) (core : Nat) : Option (Nat × Nat) :=
  ((n.aicIds core).filter (n.signalled core)).foldl (fun (b : Option (Nat × Nat)) id =>
    let p := (n.aicCfg core id).2
    match b with
    | none => some (id, p)
    | some (i, q) => if q < p || (p = q && id < i) then some (id, p) else b) none

/-- Replace a core's stack. -/
def Node.setStack (n : Node) (core : Nat) (l : List (Nat × Nat)) : Node :=
  let all := n.aic.nests ++ List.replicate (core + 1 - n.aic.nests.length) []
  { n with aic := { n.aic with nests := all.mapIdx fun i x => if i = core then l else x } }

/-- AIC_CLAIM (R575, R577): the ID claimed, 0 for none, and the controller after it. -/
def Node.aicClaim (n : Node) (core : Nat) : Node × Nat :=
  match n.aicBest core with
  | none => (n.bump (Reg.AIC_SPURIOUS n.dev), 0)
  | some (id, p) =>
    let n := n.setStack core ((id, p) :: n.aicStack core)
    let x := n.aic
    ({ n with aic := if privBase n.dev ≤ id then { x with ppend := x.ppend.filter fun y => y != (core, id - privBase n.dev) }
                     else { x with pend := x.pend.filter fun y => y != id } }, id)

/-- AIC_EOI (R576). -/
def Node.aicEoi (n : Node) (core id : Nat) : Node :=
  match n.aicStack core with
  | (i, _) :: rest => if i = id then n.setStack core rest else n.bump (Reg.AIC_EOI_ERR n.dev)
  | [] => n.bump (Reg.AIC_EOI_ERR n.dev)

/-- A request line changes, or an edge rises (R577, R578): a private edge reaches one core, or all of them. -/
def Node.aicRequest (n : Node) (id core : Nat) (high : Bool) : Node :=
  if id = 0 then n
  else if privBase n.dev ≤ id then
    let k := id - privBase n.dev
    if 5 ≤ k && k < 9 then n.irqLine k high
    else if !n.aicEdge id || !high then n
    else if k < 3 then n.irqAll k else n.irqCore core k
  else if n.aicEdge id then (if high then n.irq id else n)
  else { n with aic := { n.aic with lines := (n.aic.lines.filter fun x => x != id) ++ if high then [id] else [] } }

/-- AIC_SGI (R590): a software interrupt of a target core. (DESIGN CHOICE: log 79.) -/
def Node.aicSgi (n : Node) (v : Nat) : Node :=
  if bits v 16 3 < coresOf n.dev then n.irqCore (bits v 16 3) (16 + v % 8) else n

/-- AIC_CFG_WRITE (R577, R591): the pending request of a source moves with its TARGET. (DESIGN CHOICE: log 79.) -/
def Node.aicCfgWrite (n : Node) (core id v : Nat) : Node :=
  if privBase n.dev ≤ id then
    let k := id - privBase n.dev
    if k = 4 then n else n.softWrite (Reg.AIC_PCFG n.dev core) k 0xFFFFFFFF v
  else if id = 0 then n
  else if coresOf n.dev ≤ bits v 16 3 then n.bump (Reg.AIC_DENIED n.dev)
  else n.softWrite (Reg.AIC_CFG n.dev) id 0xFFFFFFFF v

/-- ABL_AIC_PENDw (R590): bit b of word w. -/
def Node.aicPendWord (n : Node) (w : Nat) : Nat :=
  ((List.range 32).map fun b =>
    let id := 32 * w + b
    if decide (0 < id) && decide (id < privBase n.dev) && (n.aic.pend.contains id || n.aic.lines.contains id) then 2 ^ b else 0).sum

/-- ABL_AIC_PPENDn (R590). -/
def Node.aicPpend (n : Node) (core : Nat) : Nat :=
  ((List.range 32).map fun k => if n.aic.ppend.contains (core, k) || n.aic.plines.contains k then 2 ^ k else 0).sum

/-- ABL_AIC_RUNPRIn (R590). -/
def Node.aicRunpri (n : Node) (core : Nat) : Nat := (n.aicStack core).length % 32 * 256 + n.runPri core % 16

/-- A core's private bank and stack return to their reset values (R585). -/
def Node.aicCoreReset (n : Node) (core : Nat) : Node :=
  let n := (n.setStack core []).resetRegs ((Reg.AIC_PCFG n.dev core).addr 0) ((Reg.AIC_PCFG n.dev core).addr 32)
  let n := n.wr (Reg.AIC_PMASK n.dev) core 0
  { n with aic := { n.aic with ppend := n.aic.ppend.filter fun x => x.1 != core } }

/-! ## Cores -/

/-- The record header's SOURCE of a core's firmware (R610). -/
def Node.coreSrc (n : Node) (core : Nat) : Nat := match n.dev with | .ddu => 506 | .abl => 554 + core

/-- Write ABL_MC_COREn_STATE [2:0] (R592): 0 RUNNING, 1 HALTED, 2 IN_RESET. -/
def Node.coreState (n : Node) (core st : Nat) : Node :=
  match n.dev with | .ddu => n | .abl => n.setFld Reg.ABL_MC_CORE_STATE core 0 3 st

/-- Whether a core runs (R586). -/
def Node.coreRuns (n : Node) (core : Nat) : Bool :=
  decide (core < coresOf n.dev) && !n.mc.down.contains core && (n.dev == .ddu || n.fld Reg.ABL_MC_CORE_STATE core 0 3 == 0)

/-- The core that carries a role (R572, R573). -/
def Node.roleCore (n : Node) (role : Nat) : Nat := lookupD n.mc.roles role role

/-- ROLE_MOVE (R589). (DESIGN CHOICE: log 18.) -/
def Node.roleRec (n : Node) (role src dst what : Nat) : Node :=
  n.emit 0 2 0x1D 0x0004 (n.coreSrc 0) ([role, src, dst, what] ++ zeros 4)

/-- The busy fraction of a core over the last millisecond. -/
def Node.coreBusy (n : Node) (core : Nat) : Nat := match n.dev with | .ddu => 0 | .abl => n.fld Reg.ABL_MC_CORE_STATE core 16 8

/-- The roles of a core in reset move to the running core with the lowest load (R573). -/
def Node.rolesMove (n : Node) (core : Nat) : Node :=
  let run := (List.range (coresOf n.dev)).filter n.coreRuns
  match run.foldl (fun (b : Option Nat) c => match b with
      | none => some c
      | some d => if n.coreBusy c < n.coreBusy d then some c else b) none with
  | none => n
  | some heir =>
    ((List.range (coresOf n.dev)).filter fun r => n.roleCore r == core).foldl (fun (n : Node) r =>
      ({ n with mc := { n.mc with roles := bindKey n.mc.roles r heir } } : Node).roleRec r core heir 1) n

/-- A core runs again, and its roles return (R573). -/
def Node.rolesReturn (n : Node) (core : Nat) : Node :=
  let at_ := n.roleCore core
  if at_ = core then n
  else ({ n with mc := { n.mc with roles := n.mc.roles.filter fun x => x.1 != core } } : Node).roleRec core at_ core 2

/-! ## Watchdogs -/

/-- WDOG_MS of a core (R585). (PRESUMED: log 80.) -/
def Node.wdogMs (n : Node) (core : Nat) : Nat := match n.dev with | .ddu => n.mc.wdogMs | .abl => n.fld Reg.ABL_MC_WDOG_CFG core 0 16

/-- When a core's watchdog last restarted. -/
def Node.kickAt (n : Node) (core : Nat) : Nat := lookupD n.mc.kicks core 0

/-- A watchdog restarts. -/
def Node.wdogRestart (n : Node) (core : Nat) : Node :=
  { n with mc := { n.mc with kicks := bindKey n.mc.kicks core n.local, warned := n.mc.warned.filter fun c => c != core } }

/-- WATCHDOG_KICK (R585). -/
def Node.wdogKick (n : Node) (core v : Nat) : Node :=
  if v = 0x4B49 then n.wdogRestart core
  else match n.dev with | .ddu => n | .abl => n.bump Reg.ABL_MC_WDOG_BADKICK

/-- Whether a core's watchdog counts (R585): not at 0, not for a halted core or one in reset. -/
def Node.wdogCounts (n : Node) (core : Nat) : Bool := n.wdogMs core != 0 && n.coreRuns core

/-- The WATCHDOG record (R589). -/
def Node.wdogRec (n : Node) (core stage : Nat) : Node :=
  n.emit 0 1 0x1D 0x0002 (n.coreSrc core) ([core, stage, 0, 0] ++ le 4 ((n.local - n.kickAt core) / 1000000))

/-- WATCHDOG_WARNING (R585): WDOG_MS without a kick. -/
def Node.wdogWarn (n : Node) (core : Nat) : Node :=
  if n.wdogCounts core && decide (n.kickAt core + n.wdogMs core * 1000000 ≤ n.local) && !n.mc.warned.contains core then
    (({ n with mc := { n.mc with warned := core :: n.mc.warned } } : Node).irqCore core 4).wdogRec core 1
  else n

/-- A core is reset alone (R585): its private bank and stack, its count of resets, and its roles move and, when it runs again, return. (DESIGN CHOICE: log 81.) -/
def Node.coreReset (n : Node) (core : Nat) : Node :=
  let n := n.aicCoreReset core
  match n.dev with
  | .ddu => n
  | .abl =>
    let n := n.satFld Reg.ABL_MC_CORE_STATE core 24 8 1
    ({ n with mc := { n.mc with down := core :: n.mc.down.filter fun c => c != core } } : Node).coreState core 2

/-- A reset core runs again. (DESIGN CHOICE: log 81.) -/
def Node.coreUp (n : Node) (core : Nat) : Node :=
  (((({ n with mc := { n.mc with down := n.mc.down.filter fun c => c != core } } : Node).coreState core 0).wdogRestart core).rolesReturn core)

/-- WATCHDOG_EXPIRY (R585): 2 x WDOG_MS without a kick; whether it is the core's second within 60 s. -/
def Node.wdogExpire (n : Node) (core : Nat) : Node × Bool :=
  if n.wdogCounts core && decide (n.kickAt core + 2 * n.wdogMs core * 1000000 ≤ n.local) then
    let again := match n.mc.expired.find? fun x => x.1 == core with
      | some x => decide (n.local < x.2 + 60000000000)
      | none => false
    let n := ({ n with mc := { n.mc with expired := bindKey n.mc.expired core n.local } } : Node).wdogRec core 2
    let n := n.fault (n.coreSrc core) 0 2 0 core
    ((((n.coreReset core).rolesMove core).wdogRestart core), again)
  else (n, false)

/-- A write of WDOG_MS (R585): 0 only in MANUFACTURE, in RMA and in a debug session that holds HALT. -/
def Node.wdogCfg (n : Node) (core v : Nat) : Node :=
  let l := n.fld Reg.ABL_STATUS 0 28 3
  let stop := l == 0 || l == 3 || (l == 2 && n.bit Reg.ABL_DBG_CTRL 0 31 && n.bit Reg.ABL_DBG_CTRL 0 1)
  if v % 65536 = 0 && !stop then n.bump Reg.ABL_MC_WDOG_BADKICK else (n.wr Reg.ABL_MC_WDOG_CFG core (v % 65536)).wdogRestart core

/-! ## Load -/

/-- SHED_PCT in force (R587). (PRESUMED: log 80.) -/
def Node.shedPct (n : Node) : Nat := match n.dev with | .ddu => n.mc.shedPct | .abl => min 100 (n.fld Reg.ABL_MC_SHED_PCT 0 0 7)

/-- LOAD (R586): the busy percentage over the last ten milliseconds. -/
def Node.load (n : Node) : Nat :=
  let c := (n.mc.busy.map fun x => x.2).sum
  if c = 0 then 0 else (n.mc.busy.map fun x => x.1).sum / c

/-- LOAD_SHED (R589). (DESIGN CHOICE: log 18.) -/
def Node.shedRec (n : Node) (what load core busy ms : Nat) : Node :=
  n.emit 0 2 0x1D 0x0003 (n.coreSrc 0) ([what, load, core, busy] ++ le 4 ms)

/-- One millisecond of load (R586, R587): the busy percentage of each core. -/
def Node.loadTick (n : Node) (busy : List Nat) : Node :=
  let cs := (List.range (coresOf n.dev)).filter n.coreRuns
  let at_ (c : Nat) : Nat := min 100 (busy.getD c 0)
  let n : Node := { n with mc := { n.mc with busy := ((cs.map at_).sum, cs.length) :: n.mc.busy.take 9 } }
  let top := cs.foldl (fun (b : Nat × Nat) c => if b.2 < at_ c then (c, at_ c) else b) (cs.headD 0, at_ (cs.headD 0))
  let n := match n.dev with
    | .ddu => n
    | .abl => cs.foldl (fun (n : Node) c => n.setFld Reg.ABL_MC_CORE_STATE c 16 8 (at_ c)) n
  let load := n.load
  let on_ := decide (n.shedPct < load)
  let n := match n.mc.shed with
    | none => if on_ then (match n.dev with | .ddu => n | .abl => n.bump Reg.ABL_MC_SHED_COUNT).shedRec 1 load top.1 top.2 0 else n
    | some t => if on_ then n else n.shedRec 2 load top.1 top.2 (min (2 ^ 32 - 1) ((n.local - t) / 1000000))
  let n : Node := { n with mc := { n.mc with shed := if on_ then some (n.mc.shed.getD n.local) else none } }
  match n.dev with
  | .ddu => n
  | .abl => n.wr Reg.ABL_MC_LOAD 0 (b2n on_ * 2 ^ 31 + load % 128 * 2 ^ 16 + top.1 % 8 * 256 + top.2 % 128)

end Sys2Proof.Machine
end

