-- ==== Sys2Proof/Machine/TokenOps.lean ====
section
/-!
DEFINITION. Reading signed tokens (R647, R659, R664): the parts of CBOR (RFC 8949) and of COSE_Sign1 (RFC 9052) that they use, and the image
header of R650.
-/

namespace Sys2Proof.Machine

/-- The head of a CBOR item: major type, argument, and what follows. -/
def cborArg (b : List Nat) : Option (Nat × Nat × List Nat) :=
  match b with
  | [] => none
  | h :: t =>
    let i := h % 32
    if i < 24 then some (h / 32, i, t)
    else if i < 28 ∧ 2 ^ (i - 24) ≤ t.length then some (h / 32, beNat (t.take (2 ^ (i - 24))), t.drop (2 ^ (i - 24)))
    else none

/-- Skip `k` items; the first argument bounds the heads read. -/
def cborSkip : Nat → Nat → List Nat → Option (List Nat)
  | 0, _, _ => none
  | _ + 1, 0, b => some b
  | n + 1, k + 1, b =>
    match cborArg b with
    | none => none
    | some (m, v, t) =>
      if m = 2 ∨ m = 3 then (if t.length < v then none else cborSkip n k (t.drop v))
      else if m = 4 then cborSkip n (k + v) t
      else if m = 5 then cborSkip n (k + 2 * v) t
      else if m = 6 then cborSkip n (k + 1) t
      else cborSkip n k t

/-- A byte string. -/
def cborStr (b : List Nat) : Option (List Nat × List Nat) :=
  match cborArg b with
  | some (2, v, t) => if t.length < v then none else some (t.take v, t.drop v)
  | _ => none

/-- `k` unsigned integers. -/
def cborNums : Nat → List Nat → Option (List Nat × List Nat)
  | 0, b => some ([], b)
  | k + 1, b =>
    match cborArg b with
    | some (0, v, t) => match cborNums k t with
      | some (l, u) => some (v :: l, u)
      | none => none
    | _ => none

/-- A value of a token's map. -/
inductive Tok where
  | num (n : Nat)
  | str (b : List Nat)
  | arr (l : List Nat)
  deriving DecidableEq, Repr

/-- One value. -/
def cborVal (b : List Nat) : Option (Tok × List Nat) :=
  match cborArg b with
  | some (0, v, t) => some (.num v, t)
  | some (2, v, t) => if t.length < v then none else some (.str (t.take v), t.drop v)
  | some (4, v, t) => (cborNums v t).map fun p => (.arr p.1, p.2)
  | _ => none

/-- `k` pairs of an unsigned key and a value. -/
def cborPairs : Nat → List Nat → Option (List (Nat × Tok) × List Nat)
  | 0, b => some ([], b)
  | k + 1, b =>
    match cborArg b with
    | some (0, key, t) => match cborVal t with
      | some (v, u) => match cborPairs k u with
        | some (l, w) => some ((key, v) :: l, w)
        | none => none
      | none => none
    | _ => none

/-- A COSE_Sign1 object with a map as its payload. -/
structure Cose where
  payload : List Nat
  sig : List Nat
  map : List (Nat × Tok)
  deriving DecidableEq, Repr

/-- Read a token: COSE_Sign1 with the protected header of R416, with or without tag 18, and nothing after it. -/
def coseRead (b : List Nat) : Option Cose :=
  let b := if b.head? == some 0xD2 then b.drop 1 else b
  match cborArg b with
  | some (4, 4, t) => match cborStr t with
    | some (p, t) =>
      if p ≠ coseProtected then none
      else match cborArg t with
        | some (5, _, _) => match cborSkip (t.length + 2) 1 t with
          | some t => match cborStr t with
            | some (payload, t) => match cborStr t with
              | some (sig, []) => match cborArg payload with
                | some (5, k, u) => match cborPairs k u with
                  | some (m, []) => some { payload := payload, sig := sig, map := m }
                  | _ => none
                | _ => none
              | _ => none
            | none => none
          | none => none
        | _ => none
    | none => none
  | _ => none

/-- A value of the payload, by its key. -/
def Cose.val (c : Cose) (k : Nat) : Option Tok := (c.map.find? fun p => p.1 == k).map fun p => p.2
def Cose.num (c : Cose) (k : Nat) : Option Nat := match c.val k with | some (.num n) => some n | _ => none
def Cose.str (c : Cose) (k : Nat) : Option (List Nat) := match c.val k with | some (.str b) => some b | _ => none
def Cose.arr (c : Cose) (k : Nat) : Option (List Nat) := match c.val k with | some (.arr l) => some l | _ => none

/-- The Sig_structure over a payload with external data. -/
def coseSigWith (aad payload : List Nat) : List Nat :=
  cborArr [cborHead 3 10 ++ [0x53, 0x69, 0x67, 0x6E, 0x61, 0x74, 0x75, 0x72, 0x65, 0x31], cborBytes coseProtected, cborBytes aad,
    cborBytes payload]

/-! ## Firmware images (R650) -/

/-- The image header's fields. -/
def imgSvn (img : List Nat) : Nat := leAt img 8 4
def imgVersion (img : List Nat) : Nat := leAt img 12 4
def imgKeyHash (img : List Nat) : List Nat := sha384 ((img.drop 72).take 97)

/-- Why an image does not verify. -/
inductive ImgFail where
  | bad
  | rollback
  deriving DecidableEq, Repr

/-- Verification of an image of a component (R650): `counter` is the component's anti-rollback counter and `keyed` says whether a key hash is a
valid Beygor slot in this lifecycle. -/
def imgCheck (comp counter : Nat) (keyed : List Nat → Bool) (img : List Nat) : Option ImgFail :=
  let len := leAt img 16 4
  if leAt img 0 4 ≠ 0x31574642 ∨ leAt img 4 1 ≠ comp ∨ 64 < imgSvn img ∨ img.length < 272 + len then some .bad
  else if imgSvn img < counter then some .rollback
  else if !keyed (imgKeyHash img) || !Config.es384Ok ((img.drop 72).take 97) (img.take 176) ((img.drop 176).take 96) then some .bad
  else if sha384 ((img.drop 272).take len) != (img.drop 24).take 48 then some .bad
  else none

end Sys2Proof.Machine
end

