-- ==== Sys2Proof/Machine/GuardOps.lean ====
section
/-!
DEFINITION. Security (chapter 19): measurements, operator keys, the debug session, profiling consent, the lifecycle, boot images and firmware
update, attestation.
-/

namespace Sys2Proof.Machine

/-! ## Records and measurements -/

/-- A security record (R667). -/
def Abl.secRec (a : Abl) (code : Nat) (payload : List Nat) : Abl := a.on fun n => n.emit 0 1 0x1F code 554 payload

/-- Extend a measurement register (R652). -/
def Abl.mrExtend (a : Abl) (i : Nat) (d : List Nat) : Abl :=
  a.on fun n => n.wr Reg.ABL_MR i (leNat (sha384 (le 48 (n.rd Reg.ABL_MR i) ++ d)))

/-- The fused lifecycle code (R669). -/
def Abl.fused (a : Abl) : Nat := a.n.fld Reg.ABL_LC_STATE 0 4 3

/-- LIFECYCLE in both registers that report it. (DESIGN CHOICE: log 93.) -/
def Abl.setLc (a : Abl) (code : Nat) : Abl := a.on fun n => (n.setFld Reg.ABL_STATUS 0 28 3 code).setFld Reg.ABL_LC_STATE 0 0 3 code

/-- Program a lifecycle fuse (R645). (DESIGN CHOICE: log 93.) -/
def Abl.fuse (a : Abl) (code : Nat) : Abl := (a.on fun n => n.setFld Reg.ABL_LC_STATE 0 4 3 code).setLc code

/-- Tideline seconds. -/
def Node.seconds (n : Node) : Nat := n.tideline / 1000000000

/-! ## Operator keys (R647) -/

/-- The SHA-384 in a key slot, empty where it is not programmed, and whether the slot is valid. -/
def Abl.keySlot (a : Abl) (k : Nat) : List Nat := lookupD a.guard.keys k (Config.keyHash k)
def Abl.keyOk (a : Abl) (k : Nat) : Bool :=
  !(a.keySlot k).isEmpty && !a.guard.keysOff && !(a.guard.revoked.contains k || Config.keyRevoked k)

/-- Whether a public key is in a valid slot of a role, other than one. -/
def Abl.keyIn (a : Abl) (role : Nat) (pk : List Nat) (not : Option Nat) : Bool :=
  (List.range 4).any fun s => not != some (4 * role + s) && a.keyOk (4 * role + s) && a.keySlot (4 * role + s) == sha384 pk

/-- Whether a token is signed by a valid slot of a role whose public key stands under a key of its payload. -/
def Abl.signedBy (a : Abl) (role key : Nat) (c : Cose) (aad : List Nat) (not : Option Nat) : Bool :=
  match c.str key with
  | some pk => a.keyIn role pk not && Config.es384Ok pk (coseSigWith aad c.payload) c.sig
  | none => false

/-! ## The debug session -/

/-- Whether a session is open. -/
def Abl.sessionOpen (a : Abl) : Bool := a.n.bit Reg.ABL_DBG_CTRL 0 31

/-- Write a DDU's debug grant through DIE_REG_WRITE (R662): the expiry first. -/
def Abl.dieGrant (a : Abl) (dies grant expire : Nat) : Abl :=
  ((List.range 16).filter fun p => bit dies p && a.n.childValid p).foldl (fun (a : Abl) p =>
    a.on fun n => n.dieCmd p 0x1002 (le 2 2 ++ zeros 14 ++ (le 4 0xA7F54 ++ le 4 0xFFFFFFFF ++ le 8 expire) ++
      (le 4 0xA7F50 ++ le 4 0xFFFFFFFF ++ le 8 grant))) a

/-- A session ends (R661): reasons of R667. (DESIGN CHOICE: log 95.) -/
def Abl.sessionEnd (a : Abl) (reason : Nat) : Abl :=
  if !a.sessionOpen then a
  else
    let (at_, wdogs) := a.guard.session.getD (a.n.local, [])
    let a := a.on fun n => (List.range 6).foldl (fun (n : Node) c =>
      let n := if n.fld Reg.ABL_MC_CORE_STATE c 0 3 = 1 then n.coreState c 0 else n
      match wdogs[c]? with | some v => n.wr Reg.ABL_MC_WDOG_CFG c v | none => n) n
    let a := if a.n.granted 5 && a.n.bit Reg.ABL_FLT_INJ 0 32 then
        a.on fun n => (n.setB Reg.ABL_FLT_INJ 0 32 false).setFld Reg.ABL_FLT_INJ 0 0 16 0
      else a
    let a := a.dieGrant (a.n.rd Reg.ABL_DBG_DIES) 0 0
    let a := (a.on fun n => (((n.wr Reg.ABL_DBG_CTRL 0 0).wr Reg.ABL_DBG_EXPIRE 0 0).wr Reg.ABL_DBG_JOBTAG 0 0).wr Reg.ABL_DBG_DIES 0 0).setLc a.fused
    let a : Abl := { a with guard := { a.guard with session := none } }
    let payload := [reason, 0, 0, 0] ++ le 4 ((a.n.local - at_) / 1000000000)
    let rec_ := (a.n.mkRec 1 0x1F 0x0002 554 0 payload).1
    (a.secRec 0x0002 payload).mrExtend 4 (sha384 rec_.bytes)

/-- DEBUG_CHALLENGE (R659) with a nonce of 32 bytes. -/
def Abl.debugChallenge (a : Abl) (nonce : List Nat) : Abl × Ans :=
  let n := a.n
  let b := le 8 (n.rd Reg.ABL_SERIAL) ++ padTo 32 nonce ++ le 4 (n.rd Reg.ABL_DBG_SESSIONS + 1) ++ le 4 n.now
  ({ a with guard := { a.guard with challenge := some (b, n.local) } }, { data := b })

/-- The challenge held and not expired (R659). -/
def Abl.challenge (a : Abl) : Option (List Nat) :=
  match a.guard.challenge with
  | some (b, t) => if a.n.local < t + 60000000000 then some b else none
  | none => none

/-- DEBUG_OPEN (R659, R660). (DESIGN CHOICE: log 95.) -/
def Abl.debugOpen (a : Abl) (token : List Nat) : Abl × Ans :=
  if a.fused ≠ 1 || a.n.pwrState = 3 then (a, Ans.of stNotPermitted)
  else if a.sessionOpen then (a, Ans.of stBusy)
  else match a.challenge with
    | none => (a, Ans.of stStale)
    | some ch =>
      match coseRead token with
      | none => (a, Ans.of stNotPermitted)
      | some c =>
        if !a.signedBy 0 7 c [] none || c.num 1 != some (a.n.rd Reg.ABL_SERIAL) || c.str 2 != some ((ch.drop 8).take 32) then
          (a, Ans.of stNotPermitted)
        else
          let grant := (c.num 3).getD 0x8000
          let dies := (c.num 5).getD 0x10000
          let dur := (c.num 6).getD 0
          if 128 ≤ grant || 65536 ≤ dies || dur = 0 || 28800 < dur || (c.num 4).isNone then (a, Ans.of stBad)
          else
            let n := a.n
            let num := n.rd Reg.ABL_DBG_SESSIONS + 1
            let expire := (n.seconds + dur) % 2 ^ 32
            let wdogs := (List.range 6).map fun k => n.rd Reg.ABL_MC_WDOG_CFG k
            let a : Abl := { a with guard := { a.guard with challenge := none, session := some (n.local, wdogs) } }
            let a := a.on fun n => ((((n.wr Reg.ABL_DBG_CTRL 0 (2 ^ 31 + grant)).wr Reg.ABL_DBG_EXPIRE 0 expire).wr Reg.ABL_DBG_JOBTAG 0
              ((c.num 4).getD 0)).wr Reg.ABL_DBG_DIES 0 dies).wr Reg.ABL_DBG_SESSIONS 0 num
            let a := ((a.setLc 2).mrExtend 4 (sha384 token)).dieGrant dies (2 ^ 31 + (grant &&& 0x30)) expire
            (a.secRec 0x0001 (le 2 grant ++ le 2 dies ++ le 4 num), {})

/-- DEBUG_SESSION_EXPIRY (R661). -/
def Abl.sessionExpiry (a : Abl) : Abl :=
  if a.sessionOpen && decide (0 ≤ dist32 (a.n.seconds % 2 ^ 32) (a.n.rd Reg.ABL_DBG_EXPIRE)) then a.sessionEnd 2 else a

/-! ## Profiling (R92, R664) -/

/-- What R663 asks of PROFILE_ENABLE: the consent, where a token gives it, or a refusal. -/
def Abl.profileMay (a : Abl) (c : Cmd) : Option (Option ConsentX) :=
  let l := a.n.lifecycle
  let mask := leAt c.params 0 2
  let fac := leAt c.params 2 1
  if l = 0 ∨ l = 3 then some none
  else if l = 2 && a.n.granted 6 && a.n.rd Reg.ABL_DBG_JOBTAG == c.jobtag then some none
  else match coseRead (c.params.drop 8) with
    | none => none
    | some t =>
      let range := (t.arr 3).getD []
      let now := a.n.seconds
      let expiry := (t.num 4).getD 0
      let inRange := (List.range 16).all fun p => !bit mask p ||
        (decide (range.getD 0 1 ≤ a.n.dieOf p) && decide (a.n.dieOf p ≤ range.getD 1 0))
      if a.signedBy 1 5 t [] none && t.num 1 == some c.jobtag && c.jobtag != 0 && range.length == 2 &&
          (fac &&& (t.num 2).getD 0) == fac && inRange && decide (now < expiry) then
        some (some { jobtag := c.jobtag, dies := mask, expiry := expiry })
      else none

/-- PROF_EN of the dies of a mask by DIE_PROFILE (R92). -/
def Abl.dieProfile (a : Abl) (mask en jobtag : Nat) : Abl :=
  ((List.range 16).filter fun p => bit mask p && a.n.childValid p).foldl (fun (a : Abl) p =>
    a.on fun n => n.dieCmd p 0x1006 ([en, 0, 0, 0] ++ le 4 jobtag)) a

/-- PROFILE_ENABLE (R92, R114, R117, R664). (DESIGN CHOICE: log 95.) -/
def Abl.profileEnable (a : Abl) (c : Cmd) : Abl × Ans :=
  let mask := leAt c.params 0 2
  let fac := leAt c.params 2 1
  if fac = 0 ∨ 16 ≤ fac then (a, Ans.of stBad)
  else match a.profileMay c with
    | none => (a, Ans.of stNotPermitted)
    | some con =>
      let a := if bit fac 0 || bit fac 1 then a.dieProfile mask 1 c.jobtag else a
      let a : Abl := if bit fac 2 then { a with profJobs := c.jobtag :: a.profJobs.filter fun t => t != c.jobtag } else a
      let a := if bit fac 3 then a.on fun n => n.setB Reg.ABL_PERF_CTRL 0 0 true else a
      let a : Abl := { a with guard := { a.guard with consents := con.toList ++ a.guard.consents } }
      (a, {})

/-- PROFILE_DISABLE (R92): the enablements that name only dies of the mask end. (DESIGN CHOICE: log 95.) -/
def Abl.profileDisable (a : Abl) (mask : Nat) : Abl :=
  let a := a.dieProfile mask 0 0
  let gone (x : ConsentX) : Bool := (x.dies &&& mask) == x.dies
  let tags := (a.guard.consents.filter gone).map fun x => x.jobtag
  let a : Abl := { a with profJobs := a.profJobs.filter (fun t => !tags.contains t), guard := { a.guard with consents := a.guard.consents.filter fun x => !gone x } }
  if mask % 65536 = 65535 || a.guard.consents.isEmpty then
    { a with profJobs := [] }.on fun n => n.setB Reg.ABL_PERF_CTRL 0 0 false
  else a

/-- PROFILE_CONSENT_EXPIRY (R664). -/
def Abl.consentExpiry (a : Abl) : Abl :=
  (a.guard.consents.filter fun x => decide (x.expiry ≤ a.n.seconds)).foldl (fun a x => a.profileDisable x.dies) a

/-! ## Boot images (R649, R650) -/

/-- The slot from which a component runs: 0 A, 1 B. -/
def Abl.slotOf (a : Abl) (comp : Nat) : Nat :=
  match comp with | 0 => a.n.fld Reg.ABL_LC_STATE 0 16 1 | 1 => a.n.fld Reg.ABL_LC_STATE 0 17 1 | k => lookupD a.guard.slot k 0

/-- Run a component from a slot. -/
def Abl.setSlot (a : Abl) (comp s : Nat) : Abl :=
  match comp with
  | 0 => a.on fun n => n.setFld Reg.ABL_LC_STATE 0 16 1 s
  | 1 => a.on fun n => n.setFld Reg.ABL_LC_STATE 0 17 1 s
  | k => { a with guard := { a.guard with slot := bindKey a.guard.slot k s } }

/-- The image in a slot. -/
def Abl.image (a : Abl) (comp s : Nat) : List Nat := lookupD a.guard.flash (2 * comp + s) (Config.bootImage (2 * comp + s))

/-- A component's anti-rollback counter (R651). -/
def Abl.svn (a : Abl) (comp : Nat) : Nat := a.n.fld Reg.ABL_LC_SVN 0 (8 * comp) 7

/-- Whether a key hash is a valid Beygor slot in this lifecycle (R650): the debug slot in MANUFACTURE and RMA alone. -/
def Abl.beygor (a : Abl) (h : List Nat) : Bool :=
  (List.range 5).any fun k => Config.beygorValid k && Config.beygorHash k == h && (decide (k < 4) || a.fused == 0 || a.fused == 3)

/-- Verification of an image (R650). -/
def Abl.imgFail (a : Abl) (comp : Nat) (img : List Nat) : Option ImgFail := imgCheck comp (a.svn comp) a.beygor img

/-- FW_STATE (R667): flags [0] activated, [1] reverted, [2] committed. -/
def Abl.fwState (a : Abl) (comp flags svn : Nat) : Abl := a.secRec 0x0004 ([comp, flags, 0, 0] ++ le 4 svn)

/-- ABL_LC_STATE.PENDING_FW. -/
def Abl.pendView (a : Abl) : Abl := a.on fun n => n.setB Reg.ABL_LC_STATE 0 18 (a.guard.pending.contains 1)

/-- Pending sentinel slots become active at a reset of the complex or of the chip (R654). (DESIGN CHOICE: log 94.) -/
def Abl.fwActivate (a : Abl) : Abl :=
  let cs := a.guard.pending.filter fun k => decide (k < 2)
  let a := cs.foldl (fun (a : Abl) k => a.setSlot k (1 - a.slotOf k)) a
  { a with guard := { a.guard with pending := a.guard.pending.filter (fun k => decide (2 ≤ k)), fresh := cs,
                                   activated := if cs.isEmpty then a.guard.activated else some a.n.local } }.pendView

/-- The loader reverts to the other firmware slot (R654). -/
def Abl.fwRevert (a : Abl) : Abl :=
  let a : Abl := { a with guard := { a.guard with activated := none, fresh := [] } }
  let a := a.setSlot 1 (1 - a.slotOf 1)
  a.fwState 1 2 (imgSvn (a.image 1 (a.slotOf 1)))

/-- The slot from which a boot stage runs its component (R649): the active one, else the other, from path A, else from path B.  Bit
2 x slot + path of `bad` says that a copy does not read back what was written. -/
def Abl.bootSlot (a : Abl) (comp bad : Nat) : Option Nat :=
  let s := a.slotOf comp
  [s, 1 - s].find? fun k => (!bit bad (2 * k) || !bit bad (2 * k + 1)) && (a.imgFail comp (a.image comp k)).isNone

/-- The measurement of a stage: the digest of the header (R652). (DESIGN CHOICE: log 94.) -/
def headerDigest (img : List Nat) : List Nat := sha384 (img.take 272)

/-- A stage runs its component's image from a slot: BOOT advances (R649, R652, R678). -/
def Abl.bootRun (a : Abl) (comp s : Nat) : Abl :=
  let img := a.image comp s
  let a := a.setSlot comp s
  match comp with
  | 0 =>
    let a := if a.n.bit Reg.ABL_STATUS 0 15 then a else a.mrExtend 1 (headerDigest img)
    a.on fun n => n.setFld Reg.ABL_STATUS 0 16 4 1
  | _ =>
    let a := a.mrExtend 2 (headerDigest img)
    let a := a.mrExtend 3 (Config.roleDigest (a.n.fld Reg.ABL_NODE 0 26 2) a.n.role a.n.lifecycle)
    let a := a.on fun n => (n.wr Reg.ABL_FW_VERSION 0 (imgVersion img)).setFld Reg.ABL_STATUS 0 16 4 2
    let due := a.guard.fresh
    let a : Abl := { a with guard := { a.guard with fresh := [] } }
    due.foldl (fun (a : Abl) k => a.fwState k 1 (imgSvn (a.image k (a.slotOf k)))) a

/-- Boot fails (R655). -/
def Abl.bootFail (a : Abl) (comp : Nat) : Abl :=
  let a := a.on fun n => ((n.setFld Reg.ABL_STATUS 0 16 4 3).setB Reg.ABL_STATUS 0 31 true).wr Reg.ABL_HOST_AP_BASE 0 1
  let a := a.on fun n => n.wr Reg.ABL_HOST_GRANT 0 (2 ^ 127 + 2 ^ 126 + 0x3FFFFFF * 2 ^ 40)
  { a with guard := { a.guard with recover := some comp } }

/-- RECOVERY_IMAGE_POST (R655): the image that stands in SRAM from address 0. -/
def Abl.recoverPost (a : Abl) (img : List Nat) : Abl × Bool :=
  match a.guard.recover with
  | none => (a, false)
  | some comp =>
    let img := img.take (272 + leAt img 16 4)
    if (a.imgFail comp img).isSome then (a, false)
    else
      let a := a.on fun n => (n.wr Reg.ABL_HOST_GRANT 0 0).fltRefresh
      let s := a.slotOf comp
      let a : Abl := { a with guard := { a.guard with recover := none, flash := bindKey a.guard.flash (2 * comp + s) img } }
      (a.bootRun comp s, true)

/-! ## Firmware update (R654) -/

/-- The counters of the operation: bytes verified, targets done, and the image's version. -/
def FwX.cs (x : FwX) (verified targets : Nat) : List Nat := [verified, targets, 0, imgVersion x.image]

/-- Commit a component's counter (R651): the image that runs, verified in a production slot. (DESIGN CHOICE: log 85.) -/
def Abl.fwCommit (a : Abl) (comp : Nat) : Abl × Bool :=
  let img := a.image comp (a.slotOf comp)
  let prod := (List.range 4).any fun k => Config.beygorValid k && Config.beygorHash k == imgKeyHash img
  if !prod || imgSvn img < a.svn comp || 64 < imgSvn img then (a, false)
  else ((a.on fun n => n.setFld Reg.ABL_LC_SVN 0 (8 * comp) 7 (imgSvn img)).fwState comp 4 (imgSvn img), true)

/-- FW_UPDATE (R654, R619): `img` and `stage` are what the data reference gave. (DESIGN CHOICE: log 94.) -/
def Abl.fwUpdate (a : Abl) (c : Cmd) (ref : Except Nat (List Nat × Option StageX)) : Abl × Ans :=
  let target := leAt c.params 0 1
  let comp := target % 128
  if 3 ≤ comp then (a, Ans.of stBad)
  else if a.guard.update.isSome then (a, Ans.of stBusy)
  else
    let start (k : Abl → Nat → Abl × Ans) : Abl × Ans :=
      match a.n.opStart 8 c.path c.jobtag with
      | (none, n) => ({ a with n := n }, { status := stBusy, hint := a.n.opHint })
      | (some h, n) => k { a with n := n } h
    if 128 ≤ target then
      start fun a h =>
        let img := a.image comp (a.slotOf comp)
        let r := a.fwCommit comp
        (r.1.on fun n => n.opEnd h (if r.2 then stOk else stNotPermitted) (if r.2 then 2 else 0) [img.length, b2n r.2, 0, imgVersion img], { handle := h })
    else match ref with
      | .error st => (a, Ans.of st)
      | .ok (img, st) =>
        start fun a h =>
          let x : FwX := { handle := h, comp := comp, dies := leAt c.params 2 2, image := img, stage := st.map fun y => y.id }
          let a := match a.n.op h with | some o => a.on fun n => n.opNote o 0 | none => a
          ({ a with guard := { a.guard with update := some x } }, { handle := h })

/-- The update's operation ends and its staged object is freed. -/
def Abl.fwEnd (a : Abl) (x : FwX) (status outcome verified targets : Nat) : Abl :=
  let a : Abl := { a with guard := { a.guard with update := none } }
  let a := a.consume (match x.stage with | some i => a.n.stage i | none => none)
  a.on fun n => n.opEnd x.handle status outcome (x.cs verified targets)

/-- FW_SLOT_WRITE_DONE (R654): `held` says whether a path holds the slot after it was written and read back. -/
def Abl.fwDone (a : Abl) (held : Bool) (nonce : Nat → List Nat) : Abl :=
  match a.guard.update with
  | none => a
  | some x =>
    match (a.n.op x.handle).map fun o => (o.state, o.kstate) with
    | some (0, 0) =>
      match a.imgFail x.comp x.image with
      | some .bad => a.fwEnd x stBad 3 x.image.length 0
      | some .rollback => a.fwEnd x stNotPermitted 4 x.image.length 0
      | none => a.on fun n => n.opChange x.handle fun o => { o with kstate := 1, cs := x.cs x.image.length 0 }
    | some (0, 1) =>
      if !held then a.fwEnd x stInternal 0 x.image.length 0
      else
        let s := 1 - a.slotOf x.comp
        let a : Abl := { a with guard := { a.guard with flash := bindKey a.guard.flash (2 * x.comp + s) x.image, pending := x.comp :: a.guard.pending.filter fun k => k != x.comp } }
        let a := a.pendView
        let dies := if x.comp = 2 then (List.range 16).filter fun p => bit x.dies p && a.n.childValid p else []
        let a := a.on fun n => n.opChange x.handle fun o => { o with kstate := 2, cs := x.cs x.image.length 1 }
        let a := if x.comp = 2 then
            { a with guard := { a.guard with pending := a.guard.pending.filter fun k => k != 2 } }.setSlot 2 s
          else a
        if dies.isEmpty then a.fwEnd x stOk 1 x.image.length 1
        else
          let a : Abl := { a with guard := { a.guard with nonces := dies.foldl (fun l p => bindKey l p (padTo 32 (nonce p))) a.guard.nonces } }
          dies.foldl (fun (a : Abl) p => a.on fun n => n.dieCmd p 0x1002 (le 2 1 ++ zeros 14 ++ (le 4 0x00010 ++ le 4 0x400 ++ le 8 0x400))) a
    | _ => a

/-- BOOT_REPORT_RX (R657): a DDU boot ROM returns its report. -/
def Abl.bootReport (a : Abl) (port : Nat) (report : List Nat) : Abl :=
  let a : Abl := { a with guard := { a.guard with reports := bindKey a.guard.reports port report } }
  match a.guard.update with
  | none => a
  | some x =>
    let running := match a.n.op x.handle with | some o => o.state == 0 && o.kstate == 2 | none => false
    if !running || !bit x.dies port || x.booted.contains port then a
    else
      let x : FwX := { x with booted := port :: x.booted }
      let a : Abl := { a with guard := { a.guard with update := some x } }
      let all := (List.range 16).all fun p => !(bit x.dies p && a.n.childValid p) || x.booted.contains p
      if all then (a.fwState 2 1 (imgSvn x.image)).fwEnd x stOk 2 x.image.length (1 + x.booted.length) else a

/-! ## Attestation (R656) -/

/-- The attestation report's payload. (DESIGN CHOICE: log 95.) -/
def Abl.report (a : Abl) (nonce : List Nat) (target : Nat) : List Nat :=
  let n := a.n
  let base : List (Nat × List Nat) :=
    [(1, cborUint 1), (2, cborBytes nonce), (3, cborUint (n.rd Reg.ABL_SERIAL)), (4, cborUint (n.rd Reg.ABL_ID)), (5, cborUint n.lifecycle),
     (6, cborArr ((List.range 5).map fun i => cborBytes (le 48 (n.rd Reg.ABL_MR i)))),
     (7, cborArr ((List.range 3).map fun k => cborUint (a.svn k))), (8, cborUint (n.rd Reg.ABL_FW_VERSION)), (9, cborUint n.ident),
     (10, cborUint n.mc.resets), (11, cborUint (n.rd Reg.ABL_DBG_SESSIONS)), (12, cborArr [cborUint (n.tideline / 2 ^ 32), cborUint n.now]),
     (13, cborUint target)]
  cborMap (base ++ if target < 16 then [(14, cborBytes (lookupD a.guard.reports target []))] else [])

/-- ATTEST (R656, R657). -/
def Abl.attest (a : Abl) (c : Cmd) : Abl × Ans :=
  let target := leAt c.params 32 1
  let part := leAt c.params 33 1
  if 3 ≤ part || (16 ≤ target && target != 255) || (target < 16 && !a.n.childValid target) then (a, Ans.of stBad)
  else
    let data := if part = 0 then
        let p := a.report (c.params.take 32) target
        coseSign1 (le 8 Config.signKid) p (Config.es384 (coseSigInput p))
      else Config.certificate target part (a.n.rd Reg.ABL_MR 2)
    (a, { data := data })

/-! ## The lifecycle (R646, R647, R648, R665) -/

/-- LIFECYCLE_CHANGE (R667). -/
def Abl.lcRec (a : Abl) (op target old new : Nat) : Abl := a.secRec 0x0003 ([op, target, old, new] ++ zeros 4)

/-- Zero-write the memories, and free every staged object, replay window and share (R648, R665). -/
def Abl.erase (a : Abl) : Abl :=
  let a := a.n.mb.stages.foldl Abl.stageFree a
  let a : Abl := { a with grid := { a.grid with ctxs := a.grid.ctxs.map fun x => { x with window := [] } } }
  let a := a.dropShares fun _ => true
  { a with sec := {}, out := [], wipe := true }

/-- STORE_SEAL, and SEALED (R529). -/
def Abl.seal (a : Abl) : Abl :=
  let jseq := a.n.rd Reg.ABL_HS_JSEQ
  let last := jseq - 1
  let recs := (a.hist.log.mergeSort fun x y => decide (x.jseq ≤ y.jseq)).flatMap fun x => x.bytes
  let body := le 8 last ++ sha384 recs
  let cose := coseSign1 (le 8 Config.signKid) body (Config.es384 (coseSigInput body))
  let payload := le 4 (a.n.tideline / 2 ^ 32) ++ body ++ le 2 cose.length ++ zeros 2 ++ cose
  let r := (a.n.mkRec 1 0x1B 0x0050 650 8 payload).1
  let n := a.n.write 1 0x1B 0x0050 650 8 payload fun r m => m.sendUp 0 1 (.record r)
  let a := ({ a with n := n } : Abl).hsStore r true
  (a.on fun n => (n.setB Reg.ABL_HS_STATUS 0 26 true).setB Reg.ABL_LC_STATE 0 8 true).superCause

/-- Steps 3 to 5 of R665: fuses, keys, memories. -/
def Abl.retirePart (a : Abl) : Abl :=
  let a := (a.fuse 4).on fun n => (n.setB Reg.ABL_LC_STATE 0 9 true).setB Reg.ABL_LC_STATE 0 8 false
  ({ a with guard := { a.guard with challenge := none, consents := [], assocs := [], nonces := [] } } : Abl).erase

/-- Whether LIFECYCLE_SET waits (R647). -/
def Abl.lcBusy (a : Abl) : Bool :=
  (List.range 63).any (fun j => a.n.fld Reg.ABL_JOB (j + 1) 125 3 != 0) || a.n.rd Reg.ABL_SEC_USED_MIB != 0 ||
    a.n.mb.ops.any fun o => o.state != 2

/-- The frame by which the sentinel carries an operation out on a die (R647). -/
def Abl.lcDie (a : Abl) (port : Nat) (params : List Nat) : Abl × Ans :=
  if 16 ≤ port || !a.n.childValid port then (a, Ans.of stBad)
  else
    let op := leAt params 0 1
    let a := a.on fun n => n.sendFrame port (n.childNode port) 6 .other [0x0D05] params
    let a := (a.mrExtend 4 (Config.lifecycleDigest op port params)).lcRec op port 0xFF 0xFF
    (a, {})

/-- Op 1, SECURE. -/
def Abl.lcSecure (a : Abl) (p : List Nat) : Abl × Ans :=
  let role := leAt p 2 1
  let k := 4 * role + leAt p 3 1
  if a.fused ≠ 0 then (a, Ans.of stNotPermitted)
  else if 3 ≤ role || 4 ≤ leAt p 3 1 || p.length < 52 || !(a.keySlot k).isEmpty then (a, Ans.of stBad)
  else
    let a : Abl := { a with guard := { a.guard with keys := bindKey a.guard.keys k ((p.drop 4).take 48) } }
    let a := a.mrExtend 4 (Config.lifecycleDigest 1 255 p)
    let all := [0, 1, 2].all fun r => (List.range 4).any fun s => a.keyOk (4 * r + s)
    if all && role = 2 then ((a.fuse 1).lcRec 1 255 0 1, {}) else (a.lcRec 1 255 0 0, {})

/-- Op 2, RMA (R648). -/
def Abl.lcRma (a : Abl) (p : List Nat) : Abl × Ans :=
  if a.fused ≠ 1 || !Config.rmaToken (p.drop 52) then (a, Ans.of stNotPermitted)
  else
    let a := (a.sessionEnd 5).erase
    let a : Abl := { a with guard := { a.guard with keysOff := true } }
    (((a.fuse 3).mrExtend 4 (Config.lifecycleDigest 2 255 p)).lcRec 2 255 1 3, {})

/-- Op 3, DECOMMISSION (R665), up to the reboot of its last step. -/
def Abl.lcRetire (a : Abl) (p : List Nat) : Abl × Ans :=
  let old := a.fused
  let a := (a.sessionEnd 5).seal.retirePart
  ((a.mrExtend 4 (Config.lifecycleDigest 3 255 p)).lcRec 3 255 old 4, {})

/-- Op 4, KEY_ADD. (DESIGN CHOICE: log 93.) -/
def Abl.keyAdd (a : Abl) (p : List Nat) : Abl × Ans :=
  let role := leAt p 2 1
  let k := 4 * role + leAt p 3 1
  if 3 ≤ role || 4 ≤ leAt p 3 1 || p.length < 52 || !(a.keySlot k).isEmpty then (a, Ans.of stBad)
  else match coseRead (p.drop 52) with
    | none => (a, Ans.of stNotPermitted)
    | some c =>
      if !a.signedBy role 7 c (p.take 52) (some k) then (a, Ans.of stNotPermitted)
      else
        let a : Abl := { a with guard := { a.guard with keys := bindKey a.guard.keys k ((p.drop 4).take 48) } }
        ((a.mrExtend 4 (Config.lifecycleDigest 4 255 p)).lcRec 4 255 a.n.lifecycle a.n.lifecycle, {})

/-- Op 5, KEY_REVOKE. (DESIGN CHOICE: log 93.) -/
def Abl.keyRevoke (a : Abl) (p : List Nat) : Abl × Ans :=
  let role := leAt p 2 1
  let k := 4 * role + leAt p 3 1
  let others := (List.range 4).any fun s => 4 * role + s != k && a.keyOk (4 * role + s)
  if 3 ≤ role || 4 ≤ leAt p 3 1 || p.length < 52 || !a.keyOk k || !others then (a, Ans.of stBad)
  else match coseRead (p.drop 52) with
    | none => (a, Ans.of stNotPermitted)
    | some c =>
      if !a.signedBy role 7 c (p.take 52) (some k) then (a, Ans.of stNotPermitted)
      else
        let a : Abl := { a with guard := { a.guard with revoked := k :: a.guard.revoked } }
        ((a.mrExtend 4 (Config.lifecycleDigest 5 255 p)).lcRec 5 255 a.n.lifecycle a.n.lifecycle, {})

/-- What every op of LIFECYCLE_SET checks before its own rules (R647, R645), with the target. (DESIGN CHOICE: log 93.) -/
def Abl.lifecycleSet (a : Abl) (c : Cmd) (own : Abl → Abl × Ans) : Abl × Ans :=
  let op := leAt c.params 0 1
  let target := leAt c.params 1 1
  if op ≤ 3 && (a.lcBusy || a.hist.pwrFail) then (a, { status := stBusy, hint := 10000 })
  else if target = 255 then own a
  else a.lcDie target c.params

/-! ## DTLS associations (R658) -/

/-- DTLS_HANDSHAKE_RX: a handshake that completes, under the client key that its certificate chains to. -/
def Abl.dtls (a : Abl) (port peer : Nat) (root : List Nat) (ok : Bool) : Abl :=
  let mine := a.guard.assocs.filter fun x => x.1 == port
  if 2 ≤ port || !ok || !a.keyIn 2 root none then a
  else if mine.any fun x => x.2 == peer then a
  else if 8 ≤ mine.length then a
  else { a with guard := { a.guard with assocs := (port, peer) :: a.guard.assocs } }

end Sys2Proof.Machine
end

