-- ==== Sys2Proof/Machine/EngOps.lean ====
section
/-!
DEFINITION. Engine resets (R581, R582, R584), and the reset and reboot of the Management Complex (R583).
-/

namespace Sys2Proof.Machine

/-! ## Engines -/

/-- The Flood domain of an engine, as its bit of ABL_PWR_STATE[12:8]. -/
def engDomain (b : Nat) : Option Nat := match b with | 26 => some 1 | 27 => some 0 | 28 => some 3 | 29 => some 4 | _ => none

/-- A trace block on its way. -/
def isTraceBlock (t : TxMsg) : Bool := match t.msg.body with | .frame .traceBlock _ _ => true | _ => false

/-- A message queued in a class queue of the Uplink Scheduler (R245). -/
def inUsch (t : TxMsg) : Bool := decide (16 ≤ t.port) && decide (t.port < 20) && decide (1 ≤ t.msg.cls) && decide (t.msg.cls ≤ 4)

/-- The units of work that an engine has accepted and not finished (R581, R582). -/
def Abl.engWork (a : Abl) (b : Nat) : Nat :=
  match b with
  | 24 => (a.red.slots.map fun s => s.wins.length).sum + a.bars.length
  | 25 => (a.n.txq.filter inUsch).length
  | 26 => a.tree.samples.length
  | 27 => a.grid.slices.length
  | 28 => (a.sec.cuts.filter fun x => !x.ended).length + (a.sec.shares.filter fun s => !s.complete).length
  | 29 => a.sec.cmps.length
  | 30 => (a.n.txq.filter isTraceBlock).length
  | 31 => a.n.timex.launch.length
  | 32 => b2n a.hist.op.isSome + b2n a.hist.pass.isSome
  | 34 => a.n.recx.hold.length
  | _ =>
    if b < 24 then ((a.n.slotsOf b).map fun s => (a.n.lane b s).unacked.length).sum + (a.n.txq.filter fun t => t.port == b && decide (0 < t.sent)).length
    else 0

/-- What remains at the end of the drain stage is discarded, with the record that R582 names.  An aligned Time Unit resumes in HOLDOVER with cause 1.
(DESIGN CHOICE: log 125.) -/
def Abl.engDiscard (a : Abl) (b : Nat) : Abl :=
  let k := a.engWork b
  match b with
  | 24 =>
    let empty (s : RedSlot) : RedSlot := { s with wins := [], outs := [] }
    let a : Abl := { a with red := { a.red with slots := a.red.slots.map empty, frames := [] }, bars := [] }
    a.on fun n => n.loss k 0x0180 0 (some 640)
  | 25 => a.on fun n => ({ n with txq := n.txq.filter (fun t => !inUsch t), usch := { run := n.usch.run } } : Node).loss k 0x0181 0 (some 641)
  | 26 => a.treeReset
  | 27 => a.gridReset
  | 28 => a.secReset
  | 29 => a.cmpReset
  | 30 =>
    let a := a.on fun n => ({ n with txq := n.txq.filter fun t => !isTraceBlock t } : Node).loss k 0x0182 0 (some 644)
    a.traces.foldl (fun (a : Abl) t => (a.traceOp t.handle 2).1) a
  | 31 =>
    a.on fun n =>
      let n := (({ n with timex := { n.timex with launch := [], t1 := none, badRun := 0, goodRun := 0, ptp := { n.timex.ptp with syncs := [], reqs := [], half := none } } } : Node).launchView).loss k 0x0100 0 (some 645)
      if n.timeState = tsUnaligned || n.timeState = tsHoldover then n else n.toHoldover 1
  | 37 | 38 => a.on fun n => n.onPtp fun x => { x with
      syncs := x.syncs.filter fun y => y.1 != b - 37, reqs := x.reqs.filter fun y => y.1 != b - 37, half := x.half.filter fun y => y.1 != b - 37 }
  | 32 => (a.hsOpDone 0).compactCancel
  | 34 => a.on fun n => ({ n with recx := { n.recx with hold := [] } } : Node).loss k 0x0183 0 (some 652)
  | 36 => { a with pwr := { a.pwr with cool := 0, ticks := [0, 0, 0, 0, 0, 0] } }
  | 40 => a.fnReset
  | _ => if b < 24 then a.on fun n => n.portReset b else a

/-- The registers of each engine that return to their reset values (R582): the others are kept. (DESIGN CHOICE: log 82.) -/
def engRegs (b : Nat) : List (Nat × Nat) :=
  match b with
  | 24 => [(0x00600000, 0x00600004), (0x00600008, 0x00600040)]
  | 25 => [(0x00700000, 0x00700100), (0x00704000, 0x00710000)]
  | 26 => [(0x00800000, 0x00800004), (0x00800008, 0x00800040), (0x00801100, 0x00801200), (0x00804000, 0x00804800)]
  | 27 => [(0x00900000, 0x00900004), (0x0090000C, 0x00900010), (0x00900014, 0x00900040), (0x00902000, 0x00902800)]
  | 28 => [(0x00A00000, 0x00A0000C), (0x00A00030, 0x00A00040)]
  | 29 => [(0x00A80000, 0x00A80028)]
  | 31 => [(0x0040003C, 0x00400044), (0x00400200, 0x0040021C)]
  | 32 => [(0x00F00100, 0x00F00200), (0x00F01000, 0x00F02000)]
  | 33 => [(0x00B80000, 0x00B80004), (0x00B80008, 0x00B80018), (0x00B80100, 0x00B80200)]
  | 34 => [(0x00C00010, 0x00C00030)]
  | 35 => [(0x00300000, 0x00300004), (0x00300008, 0x00300018)]
  | 36 => [(0x00E00040, 0x00E00070)]
  | _ => if b < 24 then [(0x00500024 + 0x1000 * b, 0x00500038 + 0x1000 * b)] else []

/-- ENGINE_RESET_DONE (R589) and the DONE bit. (DESIGN CHOICE: log 18.) -/
def Abl.engReport (a : Abl) (r : ResetRun) : Abl :=
  a.on fun n => ((n.setB Reg.ABL_ENGINE_RESET 0 r.bit false).setB Reg.ABL_ENGINE_RESET_DONE 0 r.bit true).emit 0 1 0x1D 0x0001 (n.coreSrc 0)
    ([r.bit, r.mode, r.cause, 0] ++ le 4 r.done ++ le 4 r.discarded ++ le 4 ((n.local - r.began) / 1000))

/-- Start the reset of an engine (R581, R584): cause 1 firmware, 2 fault reaction, 3 host. -/
def Abl.engStart (a : Abl) (b mode cause : Nat) : Abl :=
  if 41 ≤ b || a.n.bit Reg.ABL_ENGINE_RESET 0 b then a
  else
    let stopped := match engDomain b with | some k => !a.n.domOn k | none => false
    let run : ResetRun := { bit := b, mode := mode, cause := cause, began := a.n.local, drained := true }
    if stopped then a.engReport run
    else
      let k := a.engWork b
      let run : ResetRun := { run with inFlight := k, drained := mode == 1, discarded := if mode = 1 then k else 0 }
      let a := a.on fun n => { n.setB Reg.ABL_ENGINE_RESET 0 b true with resets := n.resets ++ [run] }
      if mode = 1 then a.engDiscard b else a

/-- ENGINE_RESET_DRAIN_END (R581). (DESIGN CHOICE: log 4.) (DESIGN CHOICE: log 81.) -/
def Abl.engDrainEnd (a : Abl) (b : Nat) : Abl :=
  match a.n.resets.find? fun r => r.bit == b && !r.drained with
  | none => a
  | some r =>
    let left := min r.inFlight (a.engWork b)
    let r : ResetRun := { r with drained := true, discarded := left, done := r.inFlight - left }
    (a.on fun n => { n with resets := r :: n.resets.filter fun x => x.bit != b }).engDiscard b

/-- ENGINE_RESET_DONE (R581). (DESIGN CHOICE: log 82.) -/
def Abl.engDone (a : Abl) (b : Nat) : Abl :=
  match a.n.resets.find? fun r => r.bit == b && r.drained && b != 63 with
  | none => a
  | some r =>
    let a := a.on fun n => (engRegs b).foldl (fun (n : Node) x => n.resetRegs x.1 x.2) { n with resets := n.resets.filter fun x => x.bit != b }
    let a := if b = 26 then a.treeView else if b = 27 then a.coresView.gridView else a
    a.engReport r

/-- The bit that a RESET reaction of a fault source writes (R582). -/
def engOfSource (s : Nat) : Option Nat :=
  (([(640, 24), (641, 25), (642, 28), (643, 29), (644, 30), (645, 31), (646, 40), (647, 37), (648, 38), (649, 39)] ++
    [(650, 32), (651, 33), (652, 34), (653, 35), (654, 36)] : List (Nat × Nat)).find? fun x => x.1 == s).map fun x => x.2

/-! ## The Management Complex -/

/-- What the retained region lets the rebooted firmware find is ended: every long operation, with INTERNAL_FAULT (R583). -/
def Abl.opsLost (a : Abl) : Abl :=
  let hs := (a.n.mb.ops.filter fun o => o.state != 2).map fun o => o.handle
  let a := hs.foldl (fun (a : Abl) h =>
    let cs := match a.n.op h with | some o => o.cs | none => []
    let a := ((((a.campOp h 2).1.restOp h 2).1.sweepOp h 2).1.traceOp h 2).1
    let a := (a.sec.roots.filter fun r => a.n.secFld r.jobtag 0 32 == h).foldl (fun (a : Abl) r => (a.passOp r.jobtag 2).1) a
    let a := if (a.hist.pass.map fun x => x.handle) == some h then a.compactCancel else a
    a.on fun n => match n.op h with
      | some o => if o.state = 2 && o.final = stInternal then n else n.putOp { o with state := 2, final := stInternal, cs := cs, ended := n.local }
      | none => n) a
  let a := a.onHist fun x => { x with exports := [] }
  let a : Abl := { a with guard := { a.guard with update := none } }
  hs.foldl (fun (a : Abl) h => a.on fun n => match n.op h with | some o => n.opNote o 0 | none => n) a

/-- MC_RESET (R583): cause 1 firmware never, 2 the second watchdog expiry or R673, 3 the host. (DESIGN CHOICE: log 81.) -/
def Abl.mcReset (a : Abl) (cause : Nat) : Abl :=
  if a.n.bit Reg.ABL_ENGINE_RESET 0 63 then a
  else
    let a := a.sessionEnd 4
    let run : ResetRun := { bit := 63, mode := a.n.fld Reg.ABL_ENGINE_RESET_MODE 0 63 1, cause := cause, began := a.n.local, drained := true }
    let counts := (List.range 6).map fun c => a.n.fld Reg.ABL_MC_CORE_STATE c 24 8
    let resets := a.n.mc.resets
    let a := a.on fun n =>
      let n := (n.resetRegs 0x00200000 0x0020D000).setB Reg.ABL_ENGINE_RESET 0 63 true
      let n : Node := { n with aic := {}, mc := { resets := resets + 1 }, resets := n.resets ++ [run] }
      let n := (List.range 6).foldl (fun (n : Node) c => n.wr Reg.ABL_MC_CORE_STATE c (min 255 (counts.getD c 0 + 1) * 2 ^ 24 + 2)) n
      let n := ((n.wr Reg.ABL_MR 2 0).wr Reg.ABL_MR 3 0).setFld Reg.ABL_STATUS 0 16 4 0
      (n.setB Reg.ABL_STATUS 0 15 true).mbLines
    a.fwActivate

/-- Wyique firmware runs again (R583): owned commands, operations and open proposals. (DESIGN CHOICE: log 81.) -/
def Abl.mcBack (a : Abl) : Abl :=
  let a := a.on fun n => (List.range 6).foldl (fun (n : Node) c => (n.coreState c 0).wdogRestart c) n
  if !a.n.bit Reg.ABL_STATUS 0 15 then a
  else
    let a := a.on fun n => n.mb.posted.foldl (fun (n : Node) p => n.respond p { status := stBusy }) (n.setB Reg.ABL_STATUS 0 15 false)
    let a := a.opsLost
    let a := (a.gov.props.filter fun p => p.decision == 0 || p.decision == 2).foldl Abl.sendProp a
    match a.n.resets.find? fun r => r.bit == 63 with
    | some r => (a.on fun n => { n with resets := n.resets.filter fun x => x.bit != 63 }).engReport r
    | none => a

/-- A watchdog's second expiry within 60 s (R585, R654). -/
def Abl.wdogSecond (a : Abl) : Abl :=
  let soon := match a.guard.activated with | some t => decide (a.n.local < t + 600000000000) | none => false
  (if soon then a.fwRevert else a).mcReset 2

/-- FW_BOOT_TIMEOUT (R654): 10 s after its activation, the firmware has not reached BOOT 2. -/
def Abl.bootTimeout (a : Abl) : Abl :=
  match a.guard.activated with
  | some t =>
    if a.n.fld Reg.ABL_STATUS 0 16 4 ≠ 2 && a.n.fld Reg.ABL_STATUS 0 16 4 ≠ 3 && decide (t + 10000000000 ≤ a.n.local) then
      a.fwRevert.on fun n => n.setFld Reg.ABL_STATUS 0 16 4 0
    else a
  | none => a

/-- A write of ABL_ENGINE_RESET (R581, R583, R584). -/
def Abl.engWrite (a : Abl) (host : Bool) (v : Nat) : Abl :=
  if host then
    let a := if v % 2 ^ 63 = 0 then a else a.on fun n => n.bump Reg.ABL_ENGINE_RESET_DENIED
    if bit v 63 then a.mcReset 3 else a
  else
    let a := if bit v 63 then a.on fun n => n.bump Reg.ABL_ENGINE_RESET_DENIED else a
    (setBitsOf 41 v).foldl (fun (a : Abl) b => a.engStart b (a.n.fld Reg.ABL_ENGINE_RESET_MODE 0 b 1) 1) a

end Sys2Proof.Machine
end

