-- ==== Sys2Proof/Machine/PinOps.lean ====
section
/-!
DEFINITION. Pins, reset and power-up of the sentinel (R671 to R685), with what each reset type keeps (R682).
-/

namespace Sys2Proof.Machine

/-! ## What a reset keeps -/

/-- Whether a register of the always-on domain survives a chip reset (R311, R682): the risk table, and the ring's cursors and rate-limit
entries. -/
def chipKeeps (x : Nat) : Bool :=
  (decide (0x00801000 ≤ x) && decide (x < 0x00801084)) || (decide (0x00C00000 ≤ x) && decide (x < 0x00C00010)) ||
    (decide (0x00C04000 ≤ x) && decide (x < 0x00C0C000))

/-- The registers that show fuses (R645, R651, R669). -/
def Abl.fuseRegs (old new : Abl) : Abl :=
  let lc := old.n.rd Reg.ABL_LC_STATE
  (new.on fun n => ((n.wr Reg.ABL_LC_STATE 0 lc).setB Reg.ABL_LC_STATE 0 8 false).wr Reg.ABL_LC_SVN 0 (old.n.rd Reg.ABL_LC_SVN)).setLc old.fused

/-- An operation of the store that is in flight when power or reset cuts it off (R504, R677): a page program completes, an erase is abandoned,
and a compaction ends. -/
def Abl.storeQuiet (a : Abl) : Abl :=
  let a := match a.hist.op with
    | some (3, _, addr) => (a.hsProgram a.hsPaths (65536 * (addr / 65536)) [0]).onHist fun h => { h with
        blocks := h.blocks.filter fun x => x.b != addr / 65536, op := none }
    | some _ => a.hsOpDone 0
    | none => a
  a.compactCancel

/-- The sentinel as a power-on or chip reset leaves it (R682): the stores, the fuses and the pins stay; a chip reset also keeps the risk table
and the recorder's ring. -/
def Abl.chipState (a0 : Abl) (powerOn : Bool) : Abl :=
  let a := a0.storeQuiet
  let n : Node := { dev := .abl }
  let n : Node := if powerOn then n else
    { n with regs := a.n.regs.filter fun p => chipKeeps p.1, recx := { ring := a.n.recx.ring, buckets := a.n.recx.buckets.map a.n.rebased } }
  let scores := if powerOn then [] else a.tree.scores.map fun x => (x.1, x.2.1, x.2.2.1, x.2.2.2 - a.n.local)
  let below := if powerOn then [] else a.tree.below
  let guard : GuardX :=
    { keys := a.guard.keys, revoked := a.guard.revoked, keysOff := a.guard.keysOff, flash := a.guard.flash, pending := a.guard.pending,
      slot := a.guard.slot }
  let hist : HistX := { a.hist with tab := {}, hours := [], overHours := [], overAt := none, tally := [], capRun := 0, spaceRun := 0,
                                    exports := [], pending := none, retry := [], reconciled := [] }
  let pins : PinsX := { a.pins with inReset := true, lostAt := none, lost := false, refLost := false }
  let new : Abl := { n := n, tree := { scores := scores, below := below }, guard := guard, hist := hist, pins := pins, wipe := true }
  (a.fuseRegs new).fwActivate

/-! ## Rails -/

/-- AON_PGOOD_RISE (R672, R677). -/
def Abl.aonRise (a : Abl) : Abl :=
  if a.pins.aonPgood then a
  else { a with pins := { a.pins with aonPgood := true, mainEn := true, mainSeen := false, inReset := true } }

/-- AON_PGOOD_FALL (R672, R677, R684): a power-on reset follows; THERMTRIP_N is released. -/
def Abl.aonFall (a : Abl) : Abl :=
  if !a.pins.aonPgood then a
  else
    let a := a.chipState true
    { a with pins := { a.pins with aonPgood := false, mainEn := false, thermtrip := false, mainSeen := false } }

/-- MAIN_PGOOD_RISE (R672, R673, R677). -/
def Abl.mainRise (a : Abl) : Abl :=
  if a.pins.mainPgood then a
  else
    let a : Abl := { a with pins := { a.pins with mainPgood := true } }
    if !a.pins.aonPgood then a
    else if !a.pins.mainSeen then { a with pins := { a.pins with mainSeen := true } }
    else if a.pins.lost && a.pins.mainEn then
      let a : Abl := { a with pins := { a.pins with lost := false, lostAt := none } }
      (a.on fun n => n.setFld Reg.ABL_PWR_STATE 0 0 3 4).mcReset 2
    else a

/-- MAIN_PGOOD_FALL (R673, R677): expected while MAIN_EN is low. (DESIGN CHOICE: log 94.) -/
def Abl.mainFall (a : Abl) : Abl :=
  if !a.pins.mainPgood then a
  else
    let a : Abl := { a with pins := { a.pins with mainPgood := false } }
    if !a.pins.mainEn || a.pins.inReset then a
    else
      let old := a.n.pwrState
      let a := a.mainLost
      let a := a.on fun n => (n.setFld Reg.ABL_PWR_STATE 0 0 3 0).setFld Reg.ABL_PWR_STATE 0 8 5 0
      let a := (a.pwrRec old 0 7).on fun n => n.fault 654 0 2 0 0
      { a with pins := { a.pins with mainEn := false, lost := true, lostAt := some a.n.local } }

/-- MAIN_EN_RESTART (R673): 10 ms after the loss. -/
def Abl.mainRestart (a : Abl) : Abl :=
  match a.pins.lostAt with
  | some t =>
    if decide (t + 10000000 ≤ a.n.local) && a.pins.aonPgood && !a.pins.thermtrip then
      { a with pins := { a.pins with mainEn := true, lostAt := none } }
    else a
  | none => a

/-! ## RESET_N and boot -/

/-- RESET_N_ASSERT (R677): a low pulse of a width in ns. -/
def Abl.resetAssert (a : Abl) (ns : Nat) : Abl :=
  if ns < 100 || (ns < 1000 && !Config.resetPulse ns) then a
  else
    let a := a.chipState false
    { a with pins := { a.pins with resetN := false } }

/-- INTERNAL_RESET_END (R652, R666, R676, R678): the straps are sampled and the boot ROM starts. -/
def Abl.resetEnd (a : Abl) : Abl :=
  if !a.pins.inReset || !a.pins.aonPgood || !a.pins.mainSeen then a
  else
    let a : Abl := { a with pins := { a.pins with inReset := false, resetN := true } }
    let a := if a.n.fld Reg.ABL_NODE 0 26 2 = 1 then a.on fun n => n.setFld Reg.ABL_NODE 0 28 3 1 else a
    let a := a.mrExtend 0 (Config.romDigest (a.n.rd Reg.ABL_LC_STATE) (a.n.rd Reg.ABL_LC_SVN))
    if a.fused = 4 then a.retirePart else a

/-- BOOT_STAGE_DONE (R649, R655, R678): bit 2 x slot + path of `bad` says that a copy did not read back. -/
def Abl.bootStage (a : Abl) (bad : Nat) : Abl :=
  let comp := a.n.fld Reg.ABL_STATUS 0 16 4
  if a.pins.inReset || 2 ≤ comp || a.pins.lost then a
  else match a.bootSlot comp bad with
    | none => a.bootFail comp
    | some s =>
      let a := a.bootRun comp s
      if comp = 1 then a.mcBack else a

/-- A store found SEALED on a part that is not fused DECOMMISSIONED completes steps 3 to 6 (R666). (DESIGN CHOICE: log 94.) -/
def Abl.sealedBoot (a : Abl) : Abl :=
  if a.hsMount = 2 && a.n.bit Reg.ABL_HS_STATUS 0 26 && (a.fused = 1 || a.fused = 3) then a.retirePart.mcReset 2 else a

/-! ## Other pins -/

/-- PERST_RELEASE (R680). -/
def Abl.perstRise (a : Abl) : Abl := { a with pins := { a.pins with perstN := true } }

/-- FUNCTION_RESET (R640): 0 FLR, 1 hot reset, 2 link-down, 3 PERST_N low. -/
def Abl.functionReset (a : Abl) (kind : Nat) : Abl :=
  let a := a.fnReset
  if kind = 3 then { a with pins := { a.pins with perstN := false } } else a

/-- THERMTRIP (R684). -/
def Abl.thermTrip (a : Abl) : Abl :=
  if a.pins.aonPgood then { a with pins := { a.pins with thermtrip := true, mainEn := false } } else a

/-- REFCLK_LOSS (R685). -/
def Abl.refLoss (a : Abl) : Abl :=
  if a.pins.refLost then a
  else
    let a : Abl := { a with pins := { a.pins with refLost := true } }
    a.on fun n =>
      let n := if n.timeState = tsUnaligned || n.timeState = tsHoldover then n else n.toHoldover 1
      (n.timeAlign (ofInt 32 n.timex.theta)).fault 654 0 0 0 0

/-- REFCLK_RELOCK (R685): the Time Unit returns to LOCKED by its next acceptable sample (R168). -/
def Abl.refLock (a : Abl) : Abl := { a with pins := { a.pins with refLost := false } }

end Sys2Proof.Machine
end

