-- ==== Sys2Proof/Machine/SecureOps.lean ====
section
/-!
DEFINITION. Securing on the die (R426, R427, R438): secure slots, the reads that serve them, and SECURE_DIE_DONE.
-/

namespace Sys2Proof.Machine

/-- Fields of a secure slot (R454). -/
def secTag (v : Nat) : Nat := bits v 0 32
def secCut (v : Nat) : Nat := bits v 32 32
def secVersion (v : Nat) : Nat := bits v 64 32
def secTensor (v : Nat) : Nat := bits v 96 8
def secLast (v : Nat) : Bool := bit v 127
def secAddr (v r : Nat) : Nat := bits v (256 + 128 * r) 64
def secLen (v r : Nat) : Nat := bits v (320 + 128 * r) 64

/-- The length of a tensor: of all its ranges. -/
def secSize (v : Nat) : Nat := ((List.range 4).map (secLen v)).sum

/-- The fence after the LAST slot, once every slot before it has been served (R427). -/
def Ddu.secFence (d : Ddu) : Ddu :=
  if d.sec.last && d.sec.slots.isEmpty && !d.sec.fencing then { d with sec := { d.sec with fencing := true } }.sourceFence else d

/-- A secure slot is posted (R427).  One whose range no window covers is not read: SECURE_DIE_DONE names its tensor, whose data the tray then
misses. (DEDUCED: log 127.) -/
def Ddu.secPost (d : Ddu) (s : Nat) : Ddu :=
  let v := d.rd Reg.DDU_SEC_SLOT s
  let t := secTensor v
  if !d.n.bit Reg.DDU_SEC_CTRL 0 31 || d.n.bit Reg.DDU_SEC_PEND 0 s || d.n.bit Reg.DDU_SUBRESET 0 7 then d.bump Reg.DDU_SEC_REFUSED
  else if secTag v ≠ d.jobTag || secCut v ≠ d.rd Reg.DDU_SEC_CUT_ID then d.bump Reg.DDU_SEC_REFUSED
  else if 240 ≤ t then d.bump Reg.DDU_SEC_REFUSED
  else if (List.range 4).any fun r => secLen v r != 0 && !d.inWindow (secAddr v r) (secLen v r) then
    let d := d.fabricViolation
    ({ d with sec := { d.sec with posted := d.sec.posted ++ [(t, true, secVersion v, secSize v)], last := d.sec.last || secLast v } } : Ddu).secFence
  else
    let held := d.rd Reg.DDU_SEC_VERSION t
    let same := bit held 63 && held % 2 ^ 32 == secVersion v
    let d : Ddu := { d with sec := { d.sec with posted := d.sec.posted ++ [(t, !same, secVersion v, secSize v)] } }
    if same then ({ d.bump Reg.DDU_SEC_UNCHANGED with sec := { d.sec with last := d.sec.last || secLast v } } : Ddu).secFence
    else
      let d := (d.on fun n => n.setB Reg.DDU_SEC_PEND 0 s true).fastStart
      { d with sec := { d.sec with slots := d.sec.slots ++ [{ slot := s, val := v }] } }

/-- SECURE_DATA's payload (R451). -/
def secBytes (v last offset crc : Nat) (data : List Nat) : List Nat :=
  le 4 (secTag v) ++ le 4 (secCut v) ++ le 4 (secVersion v) ++ [secTensor v, last, 0, 0] ++ le 8 offset ++ le 4 crc ++ zeros 4 ++ data

/-- The records that carry a tensor: the one that ends it has the CRC-32C of all its bytes. -/
def Ddu.sendTensor (d : Ddu) (v : Nat) (data : List Nat) : Ddu :=
  let k := max 1 ((data.length + 4047) / 4048)
  (List.range k).foldl (fun d i =>
    let last := i + 1 == k
    d.on fun n => n.postUp (secTag v) 4 0x19 0x0001 503
      (secBytes v (b2n last) (4048 * i) (if last then crc32c data else 0) ((data.drop (4048 * i)).take 4048))) d

/-- The next accepted slot is read range by range and sent (R427); `data` is what the host fabric answers for each range.  A window that no
longer covers a range suppresses its access (R57), and the tensor does not end.  Nothing is read while a SUSPEND holds the pass (R436). -/
def Ddu.secServe (d : Ddu) (data : List (List Nat)) : Ddu :=
  match d.sec.slots with
  | [] => d
  | x :: rest =>
    if !d.fabricOn || !d.fb.queue.isEmpty || d.sec.held then d
    else
      let v := x.val
      let ok := (List.range 4).all fun r => secLen v r == 0 || d.inWindow (secAddr v r) (secLen v r)
      let bytes := (List.range 4).flatMap fun r => padTo (secLen v r) (data.getD r [])
      let d := if ok then ((d.snoopRead bytes.length).sendTensor v bytes).on fun n => n.wr Reg.DDU_SEC_BYTES 0 (n.rd Reg.DDU_SEC_BYTES + bytes.length) else d.fabricViolation
      let d := d.on fun n => n.setB Reg.DDU_SEC_PEND 0 x.slot false
      ({ d with sec := { d.sec with slots := rest, last := d.sec.last || secLast v } } : Ddu).secFence

/-- SECURE_DIE_DONE (R451): every posted tensor. -/
def Ddu.secDoneRec (d : Ddu) (late : Bool) : Ddu :=
  let t := d.jobTag
  let c := d.rd Reg.DDU_SEC_CUT_ID
  let es := d.sec.posted.take 240
  d.on fun n => n.postUp t 0 0x19 0x0002 503 (le 4 t ++ le 4 c ++ le 2 es.length ++ [b2n late] ++ zeros 5 ++
    es.flatMap fun e => [e.1, b2n e.2.1, 0, 0] ++ le 4 e.2.2.1 ++ le 8 e.2.2.2)

/-- The source fence after the LAST slot has completed (R427). -/
def Ddu.secDieDone (d : Ddu) : Ddu :=
  if d.sec.fencing && !d.n.bit Reg.DDU_FENCE_STATUS 0 0 then
    { d.secDoneRec false with sec := { d.sec with last := false, fencing := false } }
  else d

/-- A LATE write (R426, R427). -/
def Ddu.secLate (d : Ddu) : Ddu := d.secDoneRec true

/-- The die's pending cut (R426, R429): from a fan-out, or from DIE_SEC_CUT with VALID bits to clear. (DESIGN CHOICE: log 66.) -/
def Ddu.secCutSet (d : Ddu) (cut epoch : Nat) (clear : List Nat) : Ddu :=
  let fresh := cut != d.rd Reg.DDU_SEC_CUT_ID
  let d := (d.wr Reg.DDU_SEC_CUT_ID 0 cut).wr Reg.DDU_SEC_CUT_EPOCH 0 epoch
  let d := clear.foldl (fun d t => d.on fun n => n.setB Reg.DDU_SEC_VERSION t 63 false) d
  if fresh then { d with sec := { d.sec with posted := [], last := false, fencing := false, held := false } } else d

/-- DIE_SEC_COMMIT (R438): VERSIONs with VALID set. (DESIGN CHOICE: log 66.) -/
def Ddu.secCommit (d : Ddu) (vs : List (Nat × Nat)) : Ddu :=
  (vs.filter fun p => decide (p.1 < 240)).foldl (fun d p => d.wr Reg.DDU_SEC_VERSION p.1 (2 ^ 63 + p.2 % 2 ^ 32))
    { d with sec := { d.sec with methods := d.sec.building } }

/-- Every VALID bit clears (R440). (DESIGN CHOICE: log 66.) -/
def Ddu.secRelease (d : Ddu) : Ddu := (List.range 240).foldl (fun d t => d.on fun n => n.setB Reg.DDU_SEC_VERSION t 63 false) d

/-- SECURE_CUT at a die (R429): VALID is clear, before the cut is pending, for every tensor whose method differs from that of the committed cut. -/
def Ddu.secCutBegin (d : Ddu) (body : List Nat) : Ddu :=
  let ms := (List.range 240).map fun t => bits (leAt body 8 60) (2 * t) 2
  let clear := if d.sec.methods.isEmpty then [] else (List.range 240).filter fun k => ms.getD k 0 != d.sec.methods.getD k 0
  ({ d with sec := { d.sec with building := ms } } : Ddu).secCutSet (leAt body 0 4) (leAt body 4 4) clear

/-- The reads of a cut are held, or go on (R436). (DESIGN CHOICE: log 62.) -/
def Ddu.secHold (d : Ddu) (on_ : Bool) : Ddu := { d with sec := { d.sec with held := on_ } }

/-- What a securing fan-out does at a die that it names (R452): SECURE_CUT sets the pending cut, SECURE_RELEASE clears every VALID; the other KINDs
act through the tray. -/
def Ddu.secDeliver (d : Ddu) (m : FanMsg) : Ddu :=
  if (rangeOf m.ranges (d.n.fld Reg.DDU_DIE_INDEX 0 0 17)).isNone || m.jobtag ≠ d.jobTag then d
  else match m.kind with
    | 0x10 => d.secCutBegin m.body
    | 0x12 => d.secHold false
    | 0x13 => { d.secRelease with sec := { d.sec with methods := [], building := [] } }
    | _ => d

end Sys2Proof.Machine
end

