-- ==== Sys2Proof/Machine/State.lean ====
section
/-!
DEFINITION. The whole state of the block: one DDU, one sentinel, the memory behind the sentinel, the counter of open
values, and the queue of waiting commands.
-/

namespace Sys2Proof.Machine

/-- Why the machine stops. -/
inductive Fault where
  /-- An access to an address that the memory space of R633 does not have, from an engine whose rule states no result
  for it.  No command of the table raises it at present: every rule states what such an access gives.  Safe. -/
  | noSuchAddress (addr : Nat)
  deriving DecidableEq, Repr

/-- Why a command is refused. -/
inductive Refusal where
  /-- A command without a meaning yet, raised by its arm of `exec` alone.  Safe: the machine stops. -/
  | notModelled (mnemonic : String)
  deriving DecidableEq, Repr

/-- The memory that the sentinel addresses (R633): (address, byte) pairs, addresses strictly rising, no byte 0; an
address that is not listed reads 0. (DESIGN CHOICE: log 7.) -/
abbrev Memory := List Host.Cell

/-- The canonical form of the memory. -/
abbrev Memory.wf (m : Memory) : Bool := Cells.wf m

/-- The state of the block.  `rdata` and `busErr` are what the last register read or memory access answered: the data,
and whether it ended in a fabric error response (R64).  `free` counts the open values used so far and is the model's
own. (DESIGN CHOICE: log 1.) (DESIGN CHOICE: log 9.) -/
structure State where
  ddu : Ddu
  abl : Abl
  mem : Memory := []
  rdata : Nat := 0
  busErr : Bool := false
  free : Nat := 0
  pending : List Instr := []
  deriving DecidableEq, Repr

/-- The machine right after reset: every register at its reset value, every queue empty. (PRESUMED: log 5.) (DESIGN CHOICE: log 6.) -/
def State.reset : State := { ddu := { n := { dev := .ddu } }, abl := { n := { dev := .abl } } }

end Sys2Proof.Machine
end

