-- ==== Sys2Proof/Machine/Carry.lean ====
section
/-!
DEFINITION. What a device does after a fault and after every command: the reactions that an operation has left it to carry out, and the work
that follows from the new state at once.
-/

namespace Sys2Proof.Machine

/-! ## The DDU -/

/-- One reaction of the DDU (R464, R463). -/
def Ddu.react (d : Ddu) (r : React) : Ddu :=
  match r with
  | .isolate s => d.ledIsolate s true
  | .reset u => if d.n.lifecycle = 4 then d else d.subStart (subBitsOf u) (fun _ => true) 2
  | .retired c =>
    let d := if c < 152 then d.sensRetire c else d
    (d.on fun n => n.fault (dduChanUnit c) 0 0 0 c).ledChan c true
  | .trigger => d.trcFire 3 0
  | .timeLoaded => d.trcTimeLoad
  | .laneUp _ _ => d.queryGates
  | .laneDown _ _ => { d with fb := { d.fb with guests := [] } }.fbView
  | .fbTry => (d.fbRequest 0).queryGates
  | .opDone key status data => d.on fun n => n.mbDone key status data
  | _ => d

/-- The DDU after its reactions; a reaction may raise further ones. -/
def Ddu.carryN : Nat → Ddu → Ddu
  | 0, d => d
  | k + 1, d =>
    match d.n.due with
    | [] => d
    | rs => Ddu.carryN k (rs.foldl Ddu.react (d.on fun n => { n with due := [] }))

/-- The DDU after all its reactions, with commands that no row serves answered, messages past their time dropped (R690), the fabric's queue
sent on (R58), the fast domain stopped when nothing keeps it (R48), a change of JobTag in the trace (R122), the watermark's cause (R129) and
the records written counted (R80). -/
def Ddu.carry (d : Ddu) : Ddu :=
  let d := (d.carryN 8).on Node.mbSweep
  if d.live then (((d.on fun n => n.purge).fabricDrain.fastRest.trcJob.spillWater).on Node.settle) else d

/-! ## The sentinel -/

/-- A grid core or TCAM bank leaves service (R464, R466, R474, R478): an escalation when nothing of its kind is left, and one for each context
that can no longer be placed. -/
def Abl.isolated (a : Abl) (s : Nat) : Abl :=
  let bare (n : Node) : List Nat := (List.range 32).filter fun c => n.bit Reg.ABL_GRID_CTX c 252
  if s < 256 then
    let was := bare a.n
    let could := a.n.placeable 1
    let a := a.coreIsolate s
    let a := if could && !a.n.placeable 1 then a.on fun n => n.escalate s 6 0 s 0 else a
    let a := ((bare a.n).filter fun c => !was.contains c).foldl (fun a c =>
      a.on fun n => n.escalate s 6 (n.fld Reg.ABL_GRID_CTX c 192 32) c 0) a
    a.keepSource s 255 1
  else if s < 272 then
    let a := a.bankIsolate (s - 256)
    let a := if a.n.fld Reg.ABL_TREE_STATUS 0 16 16 = 0xFFFF then a.on fun n => n.escalate s 6 0 s 0 else a
    a.keepSource s 255 1
  else a.keepSource s 255 1

/-- The replay windows that lie in a retired pseudo-channel are emptied and count in EVICTED (R473). -/
def Abl.windowsLost (a : Abl) (chan : Nat) : Abl :=
  (a.grid.ctxs.filter fun x => !x.window.isEmpty && Config.windowLost chan x.c).foldl (fun a x =>
    (a.putGctx { x with window := [] }).on fun n => n.satFld Reg.ABL_GRID_CTX x.c 128 32 x.window.length) a

/-- A channel is retired (R472 to R474). -/
def Abl.retired (a : Abl) (s : Nat) : Abl :=
  let all (lo k : Nat) : Bool := (List.range k).all fun i => a.n.arrBit Reg.ABL_FLT_ISO (lo + i)
  let esc (a : Abl) : Abl := a.on fun n => n.escalate s 6 0 s 0
  if 272 ≤ s && s < 296 then
    let p := s - 272
    let slots := (a.n.slotsOf p).filter fun k => (a.n.lane p k).st == lsRetired
    let a := slots.foldl (fun a k => a.keepSource s (if a.n.slotted p then k else 255) 2) a
    let a := if 16 ≤ p then a.on Node.parentLost else a
    if p < 16 && ((List.range 16).all fun q => (a.n.lane q 0).st == lsRetired) then esc a else a
  else if 296 ≤ s && s < 552 then
    let c := s - 296
    let a := ((a.keepSource s 255 2).sharesLost c).windowsLost c
    if all (296 + c / 16 * 16) 16 then esc a else a
  else if s = 552 || s = 553 then
    let a := (a.keepSource s 255 2).hsMirror
    if a.hsPaths.isEmpty then esc a else a
  else a.keepSource s 255 2

/-- A die's risk level has changed (R310, R424, R440, R481, R483). -/
def Abl.riskChanged (a : Abl) (d old new : Nat) : Abl :=
  let others := (((List.range 16).filter fun k => k != d).map a.n.riskLevel).foldl max 0
  let tray := a.n.trayLevel
  let a := if max others old ≠ tray && 1 ≤ tray then a.secEnter else a
  let die := a.n.dieOf d
  let a := if new = 2 then a.propose die 2 0xFFFF 0 0 else a
  if new < old then a.bwRisk die new else a

/-- A job has ended at this node (R364, R396, R423). -/
def Abl.jobGone (a : Abl) (tag : Nat) : Abl :=
  let cs := (List.range 32).filter fun c => a.n.ctxState c == 1 && a.n.fld Reg.ABL_GRID_CTX c 192 32 == tag
  ((cs.foldl Abl.ctxDrain a).verJobEnd tag).secJobEnd tag

/-- A load of a model or a program image ends: the staged object that its command named has been consumed (R615). -/
def Abl.loadStage (a : Abl) (key : Nat) : Abl :=
  if key / 2 ^ 32 = 0x0701 ∨ key / 2 ^ 32 = 0x0801 then
    (a.n.mb.posted.filter fun p => p.wait == some key).foldl (fun a p =>
      if leAt p.cmd.params 8 1 = 1 then a.consume (a.n.stage (leAt p.cmd.params 12 4)) else a) a
  else a

/-- A join barrier has closed (R263): at the job's root, firmware reports the job ready, or one that did not start on its missing members, with
JOB_READY (R614), and a restore that waits for it goes on. -/
def Abl.joinClosed (a : Abl) (t expected arrived : Nat) : Abl :=
  let root := match a.n.jobSlot t with | some j => (a.jobA j).root % 2 ^ 20 == a.n.ident | none => false
  let restored := a.sec.restores.any fun x => x.new == t
  let a := if root then a.on fun n => n.evRec 0x1E 0x0003 (evSrc .abl)
      (le 4 t ++ le 4 expected ++ le 4 arrived ++ [b2n (decide (arrived < expected)) + 2 * b2n restored, 0, 0, 0]) else a
  a.restJoined t

/-- One reaction of the sentinel. -/
def Abl.react (a : Abl) (r : React) : Abl :=
  match r with
  | .isolate s => a.isolated s
  | .reset s => match engOfSource s with | some b => a.engStart b 1 2 | none => a
  | .retired s => a.retired s
  | .trigger => a.wakeUp 8
  | .laneUp p _ => (a.on fun n => n.identify p).reconUp p
  | .laneDown p _ => if 16 ≤ p && a.n.pwrState != 3 then a.on Node.parentLost else a
  | .risk d old new => a.riskChanged d old new
  | .slices => a.slicesIn
  | .jobEnded tag _ => a.jobGone tag
  | .secFan m home => a.secFan m home
  | .secMsg origin code p => a.secMsg origin code p
  | .joined t e k => a.joinClosed t e k
  | .wholeJob t p => a.on fun n => (a.members t).foldl (fun m c => m.syncDown p c.1) n
  | .opDone key status data => (a.loadStage key).on fun n => n.mbDone key status data
  | .timeLoaded => a.on fun n => n.launchDue true
  | .fbTry => a

/-- The sentinel after its reactions; a reaction may raise further ones. -/
def Abl.carryN : Nat → Abl → Abl
  | 0, a => a
  | k + 1, a =>
    match a.n.due with
    | [] => a
    | rs => Abl.carryN k (rs.foldl Abl.react (a.on fun n => { n with due := [] }))

/-- Records on their way to the history store (R508); while the complex sheds, ordinary ones wait for their batch of a second and carry
REDUCED_FIDELITY (R587). -/
def Abl.storeOut (a : Abl) : Abl :=
  if a.n.mc.shed.isNone then a.hsDrain
  else
    let ess (r : Record) : Bool := (storeClass r.typ r.code).getD false
    if a.n.local < a.n.mc.batchAt + 1000000000 then
      let later := a.n.tostore.filter fun r => !ess r
      let b := (a.on fun n => { n with tostore := n.tostore.filter ess }).hsDrain
      b.on fun n => { n with tostore := later ++ n.tostore }
    else
      let mark (r : Record) : Record := if ess r then r else { r with flags := r.flags ||| 4 }
      (a.on fun n => { n with tostore := n.tostore.map mark, mc := { n.mc with batchAt := n.local } }).hsDrain

/-- Work that follows from the state as it stands: verdict entries, failures, campaigns, securing, a sweep, power domains, the store,
commands that no row serves, messages past their time (R690), and the losses that wait for a record. -/
def Abl.follow (a : Abl) : Abl :=
  (((((((a.verSweep).campSweep).secSweep).owedSweep).sweepStep).domWork.storeOut).on Node.mbSweep).on fun n => n.purge.settle

/-- ABL_STATUS.STORE and .POWER mirror ABL_HS_STATUS.MOUNT and ABL_PWR_STATE; a change of the power state raises private interrupt 2 and
MSI-X 18, and Slack ends a debug session (R660). `old` is the sentinel before the command. -/
def Abl.views (old a : Abl) : Abl :=
  let a := if a.n.pwrState = 3 && old.n.pwrState != 3 && a.sessionOpen then a.sessionEnd 3 else a
  let a := a.on fun n => (n.setFld Reg.ABL_STATUS 0 20 3 (n.fld Reg.ABL_HS_STATUS 0 29 3)).setFld Reg.ABL_STATUS 0 24 3 n.pwrState
  if a.n.pwrState = old.n.pwrState then a else a.on fun n => (n.irqAll 2).msix 18

/-- The port of the PTP master goes down: the source is lost (R168). -/
def Abl.ptpDown (old a : Abl) : Abl :=
  let p := a.n.fld (Reg.TIME_STATUS .abl) 0 0 3 + 21
  if a.n.srcSel = 3 && (p = 24 || p = 25) && a.n.mgmtDown p && !old.n.mgmtDown p then a.on Node.sourceLost else a

/-- The sentinel after all its reactions and the work that follows. -/
def Abl.carryFrom (old a : Abl) : Abl :=
  let a := (Abl.ptpDown old ((a.carryN 8).follow)).carryN 8
  let a := a.on fun n => { n with opHold := a.ingestFull 4096 }
  (Abl.views old a).msixOut

end Sys2Proof.Machine
end

