-- ==== Sys2Proof/Machine/Exec.lean ====
section
/-!
DEFINITION. How a command's effect on one device becomes an effect on the whole state, and which requesters a register
write is refused (R64, R629).
-/

namespace Sys2Proof.Machine

/-- What a command answers. -/
abbrev Res := Host.Outcome State Fault Refusal

/-- The state after a command that has left the DDU as `d`: its reactions are carried out. (DESIGN CHOICE: log 1.) -/
def State.settleDdu (s : State) (d : Ddu) : State := { s with ddu := d.carry }

/-- A command that acts on the DDU. (DESIGN CHOICE: log 2.) -/
def onDdu (s : State) (f : Ddu → Ddu) : Res := .next (s.settleDdu (f s.ddu))

/-- A sentinel whose memory writes of the step are carried out. -/
def putAbl (s : State) (a : Abl) : State :=
  { s with abl := { a with out := [], wipe := false }, mem := a.out.foldl Cells.store (if a.wipe then [] else s.mem) }

/-- The state after a command that has left the sentinel as `a`: its reactions and the work that follows are carried out, and its memory
writes. (DESIGN CHOICE: log 1.) -/
def State.settleAbl (s : State) (a : Abl) : State := putAbl s (Abl.carryFrom s.abl a)

/-- A command that acts on the sentinel. (DESIGN CHOICE: log 2.) -/
def onAbl (s : State) (f : Abl → Abl) : Res := .next (s.settleAbl (f s.abl))

/-- A command that acts on what both devices have alike. -/
def onNode (dev : Dev) (s : State) (f : Node → Node) : Res :=
  match dev with
  | .ddu => onDdu s fun d => d.on f
  | .abl => onAbl s fun a => a.on f

/-- A command on the DDU that draws one open value. (DESIGN CHOICE: log 2.) -/
def onDduFree (s : State) (f : Nat → Ddu → Ddu) : Res :=
  .next (({ s with free := s.free + 1 } : State).settleDdu (f (Config.freeNat s.free) s.ddu))

/-- A command on the sentinel that draws one open value. (DESIGN CHOICE: log 2.) -/
def onAblFree (s : State) (f : Nat → Abl → Abl) : Res :=
  .next (({ s with free := s.free + 1 } : State).settleAbl (f (Config.freeNat s.free) s.abl))

/-- Count a refused access to the DDU window (R64). -/
def Ddu.denied (d : Ddu) : Ddu := d.bump Reg.DDU_ACCESS_DENIED

/-- Whether a requester lies on the host's side of the DDU's boundary. -/
def hostSide (who : Requester) : Bool := who == .unprivileged || who == .hostPrivileged

/-- Whether the DDU's window answers a requester (R75, R78): the host's accesses end in an error while the always-on clamps hold. -/
def Ddu.answers (d : Ddu) (who : Requester) : Bool := d.live && !(hostSide who && d.n.bit Reg.DDU_STATUS 0 4)

/-- A write to a DDU register that only privileged accesses reach (R64). -/
def dduWrite (who : Requester) (s : State) (f : Ddu → Ddu) : Res :=
  if !s.ddu.answers who then .next { s with busErr := true }
  else if who = .unprivileged then .next { s with ddu := s.ddu.denied, busErr := true }
  else onDdu { s with busErr := false } f

/-- A write to a register of a fast-domain block (R75): it starts the fast domain and takes effect once that is up; where it cannot start, the
always-on responder answers with an error. (DEDUCED: log 120.) -/
def dduFast (who : Requester) (s : State) (f : Ddu → Ddu) : Res :=
  if s.ddu.answers who && who != .unprivileged && !s.ddu.fastAccess.fastUp then .next { s with busErr := true }
  else dduWrite who s fun d => f d.fastAccess

/-- A write to a DDU register that only the sentinel may write. -/
def dduSentinelWrite (who : Requester) (s : State) (f : Ddu → Ddu) : Res :=
  if !s.ddu.answers who then .next { s with busErr := true }
  else if who = .sentinel then onDdu { s with busErr := false } f
  else .next { s with ddu := s.ddu.denied, busErr := who == .unprivileged }

/-- Count a refused host or BMC access (R629, R627). -/
def Abl.denied (a : Abl) : Abl := a.on fun n => n.bump Reg.ABL_HOST_DENIED

/-- A write to a sentinel register that only firmware makes (R28, R629). -/
def ablWrite (who : Requester) (s : State) (f : Abl → Abl) : Res :=
  if who = .firmware then onAbl s f else .next { s with abl := s.abl.denied }

end Sys2Proof.Machine
end

