-- ==== Sys2Proof/Machine/ExportOps.lean ====
section
/-!
DEFINITION. Ledger exports (R527 to R529) and what LEDGER_QUERY answers (R509, R619).
-/

namespace Sys2Proof.Machine

/-- A cell record's 320 bytes (R509) on day `today`. -/
def CellRec.bytes (c : CellRec) (today : Nat) : List Nat :=
  let day (d : Nat) : Nat := lookupD c.expose d 0
  let fails := c.fails.take 16
  le 8 c.serial ++ le 2 c.unit ++ [c.cell, fails.length, b2n c.imported + 2 * b2n c.reproduced, 0, 0, 0] ++
    ((List.range 8).flatMap fun i => if today + i < 7 then le 4 0 else le 4 (day (today + i - 7))) ++ le 4 today ++ zeros 12 ++
    padTo 256 (fails.flatMap fun f => le 4 f.epoch ++ le 4 f.jobtag ++ le 4 f.ltime ++ [f.locus, f.cls, f.kind, 0])

/-- LEDGER_QUERY (R619): the unit's entry, then up to six of its cell records from the first cell onward. (DESIGN CHOICE: log 88.) -/
def Abl.ledgerQuery (a : Abl) (p : List Nat) : Ans :=
  let serial := leAt p 0 8
  let unit := leAt p 8 2
  let cells := ((a.hist.tab.cellsOf serial unit).filter fun c => decide (leAt p 10 1 ≤ c.cell)).mergeSort fun x y => decide (x.cell ≤ y.cell)
  if 512 ≤ unit || 128 ≤ leAt p 10 1 || !(a.hist.tab.dies.any fun d => d.serial == serial) then Ans.of stBad
  else { data := ((a.hist.tab.die serial).image.unit unit).bytes ++ (cells.take 6).flatMap fun c => c.bytes (a.n.ltime / 86400) }

/-- Whether a stored record belongs to a scope [kind, serial, unit]: kind 0 the whole store, 1 one DIE_SERIAL, 2 one unit of it (R527). -/
def inScope (scope : List Nat) (b : List Nat) : Bool :=
  let kind := scope.getD 0 0
  let serial := scope.getD 1 0
  let unit := scope.getD 2 0
  if kind = 0 then true
  else
    let code := leAt b 2 2
    if leAt b 1 1 = 0x1B && (code == 1 || code == 2 || code == 0x20) then
      leAt b 20 8 == serial && (kind == 1 || (code == 1 && leAt b 32 2 == unit) || (code == 2 && leAt b 28 2 == unit))
    else Config.exportSelects b serial (if kind = 1 then 512 else unit)

/-- LEDGER_EXPORT (R527, R528, R619). -/
def Abl.exportStart (a : Abl) (c : Cmd) : Abl × Ans :=
  let kind := leAt c.params 0 1
  let scope := [kind, leAt c.params 8 8, leAt c.params 16 2]
  let ref := (c.params.drop 24).take 24
  let rk := leAt ref 0 1
  if 3 ≤ kind || 512 ≤ leAt c.params 16 2 || rk = 1 || 3 ≤ rk then (a, Ans.of stBad)
  else if rk = 2 && c.path ≠ 0 then (a, Ans.of stNotPermitted)
  else if rk = 2 && leAt ref 16 8 = 0 then (a, Ans.of stZero)
  else if rk = 2 && !a.host.busMaster then (a, Ans.of stBad)
  else match a.n.opStart 5 c.path c.jobtag with
    | (none, n) => ({ a with n := n }, { status := stBusy, hint := a.n.opHint })
    | (some h, n) =>
      let n := match n.op h with | some o => n.opNote o 0 | none => n
      let log := (a.hist.log.filter fun r => inScope scope r.bytes).mergeSort fun x y => decide (x.jseq ≤ y.jseq)
      let old := (Config.exportCheckpoint a.hist.ckptJseq scope).map fun b => (a.hist.ckptJseq, b)
      let x : ExportX := { handle := h, num := a.hist.nextExport, scope := scope, ref := ref, left := old ++ log.map fun r => (r.jseq, r.bytes) }
      (({ a with n := n } : Abl).onHist fun s => { s with exports := x :: s.exports, nextExport := s.nextExport + 1 }, { handle := h })

/-- The records of the next segment: at most 1 MiB. -/
def segment : Nat → List (Nat × List Nat) → List (Nat × List Nat)
  | _, [] => []
  | room, r :: rest => if r.2.length ≤ room then r :: segment (room - r.2.length) rest else []

/-- The seal of a sealed store as its last record holds it (R529, R530): STORE_SEAL's payload after bytes 0 to 3. (DESIGN CHOICE: log 87.) -/
def HistX.sealBytes (h : HistX) : List Nat :=
  match h.log.find? fun r => leAt r.bytes 1 1 == 0x1B && leAt r.bytes 2 2 == 0x50 with
  | some r => ((r.bytes.drop 16).take (leAt r.bytes 4 2)).drop 4
  | none => []

/-- A segment's complete encoding (R527, R529). -/
def Abl.segmentBytes (a : Abl) (x : ExportX) (recs : List (Nat × List Nat)) (last : Bool) : List Nat :=
  let sealed := a.n.bit Reg.ABL_HS_STATUS 0 26
  let js := recs.map fun r => r.1
  let first := js.headD 0
  let p := cborMap ([(1, cborUint 1), (2, cborArr [cborUint a.n.ident, cborUint x.num]), (3, cborUint x.segs), (4, cborBytes x.prev),
    (5, cborArr (x.scope.map cborUint)), (6, cborBytes (recs.flatMap fun r => r.2)), (7, cborBool last),
    (8, cborArr [cborUint first, cborUint (js.getLastD 0)])] ++ if sealed && last then [(9, cborBytes a.hist.sealBytes)] else [])
  if sealed then p else coseSign1 (le 8 Config.signKid) p (padTo 96 (Config.es384 (coseSigInput p)))

/-- The counters of an export: segments, bytes, the millisecond count, and the last JSEQ sent. -/
def ExportX.cs (x : ExportX) (last : Nat) : List Nat := [x.segs, x.bytes, 0, last]

/-- EXPORT_SEGMENT_DONE (R527, R528): the next segment has been written or sent.  Exports pause between segments while the complex sheds (R587). (DESIGN CHOICE: log 87.) -/
def Abl.exportSegment (a : Abl) (h : Nat) : Abl :=
  match a.hist.exports.find? fun x => x.handle == h with
  | none => a
  | some x =>
    if x.suspendedAt.isSome || a.n.mc.shed.isSome then a
    else
      let recs := match segment (2 ^ 20) x.left, x.left with
        | [], r :: _ => [r]
        | l, _ => l
      let left := x.left.drop recs.length
      let b := a.segmentBytes x recs left.isEmpty
      let toHost := leAt x.ref 0 1 == 2
      let lastJ := ((recs.map fun r => r.1).getLast?).getD (match a.n.op h with | some o => o.cs.getD 3 0 | none => 0)
      let drop (a : Abl) : Abl := a.onHist fun s => { s with exports := s.exports.filter fun y => y.handle != h }
      if toHost && leAt x.ref 16 8 < x.bytes + b.length then (drop a).on fun n => n.opEnd h stNoSpace 0 (x.cs lastJ)
      else
        let a := if toHost then a.dmaWrite (leAt x.ref 8 8 + x.bytes) b else a.on fun n => n.frameUp 0 3 .other [0x0B02, h, x.segs] b
        let y : ExportX := { x with segs := x.segs + 1, bytes := x.bytes + b.length, left := left, prev := sha384 b }
        if left.isEmpty then (drop a).on fun n => n.opEnd h stOk 0 (y.cs lastJ)
        else (a.onHist fun s => { s with exports := s.exports.map fun z => if z.handle = h then y else z }).on fun n =>
          n.opChange h fun o => { o with cs := y.cs lastJ }

/-- SUSPEND 0, RESUME 1, CANCEL 2 of a ledger export (R528, R638). (DESIGN CHOICE: log 87.) -/
def Abl.exportOp (a : Abl) (h what : Nat) : Abl × Bool :=
  match a.hist.exports.find? fun x => x.handle == h with
  | none => (a, false)
  | some x =>
    let put (y : ExportX) : Abl := a.onHist fun s => { s with exports := s.exports.map fun z => if z.handle = h then y else z }
    match what with
    | 0 => ((put { x with suspendedAt := some a.n.local }).on fun n => n.opChange h fun o => { o with state := 1, kstate := 1 }, true)
    | 1 =>
      if leAt x.ref 0 1 = 2 && !a.host.busMaster then (a, false)
      else ((put { x with suspendedAt := none }).on fun n => n.opChange h fun o => { o with state := 0, kstate := 0 }, true)
    | _ =>
      let last := match a.n.op h with | some o => o.cs.getD 3 0 | none => 0
      ((a.onHist fun s => { s with exports := s.exports.filter fun y => y.handle != h }).on fun n => n.opEnd h stCancelled 0 (x.cs last), true)

end Sys2Proof.Machine
end

