-- ==== Sys2Proof/Machine/Boot.lean ====
section
/-!
DEFINITION. The commands of chapters 19 and 20 that no mailbox carries: boot, expiries, pins and clocks.
-/

namespace Sys2Proof.Machine

/-- RECOVERY_IMAGE_POST (R655): the host has put an image into SRAM and writes OWN in mailbox 0. -/
def execRecoveryImagePost (s : State) : Res :=
  onAbl s fun a => (a.recoverPost (Cells.read s.mem 0 (min 0x4000000 (272 + leAt (Cells.read s.mem 0 272) 16 4)))).1

/-- BOOT_REPORT_RX (R657). -/
def execBootReportRx (port : Word) (report : List Byte) (s : State) : Res := onAbl s fun a => a.bootReport port report

/-- DEBUG_SESSION_EXPIRY (R661). -/
def execDebugSessionExpiry (s : State) : Res := onAbl s Abl.sessionExpiry

/-- DEBUG_CHALLENGE_EXPIRY (R659): 60 s. -/
def execDebugChallengeExpiry (s : State) : Res :=
  onAbl s fun a => if a.challenge.isSome then a else { a with guard := { a.guard with challenge := none } }

/-- DDU_DEBUG_EXPIRY (R662). -/
def execDduDebugExpiry (s : State) : Res :=
  onDdu s fun d => if 0 ≤ dist32 (d.n.seconds % 2 ^ 32) (d.rd Reg.DDU_DBG_EXPIRE) then d.dbgEnd else d

/-- PROFILE_CONSENT_EXPIRY (R664). -/
def execProfileConsentExpiry (s : State) : Res := onAbl s Abl.consentExpiry

/-- FW_BOOT_TIMEOUT (R654). -/
def execFwBootTimeout (s : State) : Res := onAbl s Abl.bootTimeout

/-- FW_SLOT_WRITE_DONE (R654); the nonces that the DDUs are asked with are open values. -/
def execFwSlotWriteDone (held : Bool) (s : State) : Res :=
  onAbl { s with free := s.free + 16 } fun a => a.fwDone held fun p => Config.nonce (s.free + p)

/-- DTLS_HANDSHAKE_RX (R658): the peer's chain ends in the public key `root`, and the handshake's own checks end in `ok`. -/
def execDtlsHandshakeRx (port peer : Word) (root : List Byte) (ok : Bool) (s : State) : Res := onAbl s fun a => a.dtls port peer root ok

/-- TRAY_NEAP_HOLD_EXPIRY (R440). -/
def execTrayNeapHoldExpiry (s : State) : Res := onAbl s Abl.secNeap

/-- EXPORT_SEGMENT_DONE (R527). -/
def execExportSegmentDone (handle : Word) (s : State) : Res := onAbl s fun a => a.exportSegment handle

/-- AON_PGOOD_RISE (R672, R677). -/
def execAonPgoodRise (s : State) : Res := onAbl s Abl.aonRise

/-- AON_PGOOD_FALL (R672, R677). -/
def execAonPgoodFall (s : State) : Res := onAbl s Abl.aonFall

/-- MAIN_PGOOD_RISE (R673, R677). -/
def execMainPgoodRise (s : State) : Res := onAbl s Abl.mainRise

/-- MAIN_PGOOD_FALL (R673). -/
def execMainPgoodFall (s : State) : Res := onAbl s Abl.mainFall

/-- MAIN_EN_RESTART (R673). -/
def execMainEnRestart (s : State) : Res := onAbl s Abl.mainRestart

/-- RESET_N_ASSERT (R677): a low pulse of `ns`. -/
def execResetNAssert (ns : Word) (s : State) : Res := onAbl s fun a => a.resetAssert ns

/-- INTERNAL_RESET_END (R678). -/
def execInternalResetEnd (s : State) : Res := onAbl s Abl.resetEnd

/-- BOOT_STAGE_DONE (R649, R678). -/
def execBootStageDone (bad : Word) (s : State) : Res := onAbl s fun a => a.bootStage bad

/-- PERST_RELEASE (R680). -/
def execPerstRelease (s : State) : Res := onAbl s Abl.perstRise

/-- THERMTRIP (R684). -/
def execThermtrip (s : State) : Res := onAbl s Abl.thermTrip

/-- REFCLK_LOSS (R685). -/
def execRefclkLoss (s : State) : Res := onAbl s Abl.refLoss

/-- REFCLK_RELOCK (R685). -/
def execRefclkRelock (s : State) : Res := onAbl s Abl.refLock

end Sys2Proof.Machine
end

