-- ==== Sys2Proof/Machine/Boundary.lean ====
section
/-!
DEFINITION. The commands of chapter 02: markers, reports, the fast domain, hooks, and resets of the DDU.
-/

namespace Sys2Proof.Machine

/-- A command that acts while the DDU's always-on domain is up. -/
def onDduLive (s : State) (f : Ddu → Ddu) : Res := onDdu s fun d => if d.live then f d else d

/-- MARKER_ACCEPT (R52, R53). -/
def execMarkerAccept (m : Word) (s : State) : Res := onDduLive s fun d => d.markerAccept m

/-- MARKER_PROCESS (R60, R95 to R97, R234, R277, R551). -/
def execMarkerProcess (s : State) : Res := onDduLive s Ddu.markerProcess

/-- CHECKSUM_REPORT_ACCEPT (R54, R55, R405). -/
def execChecksumReportAccept (r : Report) (s : State) : Res := onDduLive s fun d => d.reportAccept r

/-- ABFT_CHECK (R56, R378 to R382). -/
def execAbftCheck (s : State) : Res := onDduLive s Ddu.abftCheck

/-- HOST_ACTIVE_RISE (R47, R542, R543): a DDU that is not up yet finds the level at its release. -/
def execHostActiveRise (s : State) : Res :=
  onDdu s fun d => if d.live then d.hostRise else { d with bnd := { d.bnd with hostActive := true } }

/-- HOST_ACTIVE_FALL (R542): 10 µs after the fall. -/
def execHostActiveFall (s : State) : Res :=
  onDdu s fun d => if d.live then d.hostFall else { d with bnd := { d.bnd with hostActive := false } }

/-- FAST_DOMAIN_START (R47). -/
def execFastDomainStart (s : State) : Res := onDduLive s Ddu.fastStart

/-- FAST_DOMAIN_READY (R47). -/
def execFastDomainReady (s : State) : Res := onDduLive s Ddu.fastReady

/-- FAST_IDLE_EXPIRY (R48). -/
def execFastIdleExpiry (s : State) : Res := onDduLive s Ddu.fastIdleExpiry

/-- DROOP_DETECT (R61, R559). -/
def execDroopDetect (s : State) : Res := onDduLive s Ddu.droopDetect

/-- CLK_STRETCH_HOLD_END (R559). -/
def execClkStretchHoldEnd (s : State) : Res := onDduLive s Ddu.stretchEnd

/-- REG_ACK_RX (R62). -/
def execRegAckRx (s : State) : Res := onDduLive s Ddu.regAck

/-- REG_REQ_TIMEOUT (R62). -/
def execRegReqTimeout (s : State) : Res := onDduLive s Ddu.regTimeout

/-- The CAUSE of a sub-block reset by its requester (R589). -/
def subCause (who : Requester) : Nat := match who with | .firmware => 1 | .sentinel => 4 | _ => 3

/-- SUBRESET_START (R72 to R74). -/
def execSubresetStart (who : Requester) (v : Word) (s : State) : Res := dduWrite who s fun d => d.subWrite v (subCause who)

/-- SUBRESET_DRAIN_END (R72). -/
def execSubresetDrainEnd (b : Word) (s : State) : Res := onDduLive s fun d => d.subDrainEnd b

/-- SUBRESET_DONE (R72). -/
def execSubresetDone (b : Word) (s : State) : Res := onDduLive s fun d => d.subDone b

/-- DDU_RESET_ASSERT (R75, R77). -/
def execDduResetAssert (s : State) : Res :=
  .next { s with ddu := ({ s.ddu with bnd := { s.ddu.bnd with resetN := true } } : Ddu).cold }

/-- DDU_RESET_RELEASE (R681). -/
def execDduResetRelease (s : State) : Res := onDdu s Ddu.release

/-- DDU_ALIVE_RAISE (R78). -/
def execDduAliveRaise (s : State) : Res := onDduLive s Ddu.aliveRaise

/-- DDU_AON_PGOOD_FALL (R75, R76). -/
def execDduAonPgoodFall (s : State) : Res :=
  .next { s with ddu := ({ s.ddu with bnd := { s.ddu.bnd with aonPgood := false } } : Ddu).cold }

/-- CORE_PGOOD_FALL (R543). -/
def execCorePgoodFall (s : State) : Res :=
  onDdu s fun d => if d.live then d.ledPhases.coreFall else { d with bnd := { d.bnd with corePgood := false } }

/-- DDU_AON_PGOOD_RISE (R75, R682): power-on. -/
def execDduAonPgoodRise (s : State) : Res :=
  .next { s with ddu := ({ s.ddu with bnd := { s.ddu.bnd with aonPgood := true } } : Ddu).cold }

/-- EPOCH_CLOSE_COMPLETE (R277, R284, R386, R387). -/
def execEpochCloseComplete (s : State) : Res := onDduLive s Ddu.epochCloseDone

end Sys2Proof.Machine
end

