-- ==== Sys2Proof/Machine/Counters.lean ====
section
/-!
DEFINITION. The commands of chapter 03, with the event bus and the pre-accumulators of chapter 02.
-/

namespace Sys2Proof.Machine

/-- EVENT_BUS_CYCLE (R50): up to 16 slots of (EVENT_ID, INC). -/
def execEventBusCycle (slots : List (Option (Word × Word))) (s : State) : Res :=
  onDdu s fun d => if d.live then d.eventBus slots else d

/-- PREACC_FOLD (R51). -/
def execPreaccFold (s : State) : Res := onDdu s fun d => d.on Node.fold

/-- CNT_WRAP (R83): the cycle in which counter `k`, or the chained pair of even counter `k`, at its largest value
receives one increment. -/
def execCntWrap (k : Word) (s : State) : Res :=
  onDdu s fun d => d.on fun n =>
    let full := n.rd Reg.DDU_CNT k == ones 48 && (!n.chained k || (k % 2 == 0 && n.rd Reg.DDU_CNT (k + 1) == ones 48))
    let mode1 := k % 2 == 0 && !n.chained k && n.fld Reg.DDU_CNT_SEL k 12 2 == 1
    if full && !mode1 && n.bankRuns then n.cntAdd n.regs k 1 else n

/-- CNT_CHAINED (R83): the cycle in which even counter `k` of an unchained mode-1 pair carries out. -/
def execCntChained (k : Word) (s : State) : Res :=
  onDdu s fun d => d.on fun n =>
    if k % 2 == 0 && !n.chained k && n.fld Reg.DDU_CNT_SEL k 12 2 == 1 && n.rd Reg.DDU_CNT k == ones 48 && n.bankRuns then
      n.cntAdd n.regs k 1
    else n

/-- CNT_SEL_WRITE (R83, R84, R89). -/
def execCntSelWrite (who : Requester) (k v : Word) (s : State) : Res := dduFast who s fun d => d.cntSel k v

/-- CNT_CHAIN_READ (R85, R91): a 64-bit read of counter `k`.  A read that R91 answers with 0 latches the upper half all the same: the spec does
not say. (DESIGN CHOICE: log 107.) -/
def execCntChainRead (who : Requester) (k : Word) (s : State) : Res :=
  if !s.ddu.answers who || !s.ddu.fastAccess.fastUp then .next { s with rdata := 0, busErr := true }
  else if who = .unprivileged then .next { s with ddu := s.ddu.denied, rdata := 0, busErr := true }
  else
    let n := s.ddu.n
    let data := if n.withheld k then 0 else n.rd Reg.DDU_CNT k
    onDdu { s with rdata := data, busErr := false } fun d => d.fastAccess.on fun n =>
      let n := if k % 2 = 0 && n.chained k then n.wr Reg.DDU_CNT_HI_LATCH 0 (n.rd Reg.DDU_CNT (k + 1)) else n
      if n.withheld k then n.bump Reg.DDU_CNT_WITHHELD else n

/-- CNT_CLEAR (R86). -/
def execCntClear (who : Requester) (v : Word) (s : State) : Res :=
  dduFast who s fun d => d.cntClear (bits v 0 12) (bits v 16 13)

/-- CNT_FREEZE_WRITE (R87). -/
def execCntFreezeWrite (who : Requester) (v : Word) (s : State) : Res := dduFast who s fun d => d.on fun n => n.cntFreeze v

/-- CNT_FREEZE_EXPIRY (R87). -/
def execCntFreezeExpiry (s : State) : Res := onDdu s fun d => d.on Node.cntFreezeExpiry

/-- BW_CFG_WRITE (R101): on the sentinel, the windows of R116. -/
def execBwCfgWrite (dev : Dev) (who : Requester) (w v : Word) (s : State) : Res :=
  match dev with
  | .ddu => dduFast who s fun d => d.on fun n => n.bwWrite w v
  | .abl => ablWrite who s fun a => a.on fun n => n.bwWrite w v

/-- BW_WINDOW_CLOSE (R102). -/
def execBwWindowClose (dev : Dev) (w : Word) (s : State) : Res := onNode dev s fun n => n.bwClose w

/-- SENSOR_SAMPLE (R106): channel, raw code, and whether the code stands at the low (1) or high (2) end of the
converter's range. -/
def execSensorSample (c raw clamp : Word) (s : State) : Res :=
  onDduFree s fun free d => if d.live then d.sensStep c raw clamp free else d

/-- SENSOR_STALE (R108). -/
def execSensorStale (c : Word) (s : State) : Res := onDdu s fun d => if d.live then d.sensStale c else d

/-- A write of ABL_PCNT_LATCH (R115). -/
def Node.pcntLatch (n : Node) : Node :=
  let keep := n.regs.resetRange 0x00D08000 0x00D0B000
  let live := n.regs.filter fun (p : Nat × Nat) => decide (0x00D00000 ≤ p.1) && decide (p.1 < 0x00D03000)
  { n with regs := live.foldl (fun f p => RegFile.put f (p.1 + 0x8000) p.2) keep }

/-- PCNT_LATCH (R115). -/
def execPcntLatch (who : Requester) (s : State) : Res :=
  ablWrite who s fun a => a.on Node.pcntLatch

/-- A write of ABL_PCNT_CHAINw (R83, R84, R116): mode 3 is stored as 0; mode 2 chains a pair, and mode 0 ends its chaining; each clears the odd
counter. -/
def Node.pchainWrite (n : Node) (w v : Nat) : Node :=
  (List.range 16).foldl (fun (n : Node) j =>
    let e := 32 * w + 2 * j
    let mode := if bits v (2 * j) 2 = 3 then 0 else bits v (2 * j) 2
    let n := n.setFld Reg.ABL_PCNT_CHAIN w (2 * j) 2 mode
    if mode = 2 && !n.pchained e then { n.wr Reg.ABL_PCNT (e + 1) 0 with pchain := (e / 2) :: n.pchain }
    else if mode = 0 && n.pchained e then { n.wr Reg.ABL_PCNT (e + 1) 0 with pchain := n.pchain.filter fun x => x != e / 2 }
    else n) n

/-- A write of ABL_PCNT_CLEAR (R116): as R86 and R84. -/
def Node.pcntClear (n : Node) (v : Nat) : Node :=
  let first := bits v 0 11
  let count := bits v 16 12
  if count = 0 then n
  else
    let last := min (first + count - 1) 1535
    let lo := if first % 2 = 1 && n.pchained first then first - 1 else first
    let hi := if last % 2 = 0 && n.pchained last then last + 1 else last
    { n with
      regs := n.regs.resetRange (Reg.ABL_PCNT.addr lo) (Reg.ABL_PCNT.addr (hi + 1))
      pchain := n.pchain.filter fun x => decide (2 * x + 1 < lo) || decide (hi < 2 * x) || n.pmode (2 * x) != 1 }

/-- PCNT_CLEAR (R116). -/
def execPcntClear (who : Requester) (v : Word) (s : State) : Res := ablWrite who s fun a => a.on fun n => n.pcntClear v


/-- Whether an instruction of a core causes an event (R112, R117): a grid core's are the grid's and its memory's, a Management Complex core's its
complex's and the memory's. (DEDUCED: log 128.) -/
def psampCaused (core ev : Nat) : Bool :=
  if core < 256 then decide (512 ≤ ev) && decide (ev < 1152) else (decide (1024 ≤ ev) && decide (ev < 1152)) || (decide (1216 ≤ ev) && decide (ev < 1280))

/-- PSAMP_SAMPLE (R117, R118): `core` 0 to 255 is a grid core, 256 to 261 a Management Complex core, with `occ` occurrences of EVENT since its last
sample; `latency` in cycles.  A grid core's sample names the command at which it stands, and the context of its run (R359); `pc`, `instr` and
`tag` speak for a Management Complex core, whose tag no entry holds. (DEDUCED: log 128.)  A sample is due once they reach what the last one left: PERIOD and a uniform value below 2^DITHER, which is
open. (DESIGN CHOICE: log 108.)  A DITHER above 16 acts as written. (DESIGN CHOICE: log 124.) -/
def execPsampSample (core occ pc instr latency : Word) (tag : SampleTag) (s : State) : Res :=
  onAblFree s fun free a =>
    let n := a.n
    let period := n.rd Reg.ABL_PSAMP_PERIOD
    let (pc, instr, tag) := if core < 256 then (a.sampled core).getD (0, 0, ⟨0, 0⟩) else (pc, instr, tag)
    let inScope := if core < 256 then n.bit Reg.ABL_PSAMP_SCOPE 0 0 && (a.sampled core).isSome && a.profJobs.contains tag.jobtag
      else n.bit Reg.ABL_PSAMP_SCOPE 0 1
    if period = 0 || !inScope || !psampCaused core (n.fld Reg.ABL_PSAMP_CTRL 0 0 11) || occ < lookupD a.psamp.next core period then a
    else
      let a : Abl := { a with psamp := { a.psamp with next := bindKey a.psamp.next core (period + free % 2 ^ n.fld Reg.ABL_PSAMP_CTRL 0 16 5) } }
      let wr := n.rd Reg.ABL_PSAMP_WRPTR
      let used := (wr + 4096 - n.rd Reg.ABL_PSAMP_RDPTR) % 4096
      if used = 2048 then a.on fun n => n.bump Reg.ABL_PSAMP_LOST
      else
        let e := le 8 pc ++ le 4 instr ++ le 2 (min latency 65535) ++ le 2 core ++ le 4 n.now ++
          le 2 (n.fld Reg.ABL_PSAMP_CTRL 0 0 11) ++ le 2 (b2n (decide (65535 < latency))) ++
          le 4 (if core < 256 then tag.jobtag else 0) ++ [if core < 256 then tag.context % 256 else 0xFF, 0, 0, 0]
        a.on fun n =>
          let n := (n.wr Reg.ABL_PSAMP_BUF (wr % 2048) (leNat e)).wr Reg.ABL_PSAMP_WRPTR 0 ((wr + 1) % 4096)
          if used + 1 = 1024 then n.irq 95 else n

end Sys2Proof.Machine
end

