-- ==== Sys2Proof/Machine/Link.lean ====
section
/-!
DEFINITION. The commands of chapter 06, and those of the Uplink Scheduler in chapter 07.  A lane is named by its device,
port and slot; a DDU has port 0 alone.
-/

namespace Sys2Proof.Machine

/-- A command on a port of one device. -/
def onPort (dev : Dev) (s : State) (f : Node → Node) : Res :=
  match dev with
  | .ddu => onDdu s fun d => if d.live then d.on f else d
  | .abl => onAbl s fun a => a.on f

/-- FLIT_TIME (R187, R188, R191): a DDU in fallback sends its next whole message through its host (R204). -/
def execFlitTime (dev : Dev) (p slot : Word) (s : State) : Res :=
  match dev with
  | .ddu => onDdu s fun d =>
      if !d.live then d
      else if d.n.bit Reg.DDU_STATUS 0 7 && (d.n.lane 0 0).st != lsUp then d.fbSend
      else d.on fun n => n.flitTime 0 0
  | .abl => onAbl s fun a => a.on fun n => n.flitTime p slot

/-- FLIT_RX (R187, R191). -/
def execFlitRx (dev : Dev) (p slot : Word) (f : Flit) (s : State) : Res := onPort dev s fun n => n.flitRx p slot f

/-- SIGNAL_DETECT (R197): a DDU in Slack, which its signal wakes by a command of its own (R543), stays as it is. -/
def execSignalDetect (dev : Dev) (p slot : Word) (s : State) : Res :=
  onPort dev s fun n =>
    let l := n.lane p slot
    let slack := n.dev == .ddu && n.fld Reg.DDU_PWR_STATE 0 0 3 == 0
    if l.st = lsDetect && !slack then n.setLane p slot { l with st := lsTrain, wire := [n.trainFlit p slot] } else n

/-- TRAIN_COMPLETE (R197, R210): the peer's identity and RESTARTED flag, and the training time in µs. -/
def execTrainComplete (dev : Dev) (p slot peer us : Word) (peerRestarted : Bool) (s : State) : Res :=
  onPort dev s fun n => n.trained p slot peer us peerRestarted

/-- TRAIN_TIMEOUT (R197). -/
def execTrainTimeout (dev : Dev) (p slot : Word) (s : State) : Res := onPort dev s fun n => n.trainFailure p slot

/-- SIGNAL_LOST (R197). -/
def execSignalLost (dev : Dev) (p slot : Word) (s : State) : Res := onPort dev s fun n => n.signalLost p slot

/-- LANE_FAILURE (R196, R197): cause 1 to 3, with the uncorrectable codewords counted on the way. -/
def execLaneFailure (dev : Dev) (p slot cause uncorr : Word) (s : State) : Res :=
  onPort dev s fun n =>
    let n := if uncorr = 0 then n else n.bump (Reg.LNK_FEC_UNCORR n.dev) p uncorr
    if 1 ≤ cause && cause ≤ 3 then n.upFailure p slot cause true else n

/-- NO_FLIT_TIMEOUT (R196). -/
def execNoFlitTimeout (dev : Dev) (p slot : Word) (s : State) : Res := onPort dev s fun n => n.upFailure p slot 4 true

/-- RESET_NOTICE_RX (R694). -/
def execResetNoticeRx (dev : Dev) (p slot cause : Word) (s : State) : Res := onPort dev s fun n => n.noticeRx p slot cause

/-- BACKOFF_EXPIRY (R198). -/
def execBackoffExpiry (dev : Dev) (p slot : Word) (s : State) : Res :=
  onPort dev s fun n =>
    let l := n.lane p slot
    if l.st = lsBackoff then n.setLane p slot { l with st := lsDetect } else n

/-- EARLY_LOSS_WITHDRAW (R694). -/
def execEarlyLossWithdraw (dev : Dev) (p slot : Word) (s : State) : Res :=
  onPort dev s fun n => n.modLane p slot fun l => { l with held6 := false }

/-- A write of xxx_LNK_CTRL (R208). -/
def Node.lnkWrite (n : Node) (p v : Nat) : Node :=
  (n.wr (Reg.LNK_CTRL n.dev) p (match n.dev with
    | .ddu => bits v 29 3 * 2 ^ 29
    | .abl => bits v 30 2 * 2 ^ 30)).portCtrl p

/-- LNK_CTRL_WRITE (R208). -/
def execLnkCtrlWrite (dev : Dev) (who : Requester) (p v : Word) (s : State) : Res :=
  let f (n : Node) : Node := n.lnkWrite p v
  match dev with
  | .ddu => dduWrite who s fun d => d.on f
  | .abl => ablWrite who s fun a => a.on f

/-- RETRAIN (R207). -/
def execRetrain (dev : Dev) (who : Requester) (p : Word) (s : State) : Res :=
  let f (n : Node) : Node := (n.slotsOf p).foldl (fun n k => n.retrain p k) n
  match dev with
  | .ddu => dduWrite who s fun d => d.on f
  | .abl => ablWrite who s fun a => a.on f

/-- FALLBACK_EXIT (R202). -/
def execFallbackExit (s : State) : Res := onDdu s Ddu.fbExit

/-- FB_GUEST_REQUEST_RX (R203): a sibling, and the fabric address of its ring. -/
def execFbGuestRequestRx (guest addr : Word) (s : State) : Res :=
  onDdu s fun d => if d.live then d.fbGuest guest addr else d

/-- FB_REFUSED_RX (R203). -/
def execFbRefusedRx (s : State) : Res :=
  onDdu s fun d => if d.n.bit Reg.DDU_STATUS 0 7 && d.fb.accepted then d.fbRequest (d.fb.entry + 1) else d

/-- FB_LIST_RETRY (R203). -/
def execFbListRetry (s : State) : Res :=
  onDdu s fun d => if d.n.bit Reg.DDU_STATUS 0 7 && d.fb.exhausted then d.fbRequest 0 else d

/-- FB_HOST_SILENCE (R203). -/
def execFbHostSilence (s : State) : Res :=
  onDdu s fun d => if d.n.bit Reg.DDU_STATUS 0 7 && d.fb.accepted then d.fbRequest (d.fb.entry + 1) else d

/-! ## The Uplink Scheduler -/

/-- USCH_ENQUEUE (R245, R249): an engine of the sentinel offers a message of `jobtag` to an uplink. -/
def execUschEnqueue (p jobtag : Word) (m : Msg) (s : State) : Res :=
  onAbl s fun a => a.on fun n => (n.queueAt p (n.uschSlot jobtag) m).settle

/-- USCH_PICK (R248): a flit time of uplink `p` that R188 leaves free goes to the scheduler's pick; another one is no pick. -/
def execUschPick (p : Word) (s : State) : Res :=
  onAbl s fun a => a.on fun n => if decide (16 ≤ p) && n.uplinkFree p then n.flitTime p 0 else n

/-- USCH_SAMPLE (R250). -/
def execUschSample (s : State) : Res := onAbl s fun a => a.on Node.uschSample

/-- USCH_JOB_WRITE (R252). -/
def execUschJobWrite (who : Requester) (k v : Word) (s : State) : Res := ablWrite who s fun a => a.on fun n => n.uschJob k v

end Sys2Proof.Machine
end

