-- ==== Sys2Proof/Machine/PostOps.lean ====
section
/-!
DEFINITION. Posting a command on each path (R593, R598, R622), and the reverse host mailbox (R620).
-/

namespace Sys2Proof.Machine

/-- A requester of the sentinel posts a command (R598): over PCI Express only where the endpoint decodes.  In Slack the write is a wake cause
(R540, R639). -/
def Abl.postCmd (a : Abl) (c : Cmd) : Abl :=
  if !mbOk c.path c.mb || c.path = 3 || c.path = 4 then a
  else if c.path = 0 && !a.decodes then a
  else
    let a := a.on fun n => n.post c
    match c.path with
    | 0 => a.wakeUp 1
    | 1 => a.wakeUp 2
    | _ => a

/-- The sentinel or host software of the die posts a command on the DDU (R593, R598), the host only while the clamps let its writes through
(R75); a host mailbox write ends Slack (R543), and a command that needs a fast-domain block starts the fast domain (R47).  In a reset of its
sub-block the mailbox takes none (R72). -/
def Ddu.postCmd (d : Ddu) (c : Cmd) : Ddu :=
  if !mbOk c.path c.mb || !d.live || d.n.bit Reg.DDU_SUBRESET 0 9 then d
  else
    let wake (d : Ddu) : Ddu := if cmdFast c then d.fastStart else d
    if c.path = 3 then wake (d.on fun n => n.post c)
    else if c.path = 4 && !d.n.bit Reg.DDU_STATUS 0 4 then
      let d := d.on fun n => n.post c
      wake (if d.pwr = 0 then d.arouse 4 else d)
    else d

/-- COMMAND_DATAGRAM (R621, R622): from a peer with an association (R658).  The kept SEQ of an idle mailbox has its kept response sent again, which
changes nothing; in service it is ignored; another SEQ is a new command, or in service is discarded and counted. (DESIGN CHOICE: log 86.) -/
def Abl.datagram (a : Abl) (port peer seq : Nat) (c : Cmd) : Abl :=
  if !a.guard.assocs.contains (port, peer) || c.path ≠ 2 || !mbOk 2 c.mb || a.n.pwrState = 0 then a
  else
    let same := (a.n.mb.kept.find? fun k => k.1 == c.mb).map (fun k => k.2) == some (seq % 2 ^ 32)
    if a.n.bit Reg.ABL_MB_OWNED 0 c.mb then (if same then a else a.on fun n => n.bump Reg.ABL_MB_DISCARDED)
    else if same then a
    else (a.on fun n => n.setMb { n.mb with kept := bindKey n.mb.kept c.mb (seq % 2 ^ 32) }).postCmd c

/-! ## The reverse host mailbox -/

/-- What a sentinel command waits for while the host works on it. -/
def revKey (code : Nat) : Nat := code * 2 ^ 32

/-- DDU firmware posts a request in the reverse host mailbox (R593, R620), when it is free: OWN, and DDU_IRQ line 3. (DESIGN CHOICE: log 86.) -/
def Ddu.revPost (d : Ddu) (code : Nat) (params : List Nat) : Ddu :=
  if d.n.mb.rev.isSome then d
  else (d.on fun n => ((n.setMb { n.mb with rev := some { code := code, params := params, at_ := n.local } }).setB Reg.DDU_MB_OWNED 0 3 true)).on
    fun n => n.hostIrq 3

/-- The request of the reverse mailbox ends with `status`; the sentinel's command that waits for it completes. -/
def Ddu.revEnd (d : Ddu) (status : Nat) (data : List Nat) : Ddu :=
  match d.n.mb.rev with
  | none => d
  | some x => (d.on fun n => (n.setMb { n.mb with rev := none }).setB Reg.DDU_MB_OWNED 0 3 false).on fun n => n.done x.code 0 status data

/-- REVERSE_MAILBOX_COMPLETE (R620): the host's write of OWN = 0; with no request in progress it is ignored. -/
def Ddu.revDone (d : Ddu) (status : Nat) (data : List Nat) : Ddu := d.revEnd (if status % 65536 = stOk then stOk else Config.notDone (status % 65536)) data

/-- REVERSE_TIMEOUT (R620): 1,000 ms without an answer; the DDU reports the request as not done. -/
def Ddu.revTimeout (d : Ddu) : Ddu :=
  match d.n.mb.rev with
  | some x => if x.at_ + 1000000000 ≤ d.n.local then d.revEnd (Config.notDone 65536) [] else d
  | none => d

/-- The sentinel's command that waits for a reverse request of a code which is not posted yet. -/
def Ddu.revWaits (d : Ddu) (code : Nat) : Option PostedX := d.n.mb.posted.find? fun p => p.wait == some (revKey code)

/-- The parameters of HOST_REPEAT_TILE for a DIE_REPEAT (R620). -/
def repeatParams (p : List Nat) : List Nat := p.take 16

/-- HOST_REPEAT_TILE (R408, R620): the request of a DIE_REPEAT that waits. -/
def Ddu.hostRepeat (d : Ddu) : Ddu :=
  match d.revWaits 0x1101 with
  | some p => d.revPost 0x1101 (repeatParams p.cmd.params)
  | none => d

/-- HOST_SET_PATTERN (R413, R620): firmware steers the pattern of the campaign in progress to an intensity from 0 to 15. -/
def Ddu.hostPattern (d : Ddu) (intensity : Nat) : Ddu :=
  match d.pattern with
  | some x => d.revPost 0x1102 ([intensity % 16, 0, 0, 0] ++ le 4 x.1)
  | none =>
    match d.revWaits 0x1102 with
    | some p => d.revPost 0x1102 ([0, 0, 0, 0] ++ le 4 (leAt p.cmd.params 0 4))
    | none => d

end Sys2Proof.Machine
end

