-- ==== Sys2Proof/Machine/Time.lean ====
section
/-!
DEFINITION. The commands of chapter 05.
-/

namespace Sys2Proof.Machine

/-- A command on one device's always-on domain. -/
def onLive (dev : Dev) (s : State) (f : Node → Node) : Res :=
  match dev with
  | .ddu => onDdu s fun d => if d.live then d.on f else d
  | .abl => onAbl s fun a => a.on f

/-- A register write that privileged accesses make on the DDU and firmware on the sentinel. -/
def devWrite (dev : Dev) (who : Requester) (s : State) (f : Node → Node) : Res :=
  match dev with
  | .ddu => dduWrite who s fun d => d.on f
  | .abl => ablWrite who s fun a => a.on f

/-- TIME_TICK (R152). -/
def execTimeTick (dev : Dev) (s : State) : Res := onLive dev s Node.tick

/-- TIME_WRAP (R158): the tick at which TIME_NS carries out of bit 31. -/
def execTimeWrap (dev : Dev) (s : State) : Res := onLive dev s fun n => if n.tickSum < 2 ^ 64 then n else n.tick

/-- SLEW_END (R155): the tick at which SLEW_TICKS reaches 0. -/
def execSlewEnd (dev : Dev) (s : State) : Res :=
  onLive dev s fun n => if n.rd (Reg.TIME_SLEW_TICKS n.dev) = 1 then n.tick else n

/-- TIME_NS_READ (R156). -/
def execTimeNsRead (dev : Dev) (s : State) : Res :=
  let read (n : Node) : Node :=
    (n.wr (Reg.TIME_FRAC_LATCH n.dev) 0 n.frac).wr (Reg.TIME_WRAP_LATCH n.dev) 0 (n.rd (Reg.TIME_WRAP n.dev))
  match dev with
  | .ddu =>
    if s.ddu.live then onDdu { s with rdata := s.ddu.n.now, busErr := false } fun d => d.on read
    else .next { s with rdata := 0, busErr := true }
  | .abl => onAbl { s with rdata := s.abl.n.now, busErr := false } fun a => a.on read

/-- A write of INCR, or of SLEW_INCR where `slew` (R154). -/
def Node.incrWrite (n : Node) (slew : Bool) (v : Nat) : Node :=
  let w := bits v 0 40
  if !incrOk w then n.bump (Reg.TIME_REFUSED n.dev)
  else if slew then n.wr (Reg.TIME_SLEW_INCR n.dev) 0 w
  else n.wr (Reg.TIME_INCR n.dev) 0 w

/-- TIME_INCR_WRITE (R154): INCR, or SLEW_INCR where `slew`. -/
def execTimeIncrWrite (dev : Dev) (who : Requester) (slew : Bool) (v : Word) (s : State) : Res :=
  devWrite dev who s fun n => n.incrWrite slew v

/-- SLEW_TICKS_WRITE (R155). -/
def execSlewTicksWrite (dev : Dev) (who : Requester) (v : Word) (s : State) : Res := devWrite dev who s fun n => n.slewWrite v

/-- TIME_LOAD (R159). -/
def execTimeLoad (dev : Dev) (who : Requester) (s : State) : Res := devWrite dev who s Node.loadCmd

/-- ACCEPT_JUMP (R168, R169): written by firmware only. -/
def execAcceptJump (dev : Dev) (who : Requester) (s : State) : Res :=
  match dev with
  | .ddu =>
    if who = .firmware || who = .sentinel then onDdu { s with busErr := false } fun d => if d.live then d.on Node.acceptJump else d
    else .next { s with ddu := s.ddu.denied, busErr := who == .unprivileged }
  | .abl => ablWrite who s fun a => a.on Node.acceptJump

/-- TIME_REQ_SEND (R163). -/
def execTimeReqSend (dev : Dev) (s : State) : Res :=
  match dev with
  | .ddu => onDdu s fun d => if d.live then d.on Node.timeReq else d
  | .abl => onAbl s fun a => a.on Node.timeReq

/-- TIME_REQ_RX (R163): from `client` on a port and slot of the sentinel, with the δ it reports; `t2` is the arrival
stamp in tideline nanoseconds. On a DDU, a guest's exchange over the host fabric (R166). -/
def execTimeReqRx (dev : Dev) (port slot client delta t2 : Word) (s : State) : Res :=
  match dev with
  | .ddu => onDdu s fun d => if d.live then d.guestTime client t2 else d
  | .abl => onAbl s fun a => a.on fun n => n.timeReqRx port slot client delta t2

/-- TIME_RESP_RX (R165): tideline stamps t2 and t3, the server's state flags and identity. -/
def execTimeRespRx (dev : Dev) (port t2 t3 flags master : Word) (s : State) : Res :=
  onLive dev s fun n => n.timeRespRx port t2 t3 flags master n.stamp

/-- TIME_SOURCE_LOST (R168). -/
def execTimeSourceLost (dev : Dev) (s : State) : Res := onLive dev s Node.sourceLost

/-- PTP_MESSAGE_RX (R160): a message of another domain is ignored. -/
def execPtpMessageRx (port domain src seq : Word) (m : PtpMsg) (s : State) : Res :=
  onAbl s fun a => a.on fun n => if domain ≠ n.timex.ptpDomain || n.mgmtDown (24 + port) then n else n.ptpRx port src seq m

/-- HOLDOVER_ALARM (R167): in HOLDOVER for more than 2.5 s. -/
def execHoldoverAlarm (s : State) : Res :=
  onAbl s fun a => a.on fun n =>
    let dt := n.local - n.timex.holdSince
    if n.timeState = tsHoldover && 2500000000 < dt then
      n.timeAlign (dt / 1000) else n

/-- PPS_IN_EDGE (R161, R178).  The previous edge is the last one that was not ignored; an edge gives no sample in Slack, and in UNALIGNED it is
refused. (DESIGN CHOICE: log 125.) -/
def execPpsInEdge (s : State) : Res :=
  onAbl s fun a => a.on fun n =>
    let tooSoon := match n.timex.lastPps with
      | some t => decide (n.local - t < 100000000)
      | none => false
    if tooSoon then n.bump (Reg.TIME_REFUSED .abl)
    else
      let t := n.stamp / 256
      let wrap := (t / 2 ^ 32 + 2 ^ 32 - n.rd (Reg.TIME_TIDE_BASE .abl)) % 2 ^ 32
      let x : TimeX := { n.timex with lastPps := some n.local, ppsFrac := n.stamp % 256, stamps := n.timex.stamps + 1 }
      let n := ({ (n.wr Reg.ABL_PPS_IN_STAMP 0 (t % 2 ^ 32)).wr Reg.ABL_PPS_IN_WRAP 0 wrap with timex := x } : Node).irq 107
      if n.srcSel ≠ 5 || n.asleep then n
      else
        let near := (t + 500000000) / 1000000000 * 1000000000
        let theta : Int := (near : Int) - t
        if 100000 < theta.natAbs || n.timeState = tsUnaligned then n.bump (Reg.TIME_REFUSED .abl)
        else (n.wr (Reg.TIME_OFFSET .abl) 0 (ofInt 32 theta)).timeSample theta theta (n.rd (Reg.TIME_MASTER .abl)) 5 false

/-- PPS_OUT_DUE (R176, R177).  A target that comes under PPS_HOLD does nothing, and NEXT stays as it is. (DESIGN CHOICE: log 103.) -/
def execPpsOutDue (s : State) : Res :=
  onAbl s fun a => a.on fun n =>
    let next := n.rd Reg.ABL_PPS_NEXT
    if 0 < dist32 next n.now || n.bit (Reg.TIME_STATUS .abl) 0 6 then n
    else
      let high := n.rd Reg.ABL_PPS_WIDTH_US ≠ 0 && n.timeState != tsUnaligned
      { n.wr Reg.ABL_PPS_NEXT 0 ((next + 1000000000) % 2 ^ 32) with timex := { n.timex with ppsOut := high || n.timex.ppsOut } }

/-- PPS_OUT_END (R176). -/
def execPpsOutEnd (s : State) : Res := onAbl s fun a => a.on fun n => { n with timex := { n.timex with ppsOut := false } }

/-- A write of ABL_PPS_NEXT (R177). (DESIGN CHOICE: log 29.) -/
def Node.ppsNext (n : Node) (v : Nat) : Node := (n.wr Reg.ABL_PPS_NEXT 0 v).setB (Reg.TIME_STATUS .abl) 0 6 false

/-- PPS_NEXT_WRITE (R177). -/
def execPpsNextWrite (who : Requester) (v : Word) (s : State) : Res :=
  ablWrite who s fun a => a.on fun n => n.ppsNext v

/-- ENQUEUE of the entry being built (R172, R180). (DESIGN CHOICE: log 30.) -/
def Node.launchBuilt (n : Node) : Node :=
  let f := n.rd Reg.ABL_LAUNCH_FRAME
  n.launchEnqueue { target := n.rd Reg.ABL_LAUNCH_TARGET, ports := n.rd Reg.ABL_LAUNCH_PORTS, frame := bits f 0 16, comp := Machine.bit f 31 }

/-- FLUSH of the launch queue (R180). -/
def Node.launchFlush (n : Node) : Node :=
  ({ n with timex := { n.timex with launch := [] } }.launchView).setB Reg.ABL_LAUNCH_STATUS 0 8 false

/-- LAUNCH_ENQUEUE (R172 to R174): the entry of LAUNCH_TARGET, LAUNCH_PORTS and LAUNCH_FRAME. -/
def execLaunchEnqueue (who : Requester) (s : State) : Res :=
  ablWrite who s fun a => a.on Node.launchBuilt

/-- LAUNCH_FLUSH (R180). -/
def execLaunchFlush (who : Requester) (s : State) : Res :=
  ablWrite who s fun a => a.on Node.launchFlush

/-- LAUNCH_DUE (R173). -/
def execLaunchDue (s : State) : Res := onAbl s fun a => a.on Node.launchDue

end Sys2Proof.Machine
end

