-- ==== Sys2Proof/Machine/TraceRec.lean ====
section
/-!
DEFINITION. The commands of chapter 04: the trace and the event recorders.
-/

namespace Sys2Proof.Machine

/-- Whether the Trace Unit takes packets of core `c`: it traces, the fast domain runs, and the core is enabled. -/
def Ddu.tapOn (d : Ddu) (c : Nat) : Bool :=
  d.live && d.tracing && d.n.bit Reg.DDU_STATUS 0 2 && d.n.bit Reg.DDU_TRC_CTRL 0 (16 + c)

/-- The packets of one delivery of core `c` (R121): `pc` is the next instruction to retire. -/
def Ddu.tapEvent (d : Ddu) (c pc : Nat) (ev : TapEvent) : Ddu :=
  match ev with
  | .branches l =>
    let groups := (List.range ((l.length + 15) / 16)).map fun i => (l.drop (16 * i)).take 16
    groups.foldl (fun d g => d.trcCorePkt c pc true (some ([pktHead 3 false c, g.length] ++
      le 2 ((g.mapIdx fun i b => b2n b * 2 ^ i).sum)))) d
  | .addr reason target => d.trcCorePkt c pc true (some ([pktHead 4 false c, reason % 256] ++ le 6 target))
  | .privilege level =>
    let x := d.trc.core c
    if x.level = level then d
    else { d with trc := d.trc.setCore { x with level := level, ctx := true } }.trcCorePkt c pc false none
  | .retire _ => d

/-- A retirement of the TRIG_PC address on its core fires the PC trigger (R130, R138), also on a core that is not traced. -/
def Ddu.tapPc (d : Ddu) (c : Nat) (ev : TapEvent) : Ddu :=
  match ev with
  | .retire at_ =>
    let v := d.rd Reg.DDU_TRC_TRIG_PC
    if d.live && d.fastUp && bits v 48 3 = c % 8 && bits v 0 48 = at_ % 2 ^ 48 then d.trcFire 2 0 else d
  | _ => d

/-- The packets that a delivery would have made, had it not been lost (R124). -/
def tapPackets (ev : TapEvent) (x : TraceCore) : Nat :=
  match ev with
  | .branches l => (l.length + 15) / 16
  | .addr _ _ => 1
  | .privilege level => if x.level = level then 0 else 1
  | .retire _ => 0

/-- A delivery that the tap has lost (R124): its packets are dropped; the CONTEXT after the recovery shows the level it brought. -/
def TraceCore.lose (x : TraceCore) (ev : TapEvent) : TraceCore :=
  { x with tapOver := true, dropped := x.dropped + tapPackets ev x, level := match ev with | .privilege l => l | _ => x.level }

/-- TRACE_TAP_RETIRE (R121 to R124): `overflow` says that the core's tap FIFO has overflowed and lost this delivery. -/
def execTraceTapRetire (c pc : Word) (ev : TapEvent) (overflow : Bool) (s : State) : Res :=
  onDdu s fun d =>
    let x := d.trc.core c
    let lost := overflow || x.tapOver
    let e := if lost then d else d.tapPc c ev
    if !d.tapOn c then e
    else if lost then { d with trc := d.trc.setCore (x.lose ev) }
    else (e.tapEvent c pc ev).trcView

/-- TAP_FIFO_RECOVER (R124): LOSS with CAUSE 1, CORE_SYNC with REASON 3. -/
def execTapFifoRecover (c pc : Word) (s : State) : Res :=
  onDdu s fun d =>
    let x := d.trc.core c
    if !d.tapOn c || !x.tapOver then d
    else
      let d : Ddu := { d with trc := (d.trc.setCore { x with tapOver := false, dropped := 0 }) }.trcPut
        ([pktHead 10 true 0, 1, 0, 0] ++ le 4 x.dropped)
      let d : Ddu := { d with trc := d.trc.needAll 3 }.bump Reg.DDU_TRC_LOST 0 x.dropped
      (d.trcCorePkt c pc false none).trcView

/-- TRACE_PERIODIC_SYNC (R122): SYNC_US has passed since the last CORE_SYNC of a producing core. -/
def execTracePeriodicSync (c pc : Word) (s : State) : Res :=
  onDdu s fun d =>
    let us := d.rd Reg.DDU_TRC_SYNC_US
    if d.tapOn c && us ≠ 0 && us * 1000 ≤ d.n.local - (d.trc.core c).lastSync then (d.trcCorePkt c pc false none).trcView else d

/-- TRACE_ENABLE (R133): a write of DDU_TRC_CTRL with EN = 1; the other fields are those of `v`. -/
def execTraceEnable (who : Requester) (v : Word) (s : State) : Res := dduFast who s fun d => d.trcEnable v

/-- TRACE_DISABLE (R130): a write of DDU_TRC_CTRL with EN = 0. -/
def execTraceDisable (who : Requester) (v : Word) (s : State) : Res := dduFast who s fun d => d.trcDisable v

/-- TRACE_DISABLE_DRAIN_END (R130). -/
def execTraceDisableDrainEnd (s : State) : Res := onDdu s Ddu.trcDrainEnd

/-- TRIG_NOW (R138). -/
def execTrigNow (who : Requester) (s : State) : Res := dduFast who s fun d => d.trcTrigger 6 0

/-- REARM (R130). -/
def execRearm (who : Requester) (s : State) : Res := dduFast who s fun d => if d.trcState = trcDone then d.trcArm else d

/-- TRACE_POST_DONE (R126): the stream since TRIGGER has reached POST_KIB; the current block is padded. -/
def execTracePostDone (s : State) : Res :=
  onDdu s fun d =>
    if d.trc.postOn && d.rd Reg.DDU_TRC_POST_KIB * 1024 ≤ d.trc.post + d.trc.cur.length then
      let d := d.trcClose
      ({ d with trc := { d.trc with postOn := false } }.setTrcState trcDone).trcView
    else d

/-- TRACE_AREA_FULL (R130): the post-trigger area is full; further blocks go to staging. -/
def execTraceAreaFull (s : State) : Res :=
  onDdu s fun d =>
    if d.trcState = trcTriggered && 4096 * d.trcArea ≤ d.trc.post then
      { d with trc := { d.trc with inStage := true } }.setTrcState trcSpilling
    else d

/-- TRACE_SPILL_BLOCK (R127, R128). -/
def execTraceSpillBlock (s : State) : Res := onDdu s fun d => if d.live then d.spillBlock else d

/-- TRACE_SPILL_RD_WRITE (R127). -/
def execTraceSpillRdWrite (who : Requester) (v : Word) (s : State) : Res := dduFast who s fun d => d.spillRd v

/-- TRACE_RESUME (R170): the RESUMING sample is applied, or 100 µs have passed since the exit from Slack. -/
def execTraceResume (s : State) : Res :=
  onDdu s fun d =>
    let applied := d.n.timeState == tsLocked && d.n.timex.load.isNone
    if d.pwr ≠ 0 && (applied || decide (d.pw.woke + 100000 ≤ d.n.local)) then d.trcResume else d

/-- A read of the 32 KiB aperture of the trace buffer (R134): in PARKED it starts the fast domain, and the Trace Unit stays PARKED. -/
def Ddu.apertureRead (d : Ddu) (off size : Nat) : Ddu × Nat :=
  let i := 8 * d.n.fld Reg.DDU_TRC_APERTURE 0 0 7 + off / 4096 % 8
  let woken := if d.trcState ≠ trcParked then d.fastAccess
    else if d.bnd.corePgood && !d.n.bit Reg.DDU_STATUS 0 2 then d.on fun n => n.setB Reg.DDU_STATUS 0 1 true else d
  if d.trcReadable i then (woken, leAt (d.trcBlock i) (off % 4096) size) else (woken.bump Reg.DDU_TRC_READ_DENIED, 0)

/-- TRACE_APERTURE_READ (R134): 8 bytes at `off` of the aperture. -/
def execTraceApertureRead (who : Requester) (off : Word) (s : State) : Res :=
  if !s.ddu.answers who then .next { s with rdata := 0, busErr := true }
  else if who = .unprivileged then .next { s with ddu := s.ddu.denied, rdata := 0, busErr := true }
  else onDdu { s with rdata := (s.ddu.apertureRead off 8).2, busErr := false } fun d => (d.apertureRead off 8).1

/-- TRACE_EXPORT_BLOCK (R139). -/
def execTraceExportBlock (s : State) : Res := onDdu s Ddu.exportBlock

/-! ## The recorders -/

/-- FREEZE clears (R143): the held records, then one LOSS record if any record was dropped. -/
def Node.recThaw (n : Node) : Node :=
  let hold := n.recx.hold
  let dropped := n.recx.dropped
  let n : Node := { n with recx := { n.recx with hold := [], dropped := 0 } }
  (hold.foldl Node.ringPut n).loss dropped 0x0005 0

/-- FREEZE clears by itself (R143). -/
def Node.recFreezeExpiry (n : Node) : Node :=
  if n.bit (Reg.REC_FREEZE n.dev) 0 0 then
    let n := ((n.setB (Reg.REC_FREEZE n.dev) 0 0 false).setB (Reg.REC_FREEZE n.dev) 0 1 true).recThaw
    (n.emit 0 1 0x01 0x0002 (recSrc n.dev) (le 4 n.recx.freezeNs ++ zeros 4))
  else n

/-- A write of xxx_REC_FREEZE (R143). -/
def Node.recFreeze (n : Node) (v : Nat) : Node :=
  let r := Reg.REC_FREEZE n.dev
  let was := n.bit r 0 0
  let n := if Machine.bit v 1 then n.setB r 0 1 false else n
  if Machine.bit v 0 then
    if was then n
    else
      let n : Node := { n.setB r 0 0 true with recx := { n.recx with freezeNs := n.now } }
      if n.fld (Reg.REC_FREEZE_MAX_US n.dev) 0 0 20 = 0 then n.recFreezeExpiry else n
  else if was then (n.setB r 0 0 false).recThaw.settle else n

/-- REC_FREEZE_WRITE (R143). -/
def execRecFreezeWrite (dev : Dev) (who : Requester) (v : Word) (s : State) : Res :=
  match dev with
  | .ddu => dduWrite who s fun d => d.on fun n => n.recFreeze v
  | .abl => ablWrite who s fun a => a.on fun n => n.recFreeze v

/-- REC_FREEZE_EXPIRY (R143). -/
def execRecFreezeExpiry (dev : Dev) (s : State) : Res := onNode dev s Node.recFreezeExpiry

/-- A write of a rate-limit entry (R148, R151): its bucket is full and nothing is pending. -/
def Node.rlWrite (n : Node) (i v : Nat) : Node :=
  let n := n.softWrite (Reg.REC_RL n.dev) i (ones 64) v
  { n with recx := { n.recx with buckets := n.recx.buckets.filter fun b => b.idx != i } }.putBucket
    { idx := i, tokens := bits v 16 16 * 1024, last := n.local }

/-- REC_RL_WRITE (R151). -/
def execRecRlWrite (dev : Dev) (who : Requester) (i v : Word) (s : State) : Res :=
  match dev with
  | .ddu => dduWrite who s fun d => d.on fun n => n.rlWrite i v
  | .abl => ablWrite who s fun a => a.on fun n => n.rlWrite i v

end Sys2Proof.Machine
end

