-- ==== Sys2Proof/Machine/RegOps.lean ====
section
/-!
DEFINITION. Register accesses by address (R8, R9, R64, R627 to R632, R639): which register an access reaches, what a write of it does, what a read
of it answers and changes, and the parts of the two windows that are not registers.
-/

namespace Sys2Proof.Machine

/-! ## Which registers an access reaches -/

/-- A part of an access: register, instance, first byte in the register, first byte in the access, bytes. -/
structure Piece where
  r : RegDef
  i : Nat
  b : Nat
  o : Nat
  k : Nat

/-- The instance of a register, and the byte in it, at an offset. -/
def RegDef.hit (r : RegDef) (off : Nat) : Option (Nat × Nat) :=
  if off < r.off then none
  else
    let i := if r.stride = 0 then 0 else (off - r.off) / r.stride
    let b := off - r.off - r.stride * i
    if i < r.count ∧ b < (r.width + 7) / 8 then some (i, b) else none

/-- The piece of an access of `k` bytes at `off` which is byte `o` of the whole access. -/
def pieceAt (t : List RegDef) (off o k : Nat) : Option Piece :=
  t.findSome? fun r => (r.hit (off + o)).map fun x => { r := r, i := x.1, b := x.2, o := o, k := k }

/-- The pieces of an access: one where a register holds all its bytes, else one for each 4 bytes (R630). -/
def regPieces (t : List RegDef) (off size : Nat) : List Piece :=
  let halves := [pieceAt t off 0 4, pieceAt t off 4 4].filterMap id
  if size = 4 then halves.take 1 |>.filter fun p => p.o == 0
  else match pieceAt t off 0 8 with
    | some p => if p.b + 8 ≤ (p.r.width + 7) / 8 then [p] else halves
    | none => halves

/-- R630: naturally aligned, 4 or 8 bytes. (PRESUMED: log 11.) -/
def accessOk (off size : Nat) : Bool := (size == 4 || size == 8) && off % size == 0

/-- The bits of its register that a piece covers. -/
def Piece.mask (p : Piece) : Nat := ones (8 * p.k) * 2 ^ (8 * p.b)

/-- The data of an access as its register's bits. -/
def Piece.data (p : Piece) (v : Nat) : Nat := bits v (8 * p.o) (8 * p.k) * 2 ^ (8 * p.b)

/-- A register's value as the data of the access. -/
def Piece.out (p : Piece) (v : Nat) : Nat := bits v (8 * p.b) (8 * p.k) * 2 ^ (8 * p.o)

/-- `old` with the bits `m` replaced by those of `v`. (PRESUMED: log 11.) -/
def merge (old m v : Nat) : Nat := (old - (old &&& m)) ||| (v &&& m)

/-! ## Writes -/

/-- A write of xxx_FLT_INJ (R475, R476): one that names a reserved, isolated or retired source is discarded and counted. -/
def Node.injWrite (n : Node) (v : Nat) : Node :=
  let s := bits v 48 10
  if reservedSrc n.dev s || n.arrBit (fltIso n.dev) s then n.bump (fltDenied n.dev)
  else n.wr (fltInj n.dev) 0 (s * 2 ^ 48 + bits v 32 1 * 2 ^ 32 + bits v 0 16)

/-- A sync operation that a requester's registers give (R289): a write that includes the upper half issues it. -/
def Node.syncReg (n : Node) (opd epoch dest op : RegDef) (r m v : Nat) : Node :=
  let w := merge (n.rd op r) m v
  let n := n.wr op r (w % 2 ^ 32)
  if m / 2 ^ 32 = 0 then n
  else if bits w 60 4 = 7 && Machine.bit w 56 && bits w 0 32 = 0 then n.syncFence r
  else
    let q : SyncReq := { handle := bits w 0 32, kind := bits w 58 2, ack := Machine.bit w 57, attempt := bits w 48 8, group := bits w 32 16,
                         epoch := n.rd epoch r, d := n.rd opd r }
    n.syncIssue r (bits w 60 4) q (if n.dev = .abl then n.rd dest r else 0)

/-- A write of a register that both devices have, else of one without a rule of its own (R8, R9). -/
def Node.regSet (n : Node) (r : RegDef) (i m v : Nat) : Node :=
  let x := r.off
  let d := n.dev
  let w := merge (n.rd r i) m v
  if x = (bwCfg d).off then n.bwWrite i w
  else if x = (Reg.REC_FREEZE d).off then n.recFreeze (v &&& m)
  else if x = (Reg.REC_RL d).off then n.rlWrite i w
  else if x = (Reg.TIME_INCR d).off then n.incrWrite false w
  else if x = (Reg.TIME_SLEW_INCR d).off then n.incrWrite true w
  else if x = (Reg.TIME_SLEW_TICKS d).off then n.slewWrite w
  else if x = (Reg.TIME_CMD d).off then
    let n := if Machine.bit (v &&& m) 0 then n.loadCmd else n
    if Machine.bit (v &&& m) 1 then n.acceptJump else n
  else if x = (Reg.LNK_CTRL d).off then n.lnkWrite i w
  else if x = (Reg.LNK_CMD d).off then (if Machine.bit (v &&& m) 0 then (n.slotsOf i).foldl (fun n k => n.retrain i k) n else n)
  else if x = (fltInj d).off then n.injWrite w
  else if x = (Reg.AIC_CFG d).off then n.aicCfgWrite 0 i w
  else if x = (Reg.AIC_EOI d).off then n.aicEoi i (bits v 0 10)
  else if x = (Reg.AIC_SGI d).off then n.aicSgi (v &&& m)
  else n.softWrite r i m v

/-- Whether a write of the DDU window is for the sentinel alone (R28, R92, R446, R531, R566, R668). -/
def dduSentinelOnly (x : Nat) : Bool :=
  x == Reg.DDU_PWR_CMD.off || x == Reg.DDU_PWR_CAP.off || x == Reg.DDU_PWR_EXT.off || x == Reg.DDU_PWR_VSET.off || x == Reg.DDU_SEC_CTRL.off ||
    x == Reg.DDU_PROF_CTRL.off || x == Reg.DDU_DBG_GRANT.off || x == Reg.DDU_DBG_EXPIRE.off ||
    (decide (0x90000 ≤ x) && decide (x < 0xA0000) && x != Reg.DDU_DL_PAGE.off)

/-- Whether the DDU may enter Slack at the sentinel's command (R543). -/
def Ddu.slackMay (d : Ddu) : Bool := d.jobState == 0 && !d.bnd.hostActive && d.n.resets.isEmpty

/-- A write of a register whose bit 31 the sentinel alone changes (R213, R395): a host write applies the other fields, and counts when it gives the
bit another value. (DEDUCED: log 15.) -/
def Ddu.enWrite (d : Ddu) (sent : Bool) (r : RegDef) (m v : Nat) : Ddu :=
  let old := d.rd r
  let new := bit (merge old m v) 31
  let d := d.on fun n => n.softWrite r 0 m v
  if new = bit old 31 then d
  else if sent then d.on fun n => n.setB r 0 31 new
  else d.bump Reg.DDU_ACCESS_DENIED

/-- A write of a DDU register by a privileged access (R8, R64); the rule of each register with more than an access code. (DEDUCED: log 15.) -/
def Ddu.regSet (d : Ddu) (who : Requester) (r : RegDef) (i m v : Nat) : Ddu :=
  let x := r.off
  let w := merge (d.rd r i) m v
  let given := v &&& m
  let sent := who == .sentinel
  if dduSentinelOnly x && !sent then d.bump Reg.DDU_ACCESS_DENIED
  else if (Reg.AIC_CTRL .ddu).off ≤ x && decide (x < 0xB8000) && who == .hostPrivileged then d.on fun n => n.bump (Reg.AIC_DENIED .ddu)
  else if x = Reg.DDU_SUBRESET.off then d.subWrite given (subCause who)
  else if x = Reg.DDU_CNT_SEL.off then d.cntSel i w
  else if x = Reg.DDU_SNAP_SEL.off && d.rd Reg.DDU_SNAP_OPEN != 0 then d.bump Reg.DDU_ACCESS_DENIED
  else if x = Reg.DDU_SNS_CFG.off then d.snsCfg i w
  else if x = Reg.DDU_CNT_CLEAR.off then d.cntClear (bits given 0 12) (bits given 16 13)
  else if x = Reg.DDU_CNT_FREEZE.off then d.on fun n => n.cntFreeze given
  else if x = Reg.DDU_SNAP_CTRL.off then
    let d := d.on fun n => n.softWrite r i m v
    if bit w 0 then d else d.snapDiscard
  else if x = Reg.DDU_SNS_CAL.off || x = Reg.DDU_UNIT_DIODE.off then (d.on fun n => n.softWrite r i m v).ledCal
  else if x = Reg.DDU_CELL_TEDGE.off then (d.tedgeWrite i w).ledCal
  else if x = Reg.DDU_TRC_CTRL.off then (if bit w 0 then d.trcEnable w else d.trcDisable w)
  else if x = Reg.DDU_TRC_CMD.off then
    -- REARM comes before TRIG_NOW where both are written. (DESIGN CHOICE: log 109.)
    let d := if bit given 1 && d.trcState = trcDone then d.trcArm else d
    if bit given 0 then d.trcTrigger 6 0 else d
  else if x = Reg.DDU_TRC_SPILL_RD.off then d.spillRd w
  else if x = (Reg.TIME_CMD .ddu).off && bit given 1 && who == .hostPrivileged then
    (d.on fun n => n.regSet r i (m &&& 1) v).bump Reg.DDU_ACCESS_DENIED
  else if x = Reg.DDU_SUM_CTRL.off then d.enWrite sent r m v
  else if x = Reg.DDU_SUM_ENT.off then
    let d := d.on fun n => n.softWrite r i m v
    if d.n.bit Reg.DDU_SUM_CTRL 0 31 then d else d.sumEnter i
  else if x = Reg.DDU_LRB_CTRL.off then
    let rise := bit w 31 && !d.n.bit r 0 31
    let d := d.on fun n => n.softWrite r i m v
    if rise then { d with lrb := { d.lrb with seen := false } } else d
  else if x = Reg.DDU_PWR_CTRL.off then
    d.on fun n => let n := n.softWrite r i m v; if n.fld r 0 29 2 = 3 then n.setFld r 0 29 2 2 else n
  else if x = Reg.DDU_PWR_RAIL.off then
    d.on fun n => let n := n.softWrite r i m v; if n.fld r i 56 7 < 64 || 111 < n.fld r i 56 7 then n.setB r i 63 false else n
  else if x = Reg.DDU_PWR_CMD.off then (if bit given 0 && d.slackMay then d.toSlack 1 else d)
  else if x = Reg.DDU_PWR_CAP.off then d.newCap (w % 65536)
  else if x = Reg.DDU_PWR_EXT.off then d.wr r i w
  else if x = Reg.DDU_PWR_VSET.off then (d.wr r i (w % 65536)).regRequest
  else if x = Reg.DDU_SYNC_OP.off then d.on fun n => n.syncReg Reg.DDU_SYNC_OPD Reg.DDU_SYNC_EPOCH Reg.DDU_SYNC_EPOCH Reg.DDU_SYNC_OP 0 m v
  else if x = Reg.DDU_FENCE.off then
    let d := if bit given 0 then d.sourceFence else d
    if bit given 1 then d.on fun n => n.syncFence 0 else d
  else if x = Reg.DDU_CHK_CTRL.off then
    let d := if bit given 16 then d.wr Reg.DDU_CHK_LAST 0 0 else d
    if bits w 0 16 ≠ d.n.fld r 0 0 16 && bits w 0 16 ≠ 0 && !d.dbgMay 5 then d.bump Reg.DDU_ACCESS_DENIED
    else d.on fun n => n.softWrite r i m v
  else if x = Reg.DDU_SNOOP_CTRL.off then d.enWrite sent r m v
  else if x = Reg.DDU_SNOOP_SLOT.off then
    let d := d.on fun n => n.softWrite r i m v
    if bit given 192 then d.snoopPost i else d
  else if x = Reg.DDU_SEC_CTRL.off then d.wr r 0 (bits w 31 1 * 2 ^ 31)
  else if x = Reg.DDU_SEC_CMD.off then (if bit given 1 then d.secLate else d)
  else if x = Reg.DDU_SEC_SLOT.off then
    let d := d.on fun n => n.softWrite r i m v
    if bit given 192 then d.secPost i else d
  else if x = Reg.DDU_FLT_MAP.off then
    d.on fun n => let n := n.softWrite r i m v; if 0xF00 ≤ n.fld r i 0 12 then n.setB r i 31 false else n
  else if x = Reg.DDU_FLT_SEV.off then
    if who = .hostPrivileged then d.bump Reg.DDU_FLT_DENIED
    else d.on fun n => (setBitsOf 32 given).foldl (fun n b => n.faultClear (32 * i + b)) n
  else if x = Reg.DDU_FLT_INJ.off && who ≠ .firmware then d.bump Reg.DDU_FLT_DENIED
  else if x = Reg.DDU_DBG_GRANT.off then d.dbgGrant w
  else d.on fun n => n.regSet r i m v

/-- P above 4 is stored as 4 and G of 15 as 14 (R456). -/
def ringValue (w : Nat) : Nat :=
  let w := if 4 < bits w 124 3 then setBits w 124 3 4 else w
  if bits w 120 4 = 15 then setBits w 120 4 14 else w

/-- A write of ABL_SEC_RING (R431), and whether it is taken: LENGTH a multiple of G where there are groups, P at most G, POSITION below LENGTH. -/
def Abl.ringWrite (a : Abl) (v : Nat) : Abl × Bool :=
  let w := ringValue (v &&& Reg.ABL_SEC_RING.wm)
  let g := bits w 120 4
  let len := bits w 32 14
  if (2 ≤ g && len % g != 0) || g < bits w 124 3 || len ≤ bits w 0 14 then (a.on fun n => n.bump Reg.ABL_SEC_REFUSED, false)
  else (a.on fun n => n.wr Reg.ABL_SEC_RING 0 w, true)

/-- A write of ABL_RED_CHILD (R233, R255): the baseline cells of a slot that takes a node of another identity are unseeded. (DESIGN CHOICE: log 41.) -/
def Abl.childWrite (a : Abl) (c m v : Nat) : Abl :=
  let old := a.n.fld Reg.ABL_RED_CHILD c 96 20
  let a := a.on fun n => n.softWrite Reg.ABL_RED_CHILD c m v
  if a.n.fld Reg.ABL_RED_CHILD c 96 20 = old then a else a.childFresh c

/-- A write of ABL_SEC_POLICY (R456): CUT_MARGIN below 3 is stored as 3. -/
def Node.policyWrite (n : Node) (w : Nat) : Node := n.wr Reg.ABL_SEC_POLICY 0 (if bits w 24 8 < 3 then setBits w 24 8 3 else w)

/-- A write of a sentinel register by the Management Complex, or by the host where R629 lets it. (DESIGN CHOICE: log 41.) -/
def Abl.regSet (a : Abl) (host : Bool) (r : RegDef) (i m v : Nat) : Abl :=
  let x := r.off
  let w := merge (a.n.rd r i) m v
  let given := v &&& m
  if x = Reg.ABL_ENGINE_RESET.off then a.engWrite host given
  else if x = Reg.ABL_ENGINE_RESET_MODE.off && host then a.on fun n => n.softWrite r i (m &&& 2 ^ 63) v
  else if x = Reg.ABL_PCNT_CLEAR.off then a.on fun n => n.pcntClear given
  else if x = Reg.ABL_PCNT_LATCH.off then a.on Node.pcntLatch
  else if x = Reg.ABL_PCNT_CHAIN.off then a.on fun n => n.pchainWrite i w
  else if x = Reg.ABL_PPS_NEXT.off then a.on fun n => n.ppsNext w
  else if x = Reg.ABL_LAUNCH_CMD.off then
    let a := if bit given 1 then a.on Node.launchFlush else a
    if bit given 0 then a.on Node.launchBuilt else a
  else if x = Reg.ABL_USCH_JOB.off then a.on fun n => n.uschJob i w
  else if x = Reg.ABL_RED_BAR_CFG.off then a.on fun n => n.wr r 0 (min 64 (w % 128))
  else if x = Reg.ABL_RED_FAN_CMD.off then (if bit given 8 then a.fanStart (bits given 0 2) else a)
  else if x = Reg.ABL_RED_CHILD.off then a.childWrite i m v
  else if x = Reg.ABL_RED_MET.off then a.metWrite i w
  else if x = Reg.ABL_RED_BASE.off then
    if a.metSlots.any fun k => a.n.bit Reg.ABL_RED_MET k 123 && a.n.fld Reg.ABL_RED_MET k 99 8 == i / 32 then a
    else a.on fun n => n.wr r i w
  else if x = Reg.ABL_SYNC_OP.off then a.on fun n => n.syncReg Reg.ABL_SYNC_OPD Reg.ABL_SYNC_EPOCH Reg.ABL_SYNC_DEST Reg.ABL_SYNC_OP i m v
  else if x = Reg.ABL_TREE_BIND.off then (a.bindWrite i w).1
  else if x = Reg.ABL_TREE_SUBMIT.off then a.treeSubmit given
  else if x = Reg.ABL_TREE_HIST.off then a.on fun n => (n.softWrite r i m v).setB Reg.ABL_TREE_HVALID (i / 16) (i % 16) true
  else if x = Reg.ABL_SEC_RING.off then (a.ringWrite w).1
  else if x = Reg.ABL_SEC_POLICY.off then a.on fun n => n.policyWrite w
  else if x = Reg.ABL_CMP_SUBMIT.off then a.cmpSubmit (bits given 0 6)
  else if x = Reg.ABL_FLT_SEV.off then a.on fun n => (setBitsOf 32 given).foldl (fun n b => n.faultClear (32 * i + b)) n
  else if x = Reg.ABL_HS_OP.off then a.hsOpStart (bits w 60 4) (bits w 56 2) (bits w 0 32)
  else if x = Reg.ABL_PWR_CMD.off then (if bit given 0 && a.slackOk then a.slackEnter else a)
  else if x = Reg.ABL_MC_SHED_PCT.off then a.on fun n => n.wr r 0 (min 100 (w % 128))
  else if x = Reg.ABL_MC_WDOG_CFG.off then a.on fun n => n.wdogCfg i w
  else if x = Reg.ABL_MC_WDOG_KICK.off then a.on fun n => n.wdogKick i given
  else if x = Reg.ABL_MB_EVT_RD.off then a.on fun n => n.evRead i w
  else a.on fun n => n.regSet r i m v

/-! ## Reads -/

/-- The byte of a ring at position `p` modulo its size: that of the record there, else an open value. (PRESUMED: log 11.) -/
def ringByte (ring : List (Nat × Record)) (size key p : Nat) : Nat :=
  let at_ (x : Nat × Record) : Nat := (p % size + size - x.1 % size) % size
  match ring.find? fun x => decide (at_ x < x.2.size) with
  | some x => x.2.bytes.getD (at_ x) 0
  | none => Config.ringByte key (p % size) % 256

/-- A byte of the recorder window (R141, R142) with its start at `base`. -/
def Node.recByte (n : Node) (base i : Nat) : Nat :=
  ringByte n.recx.ring (n.rd (Reg.REC_SIZE n.dev)) (if n.dev = .ddu then 3 else 4) (base + i)

/-- A byte of a mailbox (R595). (PRESUMED: log 11.) -/
def Node.mbByte (n : Node) (mb o : Nat) : Nat :=
  let rev := n.dev == .ddu && mb == 3
  if o = 3 then (if n.bit (ownedReg n.dev) 0 mb then 128 else 0)
  else if o < 16 || (0x30 ≤ o && decide (o < 0x40)) then 0
  else if o < 0x800 then
    if rev then
      match n.mb.rev with
      | some x => (zeros 16 ++ le 2 x.code ++ zeros 4 ++ le 2 x.params.length ++ zeros 24 ++ zeros 16 ++ x.params).getD o 0
      | none => 0
    else Cells.get n.mb.area (mb * 4096 + o)
  else if rev then Cells.get n.mb.area (mb * 4096 + o)
  else match n.mb.resps.find? fun x => x.mb == mb with
    | some x => x.bytes.getD (o - 0x800) 0
    | none => 0

/-- A byte of the DDU window that no register holds: recorder window, trace buffer, phase table, fallback ring (R204), ledger aperture,
mailboxes, sync objects. -/
def Ddu.areaByte (d : Ddu) (x : Nat) : Option Nat :=
  if 0x3C000 ≤ x ∧ x < 0x40000 then some (d.n.recByte (d.n.rd (Reg.REC_WIN_BASE .ddu)) (x - 0x3C000))
  else if 0x61000 ≤ x ∧ x < 0x62000 then some ((d.pw.phaseBytes ((x - 0x61000) / 64)).getD (x % 64) 0)
  else if 0x98000 ≤ x ∧ x < 0xA0000 then some ((d.mram (32768 * d.n.fld Reg.DDU_DL_PAGE 0 0 1 + (x - 0x98000)) 1).getD 0 0)
  else if 0xA0000 ≤ x ∧ x < 0xA5000 then some (d.n.mbByte ((x - 0xA0000) / 4096) (x % 4096))
  else if 0x84000 ≤ x ∧ x < 0x88000 then some (Cells.get d.fb.ring (x - 0x84000))
  else if 0xA8000 ≤ x ∧ x < 0xB0000 then some ((d.n.obj ((x - 0xA8000) / 64)).bytes.getD (x % 64) 0)
  else none

/-- A byte of BAR0 that no register holds: mailboxes, the I3C event ring, sync objects, the recorder window. -/
def Abl.areaByte (a : Abl) (x : Nat) : Option Nat :=
  if 0x100000 ≤ x ∧ x < 0x114000 then some (a.n.mbByte ((x - 0x100000) / 4096) (x % 4096))
  else if 0x120000 ≤ x ∧ x < 0x124000 then some (ringByte (a.n.ev 1).ring 16384 1 (x - 0x120000))
  else if 0xB00000 ≤ x ∧ x < 0xB80000 then some ((a.n.obj ((x - 0xB00000) / 64)).bytes.getD (x % 64) 0)
  else if 0xC80000 ≤ x ∧ x < 0xD00000 then some (a.n.recByte (a.n.rd (Reg.REC_WIN_BASE .abl)) (x - 0xC80000))
  else none

/-- The bytes of an access to an area, where it lies in one. -/
def areaRead (f : Nat → Option Nat) (off size : Nat) : Option Nat :=
  (f off).map fun _ => leNat ((List.range size).map fun i => (f (off + i)).getD 0)

/-- Registers that are written only (R8). -/
def writeOnly (d : Dev) (x : Nat) : Bool :=
  x == (Reg.AIC_EOI d).off || x == (Reg.AIC_SGI d).off ||
    match d with
    | .ddu => x == Reg.DDU_SYNC_OP.off
    | .abl => x == Reg.ABL_SYNC_OP.off || x == Reg.ABL_HS_OP.off

/-- What a register reads, and the read's effect on it (R8, R156, R207, R575, R590). -/
def Node.regGet (n : Node) (r : RegDef) (i : Nat) : Node × Nat :=
  let x := r.off
  let d := n.dev
  if writeOnly d x then (n, 0)
  else if x = (Reg.TIME_NS d).off then
    ((n.wr (Reg.TIME_FRAC_LATCH d) 0 n.frac).wr (Reg.TIME_WRAP_LATCH d) 0 (n.rd (Reg.TIME_WRAP d)), n.now)
  else if x = (Reg.LNK_FAILS d).off then (n, setBits (n.rd r i) 0 4 (min 15 ((n.slotsOf i).map fun k => n.laneFails i k).sum))
  else if x = (Reg.AIC_PEND d).off then (n, n.aicPendWord i)
  else if x = (Reg.AIC_PPEND d).off then (n, n.aicPpend i)
  else if x = (Reg.AIC_RUNPRI d).off then (n, n.aicRunpri i)
  else if x = (Reg.AIC_CLAIM d).off then n.aicClaim i
  else if r.rc then (n.wr r i 0, n.rd r i)
  else (n, n.rd r i)

/-- What a DDU register reads (R55, R85, R91, R109); `all` says that the access covers all 8 bytes. -/
def Ddu.regGet (d : Ddu) (r : RegDef) (i : Nat) (all : Bool) : Ddu × Nat :=
  let x := r.off
  if x = Reg.DDU_CNT.off then
    let n := d.n
    let v := if n.withheld i then 0 else n.rd r i
    let n := if all && i % 2 = 0 && n.chained i then n.wr Reg.DDU_CNT_HI_LATCH 0 (n.rd r (i + 1)) else n
    (d.on fun _ => if n.withheld i then n.bump Reg.DDU_CNT_WITHHELD else n, v)
  else if x = Reg.DDU_CHK_STALL.off then
    ((d.on fun n => n.wr r i 0).on fun n => n.setFld Reg.DDU_CHK_FIFO 0 16 11 (n.fld Reg.DDU_CHK_FIFO 0 0 11), d.rd r i)
  else if x = Reg.DDU_SNS_MINMAX.off then
    ({ d.on fun n => n.wr r i 0 with sens := { d.sens with minmax := d.sens.minmax.filter fun c => c != i } }, d.rd r i)
  else
    let d := if x = Reg.DDU_LNK_FB_STATUS.off then d.fbView else d
    let y := d.n.regGet r i
    (d.on fun _ => y.1, y.2)

/-- What a sentinel register reads: the VERDICT bytes queued (R251), and the tally, which a read by firmware pops (R511, R533); a
64-bit read of an even performance counter latches the upper half of a chained pair (R85, R116). -/
def Abl.regGet (a : Abl) (r : RegDef) (i : Nat) (all : Bool) : Abl × Nat :=
  let x := r.off
  if x = Reg.ABL_PCNT.off then
    (if all && i % 2 = 0 && a.n.pchained i then a.on fun n => n.wr Reg.ABL_PCNT_HI_LATCH 0 (n.rd r (i + 1)) else a, a.n.rd r i)
  else if x = Reg.ABL_USCH_PSTAT.off then
    let queued := ((a.n.txq.filter fun t => t.port == 16 + i && t.msg.cls == 0).map fun t => t.size - t.sent).sum
    (a, setBits (a.n.rd r i) 32 32 (min (ones 32) queued))
  else if x = Reg.ABL_TREE_RISK.off then
    let b := a.belowView i
    (b, b.n.rd r i)
  else if x = Reg.ABL_HS_TALLY.off then
    match a.hist.tally with
    | [] => (a, 0)
    | (p, u, c) :: t => (a.onHist fun h => { h with tally := t }, 2 ^ 63 + p % 16 * 2 ^ 32 + u % 512 * 2 ^ 16 + c % 128)
  else let y := a.n.regGet r i; (a.on fun _ => y.1, y.2)

/-! ## The DDU window -/

/-- Whether an unprivileged access may reach a byte of the window (R64). -/
def dduOpen (write : Bool) (x : Nat) : Bool :=
  (decide (0xA0000 ≤ x) && decide (x < 0xA4000)) || (!write && (decide (x < 0xC) || decide (0x50000 ≤ x) && decide (x < 0x50004)))

/-- Whether a requester reaches every byte of an access to the DDU window. (DEDUCED: log 15.) -/
def dduMay (who : Requester) (write : Bool) (x size : Nat) : Bool :=
  match who with
  | .unprivileged => (List.range size).all fun k => dduOpen write (x + k)
  | .hostPrivileged => true
  | .sentinel => true
  | .firmware => true
  | .bar0 => false
  | .i3c => false

/-- The command that a mailbox area holds (R596). (DESIGN CHOICE: log 86.) -/
def Node.mbCmd (n : Node) (path mb : Nat) : Cmd :=
  let b := Cells.read n.mb.area (mb * 4096) 2048
  { path := path, mb := mb, code := leAt b 0x10 2, flags := leAt b 0x12 2, tag := leAt b 0x14 2, jobtag := leAt b 0x18 4,
    params := (b.drop 0x40).take (min 1984 (leAt b 0x16 2)) }

/-- A requester's write of mailbox bytes (R595, R598): ignored and counted while the responder owns the mailbox; the second part says that OWN is
written. (DESIGN CHOICE: log 86.) -/
def Node.mbWrite (n : Node) (mb o size v : Nat) : Node × Bool :=
  if n.bit (ownedReg n.dev) 0 mb then (n.bump (mbDiscarded n.dev), false)
  else
    let area := (List.range size).foldl (fun (m : Cells) j =>
      let x := o + j
      if (0x10 ≤ x && decide (x < 0x30)) || (0x40 ≤ x && decide (x < 0x800)) then Cells.write m (mb * 4096 + x) [v / 256 ^ j % 256] else m) n.mb.area
    (n.setMb { n.mb with area := area }, o = 0 && Machine.bit v 31)

/-- A write of the reverse mailbox by the host (R593, R598, R620): its response while OWN is 1, which a write of OWN = 0 completes. (DESIGN CHOICE: log 86.) -/
def Ddu.revWrite (d : Ddu) (o size v : Nat) : Ddu :=
  if d.n.mb.rev.isNone then d
  else if o = 0 then
    if bit v 31 then d
    else
      let b := Cells.read d.n.mb.area (3 * 4096 + 0x800) 2048
      d.revDone (leAt b 0 2) ((b.drop 0x40).take (min 1984 (leAt b 4 2)))
  else if o < 0x800 then d
  else d.on fun n => n.setMb { n.mb with area := Cells.write n.mb.area (3 * 4096 + o) (le size v) }

/-- A write of the DDU window that is let through. -/
def Ddu.winWrite (d : Ddu) (who : Requester) (off size v : Nat) : Ddu :=
  if 0xA0000 ≤ off ∧ off < 0xA4000 then
    let mb := (off - 0xA0000) / 4096
    if mb = 3 then d.revWrite (off % 4096) size v
    else
      let y := d.n.mbWrite mb (off % 4096) size v
      let d := d.on fun _ => y.1
      let d := if y.2 then d.postCmd (d.n.mbCmd 4 mb) else d
      if d.pwr = 0 then d.arouse 4 else d
  else (regPieces dduRegs off size).foldl (fun d p => d.regSet who p.r p.i p.mask (p.data v)) d

/-- A write of the DDU window (R8, R64, R75). -/
def Ddu.busWrite (d : Ddu) (who : Requester) (off size v : Nat) : Ddu × Bool :=
  if !d.answers who then (d, true)
  else if !dduMay who true off size then (d.bump Reg.DDU_ACCESS_DENIED, true)
  else if !accessOk off size then (d, false)
  else if !fastBlock off then (d.winWrite who off size v, false)
  else if !d.fastAccess.fastUp then (d, true)
  else (d.fastAccess.winWrite who off size v, false)

/-- One entry of DIE_REG_WRITE (R620): the bits of `mask` in the low 32 bits of the register, and the upper half with a whole mask. -/
def Ddu.entryWrite (d : Ddu) (off mask v : Nat) : Ddu :=
  match pieceAt dduRegs off 0 4 with
  | none => d
  | some p =>
    let m := if mask % 2 ^ 32 = ones 32 && 8 ≤ (p.r.width + 7) / 8 - p.b then ones 64 else mask % 2 ^ 32
    d.regSet .sentinel p.r p.i (m * 2 ^ (8 * p.b)) (v * 2 ^ (8 * p.b))

/-- The data of a read of the DDU window that is let through. -/
def Ddu.winRead (d : Ddu) (who : Requester) (off size : Nat) : Ddu × Nat :=
  if 0x48000 ≤ off ∧ off < 0x50000 then d.apertureRead (off - 0x48000) size
  else match areaRead d.areaByte off size with
    | some v => (d, v)
    | none =>
      if who = .hostPrivileged && decide (0xB0000 ≤ off) && decide (off < 0xB8000) && !(decide (0xB1000 ≤ off) && decide (off < 0xB2080)) then
        (d.on fun n => n.bump (Reg.AIC_DENIED .ddu), 0)
      else
        (regPieces dduRegs off size).foldl (fun (x : Ddu × Nat) p =>
          let g := x.1.regGet p.r p.i (size == 8)
          (g.1, x.2 + p.out g.2)) (d, 0)

/-- Whether an offset lies in the trace aperture while the Trace Unit is PARKED, where a read starts the fast domain and the buffer answers (R134). -/
def Ddu.apertureHeld (d : Ddu) (off : Nat) : Bool := decide (0x48000 ≤ off) && decide (off < 0x50000) && d.trcState == trcParked

/-- A read of the DDU window (R8, R64, R75): the data and whether it ends in a fabric error. -/
def Ddu.busRead (d : Ddu) (who : Requester) (off size : Nat) : Ddu × Nat × Bool :=
  if !d.answers who then (d, 0, true)
  else if !dduMay who false off size then (d.bump Reg.DDU_ACCESS_DENIED, 0, true)
  else if !accessOk off size then (d, 0, false)
  else if !fastBlock off || d.apertureHeld off then let y := d.winRead who off size; (y.1, y.2, false)
  else if !d.fastAccess.fastUp then (d, 0, true)
  else let y := d.fastAccess.winRead who off size; (y.1, y.2, false)

/-! ## BAR0, BAR2 and I3C -/

/-- Whether R629 or R627 list a register as one that the host, or the BMC, writes. -/
def hostMayWrite (i3c : Bool) (r : RegDef) (i : Nat) : Bool :=
  let x := r.off
  if i3c then x == Reg.ABL_MB_EVT_RD.off && i == 1
  else x == Reg.ABL_HOST_AP_BASE.off || x == Reg.ABL_HOST_REC_WIN_BASE.off || x == Reg.ABL_HOST_EVT_THRESH.off || x == Reg.ABL_ENGINE_RESET.off ||
    x == Reg.ABL_ENGINE_RESET_MODE.off || (x == Reg.ABL_MB_EVT_RD.off && i == 0) ||
    ((x == Reg.ABL_SYNC_OPD.off || x == Reg.ABL_SYNC_EPOCH.off || x == Reg.ABL_SYNC_DEST.off || x == Reg.ABL_SYNC_OP.off) && i == 6)

/-- The block's own counter of a write that R629 discards (R471, R533, R590, R663). -/
def Abl.blockDenied (a : Abl) (off : Nat) : Abl :=
  if 0x200000 ≤ off ∧ off < 0x20C000 then a.on fun n => n.bump (Reg.AIC_DENIED .abl)
  else if 0x300000 ≤ off ∧ off < 0x400000 then a.on fun n => n.bump Reg.ABL_FLT_DENIED
  else if 0xF00000 ≤ off ∧ off < 0x1000000 then a.on fun n => n.bump Reg.ABL_HS_DENIED
  else if 0x1000000 ≤ off ∧ off < 0x4000000 then a.on fun n => n.bump Reg.ABL_DBG_DENIED
  else a

/-- The debug region decodes (R629, R660, R663). (DESIGN CHOICE: log 12.) -/
def Abl.debugOn (a : Abl) : Bool :=
  let l := a.n.lifecycle
  a.n.pwrState != 0 && (l == 0 || l == 3 || (l == 2 && a.n.granted 0))

/-- A write of the sentinel's registers by firmware. -/
def Abl.mcWrite (a : Abl) (off size v : Nat) : Abl :=
  if accessOk off size then (regPieces ablRegs off size).foldl (fun a p => a.regSet false p.r p.i p.mask (p.data v)) a else a

/-- A write through BAR0 (R629, R630, R639), where BAR2 begins at 0x1000_0000 (R632). -/
def Abl.hostWrite (a : Abl) (off size v : Nat) : Abl :=
  if !a.decodes then a
  else if !accessOk off size then a.denied
  else if 0x100000 ≤ off ∧ off < 0x110000 then
    let mb := (off - 0x100000) / 4096
    let y := a.n.mbWrite mb (off % 4096) size v
    let a := a.on fun _ => y.1
    if y.2 then a.postCmd (a.n.mbCmd 0 mb) else a
  else if a.n.pwrState = 0 || 0x10000000 ≤ off then a.denied
  else if 0x1000000 ≤ off then (if a.debugOn then a else a.denied.blockDenied off)
  else
    let ps := regPieces ablRegs off size
    if ps.isEmpty then a.denied.blockDenied off
    else ps.foldl (fun a p => if hostMayWrite false p.r p.i then a.regSet true p.r p.i p.mask (p.data v) else a.denied.blockDenied off) a

/-- A write through I3C (R593, R627). -/
def Abl.bmcWrite (a : Abl) (off size v : Nat) : Abl :=
  if !accessOk off size then a.denied
  else if 0x110000 ≤ off ∧ off < 0x114000 then
    let mb := 16 + (off - 0x110000) / 4096
    let y := a.n.mbWrite mb (off % 4096) size v
    let a := a.on fun _ => y.1
    if y.2 then a.postCmd (a.n.mbCmd 1 mb) else a
  else
    let ps := (regPieces ablRegs off size).filter fun p => hostMayWrite true p.r p.i
    if ps.isEmpty || a.n.pwrState = 0 then a.denied else ps.foldl (fun a p => a.regSet true p.r p.i p.mask (p.data v)) a

/-- Registers wider than 64 bits go through the host shadow (R631). -/
def Abl.shadowGet (a : Abl) (p : Piece) : Abl × Nat :=
  let addr := p.r.addr p.i
  match a.host.shadow with
  | some (x, v) =>
    if x = addr && 8 ≤ p.b then (a, v)
    else let g := a.regGet p.r p.i false; ({ g.1 with host := { g.1.host with shadow := some (addr, g.2) } }, g.2)
  | none => let g := a.regGet p.r p.i false; ({ g.1 with host := { g.1.host with shadow := some (addr, g.2) } }, g.2)

/-- Whether a host read of a BAR0 offset answers 0 (R114, R590, R629, R668), and where it is counted besides. (DESIGN CHOICE: log 14.) -/
def Abl.hostBlind (a : Abl) (off : Nat) : Bool :=
  (decide (0x110000 ≤ off) && decide (off < 0x130000)) || (decide (0x20D000 ≤ off) && decide (off < 0x300000)) ||
    (decide (0xC80000 ≤ off) && decide (off < 0xD00000)) || off == Reg.ABL_HS_TALLY.off || off == Reg.ABL_HS_TALLY.off + 4 ||
    (decide (0xF01000 ≤ off) && decide (off < 0xF02000)) ||
    (decide (0xD00000 ≤ off) && decide (off < 0xE00000) && !a.n.bit Reg.ABL_PERF_CTRL 0 0)

/-- A host read through BAR2 (R632). (DESIGN CHOICE: log 13.) -/
def Abl.bar2Byte (a : Abl) (x : Nat) : Nat :=
  if x < 0x10000 then ringByte (a.n.ev 0).ring 65536 0 x
  else if 0x100000 ≤ x ∧ x < 0x180000 then a.n.recByte (a.n.rd Reg.ABL_HOST_REC_WIN_BASE) (x - 0x100000)
  else if 0x200000 ≤ x ∧ x < 0x210000 then
    if a.n.bit Reg.ABL_PERF_CTRL 0 0 then bits (a.n.rd Reg.ABL_PSAMP_BUF ((x - 0x200000) / 32)) (8 * (x % 32)) 8 else 0
  else 0

/-- The registers of an access through BAR0, in one read. (DESIGN CHOICE: log 13.) -/
def Abl.hostPieces (a : Abl) (off size : Nat) : Abl × Nat :=
  (regPieces ablRegs off size).foldl (fun (x : Abl × Nat) p =>
    let g := if 64 < p.r.width then x.1.shadowGet p else x.1.regGet p.r p.i (size == 8)
    (g.1, x.2 + p.out g.2)) (a, 0)

/-- A read through BAR0 or BAR2 by the host (R629 to R632, R639). (DESIGN CHOICE: log 14.) -/
def Abl.hostRead (a : Abl) (off size : Nat) : Abl × Nat :=
  if !a.decodes then (a, 0)
  else if !accessOk off size then (a.denied, 0)
  else if a.n.pwrState = 0 && !decide (off < 0x110000) then (a.denied, 0)
  else if 0x10000000 ≤ off then (a, leNat ((List.range size).map fun i => a.bar2Byte (off - 0x10000000 + i)))
  else if 0x1000000 ≤ off then (if a.debugOn then (a, Config.debugWord off % 2 ^ (8 * size)) else (a.blockDenied off, 0))
  else if 0x200000 ≤ off ∧ off < 0x20C000 ∧ ¬(0x201000 ≤ off ∧ off < 0x202080) then (a.on fun n => n.bump (Reg.AIC_DENIED .abl), 0)
  else if a.hostBlind off then (a, 0)
  else match areaRead a.areaByte off size with
    | some v => (a, v)
    | none => a.hostPieces off size

/-- A read through I3C (R593, R627). -/
def Abl.bmcRead (a : Abl) (off size : Nat) : Abl × Nat :=
  let own := (decide (0x110000 ≤ off) && decide (off < 0x114000)) || (decide (0x120000 ≤ off) && decide (off < 0x124000))
  let listed (p : Piece) : Bool :=
    p.r.off == Reg.ABL_ID.off || p.r.off == Reg.ABL_NODE.off || p.r.off == Reg.ABL_STATUS.off ||
      (p.i == 1 && (p.r.off == Reg.ABL_MB_NEG.off || p.r.off == Reg.ABL_MB_FEAT.off || p.r.off == Reg.ABL_MB_EVT_WR.off ||
        p.r.off == Reg.ABL_MB_EVT_RD.off || p.r.off == Reg.ABL_MB_EVT_LOST.off || p.r.off == Reg.ABL_MB_EVT_SEQ.off))
  if !accessOk off size then (a.denied, 0)
  else if own then (a, (areaRead a.areaByte off size).getD 0)
  else
    let ps := regPieces ablRegs off size
    if ps.isEmpty || !(ps.all listed) then (a.denied, 0)
    else ps.foldl (fun (x : Abl × Nat) p => let g := x.1.regGet p.r p.i (size == 8); (g.1, x.2 + p.out g.2)) (a, 0)

/-- A read of the sentinel's registers by firmware. -/
def Abl.mcRead (a : Abl) (off size : Nat) : Abl × Nat :=
  if !accessOk off size then (a, 0)
  else match areaRead a.areaByte off size with
    | some v => (a, v)
    | none => (regPieces ablRegs off size).foldl (fun (x : Abl × Nat) p => let g := x.1.regGet p.r p.i (size == 8); (g.1, x.2 + p.out g.2)) (a, 0)

/-- A write of a sentinel register by a requester. -/
def Abl.busWrite (a : Abl) (who : Requester) (off size v : Nat) : Abl :=
  match who with
  | .firmware => a.mcWrite off size v
  | .bar0 => a.hostWrite off size v
  | .i3c => a.bmcWrite off size v
  | .unprivileged => a.denied
  | .hostPrivileged => a.denied
  | .sentinel => a.denied

/-- A read of a sentinel register by a requester. -/
def Abl.busRead (a : Abl) (who : Requester) (off size : Nat) : Abl × Nat :=
  match who with
  | .firmware => a.mcRead off size
  | .bar0 => a.hostRead off size
  | .i3c => a.bmcRead off size
  | .unprivileged => (a.denied, 0)
  | .hostPrivileged => (a.denied, 0)
  | .sentinel => (a.denied, 0)

end Sys2Proof.Machine
end

