-- ==== Sys2Proof/Machine/CmdOps.lean ====
section
/-!
DEFINITION. What the commands of R619 do at the sentinel where no other chapter's operation says it whole: operations on long operations, time,
power, tree and fault configuration, jobs, groups, loads.  Each answers an `Ans`.
-/

namespace Sys2Proof

/-- The parameter bytes [o, o + k) as a number. -/
def Cmd.p (c : Cmd) (o k : Nat) : Nat := Machine.leAt c.params o k

/-- BUSY with a hint that the spec does not state. -/
def Cmd.later (c : Cmd) (n : Machine.Node) : Machine.Ans :=
  { status := Machine.stBusy, hint := Config.retryHint c.code n.local % 2 ^ 32 }

/-- The pairs of die indexes at byte `o` of the parameters. -/
def Cmd.pairs (c : Cmd) (o n : Nat) : List (Nat × Nat) := (List.range n).map fun i => (c.p (o + 8 * i) 4, c.p (o + 8 * i + 4) 4)
end Sys2Proof

namespace Sys2Proof.Machine

/-- A status with a retry hint in µs (R600). -/
def Ans.busy (hint : Nat) : Ans := { status := stBusy, hint := hint }

/-! ## Long operations (R617, R618) -/

/-- SUSPEND 0, RESUME 1, CANCEL 2 of a compaction pass, or of one that waits. -/
def Abl.compactOp (a : Abl) (h what : Nat) : Abl × Bool :=
  let waits := a.hist.passDue == some h
  match what with
  | 0 => if !waits && a.compactSt = 1 then (a.compactSuspend, true) else (a, false)
  | 1 => if waits then (a, false) else (a.compactUnsuspend, true)
  | _ =>
    if waits then ((a.onHist fun x => { x with passDue := none }).on fun n => n.opEnd h stCancelled 0 [0, 0, 0, 0], true)
    else (a.compactCancel, true)

/-- SUSPEND 0, RESUME 1, CANCEL 2 of an operation by its KIND (R616). -/
def Abl.opAct (a : Abl) (x : OpX) (what : Nat) : Abl × Bool :=
  let h := x.handle
  match x.kind with
  | 1 => a.campOp h what
  | 2 => a.passOp x.jobtag what
  | 3 => a.restOp h what
  | 4 => a.compactOp h what
  | 5 => a.exportOp h what
  | 6 => a.traceOp h what
  | 7 => a.sweepOp h what
  | _ =>
    if what = 2 then
      match a.guard.update with
      | some f => (a.fwEnd f stCancelled 0 0 0, true)
      | none => (a, false)
    else (a, false)

/-- OP_SUSPEND, OP_RESUME and OP_CANCEL before the operation's own rules (R618): none when they decide. -/
def Node.opEarly (n : Node) (c : Cmd) (what : Nat) : Option Ans :=
  match n.op (c.p 0 4) with
  | none => some (Ans.of stStale)
  | some x =>
    if !opMay x c.path then some (Ans.of stNotPermitted)
    else if x.state = 2 then some { data := n.opPayload x 2 }
    else if (what = 0 && x.state = 1) || (what = 1 && x.state = 0) then some {}
    else none

/-- OP_SUSPEND 0, OP_RESUME 1, OP_CANCEL 2 at the sentinel (R618). -/
def Abl.opCommand (a : Abl) (c : Cmd) (what : Nat) : Abl × Ans :=
  match a.n.opEarly c what with
  | some r => (a, r)
  | none =>
    match a.n.op (c.p 0 4) with
    | none => (a, Ans.of stStale)
    | some x =>
      let r := a.opAct x what
      if r.2 || what = 2 then (r.1, {}) else (a, c.later a.n)

/-- The same at a DDU, which starts no long operation: its table is empty. -/
def Ddu.opCommand (d : Ddu) (c : Cmd) (what : Nat) : Ddu × Ans :=
  match d.n.opEarly c what with
  | some r => (d, r)
  | none => (d, c.later d.n)

/-- GET_INFO (R619): the spec gives its contents but no layout. -/
def Node.getInfo (n : Node) (c : Cmd) : Ans :=
  let neg := n.rd (negReg n.dev) (negIdx c.path)
  let fw := if n.dev = .abl then n.rd Reg.ABL_FW_VERSION else 0
  { data := Config.infoData n.ident n.role n.lifecycle fw (bits neg 48 16) (bits neg 32 16) }

/-- STAGE_FREE (R615). -/
def Abl.stageDrop (a : Abl) (c : Cmd) : Abl × Ans :=
  match a.n.stage (c.p 0 4) with
  | some x => (a.stageFree x, {})
  | none => (a, Ans.of stBad)

/-! ## Time -/

/-- TIME_CONFIG (R163, R182, R619): reserved SRC_SEL codes are refused. -/
def Abl.timeConfig (a : Abl) (c : Cmd) : Abl × Ans :=
  let v := c.p 0 4
  let sel := bits v 27 3
  if sel = 2 || sel = 4 || 6 ≤ sel || 127 < c.p 8 1 then (a, Ans.of stBad)
  else (a.on fun n =>
    let n := (n.softWrite (Reg.TIME_CTRL .abl) 0 (ones 32) v).wr (Reg.TIME_ASYM .abl) 0 (c.p 4 4)
    { n with timex := { n.timex with ptpDomain := c.p 8 1 } }, {})

/-- TIME_ACCEPT_JUMP (R169). -/
def Abl.timeAccept (a : Abl) : Abl × Ans :=
  if a.n.timeState = tsJumpHeld then (a.on Node.acceptJump, {}) else (a, Ans.of stBad)

/-- SNAP_AT (R172, R174, R175): the frame goes to the launch queue with COMP. (DESIGN CHOICE: log 88.) -/
def Abl.snapAt (a : Abl) (c : Cmd) : Abl × Ans :=
  let t := c.p 0 8
  let key := 2 ^ 20 + c.p 8 4
  if t ≤ a.n.tideline || a.n.tideline + 2 ^ 31 ≤ t then (a, Ans.of stBad)
  else if 32 ≤ a.n.timex.launch.length then (a, c.later a.n)
  else
    let a := a.on fun n => { n with timex := { n.timex with frames := bindKey n.timex.frames key (.frame .snapAt [c.p 8 4] []) } }
    (a.on fun n => n.launchEnqueue { target := t % 2 ^ 32, ports := c.p 12 4 % 2 ^ 26, frame := key, comp := true }, {})

/-- PPS_CONFIG (R176, R177). -/
def Abl.ppsConfig (a : Abl) (c : Cmd) : Abl × Ans :=
  if 1023 < c.p 4 2 then (a, Ans.of stBad)
  else (a.on fun n => (n.ppsNext (c.p 0 4)).wr Reg.ABL_PPS_WIDTH_US 0 (c.p 4 2), {})

/-! ## Power -/

/-- SET_TRAY_BUDGET (R545). -/
def Abl.setBudget (a : Abl) (c : Cmd) : Abl × Ans :=
  if c.p 0 2 < c.p 2 2 then (a, Ans.of stBad)
  else (a.on fun n => n.wr Reg.ABL_PWR_BUDGET 0 (2 ^ 63 + c.p 4 2 * 2 ^ 32 + c.p 2 2 * 2 ^ 16 + c.p 0 2), {})

/-- SET_POWER_STATE (R538): BUSY with a hint of 10,000 µs where Slack is not permitted. (DESIGN CHOICE: log 77.) -/
def Abl.setPower (a : Abl) (c : Cmd) : Abl × Ans :=
  let target := c.p 0 1
  if 2 < target then (a, Ans.of stBad)
  else if target = 0 && (!a.slackOk || a.n.pwrState = 3) then (a, Ans.busy 10000)
  else
    let a := a.on fun n => (n.softWrite Reg.ABL_PWR_WAKE_EN 0 (ones 32) (c.p 4 4)).wr Reg.ABL_PWR_WAKE_AT 0 (c.p 8 4)
    (if target = 0 then a.slackEnter else a, {})

/-- SET_SELF_LIMITS (R564): SELF_CAP_W, and TLIM without its hysteresis. -/
def Abl.setLimits (a : Abl) (c : Cmd) : Abl × Ans :=
  (a.on fun n => (n.wr Reg.ABL_PWR_SELF_CAP_W 0 (c.p 0 2)).setFld Reg.ABL_PWR_TLIM 0 0 16 (c.p 2 2), {})

/-! ## The tree -/

/-- SET_PARENTS (R30): two sentinels of one level. -/
def Abl.setParents (a : Abl) (c : Cmd) : Abl × Ans :=
  let x := c.p 0 4 % 2 ^ 20
  let y := c.p 4 4 % 2 ^ 20
  if x = y || bits x 17 3 ≠ bits y 17 3 then (a, Ans.of stBad)
  else (a.on fun n => { n with parent := { n.parent with primary := x, alternate := y } }, {})

/-- RETURN_TO_PRIMARY (R36): BUSY while the primary is not reachable. -/
def Abl.toPrimary (a : Abl) (c : Cmd) : Abl × Ans :=
  if a.n.primaryUp then (a.returnPrimary, {}) else (a, c.later a.n)

/-- SET_CHILD (R255). (DESIGN CHOICE: log 41.) -/
def Abl.setChild (a : Abl) (c : Cmd) : Abl × Ans :=
  if 32 ≤ c.p 0 1 then (a, Ans.of stBad) else (a.childWrite (c.p 0 1) (ones 128) (c.p 8 16), {})

/-- SET_RING (R431). -/
def Abl.setRing (a : Abl) (c : Cmd) : Abl × Ans :=
  let r := a.ringWrite (c.p 0 16)
  (r.1, if r.2 then {} else Ans.of stBad)

/-- SET_ROLE (R619, R676): with a role and a mounted store, the ports leave DISABLED (R678). -/
def Abl.setRole (a : Abl) (c : Cmd) : Abl × Ans :=
  let role := c.p 0 1
  let strap := a.n.fld Reg.ABL_NODE 0 26 2
  let left := (List.range 24).any fun p => a.n.portState p != lsDisabled
  if left then (a, Ans.of stNotPermitted)
  else if (strap = 1 && role = 1) || (strap = 2 && (role = 2 || role = 3)) then (a.on fun n => (List.range 24).foldl (fun n p => (n.portView p).portCtrl p) (n.setFld Reg.ABL_NODE 0 28 3 role), {})
  else (a, Ans.of stBad)

/-! ## Faults -/

/-- Pass a fault command on to a die's DDU (R620): OK when it is forwarded. (DESIGN CHOICE: log 69.) -/
def Abl.faultTo (a : Abl) (port : Nat) (params : List Nat) : Abl × Ans :=
  if 16 ≤ port || !a.n.childValid port then (a, Ans.of stBad) else (a.on fun n => n.dieCmd port 0x1009 params, {})

/-- FAULT_CLEAR (R471). -/
def Abl.faultClearCmd (a : Abl) (c : Cmd) : Abl × Ans :=
  if c.p 2 1 = 0xFF then (if reservedSrc .abl (c.p 0 2) then (a, Ans.of stBad) else (a.on fun n => n.faultClear (c.p 0 2), {}))
  else a.faultTo (c.p 2 1) ([1, 0] ++ le 2 (c.p 0 2) ++ zeros 8)

/-- What a restored sentinel source returns to service as (R362, R320, R197, R469): a grid core, a match bank, a lane, whose failure history is
cleared and whose count of an episode stays. (DESIGN CHOICE: log 121.)  A child port stays isolated while another of its slots is RETIRED. -/
def Abl.sourceBack (a : Abl) (s slot : Nat) : Abl :=
  if s ≤ 255 then a.coreRestore s
  else if s ≤ 271 then a.bankRestore (s - 256)
  else if s ≤ 295 then
    a.on fun n =>
      let p := s - 272
      let n := n.modLane p (if n.slotted p then slot else 0) fun l => { l with st := lsDisabled, fails := [] }
      (if (n.slotsOf p).any fun k => (n.lane p k).st == lsRetired then n.setArr Reg.ABL_FLT_ISO s true else n).portCtrl p
  else a

/-- RESTORE_SOURCE (R469). -/
def Abl.restoreCmd (a : Abl) (c : Cmd) : Abl × Ans :=
  let s := c.p 0 2
  if c.p 2 1 ≠ 0xFF then a.faultTo (c.p 2 1) ([2, 0] ++ le 2 s ++ zeros 8)
  else if reservedSrc .abl s then (a, Ans.of stBad)
  else if !a.n.arrBit Reg.ABL_FLT_ISO s then (a, {})
  else
    let slot := if s ≤ 295 && 272 ≤ s && a.n.slotted (s - 272) then c.p 3 1 % 4 else 255
    let out (k : Nat) : Bool := (a.n.lane (s - 272) k).st == lsRetired
    if slot ≠ 255 && (List.range 4).any out && !out slot then (a, {})
    else (((a.on fun n => n.restore s slot).sourceBack s slot).dropSource s slot, {})

/-- FAULT_CONFIG (R489). -/
def Abl.faultConfig (a : Abl) (c : Cmd) : Abl × Ans :=
  let s := c.p 0 2
  if c.p 2 1 ≠ 0xFF then a.faultTo (c.p 2 1) ([3, 0] ++ le 2 s ++ le 4 (c.p 4 4) ++ zeros 4)
  else if reservedSrc .abl s then (a, Ans.of stBad)
  else (a.on fun n => n.softWrite Reg.ABL_FLT_CFG s (ones 32) (c.p 4 4), {})

/-- INJECT (R476). -/
def Abl.injectCmd (a : Abl) (c : Cmd) : Abl × Ans :=
  let s := c.p 0 2
  if c.p 2 1 ≠ 0xFF then a.faultTo (c.p 2 1) ([4, 0] ++ le 2 s ++ zeros 4 ++ le 2 (c.p 4 2) ++ [c.p 6 1, 0])
  else
    let bad := reservedSrc .abl s || a.n.arrBit Reg.ABL_FLT_ISO s
    (a.on fun n => n.injWrite (s % 1024 * 2 ^ 48 + c.p 6 1 % 2 * 2 ^ 32 + c.p 4 2), if bad then Ans.of stBad else {})

/-- GATE_FAIL (R279): FAIL on the gate of the group that this node holds, at its home or as a tray's mirror. -/
def Abl.gateFail (a : Abl) (c : Cmd) : Abl × Ans :=
  let epoch := c.p 4 4
  match a.n.groupOf c.jobtag (c.p 0 2) with
  | none => (a, Ans.of stBad)
  | some g =>
    let home := a.n.fld Reg.ABL_GROUP g 160 32 != 0 && a.n.fld Reg.ABL_GROUP g 192 20 == a.n.ident
    let h := if home then a.n.fld Reg.ABL_GROUP g 160 32 else a.n.fld Reg.ABL_GROUP g 128 32
    let o := a.n.obj ((h + epoch % 2) % 8192)
    if h = 0 || o.st ≠ 1 then (a, Ans.of stBad)
    else if o.failed && o.epoch = epoch then (a, {})
    else
      let n := a.n.fwSync 4 { jobtag := c.jobtag, handle := h + epoch % 2, attempt := c.p 8 1, group := c.p 0 2, epoch := epoch }
      (a.on fun _ => n, Ans.of (n.fld Reg.ABL_SYNC_STATUS 0 16 16))

/-! ## The Breakwater governor -/

/-- BW_REPORT (R482, R483). -/
def Abl.bwReportCmd (a : Abl) (c : Cmd) : Abl × Ans :=
  if c.p 4 1 = 0 || 4 < c.p 4 1 then (a, Ans.of stBad) else (a.bwReport (c.p 0 4) (c.p 4 1), {})

/-- BW_OVERRIDE (R483). -/
def Abl.bwOverrideCmd (a : Abl) (c : Cmd) : Abl × Ans :=
  if c.p 4 1 = 0 || 2 < c.p 4 1 then (a, Ans.of stBad)
  else match a.bwOverride (c.p 0 4) (c.p 4 1) with
    | some b => (b, {})
    | none => (a, Ans.of stBad)

/-! ## Jobs and groups -/

/-- Whether ranges are well-formed: FIRST at most LAST, both die indexes (R10). (DESIGN CHOICE: log 48.) -/
def rangesOk (l : List (Nat × Nat)) : Bool := l.all fun r => decide (r.1 ≤ r.2) && decide (r.2 < 2 ^ 17)

/-- Fan-out buffers that are not running (R244). -/
def Abl.freeBufs (a : Abl) : Nat := ((List.range 4).filter fun i => a.n.fld Reg.ABL_RED_FAN_STAT i 62 2 != 1).length

/-- What a command waits for while the fan-out in a buffer is open. -/
def bufKey (i : Nat) : Nat := 0x0600 * 2 ^ 32 + i

/-- Originate fan-outs in order; the command waits for the last (R244). -/
def Abl.fanCommand (a : Abl) (c : Cmd) (ms : List FanMsg) : Abl × Ans :=
  if a.freeBufs < ms.length then (a, c.later a.n)
  else ms.foldl (fun (x : Abl × Ans) m =>
    match x.1.originate { m with seq := x.1.fanSeq m.jobtag } with
    | (b, some i) => (b, { wait := some (bufKey i) })
    | (b, none) => (b, x.2)) (a, {})

/-- JOB_START, without the reserved bits of JFLAGS (R9) (R261, R264): up to 32 ranges to each fan-out, at most four fan-outs. (DESIGN CHOICE: log 48.) -/
def Abl.jobStartCmd (a : Abl) (c : Cmd) : Abl × Ans :=
  let k := c.p 8 2
  let rs := c.pairs 16 k
  let free := (List.range 63).any fun j => 1 ≤ j && a.n.fld Reg.ABL_JOB j 125 3 == 0
  if k = 0 then (a, Ans.of stZero)
  else if c.params.length < 16 + 12 * k || !rangesOk rs then (a, Ans.of stBad)
  else if 128 < k then (a, Ans.of stRefused)
  else if !free then (a, c.later a.n)
  else a.fanCommand c (startMsgs c.jobtag (c.p 0 4 % 64) (c.p 4 4) (rs.mapIdx fun i r => (r.1, r.2, c.p (16 + 8 * k + 4 * i) 4)))

/-- JOB_END (R261). -/
def Abl.jobEndCmd (a : Abl) (c : Cmd) : Abl × Ans :=
  let rs := a.jobRanges c.jobtag
  if 2 < c.p 0 1 || c.jobtag = 0 || rs.isEmpty then (a, Ans.of stBad)
  else a.fanCommand c ((List.range ((rs.length + 31) / 32)).map fun i =>
    { jobtag := c.jobtag, seq := 0, kind := 2, deadline := 0, ranges := (rs.drop (32 * i)).take 32, body := le 4 (c.p 0 1) ++ zeros 4 })

/-- The gate pair of a VERDICT group at its home (R267, R276): two ACTIVE gates, armed as a tray arms its mirror pair. (DESIGN CHOICE: log 46.) -/
def Abl.homePair (a : Abl) (tag base target : Nat) : Abl :=
  let first := match a.n.jobSlot tag with | some j => a.n.fld Reg.ABL_JOB j 64 32 | none => 0
  let prior := (first + 2 ^ 32 - 1) % 2 ^ 32
  [0, 1].foldl (fun (a : Abl) i => a.on fun n => n.setObj {
    num := base + i, st := 1, kind := 1, jobtag := tag, target := target, armed := true, epoch := if i = first % 2 then first else prior,
    reached := i != first % 2, value := if i = first % 2 then 0 else target }) a

/-- GROUP_REGISTER (R266, R267): this node becomes the home. (DESIGN CHOICE: log 48.) -/
def Abl.groupRegisterCmd (a : Abl) (c : Cmd) : Abl × Ans :=
  let gid := c.p 0 2
  let k := c.p 4 2
  let rs := c.pairs 8 k
  let verdict := bit (c.p 2 2) 0
  if gid = 0 || gid = 0xFFFE || gid = 0xFFFF || c.jobtag = 0 then (a, Ans.of stBad)
  else if k = 0 then (a, Ans.of stZero)
  else if 32 < k || c.params.length < 8 + 8 * k || !rangesOk rs then (a, Ans.of stBad)
  else if a.freeBufs = 0 then (a, c.later a.n)
  else if (a.guardLeft gid).isSome then (a, { status := stBusy, hint := ((a.guardLeft gid).getD 0 + 999) / 1000 })
  else
    let msg (gate : Nat) : FanMsg :=
      { jobtag := c.jobtag, seq := 0, kind := 3, deadline := 0, ranges := rs, body := le 2 gid ++ le 2 (c.p 2 2 % 2) ++ le 4 gate ++ zeros 8 }
    if verdict && !a.n.syncOn then (a, Ans.of stBusy)
    else if verdict then
      match a.n.freeTwo with
      | none => (a, Ans.of stRefused)
      | some base => (a.homePair c.jobtag base (a.fanExpected (msg 0))).fanCommand c [msg (jobGen c.jobtag * 65536 + base)]
    else a.fanCommand c [msg 0]

/-- GROUP_RELEASE (R261, R260): the response carries no data. (DESIGN CHOICE: log 48.) -/
def Abl.groupReleaseCmd (a : Abl) (c : Cmd) : Abl × Ans :=
  match a.n.groupOf c.jobtag (c.p 0 2) with
  | none => (a, Ans.of stBad)
  | some g =>
    let rs := lookupD a.groupRanges g []
    if a.freeBufs = 0 then (a, c.later a.n)
    else
      let gate := a.n.fld Reg.ABL_GROUP g 160 32
      let home := gate != 0 && a.n.fld Reg.ABL_GROUP g 192 20 == a.n.ident
      let a := if home then a.on fun n => [0, 1].foldl (fun (n : Node) i => n.fwSync 6 { handle := gate + i }) n else a
      ((a.originate { jobtag := c.jobtag, seq := a.fanSeq c.jobtag, kind := 4, deadline := 0, ranges := rs,
                      body := le 2 (c.p 0 2) ++ zeros 6 }).1, {})

/-- RANKMAP_LOAD (R265). (DESIGN CHOICE: log 48.) -/
def Abl.rankmapLoad (a : Abl) (c : Cmd) : Abl × Ans :=
  let k := c.p 0 2
  let job (v : Nat) : Nat := bits v 112 6
  let cnt (v : Nat) : Nat := bits v 64 18
  let apart (x y kx ky : Nat) : Bool := decide (x + kx ≤ y) || decide (y + ky ≤ x)
  let clash (v w : Nat) : Bool :=
    job v == job w && !((apart (bits v 0 17) (bits w 0 17) (cnt v) (cnt w)) && (apart (bits v 32 17) (bits w 32 17) (cnt v) (cnt w)))
  let held := (List.range 1024).filter fun i => a.n.bit Reg.ABL_RANKMAP i 127
  let free := (List.range 1024).filter fun i => !a.n.bit Reg.ABL_RANKMAP i 127
  let new := ((List.range k).map fun i => c.p (8 + 16 * i) 16).filter fun v => bit v 127
  if k = 0 then (a, Ans.of stZero)
  else if c.params.length < 8 + 16 * k then (a, Ans.of stBad)
  else if new.any fun v => job v = 0 || job v = 63 || a.n.fld Reg.ABL_JOB (job v) 125 3 == 0 then (a, Ans.of stBad)
  else
    let all := (held.map fun i => a.n.rd Reg.ABL_RANKMAP i) ++ new
    let bad := (new.mapIdx fun i v => (all.mapIdx fun j w => j != held.length + i && cnt v != 0 && cnt w != 0 && clash v w).any id).any id
    if bad then (a, Ans.of stBad)
    else if free.length < new.length then (a, Ans.of stRefused)
    else (a.on fun n => (free.zip new).foldl (fun (n : Node) x => n.softWrite Reg.ABL_RANKMAP x.1 (ones 128) x.2) n, {})

/-- MET_LOAD (R224, R229, R230). -/
def Abl.metLoad (a : Abl) (c : Cmd) : Abl × Ans :=
  if 4096 ≤ c.p 0 2 then (a, Ans.of stBad)
  else
    let r := a.metSet (c.p 0 2) (c.p 8 16)
    (r.1, if r.2 then {} else Ans.of stRefused)

/-- USCH_SET (R252, R253): the spec does not say what tells a port from a job slot. (DESIGN CHOICE: log 44.) -/
def Abl.uschSet (a : Abl) (c : Cmd) : Abl × Ans :=
  let k := c.p 0 1
  let v := c.p 8 8
  if Config.uschPort k v then
    if 8 ≤ k then (a, Ans.of stBad) else (a.on fun n => n.softWrite Reg.ABL_USCH_PORT k (ones 64) v, {})
  else if 64 ≤ k then (a, Ans.of stBad)
  else (a.on fun n => n.uschJob k v, {})

/-! ## Loads -/

/-- A load by data reference (R615): `go` starts it with the bytes, `key` is what the command waits for. (DESIGN CHOICE: log 85.) -/
def Abl.loadRef (a : Abl) (c : Cmd) (host : Option (List Nat)) (bytes : StageX → List Nat) (key : Nat)
    (go : Abl → List Nat → Abl × Option Nat) : Abl × Ans :=
  match a.refBytes c.path ((c.params.drop 8).take 24) host bytes with
  | .error st => (a, Ans.of st)
  | .ok (b, _) =>
    match go a b with
    | (a, some st) => (a, Ans.of st)
    | (a, none) => (a, { wait := some key })

/-- MODEL_LOAD (R317, R319). -/
def Abl.modelLoadCmd (a : Abl) (c : Cmd) (host : Option (List Nat)) (bytes : StageX → List Nat) : Abl × Ans :=
  if 64 ≤ c.p 0 1 then (a, Ans.of stBad)
  else a.loadRef c host bytes (0x0701 * 2 ^ 32 + c.p 0 1) fun a b => a.modelLoad (c.p 0 1) b b.length

/-- MODEL_UNLOAD (R319). -/
def Abl.modelUnloadCmd (a : Abl) (c : Cmd) : Abl × Ans :=
  if 64 ≤ c.p 0 1 then (a, Ans.of stBad)
  else match a.modelUnload (c.p 0 1) with
    | (a, some st) => (a, Ans.of st)
    | (a, none) => (a, { wait := some (0x0702 * 2 ^ 32 + c.p 0 1) })

/-- MODEL_BIND (R309, R312, R313). -/
def Abl.modelBindCmd (a : Abl) (c : Cmd) : Abl × Ans :=
  if 128 ≤ c.p 0 1 then (a, Ans.of stBad)
  else let r := a.bindWrite (c.p 0 1) (c.p 8 16); (r.1, Ans.of r.2)

/-- PROG_LOAD (R361, R362). -/
def Abl.progLoadCmd (a : Abl) (c : Cmd) (host : Option (List Nat)) (bytes : StageX → List Nat) : Abl × Ans :=
  if 64 ≤ c.p 0 1 then (a, Ans.of stBad)
  else a.loadRef c host bytes (0x0801 * 2 ^ 32 + c.p 0 1) fun a b => a.progLoad (c.p 0 1) b b.length

/-- PROG_UNLOAD (R362). -/
def Abl.progUnloadCmd (a : Abl) (c : Cmd) : Abl × Ans :=
  if 64 ≤ c.p 0 1 then (a, Ans.of stBad)
  else match a.progUnload (c.p 0 1) with
    | (a, some st) => (a, Ans.of st)
    | (a, none) => (a, { wait := some (0x0802 * 2 ^ 32 + c.p 0 1) })

/-- CTX_BIND (R363). -/
def Abl.ctxBindCmd (a : Abl) (c : Cmd) : Abl × Ans :=
  if 32 ≤ c.p 0 1 || 64 ≤ c.p 2 1 then (a, Ans.of stBad)
  else let r := a.ctxBind (c.p 0 1) (c.p 1 1) (c.p 2 1) (c.p 4 2) (c.p 6 2) c.jobtag; (r.1, Ans.of r.2)

/-- CTX_UNBIND (R364). -/
def Abl.ctxUnbindCmd (a : Abl) (c : Cmd) : Abl × Ans :=
  if 32 ≤ c.p 0 1 then (a, Ans.of stBad)
  else match a.ctxUnbind (c.p 0 1) with
    | (a, some st) => (a, Ans.of st)
    | (a, none) => (a, { wait := some (0x0804 * 2 ^ 32 + c.p 0 1) })

/-- The answer of an operation's start: its handle, or BUSY with a hint. -/
def started (c : Cmd) (r : Abl × Nat × Nat) : Abl × Ans :=
  (r.1, if r.2.1 = stBusy then c.later r.1.n else { status := r.2.1, handle := r.2.2 })

/-- GRID_SWEEP (R619). -/
def Abl.gridSweep (a : Abl) (c : Cmd) : Abl × Ans := started c (a.sweepStart c.path (c.p 0 1))

/-- VERDICT_CONFIG (R420, R421). -/
def Abl.verdictConfig (a : Abl) (c : Cmd) : Abl × Ans :=
  (a.on fun n => (((n.softWrite Reg.ABL_VER_CTRL 0 (ones 32) (c.p 0 4)).softWrite Reg.ABL_VER_WAIT_US 0 (ones 32) (c.p 4 4)).softWrite
    Reg.ABL_VER_HIST_CFG 0 (ones 32) (c.p 8 4)).softWrite Reg.ABL_VER_OBS_CFG 0 (ones 32) (c.p 12 4), {})

/-- CAMPAIGN_START (R411). -/
def Abl.campaignCmd (a : Abl) (c : Cmd) : Abl × Ans := started c (a.campStart c.path c.jobtag c.params)

/-- SEC_POLICY (R429, R430, R456): the METHOD of TENSOR_ID t in bits [2t+1:2t]. (DESIGN CHOICE: log 65.) -/
def Abl.secPolicy (a : Abl) (c : Cmd) : Abl × Ans :=
  if c.jobtag = 0 then (a, Ans.of stBad)
  else
    let ms := (List.range 240).map fun t => bits (c.p (t / 4) 1) (2 * (t % 4)) 2
    let a := a.putRoot { a.root c.jobtag with policy := ms, compress := bit (c.p 60 1) 0 }
    (a.on fun n => (((n.setB Reg.ABL_SEC_CTRL 0 1 (Machine.bit (c.p 60 1) 0)).policyWrite (c.p 64 4)).wr Reg.ABL_SEC_CUT_MIN_MS 0 (c.p 68 4)).wr
      Reg.ABL_SEC_PASS_LIMIT_MS 0 (c.p 72 4), {})

/-- RESTORE (R441). -/
def Abl.restoreJob (a : Abl) (c : Cmd) : Abl × Ans := started c (a.restoreStart c.path c.jobtag c.params)

/-- LEDGER_COMPACT (R517, R518): BUSY while a pass runs or waits. (DESIGN CHOICE: log 85.) -/
def Abl.compactCmd (a : Abl) (c : Cmd) : Abl × Ans :=
  if a.hist.pass.isSome || a.hist.passDue.isSome then (a, c.later a.n)
  else match a.n.opStart 4 c.path 0 with
    | (none, n) => ({ a with n := n }, Ans.busy (a.n.opHint))
    | (some h, n) =>
      let a : Abl := { a with n := match n.op h with | some o => n.opNote o 0 | none => n }
      ((a.onHist fun x => { x with passDue := some h }).compactStart, { handle := h })

/-- LEDGER_FORMAT_COMMIT (R526): OK with no change outside probation. -/
def Abl.formatCommit (a : Abl) : Abl × Ans := (if a.hist.probation = 0 then a else a.probationEnd, {})

/-- TRACE_TRIGGER (R138). -/
def Abl.traceTrigger (a : Abl) (c : Cmd) : Abl × Ans :=
  if 16 ≤ c.p 0 1 || !a.n.childValid (c.p 0 1) then (a, Ans.of stBad)
  else (a.on fun n => n.dieCmd (c.p 0 1) 0x100B [1], {})

/-! ## Security -/

/-- LIFECYCLE_SET and FW_UPDATE serve one row for each op: whether a command is the one of the row. -/
def lcOp (c : Cmd) (op : Nat) : Bool := c.code != 0x0D05 || c.p 0 1 == op

/-- FW_UPDATE with a target below 128 and FW_COMMIT share one code (R651, R654). -/
def fwRow (c : Cmd) (commit : Bool) : Bool := c.code != 0x0E01 || (decide (128 ≤ c.p 0 1) == commit)

/-- FW_UPDATE and FW_COMMIT (R651, R654). -/
def Abl.fwCmd (a : Abl) (c : Cmd) (host : Option (List Nat)) (bytes : StageX → List Nat) : Abl × Ans :=
  a.fwUpdate c (a.refBytes c.path ((c.params.drop 8).take 24) host bytes)

end Sys2Proof.Machine
end

