-- ==== Sys2Proof/Machine/Mailbox.lean ====
section
/-!
DEFINITION. The commands of chapter 17 that post, signal and expire, and those of the catalogue that every path has: negotiation, long operations, events and
staged objects.
-/

namespace Sys2Proof.Machine

/-- A command of the catalogue that the sentinel serves. -/
def ablCmd (s : State) (c : Cmd) (code : Nat) (f : Abl → Abl × Ans) : Res := onAbl s fun a => a.serve c code f

/-- A command of the catalogue that the DDU serves. -/
def dduCmd (s : State) (c : Cmd) (code : Nat) (f : Ddu → Ddu × Ans) : Res := onDdu s fun d => d.serve c code f

/-- A command of the catalogue that the device of its path serves. -/
def bothCmd (s : State) (c : Cmd) (code : Nat) (f : Node → Node × Ans) : Res :=
  onNode (pathDev c.path) s fun n => n.serve c code f

/-- The bytes of a staged object as the memory holds them. -/
def stagedBytes (s : State) (x : StageX) : List Nat := Cells.load s.mem x.addr x.len fun i => Config.freeNat (s.free + i)

/-- MAILBOX_POST (R593, R598). -/
def execMailboxPost (c : Cmd) (s : State) : Res :=
  match pathDev c.path with
  | .abl => onAbl s fun a => a.postCmd c
  | .ddu => onDdu s fun d => d.postCmd c

/-- COMMAND_DATAGRAM (R621, R622). -/
def execCommandDatagram (port peer seq : Word) (c : Cmd) (s : State) : Res := onAbl s fun a => a.datagram port peer seq c

/-- EVENT_WRITE (R611, R612): on path 0 to 2 of the sentinel, or path 3 of the DDU. -/
def execEventWrite (path : Word) (r : Record) (s : State) : Res :=
  if path = 3 then onDdu s fun d => d.on fun n => n.event r
  else match eventClass r.typ r.code with
    | some k => onAbl s fun a => a.on fun n => n.eventOn path k (evSrc .abl) r
    | none => onAbl s fun a => a

/-- EVENT_RD_WRITE (R612). -/
def execEventRdWrite (path v : Word) (s : State) : Res := onAbl s fun a => a.on fun n => n.evRead path v

/-- EVENT_RESEND (R613). -/
def execEventResend (s : State) : Res := onAbl s fun a => a.on Node.evResend

/-- STAGE_IDLE_FREE (R615). -/
def execStageIdleFree (s : State) : Res := onAbl s Abl.stageIdle

/-- HANDLE_GUARD_EXPIRY (R616). -/
def execHandleGuardExpiry (slot : Word) (s : State) : Res := onAbl s fun a => a.on fun n => n.opGuard slot

/-- REVERSE_TIMEOUT (R620). -/
def execReverseTimeout (s : State) : Res := onDdu s Ddu.revTimeout

/-- HELLO (R605, R606, R607). -/
def execHello (c : Cmd) (s : State) : Res := bothCmd s c 0x0001 fun n => n.hello c

/-- FENCE (R604): it completes once it may start. -/
def execFence (c : Cmd) (s : State) : Res := bothCmd s c 0x0002 fun n => (n, if 3 < c.p 0 1 then Ans.of stBad else {})

/-- OP_QUERY (R617, R619). -/
def execOpQuery (c : Cmd) (s : State) : Res := bothCmd s c 0x0003 fun n => (n, n.opQuery c)

/-- OP_SUSPEND, OP_RESUME and OP_CANCEL on the device of the path (R618). (DEDUCED: log 96.) -/
def opRow (c : Cmd) (code what : Nat) (s : State) : Res :=
  match pathDev c.path with
  | .abl => ablCmd s c code fun a => a.opCommand c what
  | .ddu => dduCmd s c code fun d => d.opCommand c what

/-- OP_SUSPEND (R618). -/
def execOpSuspend (c : Cmd) (s : State) : Res := opRow c 0x0004 0 s

/-- OP_RESUME (R618). -/
def execOpResume (c : Cmd) (s : State) : Res := opRow c 0x0005 1 s

/-- OP_CANCEL (R618). -/
def execOpCancel (c : Cmd) (s : State) : Res := opRow c 0x0006 2 s

/-- EVENT_ACK (R613). -/
def execEventAck (c : Cmd) (s : State) : Res := ablCmd s c 0x0007 fun a => let r := a.n.evAck c; (a.on fun _ => r.1, r.2)

/-- GET_INFO (R619). -/
def execGetInfo (c : Cmd) (s : State) : Res := bothCmd s c 0x0008 fun n => (n, n.getInfo c)

/-- STAGE_OPEN (R615). -/
def execStageOpen (c : Cmd) (s : State) : Res := ablCmd s c 0x0010 fun a => a.stageOpen c

/-- STAGE_WRITE (R615). -/
def execStageWrite (c : Cmd) (s : State) : Res := ablCmd s c 0x0011 fun a => a.stageWrite c

/-- STAGE_CLOSE (R615). -/
def execStageClose (c : Cmd) (s : State) : Res := ablCmd s c 0x0012 fun a => a.stageClose c (stagedBytes s)

/-- STAGE_READ (R619). -/
def execStageRead (c : Cmd) (s : State) : Res := ablCmd s c 0x0013 fun a => a.stageRead c (stagedBytes s)

/-- STAGE_FREE (R615, R619). -/
def execStageFree (c : Cmd) (s : State) : Res := ablCmd s c 0x0014 fun a => a.stageDrop c


end Sys2Proof.Machine
end

