-- ==== Sys2Proof/Machine/Control.lean ====
section
/-!
DEFINITION. Catalogue commands of R619: time, power, tree, faults and the Breakwater governor.
-/

namespace Sys2Proof.Machine

/-- TIME_CONFIG (R154, R182). -/
def execTimeConfig (c : Cmd) (s : State) : Res := ablCmd s c 0x0101 fun a => a.timeConfig c

/-- TIME_ACCEPT_JUMP (R169). -/
def execTimeAcceptJump (c : Cmd) (s : State) : Res := ablCmd s c 0x0102 fun a => a.timeAccept

/-- SNAP_AT (R172, R174, R175). -/
def execSnapAt (c : Cmd) (s : State) : Res := ablCmd s c 0x0103 fun a => a.snapAt c

/-- PPS_CONFIG (R176, R177). -/
def execPpsConfig (c : Cmd) (s : State) : Res := ablCmd s c 0x0104 fun a => a.ppsConfig c

/-- SET_TRAY_BUDGET (R545). -/
def execSetTrayBudget (c : Cmd) (s : State) : Res := ablCmd s c 0x0201 fun a => a.setBudget c

/-- SET_POWER_STATE (R538). -/
def execSetPowerState (c : Cmd) (s : State) : Res := ablCmd s c 0x0202 fun a => a.setPower c

/-- SET_SELF_LIMITS (R564). -/
def execSetSelfLimits (c : Cmd) (s : State) : Res := ablCmd s c 0x0203 fun a => a.setLimits c

/-- SET_PARENTS (R30). -/
def execSetParents (c : Cmd) (s : State) : Res := ablCmd s c 0x0301 fun a => a.setParents c

/-- RETURN_TO_PRIMARY (R36). -/
def execReturnToPrimary (c : Cmd) (s : State) : Res := ablCmd s c 0x0302 fun a => a.toPrimary c

/-- SET_CHILD (R255). -/
def execSetChild (c : Cmd) (s : State) : Res := ablCmd s c 0x0303 fun a => a.setChild c

/-- SET_RING (R431). -/
def execSetRing (c : Cmd) (s : State) : Res := ablCmd s c 0x0304 fun a => a.setRing c

/-- SET_ROLE (R676). -/
def execSetRole (c : Cmd) (s : State) : Res := ablCmd s c 0x0305 fun a => a.setRole c

/-- FAULT_CLEAR (R471). -/
def execFaultClear (c : Cmd) (s : State) : Res := ablCmd s c 0x0401 fun a => a.faultClearCmd c

/-- RESTORE_SOURCE (R469). -/
def execRestoreSource (c : Cmd) (s : State) : Res := ablCmd s c 0x0402 fun a => a.restoreCmd c

/-- FAULT_CONFIG (R489). -/
def execFaultConfig (c : Cmd) (s : State) : Res := ablCmd s c 0x0403 fun a => a.faultConfig c

/-- INJECT (R476). -/
def execInject (c : Cmd) (s : State) : Res := ablCmd s c 0x0404 fun a => a.injectCmd c

/-- GATE_FAIL (R279). -/
def execGateFail (c : Cmd) (s : State) : Res := ablCmd s c 0x0405 fun a => a.gateFail c

/-- BW_CONFIG (R480). -/
def execBwConfig (c : Cmd) (s : State) : Res := ablCmd s c 0x0501 fun a => (a.bwConfig (c.p 0 4) (c.p 4 2) (c.p 6 2), {})

/-- BW_REPORT (R482, R483). -/
def execBwReport (c : Cmd) (s : State) : Res := ablCmd s c 0x0502 fun a => a.bwReportCmd c

/-- BW_OVERRIDE (R483). -/
def execBwOverride (c : Cmd) (s : State) : Res := ablCmd s c 0x0503 fun a => a.bwOverrideCmd c


end Sys2Proof.Machine
end

