-- ==== Sys2Proof/Machine/DieOps.lean ====
section
/-!
DEFINITION. What the commands of R620 do at the DDU.
-/

namespace Sys2Proof.Machine

/-- The bytes of parameters [o, o + k). -/
def paramBytes (c : Cmd) (o k : Nat) : List Nat := padTo k ((c.params.drop o).take k)

/-- DIE_IDENT (R194): DIE_INDEX with VALID, and the three fallback peers. (DEDUCED: log 96.) -/
def Ddu.identCmd (d : Ddu) (c : Cmd) : Ddu × Ans :=
  let d := d.wr Reg.DDU_DIE_INDEX 0 (2 ^ 31 + c.p 0 4 % 2 ^ 17)
  ([0, 1, 2].foldl (fun d i => d.wr Reg.DDU_LNK_FB_PEER i (c.p (8 + 8 * i) 8)) d, {})

/-- DIE_REG_WRITE (R620): the entries in their order. (DEDUCED: log 96.) -/
def Ddu.regWriteCmd (d : Ddu) (c : Cmd) : Ddu × Ans :=
  let k := c.p 0 2
  if k = 0 then (d, Ans.of stZero)
  else if 120 < k || c.params.length < 16 + 16 * k then (d, Ans.of stBad)
  else ((List.range k).foldl (fun d i => d.entryWrite (c.p (16 + 16 * i) 4) (c.p (20 + 16 * i) 4) (c.p (24 + 16 * i) 8)) d, {})

/-- DIE_CAP (R548, R560): the cap, the external floors and the setpoint.  Its completion is the acknowledgement. -/
def Ddu.capCmd (d : Ddu) (c : Cmd) : Ddu × Ans :=
  ((((d.newCap (c.p 0 2)).wr Reg.DDU_PWR_EXT 0 (c.p 4 4)).wr Reg.DDU_PWR_VSET 0 (c.p 8 2)).regRequest, {})

/-- DIE_SLACK (R543): BUSY where Slack is not permitted. -/
def Ddu.slackCmd (d : Ddu) (c : Cmd) : Ddu × Ans :=
  if d.slackMay then (d.toSlack 1, {}) else (d, c.later d.n)

/-- DIE_SUSPECT (R387). -/
def Ddu.suspectCmd (d : Ddu) (c : Cmd) : Ddu × Ans :=
  ((List.range 16).foldl (fun d w => d.wr Reg.DDU_SUSPECT_NEXT w (c.p (4 * w) 4)) d, {})

/-- DIE_PROFILE (R92): only for the die's JobTag. (DESIGN CHOICE: log 88.) -/
def Ddu.profileCmd (d : Ddu) (c : Cmd) : Ddu × Ans :=
  if bit (c.p 0 1) 0 then
    if c.p 4 4 = 0 || c.p 4 4 ≠ d.jobTag then (d, Ans.of stBad) else (d.wr Reg.DDU_PROF_CTRL 0 (c.p 4 4 * 2 ^ 32 + 1), {})
  else (d.profClear, {})

/-- DIE_SEC_CUT (R429). (DESIGN CHOICE: log 66.) -/
def Ddu.secCutCmd (d : Ddu) (c : Cmd) : Ddu × Ans :=
  (d.secCutSet (c.p 0 4) (c.p 4 4) ((List.range 240).filter fun t => bit (c.p (8 + t / 8) 1) (t % 8)), {})

/-- DIE_SEC_COMMIT (R438). -/
def Ddu.secCommitCmd (d : Ddu) (c : Cmd) : Ddu × Ans :=
  let k := c.p 0 2
  if k = 0 then (d, Ans.of stZero)
  else if 240 < k || c.params.length < 8 + 8 * k then (d, Ans.of stBad)
  else (d.secCommit ((List.range k).map fun i => (c.p (8 + 8 * i) 4, c.p (12 + 8 * i) 4)), {})

/-! ## DIE_FAULT -/

/-- A retired sensor channel of the DDU, 1000 the regulator path, 1001 the lane, returns to service (R469, R200). (DESIGN CHOICE: log 97.) -/
def Ddu.chanBack (d : Ddu) (ch : Nat) : Ddu :=
  let d := d.on fun n => (n.setChan { src := ch, since := n.local }).emit 0 1 0x1A 0x0004 (dduChanUnit ch) (le 2 (dduChanUnit ch) ++ [2] ++ zeros 5)
  let d :=
    if ch < 152 then d.sensBack ch
    else if ch = 1001 then d.on fun n => (n.modLane 0 0 fun l => { l with st := lsDisabled, fails := [] }).portCtrl 0
    else d
  d.ledChan ch false

/-- The retired channels that a unit owns (R463). -/
def Ddu.retiredOf (d : Ddu) (u : Nat) : List Nat :=
  if u = 497 then (List.range 152).filter fun ch => (d.n.chan ch 255).st == 3
  else if u = 501 then (if (d.n.chan 1000 255).st = 3 then [1000] else [])
  else if u = 503 then (if (d.n.chan 1001 255).st = 3 || (d.n.lane 0 0).st = lsRetired then [1001] else [])
  else []

/-- DIE_FAULT op 2 (R469). (DESIGN CHOICE: log 97.) -/
def Ddu.unitBack (d : Ddu) (u : Nat) : Ddu :=
  let d := if d.n.arrBit Reg.DDU_FLT_ISO u then (d.on fun n => n.restore u 255).ledIsolate u false else d
  (d.retiredOf u).foldl Ddu.chanBack d

/-- DIE_FAULT (R620): op 1 clear, 2 restore, 3 configure, 4 inject. -/
def Ddu.faultCmd (d : Ddu) (c : Cmd) : Ddu × Ans :=
  let u := c.p 2 2
  if reservedSrc .ddu u then (d, Ans.of stBad)
  else match c.p 0 1 with
    | 1 => (d.on fun n => n.faultClear u, {})
    | 2 => (d.unitBack u, {})
    | 3 => (d.on fun n => n.softWrite Reg.DDU_FLT_CFG u (ones 32) (c.p 4 4), {})
    | 4 => (d.on fun n => n.injWrite (u * 2 ^ 48 + c.p 10 1 % 2 * 2 ^ 32 + c.p 8 2), if d.n.arrBit Reg.DDU_FLT_ISO u then Ans.of stBad else {})
    | _ => (d, Ans.of stBad)

/-! ## DIE_LEDGER -/

/-- A section of R492 as it reads: HEADER is that of the current half. -/
def Ddu.ledSection (d : Ddu) (k : Nat) : List Nat :=
  if k = 0 then (match d.led.half d.dlHalf with | some x => x.header d.dlHalf | none => zeros 256) else d.led.image.section_ k

/-- DIE_LEDGER (R520, R522): op 1 reads, op 2 writes; HEADER is not written. (DESIGN CHOICE: log 71.) (DESIGN CHOICE: log 88.) -/
def Ddu.ledgerCmd (d : Ddu) (c : Cmd) : Ddu × Ans :=
  let k := c.p 2 2
  let off := c.p 4 4
  let len := c.p 8 2
  let b := d.ledSection k
  if 1968 < len || b.length < off + len || 5 < k then (d, Ans.of stBad)
  else if len = 0 then (d, Ans.of stZero)
  else match c.p 0 1 with
    | 1 => (d, { data := (b.drop off).take len })
    | 2 =>
      if k = 0 || c.params.length < 16 + len then (d, Ans.of stBad)
      else if !d.dlWrites then (d, Ans.of stRefused)
      else (d.ledWrite k off (paramBytes c 16 len), {})
    | _ => (d, Ans.of stBad)

/-! ## DIE_TRACE -/

/-- DIE_TRACE (R138, R139): op 1 fires SENTINEL, 2 starts an export, 3 to 5 suspend, resume and cancel it. (DESIGN CHOICE: log 88.) -/
def Ddu.traceCmd (d : Ddu) (c : Cmd) : Ddu × Ans :=
  let setExp (x : Option TraceExport) : Ddu := { d with trc := { d.trc with exp := x } }
  match c.p 0 1, d.trc.exp with
  | 1, _ => (d.trcFire 5 0, {})
  | 2, some _ => (d, c.later d.n)
  | 2, none => (d.exportStart (c.p 1 4), {})
  | 3, some x => (setExp (some { x with suspended := true }), {})
  | 4, some x => (setExp (some { x with suspended := false }), {})
  | 5, some _ => (setExp none, {})
  | 3, none | 4, none | 5, none => (d, Ans.of stStale)
  | _, _ => (d, Ans.of stBad)

/-! ## Requests to the host -/

/-- DIE_REPEAT (R408, R620): through the reverse mailbox, at once when it is free. -/
def Ddu.repeatCmd (d : Ddu) (c : Cmd) : Ddu × Ans := (d.revPost 0x1101 (repeatParams c.params), { wait := some (revKey 0x1101) })

/-- DIE_CAMPAIGN (R413, R620): the target cell, or 0xFF to stop; the pattern follows through the reverse mailbox. -/
def Ddu.campaignCmd (d : Ddu) (c : Cmd) : Ddu × Ans :=
  let h := c.p 0 4
  let cell := c.p 4 1
  let d : Ddu := { d with pattern := if cell = 0xFF then none else some (h, cell) }
  (d.revPost 0x1102 ([if cell = 0xFF then 0 else Config.pattern h cell % 16, 0, 0, 0] ++ le 4 h), { wait := some (revKey 0x1102) })

/-- DIE_QUERY (R620). -/
def Ddu.queryCmd (d : Ddu) : Ddu × Ans :=
  (d, { data := le 4 (d.rd Reg.DDU_JOB_STATE) ++ le 4 (d.rd Reg.DDU_PWR_STATE) ++ le 4 (d.rd Reg.DDU_PWR_REASONS) ++ le 4 (d.rd Reg.DDU_DL_STATUS) })

end Sys2Proof.Machine
end

