-- ==== Sys2Proof/Machine/DieCmds.lean ====
section
/-!
DEFINITION. The DDU's commands of R620, and its requests to host software.
-/

namespace Sys2Proof.Machine

/-- DIE_IDENT (R194). -/
def execDieIdent (c : Cmd) (s : State) : Res := dduCmd s c 0x1001 fun d => d.identCmd c

/-- DIE_REG_WRITE (R620). -/
def execDieRegWrite (c : Cmd) (s : State) : Res := dduCmd s c 0x1002 fun d => d.regWriteCmd c

/-- DIE_CAP (R548, R560). -/
def execDieCap (c : Cmd) (s : State) : Res := dduCmd s c 0x1003 fun d => d.capCmd c

/-- DIE_SLACK (R543). -/
def execDieSlack (c : Cmd) (s : State) : Res := dduCmd s c 0x1004 fun d => d.slackCmd c

/-- DIE_SUSPECT (R387). -/
def execDieSuspect (c : Cmd) (s : State) : Res := dduCmd s c 0x1005 fun d => d.suspectCmd c

/-- DIE_PROFILE (R92). -/
def execDieProfile (c : Cmd) (s : State) : Res := dduCmd s c 0x1006 fun d => d.profileCmd c

/-- DIE_SEC_CUT (R429). -/
def execDieSecCut (c : Cmd) (s : State) : Res := dduCmd s c 0x1007 fun d => d.secCutCmd c

/-- DIE_SEC_COMMIT (R438). -/
def execDieSecCommit (c : Cmd) (s : State) : Res := dduCmd s c 0x1008 fun d => d.secCommitCmd c

/-- DIE_FAULT, DIE_LEDGER or DIE_TRACE with one op: another op is another row's. (DEDUCED: log 96.) -/
def dieOpCmd (s : State) (c : Cmd) (code op : Nat) (f : Ddu → Ddu × Ans) : Res :=
  if c.code = code && c.p 0 1 ≠ op then onDdu s fun d => d else dduCmd s c code f

/-- DIE_FAULT_CLEAR (R471). -/
def execDieFaultClear (c : Cmd) (s : State) : Res := dieOpCmd s c 0x1009 1 fun d => d.faultCmd c

/-- DIE_FAULT_RESTORE (R469). -/
def execDieFaultRestore (c : Cmd) (s : State) : Res := dieOpCmd s c 0x1009 2 fun d => d.faultCmd c

/-- DIE_FAULT_CONFIGURE (R489). -/
def execDieFaultConfigure (c : Cmd) (s : State) : Res := dieOpCmd s c 0x1009 3 fun d => d.faultCmd c

/-- DIE_FAULT_INJECT (R476). -/
def execDieFaultInject (c : Cmd) (s : State) : Res := dieOpCmd s c 0x1009 4 fun d => d.faultCmd c

/-- DIE_LEDGER_READ (R520). -/
def execDieLedgerRead (c : Cmd) (s : State) : Res := dieOpCmd s c 0x100A 1 fun d => d.ledgerCmd c

/-- DIE_LEDGER_WRITE (R522). -/
def execDieLedgerWrite (c : Cmd) (s : State) : Res := dieOpCmd s c 0x100A 2 fun d => d.ledgerCmd c

/-- DIE_TRACE_TRIGGER (R138). -/
def execDieTraceTrigger (c : Cmd) (s : State) : Res := dieOpCmd s c 0x100B 1 fun d => d.traceCmd c

/-- DIE_TRACE_EXPORT_START (R139). -/
def execDieTraceExportStart (c : Cmd) (s : State) : Res := dieOpCmd s c 0x100B 2 fun d => d.traceCmd c

/-- DIE_TRACE_EXPORT_SUSPEND (R139). -/
def execDieTraceExportSuspend (c : Cmd) (s : State) : Res := dieOpCmd s c 0x100B 3 fun d => d.traceCmd c

/-- DIE_TRACE_EXPORT_RESUME (R139). -/
def execDieTraceExportResume (c : Cmd) (s : State) : Res := dieOpCmd s c 0x100B 4 fun d => d.traceCmd c

/-- DIE_TRACE_EXPORT_CANCEL (R139). -/
def execDieTraceExportCancel (c : Cmd) (s : State) : Res := dieOpCmd s c 0x100B 5 fun d => d.traceCmd c

/-- DIE_REPEAT (R408). -/
def execDieRepeat (c : Cmd) (s : State) : Res := dduCmd s c 0x100C fun d => d.repeatCmd c

/-- DIE_CAMPAIGN (R413). -/
def execDieCampaign (c : Cmd) (s : State) : Res := dduCmd s c 0x100D fun d => d.campaignCmd c

/-- HOST_REPEAT_TILE (R408, R620). -/
def execHostRepeatTile (s : State) : Res := onDdu s Ddu.hostRepeat

/-- HOST_SET_PATTERN (R413, R620). -/
def execHostSetPattern (intensity : Word) (s : State) : Res := onDdu s fun d => d.hostPattern intensity

/-- REVERSE_MAILBOX_COMPLETE (R620). -/
def execReverseMailboxComplete (status : Word) (data : List Byte) (s : State) : Res := onDdu s fun d => d.revDone status data

/-- DIE_QUERY (R620). -/
def execDieQuery (c : Cmd) (s : State) : Res := dduCmd s c 0x1201 fun d => d.queryCmd


end Sys2Proof.Machine
end

