-- ==== Sys2Proof/Machine/FaultCmds.lean ====
section
/-!
DEFINITION. The commands of chapter 13.
-/

namespace Sys2Proof.Machine

/-- FAULT_EVENT (R459, R460): a grid core's slice is requeued as its checker's consumer does (R372, R475). -/
def execFaultEvent (dev : Dev) (src cause flags jobtag arg : Word) (s : State) : Res :=
  match dev with
  | .ddu => onDdu s fun d => if d.live then d.on fun n => n.fault src cause flags jobtag arg else d
  | .abl => onAbl s fun a => if src < 256 && a.grid.runs.any (fun r => r.part.contains src) then a.gridCoreFault src cause
      else if src < 256 then a.coreFault src cause jobtag flags arg
      else a.on fun n => n.fault src cause flags jobtag arg

/-- FAULT_SUBWINDOW_ADVANCE (R459). -/
def execFaultSubwindowAdvance (dev : Dev) (src : Word) (s : State) : Res := onNode dev s fun n => n.subWindow src

/-- Whether a source and slot name a channel other than a lane (R462, R463, R473). -/
def otherChannel (dev : Dev) (src : Nat) : Bool :=
  match dev with
  | .ddu => decide (src < 152) || src == 1000
  | .abl => channelSrc .abl src && decide (296 ≤ src)

/-- The port of a lane source. -/
def lanePort (dev : Dev) (src : Nat) : Option Nat :=
  match dev with
  | .ddu => if src = 1001 then some 0 else none
  | .abl => if 272 ≤ src ∧ src ≤ 295 then some (src - 272) else none

/-- CHANNEL_FAILURE (R472, R473): a lane's failure is one of R196, and the collector's EN does not stop its count (R687). -/
def execChannelFailure (dev : Dev) (src slot : Word) (s : State) : Res :=
  onNode dev s fun n => match lanePort dev src with
    | some p => if n.portUp p then n.upFailure p slot 1 true else n
    | none => if otherChannel dev src && n.bit (fltCtrl dev) 0 0 then n.chanFail src 255 else n

/-- CHANNEL_RETRY (R472): a lane tries again from BACKOFF (R197); another channel's retry succeeds or fails. -/
def execChannelRetry (dev : Dev) (src slot : Word) (ok : Bool) (s : State) : Res :=
  onNode dev s fun n => match lanePort dev src with
    | some p => if (n.lane p slot).st = lsBackoff then n.modLane p slot fun l => { l with st := lsDetect } else n
    | none =>
      if !otherChannel dev src || (n.chan src 255).st ≠ 1 then n
      else if ok then n.chanOk src 255
      else if n.bit (fltCtrl dev) 0 0 then n.chanFail src 255 else n

/-- DRAIN_PROPOSAL_RX (R482, R483). -/
def execDrainProposalRx (origin : Word) (r : Record) (s : State) : Res := onAbl s fun a => a.bwProposal origin r.payload

/-- BW_DECISION_RX (R481, R483). -/
def execBwDecisionRx (_origin : Word) (r : Record) (s : State) : Res :=
  onAbl s fun a => a.bwDecision (leAt r.payload 0 4) (leAt r.payload 4 4) (leAt r.payload 8 1)

/-- BW_RESEND_TIMER (R481). -/
def execBwResendTimer (s : State) : Res := onAbl s Abl.bwResend

/-- BW_WINDOW_EXPIRY (R482). -/
def execBwWindowExpiry (s : State) : Res := onAbl s Abl.bwExpiry

end Sys2Proof.Machine
end

