-- ==== Sys2Proof/Machine/Grid.lean ====
section
/-!
DEFINITION. The commands of chapter 10: the grid's events, and the commands of its cores.  A core's command acts when the core
stands at a command of that kind; otherwise nothing changes.
-/

namespace Sys2Proof.Machine

/-- SNOOP_DATA_RX (R391, R392, R396): from a die, with its record. -/
def execSnoopDataRx (origin : Word) (r : Record) (s : State) : Res := onAbl s fun a => (a.snoopData origin r.payload).verData origin r.payload

/-- BUNDLE_LANDED (R354, R357, R364, R367). -/
def execBundleLanded (die jobtag epoch tile : Word) (s : State) : Res := onAbl s fun a => a.bundleLanded die jobtag epoch tile

/-- SLICE_PLACE (R366, R688). -/
def execSlicePlace (s : State) : Res := onAbl s Abl.slicePlace

/-- SLICE_RUN_DONE (R355, R359, R367): slice `id`. -/
def execSliceRunDone (id : Word) (s : State) : Res := onAbl s fun a => a.runDone id

/-- SLICE_RUN_TIMEOUT (R359, R367). -/
def execSliceRunTimeout (id : Word) (s : State) : Res := onAbl s fun a => a.runTimeout id

/-- GRID_CORE_FAULT (R372). -/
def execGridCoreFault (core cause : Word) (s : State) : Res := onAbl s fun a => a.gridCoreFault core cause

/-- One command of a core, which draws an open value. -/
def gridCommand (core : Nat) (want : GridCmd → Bool) (f : Nat → GridEnv → GridCmd → GridCore → CoreRes) (s : State) : Res :=
  onAblFree s fun free a => a.coreStep core want (f free)

/-- END (R358). -/
def execEndStream (core : Word) (s : State) : Res := gridCommand core (fun x => x.op == 0) (fun _ _ _ c => coreEnd c) s

/-- LOAD (R358). -/
def execLoad (core : Word) (s : State) : Res :=
  gridCommand core (fun x => x.op == 1 && !bit x.flags 2) (fun _ e x c => coreLoad e x c) s

/-- LOAD_ASYNC (R340). -/
def execLoadAsync (core : Word) (s : State) : Res :=
  gridCommand core (fun x => x.op == 1 && bit x.flags 2) (fun _ e x c => coreLoadAsync e x c) s

/-- STREAM_LOAD_DONE (R340): stream `st` of a core. -/
def execStreamLoadDone (core st : Word) (s : State) : Res := onAblFree s fun free a => a.streamDone core st free

/-- WAIT (R358). -/
def execWait (core : Word) (s : State) : Res := gridCommand core (fun x => x.op == 2) (fun _ _ x c => coreWait x c) s

/-- SEND (R338). -/
def execSend (core : Word) (s : State) : Res := gridCommand core (fun x => x.op == 3) (fun _ e x c => coreSend e x c) s

/-- RECV (R338). -/
def execRecv (core : Word) (s : State) : Res := gridCommand core (fun x => x.op == 4) (fun _ _ _ c => coreRecv c) s

/-- MESH_DELIVER (R338): the message of a core that waits in SEND. -/
def execMeshDeliver (core : Word) (s : State) : Res := onAbl s fun a => a.meshDeliver core

/-- MMA (R344 to R348). -/
def execMma (core : Word) (s : State) : Res := gridCommand core (fun x => x.op == 5) (fun _ e x c => coreMma e x c) s

/-- VEC_ADD (R350, R692): add. -/
def execVecAdd (core : Word) (s : State) : Res :=
  gridCommand core (fun x => x.op == 6 && x.args.getD 3 0 == 0) (fun free _ x c => coreVec free x c) s

/-- VEC_SUB (R350, R692): sub. -/
def execVecSub (core : Word) (s : State) : Res :=
  gridCommand core (fun x => x.op == 6 && x.args.getD 3 0 == 1) (fun free _ x c => coreVec free x c) s

/-- VEC_MUL (R350, R692): mul. -/
def execVecMul (core : Word) (s : State) : Res :=
  gridCommand core (fun x => x.op == 6 && x.args.getD 3 0 == 2) (fun free _ x c => coreVec free x c) s

/-- VEC_FMA (R350, R692): fma. -/
def execVecFma (core : Word) (s : State) : Res :=
  gridCommand core (fun x => x.op == 6 && x.args.getD 3 0 == 3) (fun free _ x c => coreVec free x c) s

/-- VEC_MIN (R350, R692): min. -/
def execVecMin (core : Word) (s : State) : Res :=
  gridCommand core (fun x => x.op == 6 && x.args.getD 3 0 == 4) (fun free _ x c => coreVec free x c) s

/-- VEC_MAX (R350, R692): max. -/
def execVecMax (core : Word) (s : State) : Res :=
  gridCommand core (fun x => x.op == 6 && x.args.getD 3 0 == 5) (fun free _ x c => coreVec free x c) s

/-- VEC_SQRT (R350, R692): sqrt. -/
def execVecSqrt (core : Word) (s : State) : Res :=
  gridCommand core (fun x => x.op == 6 && x.args.getD 3 0 == 6) (fun free _ x c => coreVec free x c) s

/-- VEC_RCP (R350, R692): rcp. -/
def execVecRcp (core : Word) (s : State) : Res :=
  gridCommand core (fun x => x.op == 6 && x.args.getD 3 0 == 7) (fun free _ x c => coreVec free x c) s

/-- VEC_RSQRT (R350, R692): rsqrt. -/
def execVecRsqrt (core : Word) (s : State) : Res :=
  gridCommand core (fun x => x.op == 6 && x.args.getD 3 0 == 8) (fun free _ x c => coreVec free x c) s

/-- VEC_EXP2 (R350, R692): exp2. -/
def execVecExp2 (core : Word) (s : State) : Res :=
  gridCommand core (fun x => x.op == 6 && x.args.getD 3 0 == 9) (fun free _ x c => coreVec free x c) s

/-- VEC_LOG2 (R350, R692): log2. -/
def execVecLog2 (core : Word) (s : State) : Res :=
  gridCommand core (fun x => x.op == 6 && x.args.getD 3 0 == 10) (fun free _ x c => coreVec free x c) s

/-- VEC_TANH (R350, R692): tanh. -/
def execVecTanh (core : Word) (s : State) : Res :=
  gridCommand core (fun x => x.op == 6 && x.args.getD 3 0 == 11) (fun free _ x c => coreVec free x c) s

/-- VEC_EXP (R350, R692): EXP. -/
def execVecExp (core : Word) (s : State) : Res :=
  gridCommand core (fun x => x.op == 6 && x.args.getD 3 0 == 16) (fun free _ x c => coreVec free x c) s

/-- VEC_SIGMOID (R350, R692): SIGMOID. -/
def execVecSigmoid (core : Word) (s : State) : Res :=
  gridCommand core (fun x => x.op == 6 && x.args.getD 3 0 == 17) (fun free _ x c => coreVec free x c) s

/-- VEC_SILU (R350, R692): SILU. -/
def execVecSilu (core : Word) (s : State) : Res :=
  gridCommand core (fun x => x.op == 6 && x.args.getD 3 0 == 18) (fun free _ x c => coreVec free x c) s

/-- VEC_GELU_TANH (R350, R692): GELU_TANH. -/
def execVecGeluTanh (core : Word) (s : State) : Res :=
  gridCommand core (fun x => x.op == 6 && x.args.getD 3 0 == 19) (fun free _ x c => coreVec free x c) s

/-- VEC_SOFTMAX (R350, R692): SOFTMAX. -/
def execVecSoftmax (core : Word) (s : State) : Res :=
  gridCommand core (fun x => x.op == 6 && x.args.getD 3 0 == 20) (fun free _ x c => coreVec free x c) s

/-- VEC_RMSNORM (R350, R692): RMSNORM. -/
def execVecRmsnorm (core : Word) (s : State) : Res :=
  gridCommand core (fun x => x.op == 6 && x.args.getD 3 0 == 21) (fun free _ x c => coreVec free x c) s

/-- VEC_SUM (R350, R692): SUM. -/
def execVecSum (core : Word) (s : State) : Res :=
  gridCommand core (fun x => x.op == 6 && x.args.getD 3 0 == 22) (fun free _ x c => coreVec free x c) s

/-- VEC_MAX_REDUCE (R350, R692): MAX. -/
def execVecMaxReduce (core : Word) (s : State) : Res :=
  gridCommand core (fun x => x.op == 6 && x.args.getD 3 0 == 23) (fun free _ x c => coreVec free x c) s

/-- CVT (R349, R693). -/
def execCvt (core : Word) (s : State) : Res :=
  gridCommand core (fun x => x.op == 7 && !bit x.flags 0) (fun _ e x c => coreCvt e x c) s

/-- CVT_QUANT (R349, R693). -/
def execCvtQuant (core : Word) (s : State) : Res :=
  gridCommand core (fun x => x.op == 7 && bit x.flags 0) (fun _ e x c => coreCvt e x c) s

/-- CMP (R353, R358). -/
def execCmp (core : Word) (s : State) : Res := gridCommand core (fun x => x.op == 8) (fun _ e x c => coreCmp e x c) s

/-- LOOP (R358). -/
def execLoop (core : Word) (s : State) : Res := gridCommand core (fun x => x.op == 9) (fun _ _ x c => coreLoop x c) s

/-- KAT_RUN_START (R356, R688). -/
def execKatRunStart (s : State) : Res := onAbl s Abl.katStart

/-- PROG_LOAD_DONE (R361, R362). -/
def execProgLoadDone (slot : Word) (s : State) : Res := onAbl s fun a => a.progLoadDone slot

/-- CTX_SCRUB_DONE (R364). -/
def execCtxScrubDone (c : Word) (s : State) : Res := onAbl s fun a => a.ctxScrubbed c

/-- GRID_WAKE_DONE (R369). -/
def execGridWakeDone (s : State) : Res := onAbl s Abl.gridUp

/-- GRID_IDLE_EXPIRY (R370). -/
def execGridIdleExpiry (s : State) : Res := onAbl s Abl.gridSleep

end Sys2Proof.Machine
end

