-- ==== Sys2Proof/Machine/Guarding.lean ====
section
/-!
DEFINITION. Catalogue commands of R619 that chapter 19 describes: profiling, attestation, debug sessions, lifecycle, keys and firmware.
-/

namespace Sys2Proof.Machine

/-- PROFILE_ENABLE (R664). -/
def execProfileEnable (c : Cmd) (s : State) : Res := ablCmd s c 0x0C03 fun a => a.profileEnable c

/-- PROFILE_DISABLE (R92). -/
def execProfileDisable (c : Cmd) (s : State) : Res := ablCmd s c 0x0C04 fun a => (a.profileDisable (c.p 0 2), {})

/-- ATTEST (R656). -/
def execAttest (c : Cmd) (s : State) : Res := ablCmd s c 0x0D01 fun a => a.attest c

/-- DEBUG_CHALLENGE (R659); the nonce is an open value. -/
def execDebugChallenge (c : Cmd) (s : State) : Res :=
  ablCmd { s with free := s.free + 1 } c 0x0D02 fun a => a.debugChallenge (Config.nonce s.free)

/-- DEBUG_OPEN (R659). -/
def execDebugOpen (c : Cmd) (s : State) : Res := ablCmd s c 0x0D03 fun a => a.debugOpen c.params

/-- DEBUG_CLOSE (R661). -/
def execDebugClose (c : Cmd) (s : State) : Res := ablCmd s c 0x0D04 fun a => (a.sessionEnd 1, {})

/-- LIFECYCLE_SET with one op: another op is another row's. -/
def lcCmd (s : State) (c : Cmd) (op : Nat) (own : Abl → Abl × Ans) : Res :=
  if lcOp c op then ablCmd s c 0x0D05 fun a => a.lifecycleSet c own else onAbl s fun a => a

/-- LIFECYCLE_SECURE (R646). -/
def execLifecycleSecure (c : Cmd) (s : State) : Res := lcCmd s c 1 fun a => a.lcSecure c.params

/-- LIFECYCLE_RMA (R648). -/
def execLifecycleRma (c : Cmd) (s : State) : Res := lcCmd s c 2 fun a => a.lcRma c.params

/-- LIFECYCLE_DECOMMISSION (R665, R666): the device reboots into DECOMMISSIONED once it has answered. -/
def execLifecycleDecommission (c : Cmd) (s : State) : Res := lcCmd s c 3 fun a => a.lcRetire c.params

/-- KEY_ADD (R647). -/
def execKeyAdd (c : Cmd) (s : State) : Res := lcCmd s c 4 fun a => a.keyAdd c.params

/-- KEY_REVOKE (R647). -/
def execKeyRevoke (c : Cmd) (s : State) : Res := lcCmd s c 5 fun a => a.keyRevoke c.params

/-- FW_UPDATE (R654); `host` is what host memory gives where the reference names it. -/
def execFwUpdate (c : Cmd) (host : Option (List Byte)) (s : State) : Res :=
  if fwRow c false then ablCmd s c 0x0E01 fun a => a.fwCmd c host (stagedBytes s) else onAbl s fun a => a

/-- FW_COMMIT (R651): FW_UPDATE with a target from 128. -/
def execFwCommit (c : Cmd) (host : Option (List Byte)) (s : State) : Res :=
  if fwRow c true then ablCmd s c 0x0E01 fun a => a.fwCmd c host (stagedBytes s) else onAbl s fun a => a


end Sys2Proof.Machine
end

