-- ==== Sys2Proof/Machine/HostCmds.lean ====
section
/-!
DEFINITION. Register accesses, and the commands of chapter 18.
-/

namespace Sys2Proof.Machine

/-- REGISTER_WRITE (R8, R9, R64, R629): a write of `size` bytes at an offset of the DDU window, or of BAR0's numbering on the sentinel. -/
def execRegisterWrite (dev : Dev) (who : Requester) (off size v : Word) (s : State) : Res :=
  match dev with
  | .ddu =>
    let y := s.ddu.busWrite who off size v
    onDdu { s with busErr := y.2 } fun d => (d.busWrite who off size v).1
  | .abl => onAbl { s with busErr := false } fun a => a.busWrite who off size v

/-- RC_REGISTER_READ (R8, R91): the read of any register; one with access RC clears by it. -/
def execRcRegisterRead (dev : Dev) (who : Requester) (off size : Word) (s : State) : Res :=
  match dev with
  | .ddu =>
    let y := s.ddu.busRead who off size
    onDdu { s with rdata := y.2.1, busErr := y.2.2 } fun d => (d.busRead who off size).1
  | .abl => onAbl { s with rdata := (s.abl.busRead who off size).2, busErr := false } fun a => (a.busRead who off size).1

/-- APERTURE_ACCESS (R633, R634, R636): `len` bytes at BAR4 offset x. -/
def execApertureAccess (x len : Word) (write : Bool) (data : List Byte) (s : State) : Res :=
  let a := s.abl
  if write then
    onAbl (if a.apOk x len true then { s with mem := Cells.store s.mem (a.apAddr x, padTo len (data.take len)) } else s) fun b => b.apTouch x len true
  else
    onAbl { s with rdata := if a.apOk x len false then leNat (Cells.read s.mem (a.apAddr x) len) else 0, busErr := false } fun b => b.apTouch x len false

/-- HOST_WIDE_READ (R631). -/
def execHostWideRead (off size : Word) (s : State) : Res :=
  onAbl { s with rdata := (s.abl.hostRead off size).2, busErr := false } fun a => (a.hostRead off size).1

/-- FUNCTION_RESET (R640). -/
def execFunctionReset (kind : Word) (s : State) : Res := onAbl s fun a => a.functionReset kind

/-- BUS_MASTER_CHANGE (R638). -/
def execBusMasterChange (enable : Bool) (s : State) : Res := onAbl s fun a => a.busMaster enable

end Sys2Proof.Machine
end

