-- ==== Sys2Proof/Machine/Jobs.lean ====
section
/-!
DEFINITION. The commands of chapter 08.
-/

namespace Sys2Proof.Machine

/-- A FANOUT of one KIND reaches a sentinel, from `sender` on a port and slot, or a die, which `deliver` serves. -/
def fanDeliver (dev : Dev) (kind port slot sender origin : Nat) (m : FanMsg) (deliver : Ddu → Ddu) (s : State) : Res :=
  let m := fanAs kind m
  match dev with
  | .ddu => onDdu s fun d => if d.live then d.fanArrive m deliver else d
  | .abl => onAbl s fun a => a.fanRx port slot sender origin m

/-- JOB_START_DELIVER (R261 to R264). -/
def execJobStartDeliver (dev : Dev) (port slot sender origin : Word) (m : FanMsg) (s : State) : Res :=
  fanDeliver dev 1 port slot sender origin m (fun d => d.jobStart m) s

/-- JOB_END_DELIVER (R262, R264). -/
def execJobEndDeliver (dev : Dev) (port slot sender origin : Word) (m : FanMsg) (s : State) : Res :=
  fanDeliver dev 2 port slot sender origin m (fun d => (d.jobEnd m).ledPhases) s

/-- GROUP_REGISTER_DELIVER (R266, R267). -/
def execGroupRegisterDeliver (dev : Dev) (port slot sender origin : Word) (m : FanMsg) (s : State) : Res :=
  fanDeliver dev 3 port slot sender origin m (fun d => d.groupRegister m) s

/-- GROUP_RELEASE_DELIVER (R260, R261). -/
def execGroupReleaseDeliver (dev : Dev) (port slot sender origin : Word) (m : FanMsg) (s : State) : Res :=
  fanDeliver dev 4 port slot sender origin m (fun d => d.groupRelease m) s

/-- SCRUB_COMPLETE (R262): the bytes erased are not stated. -/
def execScrubComplete (s : State) : Res := onDduFree s fun k d => if d.live then d.scrubDone k else d

/-- SCRUB_TIMEOUT (R262). -/
def execScrubTimeout (s : State) : Res := onDdu s Ddu.scrubLate

/-- JOB_HOLD_EXPIRY (R262). -/
def execJobHoldExpiry (s : State) : Res := onDdu s Ddu.holdExpiry

/-- JOB_GUARD_EXPIRY (R264). -/
def execJobGuardExpiry (j : Word) (s : State) : Res := onAbl s fun a => a.jobGuardExpiry j

/-- A sync operation of either device from a local requester or by SYNC_UPDATE. -/
def syncCommand (dev : Dev) (op : Nat) (f : SyncFrom) (q : SyncReq) (s : State) : Res :=
  match f with
  | .localReq r p dest =>
    match dev with
    | .ddu => dduWrite (if p then .hostPrivileged else .unprivileged) s fun d => d.on fun n => n.syncIssue r op q 0
    | .abl => onAbl s fun a => a.on fun n => if p then n.syncIssue r op q dest else n.syncStatus r 0x0202 false
  | .remote origin bc =>
    let g (n : Node) : Node := if bc then n.syncBcast op q origin else n.syncUpdate op q origin
    match dev with
    | .ddu => onDdu s fun d => if d.live then d.on g else d
    | .abl => onAbl s fun a => a.on g

/-- SYNC_ALLOC (R269, R271). -/
def execSyncAlloc (dev : Dev) (f : SyncFrom) (q : SyncReq) (s : State) : Res := syncCommand dev 0 f q s

/-- SYNC_SET (R269). -/
def execSyncSet (dev : Dev) (f : SyncFrom) (q : SyncReq) (s : State) : Res := syncCommand dev 1 f q s

/-- SYNC_ADD (R269). -/
def execSyncAdd (dev : Dev) (f : SyncFrom) (q : SyncReq) (s : State) : Res := syncCommand dev 2 f q s

/-- SYNC_MAX (R269). -/
def execSyncMax (dev : Dev) (f : SyncFrom) (q : SyncReq) (s : State) : Res := syncCommand dev 3 f q s

/-- SYNC_FAIL (R269, R270, R278). -/
def execSyncFail (dev : Dev) (f : SyncFrom) (q : SyncReq) (s : State) : Res := syncCommand dev 4 f q s

/-- SYNC_ARM (R269, R275). -/
def execSyncArm (dev : Dev) (f : SyncFrom) (q : SyncReq) (s : State) : Res := syncCommand dev 5 f q s

/-- SYNC_RELEASE (R269, R260). -/
def execSyncRelease (dev : Dev) (f : SyncFrom) (q : SyncReq) (s : State) : Res := syncCommand dev 6 f q s

/-- SYNC_QUERY (R269, R273). -/
def execSyncQuery (dev : Dev) (f : SyncFrom) (q : SyncReq) (s : State) : Res := syncCommand dev 7 f q s

/-- SYNC_REACH (R269). -/
def execSyncReach (dev : Dev) (f : SyncFrom) (q : SyncReq) (s : State) : Res := syncCommand dev 8 f q s

/-- SYNC_STATE_APPLY (R269, R275). -/
def execSyncStateApply (dev : Dev) (f : SyncFrom) (q : SyncReq) (s : State) : Res := syncCommand dev 9 f q s

/-- SYNC_STATE_RX (R273, R286). -/
def execSyncStateRx (dev : Dev) (origin : Word) (q : SyncReq) (s : State) : Res :=
  match dev with
  | .ddu => onDdu s fun d => if d.live then d.on fun n => n.syncStateRx q origin else d
  | .abl => onAbl s fun a => a.on fun n => n.syncStateRx q origin

/-- SYNC_GUARD_EXPIRY (R271, R276): a die that waits for a gate pair joins when one is free. -/
def execSyncGuardExpiry (dev : Dev) (k : Word) (s : State) : Res :=
  match dev with
  | .abl => onAbl s fun a => a.on fun n => n.guardExpiry k
  | .ddu => onDdu s fun d =>
      let d := d.on fun n => n.guardExpiry k
      match d.job.waiting with
      | some j => d.joinTry j
      | none => d

/-- SOURCE_FENCE (R286, R287). -/
def execSourceFence (who : Requester) (s : State) : Res := dduWrite who s Ddu.sourceFence

/-- SOURCE_FENCE_COMPLETE (R286). -/
def execSourceFenceComplete (s : State) : Res := onDdu s Ddu.fenceEnd

/-- SYNC_FENCE (R286): by DDU_FENCE.SYNC, or by requester `r` of the sentinel. -/
def execSyncFence (dev : Dev) (who : Requester) (r : Word) (s : State) : Res :=
  match dev with
  | .ddu => dduWrite who s fun d => d.on fun n => n.syncFence r
  | .abl => onAbl s fun a => a.on fun n =>
      if who = .firmware || who = .bar0 then (if n.syncOn then n.syncFence r else n.syncStatus r 0x0100 false)
      else n.syncStatus r 0x0202 false

end Sys2Proof.Machine
end

