-- ==== Sys2Proof/Machine/Ledger.lean ====
section
/-!
DEFINITION. The commands of chapter 14.
-/

namespace Sys2Proof.Machine

/-- DIE_LEDGER_MOUNT (R496, R525): bits of `bad` say which halves fail a CRC, `good` how many journal slots pass. -/
def execDieLedgerMount (bad good : Word) (s : State) : Res := onDdu s fun d => d.ledMount bad good

/-- DIE_LEDGER_JOURNAL (R494, R495). -/
def execDieLedgerJournal (r : Record) (s : State) : Res := onDdu s fun d => if d.live then d.journalPut r else d

/-- HS_APPEND (R499, R500). -/
def execHsAppend (essential : Bool) (r : Record) (s : State) : Res := onAbl s fun a => a.hsAppend essential r

/-- HS_APPEND_DURABLE (R500). -/
def execHsAppendDurable (path : Word) (s : State) : Res := onAbl s fun a => a.hsMark path

/-- HS_MOUNT (R506, R507, R525); a store found sealed on a part that is still in service completes its retirement (R665). -/
def execHsMount (s : State) : Res := onAbl s fun a => a.mountHeld.sealedBoot

/-- PWRFAIL_ASSERT (R504). -/
def execPwrfailAssert (s : State) : Res := onAbl s Abl.pwrFailed

/-- PWRFAIL_RELEASE (R504). -/
def execPwrfailRelease (s : State) : Res := onAbl s Abl.pwrResume

/-- SUPERBLOCK_WRITE_DUE (R503). -/
def execSuperblockWriteDue (s : State) : Res := onAbl s fun a => if a.hist.pwrFail then a else a.superDue

/-- COMPACTION_START (R517). -/
def execCompactionStart (s : State) : Res := onAbl s Abl.compactStart

/-- COMPACTION_DONE (R517, R518). -/
def execCompactionDone (s : State) : Res := onAbl s Abl.compactDone

/-- COMPACTION_RESUME (R518). -/
def execCompactionResume (s : State) : Res := onAbl s Abl.compactResume

/-- HS_DAY_BUCKET (R514, R515). -/
def execHsDayBucket (s : State) : Res := onAbl s Abl.dayBucket

/-- EXPOSURE_FLUSH (R511). -/
def execExposureFlush (s : State) : Res := onAbl s Abl.exposureFlush

/-- BASELINE_SAVE (R508). -/
def execBaselineSave (s : State) : Res := onAbl s Abl.baselineSave

/-- RECONCILE (R521, R522). -/
def execReconcile (port serial flags : Word) (body : List Byte) (s : State) : Res := onAbl s fun a => a.reconcile port serial flags body

/-- RECONCILE_RETRY (R523). -/
def execReconcileRetry (s : State) : Res := onAbl s Abl.reconRetry

/-- EXPORT_SUSPEND_TIMEOUT (R528). -/
def execExportSuspendTimeout (s : State) : Res := onAbl s Abl.exportTimeout

/-- PROBATION_END (R526): of the store when its LTIME is reached, or of the die ledger. -/
def execProbationEnd (dev : Dev) (s : State) : Res :=
  match dev with
  | .ddu => onDdu s Ddu.dlCommit
  | .abl => onAbl s fun a => if a.hist.probation ≤ a.n.ltime then a.probationEnd else a

/-- A write of ABL_HS_OP (R533): the Management Complex alone; a BAR0 write is counted in ABL_HS_DENIED. -/
def hsOpBy (who : Requester) (op paths addr : Word) (s : State) : Res :=
  onAbl s fun a => if who = .firmware then a.hsOpStart op paths addr else a.on fun n => n.bump Reg.ABL_HS_DENIED

/-- HS_OP_READ (R533). -/
def execHsOpRead (who : Requester) (paths addr : Word) (s : State) : Res := hsOpBy who 1 paths addr s

/-- HS_OP_PROGRAM (R533). -/
def execHsOpProgram (who : Requester) (paths addr : Word) (s : State) : Res := hsOpBy who 2 paths addr s

/-- HS_OP_ERASE (R533). -/
def execHsOpErase (who : Requester) (paths addr : Word) (s : State) : Res := hsOpBy who 3 paths addr s

/-- HS_OP_PROGRAM_MARK (R533). -/
def execHsOpProgramMark (who : Requester) (paths addr : Word) (s : State) : Res := hsOpBy who 4 paths addr s

/-- HS_OP_DONE (R533). -/
def execHsOpDone (fail : Word) (s : State) : Res := onAbl s fun a => a.hsOpDone fail

end Sys2Proof.Machine
end

