-- ==== Sys2Proof/Machine/Management.lean ====
section
/-!
DEFINITION. The commands of chapter 16: the interrupt controllers, engine resets, the reset of the Management Complex, watchdogs and load.
-/

namespace Sys2Proof.Machine

/-- INTERRUPT_REQUEST (R577, R578): the request line of source `id` goes high or low, or an edge rises; `core` takes an own-core source. -/
def execInterruptRequest (dev : Dev) (id core : Word) (high : Bool) (s : State) : Res := onNode dev s fun n => n.aicRequest id core high

/-- AIC_CLAIM (R575): the ID is what the read answers. -/
def execAicClaim (dev : Dev) (core : Word) (s : State) : Res :=
  match dev with
  | .ddu => onDdu { s with rdata := (s.ddu.n.aicClaim core).2, busErr := false } fun d => d.on fun n => (n.aicClaim core).1
  | .abl => onAbl { s with rdata := (s.abl.n.aicClaim core).2, busErr := false } fun a => a.on fun n => (n.aicClaim core).1

/-- AIC_EOI (R576). -/
def execAicEoi (dev : Dev) (core id : Word) (s : State) : Res := onNode dev s fun n => n.aicEoi core id

/-- AIC_SGI (R590). -/
def execAicSgi (dev : Dev) (v : Word) (s : State) : Res := onNode dev s fun n => n.aicSgi v

/-- AIC_CFG_WRITE (R577, R591): firmware alone; any other write is counted. -/
def execAicCfgWrite (dev : Dev) (who : Requester) (core id v : Word) (s : State) : Res :=
  onNode dev s fun n => if who = .firmware then n.aicCfgWrite core id v else n.bump (Reg.AIC_DENIED n.dev)

/-- ENGINE_RESET_START (R581, R583, R584). -/
def execEngineResetStart (who : Requester) (v : Word) (s : State) : Res :=
  onAbl s fun a => match who with
    | .firmware => a.engWrite false v
    | .bar0 => a.engWrite true v
    | .unprivileged => a.denied
    | .hostPrivileged => a.denied
    | .sentinel => a.denied
    | .i3c => a.denied

/-- ENGINE_RESET_DRAIN_END (R581). -/
def execEngineResetDrainEnd (b : Word) (s : State) : Res := onAbl s fun a => a.engDrainEnd b

/-- ENGINE_RESET_DONE (R581, R582). -/
def execEngineResetDone (b : Word) (s : State) : Res := onAbl s fun a => a.engDone b

/-- MC_RESET (R583): the host writes bit 63 through BAR0. -/
def execMcReset (s : State) : Res := onAbl s fun a => a.engWrite true (2 ^ 63)

/-- WATCHDOG_KICK (R585). -/
def execWatchdogKick (dev : Dev) (core v : Word) (s : State) : Res := onNode dev s fun n => n.wdogKick core v

/-- WATCHDOG_WARNING (R585). -/
def execWatchdogWarning (dev : Dev) (core : Word) (s : State) : Res := onNode dev s fun n => n.wdogWarn core

/-- WATCHDOG_EXPIRY (R585): a core's second within 60 s resets the complex. -/
def execWatchdogExpiry (dev : Dev) (core : Word) (s : State) : Res :=
  match dev with
  | .ddu => onDdu s fun d => d.on fun n => (n.wdogExpire core).1
  | .abl => onAbl s fun a =>
    let r := a.n.wdogExpire core
    let b := a.on fun _ => r.1
    if r.2 then b.wdogSecond else b

/-- What STATUS_SUMMARY takes deltas of, in its order (R614). -/
def Abl.summaryNow (a : Abl) : List Nat :=
  let n := a.n
  [n.rd Reg.ABL_VER_PASS, n.rd Reg.ABL_VER_FAIL, n.rd Reg.ABL_VER_LATE, n.rd Reg.ABL_VER_UNVERIFIED, n.rd Reg.ABL_VER_STALE,
   n.rd Reg.ABL_GRID_SUSPECT, n.rd Reg.ABL_GRID_BADBUNDLE, n.rd Reg.ABL_GRID_ABANDONED, n.rd Reg.ABL_RED_LATE, n.rd Reg.ABL_RED_UNMATCHED,
   n.rd Reg.ABL_TREE_DROPPED, ((List.range 1024).map fun q => n.rd Reg.ABL_USCH_QDROP q).sum,
   ((List.range 24).map fun p => n.rd (Reg.LNK_EXPIRED .abl) p).sum, ((List.range 655).map fun s => n.fld Reg.ABL_FLT_CNT s 32 32).sum,
   n.rd Reg.ABL_HS_DEFERRED, n.rd (Reg.AIC_SPURIOUS .abl)]

/-- STATUS_SUMMARY (R614, R587): a register that a read has cleared meanwhile counts from its clear. (DESIGN CHOICE: log 81.) -/
def Abl.statusSummary (a : Abl) : Abl :=
  let n := a.n
  let shed := n.mc.shed.isSome
  let new := a.summaryNow
  let deltas := new.mapIdx fun i v =>
    let old := n.mc.summary.getD i 0
    if old ≤ v then v - old else v
  let head := [n.pwrState, n.trayLevel, n.load, b2n shed + 2 * b2n (n.timeState != 1) + 4 * b2n (decide (0 < n.severeCount))] ++
    le 4 n.heldJobs.length ++ le 4 n.severeCount ++ le 4 a.gov.props.length ++ zeros 16
  let m := n.write 6 0x1E 0x0002 554 (if shed then 4 else 0) (head ++ if shed then [] else deltas.flatMap (le 4)) fun r m => m.event r
  { a with n := { m with mc := { m.mc with summaryAt := n.local, summary := new } } }

/-- One millisecond of the complex (R586, R587, R518, R614): cores back from their own reset, LOAD, shedding, and the summary when it is due. (DESIGN CHOICE: log 81.) (DESIGN CHOICE: log 98.) -/
def Abl.loadTick (a : Abl) (busy : List Nat) : Abl :=
  if !a.n.booted then a
  else
    let a := a.on fun n => (n.mc.down.foldl Node.coreUp n).loadTick busy
    let high := decide (85 < a.n.load) || a.n.mc.shed.isSome
    let a := if high then (a.on fun n => { n with mc := { n.mc with highAt := n.local } }).compactDefer else a.compactResume
    let period := a.n.fld Reg.ABL_MC_SUMMARY_MS 0 0 16 * (if a.n.mc.shed.isSome then 4 else 1) * 1000000
    if period = 0 || a.n.local < a.n.mc.summaryAt + period then a else a.statusSummary

/-- MC_LOAD_TICK (R586, R587): the busy percentage of each core over the last millisecond. -/
def execMcLoadTick (dev : Dev) (busy : List Word) (s : State) : Res :=
  match dev with
  | .ddu => onDdu s fun d => if d.n.booted then d.on fun n => n.loadTick busy else d
  | .abl => onAbl s fun a =>
    let a := a.loadTick busy
    ((List.range 16).filter fun p => a.n.bit Reg.ABL_TREE_HVALID p 0).foldl Abl.faultWords a

end Sys2Proof.Machine
end

