-- ==== Sys2Proof/Machine/RxOps.lean ====
section
/-!
DEFINITION. Whole messages (R189, R190): the checks, the forwarding, and which block takes what a message carries.
-/

namespace Sys2Proof.Machine

/-! ## Checks -/

/-- Whether a message's lifetime has passed (R190). -/
def Node.msgOver (n : Node) (m : Msg) : Bool := decide (dist32 m.expire n.now < 0)

/-- What identifies the stream of a record (R13): ORIGIN, SOURCE and traffic class. (DESIGN CHOICE: log 35.) -/
def recKey (m : Msg) (r : Record) : Nat := bits m.origin 0 20 * 2 ^ 13 + r.src % 1024 * 8 + m.cls % 8

/-- Whether the record has been delivered already (R35, R691).  Records of one source and class arrive in their order (R285), so one whose SEQ
does not follow the last is a copy.  FANOUT has its own rule (R241). (DESIGN CHOICE: log 35.) -/
def Node.isCopy (n : Node) (m : Msg) : Bool :=
  match m.body with
  | .record r =>
    if r.typ = 0x14 && r.code = 0x0010 then false
    else match n.delivered.find? fun p => p.1 == recKey m r with
      | some p => decide ((p.2 + 65536 - r.seq % 65536) % 65536 < 32768)
      | none => false
  | .frame .. => false

/-- Note a record as delivered. (DESIGN CHOICE: log 35.) -/
def Node.noteRec (n : Node) (m : Msg) : Node :=
  match m.body with
  | .record r => { n with delivered := bindKey n.delivered (recKey m r) (r.seq % 65536) }
  | .frame .. => n

/-- The message leaves the buffer of those that the lane has received in full. -/
def Node.doneTake (n : Node) (p slot cls : Nat) : Node :=
  let l := n.lane p slot
  if !l.done.any fun x => x.1 == cls then (if l.lastIn.isNone then n else n.setLane p slot { l with lastIn := none })
  else
    let l : LaneX := { l with done := replaceFirst l.done (fun x => x.1 == cls) none }
    n.setLane p slot (if cls = 6 then { l with lastIn := l.arrived.head?, arrived := l.arrived.drop 1 } else { l with lastIn := none })

/-- The JOBTAG that a record of a job carries in its first bytes, by which an uplink queues it (R247). -/
def msgJob (m : Msg) : Nat :=
  match m.body with
  | .record r => if [0x10, 0x14, 0x15, 0x18, 0x19].contains r.typ then leAt r.payload 0 4 else 0
  | .frame .. => 0

/-! ## Forwarding -/

/-- A node passes a message on (R190), one hop further: down to a child, else up.  One that came from above and is for no child has no way on. (DEDUCED: log 36.) -/
def Abl.passOn (a : Abl) (port : Nat) (m : Msg) : Abl :=
  if m.hops = 0 then a.on fun n => n.bump (Reg.LNK_EXPIRED .abl) port
  else
    let m := { m with hops := m.hops - 1 }
    match a.n.downChild (bits m.dest 0 20) with
    | some c => a.on fun n => let (p, k) := n.childLane c m.cls; n.queueAt p 63 m k
    | none => if port < 16 then a.on fun n => n.sendUpMsg (msgJob m) m else a

/-- What no block of this node takes goes on to the active parent (R24). (DEDUCED: log 36.) -/
def Abl.passUp (a : Abl) (port : Nat) (m : Msg) : Abl :=
  if 16 ≤ port then a
  else if m.hops = 0 then a.on fun n => n.bump (Reg.LNK_EXPIRED .abl) port
  else a.on fun n => n.sendUpMsg (msgJob m) { m with hops := m.hops - 1, dest := n.parentIdent }

/-! ## Payloads -/

/-- The sync operation of a SYNC_UPDATE or SYNC_STATE payload (R284), and its OP. -/
def syncOfBytes (p : List Nat) : Nat × SyncReq :=
  let b := leAt p 8 1
  (b % 16, { jobtag := leAt p 0 4, handle := leAt p 4 4, ack := bit b 7, attempt := leAt p 9 1, group := leAt p 10 2, epoch := leAt p 12 4,
             d := leAt p 16 8, st := b })

/-- The MISS entries of a FAN_ACK payload (R239). -/
def missOf (p : List Nat) : List (Nat × Nat) := (List.range (min 8 (leAt p 16 2))).map fun i => (leAt p (24 + 8 * i) 4, leAt p (28 + 8 * i) 4)

/-- A record from its bytes (R11, R12). -/
def recOfBytes (b : List Nat) : Record :=
  { typ := leAt b 1 1, code := leAt b 2 2, src := leAt b 6 2, time := leAt b 8 4, seq := leAt b 12 2, flags := leAt b 14 2,
    payload := (b.drop 16).take (leAt b 4 2) }

/-! ## What a tray keeps from its dies' records (R479, R204, R520) -/

/-- A change of what the tray holds of a die whose serial it knows. -/
def Abl.dieNote (a : Abl) (port : Nat) (f : DieImage → DieImage) : Abl :=
  if a.serialAt port = 0 then a else (a.onTab fun t => t.onDie (a.serialAt port) f).hsTable 0

/-- A channel's state in the tray's image. (DESIGN CHOICE: log 70.) -/
def DieImage.setChan (m : DieImage) (c : Nat) (retired : Bool) (at_ : Nat) : DieImage :=
  { m with chans := (c, retired, at_) :: m.chans.filter fun x => x.1 != c }

/-- A fault, channel or sensor record of a die: HISTORY words 0 to 3 (R479); injected events are left out. (DESIGN CHOICE: log 69.) (DESIGN CHOICE: log 70.) -/
def Abl.dieFault (a : Abl) (port : Nat) (r : Record) : Abl :=
  let p := r.payload
  let t := a.n.ltime
  let old (l : List (Nat × Nat)) : List (Nat × Nat) := l.filter fun x => decide (a.n.local < x.2 + 86400000000000)
  let iso (on_ : Bool) (a : Abl) : Abl := a.dieNote port fun m => m.putUnit { m.unit (leAt p 0 2) with isolated := on_, isoAt := t }
  let b :=
    match r.typ, r.code with
    | 0x1A, 0x0001 => if bit (leAt p 3 1) 0 then a else { a with gov := { a.gov with faults := (port, a.n.local) :: old a.gov.faults } }
    | 0x1A, 0x0002 =>
      let a : Abl := { a with gov := { a.gov with severes := (port, a.n.local) :: old a.gov.severes } }
      if leAt p 3 1 = 1 then iso true a else a
    | 0x1A, 0x0003 => if leAt p 0 2 = 501 then a.dieNote port fun m => m.setChan 153 (leAt p 3 1 == 3) t else a
    | 0x1A, 0x0004 => iso false a
    | 0x13, 0x0003 => a.dieNote port fun m => m.setChan 152 true t
    | 0x11, 0x0004 => a.dieNote port fun m => m.setChan (leAt p 0 2) true t
    | _, _ => a
  if r.typ = 0x1A || r.typ = 0x13 || r.typ = 0x11 then b.faultWords port else b

/-- FALLBACK_ENTER and FALLBACK_EXIT of a die (R204, R206, R520): the sibling through which it is reached. -/
def Abl.dieFallback (a : Abl) (port : Nat) (r : Record) : Abl :=
  if r.typ ≠ 0x13 then a
  else if r.code = 0x0006 then
    let a := match a.n.portOfDie (leAt r.payload 4 4) with
      | some h => a.on fun n => ({ n with fbHost := bindKey n.fbHost port h } : Node).reroute
      | none => a
    a.reconUp port
  else if r.code = 0x0007 then a.on fun n => { n with fbHost := n.fbHost.filter fun x => x.1 != port }
  else a

/-! ## Delivery at a sentinel -/

/-- An abort arrives by a record (R45): ABORT_LATE counts at a die when the record is older than the tray's 50 µs, and at a sentinel when it is
older than the fleet's 2 ms. (DESIGN CHOICE: log 39.) -/
def Node.abortTimed (n : Node) (op : Nat) (r : Record) : Node :=
  let bound : Int := match n.dev with | .ddu => 50000 | .abl => 2000000
  if op = 4 && decide (bound < dist32 n.now r.time) then { n with abortLate := n.abortLate + 1 } else n

/-- A record of TYPE 0x14, and whether its CODE is one of R239 and chapter 07. -/
def Abl.rx14 (a : Abl) (port slot : Nat) (m : Msg) (r : Record) : Abl × Bool :=
  let p := r.payload
  let o := bits m.origin 0 20
  let peer := bits (a.n.rd (Reg.LNK_PEER .abl) port) 0 20
  match r.code with
  | 0x0001 => (if a.n.bit Reg.ABL_RED_CTRL 0 0 then a.dieSummary o p else a, true)
  | 0x0002 => (if a.n.bit Reg.ABL_RED_CTRL 0 0 then a.nodeSummary o p else a, true)
  | 0x0003 => (a.arrival o p, true)
  | 0x0004 => (a.barrierPart o p, true)
  | 0x0010 => (a.fanRx port slot peer o (fanOfBytes p), true)
  | 0x0011 => (a.fanPendingRx o (leAt p 0 4) (leAt p 4 4), true)
  | 0x0012 => (a.fanAckRx false o (leAt p 0 4) (leAt p 4 4) (leAt p 12 4) (missOf p) (bit (leAt p 18 2) 0), true)
  | 0x0013 =>
    let f := fanOfBytes (p.drop 8)
    (a.relayRx (leAt p 0 4) (leAt p 4 4) port slot (leAt p 4 4) o f, true)
  | 0x0014 => (a.fanAckRx true o (leAt p 0 4) (leAt p 4 4) (leAt p 12 4) (missOf p) (bit (leAt p 18 2) 0), true)
  | _ => (a, false)

/-- A record of TYPE 0x15. -/
def Abl.rx15 (a : Abl) (m : Msg) (r : Record) : Abl × Bool :=
  let p := r.payload
  let o := bits m.origin 0 20
  match r.code with
  | 0x0003 => (a.scrubDoneRx (leAt p 0 4) o, true)
  | 0x0010 =>
    let (op, q) := syncOfBytes p
    (a.on fun n => if bit m.dest 20 then (n.abortTimed op r).syncBcast op q o else (n.abortTimed op r).syncUpdate op q o, true)
  | 0x0011 => (a.on fun n => n.syncStateRx (syncOfBytes p).2 o, true)
  | 0x0012 => (a.fenceRx o p, true)
  | _ => (a, false)

/-- A record of TYPE 0x18, from a die of the tray. -/
def Abl.rx18 (a : Abl) (m : Msg) (r : Record) : Abl × Bool :=
  let p := r.payload
  let o := bits m.origin 0 20
  match r.code with
  | 0x0001 => ((a.snoopData o p).verData o p, true)
  | 0x0002 => (a.skippedRx o p, true)
  | 0x0003 => (a.chkMismatchRx o p, true)
  | 0x0004 => (a.summaryRx o p, true)
  | _ => (a, false)

/-- A record of TYPE 0x19 (R451): dropped and counted where its JobTag is stale or unknown (R258). -/
def Abl.rx19 (a : Abl) (m : Msg) (r : Record) : Abl × Bool :=
  let p := r.payload
  let o := bits m.origin 0 20
  let known := [1, 2, 3, 4, 5, 6, 7, 0xB, 0x100, 0x101, 0x102].contains r.code
  if !known then (a, false)
  else if 0x100 ≤ r.code then (a.secMsg o r.code p, true)
  else (a.secOfJob r.code (leAt p 0 4) fun a => match r.code with
    | 1 => a.secData o p
    | 2 => a.dieDoneRx o p
    | 3 => a.shareRx o p
    | k => a.secMsg o k p, true)

/-- An EVENT record of a die's sentinel mailbox (R549, R610): DEMAND acts, the others have come as records too. (DESIGN CHOICE: log 70.) -/
def Abl.dieEvent (a : Abl) (port : Nat) (p : List Nat) : Abl :=
  let r := recOfBytes (p.drop 8)
  match slotRead (leAt p 8 1) (leAt p 12 2) with
  | .unwritten => a
  | .malformed => a.on fun n => n.malformed (evSrc .abl)
  | .record => if r.typ = 0x1E && r.code = 0x0004 then a.demandRx port (leAt r.payload 0 2) else a

/-- A record for this sentinel goes to its block, unless its FLAGS give it a LOSS or rate note's payload (R146); of what none takes, alarms and
fleet snapshots go up (R24, R175). -/
def Abl.rxRecord (a : Abl) (port slot : Nat) (m : Msg) (r : Record) : Abl :=
  let o := bits m.origin 0 20
  let die := (a.n.childOf o).filter fun c => decide (c < 16) && a.n.role == 1
  let y :=
    if r.flags % 4 ≠ 0 then (a, false)
    else match r.typ, r.code with
    | 0x14, _ => a.rx14 port slot m r
    | 0x15, _ => a.rx15 m r
    | 0x18, _ => a.rx18 m r
    | 0x19, _ => a.rx19 m r
    | 0x1A, 0x0010 => (a.bwProposal o r.payload, true)
    | 0x1A, 0x0011 => (a.bwDecision (leAt r.payload 0 4) (leAt r.payload 4 4) (leAt r.payload 8 1), true)
    | 0x1E, 0x0010 => (match die with | some c => a.dieEvent c r.payload | none => a, true)
    | _, _ => (match die with | some c => (a.dieFault c r).dieFallback c r | none => a, false)
  if y.2 || !(m.cls == 1 || (r.typ == 0x10 && r.code == 4)) then y.1 else y.1.passUp port m

/-- A frame for this sentinel. (DESIGN CHOICE: log 37.) -/
def Abl.rxFrame (a : Abl) (port slot : Nat) (m : Msg) (k : FrameKind) (args bytes : List Nat) : Abl :=
  let o := bits m.origin 0 20
  match k with
  | .timeReq => a.on fun n => n.timeReqRx port slot o (args.getD 0 0) (n.arrival port slot / 256)
  | .timeResp => a.on fun n => n.timeRespRx port (args.getD 0 0) (args.getD 1 0) (args.getD 2 0) o (n.arrival port slot)
  | .attachRequest => a.attachReq port slot o
  | .attachAck => a.attachAck port
  | .attachRefused => a.on Node.attachFailed
  | .secureStop | .secureDone => a.on fun n => { n with due := n.due ++ [React.secMsg o (args.headD 0) (args.tail.flatMap (le 8))] }
  | .mailboxResp =>
    match a.n.childOf o with
    | some c => if c < 16 && args.getD 0 0 = stOk && args.getD 1 0 = 0x1003 then a.capAck c else a
    | none => a
  | .traceBlock =>
    match a.n.childOf o with
    | some c =>
      if a.traces.any fun t => t.port == c && t.handle == args.getD 0 0 then
        a.traceBlock c (args.getD 0 0) (args.getD 1 0) (args.getD 2 0 == 1) bytes
      else a.passUp port m
    | none => a.passUp port m
  | .other => a.passUp port m
  | .snapAt => a
  | _ => a

/-- MESSAGE_RX at a sentinel (R189, R190, R35, R691). -/
def Abl.msgRx (a : Abl) (port slot : Nat) (m : Msg) : Abl :=
  let a := a.on fun n => n.doneTake port slot m.cls
  if a.n.msgOver m then a.on fun n => n.bump (Reg.LNK_EXPIRED .abl) port
  else match m.body.read (bits m.dest 0 20 == a.n.ident) with
    | .unwritten => a
    | .malformed => a.on fun n => n.malformed (272 + port)
    | .record =>
      if a.n.isCopy m then a
      else
        let a := a.on fun n => n.noteRec m
        if bits m.dest 0 20 ≠ a.n.ident then a.passOn port m
        else match m.body with
          | .record r => a.rxRecord port slot m r
          | .frame k args bytes => a.rxFrame port slot m k args bytes

/-! ## Delivery at a die -/

/-- What a fan-out's KIND does at a die (R261, R452). -/
def Ddu.fanKind (m : FanMsg) (d : Ddu) : Ddu :=
  match m.kind with
  | 1 => d.jobStart m
  | 2 => (d.jobEnd m).ledPhases
  | 3 => d.groupRegister m
  | 4 => d.groupRelease m
  | _ => d.secDeliver m

/-- An operation whose records bear the stamp `t` in place of the present time. -/
def Ddu.atStamp (d : Ddu) (t : Nat) (f : Ddu → Ddu) : Ddu :=
  let now := d.n.now
  (f (d.on fun n => n.wr (Reg.TIME_NS .ddu) 0 (t % 2 ^ 32))).on fun n => n.wr (Reg.TIME_NS .ddu) 0 now

/-- SNAP_AT passes the PCS (R175): FLEET_SNAPSHOT of the snapshot set. -/
def Ddu.fleetSnap (d : Ddu) (snapId : Nat) : Ddu :=
  let n := d.n
  let vs := n.snapSet.map fun k => if n.withheld k then 0 else n.cntWide k % 2 ^ 64
  let tf := b2n (n.bit (Reg.TIME_STATUS .ddu) 0 4) + 2 * b2n n.timex.serverOut + 4 * b2n (n.timeState != tsLocked)
  let jt := d.rd Reg.DDU_JOB_TAG
  d.on fun n => n.emit jt 2 0x10 0x0004 496 (le 4 jt ++ le 4 snapId ++ [tf, 0, 0, 0] ++ le 4 vs.length ++ vs.flatMap fun v => le 8 v)

/-- A lifecycle operation on the die's own fuses (R644, R647). -/
def Ddu.lifecycleOp (d : Ddu) (op : Nat) : Ddu :=
  let old := d.bnd.fused.getD (d.n.fld Reg.DDU_STATUS 0 8 3)
  let set (v : Nat) : Ddu :=
    let d := d.dbgEnd
    { d with bnd := { d.bnd with fused := some v } }.on fun n => n.setFld Reg.DDU_STATUS 0 8 3 v
  match op with
  | 1 => if old = 0 then set 1 else d
  | 2 => if old = 1 then set 3 else d
  | 3 => if old = 1 ∨ old = 3 then set 4 else d
  | _ => d

/-- A record for this die. -/
def Ddu.rxRecord (d : Ddu) (m : Msg) (r : Record) : Ddu :=
  let p := r.payload
  let o := bits m.origin 0 20
  match r.typ, r.code with
  | 0x14, 0x0010 => let f := fanOfBytes p; d.fanArrive f (Ddu.fanKind f)
  | 0x15, 0x0010 =>
    let (op, q) := syncOfBytes p
    d.on fun n => if bit m.dest 20 then (n.abortTimed op r).syncBcast op q o else (n.abortTimed op r).syncUpdate op q o
  | 0x15, 0x0011 => d.on fun n => n.syncStateRx (syncOfBytes p).2 o
  | _, _ => d

/-- A frame for this die. -/
def Ddu.rxFrame (d : Ddu) (m : Msg) (k : FrameKind) (args bytes : List Nat) : Ddu :=
  match k with
  | .timeResp => d.on fun n => n.timeRespRx 0 (args.getD 0 0) (args.getD 1 0) (args.getD 2 0) (bits m.origin 0 20) (if n.inFallback then n.stamp else n.arrival 0 0)
  | .snapAt => d.atStamp (d.n.arrival 0 0 / 256) fun d => d.fleetSnap (args.getD 0 0 % 2 ^ 32)
  | .secureStop => if args.getD 1 0 = d.jobTag then d.secHold (args.headD 0 == 0x105) else d
  | .mailbox => d.postCmd { path := 3, mb := 4, code := args.getD 0 0, tag := args.getD 0 0, params := bytes }
  | .other => if args.head? = some 0x0D05 then d.lifecycleOp (leAt bytes 0 1) else d
  | _ => d

/-- A message that this die takes. -/
def Ddu.take (d : Ddu) (m : Msg) : Ddu :=
  match m.body.read true with
  | .unwritten => d
  | .malformed => d.on fun n => n.malformed 503
  | .record =>
    if d.n.isCopy m then d
    else
      let d := d.on fun n => n.noteRec m
      match m.body with
      | .record r => if r.flags % 4 ≠ 0 then d else d.rxRecord m r
      | .frame k args bytes => d.rxFrame m k args bytes

/-- MESSAGE_RX at a DDU: its own, or one that it passes to a sibling's ring (R204, R205). Until the write of R194 it has no index and takes
every message. (DEDUCED: log 34.) -/
def Ddu.msgRx (d : Ddu) (m : Msg) : Ddu :=
  let d := d.on fun n => n.doneTake 0 0 m.cls
  if d.n.msgOver m then d.on fun n => n.bump (Reg.LNK_EXPIRED .ddu) 0
  else if bits m.dest 0 20 = d.n.ident || !d.n.bit Reg.DDU_DIE_INDEX 0 31 then d.take m
  else if m.hops = 0 then d.on fun n => n.bump (Reg.LNK_EXPIRED .ddu) 0
  else d.toRing (Config.dieRing (bits m.dest 0 20)) { m with hops := m.hops - 1 }

/-- FB_RING_MESSAGE (R203, R204, R166): a message lands in this die's ring.  One for itself it takes; a guest's goes out on its lane unchanged; a
guest's TIME_REQ it answers at its fabric port. (DESIGN CHOICE: log 33.) -/
def Ddu.ringRx (d : Ddu) (m : Msg) : Ddu :=
  let o := bits m.origin 0 20
  let d := (d.ringStore m).guestSeen o
  if d.n.msgOver m then d.on fun n => n.bump (Reg.LNK_EXPIRED .ddu) 0
  else match m.body with
    | .frame .fbRequest _ _ => d.fbGuest o (Config.dieRing o)
    | .frame .fbRefused _ _ => if d.n.bit Reg.DDU_STATUS 0 7 && d.fb.accepted then d.fbRequest (d.fb.entry + 1) else d
    | .frame .timeReq _ _ =>
      d.guestTime o (d.n.stamp / 256)
    | _ =>
      if bits m.dest 0 20 = d.n.ident && !d.isGuest o then d.take m
      else if d.isGuest o then d.on fun n => n.queueAt 0 0 m 0 (o + 1)
      else d

end Sys2Proof.Machine
end

