-- ==== Sys2Proof/Machine/Message.lean ====
section
/-!
DEFINITION. The commands by which whole messages and launched frames arrive.
-/

namespace Sys2Proof.Machine

/-- SNAP_AT_FRAME_RX (R175). -/
def execSnapAtFrameRx (snapId : Word) (s : State) : Res := onDdu s fun d => if d.live then d.fleetSnap snapId else d

/-- MESSAGE_RX (R189, R190): a whole message on a port and slot; it belongs to the data tree or to the link. -/
def execMessageRx (dev : Dev) (port slot : Word) (m : Msg) (s : State) : Res :=
  match dev with
  | .ddu => onDdu s fun d => if d.live then d.msgRx m else d
  | .abl => onAbl s fun a => a.msgRx port slot m

/-- FB_RING_MESSAGE (R204). -/
def execFbRingMessage (m : Msg) (s : State) : Res := onDdu s fun d => if d.live then d.ringRx m else d

end Sys2Proof.Machine
end

