-- ==== Sys2Proof/Machine/Parents.lean ====
section
/-!
DEFINITION. The commands of chapter 01.
-/

namespace Sys2Proof.Machine

/-- ABORT_COPY_RX (R29): a copy from either tree, naming the gate to fail. -/
def execAbortCopyRx (dev : Dev) (origin : Word) (q : SyncReq) (s : State) : Res :=
  match dev with
  | .ddu => onDdu s fun d => if d.live then d.on fun n => n.abortCopy q origin else d
  | .abl => onAbl s fun a => a.on fun n => n.abortCopy q origin

/-- PARENT_LOST (R33, R37). -/
def execParentLost (s : State) : Res := onAbl s fun a => a.on Node.parentLost

/-- ATTACH_REQUEST_RX (R34): from `child` on a port and slot. -/
def execAttachRequestRx (port slot child : Word) (s : State) : Res := onAbl s fun a => a.attachReq port slot child

/-- ATTACH_ACK_RX (R35, R37, R280). -/
def execAttachAckRx (port : Word) (s : State) : Res := onAbl s fun a => a.attachAck port

/-- ATTACH_REFUSED_RX (R37). -/
def execAttachRefusedRx (s : State) : Res := onAbl s fun a => a.on Node.attachFailed

/-- ATTACH_RESEND_TIMER (R37): once. -/
def execAttachResendTimer (s : State) : Res :=
  onAbl s fun a => a.on fun n =>
    if n.parent.st = psAttaching && !n.parent.resent then
      ({ n with parent := { n.parent with resent := true } } : Node).attachRequest true
    else n

/-- ATTACH_TIMEOUT (R37). -/
def execAttachTimeout (s : State) : Res := onAbl s fun a => a.on Node.attachFailed

/-- ORPHAN_RETRY (R37). -/
def execOrphanRetry (s : State) : Res :=
  onAbl s fun a => a.on fun n => if n.parent.st = psOrphan then (n.attachRequest false).attachRequest true else n

end Sys2Proof.Machine
end

