-- ==== Sys2Proof/Machine/Power.lean ====
section
/-!
DEFINITION. The commands of chapter 15.
-/

namespace Sys2Proof.Machine

/-- SLACK_ENTRY_DONE (R539, R541, R636): the memory behind the sentinel holds nothing. -/
def execSlackEntryDone (s : State) : Res := onAbl s Abl.slackDone

/-- SENTINEL_WAKE (R540, R541). -/
def execSentinelWake (causes : Word) (s : State) : Res := onAbl s fun a => a.wakeUp causes

/-- SENTINEL_WAKE_DONE (R540, R541). -/
def execSentinelWakeDone (s : State) : Res := onAbl s Abl.wakeDone

/-- WAKE_AT_DUE (R540). -/
def execWakeAtDue (s : State) : Res := onAbl s Abl.wakeAt

/-- DOMAIN_DEMAND (R537, R541). -/
def execDomainDemand (mask : Word) (s : State) : Res := onAbl s fun a => a.domDemand mask

/-- DOMAIN_READY (R537). -/
def execDomainReady (k : Word) (s : State) : Res := onAbl s fun a => a.domReady k

/-- DOMAIN_IDLE_EXPIRY (R537, R541). -/
def execDomainIdleExpiry (k : Word) (s : State) : Res := onAbl s fun a => a.domIdle k

/-- DDU_SLACK_EXIT (R543): causes of R565, 3 signal, 4 mailbox, 5 HOST_ACTIVE, 6 report or marker. -/
def execDduSlackExit (cause : Word) (s : State) : Res := onDdu s fun d => if d.live then d.arouse cause else d

/-- BUDGET_DIVISION (R546, R547). -/
def execBudgetDivision (s : State) : Res := onAbl s Abl.divide

/-- CAP_ACK_RX (R547, R548). -/
def execCapAckRx (port : Word) (s : State) : Res := onAbl s fun a => a.capAck port

/-- CAP_STALE (R548). -/
def execCapStale (s : State) : Res := onDdu s Ddu.capStale

/-- DEMAND_REPORT (R549, R614). -/
def execDemandReport (s : State) : Res :=
  onDdu s fun d =>
    if d.pwr = 0 then d
    else d.on fun n => n.evRec 0x1E 0x0004 506 (le 2 (min 65535 d.demandW) ++ le 2 ((d.phaseNow).getD 0xFFFF) ++ zeros 4)

/-- PHASE_SIGNATURE_TICK (R551): the duty of each class over the millisecond, in sixteenths. -/
def execPhaseSignatureTick (duty : List Word) (s : State) : Res := onDdu s fun d => d.phaseTick duty

/-- POWER_LOOP_WINDOW (R553 to R562). -/
def execPowerLoopWindow (s : State) : Res := onDdu s Ddu.loopWindow

/-- RAIL_RECAL_END (R562). -/
def execRailRecalEnd (r : Word) (s : State) : Res := onDdu s fun d => d.recalEnd r

/-- RAIL_WATCH_END (R562). -/
def execRailWatchEnd (r : Word) (s : State) : Res := onDdu s fun d => d.watchEnd r

/-- PHASE_TABLE_SAVE (R553). -/
def execPhaseTableSave (s : State) : Res := onDdu s fun d => if d.pwr = 0 then d else d.ledPhases

/-- SENTINEL_POWER_LOOP (R564). -/
def execSentinelPowerLoop (logic memory : Word) (temp : Int) (s : State) : Res := onAbl s fun a => a.powerLoop logic memory temp

end Sys2Proof.Machine
end

