-- ==== Sys2Proof/Machine/Reduction.lean ====
section
/-!
DEFINITION. The commands of chapter 07 but for the Uplink Scheduler's.
-/

namespace Sys2Proof.Machine

/-- SUMMARY_WINDOW_CLOSE (R212 to R218). -/
def execSummaryWindowClose (s : State) : Res := onDdu s fun d => if d.alive then d.sumClose else d

/-- DIE_SUMMARY_RX (R219 to R225): from a die, with its record. -/
def execDieSummaryRx (origin : Word) (r : Record) (s : State) : Res :=
  onAbl s fun a => if a.n.bit Reg.ABL_RED_CTRL 0 0 then a.dieSummary origin r.payload else a

/-- NODE_SUMMARY_RX (R219 to R228). -/
def execNodeSummaryRx (origin : Word) (r : Record) (s : State) : Res :=
  onAbl s fun a => if a.n.bit Reg.ABL_RED_CTRL 0 0 then a.nodeSummary origin r.payload else a

/-- INPUT_WINDOW_CLOSE (R225 to R232): window `w` of the slots with an input period. -/
def execInputWindowClose (period w : Word) (s : State) : Res := onAbl s fun a => a.windowClose period w

/-- MET_SLOT_WRITE (R224, R229, R230, R256). -/
def execMetSlotWrite (who : Requester) (m v : Word) (s : State) : Res := ablWrite who s fun a => a.metWrite m v

/-- BARRIER_ARRIVAL_RX (R234, R235). -/
def execBarrierArrivalRx (origin : Word) (r : Record) (s : State) : Res := onAbl s fun a => a.arrival origin r.payload

/-- BARRIER_PART_RX (R236). -/
def execBarrierPartRx (origin : Word) (r : Record) (s : State) : Res := onAbl s fun a => a.barrierPart origin r.payload

/-- BARRIER_TIMEOUT (R236). -/
def execBarrierTimeout (jobtag tag epoch : Word) (s : State) : Res := onAbl s fun a => a.barTimeout jobtag tag epoch

/-- FAN_START (R239, R244). -/
def execFanStart (who : Requester) (i : Word) (s : State) : Res := ablWrite who s fun a => a.fanStart i

/-- FAN_PENDING_RX (R242). -/
def execFanPendingRx (origin jobtag seq : Word) (s : State) : Res := onAbl s fun a => a.fanPendingRx origin jobtag seq

/-- FAN_ACK_RX (R242). -/
def execFanAckRx (origin jobtag seq acked : Word) (miss : List (Word × Word)) (trunc : Bool) (s : State) : Res :=
  onAbl s fun a => a.fanAckRx false origin jobtag seq acked miss trunc

/-- FAN_ACK_TIMEOUT (R242). -/
def execFanAckTimeout (jobtag seq c : Word) (s : State) : Res := onAbl s fun a => a.fanTimeout jobtag seq c

/-- FAN_PENDING_TIMER (R242). -/
def execFanPendingTimer (jobtag seq : Word) (s : State) : Res :=
  onAbl s fun a => ((a.fansOf jobtag seq).filter fun x => !x.done).foldl Abl.fanPending a

/-- FAN_DEADLINE (R242). -/
def execFanDeadline (jobtag seq : Word) (s : State) : Res := onAbl s fun a => a.fanDeadline jobtag seq

/-- FAN_RELAY_RX (R243). -/
def execFanRelayRx (port slot sender origin failed requester : Word) (m : FanMsg) (s : State) : Res :=
  onAbl s fun a => a.relayRx failed requester port slot sender origin m

/-- FAN_RELAY_ACK_RX (R243). -/
def execFanRelayAckRx (origin jobtag seq acked : Word) (miss : List (Word × Word)) (trunc : Bool) (s : State) : Res :=
  onAbl s fun a => a.fanAckRx true origin jobtag seq acked miss trunc

/-- FAN_KEEP_EXPIRY (R241). -/
def execFanKeepExpiry (dev : Dev) (jobtag seq : Word) (s : State) : Res :=
  match dev with
  | .ddu => onDdu s fun d => { d with job := { d.job with kept := d.job.kept.filter (fun k => k != (jobtag, seq)), refused := d.job.refused.filter fun k => k != (jobtag, seq) } }
  | .abl => onAbl s fun a => { a with fans := a.fans.filter fun x => !(x.msg.jobtag == jobtag && x.msg.seq == seq && x.done) }

end Sys2Proof.Machine
end

