-- ==== Sys2Proof/Machine/Securing.lean ====
section
/-!
DEFINITION. The commands of chapter 12, and JOB_ENTRY_SCRUB_DONE, which its scrub belongs to.
-/

namespace Sys2Proof.Machine

/-- A securing record of a CODE reaches the sentinel: of a stale or unknown JobTag it is dropped and counted (R258). -/
def secRx (code jobtag : Nat) (s : State) (f : Abl → Abl) : Res := onAbl s fun a => a.secOfJob code jobtag f

/-- A securing fan-out reaches a sentinel or a die. -/
def secDeliver (dev : Dev) (kind port slot sender origin : Nat) (m : FanMsg) (s : State) : Res :=
  let m := fanAs kind m
  match dev with
  | .ddu => onDdu s fun d => if d.live then d.fanArrive m fun d => d.secDeliver m else d
  | .abl => onAbl s fun a => a.fanRx port slot sender origin m

/-- JOB_ENTRY_SCRUB_DONE (R264, R449, R450). -/
def execJobEntryScrubDone (j : Word) (s : State) : Res := onAbl s fun a => a.jobScrubDone j

/-- SECURE_REQUEST_TIMER (R424). -/
def execSecureRequestTimer (s : State) : Res := onAbl s Abl.secTimer

/-- SECURE_REQUEST_RX (R436, R440). -/
def execSecureRequestRx (origin : Word) (r : Record) (s : State) : Res := secRx 5 (leAt r.payload 0 4) s fun a => a.requestRx origin r.payload

/-- SECURE_CUT_DELIVER (R426, R429, R452). -/
def execSecureCutDeliver (dev : Dev) (port slot sender origin : Word) (m : FanMsg) (s : State) : Res :=
  secDeliver dev 0x10 port slot sender origin m s

/-- SECURE_COMMIT_DELIVER (R438). -/
def execSecureCommitDeliver (dev : Dev) (port slot sender origin : Word) (m : FanMsg) (s : State) : Res :=
  secDeliver dev 0x11 port slot sender origin m s

/-- SECURE_ABANDON_DELIVER (R436). -/
def execSecureAbandonDeliver (dev : Dev) (port slot sender origin : Word) (m : FanMsg) (s : State) : Res :=
  secDeliver dev 0x12 port slot sender origin m s

/-- SECURE_RELEASE_DELIVER (R440). -/
def execSecureReleaseDeliver (dev : Dev) (port slot sender origin : Word) (m : FanMsg) (s : State) : Res :=
  secDeliver dev 0x13 port slot sender origin m s

/-- RESTORE_DELIVER (R441, R442): `kept` are the member dies whose DDU_SEC_RETAINED equals CUT_ID. -/
def execRestoreDeliver (dev : Dev) (port slot sender origin : Word) (m : FanMsg) (kept : List Word) (s : State) : Res :=
  match dev with
  | .ddu => secDeliver dev 0x14 port slot sender origin m s
  | .abl => onAbl s fun a => (a.onSec fun z => { z with kept := some kept }).fanRx port slot sender origin (fanAs 0x14 m)

/-- SECURE_POST (R427). -/
def execSecurePost (who : Requester) (slot : Word) (s : State) : Res := dduFast who s fun d => d.secPost slot

/-- SECURE_SLOT_SERVE (R427): `data` is what the host fabric answers for each range. -/
def execSecureSlotServe (data : List (List Byte)) (s : State) : Res := onDdu s fun d => d.secServe data

/-- SECURE_DIE_DONE (R427). -/
def execSecureDieDone (s : State) : Res := onDdu s Ddu.secDieDone

/-- SECURE_LATE (R426, R427). -/
def execSecureLate (who : Requester) (s : State) : Res := dduFast who s Ddu.secLate

/-- SECURE_DIE_DONE_RX (R437). -/
def execSecureDieDoneRx (origin : Word) (r : Record) (s : State) : Res := secRx 2 (leAt r.payload 0 4) s fun a => a.dieDoneRx origin r.payload

/-- SECURE_DATA_RX (R428, R439). -/
def execSecureDataRx (origin : Word) (r : Record) (s : State) : Res := secRx 1 (leAt r.payload 0 4) s fun a => a.secData origin r.payload

/-- SHARE_DATA_RX (R431 to R435, R441). -/
def execShareDataRx (origin : Word) (r : Record) (s : State) : Res := secRx 3 (leAt r.payload 0 4) s fun a => a.shareRx origin r.payload

/-- SHARE_ACK_RX (R436, R437). -/
def execShareAckRx (origin : Word) (r : Record) (s : State) : Res := secRx 4 (leAt r.payload 0 4) s fun a => a.shareAckRx origin r.payload

/-- TRAY_CUT_DONE_RX (R436). -/
def execTrayCutDoneRx (origin : Word) (r : Record) (s : State) : Res := secRx 6 (leAt r.payload 0 4) s fun a => a.trayCutDone origin r.payload

/-- PASS_LIMIT_EXPIRY (R436). -/
def execPassLimitExpiry (s : State) : Res := onAbl s Abl.passLimit

/-- SHARES_LOST_RX (R435). -/
def execSharesLostRx (_origin : Word) (r : Record) (s : State) : Res := secRx 11 (leAt r.payload 0 4) s fun a => a.sharesLostRx r.payload

/-- RESTORE_DONE_RX (R441): of a tray, with the dies and bytes that it restored. -/
def execRestoreDoneRx (origin jobtag dies bytes : Word) (s : State) : Res := onAbl s fun a => a.restoreDoneRx origin jobtag dies bytes

/-- SECURE_HOLD_EXPIRY (R439). -/
def execSecureHoldExpiry (s : State) : Res := onAbl s Abl.holdExpiry

/-- CMP_SUBMIT (R446, R457). -/
def execCmpSubmit (q : Word) (s : State) : Res := onAbl s fun a => a.cmpSubmit q

/-- CMP_DESC_DONE (R447, R458): the bytes that an undefined destination holds, and those of addresses that R633 does not have, are open. -/
def execCmpDescDone (q : Word) (s : State) : Res :=
  let d := s.abl.n.rd Reg.ABL_CMP_DESC q
  let src := Cells.load s.mem (bits d 0 64) (bits d 128 64) fun i => Config.freeNat (s.free + i)
  let junk (i : Nat) : Nat := Config.freeNat (s.free + src.length + i) % 256
  onAbl { s with free := s.free + src.length + bits d 192 64 } fun a => a.cmpDone q src junk

end Sys2Proof.Machine
end

