-- ==== Sys2Proof/Machine/Tree.lean ====
section
/-!
DEFINITION. The commands of chapter 09.
-/

namespace Sys2Proof.Machine

/-- TREE_SUBMIT (R295). -/
def execTreeSubmit (who : Requester) (v : Word) (s : State) : Res := ablWrite who s fun a => a.treeSubmit v

/-- TREE_SAMPLE_COMPLETE (R304 to R310): binding `i`, or 128 for a submit, subject `c`, and the banks in which a lookup met
a parity error. -/
def execTreeSampleComplete (i c : Word) (parity : List Word) (s : State) : Res := onAbl s fun a => a.treeComplete i c parity

/-- RISK_LEVEL_FALL (R43, R310). -/
def execRiskLevelFall (d : Word) (s : State) : Res := onAbl s fun a => a.riskFall d

/-- RISK_SCORE_STALE (R310). -/
def execRiskScoreStale (d : Word) (s : State) : Res := onAbl s fun a => a.riskUpdate d

/-- MODEL_LOAD_DONE (R319): `ok` says that every entry read back as written. -/
def execModelLoadDone (slot : Word) (ok : Bool) (s : State) : Res := onAbl s fun a => a.modelLoaded slot ok

/-- TREE_SCRUB_PASS (R320): the rows rewritten by bank. -/
def execTreeScrubPass (fixed : List (Word × Word)) (s : State) : Res := onAbl s fun a => a.treeScrub fixed

/-- TREE_WAKE_DONE (R322). -/
def execTreeWakeDone (s : State) : Res :=
  onAbl s fun a => if a.tree.samples.any fun x => x.waiting then a.treeOn else a

/-- LRB_EVALUATE (R331). -/
def execLrbEvaluate (s : State) : Res := onDdu s fun d => if d.live then d.lrbDue true else d

/-- LRB_FLOOR_EXPIRY (R332). -/
def execLrbFloorExpiry (c : Word) (s : State) : Res := onDdu s fun d => if d.live then d.floorExpiry c else d

end Sys2Proof.Machine
end

