-- ==== Sys2Proof/Machine/Verdicts.lean ====
section
/-!
DEFINITION. The commands of chapter 11.
-/

namespace Sys2Proof.Machine

/-- CHK_LAST_CLEAR (R384). -/
def execChkLastClear (who : Requester) (s : State) : Res := dduFast who s fun d => d.wr Reg.DDU_CHK_LAST 0 0

/-- CELL_TEDGE_WRITE (R405). -/
def execCellTedgeWrite (who : Requester) (i v : Word) (s : State) : Res := dduFast who s fun d => d.tedgeWrite i v

/-- SNOOP_POST (R388): the slot's fields are those of its registers. -/
def execSnoopPost (who : Requester) (slot : Word) (s : State) : Res := dduFast who s fun d => d.snoopPost slot

/-- SNOOP_SLOT_SERVE (R389, R390, R392): `data` is what the fabric answers for the ranges. -/
def execSnoopSlotServe (data : List (List Byte)) (s : State) : Res := onDdu s fun d => d.snoopServe data

/-- SNOOP_SLOT_COMPLETE (R389, R392). -/
def execSnoopSlotComplete (s : State) : Res := onDdu s Ddu.snoopComplete

/-- CHK_MISMATCH_RX (R397, R398, R406). -/
def execChkMismatchRx (origin : Word) (r : Record) (s : State) : Res := onAbl s fun a => a.chkMismatchRx origin r.payload

/-- EPOCH_SUMMARY_RX (R399). -/
def execEpochSummaryRx (origin : Word) (r : Record) (s : State) : Res := onAbl s fun a => a.summaryRx origin r.payload

/-- EPOCH_FENCE_RX (R391, R397, R400). -/
def execEpochFenceRx (origin : Word) (r : Record) (s : State) : Res := onAbl s fun a => a.fenceRx origin r.payload

/-- VERDICT_WAIT_TIMEOUT (R397, R400). -/
def execVerdictWaitTimeout (s : State) : Res := onAbl s Abl.verTimeouts

/-- FAILURE_CLASSIFY (R406 to R409, R418). -/
def execFailureClassify (s : State) : Res := onAbl s Abl.classify

/-- CLASSIFY_TIMEOUT (R406, R418). -/
def execClassifyTimeout (s : State) : Res := onAbl s Abl.classifyLate

/-- REPEAT_TIMEOUT (R408). -/
def execRepeatTimeout (s : State) : Res := onAbl s Abl.repeatLate

/-- UNIT_OBSERVATION_CLEAR (R410). -/
def execUnitObservationClear (s : State) : Res := onAbl s Abl.obsClear

/-- CAMPAIGN_CELL_DWELL (R414). -/
def execCampaignCellDwell (handle : Word) (s : State) : Res := onAbl s fun a => a.campDwell handle

/-- CAMPAIGN_CELL_LEAVE (R414). -/
def execCampaignCellLeave (handle : Word) (s : State) : Res := onAbl s fun a => a.campLeave handle

/-- CAMPAIGN_TIME_LIMIT (R414). -/
def execCampaignTimeLimit (handle : Word) (s : State) : Res := onAbl s fun a => a.campLimit handle

end Sys2Proof.Machine
end

