-- ==== Sys2Proof/Machine/Work.lean ====
section
/-!
DEFINITION. Catalogue commands of R619: jobs, groups, loads, verdicts, securing, the ledger and the trace.
-/

namespace Sys2Proof.Machine

/-- JOB_START (R261, R264). -/
def execJobStart (c : Cmd) (s : State) : Res := ablCmd s c 0x0601 fun a => a.jobStartCmd c

/-- JOB_END (R261). -/
def execJobEnd (c : Cmd) (s : State) : Res := ablCmd s c 0x0602 fun a => a.jobEndCmd c

/-- GROUP_REGISTER (R266). -/
def execGroupRegister (c : Cmd) (s : State) : Res := ablCmd s c 0x0603 fun a => a.groupRegisterCmd c

/-- GROUP_RELEASE (R261). -/
def execGroupRelease (c : Cmd) (s : State) : Res := ablCmd s c 0x0604 fun a => a.groupReleaseCmd c

/-- RANKMAP_LOAD (R265). -/
def execRankmapLoad (c : Cmd) (s : State) : Res := ablCmd s c 0x0605 fun a => a.rankmapLoad c

/-- MET_LOAD (R224, R229, R230). -/
def execMetLoad (c : Cmd) (s : State) : Res := ablCmd s c 0x0606 fun a => a.metLoad c

/-- USCH_SET (R252, R253). -/
def execUschSet (c : Cmd) (s : State) : Res := ablCmd s c 0x0607 fun a => a.uschSet c

/-- MODEL_LOAD (R317, R319); `host` is what host memory gives where the reference names it. -/
def execModelLoad (c : Cmd) (host : Option (List Byte)) (s : State) : Res := ablCmd s c 0x0701 fun a => a.modelLoadCmd c host (stagedBytes s)

/-- MODEL_UNLOAD (R319). -/
def execModelUnload (c : Cmd) (s : State) : Res := ablCmd s c 0x0702 fun a => a.modelUnloadCmd c

/-- MODEL_BIND (R309, R312, R313). -/
def execModelBind (c : Cmd) (s : State) : Res := ablCmd s c 0x0703 fun a => a.modelBindCmd c

/-- PROG_LOAD (R361, R362); `host` is what host memory gives where the reference names it. -/
def execProgLoad (c : Cmd) (host : Option (List Byte)) (s : State) : Res := ablCmd s c 0x0801 fun a => a.progLoadCmd c host (stagedBytes s)

/-- PROG_UNLOAD (R362). -/
def execProgUnload (c : Cmd) (s : State) : Res := ablCmd s c 0x0802 fun a => a.progUnloadCmd c

/-- CTX_BIND (R363). -/
def execCtxBind (c : Cmd) (s : State) : Res := ablCmd s c 0x0803 fun a => a.ctxBindCmd c

/-- CTX_UNBIND (R364). -/
def execCtxUnbind (c : Cmd) (s : State) : Res := ablCmd s c 0x0804 fun a => a.ctxUnbindCmd c

/-- GRID_SWEEP (R619). -/
def execGridSweep (c : Cmd) (s : State) : Res := ablCmd s c 0x0805 fun a => a.gridSweep c

/-- VERDICT_CONFIG (R420, R421). -/
def execVerdictConfig (c : Cmd) (s : State) : Res := ablCmd s c 0x0901 fun a => a.verdictConfig c

/-- CAMPAIGN_START (R411). -/
def execCampaignStart (c : Cmd) (s : State) : Res := ablCmd s c 0x0902 fun a => a.campaignCmd c

/-- SEC_POLICY (R429, R430). -/
def execSecPolicy (c : Cmd) (s : State) : Res := ablCmd s c 0x0A01 fun a => a.secPolicy c

/-- RESTORE (R441). -/
def execRestore (c : Cmd) (s : State) : Res := ablCmd s c 0x0A02 fun a => a.restoreJob c

/-- RESTORE_LOADED (R441). -/
def execRestoreLoaded (c : Cmd) (s : State) : Res := ablCmd s c 0x0A03 fun a => let r := a.restoreLoaded (plainHandle (c.p 0 4)) (c.p 4 4) (c.p 8 1); (r.1, Ans.of r.2)

/-- LEDGER_COMPACT (R517). -/
def execLedgerCompact (c : Cmd) (s : State) : Res := ablCmd s c 0x0B01 fun a => a.compactCmd c

/-- LEDGER_EXPORT (R527). -/
def execLedgerExport (c : Cmd) (s : State) : Res := ablCmd s c 0x0B02 fun a => a.exportStart c

/-- LEDGER_FORMAT_COMMIT (R526). -/
def execLedgerFormatCommit (c : Cmd) (s : State) : Res := ablCmd s c 0x0B03 fun a => a.formatCommit

/-- LEDGER_QUERY (R619). -/
def execLedgerQuery (c : Cmd) (s : State) : Res := ablCmd s c 0x0B04 fun a => (a, a.ledgerQuery c.params)

/-- TRACE_EXPORT (R139). -/
def execTraceExport (c : Cmd) (s : State) : Res := ablCmd s c 0x0C01 fun a => a.traceStart c

/-- TRACE_TRIGGER (R138). -/
def execTraceTrigger (c : Cmd) (s : State) : Res := ablCmd s c 0x0C02 fun a => a.traceTrigger c


end Sys2Proof.Machine
end

