-- ==== Sys2Proof/Machine/Dispatch.lean ====
section
/-!
DEFINITION. One arm for each command.
-/

namespace Sys2Proof.Machine

def exec (i : Instr) (s : State) : Host.Outcome State Fault Refusal :=
  match i with
  | .registerWrite dev who off size v => Sys2Proof.Machine.execRegisterWrite dev who off size v s
  | .abortCopyRx dev origin q => Sys2Proof.Machine.execAbortCopyRx dev origin q s
  | .parentLost => Sys2Proof.Machine.execParentLost s
  | .attachRequestRx port slot child => Sys2Proof.Machine.execAttachRequestRx port slot child s
  | .attachAckRx port => Sys2Proof.Machine.execAttachAckRx port s
  | .attachRefusedRx => Sys2Proof.Machine.execAttachRefusedRx s
  | .attachResendTimer => Sys2Proof.Machine.execAttachResendTimer s
  | .attachTimeout => Sys2Proof.Machine.execAttachTimeout s
  | .orphanRetry => Sys2Proof.Machine.execOrphanRetry s
  | .eventBusCycle slots => Sys2Proof.Machine.execEventBusCycle slots s
  | .preaccFold => Sys2Proof.Machine.execPreaccFold s
  | .markerAccept m => Sys2Proof.Machine.execMarkerAccept m s
  | .markerProcess => Sys2Proof.Machine.execMarkerProcess s
  | .checksumReportAccept r => Sys2Proof.Machine.execChecksumReportAccept r s
  | .abftCheck => Sys2Proof.Machine.execAbftCheck s
  | .hostActiveRise => Sys2Proof.Machine.execHostActiveRise s
  | .hostActiveFall => Sys2Proof.Machine.execHostActiveFall s
  | .fastDomainStart => Sys2Proof.Machine.execFastDomainStart s
  | .fastDomainReady => Sys2Proof.Machine.execFastDomainReady s
  | .fastIdleExpiry => Sys2Proof.Machine.execFastIdleExpiry s
  | .droopDetect => Sys2Proof.Machine.execDroopDetect s
  | .clkStretchHoldEnd => Sys2Proof.Machine.execClkStretchHoldEnd s
  | .regAckRx => Sys2Proof.Machine.execRegAckRx s
  | .regReqTimeout => Sys2Proof.Machine.execRegReqTimeout s
  | .subresetStart who v => Sys2Proof.Machine.execSubresetStart who v s
  | .subresetDrainEnd b => Sys2Proof.Machine.execSubresetDrainEnd b s
  | .subresetDone b => Sys2Proof.Machine.execSubresetDone b s
  | .dduResetAssert => Sys2Proof.Machine.execDduResetAssert s
  | .dduResetRelease => Sys2Proof.Machine.execDduResetRelease s
  | .dduAliveRaise => Sys2Proof.Machine.execDduAliveRaise s
  | .dduAonPgoodFall => Sys2Proof.Machine.execDduAonPgoodFall s
  | .corePgoodFall => Sys2Proof.Machine.execCorePgoodFall s
  | .cntWrap k => Sys2Proof.Machine.execCntWrap k s
  | .cntChained k => Sys2Proof.Machine.execCntChained k s
  | .cntSelWrite who k v => Sys2Proof.Machine.execCntSelWrite who k v s
  | .cntChainRead who k => Sys2Proof.Machine.execCntChainRead who k s
  | .cntClear who v => Sys2Proof.Machine.execCntClear who v s
  | .cntFreezeWrite who v => Sys2Proof.Machine.execCntFreezeWrite who v s
  | .cntFreezeExpiry => Sys2Proof.Machine.execCntFreezeExpiry s
  | .bwCfgWrite dev who w v => Sys2Proof.Machine.execBwCfgWrite dev who w v s
  | .bwWindowClose dev w => Sys2Proof.Machine.execBwWindowClose dev w s
  | .sensorSample c raw clamp => Sys2Proof.Machine.execSensorSample c raw clamp s
  | .sensorStale c => Sys2Proof.Machine.execSensorStale c s
  | .pcntLatch who => Sys2Proof.Machine.execPcntLatch who s
  | .pcntClear who v => Sys2Proof.Machine.execPcntClear who v s
  | .psampSample core occ pc instr latency tag => Sys2Proof.Machine.execPsampSample core occ pc instr latency tag s
  | .traceTapRetire c pc ev overflow => Sys2Proof.Machine.execTraceTapRetire c pc ev overflow s
  | .tapFifoRecover c pc => Sys2Proof.Machine.execTapFifoRecover c pc s
  | .tracePeriodicSync c pc => Sys2Proof.Machine.execTracePeriodicSync c pc s
  | .traceEnable who v => Sys2Proof.Machine.execTraceEnable who v s
  | .traceDisable who v => Sys2Proof.Machine.execTraceDisable who v s
  | .traceDisableDrainEnd => Sys2Proof.Machine.execTraceDisableDrainEnd s
  | .trigNow who => Sys2Proof.Machine.execTrigNow who s
  | .rearm who => Sys2Proof.Machine.execRearm who s
  | .tracePostDone => Sys2Proof.Machine.execTracePostDone s
  | .traceAreaFull => Sys2Proof.Machine.execTraceAreaFull s
  | .traceSpillBlock => Sys2Proof.Machine.execTraceSpillBlock s
  | .traceSpillRdWrite who v => Sys2Proof.Machine.execTraceSpillRdWrite who v s
  | .traceResume => Sys2Proof.Machine.execTraceResume s
  | .traceApertureRead who off => Sys2Proof.Machine.execTraceApertureRead who off s
  | .traceExportBlock => Sys2Proof.Machine.execTraceExportBlock s
  | .recFreezeWrite dev who v => Sys2Proof.Machine.execRecFreezeWrite dev who v s
  | .recFreezeExpiry dev => Sys2Proof.Machine.execRecFreezeExpiry dev s
  | .recRlWrite dev who j v => Sys2Proof.Machine.execRecRlWrite dev who j v s
  | .timeTick dev => Sys2Proof.Machine.execTimeTick dev s
  | .timeWrap dev => Sys2Proof.Machine.execTimeWrap dev s
  | .slewEnd dev => Sys2Proof.Machine.execSlewEnd dev s
  | .timeNsRead dev => Sys2Proof.Machine.execTimeNsRead dev s
  | .timeIncrWrite dev who slew v => Sys2Proof.Machine.execTimeIncrWrite dev who slew v s
  | .slewTicksWrite dev who v => Sys2Proof.Machine.execSlewTicksWrite dev who v s
  | .timeLoad dev who => Sys2Proof.Machine.execTimeLoad dev who s
  | .acceptJump dev who => Sys2Proof.Machine.execAcceptJump dev who s
  | .timeReqSend dev => Sys2Proof.Machine.execTimeReqSend dev s
  | .timeReqRx dev port slot client delta t2 => Sys2Proof.Machine.execTimeReqRx dev port slot client delta t2 s
  | .timeRespRx dev port t2 t3 flags master => Sys2Proof.Machine.execTimeRespRx dev port t2 t3 flags master s
  | .timeSourceLost dev => Sys2Proof.Machine.execTimeSourceLost dev s
  | .ptpMessageRx port domain src seq m => Sys2Proof.Machine.execPtpMessageRx port domain src seq m s
  | .holdoverAlarm => Sys2Proof.Machine.execHoldoverAlarm s
  | .ppsInEdge => Sys2Proof.Machine.execPpsInEdge s
  | .ppsOutDue => Sys2Proof.Machine.execPpsOutDue s
  | .ppsOutEnd => Sys2Proof.Machine.execPpsOutEnd s
  | .ppsNextWrite who v => Sys2Proof.Machine.execPpsNextWrite who v s
  | .launchEnqueue who => Sys2Proof.Machine.execLaunchEnqueue who s
  | .launchFlush who => Sys2Proof.Machine.execLaunchFlush who s
  | .launchDue => Sys2Proof.Machine.execLaunchDue s
  | .snapAtFrameRx snapId => Sys2Proof.Machine.execSnapAtFrameRx snapId s
  | .flitTime dev p slot => Sys2Proof.Machine.execFlitTime dev p slot s
  | .flitRx dev p slot f => Sys2Proof.Machine.execFlitRx dev p slot f s
  | .messageRx dev port slot m => Sys2Proof.Machine.execMessageRx dev port slot m s
  | .signalDetect dev p slot => Sys2Proof.Machine.execSignalDetect dev p slot s
  | .trainComplete dev p slot peer us peerRestarted => Sys2Proof.Machine.execTrainComplete dev p slot peer us peerRestarted s
  | .trainTimeout dev p slot => Sys2Proof.Machine.execTrainTimeout dev p slot s
  | .signalLost dev p slot => Sys2Proof.Machine.execSignalLost dev p slot s
  | .laneFailure dev p slot cause uncorr => Sys2Proof.Machine.execLaneFailure dev p slot cause uncorr s
  | .noFlitTimeout dev p slot => Sys2Proof.Machine.execNoFlitTimeout dev p slot s
  | .resetNoticeRx dev p slot cause => Sys2Proof.Machine.execResetNoticeRx dev p slot cause s
  | .backoffExpiry dev p slot => Sys2Proof.Machine.execBackoffExpiry dev p slot s
  | .earlyLossWithdraw dev p slot => Sys2Proof.Machine.execEarlyLossWithdraw dev p slot s
  | .lnkCtrlWrite dev who p v => Sys2Proof.Machine.execLnkCtrlWrite dev who p v s
  | .retrain dev who p => Sys2Proof.Machine.execRetrain dev who p s
  | .fallbackExit => Sys2Proof.Machine.execFallbackExit s
  | .fbGuestRequestRx guest addr => Sys2Proof.Machine.execFbGuestRequestRx guest addr s
  | .fbRefusedRx => Sys2Proof.Machine.execFbRefusedRx s
  | .fbListRetry => Sys2Proof.Machine.execFbListRetry s
  | .fbHostSilence => Sys2Proof.Machine.execFbHostSilence s
  | .fbRingMessage m => Sys2Proof.Machine.execFbRingMessage m s
  | .summaryWindowClose => Sys2Proof.Machine.execSummaryWindowClose s
  | .dieSummaryRx origin r => Sys2Proof.Machine.execDieSummaryRx origin r s
  | .nodeSummaryRx origin r => Sys2Proof.Machine.execNodeSummaryRx origin r s
  | .inputWindowClose period w => Sys2Proof.Machine.execInputWindowClose period w s
  | .metSlotWrite who m v => Sys2Proof.Machine.execMetSlotWrite who m v s
  | .barrierArrivalRx origin r => Sys2Proof.Machine.execBarrierArrivalRx origin r s
  | .barrierPartRx origin r => Sys2Proof.Machine.execBarrierPartRx origin r s
  | .barrierTimeout jobtag tag epoch => Sys2Proof.Machine.execBarrierTimeout jobtag tag epoch s
  | .fanStart who j => Sys2Proof.Machine.execFanStart who j s
  | .fanPendingRx origin jobtag seq => Sys2Proof.Machine.execFanPendingRx origin jobtag seq s
  | .fanAckRx origin jobtag seq acked miss trunc => Sys2Proof.Machine.execFanAckRx origin jobtag seq acked miss trunc s
  | .fanAckTimeout jobtag seq c => Sys2Proof.Machine.execFanAckTimeout jobtag seq c s
  | .fanPendingTimer jobtag seq => Sys2Proof.Machine.execFanPendingTimer jobtag seq s
  | .fanDeadline jobtag seq => Sys2Proof.Machine.execFanDeadline jobtag seq s
  | .fanRelayRx port slot sender origin failed requester m => Sys2Proof.Machine.execFanRelayRx port slot sender origin failed requester m s
  | .fanRelayAckRx origin jobtag seq acked miss trunc => Sys2Proof.Machine.execFanRelayAckRx origin jobtag seq acked miss trunc s
  | .fanKeepExpiry dev jobtag seq => Sys2Proof.Machine.execFanKeepExpiry dev jobtag seq s
  | .uschEnqueue p jobtag m => Sys2Proof.Machine.execUschEnqueue p jobtag m s
  | .uschPick p => Sys2Proof.Machine.execUschPick p s
  | .uschSample => Sys2Proof.Machine.execUschSample s
  | .uschJobWrite who k v => Sys2Proof.Machine.execUschJobWrite who k v s
  | .jobStartDeliver dev port slot sender origin m => Sys2Proof.Machine.execJobStartDeliver dev port slot sender origin m s
  | .jobEndDeliver dev port slot sender origin m => Sys2Proof.Machine.execJobEndDeliver dev port slot sender origin m s
  | .groupRegisterDeliver dev port slot sender origin m => Sys2Proof.Machine.execGroupRegisterDeliver dev port slot sender origin m s
  | .groupReleaseDeliver dev port slot sender origin m => Sys2Proof.Machine.execGroupReleaseDeliver dev port slot sender origin m s
  | .scrubComplete => Sys2Proof.Machine.execScrubComplete s
  | .scrubTimeout => Sys2Proof.Machine.execScrubTimeout s
  | .jobHoldExpiry => Sys2Proof.Machine.execJobHoldExpiry s
  | .jobEntryScrubDone j => Sys2Proof.Machine.execJobEntryScrubDone j s
  | .jobGuardExpiry j => Sys2Proof.Machine.execJobGuardExpiry j s
  | .syncAlloc dev f q => Sys2Proof.Machine.execSyncAlloc dev f q s
  | .syncSet dev f q => Sys2Proof.Machine.execSyncSet dev f q s
  | .syncAdd dev f q => Sys2Proof.Machine.execSyncAdd dev f q s
  | .syncMax dev f q => Sys2Proof.Machine.execSyncMax dev f q s
  | .syncFail dev f q => Sys2Proof.Machine.execSyncFail dev f q s
  | .syncArm dev f q => Sys2Proof.Machine.execSyncArm dev f q s
  | .syncRelease dev f q => Sys2Proof.Machine.execSyncRelease dev f q s
  | .syncQuery dev f q => Sys2Proof.Machine.execSyncQuery dev f q s
  | .syncReach dev f q => Sys2Proof.Machine.execSyncReach dev f q s
  | .syncStateApply dev f q => Sys2Proof.Machine.execSyncStateApply dev f q s
  | .syncStateRx dev origin q => Sys2Proof.Machine.execSyncStateRx dev origin q s
  | .syncGuardExpiry dev k => Sys2Proof.Machine.execSyncGuardExpiry dev k s
  | .sourceFence who => Sys2Proof.Machine.execSourceFence who s
  | .sourceFenceComplete => Sys2Proof.Machine.execSourceFenceComplete s
  | .syncFence dev who r => Sys2Proof.Machine.execSyncFence dev who r s
  | .epochCloseComplete => Sys2Proof.Machine.execEpochCloseComplete s
  | .treeSubmit who v => Sys2Proof.Machine.execTreeSubmit who v s
  | .treeSampleComplete j c parity => Sys2Proof.Machine.execTreeSampleComplete j c parity s
  | .riskLevelFall d => Sys2Proof.Machine.execRiskLevelFall d s
  | .riskScoreStale d => Sys2Proof.Machine.execRiskScoreStale d s
  | .modelLoadDone slot ok => Sys2Proof.Machine.execModelLoadDone slot ok s
  | .treeScrubPass fixed => Sys2Proof.Machine.execTreeScrubPass fixed s
  | .treeWakeDone => Sys2Proof.Machine.execTreeWakeDone s
  | .lrbEvaluate => Sys2Proof.Machine.execLrbEvaluate s
  | .lrbFloorExpiry c => Sys2Proof.Machine.execLrbFloorExpiry c s
  | .snoopDataRx origin r => Sys2Proof.Machine.execSnoopDataRx origin r s
  | .bundleLanded die jobtag epoch tile => Sys2Proof.Machine.execBundleLanded die jobtag epoch tile s
  | .slicePlace => Sys2Proof.Machine.execSlicePlace s
  | .sliceRunDone id => Sys2Proof.Machine.execSliceRunDone id s
  | .sliceRunTimeout id => Sys2Proof.Machine.execSliceRunTimeout id s
  | .gridCoreFault core cause => Sys2Proof.Machine.execGridCoreFault core cause s
  | .endStream core => Sys2Proof.Machine.execEndStream core s
  | .load core => Sys2Proof.Machine.execLoad core s
  | .loadAsync core => Sys2Proof.Machine.execLoadAsync core s
  | .streamLoadDone core st => Sys2Proof.Machine.execStreamLoadDone core st s
  | .wait core => Sys2Proof.Machine.execWait core s
  | .send core => Sys2Proof.Machine.execSend core s
  | .recv core => Sys2Proof.Machine.execRecv core s
  | .meshDeliver core => Sys2Proof.Machine.execMeshDeliver core s
  | .mma core => Sys2Proof.Machine.execMma core s
  | .vecAdd core => Sys2Proof.Machine.execVecAdd core s
  | .vecSub core => Sys2Proof.Machine.execVecSub core s
  | .vecMul core => Sys2Proof.Machine.execVecMul core s
  | .vecFma core => Sys2Proof.Machine.execVecFma core s
  | .vecMin core => Sys2Proof.Machine.execVecMin core s
  | .vecMax core => Sys2Proof.Machine.execVecMax core s
  | .vecSqrt core => Sys2Proof.Machine.execVecSqrt core s
  | .vecRcp core => Sys2Proof.Machine.execVecRcp core s
  | .vecRsqrt core => Sys2Proof.Machine.execVecRsqrt core s
  | .vecExp2 core => Sys2Proof.Machine.execVecExp2 core s
  | .vecLog2 core => Sys2Proof.Machine.execVecLog2 core s
  | .vecTanh core => Sys2Proof.Machine.execVecTanh core s
  | .vecExp core => Sys2Proof.Machine.execVecExp core s
  | .vecSigmoid core => Sys2Proof.Machine.execVecSigmoid core s
  | .vecSilu core => Sys2Proof.Machine.execVecSilu core s
  | .vecGeluTanh core => Sys2Proof.Machine.execVecGeluTanh core s
  | .vecSoftmax core => Sys2Proof.Machine.execVecSoftmax core s
  | .vecRmsnorm core => Sys2Proof.Machine.execVecRmsnorm core s
  | .vecSum core => Sys2Proof.Machine.execVecSum core s
  | .vecMaxReduce core => Sys2Proof.Machine.execVecMaxReduce core s
  | .cvt core => Sys2Proof.Machine.execCvt core s
  | .cvtQuant core => Sys2Proof.Machine.execCvtQuant core s
  | .cmp core => Sys2Proof.Machine.execCmp core s
  | .loop core => Sys2Proof.Machine.execLoop core s
  | .katRunStart => Sys2Proof.Machine.execKatRunStart s
  | .progLoadDone slot => Sys2Proof.Machine.execProgLoadDone slot s
  | .ctxScrubDone c => Sys2Proof.Machine.execCtxScrubDone c s
  | .gridWakeDone => Sys2Proof.Machine.execGridWakeDone s
  | .gridIdleExpiry => Sys2Proof.Machine.execGridIdleExpiry s
  | .chkLastClear who => Sys2Proof.Machine.execChkLastClear who s
  | .cellTedgeWrite who j v => Sys2Proof.Machine.execCellTedgeWrite who j v s
  | .snoopPost who slot => Sys2Proof.Machine.execSnoopPost who slot s
  | .snoopSlotServe data => Sys2Proof.Machine.execSnoopSlotServe data s
  | .snoopSlotComplete => Sys2Proof.Machine.execSnoopSlotComplete s
  | .chkMismatchRx origin r => Sys2Proof.Machine.execChkMismatchRx origin r s
  | .epochSummaryRx origin r => Sys2Proof.Machine.execEpochSummaryRx origin r s
  | .epochFenceRx origin r => Sys2Proof.Machine.execEpochFenceRx origin r s
  | .verdictWaitTimeout => Sys2Proof.Machine.execVerdictWaitTimeout s
  | .failureClassify => Sys2Proof.Machine.execFailureClassify s
  | .classifyTimeout => Sys2Proof.Machine.execClassifyTimeout s
  | .repeatTimeout => Sys2Proof.Machine.execRepeatTimeout s
  | .unitObservationClear => Sys2Proof.Machine.execUnitObservationClear s
  | .campaignCellDwell handle => Sys2Proof.Machine.execCampaignCellDwell handle s
  | .campaignCellLeave handle => Sys2Proof.Machine.execCampaignCellLeave handle s
  | .campaignTimeLimit handle => Sys2Proof.Machine.execCampaignTimeLimit handle s
  | .secureRequestTimer => Sys2Proof.Machine.execSecureRequestTimer s
  | .secureRequestRx origin r => Sys2Proof.Machine.execSecureRequestRx origin r s
  | .secureCutDeliver dev port slot sender origin m => Sys2Proof.Machine.execSecureCutDeliver dev port slot sender origin m s
  | .secureCommitDeliver dev port slot sender origin m => Sys2Proof.Machine.execSecureCommitDeliver dev port slot sender origin m s
  | .secureAbandonDeliver dev port slot sender origin m => Sys2Proof.Machine.execSecureAbandonDeliver dev port slot sender origin m s
  | .secureReleaseDeliver dev port slot sender origin m => Sys2Proof.Machine.execSecureReleaseDeliver dev port slot sender origin m s
  | .restoreDeliver dev port slot sender origin m kept => Sys2Proof.Machine.execRestoreDeliver dev port slot sender origin m kept s
  | .securePost who slot => Sys2Proof.Machine.execSecurePost who slot s
  | .secureSlotServe data => Sys2Proof.Machine.execSecureSlotServe data s
  | .secureDieDone => Sys2Proof.Machine.execSecureDieDone s
  | .secureLate who => Sys2Proof.Machine.execSecureLate who s
  | .secureDieDoneRx origin r => Sys2Proof.Machine.execSecureDieDoneRx origin r s
  | .secureDataRx origin r => Sys2Proof.Machine.execSecureDataRx origin r s
  | .shareDataRx origin r => Sys2Proof.Machine.execShareDataRx origin r s
  | .shareAckRx origin r => Sys2Proof.Machine.execShareAckRx origin r s
  | .trayCutDoneRx origin r => Sys2Proof.Machine.execTrayCutDoneRx origin r s
  | .passLimitExpiry => Sys2Proof.Machine.execPassLimitExpiry s
  | .sharesLostRx origin r => Sys2Proof.Machine.execSharesLostRx origin r s
  | .restoreDoneRx origin jobtag dies bytes => Sys2Proof.Machine.execRestoreDoneRx origin jobtag dies bytes s
  | .secureHoldExpiry => Sys2Proof.Machine.execSecureHoldExpiry s
  | .cmpSubmit q => Sys2Proof.Machine.execCmpSubmit q s
  | .cmpDescDone q => Sys2Proof.Machine.execCmpDescDone q s
  | .faultEvent dev src cause flags jobtag arg => Sys2Proof.Machine.execFaultEvent dev src cause flags jobtag arg s
  | .faultSubwindowAdvance dev src => Sys2Proof.Machine.execFaultSubwindowAdvance dev src s
  | .channelFailure dev src slot => Sys2Proof.Machine.execChannelFailure dev src slot s
  | .channelRetry dev src slot ok => Sys2Proof.Machine.execChannelRetry dev src slot ok s
  | .drainProposalRx origin r => Sys2Proof.Machine.execDrainProposalRx origin r s
  | .bwDecisionRx origin r => Sys2Proof.Machine.execBwDecisionRx origin r s
  | .bwResendTimer => Sys2Proof.Machine.execBwResendTimer s
  | .bwWindowExpiry => Sys2Proof.Machine.execBwWindowExpiry s
  | .dieLedgerMount bad good => Sys2Proof.Machine.execDieLedgerMount bad good s
  | .dieLedgerJournal r => Sys2Proof.Machine.execDieLedgerJournal r s
  | .hsAppend essential r => Sys2Proof.Machine.execHsAppend essential r s
  | .hsAppendDurable path => Sys2Proof.Machine.execHsAppendDurable path s
  | .hsMount => Sys2Proof.Machine.execHsMount s
  | .pwrfailAssert => Sys2Proof.Machine.execPwrfailAssert s
  | .pwrfailRelease => Sys2Proof.Machine.execPwrfailRelease s
  | .superblockWriteDue => Sys2Proof.Machine.execSuperblockWriteDue s
  | .compactionStart => Sys2Proof.Machine.execCompactionStart s
  | .compactionDone => Sys2Proof.Machine.execCompactionDone s
  | .compactionResume => Sys2Proof.Machine.execCompactionResume s
  | .hsDayBucket => Sys2Proof.Machine.execHsDayBucket s
  | .exposureFlush => Sys2Proof.Machine.execExposureFlush s
  | .baselineSave => Sys2Proof.Machine.execBaselineSave s
  | .reconcile port serial flags body => Sys2Proof.Machine.execReconcile port serial flags body s
  | .reconcileRetry => Sys2Proof.Machine.execReconcileRetry s
  | .exportSuspendTimeout => Sys2Proof.Machine.execExportSuspendTimeout s
  | .probationEnd dev => Sys2Proof.Machine.execProbationEnd dev s
  | .hsOpRead who paths addr => Sys2Proof.Machine.execHsOpRead who paths addr s
  | .hsOpProgram who paths addr => Sys2Proof.Machine.execHsOpProgram who paths addr s
  | .hsOpErase who paths addr => Sys2Proof.Machine.execHsOpErase who paths addr s
  | .hsOpProgramMark who paths addr => Sys2Proof.Machine.execHsOpProgramMark who paths addr s
  | .hsOpDone fail => Sys2Proof.Machine.execHsOpDone fail s
  | .slackEntryDone => Sys2Proof.Machine.execSlackEntryDone s
  | .sentinelWake causes => Sys2Proof.Machine.execSentinelWake causes s
  | .sentinelWakeDone => Sys2Proof.Machine.execSentinelWakeDone s
  | .wakeAtDue => Sys2Proof.Machine.execWakeAtDue s
  | .domainDemand mask => Sys2Proof.Machine.execDomainDemand mask s
  | .domainReady k => Sys2Proof.Machine.execDomainReady k s
  | .domainIdleExpiry k => Sys2Proof.Machine.execDomainIdleExpiry k s
  | .dduSlackExit cause => Sys2Proof.Machine.execDduSlackExit cause s
  | .budgetDivision => Sys2Proof.Machine.execBudgetDivision s
  | .capAckRx port => Sys2Proof.Machine.execCapAckRx port s
  | .capStale => Sys2Proof.Machine.execCapStale s
  | .demandReport => Sys2Proof.Machine.execDemandReport s
  | .phaseSignatureTick duty => Sys2Proof.Machine.execPhaseSignatureTick duty s
  | .powerLoopWindow => Sys2Proof.Machine.execPowerLoopWindow s
  | .railRecalEnd r => Sys2Proof.Machine.execRailRecalEnd r s
  | .railWatchEnd r => Sys2Proof.Machine.execRailWatchEnd r s
  | .phaseTableSave => Sys2Proof.Machine.execPhaseTableSave s
  | .sentinelPowerLoop logic memory temp => Sys2Proof.Machine.execSentinelPowerLoop logic memory temp s
  | .interruptRequest dev id core high => Sys2Proof.Machine.execInterruptRequest dev id core high s
  | .aicClaim dev core => Sys2Proof.Machine.execAicClaim dev core s
  | .aicEoi dev core id => Sys2Proof.Machine.execAicEoi dev core id s
  | .aicSgi dev v => Sys2Proof.Machine.execAicSgi dev v s
  | .aicCfgWrite dev who core id v => Sys2Proof.Machine.execAicCfgWrite dev who core id v s
  | .engineResetStart who v => Sys2Proof.Machine.execEngineResetStart who v s
  | .engineResetDrainEnd b => Sys2Proof.Machine.execEngineResetDrainEnd b s
  | .engineResetDone b => Sys2Proof.Machine.execEngineResetDone b s
  | .mcReset => Sys2Proof.Machine.execMcReset s
  | .watchdogKick dev core v => Sys2Proof.Machine.execWatchdogKick dev core v s
  | .watchdogWarning dev core => Sys2Proof.Machine.execWatchdogWarning dev core s
  | .watchdogExpiry dev core => Sys2Proof.Machine.execWatchdogExpiry dev core s
  | .mcLoadTick dev busy => Sys2Proof.Machine.execMcLoadTick dev busy s
  | .mailboxPost c => Sys2Proof.Machine.execMailboxPost c s
  | .commandDatagram port peer seq c => Sys2Proof.Machine.execCommandDatagram port peer seq c s
  | .eventWrite path r => Sys2Proof.Machine.execEventWrite path r s
  | .eventRdWrite path v => Sys2Proof.Machine.execEventRdWrite path v s
  | .eventResend => Sys2Proof.Machine.execEventResend s
  | .stageIdleFree => Sys2Proof.Machine.execStageIdleFree s
  | .handleGuardExpiry slot => Sys2Proof.Machine.execHandleGuardExpiry slot s
  | .reverseTimeout => Sys2Proof.Machine.execReverseTimeout s
  | .hello c => Sys2Proof.Machine.execHello c s
  | .fence c => Sys2Proof.Machine.execFence c s
  | .opQuery c => Sys2Proof.Machine.execOpQuery c s
  | .opSuspend c => Sys2Proof.Machine.execOpSuspend c s
  | .opResume c => Sys2Proof.Machine.execOpResume c s
  | .opCancel c => Sys2Proof.Machine.execOpCancel c s
  | .eventAck c => Sys2Proof.Machine.execEventAck c s
  | .getInfo c => Sys2Proof.Machine.execGetInfo c s
  | .stageOpen c => Sys2Proof.Machine.execStageOpen c s
  | .stageWrite c => Sys2Proof.Machine.execStageWrite c s
  | .stageClose c => Sys2Proof.Machine.execStageClose c s
  | .stageRead c => Sys2Proof.Machine.execStageRead c s
  | .stageFree c => Sys2Proof.Machine.execStageFree c s
  | .timeConfig c => Sys2Proof.Machine.execTimeConfig c s
  | .timeAcceptJump c => Sys2Proof.Machine.execTimeAcceptJump c s
  | .snapAt c => Sys2Proof.Machine.execSnapAt c s
  | .ppsConfig c => Sys2Proof.Machine.execPpsConfig c s
  | .setTrayBudget c => Sys2Proof.Machine.execSetTrayBudget c s
  | .setPowerState c => Sys2Proof.Machine.execSetPowerState c s
  | .setSelfLimits c => Sys2Proof.Machine.execSetSelfLimits c s
  | .setParents c => Sys2Proof.Machine.execSetParents c s
  | .returnToPrimary c => Sys2Proof.Machine.execReturnToPrimary c s
  | .setChild c => Sys2Proof.Machine.execSetChild c s
  | .setRing c => Sys2Proof.Machine.execSetRing c s
  | .setRole c => Sys2Proof.Machine.execSetRole c s
  | .faultClear c => Sys2Proof.Machine.execFaultClear c s
  | .restoreSource c => Sys2Proof.Machine.execRestoreSource c s
  | .faultConfig c => Sys2Proof.Machine.execFaultConfig c s
  | .inject c => Sys2Proof.Machine.execInject c s
  | .gateFail c => Sys2Proof.Machine.execGateFail c s
  | .bwConfig c => Sys2Proof.Machine.execBwConfig c s
  | .bwReport c => Sys2Proof.Machine.execBwReport c s
  | .bwOverride c => Sys2Proof.Machine.execBwOverride c s
  | .jobStart c => Sys2Proof.Machine.execJobStart c s
  | .jobEnd c => Sys2Proof.Machine.execJobEnd c s
  | .groupRegister c => Sys2Proof.Machine.execGroupRegister c s
  | .groupRelease c => Sys2Proof.Machine.execGroupRelease c s
  | .rankmapLoad c => Sys2Proof.Machine.execRankmapLoad c s
  | .metLoad c => Sys2Proof.Machine.execMetLoad c s
  | .uschSet c => Sys2Proof.Machine.execUschSet c s
  | .modelLoad c host => Sys2Proof.Machine.execModelLoad c host s
  | .modelUnload c => Sys2Proof.Machine.execModelUnload c s
  | .modelBind c => Sys2Proof.Machine.execModelBind c s
  | .progLoad c host => Sys2Proof.Machine.execProgLoad c host s
  | .progUnload c => Sys2Proof.Machine.execProgUnload c s
  | .ctxBind c => Sys2Proof.Machine.execCtxBind c s
  | .ctxUnbind c => Sys2Proof.Machine.execCtxUnbind c s
  | .gridSweep c => Sys2Proof.Machine.execGridSweep c s
  | .verdictConfig c => Sys2Proof.Machine.execVerdictConfig c s
  | .campaignStart c => Sys2Proof.Machine.execCampaignStart c s
  | .secPolicy c => Sys2Proof.Machine.execSecPolicy c s
  | .restore c => Sys2Proof.Machine.execRestore c s
  | .restoreLoaded c => Sys2Proof.Machine.execRestoreLoaded c s
  | .ledgerCompact c => Sys2Proof.Machine.execLedgerCompact c s
  | .ledgerExport c => Sys2Proof.Machine.execLedgerExport c s
  | .ledgerFormatCommit c => Sys2Proof.Machine.execLedgerFormatCommit c s
  | .ledgerQuery c => Sys2Proof.Machine.execLedgerQuery c s
  | .traceExport c => Sys2Proof.Machine.execTraceExport c s
  | .traceTrigger c => Sys2Proof.Machine.execTraceTrigger c s
  | .profileEnable c => Sys2Proof.Machine.execProfileEnable c s
  | .profileDisable c => Sys2Proof.Machine.execProfileDisable c s
  | .attest c => Sys2Proof.Machine.execAttest c s
  | .debugChallenge c => Sys2Proof.Machine.execDebugChallenge c s
  | .debugOpen c => Sys2Proof.Machine.execDebugOpen c s
  | .debugClose c => Sys2Proof.Machine.execDebugClose c s
  | .lifecycleSecure c => Sys2Proof.Machine.execLifecycleSecure c s
  | .lifecycleRma c => Sys2Proof.Machine.execLifecycleRma c s
  | .lifecycleDecommission c => Sys2Proof.Machine.execLifecycleDecommission c s
  | .keyAdd c => Sys2Proof.Machine.execKeyAdd c s
  | .keyRevoke c => Sys2Proof.Machine.execKeyRevoke c s
  | .fwUpdate c host => Sys2Proof.Machine.execFwUpdate c host s
  | .fwCommit c host => Sys2Proof.Machine.execFwCommit c host s
  | .dieIdent c => Sys2Proof.Machine.execDieIdent c s
  | .dieRegWrite c => Sys2Proof.Machine.execDieRegWrite c s
  | .dieCap c => Sys2Proof.Machine.execDieCap c s
  | .dieSlack c => Sys2Proof.Machine.execDieSlack c s
  | .dieSuspect c => Sys2Proof.Machine.execDieSuspect c s
  | .dieProfile c => Sys2Proof.Machine.execDieProfile c s
  | .dieSecCut c => Sys2Proof.Machine.execDieSecCut c s
  | .dieSecCommit c => Sys2Proof.Machine.execDieSecCommit c s
  | .dieFaultClear c => Sys2Proof.Machine.execDieFaultClear c s
  | .dieFaultRestore c => Sys2Proof.Machine.execDieFaultRestore c s
  | .dieFaultConfigure c => Sys2Proof.Machine.execDieFaultConfigure c s
  | .dieFaultInject c => Sys2Proof.Machine.execDieFaultInject c s
  | .dieLedgerRead c => Sys2Proof.Machine.execDieLedgerRead c s
  | .dieLedgerWrite c => Sys2Proof.Machine.execDieLedgerWrite c s
  | .dieTraceTrigger c => Sys2Proof.Machine.execDieTraceTrigger c s
  | .dieTraceExportStart c => Sys2Proof.Machine.execDieTraceExportStart c s
  | .dieTraceExportSuspend c => Sys2Proof.Machine.execDieTraceExportSuspend c s
  | .dieTraceExportResume c => Sys2Proof.Machine.execDieTraceExportResume c s
  | .dieTraceExportCancel c => Sys2Proof.Machine.execDieTraceExportCancel c s
  | .dieRepeat c => Sys2Proof.Machine.execDieRepeat c s
  | .dieCampaign c => Sys2Proof.Machine.execDieCampaign c s
  | .hostRepeatTile => Sys2Proof.Machine.execHostRepeatTile s
  | .hostSetPattern intensity => Sys2Proof.Machine.execHostSetPattern intensity s
  | .dieQuery c => Sys2Proof.Machine.execDieQuery c s
  | .apertureAccess x len write data => Sys2Proof.Machine.execApertureAccess x len write data s
  | .hostWideRead off size => Sys2Proof.Machine.execHostWideRead off size s
  | .functionReset kind => Sys2Proof.Machine.execFunctionReset kind s
  | .busMasterChange enable => Sys2Proof.Machine.execBusMasterChange enable s
  | .recoveryImagePost => Sys2Proof.Machine.execRecoveryImagePost s
  | .bootReportRx port report => Sys2Proof.Machine.execBootReportRx port report s
  | .debugSessionExpiry => Sys2Proof.Machine.execDebugSessionExpiry s
  | .debugChallengeExpiry => Sys2Proof.Machine.execDebugChallengeExpiry s
  | .dduDebugExpiry => Sys2Proof.Machine.execDduDebugExpiry s
  | .profileConsentExpiry => Sys2Proof.Machine.execProfileConsentExpiry s
  | .fwBootTimeout => Sys2Proof.Machine.execFwBootTimeout s
  | .aonPgoodRise => Sys2Proof.Machine.execAonPgoodRise s
  | .aonPgoodFall => Sys2Proof.Machine.execAonPgoodFall s
  | .mainPgoodRise => Sys2Proof.Machine.execMainPgoodRise s
  | .mainPgoodFall => Sys2Proof.Machine.execMainPgoodFall s
  | .mainEnRestart => Sys2Proof.Machine.execMainEnRestart s
  | .resetNAssert ns => Sys2Proof.Machine.execResetNAssert ns s
  | .internalResetEnd => Sys2Proof.Machine.execInternalResetEnd s
  | .bootStageDone bad => Sys2Proof.Machine.execBootStageDone bad s
  | .perstRelease => Sys2Proof.Machine.execPerstRelease s
  | .thermtrip => Sys2Proof.Machine.execThermtrip s
  | .refclkLoss => Sys2Proof.Machine.execRefclkLoss s
  | .refclkRelock => Sys2Proof.Machine.execRefclkRelock s
  | .rcRegisterRead dev who off size => Sys2Proof.Machine.execRcRegisterRead dev who off size s
  | .reverseMailboxComplete status data => Sys2Proof.Machine.execReverseMailboxComplete status data s
  | .dduAonPgoodRise => Sys2Proof.Machine.execDduAonPgoodRise s
  | .trayNeapHoldExpiry => Sys2Proof.Machine.execTrayNeapHoldExpiry s
  | .exportSegmentDone handle => Sys2Proof.Machine.execExportSegmentDone handle s
  | .fwSlotWriteDone held => Sys2Proof.Machine.execFwSlotWriteDone held s
  | .dtlsHandshakeRx port peer root ok => Sys2Proof.Machine.execDtlsHandshakeRx port peer root ok s

end Sys2Proof.Machine
end

