-- ==== Sys2Proof/Safety.lean ====
section
/-!
DEFINITION. The terms in which statements speak of runs: which states follow a state, what a sound state is, and what one device's commands leave of
the other.
-/

namespace Sys2Proof.Safety

open Machine

/-- `t` is what the machine makes of `s` in `n` steps, with no stop on the way. -/
def Runs : Nat → State → State → Prop
  | 0, s, t => t = s
  | n + 1, s, t => ∃ u, step s = .next u ∧ Runs n u t

/-- A run that never stops: every state that it reaches has a next state. -/
def NeverStops (s : State) : Prop := ∀ n t, Runs n s t → ∃ u, step t = .next u

/-- A sound state: the memory is in its canonical form, and no memory write of an earlier command is still to be carried out. -/
def Sound (s : State) : Prop := s.mem.wf = true ∧ s.abl.out = [] ∧ s.abl.wipe = false

/-- A device with nothing in hand: no reaction is owed, no command waits in its mailboxes, no message at its ports, and no loss or record is still
to be counted. -/
abbrev QuietNode (n : Node) : Prop :=
  n.due = [] ∧ n.mb.posted = [] ∧ n.txq = [] ∧ n.lossDue = [] ∧ n.parent.orphanDrops = 0 ∧ n.written = 0 ∧ n.limited = 0

/-- A DDU with nothing in hand: nothing waits for the host fabric, the fast domain has an idle wait, and neither the trace nor the watermark has
anything to tell. -/
abbrev QuietDdu (d : Ddu) : Prop :=
  QuietNode d.n ∧ d.fb.queue = [] ∧ d.n.fld Reg.DDU_CTRL 0 0 16 ≠ 0 ∧ d.trc.cores = [] ∧ d.n.rd Reg.DDU_TRC_SPILL_WMARK = 0

/-- A sentinel with nothing in hand: nothing that follows a command by itself has work to do. -/
abbrev QuietAbl (a : Abl) : Prop :=
  QuietNode a.n ∧ a.n.tostore = [] ∧ a.n.mc.shed = none ∧ a.n.msi = [] ∧ a.ver.entries = [] ∧ a.ver.camps = [] ∧ a.red.owed = [] ∧
  a.sec.cuts = [] ∧ a.sec.roots = [] ∧ a.sec.restores = [] ∧ a.sec.restTrays = [] ∧ a.grid.sweep = none ∧ a.domBusy 3 = false ∧
  a.domBusy 4 = false ∧ a.n.opHold = a.ingestFull 4096

/-- The sentinel, the memory and the queue are as before: a command acted on the DDU alone. -/
def OnlyDdu (s t : State) : Prop := t.abl = s.abl ∧ t.mem = s.mem ∧ t.pending = s.pending

/-- The DDU and the queue are as before, and so is what the last read answered: a command acted on the sentinel alone. -/
def OnlyAbl (s t : State) : Prop := t.ddu = s.ddu ∧ t.rdata = s.rdata ∧ t.busErr = s.busErr ∧ t.pending = s.pending

/-- What both devices have alike, of one of them. -/
def part (s : State) : Dev → Node
  | .ddu => s.ddu.n
  | .abl => s.abl.n

/-- The state in which that part of a device is `n`, after what the device then owes. -/
def settled (s : State) (dev : Dev) (n : Node) : State :=
  match dev with
  | .ddu => s.settleDdu { s.ddu with n := n }
  | .abl => s.settleAbl { s.abl with n := n }

/-- A device that is not held in reset. -/
def Awake (s : State) : Dev → Prop
  | .ddu => s.ddu.live = true
  | .abl => True

/-- A device that answers the die's trusted software: the DDU's window is open to the host, and the sentinel's firmware always answers. -/
def Heard (s : State) : Dev → Prop
  | .ddu => s.ddu.answers .hostPrivileged = true
  | .abl => True

/-- Who may write a device's registers: on the DDU, privileged accesses that its window answers; on the sentinel, firmware. -/
def MayWrite (s : State) (who : Requester) : Dev → Prop
  | .ddu => who ≠ .unprivileged ∧ s.ddu.answers who = true
  | .abl => who = .firmware

/-- A privileged access to a fast-domain block is answered: `d` is the DDU with the fast domain up, which the access starts if it must. -/
def FastMay (s : State) (who : Requester) (d : Ddu) : Prop :=
  who ≠ .unprivileged ∧ s.ddu.answers who = true ∧ d = s.ddu.fastAccess ∧ d.fastUp = true

/-- The same state, a write to the device having been answered without a bus error. -/
def answered (s : State) : Dev → State
  | .ddu => { s with busErr := false }
  | .abl => s

/-- A posted command of the catalogue is the next to start at a device, and the checks that all commands share let it through. -/
def Serving (n : Node) (c : Cmd) (code : Nat) (p : PostedX) : Prop := n.pick c code = some p ∧ n.early c = none

/-- The state in which the sentinel, left as `a` by the command posted as `p`, has given it the answer `r`. -/
def replied (s : State) (p : PostedX) (a : Abl) (r : Ans) : State := s.settleAbl (a.on fun n => n.answer p r)

/-- The same of the DDU. -/
def repliedDdu (s : State) (p : PostedX) (d : Ddu) (r : Ans) : State := s.settleDdu (d.on fun n => n.answer p r)

/-- Between `n` and `m`, no register at another address than `a` differs, and nothing beside the registers. -/
def OnlyReg (n m : Node) (a : Nat) : Prop := (∀ (q : RegDef) (j : Nat), q.addr j ≠ a → m.rd q j = n.rd q j) ∧ { m with regs := n.regs } = n

/-- The device on which a command acts. -/
def home : Instr → Dev
  | .eventBusCycle .. | .preaccFold | .markerAccept .. | .markerProcess | .checksumReportAccept .. | .abftCheck | .hostActiveRise | .hostActiveFall
  | .fastDomainStart | .fastDomainReady | .fastIdleExpiry | .droopDetect | .clkStretchHoldEnd | .regAckRx | .regReqTimeout | .subresetStart ..
  | .subresetDrainEnd .. | .subresetDone .. | .dduResetRelease | .dduAliveRaise | .corePgoodFall | .cntWrap .. | .cntChained .. | .cntSelWrite ..
  | .cntChainRead .. | .cntClear .. | .cntFreezeWrite .. | .cntFreezeExpiry | .sensorSample .. | .sensorStale .. | .traceTapRetire ..
  | .tapFifoRecover .. | .tracePeriodicSync .. | .traceEnable .. | .traceDisable .. | .traceDisableDrainEnd | .trigNow .. | .rearm ..
  | .tracePostDone | .traceAreaFull | .traceSpillBlock | .traceSpillRdWrite .. | .traceResume | .traceApertureRead .. | .traceExportBlock
  | .snapAtFrameRx .. | .fallbackExit | .fbGuestRequestRx .. | .fbRefusedRx | .fbListRetry | .fbHostSilence | .fbRingMessage ..
  | .summaryWindowClose | .scrubComplete | .scrubTimeout | .jobHoldExpiry | .sourceFence .. | .sourceFenceComplete | .epochCloseComplete
  | .lrbEvaluate | .lrbFloorExpiry .. | .chkLastClear .. | .cellTedgeWrite .. | .snoopPost .. | .snoopSlotServe .. | .snoopSlotComplete
  | .securePost .. | .secureSlotServe .. | .secureDieDone | .secureLate .. | .dieLedgerMount .. | .dieLedgerJournal .. | .dduSlackExit ..
  | .capStale | .demandReport | .phaseSignatureTick .. | .powerLoopWindow | .railRecalEnd .. | .railWatchEnd .. | .phaseTableSave | .reverseTimeout
  | .dieIdent .. | .dieRegWrite .. | .dieCap .. | .dieSlack .. | .dieSuspect .. | .dieProfile .. | .dieSecCut .. | .dieSecCommit .. | .dieRepeat ..
  | .dieCampaign .. | .hostRepeatTile | .hostSetPattern .. | .dieQuery .. | .dduDebugExpiry | .reverseMailboxComplete .. | .dduResetAssert
  | .dduAonPgoodFall | .dieFaultClear .. | .dieFaultRestore .. | .dieFaultConfigure .. | .dieFaultInject .. | .dieLedgerRead ..
  | .dieLedgerWrite .. | .dieTraceTrigger .. | .dieTraceExportStart .. | .dieTraceExportSuspend .. | .dieTraceExportResume ..
  | .dieTraceExportCancel .. | .dduAonPgoodRise => .ddu
  | .parentLost | .attachRequestRx .. | .attachAckRx .. | .attachRefusedRx | .attachResendTimer | .attachTimeout | .orphanRetry | .pcntLatch ..
  | .pcntClear .. | .psampSample .. | .ptpMessageRx .. | .holdoverAlarm | .ppsInEdge | .ppsOutDue | .ppsOutEnd | .ppsNextWrite ..
  | .launchEnqueue .. | .launchFlush .. | .launchDue | .dieSummaryRx .. | .nodeSummaryRx .. | .inputWindowClose .. | .metSlotWrite ..
  | .barrierArrivalRx .. | .barrierPartRx .. | .barrierTimeout .. | .fanStart .. | .fanPendingRx .. | .fanAckRx .. | .fanAckTimeout ..
  | .fanPendingTimer .. | .fanDeadline .. | .fanRelayRx .. | .fanRelayAckRx .. | .uschEnqueue .. | .uschPick .. | .uschSample | .uschJobWrite ..
  | .jobEntryScrubDone .. | .jobGuardExpiry .. | .treeSubmit .. | .treeSampleComplete .. | .riskLevelFall .. | .riskScoreStale ..
  | .modelLoadDone .. | .treeScrubPass .. | .treeWakeDone | .snoopDataRx .. | .bundleLanded .. | .slicePlace | .sliceRunDone ..
  | .sliceRunTimeout .. | .gridCoreFault .. | .streamLoadDone .. | .meshDeliver .. | .katRunStart | .progLoadDone .. | .ctxScrubDone ..
  | .gridWakeDone | .gridIdleExpiry | .chkMismatchRx .. | .epochSummaryRx .. | .epochFenceRx .. | .verdictWaitTimeout | .failureClassify
  | .classifyTimeout | .repeatTimeout | .unitObservationClear | .campaignCellDwell .. | .campaignCellLeave .. | .campaignTimeLimit ..
  | .secureRequestTimer | .restoreDeliver .. | .passLimitExpiry | .restoreDoneRx .. | .secureHoldExpiry | .cmpSubmit .. | .cmpDescDone ..
  | .drainProposalRx .. | .bwDecisionRx .. | .bwResendTimer | .bwWindowExpiry | .hsAppend .. | .hsAppendDurable .. | .hsMount | .pwrfailAssert
  | .pwrfailRelease | .superblockWriteDue | .compactionStart | .compactionDone | .compactionResume | .hsDayBucket | .exposureFlush | .baselineSave
  | .reconcile .. | .reconcileRetry | .exportSuspendTimeout | .hsOpDone .. | .slackEntryDone | .sentinelWake .. | .sentinelWakeDone | .wakeAtDue
  | .domainDemand .. | .domainReady .. | .domainIdleExpiry .. | .budgetDivision | .capAckRx .. | .sentinelPowerLoop .. | .engineResetStart ..
  | .engineResetDrainEnd .. | .engineResetDone .. | .mcReset | .commandDatagram .. | .eventRdWrite .. | .eventResend | .stageIdleFree
  | .handleGuardExpiry .. | .eventAck .. | .stageOpen .. | .stageWrite .. | .stageClose .. | .stageRead .. | .stageFree .. | .timeConfig ..
  | .timeAcceptJump .. | .snapAt .. | .ppsConfig .. | .setTrayBudget .. | .setPowerState .. | .setSelfLimits .. | .setParents ..
  | .returnToPrimary .. | .setChild .. | .setRing .. | .setRole .. | .faultClear .. | .restoreSource .. | .faultConfig .. | .inject ..
  | .gateFail .. | .bwConfig .. | .bwReport .. | .bwOverride .. | .jobStart .. | .jobEnd .. | .groupRegister .. | .groupRelease ..
  | .rankmapLoad .. | .metLoad .. | .uschSet .. | .modelLoad .. | .modelUnload .. | .modelBind .. | .progLoad .. | .progUnload .. | .ctxBind ..
  | .ctxUnbind .. | .gridSweep .. | .verdictConfig .. | .campaignStart .. | .secPolicy .. | .restore .. | .restoreLoaded .. | .ledgerCompact ..
  | .ledgerExport .. | .ledgerFormatCommit .. | .ledgerQuery .. | .traceExport .. | .traceTrigger .. | .profileEnable .. | .profileDisable ..
  | .attest .. | .debugChallenge .. | .debugOpen .. | .debugClose .. | .fwUpdate .. | .fwCommit .. | .apertureAccess .. | .hostWideRead ..
  | .functionReset .. | .busMasterChange .. | .recoveryImagePost | .bootReportRx .. | .debugSessionExpiry | .debugChallengeExpiry
  | .profileConsentExpiry | .fwBootTimeout | .aonPgoodRise | .aonPgoodFall | .mainPgoodRise | .mainPgoodFall | .mainEnRestart | .resetNAssert ..
  | .internalResetEnd | .bootStageDone .. | .perstRelease | .thermtrip | .refclkLoss | .refclkRelock | .trayNeapHoldExpiry | .exportSegmentDone ..
  | .fwSlotWriteDone .. | .dtlsHandshakeRx .. | .endStream .. | .load .. | .loadAsync .. | .wait .. | .send .. | .recv .. | .mma .. | .vecAdd ..
  | .vecSub .. | .vecMul .. | .vecFma .. | .vecMin .. | .vecMax .. | .vecSqrt .. | .vecRcp .. | .vecRsqrt .. | .vecExp2 .. | .vecLog2 ..
  | .vecTanh .. | .vecExp .. | .vecSigmoid .. | .vecSilu .. | .vecGeluTanh .. | .vecSoftmax .. | .vecRmsnorm .. | .vecSum .. | .vecMaxReduce ..
  | .cvt .. | .cvtQuant .. | .cmp .. | .loop .. | .secureRequestRx .. | .secureDieDoneRx .. | .secureDataRx .. | .shareDataRx .. | .shareAckRx ..
  | .trayCutDoneRx .. | .sharesLostRx .. | .hsOpRead .. | .hsOpProgram .. | .hsOpErase .. | .hsOpProgramMark .. | .lifecycleSecure ..
  | .lifecycleRma .. | .lifecycleDecommission .. | .keyAdd .. | .keyRevoke .. => .abl
  | .bwWindowClose dev .. | .recFreezeExpiry dev | .timeTick dev | .timeWrap dev | .slewEnd dev | .timeIncrWrite dev .. | .slewTicksWrite dev ..
  | .timeLoad dev .. | .timeReqRx dev .. | .timeRespRx dev .. | .timeSourceLost dev | .flitRx dev .. | .signalDetect dev .. | .trainComplete dev ..
  | .trainTimeout dev .. | .signalLost dev .. | .laneFailure dev .. | .noFlitTimeout dev .. | .resetNoticeRx dev .. | .backoffExpiry dev ..
  | .earlyLossWithdraw dev .. | .faultSubwindowAdvance dev .. | .channelFailure dev .. | .channelRetry dev .. | .interruptRequest dev ..
  | .aicEoi dev .. | .aicSgi dev .. | .aicCfgWrite dev .. | .watchdogKick dev .. | .watchdogWarning dev .. | .registerWrite dev ..
  | .abortCopyRx dev .. | .bwCfgWrite dev .. | .recFreezeWrite dev .. | .recRlWrite dev .. | .timeNsRead dev | .acceptJump dev ..
  | .timeReqSend dev | .flitTime dev .. | .messageRx dev .. | .lnkCtrlWrite dev .. | .retrain dev .. | .fanKeepExpiry dev ..
  | .jobStartDeliver dev .. | .jobEndDeliver dev .. | .groupRegisterDeliver dev .. | .groupReleaseDeliver dev .. | .syncAlloc dev ..
  | .syncSet dev .. | .syncAdd dev .. | .syncMax dev .. | .syncFail dev .. | .syncArm dev .. | .syncRelease dev .. | .syncQuery dev ..
  | .syncReach dev .. | .syncStateApply dev .. | .syncStateRx dev .. | .syncGuardExpiry dev .. | .syncFence dev .. | .secureCutDeliver dev ..
  | .secureCommitDeliver dev .. | .secureAbandonDeliver dev .. | .secureReleaseDeliver dev .. | .faultEvent dev .. | .probationEnd dev
  | .aicClaim dev .. | .watchdogExpiry dev .. | .mcLoadTick dev .. | .rcRegisterRead dev .. => dev
  | .hello c | .fence c | .opQuery c | .getInfo c | .mailboxPost c | .opSuspend c | .opResume c | .opCancel c => pathDev c.path
  | .eventWrite path _ => if path = 3 then .ddu else .abl

end Sys2Proof.Safety
end

