-- ==== Sys2Proof/Certificates/Slice0/Obligations.lean ====
section
/-!
DEFINITION. The statements.  `exec c s = .next (s.settleDdu d)` says that the command answers a next state in which the DDU is `d`, after what `d` still
owes (QuietDevicesOweNothing says when that is nothing), and everything else is as in `s`; `settleAbl` says the same of the sentinel.
-/

open Sys2Proof Sys2Proof.Machine Sys2Proof.Safety


/-- What the commands of a node's parents do. (01_fleet_integrity_model.md R29, R33, R34, R35, R36, R37, R38) -/
def Obligations.ParentCommandsComplete : Prop :=
  (∀ (s : State) (dev : Dev) (origin : Nat) (q : SyncReq), Awake s dev → (q.jobtag, q.epoch) ∉ (part s dev).parent.acted →
     exec (.abortCopyRx dev origin q) s = .next (settled s dev ((({ (part s dev) with
       parent := { (part s dev).parent with acted := (q.jobtag, q.epoch) :: (part s dev).parent.acted } } : Node)).syncUpdate 4 q origin))) ∧
  (∀ (s : State) (dev : Dev) (origin : Nat) (q : SyncReq), Awake s dev → (q.jobtag, q.epoch) ∈ (part s dev).parent.acted →
     exec (.abortCopyRx dev origin q) s = .next (settled s dev (part s dev))) ∧
  (∀ s : State, s.abl.n.parentGone = false → exec .parentLost s = .next (settled s .abl s.abl.n)) ∧
  (∀ s : State, s.abl.n.parentGone = true → s.abl.n.parent.st = psPrimary →
     exec .parentLost s = .next (settled s .abl ((({ s.abl.n with parent := { s.abl.n.parent with resent := false } } : Node).setParent psAttaching).attachRequest true))) ∧
  (∀ s : State, s.abl.n.parentGone = true → s.abl.n.parent.st = psAlternate →
     exec .parentLost s = .next (settled s .abl ((s.abl.n.setParent psOrphan).escalate 554 5 0 s.abl.n.ident 0))) ∧
  (∀ (s : State) (port slot child c : Nat), s.abl.n.childOf child = some c → c < 16 → s.abl.n.childValid c = true →
     ∃ n : Node, exec (.attachRequestRx port slot child) s = .next (settled s .abl (n.postUp 0 1 Config.adoptedType Config.adoptedCode 640 (Config.adoptedPayload child))) ∧
       n = s.abl.n.queueAt port 63 (s.abl.n.mkMsg child 6 (.frame .attachAck [s.abl.n.ident] [])) slot) ∧
  (∀ (s : State) (port slot child : Nat), s.abl.n.childOf child = none → (∀ c, 16 ≤ c → c < 32 → s.abl.n.childValid c = true) →
     exec (.attachRequestRx port slot child) s = .next (settled s .abl (s.abl.n.queueAt port 63 (s.abl.n.mkMsg child 6 (.frame .attachRefused [s.abl.n.ident] [])) slot))) ∧
  (∀ (s : State) (port : Nat) (a : Abl), s.abl.n.parent.st = psAttaching → 18 ≤ port → a = (s.abl.on fun n => (n.setParent psAlternate).resendUp) →
     exec (.attachAckRx port) s = .next (s.settleAbl (if a.n.role = 1 then a.queryGates else a))) ∧
  (∀ s : State, s.abl.n.parent.st = psAttaching →
     exec .attachRefusedRx s = .next (settled s .abl s.abl.n.toOrphan) ∧ exec .attachTimeout s = .next (settled s .abl s.abl.n.toOrphan)) ∧
  (∀ s : State, s.abl.n.parent.st = psAttaching → s.abl.n.parent.resent = false →
     exec .attachResendTimer s = .next (settled s .abl (({ s.abl.n with parent := { s.abl.n.parent with resent := true } } : Node).attachRequest true))) ∧
  (∀ s : State, s.abl.n.parent.st = psOrphan →
     exec .orphanRetry s = .next (settled s .abl ((s.abl.n.attachRequest false).attachRequest true)))

/-- What each marker, report, fast-domain and hook command of the die boundary does when it may act. (02_die_unit_boundary.md R47, R48, R52, R53, R55, R56, R61, R62; 15_power_and_thermal.md R542, R551, R559) -/
def Obligations.BoundaryCompletes : Prop :=
  (∀ (s : State) (m : Nat), s.ddu.alive = true → s.ddu.pwr ≠ 0 → s.ddu.n.bit Reg.DDU_STATUS 0 2 = true → s.ddu.bnd.markFifo.length < 256 →
     1 ≤ bits m 60 4 → bits m 60 4 ≤ 4 →
     exec (.markerAccept m) s = .next (s.settleDdu { s.ddu with bnd := { s.ddu.bnd with markFifo :=
       s.ddu.bnd.markFifo ++ [(m, s.ddu.n.now, !s.ddu.bnd.markFifo.isEmpty || !s.ddu.n.bankRuns, s.ddu.chk.accepted)] } })) ∧
  (∀ (s : State) (m stamp before : Nat) (late : Bool) (rest : List (Nat × Nat × Bool × Nat)), s.ddu.live = true → s.ddu.n.bankRuns = true →
     s.ddu.bnd.markFifo = (m, stamp, late, before) :: rest → bits m 60 4 = 3 → bits (s.ddu.rd Reg.DDU_TRC_TRIG_MARK) 28 4 ≠ 3 →
     exec .markerProcess s = .next (s.settleDdu (({ s.ddu with bnd := { s.ddu.bnd with markFifo := rest } } : Ddu).phaseMarker (bits m 48 6)))) ∧
  (∀ (s : State) (r : Report), s.ddu.alive = true → s.ddu.pwr ≠ 0 → s.ddu.n.bit Reg.DDU_STATUS 0 2 = true → s.ddu.bnd.chkFifo.length < 1024 →
     exec (.checksumReportAccept r) s = .next (s.settleDdu (({ s.ddu with
       bnd := { s.ddu.bnd with chkFifo := s.ddu.bnd.chkFifo ++ [(r, s.ddu.cellOf (r.unit % 512))] }
       chk := { s.ddu.chk with accepted := s.ddu.chk.accepted + 1 } } : Ddu).chkView))) ∧
  (∀ (s : State) (r : Report) (cell k : Nat) (rest : List (Report × Nat)), s.ddu.live = true → s.ddu.bnd.chkFifo = (r, cell) :: rest →
     s.ddu.n.bit Reg.DDU_STATUS 0 2 = true → s.ddu.n.bit Reg.DDU_SUBRESET 0 8 = false →
     r.jobtag = (({ s.ddu with bnd := { s.ddu.bnd with chkFifo := rest } } : Ddu).chkView).jobTag →
     (({ s.ddu with bnd := { s.ddu.bnd with chkFifo := rest } } : Ddu).chkView).attemptOf r.epoch = some k →
     exec .abftCheck s = .next (s.settleDdu ((({ s.ddu with bnd := { s.ddu.bnd with chkFifo := rest } } : Ddu).chkView).reportCheck r cell k))) ∧
  (∀ s : State, s.ddu.live = true → s.ddu.pwr = 2 → s.ddu.n.bit Reg.DDU_STATUS 0 2 = false → s.ddu.n.bit Reg.DDU_STATUS 0 1 = false →
     s.ddu.bnd.corePgood = true →
     exec .hostActiveRise s = .next (s.settleDdu (({ s.ddu with bnd := { s.ddu.bnd with hostActive := true } } : Ddu).on fun n => n.setB Reg.DDU_STATUS 0 1 true))) ∧
  (∀ s : State, s.ddu.live = true → s.ddu.pwr ≠ 2 →
     exec .hostActiveFall s = .next (s.settleDdu { s.ddu with bnd := { s.ddu.bnd with hostActive := false, lowAt := s.ddu.n.local - 10000 } })) ∧
  (∀ s : State, s.ddu.live = true → s.ddu.pwr = 2 →
     exec .hostActiveFall s = .next (s.settleDdu (({ s.ddu with bnd := { s.ddu.bnd with hostActive := false, lowAt := s.ddu.n.local - 10000 } } : Ddu).setPwr 1 5))) ∧
  (∀ s : State, s.ddu.live = true → s.ddu.n.bit Reg.DDU_STATUS 0 2 = false → s.ddu.n.bit Reg.DDU_STATUS 0 1 = false → s.ddu.bnd.corePgood = true →
     s.ddu.pwr ≠ 0 → exec .fastDomainStart s = .next (s.settleDdu (s.ddu.on fun n => n.setB Reg.DDU_STATUS 0 1 true))) ∧
  (∀ s : State, s.ddu.live = true → s.ddu.n.bit Reg.DDU_STATUS 0 1 = true →
     exec .fastDomainReady s = .next (s.settleDdu (s.ddu.on fun n => (n.setFld Reg.DDU_STATUS 0 1 2 2).setB Reg.DDU_STATUS 0 5 false))) ∧
  (∀ s : State, s.ddu.live = true → s.ddu.fastIdle = true → s.ddu.n.bit Reg.DDU_STATUS 0 2 = true →
     exec .fastIdleExpiry s = .next (s.settleDdu (s.ddu.on fun n => (n.setFld Reg.DDU_STATUS 0 1 2 0).setB Reg.DDU_STATUS 0 5 true))) ∧
  (∀ s : State, s.ddu.live = true → s.ddu.bnd.clkStretch = false →
     exec .droopDetect s = .next (s.settleDdu { s.ddu with
       bnd := { s.ddu.bnd with clkStretch := true }
       pw := { s.ddu.pw with stretches := s.ddu.pw.stretches + 1, held := s.ddu.pw.held + 1, stretchAt := s.ddu.n.local } })) ∧
  (∀ s : State, s.ddu.live = true → s.ddu.bnd.clkStretch = true →
     exec .clkStretchHoldEnd s = .next (s.settleDdu { s.ddu with
       bnd := { s.ddu.bnd with clkStretch := false }
       pw := { s.ddu.pw with strTicks := s.ddu.pw.strTicks + (s.ddu.n.local - s.ddu.pw.stretchAt) / 20 } })) ∧
  (∀ (s : State) (v : Nat), s.ddu.live = true → s.ddu.bnd.regReq = some v → (s.ddu.n.chan 1000 255).st = 0 → s.ddu.n.fld Reg.DDU_PWR_VSET 0 0 16 = v →
     exec .regAckRx s = .next (s.settleDdu { s.ddu with bnd := { s.ddu.bnd with regReq := none, regSet := v } })) ∧
  (∀ (s : State) (v : Nat), s.ddu.live = true → s.ddu.bnd.regReq = some v →
     exec .regReqTimeout s = .next (s.settleDdu (({ s.ddu with bnd := { s.ddu.bnd with regReq := none } } : Ddu).on fun n => n.chanFail 1000 255)))

/-- What the sub-block resets, the DDU's own resets and the closing of an epoch do. (02_die_unit_boundary.md R70, R72, R75, R76, R77, R78; 15_power_and_thermal.md R543; 20_reset_pins_electrical.md R681, R682; 08_jobs_sync_objects_ordering.md R277) -/
def Obligations.BoundaryResetsComplete : Prop :=
  (∀ (s : State) (who : Requester) (b : Nat), who ≠ .unprivileged → s.ddu.answers who = true → b < 11 → s.ddu.n.fld Reg.DDU_STATUS 0 8 3 ≠ 4 →
     s.ddu.n.bit Reg.DDU_SUBRESET 0 b = false → s.ddu.n.bit Reg.DDU_SUBRESET_MODE 0 b = false →
     exec (.subresetStart who (2 ^ b)) s = .next (({ s with busErr := false } : State).settleDdu (s.ddu.on fun n => { (n.setB Reg.DDU_SUBRESET 0 b true) with
       resets := n.resets ++ [({ bit := b, mode := 0, cause := subCause who, inFlight := s.ddu.subWork b, began := s.ddu.n.local } : ResetRun)] }))) ∧
  (∀ (s : State) (b : Nat) (r : ResetRun), s.ddu.live = true → s.ddu.n.resets.find? (fun r => r.bit == b && !r.drained) = some r →
     exec (.subresetDrainEnd b) s = .next (s.settleDdu (({ s.ddu with n := { s.ddu.n with resets :=
       { r with drained := true, discarded := min r.inFlight (s.ddu.subWork b), done := r.inFlight - min r.inFlight (s.ddu.subWork b) } ::
         (s.ddu.n.resets.filter fun x => x.bit != b) } } : Ddu).subDiscard b (min r.inFlight (s.ddu.subWork b))))) ∧
  (∀ (s : State) (b : Nat) (r : ResetRun), s.ddu.live = true → s.ddu.n.resets.find? (fun r => r.bit == b && r.drained) = some r →
     ∃ d : Ddu, exec (.subresetDone b) s = .next (s.settleDdu (d.on fun n => ((n.setB Reg.DDU_SUBRESET 0 b false).setB Reg.DDU_SUBRESET_DONE 0 b true).storeWaiting.emit 0 1
       0x1D 0x0005 (subUnit b) ([b, r.mode, r.cause, 0] ++ le 4 r.done ++ le 4 r.discarded ++ le 4 ((n.local - r.began) / 1000)))) ∧
       d = { s.ddu.subClear b with n := { (s.ddu.subClear b).n with resets := (s.ddu.subClear b).n.resets.filter fun x => x.bit != b } }) ∧
  (∀ s : State, exec .dduResetAssert s = .next { s with ddu := ({ s.ddu with bnd := { s.ddu.bnd with resetN := true } } : Ddu).cold }) ∧
  (∀ s : State, exec .dduAonPgoodFall s = .next { s with ddu := ({ s.ddu with bnd := { s.ddu.bnd with aonPgood := false } } : Ddu).cold }) ∧
  (∀ s : State, exec .dduAonPgoodRise s = .next { s with ddu := ({ s.ddu with bnd := { s.ddu.bnd with aonPgood := true } } : Ddu).cold }) ∧
  (∀ d : Ddu, d.cold.n.regs = (match d.bnd.fused with | some k => ({ dev := .ddu } : Node).setFld Reg.DDU_STATUS 0 8 3 k | none => { dev := .ddu }).regs ∧
     d.cold.n.txq = [] ∧ d.cold.n.resets = [] ∧ d.cold.led.a = d.led.a ∧ d.cold.led.b = d.led.b ∧ d.cold.led.journal = d.led.journal ∧
     d.cold.bnd.chkFifo = [] ∧ d.cold.bnd.markFifo = [] ∧ d.cold.bnd.clkStretch = false ∧ d.cold.bnd.regReq = none) ∧
  (∀ s : State, s.ddu.bnd.aonPgood = true → s.ddu.bnd.hostActive = false → s.ddu.n.fld Reg.DDU_DL_STATUS 0 0 3 ≠ 0 →
     exec .dduResetRelease s = .next (s.settleDdu { s.ddu with bnd := { s.ddu.bnd with resetN := false } })) ∧
  (∀ (s : State) (d : Ddu), s.ddu.bnd.aonPgood = true → s.ddu.bnd.hostActive = true →
     d = ({ s.ddu with bnd := { s.ddu.bnd with resetN := false } } : Ddu).hostRise → d.n.fld Reg.DDU_DL_STATUS 0 0 3 ≠ 0 →
     exec .dduResetRelease s = .next (s.settleDdu d)) ∧
  (∀ s : State, s.ddu.live = true → s.ddu.n.timeState ≠ tsUnaligned → s.ddu.n.fld Reg.DDU_DL_STATUS 0 0 3 = 2 ∨ s.ddu.n.fld Reg.DDU_DL_STATUS 0 0 3 = 3 →
     exec .dduAliveRaise s = .next (s.settleDdu (s.ddu.on fun n => (n.setB Reg.DDU_STATUS 0 3 true).setB Reg.DDU_STATUS 0 4 false))) ∧
  (∀ s : State, s.ddu.live = true → s.ddu.pw.phases = s.ddu.led.image.phases →
     exec .corePgoodFall s = .next (s.settleDdu (({ s.ddu with bnd := { s.ddu.bnd with corePgood := false } } : Ddu).toSlack 2))) ∧
  (∀ (s : State) (e a before : Nat) (rest : List (Nat × Nat × Nat)), s.ddu.live = true → s.ddu.chk.closing = (e, a, before) :: rest →
     before + s.ddu.bnd.chkFifo.length ≤ s.ddu.chk.accepted → (s.ddu.chk.slots.all fun x => slotEpoch x.val != e) = true → s.ddu.chk.epochs = [] →
     ∃ d : Ddu, exec .epochCloseComplete s = .next (s.settleDdu d) ∧ d.chk.closing = rest ∧ d.rd Reg.DDU_SNOOP_SUSPECT_FROM = (e + 1) % 2 ^ 32)

/-- What the commands of the Counter Bank and of the sentinel's counters do. (03_counters_and_sensors.md R83, R84, R85, R86, R87, R91, R115, R116; 02_die_unit_boundary.md R50, R51) -/
def Obligations.CounterCommandsComplete : Prop :=
  (∀ (s : State) (ev inc : Nat), s.ddu.live = true → ev < 0xF00 → inc < 16 →
     exec (.eventBusCycle [some (ev, inc)]) s = .next (s.settleDdu (({ s.ddu with
       bnd := { s.ddu.bnd with markFifo := s.ddu.bnd.markFifo.map fun (m, t, _, k) => (m, t, true, k) } } : Ddu).on fun n =>
         (n.countIn n.regs ev inc).mapFaults ev inc))) ∧
  (∀ s : State, s.ddu.n.bankRuns = true →
     exec .preaccFold s = .next (s.settleDdu (s.ddu.on fun n =>
       ((List.range 4096).filter fun e => lookupD n.preAcc e 0 != 0).foldl (fun m e => m.countRun m.regs e (lookupD n.preAcc e 0)) { n with preAcc := [] }))) ∧
  (∀ (s : State) (k : Nat), k % 2 = 1 → s.ddu.n.rd Reg.DDU_CNT k = 2 ^ 48 - 1 → s.ddu.n.chained k = false → s.ddu.n.bankRuns = true →
     exec (.cntWrap k) s = .next (s.settleDdu (s.ddu.on fun n => (n.wr Reg.DDU_CNT k 0).cntWrapped k))) ∧
  (∀ (s : State) (k : Nat), k % 2 = 0 → s.ddu.n.rd Reg.DDU_CNT k = 2 ^ 48 - 1 → s.ddu.n.chained k = false → s.ddu.n.bankRuns = true →
     s.ddu.n.fld Reg.DDU_CNT_SEL k 12 2 = 1 → (s.ddu.n.wr Reg.DDU_CNT k 0).chained k = false → (s.ddu.n.wr Reg.DDU_CNT k 0).fld Reg.DDU_CNT_SEL k 12 2 = 1 →
     exec (.cntChained k) s = .next (s.settleDdu (s.ddu.on fun n => (n.wr Reg.DDU_CNT k 0).cntChains k (n.rd Reg.DDU_CNT (k + 1) % 2 ^ 48)))) ∧
  (∀ (s : State) (who : Requester) (d : Ddu) (k v : Nat), FastMay s who d → 87 < k → k % 2 = 1 →
     exec (.cntSelWrite who k v) s = .next (({ s with busErr := false } : State).settleDdu (d.on fun n =>
       n.wr Reg.DDU_CNT_SEL k (setBits (setBits (setBits (n.rd Reg.DDU_CNT_SEL k) 15 1 (bits v 15 1)) 0 12 (bits v 0 12)) 12 2 0)))) ∧
  (∀ (s : State) (who : Requester) (d : Ddu) (k : Nat), FastMay s who d → s.ddu.n.withheld k = false → k % 2 = 0 → d.n.chained k = true →
     (d.n.wr Reg.DDU_CNT_HI_LATCH 0 (d.n.rd Reg.DDU_CNT (k + 1))).withheld k = false →
     exec (.cntChainRead who k) s = .next (({ s with rdata := s.ddu.n.rd Reg.DDU_CNT k, busErr := false } : State).settleDdu
       (d.wr Reg.DDU_CNT_HI_LATCH 0 (d.n.rd Reg.DDU_CNT (k + 1))))) ∧
  (∀ (s : State) (who : Requester) (d : Ddu) (first count : Nat), FastMay s who d → first < 4096 → 0 < count → first + count ≤ 4096 → d.streams = [] →
     exec (.cntClear who (first + count * 65536)) s = .next (({ s with busErr := false } : State).settleDdu
       { (d.on fun n => n.cntClearRange first (first + count - 1)) with streams := [] })) ∧
  (∀ (s : State) (who : Requester) (d : Ddu), FastMay s who d → d.n.bit Reg.DDU_CNT_FREEZE 0 0 = false →
     exec (.cntFreezeWrite who 1) s = .next (({ s with busErr := false } : State).settleDdu (d.on fun n => n.setB Reg.DDU_CNT_FREEZE 0 0 true))) ∧
  (∀ s : State, s.ddu.n.bit Reg.DDU_CNT_FREEZE 0 0 = true →
     exec .cntFreezeExpiry s = .next (s.settleDdu (s.ddu.on fun n => ((n.setB Reg.DDU_CNT_FREEZE 0 0 false).setB Reg.DDU_CNT_FREEZE 0 1 true).fold))) ∧
  (∀ s : State, exec (.pcntLatch .firmware) s = .next (s.settleAbl (s.abl.on fun n => { n with regs :=
       ((n.regs.filter fun p => decide (0x00D00000 ≤ p.1) && decide (p.1 < 0x00D03000)).foldl (fun f p => RegFile.put f (p.1 + 0x8000) p.2)
         (n.regs.resetRange 0x00D08000 0x00D0B000)) }))) ∧
  (∀ (s : State) (first count : Nat), first < 1536 → 0 < count → first + count ≤ 1536 → first % 2 = 0 → (first + count - 1) % 2 = 1 →
     exec (.pcntClear .firmware (first + count * 65536)) s = .next (s.settleAbl (s.abl.on fun n => { n with regs :=
       (n.regs.resetRange (Reg.ABL_PCNT.addr first) (Reg.ABL_PCNT.addr (first + count))) })))

/-- What the commands of the bandwidth windows, the sensors and precise sampling do. (03_counters_and_sensors.md R100, R101, R102, R106, R108, R117, R118; 10_replay_grid.md R359) -/
def Obligations.SensingCommandsComplete : Prop :=
  (∀ (s : State) (who : Requester) (d : Ddu) (w v : Nat), FastMay s who d → 0 < bits v 32 20 → bits v 32 20 ≤ 1000000 →
     exec (.bwCfgWrite .ddu who w v) s = .next (({ s with busErr := false } : State).settleDdu (d.on fun n =>
       { (((n.wr (bwCfg n.dev) w (bits v 32 20 * 2 ^ 32 + bits v 0 12)).wr (bwLast n.dev) w 0).wr (bwPeak n.dev) w 0) with
         bw := { w := w } :: n.bw.filter fun b => b.w != w }))) ∧
  (∀ (s : State) (w : Nat) (b : BwX), s.ddu.n.bw.find? (fun b => b.w == w && b.begun &&
     decide (b.at_ + s.ddu.n.fld (bwCfg s.ddu.n.dev) w 32 20 * 1000 ≤ s.ddu.n.rd (Reg.TIME_WRAP s.ddu.n.dev) * 2 ^ 32 + s.ddu.n.now)) = some b →
     ∃ n : Node, exec (.bwWindowClose .ddu w) s = .next (s.settleDdu { s.ddu with n := n }) ∧
       n.bw = { b with acc := 0, at_ := b.at_ + s.ddu.n.fld (bwCfg s.ddu.n.dev) w 32 20 * 1000 } :: (s.ddu.n.bw.filter fun x => x.w != w) ∧
       n.rd (bwPeak s.ddu.n.dev) w = max ((s.ddu.n.wr (bwLast s.ddu.n.dev) w ((bits (s.ddu.n.rd (bwLast s.ddu.n.dev) w) 48 16 + 1) % 65536 * 2 ^ 48 +
         b.acc % 2 ^ 48)).rd (bwPeak s.ddu.n.dev) w) (b.acc % 2 ^ 48) % 2 ^ (bwPeak s.ddu.n.dev).width) ∧
  (∀ (s : State) (c raw clamp : Nat), s.ddu.live = true → s.ddu.n.bit Reg.DDU_SNS_STATE c 31 = false → s.ddu.n.fld Reg.DDU_SNS_CFG c 0 24 ≠ 0 →
     (((s.ddu.sensSample c raw clamp (Config.freeNat s.free)).sumNote c).lrbNote c).rd Reg.DDU_SNS_EVENTS c = s.ddu.rd Reg.DDU_SNS_EVENTS c →
     exec (.sensorSample c raw clamp) s = .next (({ s with free := s.free + 1 } : State).settleDdu
       (((s.ddu.sensSample c raw clamp (Config.freeNat s.free)).sumNote c).lrbNote c))) ∧
  (∀ (s : State) (c : Nat) (d : Ddu), s.ddu.live = true → bit (s.ddu.n.rd Reg.DDU_SNS_STATE c) 31 = false → s.ddu.n.fld Reg.DDU_SNS_CFG c 0 24 ≠ 0 →
     lookupD s.ddu.sens.last c 0 + 4 * s.ddu.sensPeriod c ≤ s.ddu.n.local →
     d = s.ddu.wr Reg.DDU_SNS_STATE c (setBit (s.ddu.n.rd Reg.DDU_SNS_STATE c) 30 true) →
     exec (.sensorStale c) s = .next (s.settleDdu (({ d with sens := { d.sens with last := bindKey d.sens.last c s.ddu.n.local } } : Ddu).on fun n =>
       (n.sensRec c 3 0).chanFail c 255))) ∧
  (∀ (s : State) (core occ pc instr latency p i : Nat) (tag g : SampleTag), core < 256 → s.abl.sampled core = some (p, i, g) →
     512 ≤ s.abl.n.fld Reg.ABL_PSAMP_CTRL 0 0 11 → s.abl.n.fld Reg.ABL_PSAMP_CTRL 0 0 11 < 1152 → lookupD s.abl.psamp.next core (s.abl.n.rd Reg.ABL_PSAMP_PERIOD) ≤ occ → s.abl.n.rd Reg.ABL_PSAMP_PERIOD ≠ 0 → s.abl.n.bit Reg.ABL_PSAMP_SCOPE 0 0 = true →
     s.abl.profJobs.contains g.jobtag = true → latency < 65536 → s.abl.n.rd Reg.ABL_PSAMP_RDPTR = s.abl.n.rd Reg.ABL_PSAMP_WRPTR →
     s.abl.n.rd Reg.ABL_PSAMP_WRPTR < 4096 →
     ∃ a : Abl, exec (.psampSample core occ pc instr latency tag) s = .next (({ s with free := s.free + 1 } : State).settleAbl a) ∧
       a.n.rd Reg.ABL_PSAMP_WRPTR = (s.abl.n.rd Reg.ABL_PSAMP_WRPTR + 1) % 4096 ∧
       a.n.rd Reg.ABL_PSAMP_BUF (s.abl.n.rd Reg.ABL_PSAMP_WRPTR % 2048) = leNat (le 8 p ++ le 4 i ++ le 2 latency ++ le 2 core ++ le 4 s.abl.n.now ++
         le 2 (s.abl.n.fld Reg.ABL_PSAMP_CTRL 0 0 11) ++ zeros 2 ++ le 4 g.jobtag ++ [g.context % 256, 0, 0, 0]) ∧
       a.psamp.next = bindKey s.abl.psamp.next core (s.abl.n.rd Reg.ABL_PSAMP_PERIOD +
         Config.freeNat s.free % 2 ^ s.abl.n.fld Reg.ABL_PSAMP_CTRL 0 16 5))

/-- What the commands of the Trace Unit do when they may act. (04_trace_and_event_records.md R119, R122, R124, R125, R126, R127, R130, R131, R134, R138, R139; 05_timekeeping.md R170) -/
def Obligations.TraceCommandsComplete : Prop :=
  (∀ (s : State) (c pc reason target : Nat), s.ddu.tapOn c = true → (s.ddu.trc.core c).tapOver = false →
     exec (.traceTapRetire c pc (.addr reason target) false) s =
       .next (s.settleDdu ((s.ddu.trcCorePkt c pc true (some ([pktHead 4 false c, reason % 256] ++ le 6 target))).trcView))) ∧
  (∀ (s : State) (c pc : Nat) (ev : TapEvent), s.ddu.tapOn c = true →
     exec (.traceTapRetire c pc ev true) s = .next (s.settleDdu { s.ddu with
       trc := s.ddu.trc.setCore ((s.ddu.trc.core c).lose ev) })) ∧
  (∀ (s : State) (c pc : Nat), s.ddu.tapOn c = true → (s.ddu.trc.core c).tapOver = true →
     ∃ d : Ddu, exec (.tapFifoRecover c pc) s = .next (s.settleDdu ((d.trcCorePkt c pc false none).trcView)) ∧
       d = ({ ({ s.ddu with trc := s.ddu.trc.setCore { s.ddu.trc.core c with tapOver := false, dropped := 0 } } : Ddu).trcPut
         ([pktHead 10 true 0, 1, 0, 0] ++ le 4 (s.ddu.trc.core c).dropped) with
         trc := (({ s.ddu with trc := s.ddu.trc.setCore { s.ddu.trc.core c with tapOver := false, dropped := 0 } } : Ddu).trcPut
           ([pktHead 10 true 0, 1, 0, 0] ++ le 4 (s.ddu.trc.core c).dropped)).trc.needAll 3 } : Ddu).bump Reg.DDU_TRC_LOST 0 (s.ddu.trc.core c).dropped) ∧
  (∀ (s : State) (c pc : Nat), s.ddu.tapOn c = true → s.ddu.rd Reg.DDU_TRC_SYNC_US ≠ 0 →
     s.ddu.rd Reg.DDU_TRC_SYNC_US * 1000 ≤ s.ddu.n.local - (s.ddu.trc.core c).lastSync →
     exec (.tracePeriodicSync c pc) s = .next (s.settleDdu ((s.ddu.trcCorePkt c pc false none).trcView))) ∧
  (∀ (s : State) (who : Requester) (d : Ddu) (v : Nat), FastMay s who d → d.n.bit Reg.DDU_PROF_CTRL 0 0 = true →
     (d.trcCtrl v).trcState = trcOff → d.n.bit Reg.DDU_SUBRESET 0 3 = false →
     exec (.traceEnable who v) s = .next (({ s with busErr := false } : State).settleDdu
       { (((d.trcCtrl v).on fun n => n.setB Reg.DDU_TRC_CTRL 0 0 true).fastStart.trcArm) with
         trc := { (((d.trcCtrl v).on fun n => n.setB Reg.DDU_TRC_CTRL 0 0 true).fastStart.trcArm).trc with byDebug := false } })) ∧
  (∀ (s : State) (who : Requester) (d : Ddu) (v : Nat), FastMay s who d →
     ((d.trcCtrl v).on fun n => n.setB Reg.DDU_TRC_CTRL 0 0 false).trcState = trcOff →
     exec (.traceDisable who v) s = .next (({ s with busErr := false } : State).settleDdu ((d.trcCtrl v).on fun n => n.setB Reg.DDU_TRC_CTRL 0 0 false))) ∧
  (∀ s : State, s.ddu.trc.draining ≠ 0 → s.ddu.trc.loss = 0 →
     exec .traceDisableDrainEnd s = .next (s.settleDdu (({ s.ddu with trc := { s.ddu.trc with staging := s.ddu.trc.staging.drop s.ddu.trc.draining, draining := 0 } } : Ddu).on
       fun n => n.loss s.ddu.trc.draining 0x0002 3 (some 499)))) ∧
  (∀ (s : State) (who : Requester) (e : Ddu), FastMay s who e → e.n.bit Reg.DDU_SUBRESET 0 3 = false → e.trcState = trcArmed → e.trc.open_ = false → e.trc.complete = 0 →
     ∃ d : Ddu, exec (.trigNow who) s = .next (({ s with busErr := false } : State).settleDdu d) ∧ d.trc.trigSeq = e.trc.trigSeq + 1 ∧ d.trc.headland = []) ∧
  (∀ (s : State) (who : Requester) (d : Ddu), FastMay s who d → d.trcState = trcDone →
     exec (.rearm who) s = .next (({ s with busErr := false } : State).settleDdu d.trcArm)) ∧
  (∀ s : State, s.ddu.trc.postOn = true → s.ddu.rd Reg.DDU_TRC_POST_KIB * 1024 ≤ s.ddu.trc.post + s.ddu.trc.cur.length →
     exec .tracePostDone s = .next (s.settleDdu ((({ s.ddu.trcClose with trc := { s.ddu.trcClose.trc with postOn := false } } : Ddu).setTrcState trcDone).trcView))) ∧
  (∀ s : State, s.ddu.trcState = trcTriggered → 4096 * (1024 - s.ddu.trc.headland.length) ≤ s.ddu.trc.post →
     exec .traceAreaFull s = .next (s.settleDdu ((({ s.ddu with trc := { s.ddu.trc with inStage := true } } : Ddu)).setTrcState trcSpilling))) ∧
  (∀ (s : State) (b : List Nat) (rest : List (List Nat)), s.ddu.live = true → s.ddu.trc.staging = b :: rest → s.ddu.spillReady = true → s.ddu.fb.queue = [] → s.ddu.trc.loss = 0 →
     ∃ d : Ddu, exec .traceSpillBlock s = .next (s.settleDdu d) ∧ d.trc.staging = rest ∧
       d.fabric = s.ddu.fabric ++ [FabricOut.mk 2 (s.ddu.rd Reg.DDU_SPILL_BASE + s.ddu.rd Reg.DDU_TRC_SPILL_WR % s.ddu.spillSize) b none]) ∧
  (∀ (s : State) (who : Requester) (d : Ddu) (v : Nat), FastMay s who d → d.rd Reg.DDU_TRC_SPILL_RD ≤ v →
     v ≤ d.rd Reg.DDU_TRC_SPILL_WR → v % 4096 = 0 →
     exec (.traceSpillRdWrite who v) s = .next (({ s with busErr := false } : State).settleDdu (d.wr Reg.DDU_TRC_SPILL_RD 0 v))) ∧
  (∀ s : State, s.ddu.pwr ≠ 0 → (s.ddu.n.timeState = tsLocked ∧ s.ddu.n.timex.load = none) ∨ s.ddu.pw.woke + 100000 ≤ s.ddu.n.local → s.ddu.trcState = trcParked →
     s.ddu.trc.loss = 0 → ∀ d : Ddu, d = ((s.ddu.setTrcState (s.ddu.n.fld Reg.DDU_TRC_STATE 0 4 3)).on fun n => n.setFld Reg.DDU_TRC_STATE 0 4 3 0).trcNext →
     s.ddu.trc.postOn = false → d.tracing = true → d.trcRoom = true → d.trc.loss = 0 →
     exec .traceResume s = .next (s.settleDdu ((({ d with trc := { d.trc with firstReason := some 2 } } : Ddu).trcOpen 2).trcView))) ∧
  (∀ (s : State) (who : Requester) (off : Nat), who ≠ .unprivileged → s.ddu.answers who = true → s.ddu.trcState = trcDone →
     exec (.traceApertureRead who off) s = .next (({ s with busErr := false, rdata :=
       (leAt (s.ddu.trcBlock (8 * s.ddu.n.fld Reg.DDU_TRC_APERTURE 0 0 7 + off / 4096 % 8)) (off % 4096) 8) } : State).settleDdu s.ddu.fastAccess)) ∧
  (∀ (s : State) (x : TraceExport) (off : Nat) (b : List Nat) (rest : List (Nat × List Nat)), s.ddu.trc.exp = some x → x.suspended = false →
     x.left = (off, b) :: rest → rest ≠ [] →
     exec .traceExportBlock s = .next (s.settleDdu { (s.ddu.on fun n => n.frameUp (n.rd Reg.DDU_JOB_TAG) 3 .traceBlock
       [x.handle, off, 0] b) with
       trc := { s.ddu.trc with exp := some { x with left := rest, sent := x.sent + 1 } } }))

/-- What the commands of the event recorders do on both devices. (04_trace_and_event_records.md R143, R148, R151) -/
def Obligations.RecorderCommandsComplete : Prop :=
  (∀ s : State, s.abl.n.bit (Reg.REC_FREEZE s.abl.n.dev) 0 0 = false → s.abl.n.fld (Reg.REC_FREEZE_MAX_US s.abl.n.dev) 0 0 20 ≠ 0 →
     (({ (s.abl.n.setB (Reg.REC_FREEZE s.abl.n.dev) 0 0 true) with recx := { s.abl.n.recx with freezeNs := s.abl.n.now } } : Node).fld
       (Reg.REC_FREEZE_MAX_US s.abl.n.dev) 0 0 20) ≠ 0 →
     exec (.recFreezeWrite .abl .firmware 1) s = .next (s.settleAbl (s.abl.on fun n =>
       { (n.setB (Reg.REC_FREEZE n.dev) 0 0 true) with recx := { n.recx with freezeNs := n.now } }))) ∧
  (∀ s : State, s.ddu.n.bit (Reg.REC_FREEZE s.ddu.n.dev) 0 0 = true →
     exec (.recFreezeExpiry .ddu) s = .next (s.settleDdu (s.ddu.on fun n => (fun m : Node => m.emit 0 1 0x01 0x0002 (recSrc m.dev)
       (le 4 m.recx.freezeNs ++ zeros 4)) (((n.setB (Reg.REC_FREEZE n.dev) 0 0 false).setB (Reg.REC_FREEZE n.dev) 0 1 true).recThaw)))) ∧
  (∀ s : State, s.abl.n.bit (Reg.REC_FREEZE s.abl.n.dev) 0 0 = true →
     exec (.recFreezeExpiry .abl) s = .next (s.settleAbl (s.abl.on fun n => (fun m : Node => m.emit 0 1 0x01 0x0002 (recSrc m.dev)
       (le 4 m.recx.freezeNs ++ zeros 4)) (((n.setB (Reg.REC_FREEZE n.dev) 0 0 false).setB (Reg.REC_FREEZE n.dev) 0 1 true).recThaw)))) ∧
  (∀ (s : State) (k v : Nat), exec (.recRlWrite .abl .firmware k v) s = .next (s.settleAbl (s.abl.on fun n =>
       ({ (n.softWrite (Reg.REC_RL n.dev) k (ones 64) v) with recx := { n.recx with buckets := n.recx.buckets.filter fun b => b.idx != k } } : Node).putBucket
         { idx := k, tokens := bits v 16 16 * 1024, last := ({ (n.softWrite (Reg.REC_RL n.dev) k (ones 64) v) with
           recx := { n.recx with buckets := n.recx.buckets.filter fun b => b.idx != k } } : Node).local }))) ∧
  (∀ (s : State) (who : Requester) (k v : Nat), who ≠ .unprivileged → s.ddu.answers who = true →
     exec (.recRlWrite .ddu who k v) s = .next (({ s with busErr := false } : State).settleDdu (s.ddu.on fun n => n.rlWrite k v)))

/-- What the commands of the Time Unit do on both devices. (05_timekeeping.md R152, R154, R155, R156, R158, R159, R168, R169) -/
def Obligations.TimeUnitCommandsComplete : Prop :=
  (∀ s : State, s.abl.n.timex.load = none → s.abl.n.tickSum < 2 ^ 64 →
     exec (.timeTick .abl) s = .next (s.settleAbl (s.abl.on fun n =>
       (fun m : Node => (({ (m.wr (Reg.TIME_NS m.dev) 0 (m.tickSum / 2 ^ 32 % 2 ^ 32)) with frac := m.tickSum % 2 ^ 32 } : Node).slewTick))
         { n with timex := { n.timex with elapsed := n.timex.elapsed + n.incr, load := none } }))) ∧
  (∀ s : State, s.ddu.live = true → s.ddu.n.timex.load = none → s.ddu.n.tickSum < 2 ^ 64 →
     exec (.timeTick .ddu) s = .next (s.settleDdu (s.ddu.on fun n =>
       (fun m : Node => (({ (m.wr (Reg.TIME_NS m.dev) 0 (m.tickSum / 2 ^ 32 % 2 ^ 32)) with frac := m.tickSum % 2 ^ 32 } : Node).slewTick))
         { n with timex := { n.timex with elapsed := n.timex.elapsed + n.incr, load := none } }))) ∧
  (∀ s : State, s.abl.n.timex.load = none → 2 ^ 64 ≤ s.abl.n.tickSum →
     exec (.timeWrap .abl) s = .next (s.settleAbl (s.abl.on fun n =>
       (fun m : Node => (({ (m.wr (Reg.TIME_NS m.dev) 0 (m.tickSum / 2 ^ 32 % 2 ^ 32)) with frac := m.tickSum % 2 ^ 32 } : Node).slewTick).wrapped)
         { n with timex := { n.timex with elapsed := n.timex.elapsed + n.incr, load := none } }))) ∧
  (∀ (s : State) (ns frac : Nat), s.abl.n.timex.load = some (.abs ns frac) →
     exec (.timeTick .abl) s = .next (s.settleAbl (s.abl.on fun n =>
       ({ n with timex := { n.timex with elapsed := n.timex.elapsed + n.incr, load := none } } : Node).timeLoad ns frac none))) ∧
  (∀ (s : State) (d : Int), s.ddu.live = true → s.ddu.n.timex.load = some (.rel d) →
     exec (.timeTick .ddu) s = .next (s.settleDdu (s.ddu.on fun n =>
       ({ n with timex := { n.timex with elapsed := n.timex.elapsed + n.incr, load := none } } : Node).loadTide (tideAdd n.would d)))) ∧
  (∀ s : State, s.ddu.live = true → s.ddu.n.rd (Reg.TIME_SLEW_TICKS s.ddu.n.dev) = 1 →
     exec (.slewEnd .ddu) s = .next (s.settleDdu (s.ddu.on Node.tick))) ∧
  (∀ s : State, exec (.timeNsRead .abl) s = .next (({ s with rdata := s.abl.n.now, busErr := false } : State).settleAbl (s.abl.on fun n =>
       (n.wr (Reg.TIME_FRAC_LATCH n.dev) 0 n.frac).wr (Reg.TIME_WRAP_LATCH n.dev) 0 (n.rd (Reg.TIME_WRAP n.dev))))) ∧
  (∀ s : State, s.ddu.live = true → exec (.timeNsRead .ddu) s = .next (({ s with rdata := s.ddu.n.now, busErr := false } : State).settleDdu (s.ddu.on fun n =>
       (n.wr (Reg.TIME_FRAC_LATCH n.dev) 0 n.frac).wr (Reg.TIME_WRAP_LATCH n.dev) 0 (n.rd (Reg.TIME_WRAP n.dev))))) ∧
  (∀ (s : State) (v : Nat), v < 2 ^ 40 → 1998 * 2 ^ 32 ≤ v * 100 → v * 100 ≤ 2002 * 2 ^ 32 →
     exec (.timeIncrWrite .abl .firmware false v) s = .next (s.settleAbl (s.abl.on fun n => n.wr (Reg.TIME_INCR n.dev) 0 v)) ∧
     exec (.timeIncrWrite .abl .firmware true v) s = .next (s.settleAbl (s.abl.on fun n => n.wr (Reg.TIME_SLEW_INCR n.dev) 0 v))) ∧
  (∀ (s : State) (v : Nat) (slew : Bool), v < 2 ^ 40 → v * 100 < 1998 * 2 ^ 32 ∨ 2002 * 2 ^ 32 < v * 100 →
     exec (.timeIncrWrite .abl .firmware slew v) s = .next (s.settleAbl (s.abl.on fun n => n.bump (Reg.TIME_REFUSED n.dev)))) ∧
  (∀ (s : State) (v : Nat), (s.abl.n.setSlew v).swServo = false →
     exec (.slewTicksWrite .abl .firmware v) s = .next (s.settleAbl (s.abl.on fun n => n.setSlew v))) ∧
  (∀ s : State, s.abl.n.swServo = false →
     exec (.timeLoad .abl .firmware) s = .next (s.settleAbl (s.abl.on fun n =>
       n.loadNext (.abs (n.rd (Reg.TIME_LOAD_NS n.dev)) (n.rd (Reg.TIME_LOAD_FRAC n.dev)))))) ∧
  (∀ s : State, s.abl.n.timeState = tsJumpHeld →
     exec (.acceptJump .abl .firmware) s = .next (s.settleAbl (s.abl.on fun n =>
       ((n.loadNext (.rel n.timex.theta)).follow n.timex.master n.timex.source).setTimeState tsLocked))) ∧
  (∀ s : State, s.ddu.live = true → s.ddu.n.srcSel ≠ 3 → s.ddu.n.timeState = tsLocked →
     exec (.timeSourceLost .ddu) s = .next (s.settleDdu (s.ddu.on fun n =>
       { (n.toHoldover 1) with timex := { (n.toHoldover 1).timex with t1 := none } }))) ∧
  (∀ (s : State) (m : Node), s.abl.n.srcSel = 3 → s.abl.n.timeState = tsLocked →
     m = ({ s.abl.n with timex := { s.abl.n.timex with ptp := { s.abl.n.timex.ptp with
       half := none, masters := s.abl.n.timex.ptp.masters.filter fun c => some c != s.abl.n.timex.ptp.best } } } : Node) →
     exec (.timeSourceLost .abl) s = .next (s.settleAbl (s.abl.on fun _ =>
       { (m.toHoldover 1) with timex := { (m.toHoldover 1).timex with t1 := none } })))

/-- What the time exchange, the alarm, the pulse and the launch commands do. (05_timekeeping.md R160, R161, R163, R165, R167, R172, R173, R175, R176, R177, R178, R180) -/
def Obligations.TimeExchangeCommandsComplete : Prop :=
  (∀ s : State, s.abl.n.asleep = false → s.abl.n.srcSel = 1 → s.abl.n.exch ≠ 0 →
     exec (.timeReqSend .abl) s = .next (s.settleAbl (s.abl.on fun n =>
       ({ n with timex := { n.timex with t1 := none } } : Node).frameUp 0 6 .timeReq [n.rd (Reg.TIME_DELAY n.dev)]))) ∧
  (∀ (s : State) (port slot client delta t2 : Nat), slot ≠ 0 → s.abl.n.timeState ≠ tsUnaligned →
     exec (.timeReqRx .abl port slot client delta t2) s = .next (s.settleAbl (s.abl.on fun n =>
       n.queueAt port 63 (n.mkMsg client 6 (.frame .timeResp [t2, 0, n.timeState] [])) slot))) ∧
  (∀ (s : State) (port client delta t2 : Nat) (m : Node), s.abl.n.dev = .abl → m = s.abl.n.wr (Reg.LNK_DELAY .abl) port delta →
     m.timeState ≠ tsUnaligned → exec (.timeReqRx .abl port 0 client delta t2) s = .next (s.settleAbl (s.abl.on fun _ =>
       m.queueAt port 63 (m.mkMsg client 6 (.frame .timeResp [t2, 0, m.timeState] [])) 0))) ∧
  (∀ (s : State) (port t1 t2 t3 flags master : Nat) (delta theta : Int) (m : Node), s.ddu.live = true → s.ddu.n.dev = .ddu → s.ddu.n.timex.t1 = some t1 →
     delta = (500 * (((s.ddu.n.stamp : Int) - t1) - ((t3 : Int) - t2) * 256) - toInt 32 (s.ddu.n.rd (Reg.TIME_ASYM .ddu)) * 256 + 128000) / 256000 →
     theta = (500 * (((t2 : Int) * 256 - t1) + ((t3 : Int) * 256 - s.ddu.n.stamp)) + toInt 32 (s.ddu.n.rd (Reg.TIME_ASYM .ddu)) * 256 + 128000) / 256000 →
     m = ({ (((s.ddu.n.wr (Reg.TIME_DELAY .ddu) 0 (ofInt 32 delta)).wr (Reg.TIME_OFFSET .ddu) 0 (ofInt 32 theta)).wr (Reg.LNK_DELAY .ddu) port (ofInt 32 delta)) with
       timex := { s.ddu.n.timex with t1 := none, serverHold := flags == tsHoldover || flags == tsJumpHeld, serverOut := flags == tsHoldover } } : Node).stamped →
     exec (.timeRespRx .ddu port t2 t3 flags master) s = .next (s.settleDdu (s.ddu.on fun _ =>
       m.timeSample theta ((t3 : Int) + delta - (s.ddu.n.stamp / 256 : Nat)) (if m.inFallback then m.parentIdent else master) (if m.inFallback then 2 else 1) !m.swServo))) ∧
  (∀ (s : State) (port domain src seq : Nat) (m : PtpMsg), domain ≠ s.abl.n.timex.ptpDomain → exec (.ptpMessageRx port domain src seq m) s = .next (s.settleAbl s.abl)) ∧
  (∀ (s : State) (port domain src seq : Nat) (m : PtpMsg), domain = s.abl.n.timex.ptpDomain → s.abl.n.mgmtDown (24 + port) = false →
     exec (.ptpMessageRx port domain src seq m) s = .next (s.settleAbl (s.abl.on fun n => n.ptpRx port src seq m))) ∧
  (∀ (s : State) (port domain src seq gm p1 cls acc var p2 : Nat), domain = s.abl.n.timex.ptpDomain → s.abl.n.mgmtDown (24 + port) = false →
     s.abl.n.asleep = false →
     ∃ a : Abl, exec (.ptpMessageRx port domain src seq (.announce gm p1 cls acc var p2 0)) s = .next (s.settleAbl a) ∧
       a.n.timex.ptp.masters = (s.abl.n.timex.ptp.masters.filter fun c => !(c.port == port && c.src == src)) ++
         [{ port := port, src := src, gm := gm, rank := [p1, cls, acc, var, p2, gm, 0, src, port] }]) ∧
  (∀ s : State, s.abl.n.timeState = tsHoldover → 2500000000 < s.abl.n.local - s.abl.n.timex.holdSince →
     exec .holdoverAlarm s = .next (s.settleAbl (s.abl.on fun n =>
       ({ n with timex := { n.timex with goodRun := 0 } } : Node).timeAlign ((n.local - n.timex.holdSince) / 1000)))) ∧
  (∀ (s : State) (m k : Node), s.abl.n.timex.lastPps = none → m = (s.abl.n.wr Reg.ABL_PPS_IN_STAMP 0 (s.abl.n.stamp / 256 % 2 ^ 32)).wr Reg.ABL_PPS_IN_WRAP 0
       ((s.abl.n.stamp / 256 / 2 ^ 32 + 2 ^ 32 - s.abl.n.rd (Reg.TIME_TIDE_BASE .abl)) % 2 ^ 32) →
     k = ({ m with timex := { s.abl.n.timex with lastPps := some s.abl.n.local, ppsFrac := s.abl.n.stamp % 256, stamps := s.abl.n.timex.stamps + 1 } } : Node).irq 107 →
     k.srcSel ≠ 5 →
     exec .ppsInEdge s = .next (s.settleAbl { s.abl with n := k })) ∧
  (∀ s : State, s.abl.n.timex.lastPps = some s.abl.n.local →
     exec .ppsInEdge s = .next (s.settleAbl (s.abl.on fun n => n.bump (Reg.TIME_REFUSED .abl)))) ∧
  (∀ s : State, dist32 (s.abl.n.rd Reg.ABL_PPS_NEXT) s.abl.n.now ≤ 0 → s.abl.n.bit (Reg.TIME_STATUS .abl) 0 6 = false →
     exec .ppsOutDue s = .next (s.settleAbl (s.abl.on fun n => { (n.wr Reg.ABL_PPS_NEXT 0 ((n.rd Reg.ABL_PPS_NEXT + 1000000000) % 2 ^ 32)) with
       timex := { n.timex with ppsOut := (n.rd Reg.ABL_PPS_WIDTH_US ≠ 0 && n.timeState != tsUnaligned) || n.timex.ppsOut } }))) ∧
  (∀ s : State, exec .ppsOutEnd s = .next (s.settleAbl (s.abl.on fun n => { n with timex := { n.timex with ppsOut := false } }))) ∧
  (∀ (s : State) (v : Nat), exec (.ppsNextWrite .firmware v) s = .next (s.settleAbl (s.abl.on fun n =>
       (n.wr Reg.ABL_PPS_NEXT 0 v).setB (Reg.TIME_STATUS .abl) 0 6 false))) ∧
  (∀ s : State, 32 ≤ s.abl.n.timex.launch.length →
     exec (.launchEnqueue .firmware) s = .next (s.settleAbl (s.abl.on fun n => n.setB Reg.ABL_LAUNCH_STATUS 0 8 true))) ∧
  (∀ s : State, s.abl.n.timex.launch = [] → 0 < dist32 (s.abl.n.rd Reg.ABL_LAUNCH_TARGET) s.abl.n.now → bit (s.abl.n.rd Reg.ABL_LAUNCH_FRAME) 31 = false →
     s.abl.n.rd Reg.ABL_LAUNCH_PORTS = 1 →
     ∃ a : Abl, exec (.launchEnqueue .firmware) s = .next (s.settleAbl a) ∧ a.n.timex.launch = [LaunchEntry.mk (s.abl.n.rd Reg.ABL_LAUNCH_TARGET) 1
       ( bits (s.abl.n.rd Reg.ABL_LAUNCH_FRAME) 0 16) false]) ∧
  (∀ s : State, exec (.launchFlush .firmware) s = .next (s.settleAbl (s.abl.on fun n =>
       (({ n with timex := { n.timex with launch := [] } } : Node).setFld Reg.ABL_LAUNCH_STATUS 0 0 6 0).setB Reg.ABL_LAUNCH_STATUS 0 8 false))) ∧
  (∀ (s : State) (e : LaunchEntry), s.abl.n.timex.launch = [e] → (s.abl.n.launchDueOf e).2.ports = 0 →
     exec .launchDue s = .next (s.settleAbl (s.abl.on fun n =>
       (({ (n.launchDueOf e).1 with timex := { (n.launchDueOf e).1.timex with launch := [] } } : Node).launchView).setB Reg.ABL_LAUNCH_STATUS 0 8 false))) ∧
  (∀ (s : State) (k : Nat), s.ddu.live = true → exec (.snapAtFrameRx k) s = .next (s.settleDdu (s.ddu.fleetSnap k)))

/-- What the commands of a Dervi Link lane do. (06_dervi_link.md R187, R188, R191, R192, R196, R197, R198, R200, R206, R694) -/
def Obligations.LaneCommandsComplete : Prop :=
  (∀ (s : State) (p slot : Nat), exec (.flitTime .abl p slot) s = .next (settled s .abl (s.abl.n.flitTime p slot))) ∧
  (∀ (s : State) (p slot : Nat), s.ddu.live = true → s.ddu.n.bit Reg.DDU_STATUS 0 7 = false →
     exec (.flitTime .ddu p slot) s = .next (settled s .ddu (s.ddu.n.flitTime 0 0))) ∧
  (∀ (s : State) (p slot : Nat), s.ddu.live = true → s.ddu.n.bit Reg.DDU_STATUS 0 7 = true → (s.ddu.n.lane 0 0).st ≠ lsUp →
     exec (.flitTime .ddu p slot) s = .next (s.settleDdu s.ddu.fbSend)) ∧
  (∀ (s : State) (dev : Dev) (p slot : Nat) (f : Flit), Awake s dev → ((part s dev).lane p slot).st ≠ lsUp →
     exec (.flitRx dev p slot f) s = .next (settled s dev (part s dev))) ∧
  (∀ (s : State) (p slot : Nat) (f : Flit), s.abl.n.dev = .abl → (s.abl.n.lane p slot).st = lsUp → f.intact = false →
     ∃ m : Node, exec (.flitRx .abl p slot f) s = .next (settled s .abl (m.modLane p slot fun l => { l with nakDue := true, awaitSeq := true })) ∧
       m = (s.abl.n.lcount p 1).lcount p 3 2) ∧
  (∀ (s : State) (p slot : Nat) (f : Flit) (m : Node) (l : LaneX), s.abl.n.dev = .abl → (s.abl.n.lane p slot).st = lsUp → f.intact = true →
     f.ftype = 1 ∨ f.ftype = 2 → f.cls ≠ 6 → p < 20 ∨ f.cls = 4 → m = ((s.abl.n.lcount p 1).lcount p 3 2).flitAck p slot f →
     f.seq = (m.lane p slot).expSeq →
     l = { m.lane p slot with expSeq := (f.seq + 1) % 4096, awaitSeq := false, creditDue := modifyAt (m.lane p slot).creditDue f.cls fun x => x + 1 } →
     exec (.flitRx .abl p slot f) s = .next (settled s .abl (m.setLane p slot (l.take f)))) ∧
  (∀ (s : State) (p slot : Nat) (f : Flit) (m : Node) (l : LaneX), s.ddu.n.dev = .ddu → s.ddu.live = true → (s.ddu.n.lane p slot).st = lsUp →
     f.intact = true → f.ftype = 1 ∨ f.ftype = 2 → f.cls ≠ 6 → m = (s.ddu.n.count 0xF41).flitAck p slot f → f.seq = (m.lane p slot).expSeq →
     l = { m.lane p slot with expSeq := (f.seq + 1) % 4096, awaitSeq := false, creditDue := modifyAt (m.lane p slot).creditDue f.cls fun x => x + 1 } →
     exec (.flitRx .ddu p slot f) s = .next (settled s .ddu (m.setLane p slot (l.take f)))) ∧
  (∀ (s : State) (dev : Dev) (p slot : Nat), Awake s dev → ((part s dev).lane p slot).st = lsDetect →
     (¬ (part s dev).dev = .ddu ∨ ¬ (part s dev).fld Reg.DDU_PWR_STATE 0 0 3 = 0) →
     exec (.signalDetect dev p slot) s = .next (settled s dev ((part s dev).setLane p slot
       { ((part s dev).lane p slot) with st := lsTrain, wire := [(part s dev).trainFlit p slot] }))) ∧
  (∀ (s : State) (dev : Dev) (p slot peer us : Nat) (r : Bool) (n : Node), Awake s dev → ((part s dev).lane p slot).st = lsTrain →
     n = (part s dev).modLane p slot LaneX.trainedOnce → bit (n.rd (Reg.LNK_PEER_EXPECT n.dev) p) 63 = false →
     exec (.trainComplete dev p slot peer us r) s = .next (settled s dev (n.laneUp p slot peer us r))) ∧
  (∀ (s : State) (dev : Dev) (p slot peer us : Nat) (r : Bool) (n : Node), Awake s dev → ((part s dev).lane p slot).st = lsTrain →
     n = (part s dev).modLane p slot LaneX.trainedOnce → bit (n.rd (Reg.LNK_PEER_EXPECT n.dev) p) 63 = true →
     bits (n.rd (Reg.LNK_PEER_EXPECT n.dev) p) 0 28 ≠ bits peer 0 28 →
     exec (.trainComplete dev p slot peer us r) s = .next (settled s dev
       ((n.modLane p slot fun l => { l with st := lsBackoff, wire := [] }).laneRec p slot 0x0005 0 (peer % 2 ^ 32)))) ∧
  (∀ (s : State) (dev : Dev) (p slot : Nat), Awake s dev → ((part s dev).lane p slot).st = lsTrain →
     exec (.trainTimeout dev p slot) s = .next (settled s dev (((part s dev).modLane p slot LaneX.trainedOnce).laneFail p slot 5))) ∧
  (∀ (s : State) (dev : Dev) (p slot : Nat), Awake s dev → ((part s dev).lane p slot).st = lsTrain →
     exec (.signalLost dev p slot) s = .next (settled s dev ((part s dev).setLane p slot { ((part s dev).lane p slot).trainedOnce with st := lsDetect, wire := [] }))) ∧
  (∀ (s : State) (dev : Dev) (p slot : Nat), Awake s dev → ((part s dev).lane p slot).st = lsUp →
     exec (.signalLost dev p slot) s = .next (settled s dev (((part s dev).leaveUp p slot lsDetect 0x0001 0 none).modLane p slot
       fun l => { l with held6 := decide ((part s dev).local < ((part s dev).lane p slot).upSince + 1000000000) }))) ∧
  (∀ (s : State) (dev : Dev) (p slot cause uncorr : Nat), Awake s dev → ((part s dev).lane p slot).st = lsUp → uncorr = 0 → 1 ≤ cause → cause ≤ 3 →
     exec (.laneFailure dev p slot cause uncorr) s = .next (settled s dev
       (((part s dev).leaveUp p slot lsBackoff 0x0001 cause (some cause)).laneFail p slot cause))) ∧
  (∀ (s : State) (dev : Dev) (p slot : Nat), Awake s dev → ((part s dev).lane p slot).st = lsUp →
     exec (.noFlitTimeout dev p slot) s = .next (settled s dev
       (((part s dev).leaveUp p slot lsBackoff 0x0001 4 (some 4)).laneFail p slot 4))) ∧
  (∀ (s : State) (dev : Dev) (p slot : Nat), Awake s dev → ((part s dev).lane p slot).st = lsUp →
     exec (.resetNoticeRx dev p slot 0) s = .next (settled s dev ((part s dev).leaveUp p slot lsDetect 0x0004 0 none))) ∧
  (∀ (s : State) (dev : Dev) (p slot cause : Nat), Awake s dev → ((part s dev).lane p slot).st = lsUp → cause ≠ 0 →
     exec (.resetNoticeRx dev p slot cause) s = .next (settled s dev
       (((part s dev).leaveUp p slot lsBackoff 0x0001 cause none).laneFail p slot cause))) ∧
  (∀ (s : State) (dev : Dev) (p slot : Nat), Awake s dev → ((part s dev).lane p slot).st = lsBackoff →
     exec (.backoffExpiry dev p slot) s = .next (settled s dev ((part s dev).setLane p slot { ((part s dev).lane p slot) with st := lsDetect }))) ∧
  (∀ (s : State) (dev : Dev) (p slot : Nat), Awake s dev →
     exec (.earlyLossWithdraw dev p slot) s = .next (settled s dev ((part s dev).setLane p slot { ((part s dev).lane p slot) with held6 := false }))) ∧
  (∀ (s : State) (dev : Dev) (who : Requester) (p : Nat), Awake s dev → MayWrite s who dev →
     exec (.retrain dev who p) s = .next (settled (answered s dev) dev
       (((part s dev).slotsOf p).foldl (fun n k => if (n.lane p k).st ≠ lsUp then n else n.leaveUp p k lsDetect 0x0004 0 (some 0)) (part s dev)))) ∧
  (∀ (s : State) (who : Requester) (v : Nat), who ≠ .unprivileged → s.ddu.answers who = true → s.ddu.n.dev = .ddu →
     exec (.lnkCtrlWrite .ddu who 0 v) s = .next (settled (answered s .ddu) .ddu ((s.ddu.n.wr (Reg.LNK_CTRL .ddu) 0 (bits v 29 3 * 536870912)).portCtrl 0))) ∧
  (∀ (s : State) (p v : Nat), s.abl.n.dev = .abl →
     exec (.lnkCtrlWrite .abl .firmware p v) s = .next (settled s .abl ((s.abl.n.wr (Reg.LNK_CTRL .abl) p (bits v 30 2 * 1073741824)).portCtrl p)))

/-- What whole messages, fallback and the Uplink Scheduler do. (06_dervi_link.md R188, R189, R190, R202, R203, R204, R205; 07_reduction_tree.md R245, R248, R249, R250, R252) -/
def Obligations.MessageAndSchedulerCommandsComplete : Prop :=
  (∀ (s : State) (p slot : Nat) (m : Msg), s.abl.n.msgOver m = true → (s.abl.n.lane p slot).done = [] →
     exec (.messageRx .abl p slot m) s = .next (settled s .abl (s.abl.n.bump (Reg.LNK_EXPIRED .abl) p))) ∧
  (∀ (s : State) (p slot : Nat) (m : Msg), s.abl.n.msgOver m = false → s.abl.n.isCopy m = true → (s.abl.n.lane p slot).done = [] →
     exec (.messageRx .abl p slot m) s = .next (s.settleAbl s.abl)) ∧
  (∀ (s : State) (p slot : Nat) (m : Msg), s.abl.n.msgOver m = false → s.abl.n.isCopy m = false → (s.abl.n.lane p slot).done = [] →
     bits m.dest 0 20 ≠ (s.abl.n.noteRec m).ident → m.hops = 0 →
     exec (.messageRx .abl p slot m) s = .next (s.settleAbl ((s.abl.on fun n => n.noteRec m).on fun n => n.bump (Reg.LNK_EXPIRED .abl) p))) ∧
  (∀ (s : State) (p slot : Nat) (m : Msg) (r : Record), s.abl.n.msgOver m = false → s.abl.n.isCopy m = false → (s.abl.n.lane p slot).done = [] →
     bits m.dest 0 20 = (s.abl.n.noteRec m).ident → m.body = .record r → r.payload.length ≤ 4080 →
     exec (.messageRx .abl p slot m) s = .next (s.settleAbl ((s.abl.on fun n => n.noteRec m).rxRecord p slot m r))) ∧
  (∀ (s : State) (p slot : Nat) (m : Msg), s.ddu.live = true → (s.ddu.n.lane 0 0).done = [] → s.ddu.n.msgOver m = false →
     bits m.dest 0 20 = s.ddu.n.ident → exec (.messageRx .ddu p slot m) s = .next (s.settleDdu (s.ddu.take m))) ∧
  (∀ (s : State) (p slot : Nat) (m : Msg), s.ddu.live = true → (s.ddu.n.lane 0 0).done = [] → s.ddu.n.msgOver m = false →
     bits m.dest 0 20 ≠ s.ddu.n.ident → s.ddu.n.bit Reg.DDU_DIE_INDEX 0 31 = true → m.hops ≠ 0 →
     exec (.messageRx .ddu p slot m) s = .next (s.settleDdu (s.ddu.toRing (Config.dieRing (bits m.dest 0 20)) { m with hops := m.hops - 1 }))) ∧
  (∀ s : State, s.ddu.n.bit Reg.DDU_STATUS 0 7 = true → (s.ddu.n.lane 0 0).st = lsUp → (s.ddu.n.lane 0 0).upSince + 1000000000 ≤ s.ddu.n.local →
     ∃ d : Ddu, exec .fallbackExit s = .next (s.settleDdu (d.on fun n => n.laneRec 0 0 0x0007 0 s.ddu.fb.relayed)) ∧
       d = (({ s.ddu with fb := { s.ddu.fb with entry := 0, accepted := false, exhausted := false, relayed := 0 } } : Ddu).on fun n =>
         (n.setB Reg.DDU_STATUS 0 7 false).timeFallback).fbView) ∧
  (∀ (s : State) (g addr : Nat), s.ddu.live = true → (s.ddu.n.lane 0 0).st = lsUp → s.ddu.n.bit Reg.DDU_STATUS 0 7 = false → s.ddu.fb.guests = [] →
     exec (.fbGuestRequestRx g addr) s = .next (s.settleDdu (({ s.ddu with fb := { s.ddu.fb with guests := [(g, s.ddu.n.local)] } } : Ddu).fbView))) ∧
  (∀ (s : State) (g addr : Nat), s.ddu.live = true → (s.ddu.n.lane 0 0).st ≠ lsUp →
     exec (.fbGuestRequestRx g addr) s = .next (s.settleDdu (s.ddu.toRing addr (s.ddu.n.mkMsg g 6 (.frame .fbRefused [] []))))) ∧
  (∀ s : State, s.ddu.n.bit Reg.DDU_STATUS 0 7 = true → s.ddu.fb.accepted = true →
     exec .fbRefusedRx s = .next (s.settleDdu (s.ddu.fbRequest (s.ddu.fb.entry + 1))) ∧
     exec .fbHostSilence s = .next (s.settleDdu (s.ddu.fbRequest (s.ddu.fb.entry + 1)))) ∧
  (∀ s : State, s.ddu.n.bit Reg.DDU_STATUS 0 7 = true → s.ddu.fb.exhausted = true → exec .fbListRetry s = .next (s.settleDdu (s.ddu.fbRequest 0))) ∧
  (∀ (s : State) (m : Msg) (r : Record) (d : Ddu), s.ddu.live = true → s.ddu.n.msgOver m = false → m.body = .record r →
     d = (s.ddu.ringStore m).guestSeen (bits m.origin 0 20) → d.isGuest (bits m.origin 0 20) = true →
     exec (.fbRingMessage m) s = .next (s.settleDdu (d.on fun n => n.queueAt 0 0 m 0 (bits m.origin 0 20 + 1)))) ∧
  (∀ (s : State) (m : Msg) (r : Record) (d : Ddu), s.ddu.live = true → s.ddu.n.msgOver m = false → m.body = .record r →
     d = (s.ddu.ringStore m).guestSeen (bits m.origin 0 20) → d.isGuest (bits m.origin 0 20) = false → bits m.dest 0 20 = s.ddu.n.ident →
     exec (.fbRingMessage m) s = .next (s.settleDdu (d.take m))) ∧
  (∀ (s : State) (p jobtag : Nat) (m : Msg), exec (.uschEnqueue p jobtag m) s =
       .next (settled s .abl (s.abl.n.queueAt p (s.abl.n.uschSlot jobtag) m).settle)) ∧
  (∀ (s : State) (p : Nat), 16 ≤ p → s.abl.n.uplinkFree p = true → exec (.uschPick p) s = .next (settled s .abl (s.abl.n.flitTime p 0))) ∧
  (∀ (s : State) (p : Nat) (x m : Node) (t : TxMsg), 16 ≤ p → s.abl.n.uplinkFree p = true → x = s.abl.n.purge.sentFlits p 1 → x.dueFrame p 0 = none →
     x.flitPick p 0 = (m, some t) → t.sent ≠ 0 ∨ x.portQuiet p = false →
     exec (.uschPick p) s = .next (settled s .abl ((m.sendMsgFlit p 0 t).flitCredits p 0))) ∧
  (∀ (s : State) (p k c : Nat) (t : TxMsg), s.abl.n.uschPick p = some (k, c) →
     ([1, 2, 3, 4].find? fun x => decide (0 < (s.abl.n.lane p 0).credit.getD x 0) && (s.abl.n.headOf p 0 x).any fun y => decide (0 < y.sent)) = none →
     s.abl.n.txq.find? (fun y => y.port == p && y.slot == k && y.msg.cls == c && y.sent == 0 && !y.launch) = some t →
     s.abl.n.uplinkPick p = (s.abl.n.uschAdvance p k c t.size, some t)) ∧
  (∀ s : State, s.abl.n.txq = [] → s.abl.n.fld Reg.ABL_USCH_SAMPLE_US 0 0 20 ≠ 0 →
     exec .uschSample s = .next (settled s .abl { s.abl.n with regs := s.abl.n.regs.filter fun (r : Nat × Nat) =>
       !(decide (0x00704000 ≤ r.1) && decide (r.1 < 0x0070C000) && r.1 % 16 == 0) })) ∧
  (∀ (s : State) (k v : Nat), exec (.uschJobWrite .firmware k v) s = .next (settled s .abl (s.abl.n.uschJob k v)))

/-- What the commands of the Summary Unit, the Reduction Engine and the barriers do. (07_reduction_tree.md R212, R218, R219, R225, R226, R229, R230, R234, R235, R236, R256) -/
def Obligations.ReductionCommandsComplete : Prop :=
  (∀ s : State, s.ddu.alive = false → exec .summaryWindowClose s = .next (s.settleDdu s.ddu)) ∧
  (∀ s : State, s.ddu.alive = true → exec .summaryWindowClose s = .next (s.settleDdu s.ddu.sumClose)) ∧
  (∀ (s : State) (origin : Nat) (r : Record), s.abl.n.bit Reg.ABL_RED_CTRL 0 0 = true → s.abl.n.childOf origin = none →
     exec (.dieSummaryRx origin r) s = .next (settled s .abl (s.abl.n.bump Reg.ABL_RED_UNMATCHED)) ∧
     exec (.nodeSummaryRx origin r) s = .next (settled s .abl (s.abl.n.bump Reg.ABL_RED_UNMATCHED))) ∧
  (∀ (s : State) (origin c : Nat) (r : Record), s.abl.n.bit Reg.ABL_RED_CTRL 0 0 = true → s.abl.n.childOf origin = some c →
     s.abl.frameSlots (leAt r.payload 0 4) = none →
     exec (.dieSummaryRx origin r) s = .next (s.settleAbl (s.abl.unmatched (leAt r.payload 0 4))) ∧
     exec (.nodeSummaryRx origin r) s = .next (s.settleAbl (s.abl.unmatched (leAt r.payload 0 4)))) ∧
  (∀ (s : State) (origin c : Nat) (ms : List Nat) (p : Abl × List Nat) (r : Record), s.abl.n.bit Reg.ABL_RED_CTRL 0 0 = true →
     s.abl.n.childOf origin = some c → s.abl.n.jobCheck (leAt r.payload 0 4) = 0 → s.abl.frameSlots (leAt r.payload 0 4) = some ms →
     p = (dieEnts r.payload).foldl (Abl.dieEntry ms origin c (leAt r.payload 4 4)) (s.abl, []) →
     exec (.dieSummaryRx origin r) s = .next (s.settleAbl (p.1.countCases p.2))) ∧
  (∀ (s : State) (origin c : Nat) (ms : List Nat) (p : Abl × List Nat) (r : Record), s.abl.n.bit Reg.ABL_RED_CTRL 0 0 = true →
     s.abl.n.childOf origin = some c → s.abl.n.jobCheck (leAt r.payload 0 4) = 0 → s.abl.frameSlots (leAt r.payload 0 4) = some ms →
     p = (redEntries (min 253 (leAt r.payload 24 4)) (r.payload.drop 32)).foldl (Abl.nodeEntry ms c (leAt r.payload 8 4) (leAt r.payload 16 4) (leAt r.payload 4 4))
       (s.abl.knownDies (leAt r.payload 0 4) c (leAt r.payload 12 4), []) →
     exec (.nodeSummaryRx origin r) s = .next (s.settleAbl (p.1.countCases p.2))) ∧
  (∀ (s : State) (period w : Nat), period ≠ 0 → (w + 1) * periodNs period + s.abl.n.fld Reg.ABL_RED_CLOSE_US 0 0 16 * 1000 ≤ s.abl.n.tideline →
     s.abl.n.bit Reg.ABL_RED_CTRL 0 0 = true → s.abl.closing period w = [] → s.abl.red.frames = [] →
     exec (.inputWindowClose period w) s = .next (s.settleAbl s.abl)) ∧
  (∀ (s : State) (period w : Nat) (b : Abl) (sl x : RedSlot), s.abl.closing period w = [sl] → b = s.abl.closeWindow period w →
     b.redSlot sl.m = some x → x.next = w + 1 →
     exec (.inputWindowClose period w) s = .next (s.settleAbl (b.treeTrigger sl.m w))) ∧
  (∀ (s : State) (m v : Nat), bit v 127 = true → bits v 124 3 ≠ 7 → min 10000 (bits v 24 20) = 0 →
     exec (.metSlotWrite .firmware m v) s = .next (settled s .abl (s.abl.n.bump Reg.ABL_RED_REFUSED))) ∧
  (∀ (s : State) (m v : Nat), bit v 127 = false → bit v 123 = false →
     ∃ a : Abl, exec (.metSlotWrite .firmware m v) s = .next (s.settleAbl a) ∧ a.red.slots = s.abl.red.slots.filter fun x => x.m != m) ∧
  (∀ (s : State) (origin c : Nat) (r : Record), s.abl.n.jobCheck (leAt r.payload 0 4) = 0 → s.abl.n.childOf origin = some c → bit (leAt r.payload 10 2) 0 = false →
     exec (.barrierArrivalRx origin r) s = .next (s.settleAbl (s.abl.barGive (leAt r.payload 0 4) (leAt r.payload 8 2) (leAt r.payload 4 4) c 1 0
       (some (leAt r.payload 12 4, bits origin 0 17)) (some (leAt r.payload 12 4, bits origin 0 17))))) ∧
  (∀ (s : State) (origin : Nat) (r : Record), s.abl.n.jobCheck (leAt r.payload 0 4) = 0 → s.abl.n.childOf origin = none →
     exec (.barrierArrivalRx origin r) s = .next (settled s .abl (s.abl.n.bumpOf mismatchReg)) ∧
     exec (.barrierPartRx origin r) s = .next (settled s .abl (s.abl.n.bumpOf mismatchReg))) ∧
  (∀ (s : State) (origin c : Nat) (r : Record), s.abl.n.jobCheck (leAt r.payload 0 4) = 0 → s.abl.n.childOf origin = some c → bit (leAt r.payload 10 2) 2 = false →
     exec (.barrierPartRx origin r) s = .next (s.settleAbl (s.abl.barGive (leAt r.payload 0 4) (leAt r.payload 8 2) (leAt r.payload 4 4) c (leAt r.payload 16 4) (leAt r.payload 12 4)
       (some (leAt r.payload 20 4, leAt r.payload 24 4 % 131072)) (some (leAt r.payload 28 4, leAt r.payload 32 4 % 131072))))) ∧
  (∀ (s : State) (t tag epoch : Nat) (b : BarX), s.abl.bars.find? (fun x => x.jobtag == t && x.tag == tag && x.epoch == epoch) = some b →
     b.began + s.abl.n.rd Reg.ABL_RED_BAR_TIMEOUT_US * 1000 ≤ s.abl.n.local →
     exec (.barrierTimeout t tag epoch) s = .next (s.settleAbl (s.abl.barClose b false)))

/-- What the commands of a fan-out do. (07_reduction_tree.md R239, R240, R241, R242, R243, R244) -/
def Obligations.FanCommandsComplete : Prop :=
  (∀ (s : State) (i : Nat), s.abl.n.fld Reg.ABL_RED_FAN_STAT i 62 2 = 1 →
     exec (.fanStart .firmware i) s = .next (settled s .abl (s.abl.n.bump Reg.ABL_RED_FAN_REFUSED))) ∧
  (∀ (s : State) (i : Nat) (m : FanMsg), s.abl.n.fld Reg.ABL_RED_FAN_STAT i 62 2 ≠ 1 → m = fanOfBytes (le 2048 (s.abl.n.rd Reg.ABL_RED_FAN_BUF i)) →
     m.ranges = [] →
     exec (.fanStart .firmware i) s = .next (s.settleAbl ((s.abl.on fun n => n.wr Reg.ABL_RED_FAN_STAT i 4611686018427387904).fanResult i
       (fanAckBytes m.jobtag m.seq 0 0 [] false) 0 0))) ∧
  (∀ (s : State) (i : Nat) (m : FanMsg) (b : Abl), s.abl.n.fld Reg.ABL_RED_FAN_STAT i 62 2 ≠ 1 →
     m = ({ (fanOfBytes (le 2048 (s.abl.n.rd Reg.ABL_RED_FAN_BUF i))) with
       deadline := (s.abl.n.now + s.abl.n.rd Reg.ABL_RED_FAN_DEADLINE_US * 1000) % 4294967296 } : FanMsg) → m.ranges ≠ [] →
     (s.abl.on fun n => n.wr Reg.ABL_RED_FAN_STAT i 4611686018427387904).fanKind m
       ((s.abl.on fun n => n.wr Reg.ABL_RED_FAN_STAT i 4611686018427387904).n.ident) = (b, true) →
     exec (.fanStart .firmware i) s = .next (s.settleAbl (b.fanOpen { msg := m, origin := s.abl.n.ident, root := some i, children := b.fanKids m b.ownChildren }))) ∧
  (∀ (s : State) (origin t q : Nat) (x : FanX), s.abl.n.jobCheck t = 0 → s.abl.fansOf t q = [x] →
     exec (.fanPendingRx origin t q) s = .next (s.settleAbl (s.abl.putFan { x with children := (x.children.map fun k =>
       (if s.abl.n.childNode k.c == origin && decide (k.st < 3) then { k with st := 1 } else k)) }))) ∧
  (∀ (s : State) (origin t q acked : Nat) (x : FanX) (k : FanChild), s.abl.n.jobCheck t = 0 → s.abl.fansOf t q = [x] → x.done = false →
     x.children.find? (fun k => decide (k.st < 4) && (s.abl.n.childNode k.c == origin)) = some k →
     exec (.fanAckRx origin t q acked [] false) s = .next (s.settleAbl (s.abl.fanSettle { (x.setChild k.c 4) with acked := x.acked + acked }))) ∧
  (∀ (s : State) (origin t q acked : Nat) (miss : List (Nat × Nat)) (trunc : Bool), s.abl.n.jobCheck t = 0 → s.abl.fansOf t q = [] →
     exec (.fanAckRx origin t q acked miss trunc) s = .next (s.settleAbl s.abl) ∧
     exec (.fanRelayAckRx origin t q acked miss trunc) s = .next (s.settleAbl s.abl)) ∧
  (∀ (s : State) (t q : Nat), s.abl.fansOf t q = [] → exec (.fanPendingTimer t q) s = .next (s.settleAbl s.abl)) ∧
  (∀ (s : State) (origin t q acked : Nat) (miss : List (Nat × Nat)) (trunc : Bool), s.abl.n.jobCheck t = 1 →
     exec (.fanAckRx origin t q acked miss trunc) s = .next (s.settleAbl (s.abl.on fun n => n.bumpOf staleReg)) ∧
     exec (.fanRelayAckRx origin t q acked miss trunc) s = .next (s.settleAbl (s.abl.on fun n => n.bumpOf staleReg)) ∧
     exec (.fanPendingRx origin t q) s = .next (s.settleAbl (s.abl.on fun n => n.bumpOf staleReg))) ∧
  (∀ (s : State) (origin t q acked : Nat) (x : FanX) (k : FanChild), s.abl.n.jobCheck t = 0 → s.abl.fansOf t q = [x] → x.done = false →
     x.children.find? (fun k => decide (k.st < 4) && (k.st == 3 && s.abl.n.childPeer k.c == origin)) = some k →
     exec (.fanRelayAckRx origin t q acked [] false) s = .next (s.settleAbl (s.abl.fanSettle { (x.setChild k.c 4) with acked := x.acked + acked }))) ∧
  (∀ (s : State) (t q c : Nat) (x : FanX) (k : FanChild), s.abl.fansOf t q = [x] → x.done = false →
     x.children.find? (fun k => k.c == c && decide (k.st < 4)) = some k → k.st < 2 →
     exec (.fanAckTimeout t q c) s = .next (s.settleAbl ((s.abl.fanSend x.msg x.origin c).putFan (x.setChild c 2)))) ∧
  (∀ (s : State) (t q c : Nat) (x : FanX) (k : FanChild), s.abl.fansOf t q = [x] → x.done = false →
     x.children.find? (fun k => k.c == c && decide (k.st < 4)) = some k → k.st = 2 → s.abl.n.role = 1 →
     exec (.fanAckTimeout t q c) s = .next (s.settleAbl (s.abl.fanSettle ((x.setChild k.c 5).missing (s.abl.n.childNode k.c) k.dies)))) ∧
  (∀ (s : State) (t q : Nat) (x : FanX), s.abl.fansOf t q = [x] → x.done = false →
     exec (.fanPendingTimer t q) s = .next (s.settleAbl (s.abl.fanAnswer x 0x0011 (le 4 x.msg.jobtag ++ le 4 x.msg.seq)))) ∧
  (∀ (s : State) (t q : Nat) (x : FanX), s.abl.fansOf t q = [x] → x.done = false → dist32 x.msg.deadline s.abl.n.now ≤ 0 →
     exec (.fanDeadline t q) s = .next (s.settleAbl (s.abl.fanSettle ((x.children.filter fun k => decide (k.st < 4)).foldl (fun y k => s.abl.fanMiss y k) x)))) ∧
  (∀ (s : State) (port slot sender origin failed requester : Nat) (m : FanMsg) (y : FanX), s.abl.n.jobCheck m.jobtag = 0 →
     (s.abl.fansOf m.jobtag m.seq).find? (fun y => y.relay == some (failed, requester)) = some y → y.done = true →
     exec (.fanRelayRx port slot sender origin failed requester m) s = .next (s.settleAbl (s.abl.fanAnswer y (if y.relay.isSome then 0x0014 else 0x0012) y.ack))) ∧
  (∀ (s : State) (port slot sender origin failed requester : Nat) (m : FanMsg) (b : Abl), s.abl.n.jobCheck m.jobtag = 0 → s.abl.fans = [] → s.abl.relayKind failed m origin = (b, true) →
     exec (.fanRelayRx port slot sender origin failed requester m) s = .next (s.settleAbl (b.fanOpen
       { msg := m, origin := origin, relay := some (failed, requester), port := port, slot := slot, sender := sender,
         children := b.relayKids failed m }))) ∧
  (∀ (s : State) (t q : Nat), exec (.fanKeepExpiry .abl t q) s = .next (s.settleAbl { s.abl with
       fans := s.abl.fans.filter fun x => !(x.msg.jobtag == t && x.msg.seq == q && x.done) }) ∧
     exec (.fanKeepExpiry .ddu t q) s = .next (s.settleDdu { s.ddu with job := { s.ddu.job with
       kept := s.ddu.job.kept.filter (fun k => k != (t, q)), refused := s.ddu.job.refused.filter fun k => k != (t, q) } }))

/-- What the commands of jobs, groups, scrubs and source fences do. (08_jobs_sync_objects_ordering.md R258, R260, R261, R262, R263, R264, R266, R267, R271, R276, R286, R287) -/
def Obligations.JobCommandsComplete : Prop :=
  (∀ (s : State) (port slot sender origin : Nat) (m : FanMsg), s.ddu.live = true → (m.jobtag, m.seq) ∉ s.ddu.job.kept → (m.jobtag, m.seq) ∉ s.ddu.job.refused →
     exec (.jobEndDeliver .ddu port slot sender origin m) s = .next (s.settleDdu
       ((((({ s.ddu with job := { s.ddu.job with kept := (m.jobtag, m.seq) :: s.ddu.job.kept } } : Ddu)).jobEnd m).ledPhases).on fun n =>
         n.postUp m.jobtag 0 0x14 0x0012 505 (fanAckBytes m.jobtag m.seq 1 1 [] false)))) ∧
  (∀ (s : State) (port slot sender origin : Nat) (m : FanMsg), s.ddu.live = true → (m.jobtag, m.seq) ∉ s.ddu.job.kept → (m.jobtag, m.seq) ∉ s.ddu.job.refused →
     lcJobs (s.ddu.n.fld Reg.DDU_STATUS 0 8 3) = true →
     exec (.jobStartDeliver .ddu port slot sender origin m) s = .next (s.settleDdu
       (((({ s.ddu with job := { s.ddu.job with kept := (m.jobtag, m.seq) :: s.ddu.job.kept } } : Ddu)).jobStart m).on fun n =>
         n.postUp m.jobtag 0 0x14 0x0012 505 (fanAckBytes m.jobtag m.seq 1 1 [] false)))) ∧
  (∀ (s : State) (port slot sender origin : Nat) (m : FanMsg), s.ddu.live = true → (m.jobtag, m.seq) ∉ s.ddu.job.kept →
     (m.jobtag, m.seq) ∉ s.ddu.job.refused → lcJobs (s.ddu.n.fld Reg.DDU_STATUS 0 8 3) = false →
     exec (.jobStartDeliver .ddu port slot sender origin m) s = .next (s.settleDdu
       (({ s.ddu with job := { s.ddu.job with refused := (m.jobtag, m.seq) :: s.ddu.job.refused } } : Ddu).on fun n =>
         n.postUp m.jobtag 0 0x14 0x0012 505 (fanAckBytes m.jobtag m.seq 1 0 [(n.ident, 1)] false)))) ∧
  (∀ (s : State) (port slot sender origin : Nat) (m : FanMsg), s.ddu.live = true → (m.jobtag, m.seq) ∉ s.ddu.job.kept → (m.jobtag, m.seq) ∉ s.ddu.job.refused →
     s.ddu.n.jobCheck m.jobtag = 0 → bit (leAt m.body 2 2) 0 = true → s.ddu.job.verdictGroup = 0 →
     exec (.groupRegisterDeliver .ddu port slot sender origin m) s = .next (s.settleDdu
       (({ s.ddu with job := { s.ddu.job with kept := (m.jobtag, m.seq) :: s.ddu.job.kept, verdictGroup := leAt m.body 0 2 } } : Ddu).on fun n =>
         n.postUp m.jobtag 0 0x14 0x0012 505 (fanAckBytes m.jobtag m.seq 1 1 [] false)))) ∧
  (∀ (s : State) (port slot sender origin : Nat) (m : FanMsg), s.ddu.live = true → (m.jobtag, m.seq) ∉ s.ddu.job.kept → (m.jobtag, m.seq) ∉ s.ddu.job.refused →
     s.ddu.n.jobCheck m.jobtag = 0 → s.ddu.job.verdictGroup = leAt m.body 0 2 →
     exec (.groupReleaseDeliver .ddu port slot sender origin m) s = .next (s.settleDdu
       (({ s.ddu with job := { s.ddu.job with kept := (m.jobtag, m.seq) :: s.ddu.job.kept, verdictGroup := 0 } } : Ddu).on fun n =>
         n.postUp m.jobtag 0 0x14 0x0012 505 (fanAckBytes m.jobtag m.seq 1 1 [] false)))) ∧
  (∀ (s : State) (port slot sender origin : Nat) (m : FanMsg) (b : Abl), s.abl.fans = [] → s.abl.n.jobCheck m.jobtag ≠ 1 →
     s.abl.fanKind (fanAs 1 m) origin = (b, true) →
     exec (.jobStartDeliver .abl port slot sender origin m) s = .next (s.settleAbl
       (b.fanOpen { (fanFrom port slot sender origin (fanAs 1 m)) with children := b.fanKids (fanAs 1 m) b.ownChildren }))) ∧
  (∀ (s : State) (port slot sender origin : Nat) (m : FanMsg), s.abl.fans = [] → s.abl.n.jobCheck m.jobtag = 0 →
     exec (.jobEndDeliver .abl port slot sender origin m) s = .next (s.settleAbl ((s.abl.jobEnd (fanAs 2 m)).fanOpen { (fanFrom port slot sender origin (fanAs 2 m)) with children := (s.abl.jobEnd (fanAs 2 m)).fanKids (fanAs 2 m) (s.abl.jobEnd (fanAs 2 m)).ownChildren })) ∧
     exec (.groupReleaseDeliver .abl port slot sender origin m) s = .next (s.settleAbl ((s.abl.groupRelease (fanAs 4 m)).fanOpen { (fanFrom port slot sender origin (fanAs 4 m)) with children := (s.abl.groupRelease (fanAs 4 m)).fanKids (fanAs 4 m) (s.abl.groupRelease (fanAs 4 m)).ownChildren }))) ∧
  (∀ (s : State) (port slot sender origin : Nat) (m : FanMsg), s.abl.fans = [] → s.abl.n.jobCheck m.jobtag = 0 →
     (s.abl.groupRegister (fanAs 3 m) origin).2 = false →
     exec (.groupRegisterDeliver .abl port slot sender origin m) s = .next (s.settleAbl
       (s.abl.fanRefuse (fanFrom port slot sender origin (fanAs 3 m))))) ∧
  (∀ (s : State) (port slot sender origin : Nat) (m : FanMsg), s.abl.fans = [] → s.abl.n.jobCheck m.jobtag = 0 →
     (s.abl.groupRegister (fanAs 3 m) origin).2 = true →
     exec (.groupRegisterDeliver .abl port slot sender origin m) s = .next (s.settleAbl ((s.abl.groupRegister (fanAs 3 m) origin).1.fanOpen
       { (fanFrom port slot sender origin (fanAs 3 m)) with children := (s.abl.groupRegister (fanAs 3 m) origin).1.fanKids (fanAs 3 m) (s.abl.groupRegister (fanAs 3 m) origin).1.ownChildren }))) ∧
  (∀ s : State, s.ddu.live = true → s.ddu.jobState ≠ 2 → s.ddu.jobState ≠ 3 →
     exec .scrubComplete s = .next (({ s with free := s.free + 1 } : State).settleDdu s.ddu)) ∧
  (∀ s : State, s.ddu.live = true → s.ddu.jobState = 2 → s.ddu.n.bit Reg.DDU_FENCE_STATUS 0 0 = false →
     ∃ d : Ddu, exec .scrubComplete s = .next (({ s with free := s.free + 1 } : State).settleDdu d) ∧ d = s.ddu.scrubDone (Config.freeNat s.free)) ∧
  (∀ s : State, s.ddu.jobState = 2 → s.ddu.job.held = none →
     ∃ d : Ddu, exec .scrubTimeout s = .next (s.settleDdu ((d.on fun n => (n.fault 505 0 2 s.ddu.jobTag 0).escalate 505 8 s.ddu.jobTag n.ident 0).setJobState 3)) ∧
       d = s.ddu.on fun n => n.emit s.ddu.jobTag 1 0x15 0x0002 505 (le 4 s.ddu.jobTag ++ le 4 ((n.local - s.ddu.job.endAt) / 1000) ++ zeros 8)) ∧
  (∀ (s : State) (j : JobStart), s.ddu.job.held = some j → s.ddu.jobState = 1 →
     exec .jobHoldExpiry s = .next (s.settleDdu ((s.ddu.joinRefused j.tag).hold none))) ∧
  (∀ (s : State) (j : Nat), s.abl.n.fld Reg.ABL_JOB j 125 3 = 4 → dist32 (s.abl.n.fld Reg.ABL_JOB j 32 32) s.abl.n.now ≤ 0 →
     exec (.jobGuardExpiry j) s = .next (s.settleAbl ({ s.abl with jobs := s.abl.jobs.filter fun x => x.slot != j }.on fun n =>
          ((n.wr Reg.ABL_JOB j 0).wr Reg.ABL_SEC_JOB j 0).uschJob j (n.fld Reg.ABL_USCH_JOB j 40 8 * 1099511627776)))) ∧
  (∀ (s : State) (k : Nat), (s.abl.n.obj k).st = 2 → dist32 (s.abl.n.obj k).guardEnd s.abl.n.now ≤ 0 →
     exec (.syncGuardExpiry .abl k) s = .next (settled s .abl (s.abl.n.setObj { num := k }))) ∧
  (∀ (s : State) (k : Nat), (s.ddu.n.obj k).st = 2 → dist32 (s.ddu.n.obj k).guardEnd s.ddu.n.now ≤ 0 → s.ddu.job.waiting = none →
     exec (.syncGuardExpiry .ddu k) s = .next (settled s .ddu (s.ddu.n.setObj { num := k }))) ∧
  (∀ (s : State) (k : Nat) (j : JobStart), s.ddu.job.waiting = some j →
     exec (.syncGuardExpiry .ddu k) s = .next (s.settleDdu ((s.ddu.on fun n => n.guardExpiry k).joinTry j))) ∧
  (∀ (s : State) (who : Requester), who ≠ .unprivileged → s.ddu.answers who = true →
     exec (.sourceFence who) s = .next (settled (answered s .ddu) .ddu (s.ddu.n.setB Reg.DDU_FENCE_STATUS 0 0 true))) ∧
  (∀ s : State, s.ddu.epochFences.n.bit Reg.DDU_FENCE_STATUS 0 0 = true → s.ddu.epochFences.fenceMet = true → s.ddu.epochFences.job.scrubbed = none →
     exec .sourceFenceComplete s = .next (s.settleDdu (s.ddu.epochFences.on fun n =>
       { (n.setB Reg.DDU_FENCE_STATUS 0 0 false) with txq := n.txq.map fun t => { t with fenced := false } }))) ∧
  (∀ (s : State) (bytes : Nat), s.ddu.epochFences.n.bit Reg.DDU_FENCE_STATUS 0 0 = true → s.ddu.epochFences.fenceMet = true →
     s.ddu.epochFences.job.scrubbed = some (bytes, true) →
     exec .sourceFenceComplete s = .next (s.settleDdu ((s.ddu.epochFences.on fun n =>
       { (n.setB Reg.DDU_FENCE_STATUS 0 0 false) with txq := n.txq.map fun t => { t with fenced := false } }).scrubEnd bytes))) ∧
  (∀ (s : State) (who : Requester) (r : Nat), who ≠ .unprivileged → s.ddu.answers who = true →
     exec (.syncFence .ddu who r) s = .next (settled (answered s .ddu) .ddu (s.ddu.n.syncFence r))) ∧
  (∀ (s : State) (r : Nat), s.abl.n.syncOn = true →
     exec (.syncFence .abl .firmware r) s = .next (settled s .abl (s.abl.n.syncFence r)) ∧
     exec (.syncFence .abl .bar0 r) s = .next (settled s .abl (s.abl.n.syncFence r))) ∧
  (∀ (s : State) (r : Nat), s.abl.n.syncOn = false → s.abl.n.dev = .abl →
     exec (.syncFence .abl .firmware r) s = .next (settled s .abl (s.abl.n.wr Reg.ABL_SYNC_STATUS r 0x01000000)) ∧
     exec (.syncFence .abl .unprivileged r) s = .next (settled s .abl (s.abl.n.wr Reg.ABL_SYNC_STATUS r 0x02020000)))

/-- What the operations on sync objects do. (08_jobs_sync_objects_ordering.md R258, R260, R268, R269, R270, R271, R273, R275, R278, R288, R289, R689) -/
def Obligations.SyncCommandsComplete : Prop :=
  (∀ (s : State) (dev : Dev) (r k : Nat) (q : SyncReq), Heard s dev → (part s dev).syncOn = true → q.handle % 8192 = k → k < syncCount (part s dev).dev → ((part s dev).obj k).st = 1 →
     ((part s dev).obj k).kind ≠ 1 → bits q.handle 16 16 = jobGen ((part s dev).obj k).jobtag →
     exec (.syncSet dev (.localReq r true 0) q) s = .next (settled (answered s dev) dev (((part s dev).syncApply k 1 q (part s dev).self).syncStatus r 0 false)) ∧
     exec (.syncAdd dev (.localReq r true 0) q) s = .next (settled (answered s dev) dev (((part s dev).syncApply k 2 q (part s dev).self).syncStatus r 0 false)) ∧
     exec (.syncMax dev (.localReq r true 0) q) s = .next (settled (answered s dev) dev (((part s dev).syncApply k 3 q (part s dev).self).syncStatus r 0 false)) ∧
     exec (.syncFail dev (.localReq r true 0) q) s = .next (settled (answered s dev) dev (((part s dev).syncApply k 4 q (part s dev).self).syncStatus r 0 false)) ∧
     exec (.syncArm dev (.localReq r true 0) q) s = .next (settled (answered s dev) dev (((part s dev).syncApply k 5 q (part s dev).self).syncStatus r 0 false)) ∧
     exec (.syncReach dev (.localReq r true 0) q) s = .next (settled (answered s dev) dev (((part s dev).syncApply k 8 q (part s dev).self).syncStatus r 0 false)) ∧
     exec (.syncStateApply dev (.localReq r true 0) q) s = .next (settled (answered s dev) dev (((part s dev).syncApply k 9 q (part s dev).self).syncStatus r 0 false))) ∧
  (∀ (s : State) (dev : Dev) (r k : Nat) (q : SyncReq), Heard s dev → (part s dev).syncOn = true → q.handle % 8192 = k → k < syncCount (part s dev).dev → ((part s dev).obj k).st = 1 →
     ((part s dev).obj k).kind = 1 → bits q.handle 16 16 = jobGen ((part s dev).obj k).jobtag →
     exec (.syncSet dev (.localReq r true 0) q) s = .next (settled (answered s dev) dev (((part s dev).gateApply k 1 q (part s dev).self).syncStatus r 0 false)) ∧
     exec (.syncAdd dev (.localReq r true 0) q) s = .next (settled (answered s dev) dev (((part s dev).gateApply k 2 q (part s dev).self).syncStatus r 0 false)) ∧
     exec (.syncMax dev (.localReq r true 0) q) s = .next (settled (answered s dev) dev (((part s dev).gateApply k 3 q (part s dev).self).syncStatus r 0 false)) ∧
     exec (.syncFail dev (.localReq r true 0) q) s = .next (settled (answered s dev) dev (((part s dev).gateApply k 4 q (part s dev).self).syncStatus r 0 false)) ∧
     exec (.syncArm dev (.localReq r true 0) q) s = .next (settled (answered s dev) dev (((part s dev).gateApply k 5 q (part s dev).self).syncStatus r 0 false)) ∧
     exec (.syncReach dev (.localReq r true 0) q) s = .next (settled (answered s dev) dev (((part s dev).gateApply k 8 q (part s dev).self).syncStatus r 0 false)) ∧
     exec (.syncStateApply dev (.localReq r true 0) q) s = .next (settled (answered s dev) dev (((part s dev).gateApply k 9 q (part s dev).self).syncStatus r 0 false))) ∧
  (∀ (s : State) (dev : Dev) (origin : Nat) (q : SyncReq), Awake s dev →
     exec (.syncAlloc dev (.remote origin false) q) s = .next (settled s dev ((part s dev).syncUpdate 0 q origin)) ∧
     exec (.syncSet dev (.remote origin false) q) s = .next (settled s dev ((part s dev).syncUpdate 1 q origin)) ∧
     exec (.syncAdd dev (.remote origin false) q) s = .next (settled s dev ((part s dev).syncUpdate 2 q origin)) ∧
     exec (.syncMax dev (.remote origin false) q) s = .next (settled s dev ((part s dev).syncUpdate 3 q origin)) ∧
     exec (.syncFail dev (.remote origin false) q) s = .next (settled s dev ((part s dev).syncUpdate 4 q origin)) ∧
     exec (.syncArm dev (.remote origin false) q) s = .next (settled s dev ((part s dev).syncUpdate 5 q origin)) ∧
     exec (.syncRelease dev (.remote origin false) q) s = .next (settled s dev ((part s dev).syncUpdate 6 q origin)) ∧
     exec (.syncQuery dev (.remote origin false) q) s = .next (settled s dev ((part s dev).syncUpdate 7 q origin)) ∧
     exec (.syncReach dev (.remote origin false) q) s = .next (settled s dev ((part s dev).syncUpdate 8 q origin)) ∧
     exec (.syncStateApply dev (.remote origin false) q) s = .next (settled s dev ((part s dev).syncUpdate 9 q origin))) ∧
  (∀ (s : State) (dev : Dev) (origin : Nat) (q : SyncReq), Awake s dev →
     exec (.syncAlloc dev (.remote origin true) q) s = .next (settled s dev ((part s dev).syncBcast 0 q origin)) ∧
     exec (.syncSet dev (.remote origin true) q) s = .next (settled s dev ((part s dev).syncBcast 1 q origin)) ∧
     exec (.syncAdd dev (.remote origin true) q) s = .next (settled s dev ((part s dev).syncBcast 2 q origin)) ∧
     exec (.syncMax dev (.remote origin true) q) s = .next (settled s dev ((part s dev).syncBcast 3 q origin)) ∧
     exec (.syncFail dev (.remote origin true) q) s = .next (settled s dev ((part s dev).syncBcast 4 q origin)) ∧
     exec (.syncArm dev (.remote origin true) q) s = .next (settled s dev ((part s dev).syncBcast 5 q origin)) ∧
     exec (.syncRelease dev (.remote origin true) q) s = .next (settled s dev ((part s dev).syncBcast 6 q origin)) ∧
     exec (.syncQuery dev (.remote origin true) q) s = .next (settled s dev ((part s dev).syncBcast 7 q origin)) ∧
     exec (.syncReach dev (.remote origin true) q) s = .next (settled s dev ((part s dev).syncBcast 8 q origin)) ∧
     exec (.syncStateApply dev (.remote origin true) q) s = .next (settled s dev ((part s dev).syncBcast 9 q origin))) ∧
  (∀ (s : State) (dev : Dev) (r k : Nat) (q : SyncReq), Heard s dev → (part s dev).syncOn = true → q.handle % 8192 = k → k < syncCount (part s dev).dev → ((part s dev).obj k).st = 0 →
     bits q.handle 16 16 = jobGen (q.d / 4294967296 % 4294967296) →
     exec (.syncAlloc dev (.localReq r true 0) q) s = .next (settled (answered s dev) dev ((((part s dev).setObj
       { num := k, st := 1, jobtag := q.d / 4294967296 % 4294967296, target := q.d % 4294967296, kind := q.kind % 4 }).syncTouch k 0 0 0 0 0 (part s dev).self).syncStatus r 0 false))) ∧
  (∀ (s : State) (dev : Dev) (r k : Nat) (q : SyncReq), Heard s dev → (part s dev).syncOn = true → q.handle % 8192 = k → k < syncCount (part s dev).dev → ((part s dev).obj k).st = 1 →
     bits q.handle 16 16 = jobGen ((part s dev).obj k).jobtag →
     exec (.syncRelease dev (.localReq r true 0) q) s = .next (settled (answered s dev) dev (((part s dev).setObj { ((part s dev).obj k) with
       st := 2, guardEnd := ((part s dev).now + 8000000) % 4294967296, lastTime := (part s dev).now, lastSrc := (part s dev).self,
       updates := (((part s dev).obj k).updates + 1) % 4294967296 }).syncStatus r 0 false)) ∧
     exec (.syncQuery dev (.localReq r true 0) q) s = .next (settled (answered s dev) dev ((part s dev).syncStatus r 0 false))) ∧
  (∀ (s : State) (dev : Dev) (origin : Nat) (q : SyncReq), Awake s dev →
     exec (.syncStateRx dev origin q) s = .next (settled s dev ((part s dev).syncStateRx q origin)))

/-- What the commands of the Tree Engine and of the Local Rule Block do. (09_tree_engine.md R295, R304, R310, R319, R320, R322, R331, R332; 01_fleet_integrity_model.md R43) -/
def Obligations.TreeCommandsComplete : Prop :=
  (∀ (s : State) (v : Nat), s.abl.model (bits v 16 6) = none →
     exec (.treeSubmit .firmware v) s = .next (settled s .abl (s.abl.n.setB Reg.ABL_TREE_SUBMIT_STATUS 0 1 true))) ∧
  (∀ (s : State) (v : Nat) (m : TreeModel) (x : TreeSample), s.abl.model (bits v 16 6) = some m → s.abl.tree.samples = [] → s.abl.n.bit Reg.ABL_TREE_CTRL 0 0 = true →
     s.abl.n.modelState (bits v 16 6) = 2 →
     x = TreeSample.mk 128 (bits v 0 5) 0 0 m (s.abl.binsOf m 0 (bits v 0 5) 0 (some (min 256 (bits v 32 9)))) 0 (!s.abl.treeWake) →
     exec (.treeSubmit .firmware v) s = .next (s.settleAbl
       (({ (s.abl.on fun n => n.wr Reg.ABL_TREE_SUBMIT_STATUS 0 2) with
         tree := { s.abl.tree with samples := [x] } } : Abl).treeView))) ∧
  (∀ (s : State) (i c : Nat) (parity : List Nat), s.abl.tree.samples.find? (fun x => x.i == i && x.c == c && !x.waiting) = none →
     exec (.treeSampleComplete i c parity) s = .next (s.settleAbl s.abl)) ∧
  (∀ (s : State) (i c : Nat) (parity used : List Nat) (x : TreeSample) (w : List Nat × List Nat × List Nat × Bool),
     s.abl.tree.samples.find? (fun x => x.i == i && x.c == c && !x.waiting) = some x →
     used = parity.filter (fun b => x.model.trees.any fun r => r.bank == b) →
     w = walkAll x.model x.bins (used ++ (List.range 16).filter fun b => s.abl.n.bit Reg.ABL_TREE_STATUS 0 (16 + b)) →
     exec (.treeSampleComplete i c parity) s = .next (s.settleAbl
       ((((s.abl.treeTake i c).treeLost x w.2.1 w.2.2.1 used).treeResult x w.1 w.2.2.2).modelDrained x.model.slot))) ∧
  (∀ (a : Abl) (x : TreeSample) (sums : List Nat) (whole : Bool), x.i = 128 → a.treeResult x sums whole = a.on fun n =>
     ((n.wr Reg.ABL_TREE_SUBMIT_RESULT 0 (leNat (x.body sums whole))).wr Reg.ABL_TREE_SUBMIT_STATUS 0 1).irq 41) ∧
  (∀ (s : State) (d : Nat) (p : Nat × Nat), s.abl.tree.below.find? (fun p => p.1 == d) = some p → s.abl.n.riskLevel d ≠ 0 → s.abl.freshScores d ≠ [] →
     p.2 + 10000000000 ≤ s.abl.n.tideline →
     exec (.riskLevelFall d) s = .next (s.settleAbl ((s.abl.riskSet d (s.abl.n.riskLevel d - 1)).riskUpdate d))) ∧
  (∀ (s : State) (d : Nat), exec (.riskScoreStale d) s = .next (s.settleAbl (s.abl.riskUpdate d))) ∧
  (∀ (s : State) (k : Nat), s.abl.n.modelState k = 1 →
     exec (.modelLoadDone k true) s = .next (settled s .abl (((s.abl.n.setFld Reg.ABL_TREE_MODEL k 125 3 2).irq 42).done 0x0701 k stOk)) ∧
     exec (.modelLoadDone k false) s = .next (s.settleAbl ((s.abl.modelFree k).on fun n => n.done 0x0701 k stInternal))) ∧
  (∀ (s : State) (b : Nat), exec (.treeScrubPass [(b, 1)]) s = .next (settled s .abl
       ((s.abl.n.bump Reg.ABL_TREE_SCRUB_FIX 0 1).fault (256 + b % 16) 3 0 0 0))) ∧
  (∀ (s : State) (fixed : List (Nat × Nat)), exec (.treeScrubPass fixed) s = .next (s.settleAbl (fixed.foldl (fun a (p : Nat × Nat) => a.on fun n =>
        (List.range p.2).foldl (fun n _ => n.fault (256 + p.1 % 16) 3 0 0 0) (n.bump Reg.ABL_TREE_SCRUB_FIX 0 p.2)) s.abl))) ∧
  (∀ (s : State) (x : TreeSample), s.abl.tree.samples = [x] → x.waiting = true →
     ∃ a : Abl, exec .treeWakeDone s = .next (s.settleAbl a) ∧ a.tree.samples = [{ x with waiting := false }] ∧ a.n = (s.abl.n.domStart 1).irq 145) ∧
  (∀ s : State, s.ddu.live = true → s.ddu.n.fld Reg.DDU_LRB_CTRL 0 0 16 = 0 → exec .lrbEvaluate s = .next (s.settleDdu s.ddu)) ∧
  (∀ s : State, s.ddu.live = true → s.ddu.n.fld Reg.DDU_LRB_CTRL 0 0 16 ≠ 0 → s.ddu.lrb.at_ = none → s.ddu.lrbOn = false →
     exec .lrbEvaluate s = .next (s.settleDdu { s.ddu with lrb := { s.ddu.lrb with at_ := some (s.ddu.n.timex.elapsed, true) } })) ∧
  (∀ (s : State) (key : Nat) (d e : Ddu), s.ddu.live = true → s.ddu.n.fld Reg.DDU_LRB_CTRL 0 0 16 ≠ 0 → s.ddu.lrb.at_ = none → s.ddu.lrbOn = true →
     key = s.ddu.lrbKey → d = ((s.ddu.bump Reg.DDU_LRB_EVALS).wr Reg.DDU_LRB_LASTKEY 0 key).lrbKeep → d.lrbFirst key = none →
     e = (d.on fun n => n.setB Reg.DDU_LRB_STATUS 0 31 true) →
     exec .lrbEvaluate s = .next (s.settleDdu { e with lrb := { e.lrb with at_ := some (s.ddu.n.timex.elapsed, true) } })) ∧
  (∀ (s : State) (key k : Nat) (d e : Ddu), s.ddu.live = true → s.ddu.n.fld Reg.DDU_LRB_CTRL 0 0 16 ≠ 0 → s.ddu.lrb.at_ = none → s.ddu.lrbOn = true →
     key = s.ddu.lrbKey → d = ((s.ddu.bump Reg.DDU_LRB_EVALS).wr Reg.DDU_LRB_LASTKEY 0 key).lrbKeep → d.lrbFirst key = some k → e = d.lrbAct key k →
     exec .lrbEvaluate s = .next (s.settleDdu { e with lrb := { e.lrb with at_ := some (s.ddu.n.timex.elapsed, true) } })) ∧
  (∀ (s : State) (c : Nat), s.ddu.live = true → exec (.lrbFloorExpiry c) s = .next (s.settleDdu
       (({ s.ddu with lrb := { s.ddu.lrb with floors := s.ddu.lrb.floors.filter fun f => f.1 != c || decide (s.ddu.n.local < f.2.2) } } : Ddu).floorView)))

/-- What the commands of the Replay Grid do beside those of its cores. (10_replay_grid.md R355, R356, R359, R361, R362, R364, R366, R367, R369, R370, R372; 11_verdicts_and_silent_errors.md R391, R396) -/
def Obligations.GridCommandsComplete : Prop :=
  (∀ (s : State) (origin : Nat) (r : Record), exec (.snoopDataRx origin r) s = .next (s.settleAbl ((s.abl.snoopData origin r.payload).verData origin r.payload))) ∧
  (∀ (s : State) (origin : Nat) (r : Record), s.abl.n.jobCheck (leAt r.payload 0 4) = 1 → bit (leAt r.payload 8 4) 31 = true →
     exec (.snoopDataRx origin r) s = .next (settled s .abl (s.abl.n.bumpOf staleReg))) ∧
  (∀ (s : State) (die t epoch tile : Nat) (x : IngestX),
     s.abl.grid.ingest.find? (fun x => x.die == die && x.jobtag == t && x.epoch == epoch && x.tile == tile && (x.last || x.bad)) = some x → x.sections = none →
     exec (.bundleLanded die t epoch tile) s = .next (s.settleAbl (s.abl.badIngest x))) ∧
  (∀ (s : State) (die t epoch tile : Nat) (x : IngestX) (secs : List (List Nat)) (a : Abl) (b : Bundle),
     s.abl.grid.ingest.find? (fun x => x.die == die && x.jobtag == t && x.epoch == epoch && x.tile == tile && (x.last || x.bad)) = some x → x.sections = some secs →
     b = bundleOf (x.hdr.getD []) secs → a = { s.abl with grid := { s.abl.grid with ingest := s.abl.grid.ingest.filter fun y =>
       !(y.die == die && y.jobtag == t && y.epoch == epoch && y.tile == tile) } } → s.abl.n.jobCheck b.jobtag = 0 → a.bundleCtx b.jobtag b.prog = none →
     exec (.bundleLanded die t epoch tile) s = .next (s.settleAbl (a.sliceDone
       { bundle := b, unit := x.unit, cell := x.cell, result := 4, ctx := 255, started := x.started, lastByte := x.at_, slot := 64 }))) ∧
  (∀ (s : State) (die t epoch tile c slot : Nat) (x : IngestX) (secs : List (List Nat)) (a e : Abl) (b : Bundle) (p : GridProg),
     s.abl.grid.ingest.find? (fun x => x.die == die && x.jobtag == t && x.epoch == epoch && x.tile == tile && (x.last || x.bad)) = some x → x.sections = some secs →
     b = bundleOf (x.hdr.getD []) secs → a = { s.abl with grid := { s.abl.grid with ingest := s.abl.grid.ingest.filter fun y =>
       !(y.die == die && y.jobtag == t && y.epoch == epoch && y.tile == tile) } } → s.abl.n.jobCheck b.jobtag = 0 → a.bundleCtx b.jobtag b.prog = some c →
     e = a.ctxSeen c b.epoch → slot = e.n.ctxFld c 246 6 → e.prog slot = some p → b.format = p.format → b.m ≤ 256 → b.n ≤ 256 →
     b.m = p.kat.m → b.n = p.kat.n → b.size ≤ p.sliceMax → e.n.bit Reg.ABL_GRID_CTX c 252 = false →
     exec (.bundleLanded die t epoch tile) s = .next (s.settleAbl ((({ e with grid := { e.grid with
       slices := e.grid.slices ++ [{ id := e.grid.next, ctx := c, slot := slot, bundle := b, unit := x.unit, cell := x.cell, arrived := x.at_, since := e.n.local,
                                     started := x.started }],
       next := e.grid.next + 1 } } : Abl).gridStart).1.gridView))) ∧
  (∀ (s : State) (sl : GridSlice) (p : List Nat), s.abl.n.bit Reg.ABL_GRID_CTRL 0 0 = true → s.abl.n.gridPower = 2 →
     s.abl.grid.slices = [sl] → sl.st = 0 → (s.abl.freeParts (s.abl.shapeOf sl) sl.away).head? = some p →
     exec .slicePlace s = .next (s.settleAbl (s.abl.beginRun sl p))) ∧
  (∀ (s : State) (id : Nat) (sl : GridSlice) (r : GridRun), s.abl.slice id = some sl → s.abl.run id = some r → r.cores.all (fun c => c.st == 4) = true →
     sl.kat = 0 → sl.doomed = false → sl.st ≠ 3 → r.tally.1 = 0 → 32 ≤ sl.ctx →
     exec (.sliceRunDone id) s = .next (s.settleAbl ((s.abl.dropRun r).sliceEnd sl 0 r.tally.2.2 0 none))) ∧
  (∀ (s : State) (id w : Nat) (sl : GridSlice) (r : GridRun), s.abl.slice id = some sl → s.abl.run id = some r → r.cores.all (fun c => c.st == 4) = false →
     w = ((s.abl.prog sl.slot).map fun p => p.wUs).getD 0 → r.began + 2 * w * 1000 ≤ s.abl.n.local →
     exec (.sliceRunTimeout id) s = .next (s.settleAbl (s.abl.runFault id 3 ((r.cores.filter fun c => c.st != 4).map fun c => c.core)))) ∧
  (∀ (s : State) (k cause : Nat), s.abl.grid.runs = [] → exec (.gridCoreFault k cause) s = .next (s.settleAbl (s.abl.coreFault k cause 0))) ∧
  (∀ (s : State) (k cause : Nat) (r : GridRun), s.abl.grid.runs.find? (fun r => r.part.contains k) = some r →
     exec (.gridCoreFault k cause) s = .next (s.settleAbl (s.abl.runFault r.id cause [k]))) ∧
  (∀ s : State, s.abl.n.bit Reg.ABL_GRID_CTRL 0 0 = true → s.abl.n.bit Reg.ABL_GRID_CTRL 0 1 = true → s.abl.n.rd Reg.ABL_GRID_KAT_MS ≠ 0 →
     s.abl.grid.slices = [] → s.abl.grid.katAt + s.abl.n.rd Reg.ABL_GRID_KAT_MS * 1000000 ≤ s.abl.n.local → s.abl.n.gridPower = 0 →
     exec .katRunStart s = .next (settled s .abl (s.abl.n.setFld Reg.ABL_GRID_STATUS 0 30 2 1))) ∧
  (∀ (s : State) (k : Nat) (p : GridProg) (part : List Nat) (sl : GridSlice) (a : Abl), s.abl.n.bit Reg.ABL_GRID_CTRL 0 0 = true →
     s.abl.n.bit Reg.ABL_GRID_CTRL 0 1 = true → s.abl.n.rd Reg.ABL_GRID_KAT_MS ≠ 0 → s.abl.grid.slices = [] →
     s.abl.grid.katAt + s.abl.n.rd Reg.ABL_GRID_KAT_MS * 1000000 ≤ s.abl.n.local → s.abl.n.gridPower = 2 → s.abl.katSlot = some k →
     s.abl.prog k = some p → s.abl.katPart p = some part →
     sl = { id := s.abl.grid.next, ctx := 255, slot := p.slot, bundle := p.kat, arrived := s.abl.n.local, since := s.abl.n.local, kat := 2 } →
     a = { s.abl with grid := { s.abl.grid with slices := [sl], next := s.abl.grid.next + 1, katTurn := k + 1, katAt := s.abl.n.local } } →
     exec .katRunStart s = .next (s.settleAbl (a.beginRun sl part))) ∧
  (∀ (s : State) (k : Nat) (p : GridProg) (e f : KatEnd), s.abl.prog k = some p → s.abl.n.progState k = 1 → p.ends = [e, f] →
     e.us ≤ p.wUs → f.us ≤ p.wUs → e.got = some p.expect → f.got = some p.expect →
     ∃ a : Abl, exec (.progLoadDone k) s = .next (s.settleAbl a) ∧ a.n = ((((s.abl.n.setFld Reg.ABL_GRID_PROG k 125 3 2).setFld Reg.ABL_GRID_PROG k 32 16 (max e.us f.us)).irq 49).done 0x0801 k stOk) ∧
       a.grid.progs = s.abl.grid.progs.map fun x => if x.slot = k then { x with ends := [] } else x) ∧
  (∀ (s : State) (c : Nat), s.abl.n.ctxState c = 3 →
     ∃ a : Abl, exec (.ctxScrubDone c) s = .next (s.settleAbl (((a.on fun n => (n.wr Reg.ABL_GRID_CTX c 0).done 0x0804 c stOk)).ctxLoadView)) ∧ a.n = s.abl.n ∧
       a.grid.scrubbed = s.abl.grid.scrubbed ++ [(s.abl.n.ctxFld c 192 32, (s.abl.gctx c).bytes, (s.abl.gctx c).slices)]) ∧
  (∀ s : State, s.abl.n.gridPower = 1 →
     ∃ a : Abl, exec .gridWakeDone s = .next (s.settleAbl a) ∧ a.n = (((s.abl.n.setFld Reg.ABL_GRID_STATUS 0 30 2 2).domStart 2).domStart 0).irq 145 ∧ a.grid.idleAt = s.abl.n.local) ∧
  (∀ s : State, s.abl.n.gridPower = 2 → s.abl.gridIdle = true → s.abl.grid.idleAt + s.abl.n.rd Reg.ABL_GRID_IDLE_US * 1000 ≤ s.abl.n.local →
     exec .gridIdleExpiry s = .next (s.settleAbl ((s.abl.on fun n => n.setFld Reg.ABL_GRID_STATUS 0 30 2 0).domStop 0)))

/-- What the commands of a core of the Replay Grid do, but for VEC. The hypotheses name the run, the environment and the core at which core `core` stands, and its next command; the equation that ends in `.ok d` says that its operands lie inside the working region and the bundle. (10_replay_grid.md R336, R338, R340, R344, R348, R349, R353, R358, R374, R693) -/
def Obligations.CoreCommandsComplete : Prop :=
  (∀ (s : State) (core : Nat) (r : GridRun) (e : GridEnv) (x : GridCmd) (c d : GridCore), s.abl.coreAt core = some (r, e, c) → e.cmd c = some x → c.st = 0 →
     (x.op = 1 ∧ bit x.flags 2 = false) → coreLoad e x c = .ok d → d.st = 0 → d.pc ≠ c.pc → 
     exec (.load core) s = .next (({ s with free := s.free + 1 } : State).settleAbl (((s.abl.countOps e x c).putCore r.id d).retire core))) ∧
  (∀ (s : State) (core : Nat) (r : GridRun) (e : GridEnv) (x : GridCmd) (c d : GridCore), s.abl.coreAt core = some (r, e, c) → e.cmd c = some x → c.st = 0 →
     (x.op = 1 ∧ bit x.flags 2 = true) → coreLoadAsync e x c = .ok d → d.st = 0 → d.pc ≠ c.pc → 
     exec (.loadAsync core) s = .next (({ s with free := s.free + 1 } : State).settleAbl (((s.abl.countOps e x c).putCore r.id d).retire core))) ∧
  (∀ (s : State) (core : Nat) (r : GridRun) (e : GridEnv) (x : GridCmd) (c d : GridCore), s.abl.coreAt core = some (r, e, c) → e.cmd c = some x → c.st = 0 →
     x.op = 5 → coreMma e x c = .ok d → d.st = 0 → d.pc ≠ c.pc → 
     exec (.mma core) s = .next (({ s with free := s.free + 1 } : State).settleAbl (((s.abl.countOps e x c).putCore r.id d).retire core))) ∧
  (∀ (s : State) (core : Nat) (r : GridRun) (e : GridEnv) (x : GridCmd) (c d : GridCore), s.abl.coreAt core = some (r, e, c) → e.cmd c = some x → c.st = 0 →
     (x.op = 7 ∧ bit x.flags 0 = false) → coreCvt e x c = .ok d → d.st = 0 → d.pc ≠ c.pc → 
     exec (.cvt core) s = .next (({ s with free := s.free + 1 } : State).settleAbl (((s.abl.countOps e x c).putCore r.id d).retire core))) ∧
  (∀ (s : State) (core : Nat) (r : GridRun) (e : GridEnv) (x : GridCmd) (c d : GridCore), s.abl.coreAt core = some (r, e, c) → e.cmd c = some x → c.st = 0 →
     (x.op = 7 ∧ bit x.flags 0 = true) → coreCvt e x c = .ok d → d.st = 0 → d.pc ≠ c.pc → 
     exec (.cvtQuant core) s = .next (({ s with free := s.free + 1 } : State).settleAbl (((s.abl.countOps e x c).putCore r.id d).retire core))) ∧
  (∀ (s : State) (core : Nat) (r : GridRun) (e : GridEnv) (x : GridCmd) (c d : GridCore), s.abl.coreAt core = some (r, e, c) → e.cmd c = some x → c.st = 0 →
     x.op = 8 → coreCmp e x c = .ok d → d.st = 0 → d.pc ≠ c.pc → 
     exec (.cmp core) s = .next (({ s with free := s.free + 1 } : State).settleAbl (((s.abl.countOps e x c).putCore r.id d).retire core))) ∧
  (∀ (s : State) (core : Nat) (r : GridRun) (e : GridEnv) (x : GridCmd) (c d : GridCore), s.abl.coreAt core = some (r, e, c) → e.cmd c = some x → c.st = 0 →
     x.op = 9 → coreLoop x c = .ok d → d.st = 0 → d.pc ≠ c.pc → 
     exec (.loop core) s = .next (({ s with free := s.free + 1 } : State).settleAbl (((s.abl.countOps e x c).putCore r.id d).retire core))) ∧
  (∀ (s : State) (core : Nat) (r : GridRun) (e : GridEnv) (x : GridCmd) (c d : GridCore), s.abl.coreAt core = some (r, e, c) → e.cmd c = some x → c.st = 0 →
     x.op = 2 → coreWait x c = .ok d → d.st = 0 → d.pc ≠ c.pc → 
     exec (.wait core) s = .next (({ s with free := s.free + 1 } : State).settleAbl (((s.abl.countOps e x c).putCore r.id d).retire core))) ∧
  (∀ (s : State) (core : Nat) (r : GridRun) (e : GridEnv) (x : GridCmd) (c : GridCore), s.abl.coreAt core = some (r, e, c) → e.cmd c = some x → c.st = 0 →
     x.op = 0 →
     exec (.endStream core) s = .next (({ s with free := s.free + 1 } : State).settleAbl (((s.abl.countOps e x c).putCore r.id { c with st := 4 }).retire core))) ∧
  (∀ (s : State) (core : Nat) (r : GridRun) (e : GridEnv) (x : GridCmd) (c : GridCore), s.abl.coreAt core = some (r, e, c) → e.cmd c = some x → c.st = 0 →
     x.op = 3 → sendDest e.prog.shape x c ≠ none →
     exec (.send core) s = .next (({ s with free := s.free + 1 } : State).settleAbl ((s.abl.countOps e x c).putCore r.id { c with st := 1 }))) ∧
  (∀ (s : State) (core : Nat) (r : GridRun) (e : GridEnv) (x : GridCmd) (c : GridCore), s.abl.coreAt core = some (r, e, c) → e.cmd c = some x → c.st = 0 →
     x.op = 3 → sendDest e.prog.shape x c = none →
     exec (.send core) s = .next (({ s with free := s.free + 1 } : State).settleAbl ((s.abl.countOps e x c).runFault r.id 2 [core]))) ∧
  (∀ (s : State) (core : Nat) (r : GridRun) (e : GridEnv) (x : GridCmd) (c : GridCore), s.abl.coreAt core = some (r, e, c) → e.cmd c = some x → c.st = 0 →
     x.op = 4 → x.arg c 2 + x.args.getD 3 0 ≤ workBytes →
     exec (.recv core) s = .next (({ s with free := s.free + 1 } : State).settleAbl ((s.abl.countOps e x c).putCore r.id { c with st := 2 }))) ∧
  (∀ (s : State) (core st : Nat) (r : GridRun) (e : GridEnv) (c : GridCore), s.abl.coreAt core = some (r, e, c) →
     exec (.streamLoadDone core st) s = .next (({ s with free := s.free + 1 } : State).settleAbl (s.abl.coreApply r core c (streamDone e st (Config.freeNat s.free) c)))) ∧
  (∀ (s : State) (core d : Nat) (r : GridRun) (e : GridEnv) (c u v : GridCore) (x y : GridCmd) (b : List Nat), s.abl.coreAt core = some (r, e, c) → e.cmd c = some x → c.st = 1 →
     sendDest e.prog.shape x c = some d → r.cores.find? (fun y => y.k == d) = some u → e.cmd u = some y → u.st = 2 → u.core ≠ c.core →
     bits (y.arg u 1) 0 3 = bits (x.arg c 1) 0 3 → x.args.getD 3 0 ≤ y.args.getD 3 0 → workRead c (x.arg c 2) (x.args.getD 3 0) = .ok b →
     workWrite u (y.arg u 2) (b.take (y.args.getD 3 0)) = .ok v →
     exec (.meshDeliver core) s = .next (s.settleAbl ((((s.abl.putCore r.id v.advance).retire u.core).putCore r.id c.advance).retire core)))

/-- What the VEC commands of a core do. (10_replay_grid.md R336, R350, R351, R358, R374, R692) -/
def Obligations.VecCommandsComplete : Prop :=
  (∀ (s : State) (core k : Nat) (i : Instr) (r : GridRun) (e : GridEnv) (x : GridCmd) (c d : GridCore),
     (i, k) ∈ [(Instr.vecAdd core, 0), (Instr.vecSub core, 1), (Instr.vecMul core, 2), (Instr.vecFma core, 3), (Instr.vecMin core, 4),
       (Instr.vecMax core, 5), (Instr.vecSqrt core, 6), (Instr.vecRcp core, 7), (Instr.vecRsqrt core, 8), (Instr.vecExp2 core, 9),
       (Instr.vecLog2 core, 10), (Instr.vecTanh core, 11), (Instr.vecExp core, 16), (Instr.vecSigmoid core, 17), (Instr.vecSilu core, 18),
       (Instr.vecGeluTanh core, 19), (Instr.vecSoftmax core, 20), (Instr.vecRmsnorm core, 21), (Instr.vecSum core, 22), (Instr.vecMaxReduce core, 23)] →
     s.abl.coreAt core = some (r, e, c) → e.cmd c = some x → c.st = 0 → x.op = 6 → x.args.getD 3 0 = k → coreVec (Config.freeNat s.free) x c = .ok d → d.st = 0 → d.pc ≠ c.pc →
     exec i s = .next (({ s with free := s.free + 1 } : State).settleAbl (((s.abl.countOps e x c).putCore r.id d).retire core))) ∧
  (∀ (x : GridCmd) (c d : GridCore) (n k free : Nat) (bx bs : List Nat), x.arg c 2 = n → x.args.getD 3 0 = k → k < 6 → k ≠ 3 → x.args.getD 4 0 ≠ 0xFFFFFFFF →
     workRead c (x.arg c 0) (4 * n) = .ok bx → workRead c (x.args.getD 4 0) (4 * n) = .ok bs →
     workWrite c (x.arg c 1) ((vecRun k (words32 n bx) (words32 n bs) (words32 n bx) (x.args.getD 5 0) free).flatMap (le 4)) = .ok d →
     coreVec free x c = .ok d.advance) ∧
  (∀ (k sc fr : Nat) (xs ss ys : List Nat), k < 12 → vecRun k xs ss ys sc fr = (xs.zip (ss.zip ys)).map fun p => vecElem k p.1 p.2.1 p.2.2 fr)

/-- What the commands of the die's checker and of the Snoop DMA do. (11_verdicts_and_silent_errors.md R384, R385, R388, R389, R390, R392, R405) -/
def Obligations.SnoopCommandsComplete : Prop :=
  (∀ (s : State) (who : Requester) (d : Ddu), FastMay s who d →
     exec (.chkLastClear who) s = .next (({ s with busErr := false } : State).settleDdu (d.wr Reg.DDU_CHK_LAST 0 0))) ∧
  (∀ (s : State) (who : Requester) (i v : Nat) (d : Ddu), FastMay s who d →
     (∀ j, j < 6 → toInt 16 (if j = i then v else d.rd Reg.DDU_CELL_TEDGE j) < toInt 16 (if j + 1 = i then v else d.rd Reg.DDU_CELL_TEDGE (j + 1))) →
     exec (.cellTedgeWrite who i v) s = .next (({ s with busErr := false } : State).settleDdu (d.wr Reg.DDU_CELL_TEDGE i (v % 65536)))) ∧
  (∀ (s : State) (who : Requester) (i v j : Nat) (d : Ddu), FastMay s who d → j < 6 →
     ¬ (toInt 16 (if j = i then v else d.rd Reg.DDU_CELL_TEDGE j) < toInt 16 (if j + 1 = i then v else d.rd Reg.DDU_CELL_TEDGE (j + 1))) →
     exec (.cellTedgeWrite who i v) s = .next (({ s with busErr := false } : State).settleDdu (d.bump Reg.DDU_ACCESS_DENIED))) ∧
  (∀ (s : State) (who : Requester) (k : Nat) (d : Ddu), FastMay s who d → d.n.bit Reg.DDU_SNOOP_CTRL 0 31 = false →
     exec (.snoopPost who k) s = .next (({ s with busErr := false } : State).settleDdu (d.bump Reg.DDU_SNOOP_REFUSED))) ∧
  (∀ (s : State) (who : Requester) (k v a cell : Nat) (x : TileX) (d e : Ddu), FastMay s who e → v = e.rd Reg.DDU_SNOOP_SLOT k →
     e.n.bit Reg.DDU_SNOOP_CTRL 0 31 = true → e.n.bit Reg.DDU_SNOOP_PEND 0 k = false → e.n.bit Reg.DDU_SUBRESET 0 7 = false → slotTag v = e.jobTag →
     e.attemptOf (slotEpoch v) = some a → e.selected (slotEpoch v) (slotTile v) (slotUnit v) = true →
     (∀ r, r < 4 → slotLen v r ≠ 0 → e.inWindow (slotAddr v r) (slotLen v r) = true) →
     (e.chk.ep (slotEpoch v) a).tiles.find? (fun x => x.tile == slotTile v && x.rep) = some x → x.cell = cell →
     d = (e.on fun n => n.setB Reg.DDU_SNOOP_PEND 0 k true).fastStart →
     exec (.snoopPost who k) s = .next (({ s with busErr := false } : State).settleDdu
       (({ d with chk := { d.chk with slots := d.chk.slots ++ [{ slot := k, val := v, attempt := a, cell := cell }] } } : Ddu).onEp (slotEpoch v) a
         fun x => ({ x with snooped := x.snooped + 1 } : EpochX).onTile (slotTile v) fun y => { y with posted := true }))) ∧
  (∀ (s : State) (data : List (List Nat)) (x : SnoopX) (rest : List SnoopX), s.ddu.chk.slots = x :: rest → x.served = false → s.ddu.fb.queue = [] → s.ddu.n.bit Reg.DDU_STATUS 0 2 = true →
     s.ddu.n.fld Reg.DDU_FABRIC_RATE 0 0 16 ≠ 0 → (∀ r, r < 4 → slotLen x.val r = 0) →
     exec (.snoopSlotServe data) s = .next (s.settleDdu { s.ddu with chk := { s.ddu.chk with
       slots := { x with served := true, lens := [0, 0, 0, 0], crcs := [crc32c [], crc32c [], crc32c [], crc32c []] } :: rest } })) ∧
  (∀ (s : State) (data : List (List Nat)) (x : SnoopX) (rest : List SnoopX) (sec : Nat → List Nat) (d : Ddu), s.ddu.chk.slots = x :: rest → x.served = false →
     s.ddu.fb.queue = [] → s.ddu.n.bit Reg.DDU_STATUS 0 2 = true → s.ddu.n.fld Reg.DDU_FABRIC_RATE 0 0 16 ≠ 0 →
     (∀ r, r < 4 → slotLen x.val r ≠ 0 ∧ s.ddu.inWindow (slotAddr x.val r) (slotLen x.val r) = true) →
     sec = (fun r => padTo (slotLen x.val r) (data.getD r [])) →
     d = (List.range 4).foldl (fun e r => (e.snoopRead (slotLen x.val r)).sendSection x r (sec r)) s.ddu →
     exec (.snoopSlotServe data) s = .next (s.settleDdu { d with chk := { d.chk with
       slots := { x with served := true, lens := (List.range 4).map fun r => (sec r).length, crcs := (List.range 4).map fun r => crc32c (sec r) } :: rest } })) ∧
  (∀ (s : State) (data : List (List Nat)) (x : SnoopX) (rest : List SnoopX), s.ddu.chk.slots = x :: rest → x.served = false → s.ddu.fb.queue = [] → s.ddu.n.bit Reg.DDU_STATUS 0 2 = true →
     s.ddu.n.fld Reg.DDU_FABRIC_RATE 0 0 16 ≠ 0 → slotLen x.val 0 ≠ 0 → slotLen x.val 1 = 0 → slotLen x.val 2 = 0 → slotLen x.val 3 = 0 →
     s.ddu.inWindow (slotAddr x.val 0) (slotLen x.val 0) = false →
     exec (.snoopSlotServe data) s = .next (s.settleDdu (s.ddu.fabricViolation.snoopDrop x 2))) ∧
  (∀ (s : State) (x : SnoopX) (rest : List SnoopX) (d : Ddu), s.ddu.chk.slots = x :: rest → x.served = true →
     d = ((s.ddu.snoopFree x).on fun n => n.postUp (slotTag x.val) 5 0x18 0x0001 503 (snoopBytes x.val 0xFF 1 x.cell x.attempt 0 ((s.ddu.snoopFree x).snoopHeader x))).sentNote
       (slotEpoch x.val) x.attempt →
     exec .snoopSlotComplete s = .next (s.settleDdu (d.wr Reg.DDU_SNOOP_SENT 0 (d.rd Reg.DDU_SNOOP_SENT + 1))))

/-- What the commands of the tray's verdict logic and campaigns do. (11_verdicts_and_silent_errors.md R391, R396, R397, R398, R399, R400, R406, R407, R408, R409, R410, R414) -/
def Obligations.VerdictCommandsComplete : Prop :=
  (∀ (s : State) (origin : Nat) (r : Record), s.abl.n.jobCheck (leAt r.payload 0 4) = 1 →
     exec (.chkMismatchRx origin r) s = .next (settled s .abl (s.abl.n.bumpOf staleReg)) ∧
     exec (.epochSummaryRx origin r) s = .next (settled s .abl (s.abl.n.bumpOf staleReg)) ∧
     exec (.epochFenceRx origin r) s = .next (settled s .abl (s.abl.n.bumpOf staleReg))) ∧
  (∀ (s : State) (origin : Nat) (r : Record), s.abl.n.jobCheck (leAt r.payload 0 4) = 2 →
     exec (.chkMismatchRx origin r) s = .next (settled s .abl (s.abl.n.bumpOf unknownReg)) ∧
     exec (.epochSummaryRx origin r) s = .next (settled s .abl (s.abl.n.bumpOf unknownReg)) ∧
     exec (.epochFenceRx origin r) s = .next (settled s .abl (s.abl.n.bumpOf unknownReg))) ∧
  (∀ (s : State) (origin e : Nat) (r : Record) (b : Abl), s.abl.n.jobCheck (leAt r.payload 0 4) = 0 →
     s.abl.verEntry (leAt r.payload 0 4) (origin % 131072) (leAt r.payload 4 4) (leAt r.payload 17 1) = (b, some e) →
     ∃ f : FailX, exec (.chkMismatchRx origin r) s = .next (s.settleAbl (((b.verFail e 2).dropOpen f.jobtag f.die f.epoch (leAt r.payload 17 1) f.tile).failure f)) ∧
       f.jobtag = leAt r.payload 0 4 ∧ f.epoch = leAt r.payload 4 4 ∧ f.tile = leAt r.payload 8 4 ∧ f.unit = leAt r.payload 14 2 ∧ f.die = origin % 131072) ∧
  (∀ (s : State) (origin e : Nat) (r : Record) (b : Abl), s.abl.n.jobCheck (leAt r.payload 0 4) = 0 →
     s.abl.verEntry (leAt r.payload 0 4) (origin % 131072) (leAt r.payload 4 4) (leAt r.payload 8 1) = (b, some e) →
     exec (.epochSummaryRx origin r) s = .next (s.settleAbl
       (((b.putVerX { (b.verX e) with checked := (b.verX e).checked + leAt r.payload 12 4, skipped := (b.verX e).skipped + leAt r.payload 28 4 }).on fun n =>
         n.setFld Reg.ABL_VER_EPOCH e 96 32 (n.verFld e 96 32 + leAt r.payload 24 4)).verCheck e))) ∧
  (∀ (s : State) (origin : Nat) (r : Record) (b : Abl), s.abl.n.jobCheck (leAt r.payload 0 4) = 0 →
     (s.abl.fenceNote (leAt r.payload 0 4) (origin % 131072) (leAt r.payload 4 4) (leAt r.payload 8 1)).verEntry (leAt r.payload 0 4) (origin % 131072) (leAt r.payload 4 4) (leAt r.payload 8 1) = (b, none) →
     exec (.epochFenceRx origin r) s = .next (s.settleAbl b)) ∧
  (∀ (s : State) (origin e : Nat) (r : Record) (a b : Abl), s.abl.n.jobCheck (leAt r.payload 0 4) = 0 →
     (s.abl.fenceNote (leAt r.payload 0 4) (origin % 131072) (leAt r.payload 4 4) (leAt r.payload 8 1)).verEntry (leAt r.payload 0 4) (origin % 131072) (leAt r.payload 4 4) (leAt r.payload 8 1) = (b, some e) →
     (b.verX e).fenced = [] →
     a = (((b.putVerX { (b.verX e) with fenced := [origin % 131072], firstFence := b.n.local, lastFence := b.n.local }).on fun n =>
       (n.setFld Reg.ABL_VER_EPOCH e 144 8 1).setFld Reg.ABL_VER_EPOCH e 32 32 (n.setFld Reg.ABL_VER_EPOCH e 144 8 1).now).verCheck e) →
     a.n.rd Reg.ABL_VER_WAIT_US ≠ 0 →
     exec (.epochFenceRx origin r) s = .next (s.settleAbl a)) ∧
  (∀ s : State, exec .verdictWaitTimeout s = .next (s.settleAbl ((List.range 64).foldl (fun a e =>
       if a.n.verState e = 1 && decide ((a.verX e).firstFence + a.n.rd Reg.ABL_VER_WAIT_US * 1000 ≤ a.n.local) then a.verUnverified e else a) s.abl))) ∧
  (∀ s : State, s.abl.ver.fails = [] → exec .failureClassify s = .next (s.settleAbl s.abl) ∧ exec .classifyTimeout s = .next (s.settleAbl s.abl) ∧
     exec .repeatTimeout s = .next (s.settleAbl s.abl)) ∧
  (∀ (s : State) (f : FailX), s.abl.ver.fails.find? (fun f => !f.wait && !(f.asked && f.repeatClass.isNone)) = some f → f.kind = 3 ∨ f.kind = 4 →
     exec .failureClassify s = .next (s.settleAbl ((s.abl.sign { f with locus := f.locusOf }).onVer fun v => { v with fails := v.fails.filter fun g => g.id != f.id }))) ∧
  (∀ (s : State) (f : FailX), s.abl.ver.fails = [f] → f.signed = false → f.began + 1000000000 ≤ s.abl.n.local →
     exec .classifyTimeout s = .next (s.settleAbl ((s.abl.putFail { f with locus := f.locusOf, wait := false }).sign { f with locus := f.locusOf, wait := false }))) ∧
  (∀ (s : State) (f : FailX), s.abl.ver.fails = [f] → f.asked = true → f.repeatClass = none → f.began + 1000000000 ≤ s.abl.n.local →
     exec .repeatTimeout s = .next (s.settleAbl (s.abl.putFail { f with same := some (f.same.getD 5), cross := some 5 }))) ∧
  (∀ (s : State), exec .unitObservationClear s = .next (s.settleAbl s.abl.obsClear) ∧ (s.abl.ver.obs = [] → s.abl.obsClear = s.abl)) ∧
  (∀ (s : State) (h : Nat) (c : CampX), s.abl.ver.camps.find? (fun c => c.handle == h) = some c → s.abl.campSt c = 2 →
     exec (.campaignCellDwell h) s = .next (s.settleAbl ((s.abl.putCamp { c with tested := true, cellSince := some (s.abl.n.local - 10000000) }).on fun n =>
       n.opChange h fun o => { o with kstate := 3 }))) ∧
  (∀ (s : State) (h : Nat) (c : CampX), s.abl.ver.camps.find? (fun c => c.handle == h) = some c → s.abl.campSt c = 3 →
     exec (.campaignCellLeave h) s = .next (s.settleAbl ((s.abl.putCamp (c.outOfCell s.abl.n.local)).on fun n => n.opChange h fun o => { o with kstate := 2 }))) ∧
  (∀ (s : State) (h t : Nat) (c : CampX), s.abl.ver.camps.find? (fun c => c.handle == h) = some c → (s.abl.campSt c = 2 ∨ s.abl.campSt c = 3) →
     c.runs = some t → c.limit * 1000000000 ≤ c.used + (s.abl.n.local - t) →
     exec (.campaignTimeLimit h) s = .next (s.settleAbl (s.abl.campEnd c (if c.tested then 2 else 3))))

/-- What the securing commands of a die and the securing fan-outs do. (12_state_securing.md R426, R427, R429, R436, R438, R440, R441, R452) -/
def Obligations.SecureDieCommandsComplete : Prop :=
  (∀ (s : State) (port slot sender origin : Nat) (m : FanMsg) (d : Ddu), s.ddu.live = true → (m.jobtag, m.seq) ∉ s.ddu.job.kept → (m.jobtag, m.seq) ∉ s.ddu.job.refused →
     d = { s.ddu with job := { s.ddu.job with kept := (m.jobtag, m.seq) :: s.ddu.job.kept } } →
     rangeOf m.ranges (s.ddu.n.fld Reg.DDU_DIE_INDEX 0 0 17) ≠ none → m.jobtag = s.ddu.jobTag →
     (∀ ms clear : List Nat, ms = (List.range 240).map (fun k => bits (leAt m.body 8 60) (2 * k) 2) →
        clear = (if d.sec.methods = [] then [] else (List.range 240).filter fun k => ms.getD k 0 != d.sec.methods.getD k 0) →
        exec (.secureCutDeliver .ddu port slot sender origin m) s = .next (s.settleDdu ((({ d with sec := { d.sec with building := ms } } : Ddu).secCutSet
          (leAt m.body 0 4) (leAt m.body 4 4) clear).on fun n => n.postUp m.jobtag 0 0x14 0x0012 505 (fanAckBytes m.jobtag m.seq 1 1 [] false)))) ∧
     exec (.secureReleaseDeliver .ddu port slot sender origin m) s = .next (s.settleDdu (({ d.secRelease with sec := { d.secRelease.sec with methods := [], building := [] } } : Ddu).on fun n =>
       n.postUp m.jobtag 0 0x14 0x0012 505 (fanAckBytes m.jobtag m.seq 1 1 [] false))) ∧
     exec (.secureCommitDeliver .ddu port slot sender origin m) s = .next (s.settleDdu (d.on fun n =>
       n.postUp m.jobtag 0 0x14 0x0012 505 (fanAckBytes m.jobtag m.seq 1 1 [] false))) ∧
     exec (.secureAbandonDeliver .ddu port slot sender origin m) s = .next (s.settleDdu ((d.secHold false).on fun n =>
       n.postUp m.jobtag 0 0x14 0x0012 505 (fanAckBytes m.jobtag m.seq 1 1 [] false))) ∧
     exec (.restoreDeliver .ddu port slot sender origin m []) s = .next (s.settleDdu (d.on fun n =>
       n.postUp m.jobtag 0 0x14 0x0012 505 (fanAckBytes m.jobtag m.seq 1 1 [] false)))) ∧
  (∀ (s : State) (port slot sender origin k : Nat) (m : FanMsg) (i : Instr) (a : Abl), s.abl.fans = [] → s.abl.n.jobCheck m.jobtag = 0 →
     (i, k) ∈ [(Instr.secureCutDeliver .abl port slot sender origin m, 0x10), (Instr.secureCommitDeliver .abl port slot sender origin m, 0x11),
       (Instr.secureAbandonDeliver .abl port slot sender origin m, 0x12), (Instr.secureReleaseDeliver .abl port slot sender origin m, 0x13)] →
     a = { s.abl with n := { s.abl.n with due := s.abl.n.due ++ [React.secFan (fanAs k m) origin] } } →
     exec i s = .next (s.settleAbl (a.fanOpen { (fanFrom port slot sender origin (fanAs k m)) with children := a.fanKids (fanAs k m) a.ownChildren }))) ∧
  (∀ (s : State) (port slot sender origin : Nat) (m : FanMsg) (kept : List Nat),
     exec (.restoreDeliver .abl port slot sender origin m kept) s = .next (s.settleAbl ((s.abl.onSec fun z => { z with kept := kept }).fanRx port slot sender origin (fanAs 0x14 m)))) ∧
  (∀ (s : State) (who : Requester) (k : Nat) (e : Ddu), FastMay s who e → e.n.bit Reg.DDU_SEC_CTRL 0 31 = false →
     exec (.securePost who k) s = .next (({ s with busErr := false } : State).settleDdu (e.bump Reg.DDU_SEC_REFUSED))) ∧
  (∀ (s : State) (who : Requester) (k v held : Nat) (d e : Ddu), FastMay s who e → v = e.rd Reg.DDU_SEC_SLOT k →
     e.n.bit Reg.DDU_SEC_CTRL 0 31 = true → e.n.bit Reg.DDU_SEC_PEND 0 k = false → e.n.bit Reg.DDU_SUBRESET 0 7 = false →
     secTag v = e.jobTag → secCut v = e.rd Reg.DDU_SEC_CUT_ID → secTensor v < 240 →
     (∀ r, r < 4 → secLen v r ≠ 0 → e.inWindow (secAddr v r) (secLen v r) = true) → held = e.rd Reg.DDU_SEC_VERSION (secTensor v) → bit held 63 = false →
     d = (({ e with sec := { e.sec with posted := e.sec.posted ++ [(secTensor v, true, secVersion v, secSize v)] } } : Ddu).on fun n =>
       n.setB Reg.DDU_SEC_PEND 0 k true).fastStart →
     exec (.securePost who k) s = .next (({ s with busErr := false } : State).settleDdu
       { d with sec := { d.sec with slots := d.sec.slots ++ [{ slot := k, val := v }] } })) ∧
  (∀ (s : State) (data : List (List Nat)) (x : SecSlot) (rest : List SecSlot), s.ddu.sec.slots = x :: rest → s.ddu.fb.queue = [] → s.ddu.n.bit Reg.DDU_STATUS 0 2 = true →
     s.ddu.n.fld Reg.DDU_FABRIC_RATE 0 0 16 ≠ 0 → secLen x.val 0 ≠ 0 → s.ddu.inWindow (secAddr x.val 0) (secLen x.val 0) = false → s.ddu.sec.held = false →
     ∃ d : Ddu, exec (.secureSlotServe data) s = .next (s.settleDdu (({ d with sec := { d.sec with slots := rest, last := d.sec.last || secLast x.val } } : Ddu).secFence)) ∧
       d = s.ddu.fabricViolation.on fun n => n.setB Reg.DDU_SEC_PEND 0 x.slot false) ∧
  (∀ (s : State) (data : List (List Nat)) (bytes : List Nat) (x : SecSlot) (rest : List SecSlot), s.ddu.sec.slots = x :: rest → s.ddu.fb.queue = [] → s.ddu.n.bit Reg.DDU_STATUS 0 2 = true →
     s.ddu.n.fld Reg.DDU_FABRIC_RATE 0 0 16 ≠ 0 → (∀ r, r < 4 → secLen x.val r ≠ 0 → s.ddu.inWindow (secAddr x.val r) (secLen x.val r) = true) → s.ddu.sec.held = false →
     bytes = (List.range 4).flatMap (fun r => padTo (secLen x.val r) (data.getD r [])) →
     ∃ d : Ddu, exec (.secureSlotServe data) s = .next (s.settleDdu (({ d with sec := { d.sec with slots := rest, last := d.sec.last || secLast x.val } } : Ddu).secFence)) ∧
       d = (((s.ddu.snoopRead bytes.length).sendTensor x.val bytes).on fun n => n.wr Reg.DDU_SEC_BYTES 0 (n.rd Reg.DDU_SEC_BYTES + bytes.length)).on fun n => n.setB Reg.DDU_SEC_PEND 0 x.slot false) ∧
  (∀ (s : State) (data : List (List Nat)), s.ddu.sec.held = true → exec (.secureSlotServe data) s = .next (s.settleDdu s.ddu)) ∧
  (∀ s : State, s.ddu.sec.fencing = true → s.ddu.n.bit Reg.DDU_FENCE_STATUS 0 0 = false →
     exec .secureDieDone s = .next (s.settleDdu { (s.ddu.secDoneRec false) with sec := { s.ddu.sec with last := false, fencing := false } })) ∧
  (∀ (s : State) (who : Requester) (e : Ddu), FastMay s who e →
     exec (.secureLate who) s = .next (({ s with busErr := false } : State).settleDdu (e.secDoneRec true)))

/-- What the securing commands of the sentinels do. (12_state_securing.md R424, R428, R431, R434, R435, R436, R437, R439, R441, R446, R447; 08_jobs_sync_objects_ordering.md R258, R264) -/
def Obligations.SecuringCommandsComplete : Prop :=
  (∀ (s : State) (origin : Nat) (r : Record), s.abl.n.jobCheck (leAt r.payload 0 4) = 1 →
     exec (.secureRequestRx origin r) s = .next (settled s .abl (s.abl.n.bumpOf staleReg)) ∧ exec (.secureDieDoneRx origin r) s = .next (settled s .abl (s.abl.n.bumpOf staleReg)) ∧
     exec (.secureDataRx origin r) s = .next (settled s .abl (s.abl.n.bumpOf staleReg)) ∧ exec (.shareDataRx origin r) s = .next (settled s .abl (s.abl.n.bumpOf staleReg)) ∧
     exec (.shareAckRx origin r) s = .next (settled s .abl (s.abl.n.bumpOf staleReg)) ∧ exec (.trayCutDoneRx origin r) s = .next (settled s .abl (s.abl.n.bumpOf staleReg)) ∧
     exec (.sharesLostRx origin r) s = .next (settled s .abl (s.abl.n.bumpOf staleReg))) ∧
  (∀ (s : State) (origin : Nat) (r : Record), s.abl.n.jobCheck (leAt r.payload 0 4) = 2 →
     exec (.secureRequestRx origin r) s = .next (settled s .abl (s.abl.n.bumpOf unknownReg)) ∧ exec (.secureDieDoneRx origin r) s = .next (settled s .abl (s.abl.n.bumpOf unknownReg)) ∧
     exec (.secureDataRx origin r) s = .next (settled s .abl (s.abl.n.bumpOf unknownReg)) ∧ exec (.shareAckRx origin r) s = .next (settled s .abl (s.abl.n.bumpOf unknownReg)) ∧
     exec (.trayCutDoneRx origin r) s = .next (settled s .abl (s.abl.n.bumpOf unknownReg)) ∧ exec (.sharesLostRx origin r) s = .next (settled s .abl (s.abl.n.bumpOf unknownReg))) ∧
  (∀ (s : State) (origin t : Nat) (r : Record), t = leAt r.payload 0 4 → s.abl.n.jobCheck t = 0 → s.abl.isRoot t = true → leAt r.payload 8 1 = 0 →
     exec (.secureRequestRx origin r) s = .next (s.settleAbl ((s.abl.putRoot { (s.abl.root t) with neaps := (origin :: (s.abl.root t).neaps).eraseDups }).rootSweep t))) ∧
  (∀ (s : State) (origin t port : Nat) (r : Record) (x : CutX) (es : List (Nat × Bool × Nat × Nat)), t = leAt r.payload 0 4 → s.abl.n.jobCheck t = 0 → s.abl.cut t (leAt r.payload 4 4) = some x →
     s.abl.n.childOf (origin % 1048576) = some port → bit (leAt r.payload 10 1) 0 = false →
     es = (List.range (leAt r.payload 8 2)).map (fun i => (leAt r.payload (16 + 16 * i) 1, bit (leAt r.payload (16 + 16 * i + 1) 1) 0,
       leAt r.payload (16 + 16 * i + 4) 4, leAt r.payload (16 + 16 * i + 8) 8)) →
     exec (.secureDieDoneRx origin r) s = .next (s.settleAbl (s.abl.putCut { x with done := (port, es) :: x.done.filter fun d => d.1 != port }))) ∧
  (∀ (s : State) (origin t port : Nat) (r : Record) (x : CutX) (y : SecInst), t = leAt r.payload 0 4 → s.abl.n.jobCheck t = 0 → s.abl.cut t (leAt r.payload 4 4) = some x →
     y = { port := port, tensor := leAt r.payload 12 1, version := leAt r.payload 8 4, bytes := r.payload.drop 32, ok := false } →
     s.abl.n.childOf (origin % 1048576) = some port → x.ended = false → x.insts = [] → leAt r.payload 16 8 = 0 → bit (leAt r.payload 13 1) 0 = false →
     exec (.secureDataRx origin r) s = .next (s.settleAbl (s.abl.putCut { x with insts := [y] }))) ∧
  (∀ (s : State) (origin : Nat) (r : Record), s.abl.n.jobCheck (leAt r.payload 0 4) ≠ 1 → s.abl.n.bit Reg.ABL_SEC_CTRL 0 0 = false →
     exec (.shareDataRx origin r) s = .next (s.settleAbl s.abl)) ∧
  (∀ (s : State) (origin t : Nat) (r : Record) (key x : ShareX), t = leAt r.payload 0 4 → s.abl.n.jobCheck t ≠ 1 → s.abl.n.bit Reg.ABL_SEC_CTRL 0 0 = true →
     leAt r.payload 9 1 = 1 →
     key = { jobtag := t, cut := leAt r.payload 4 4, tensor := leAt r.payload 8 1, kind := 1, shard := leAt r.payload 11 1, origin := leAt r.payload 12 4, gen := 0 } → x = s.abl.share key → leAt r.payload 16 8 = x.bytes.length →
     s.abl.shareFits (r.payload.length - 32) = true → bit (leAt r.payload 24 1) 0 = false →
     exec (.shareDataRx origin r) s = .next (s.settleAbl (s.abl.putShare { x with bytes := x.bytes ++ r.payload.drop 32, container := bit (leAt r.payload 24 1) 1 }))) ∧
  (∀ (s : State) (origin t : Nat) (r : Record), t = leAt r.payload 0 4 → s.abl.n.jobCheck t = 0 → leAt r.payload 9 1 = 0 → s.abl.isRoot t = true →
     exec (.shareAckRx origin r) s = .next (s.settleAbl ((s.abl.putRoot { (s.abl.root t) with acks := (s.abl.root t).acks.filter fun h => h != origin }).rootSweep t))) ∧
  (∀ (s : State) (origin t kind : Nat) (r : Record) (x y : CutX), t = leAt r.payload 0 4 → s.abl.n.jobCheck t = 0 → kind = leAt r.payload 9 1 → kind ≠ 0 →
     s.abl.cut t (leAt r.payload 4 4) = some x → leAt r.payload 10 2 = 0 → y = { x with awaits := x.awaits.erase (leAt r.payload 8 1, kind) } →
     exec (.shareAckRx origin r) s = .next (s.settleAbl ((s.abl.putCut y).cutSweep y))) ∧
  (∀ (s : State) (origin t : Nat) (r : Record), t = leAt r.payload 0 4 → s.abl.n.jobCheck t = 0 → s.abl.isRoot t = true → leAt r.payload 4 4 = s.abl.n.secFld t 152 32 →
     s.abl.passSt t = 1 → leAt r.payload 10 1 = 1 →
     exec (.trayCutDoneRx origin r) s = .next (s.settleAbl (s.abl.passCancel t 5 1))) ∧
  (∀ (s : State) (x : RootX), s.abl.sec.roots = [x] → s.abl.passSt x.jobtag = 1 → x.began + x.held + s.abl.n.rd Reg.ABL_SEC_PASS_LIMIT_MS * 1000000 ≤ s.abl.n.local →
     exec .passLimitExpiry s = .next (s.settleAbl ((s.abl.passCancel x.jobtag 7 0).rootSweep x.jobtag))) ∧
  (∀ (s : State) (origin t : Nat) (r : Record), t = leAt r.payload 0 4 → s.abl.n.jobCheck t = 0 → s.abl.isRoot t = true →
     exec (.sharesLostRx origin r) s = .next (s.settleAbl ((s.abl.putRoot { (s.abl.root t) with lost := true }).rootSweep t))) ∧
  (∀ (s : State) (origin t dies bytes : Nat) (x y : RestX), s.abl.sec.restores.find? (fun x => x.new == t) = some x → x.done.contains origin = false →
     y = { x with done := origin :: x.done, dies := x.dies + dies, bytes := x.bytes + bytes } →
     exec (.restoreDoneRx origin t dies bytes) s = .next (s.settleAbl
       ((s.abl.onSec fun s => { s with restores := y :: s.restores.filter fun z => z.handle != y.handle }).restCheck y))) ∧
  (∀ s : State, s.abl.sec.holds = [] → exec .secureHoldExpiry s = .next (s.settleAbl s.abl)) ∧
  (∀ (s : State) (t k : Nat), s.abl.sec.holds = [(t, k)] → k ≤ s.abl.n.local → s.abl.offHolders t (s.abl.root t).last = [] →
     exec .secureHoldExpiry s = .next (s.settleAbl ((s.abl.secReleased t).onSec fun s =>
       { s with holds := s.holds.filter (fun x => x.1 != t), roots := s.roots.filter fun r => r.jobtag != t }))) ∧
  (∀ s : State, s.abl.n.role ≠ 1 → exec .secureRequestTimer s = .next (s.settleAbl s.abl)) ∧
  (∀ (s : State) (t : Nat), s.abl.n.role = 1 → s.abl.n.trayLevel ≠ 0 → s.abl.n.bit Reg.ABL_SEC_CTRL 0 0 = true → s.abl.trayJobs = [t] → s.abl.sec.reqAt = [] →
     exec .secureRequestTimer s = .next (s.settleAbl (s.abl.secRequest t s.abl.n.trayLevel))) ∧
  (∀ (s : State) (q : Nat), s.abl.n.bit Reg.ABL_CMP_CTRL 0 0 = true → s.abl.n.bit Reg.ABL_CMP_BUSY 0 q = false →
     exec (.cmpSubmit q) s = .next (s.settleAbl ((s.abl.onSec fun z => { z with cmps := z.cmps ++ [{ q := q, at_ := s.abl.n.local }] }).on fun n => n.setB Reg.ABL_CMP_BUSY 0 q true))) ∧
  (∀ (s : State) (q : Nat), s.abl.n.bit Reg.ABL_CMP_BUSY 0 q = false →
     ∃ k, exec (.cmpDescDone q) s = .next (({ s with free := s.free + k } : State).settleAbl s.abl)) ∧
  (∀ (s : State) (q d st blocks : Nat) (src o : List Nat), d = s.abl.n.rd Reg.ABL_CMP_DESC q → src = Cells.load s.mem (bits d 0 64) (bits d 128 64) (fun i => Config.freeNat (s.free + i)) →
     s.abl.n.bit Reg.ABL_CMP_BUSY 0 q = true → cmpRun d src = (st, o, blocks) → st = stOk → o ≠ [] →
     ∃ a : Abl, exec (.cmpDescDone q) s = .next (({ s with free := s.free + src.length + bits d 192 64 } : State).settleAbl a) ∧
       a.out = s.abl.out ++ [(bits d 64 64, o)] ∧ a.sec.cmps = s.abl.sec.cmps.filter fun c => c.q != q) ∧
  (∀ (s : State) (j : Nat), s.abl.n.fld Reg.ABL_JOB j 125 3 ≠ 3 → exec (.jobEntryScrubDone j) s = .next (s.settleAbl s.abl)) ∧
  (∀ (s : State) (j : Nat), s.abl.n.fld Reg.ABL_JOB j 125 3 = 3 → (s.abl.jobA j).members.all (fun m => (s.abl.jobA j).scrubbed.contains m.1) = true →
     ((List.range 64).any fun c => s.abl.n.ctxState c != 0 && s.abl.n.ctxFld c 192 32 == s.abl.n.fld Reg.ABL_JOB j 0 32) = false →
     ∃ (a : Abl) (m : Node), exec (.jobEntryScrubDone j) s = .next (s.settleAbl a) ∧
       a.n = (m.setFld Reg.ABL_JOB j 125 3 4).setFld Reg.ABL_JOB j 32 32 ((m.now + 8000000) % 4294967296))

/-- What the commands of the fault collectors do. (13_faults_isolation_governor.md R459, R460, R462, R463, R464, R472, R477; 06_dervi_link.md R196, R197) -/
def Obligations.FaultCommandsComplete : Prop :=
  (∀ (s : State) (dev : Dev) (src cause flags jobtag arg : Nat), (part s dev).dev = dev → Awake s dev → (dev = .abl → s.abl.grid.runs = []) → reservedSrc dev src = true →
     exec (.faultEvent dev src cause flags jobtag arg) s = .next (settled s dev (part s dev))) ∧
  (∀ (s : State) (dev : Dev) (src cause flags jobtag arg : Nat), (part s dev).dev = dev → Awake s dev → (dev = .abl → s.abl.grid.runs = []) → reservedSrc dev src = false →
     (part s dev).fld (fltInj dev) 0 0 16 = 0 → ((part s dev).fltTotal src).dev = dev → ((part s dev).fltTotal src).bit (fltCtrl dev) 0 0 = false →
     exec (.faultEvent dev src cause flags jobtag arg) s = .next (settled s dev ((part s dev).fltTotal src))) ∧
  (∀ (s : State) (src cause flags jobtag arg : Nat) (n : Node), s.ddu.n.dev = .ddu → s.ddu.live = true → reservedSrc .ddu src = false → bit flags 0 = false → bit flags 1 = true →
     s.ddu.n.fld Reg.DDU_FLT_INJ 0 0 16 = 0 → (s.ddu.n.fltTotal src).dev = .ddu → (s.ddu.n.fltTotal src).bit Reg.DDU_FLT_CTRL 0 0 = true →
     ((s.ddu.n.fltTotal src).winAdd src).dev = .ddu →
     n = ((s.ddu.n.fltTotal src).winAdd src).emit jobtag 2 0x1A 0x0001 src (le 2 src ++ [cause, flags] ++ le 4 (((s.ddu.n.fltTotal src).winAdd src).winCount src) ++ le 4 jobtag ++ le 4 arg) →
     (n.setWin src []).dev = .ddu →
     exec (.faultEvent .ddu src cause flags jobtag arg) s = .next (s.settleDdu (s.ddu.on fun _ =>
       (n.setWin src []).severeAgain src cause (((s.ddu.n.fltTotal src).winAdd src).winCount src) jobtag))) ∧
  (∀ (s : State) (dev : Dev) (src : Nat) (w : FaultWin), (part s dev).flt.wins.find? (fun w => w.src == src) = some w →
     exec (.faultSubwindowAdvance dev src) s = .next (settled s dev ((part s dev).setWin src ((0 :: w.subs).take 8)))) ∧
  (∀ (s : State) (dev : Dev) (src : Nat), (part s dev).flt.wins.find? (fun w => w.src == src) = none →
     exec (.faultSubwindowAdvance dev src) s = .next (settled s dev (part s dev))) ∧
  (∀ (s : State) (dev : Dev) (src slot p : Nat), lanePort dev src = some p → (part s dev).portUp p = true → ((part s dev).lane p slot).st = lsUp →
     exec (.channelFailure dev src slot) s = .next (settled s dev (((part s dev).leaveUp p slot lsBackoff 0x0001 1 (some 1)).laneFail p slot 1))) ∧
  (∀ (s : State) (dev : Dev) (src slot : Nat), lanePort dev src = none → otherChannel dev src = true → (part s dev).bit (fltCtrl dev) 0 0 = true → ((part s dev).chan src 255).st = 3 →
     exec (.channelFailure dev src slot) s = .next (settled s dev (part s dev))) ∧
  (∀ (s : State) (slot src : Nat) (c : ChanX), src < 152 → s.ddu.n.dev = .ddu → s.ddu.n.bit Reg.DDU_FLT_CTRL 0 0 = true → c = s.ddu.n.chan src 255 → c.st = 1 → c.fails = [] → c.inEpisode = true →
     exec (.channelFailure .ddu src slot) s = .next (s.settleDdu (s.ddu.on fun n => n.setChan { c with fails := [n.local], retry := c.retry + 1 }))) ∧
  (∀ (s : State) (dev : Dev) (src slot p : Nat) (ok : Bool), lanePort dev src = some p → ((part s dev).lane p slot).st = lsBackoff →
     exec (.channelRetry dev src slot ok) s = .next (settled s dev ((part s dev).modLane p slot fun l => { l with st := lsDetect }))) ∧
  (∀ (s : State) (dev : Dev) (src slot : Nat) (c : ChanX), lanePort dev src = none → otherChannel dev src = true → c = (part s dev).chan src 255 → c.st = 1 →
     exec (.channelRetry dev src slot true) s = .next (settled s dev
       (((part s dev).setChan { c with st := 0, since := (part s dev).local, retry := 0, inEpisode := false }).chanRec src 1 0 c.fails.length)))

/-- What the commands of the Breakwater governor do. (13_faults_isolation_governor.md R481, R482, R483, R485) -/
def Obligations.GovernorCommandsComplete : Prop :=
  (∀ (s : State) (origin : Nat) (r : Record) (a : Abl) (x : BwItem), a = s.abl.bwPrune → a.gov.items = [] → a.gov.window.length < a.bwLimit →
     x = { tray := origin, die := leAt r.payload 0 4, id := leAt r.payload 4 4, cls := leAt r.payload 8 1, body := r.payload, at_ := a.n.tideline } →
     exec (.drainProposalRx origin r) s = .next (s.settleAbl ((({ a with gov := { a.gov with items := [x] } } : Abl).bwAdmit x 1).bwKeep))) ∧
  (∀ (s : State) (origin : Nat) (r : Record) (a : Abl), a = s.abl.bwPrune → a.gov.items.find? (fun x => x.id == leAt r.payload 4 4) = none → a.bwLimit ≤ a.gov.window.length → 1024 ≤ a.bwQueue.length →
     exec (.drainProposalRx origin r) s = .next (s.settleAbl (a.bwAnswer
       { tray := origin, die := leAt r.payload 0 4, id := leAt r.payload 4 4, cls := leAt r.payload 8 1, body := r.payload, at_ := a.n.tideline } 2))) ∧
  (∀ (s : State) (origin : Nat) (r : Record), s.abl.gov.props = [] → exec (.bwDecisionRx origin r) s = .next (s.settleAbl s.abl)) ∧
  (∀ (s : State) (origin d port : Nat) (r : Record) (p : PropX), d = leAt r.payload 8 1 → s.abl.gov.props = [p] → p.die = leAt r.payload 0 4 → p.id = leAt r.payload 4 4 → d = 2 →
     s.abl.n.portOfDie p.die = some port →
     exec (.bwDecisionRx origin r) s = .next (s.settleAbl (({ s.abl with gov := { s.abl.gov with props := [{ p with decision := 2 }] } } : Abl).stageSuspect port))) ∧
  (∀ s : State, s.abl.gov.props = [] → exec .bwResendTimer s = .next (s.settleAbl s.abl)) ∧
  (∀ (s : State) (p : PropX), s.abl.gov.props = [p] → p.decision = 0 → p.sent + 1000000000 ≤ s.abl.n.local →
     exec .bwResendTimer s = .next (s.settleAbl (s.abl.sendProp p))) ∧
  (∀ (s : State) (p : PropX), s.abl.gov.props = [p] → s.abl.n.local < p.sent + 1000000000 →
     exec .bwResendTimer s = .next (s.settleAbl s.abl)) ∧
  (∀ s : State, s.abl.gov.window = [] → exec .bwWindowExpiry s = .next (s.settleAbl s.abl)) ∧
  (∀ (s : State) (w : Nat × Nat × Nat), s.abl.gov.window = [w] → w.2.2 + 3600000000000 ≤ s.abl.n.tideline →
     exec .bwWindowExpiry s = .next (s.settleAbl (({ s.abl with gov := { s.abl.gov with window := [] } } : Abl).bwRun.bwKeep)))

/-- What the commands of the die ledger and of its reconciliation do. (14_health_ledger.md R494, R495, R496, R520, R521, R522, R523, R526) -/
def Obligations.DieLedgerCommandsComplete : Prop :=
  (∀ (s : State) (bad good : Nat) (d e : Ddu), s.ddu.live = true → s.ddu.dlMount = 0 → s.ddu.led.a = none → s.ddu.led.b = none →
     e = (s.ddu.bump Reg.DDU_DL_ERRORS 0 (if good < s.ddu.led.journal.length then 1 else 0)).on
       (fun n => if good < s.ddu.led.journal.length then n.malformed 504 else n) →
     d = (({ e with led := { e.led with image := {} } } : Ddu).snapshot 0 1 0 1).journalRestart 1 →
     exec (.dieLedgerMount bad good) s = .next (s.settleDdu ((d.dlSet 2 0 1 0 1).on fun n => n.setB Reg.DDU_DL_STATUS 0 7 true).ledLoad.ledPower.dlMissing)) ∧
  (∀ (s : State) (bad good : Nat), s.ddu.live = true → 2 ≤ s.ddu.dlMount → exec (.dieLedgerMount bad good) s = .next (s.settleDdu s.ddu)) ∧
  (∀ (s : State) (r : Record) (b : List Nat) (d : Ddu), s.ddu.live = true → s.ddu.dlWrites = true → b = r.bytes ++ le 4 (crc32c r.bytes) ++ le 4 (s.ddu.led.jtag % 4294967296) →
     d = { s.ddu with led := { s.ddu.led with journal := s.ddu.led.journal ++ [(b, s.ddu.led.image)] } } → d.led.used ≤ 11520 →
     exec (.dieLedgerJournal r) s = .next (s.settleDdu (d.wr Reg.DDU_DL_JOURNAL 0 d.led.used))) ∧
  (∀ (s : State) (r : Record) (b : List Nat) (d : Ddu), s.ddu.live = true → s.ddu.dlWrites = true → b = r.bytes ++ le 4 (crc32c r.bytes) ++ le 4 (s.ddu.led.jtag % 4294967296) →
     d = { s.ddu with led := { s.ddu.led with journal := s.ddu.led.journal ++ [(b, s.ddu.led.image)] } } → 11520 < d.led.used →
     exec (.dieLedgerJournal r) s = .next (s.settleDdu (d.wr Reg.DDU_DL_JOURNAL 0 d.led.used).snapNext)) ∧
  (∀ s : State, s.ddu.n.bit Reg.DDU_DL_STATUS 0 8 = true → exec (.probationEnd .ddu) s = .next (s.settleDdu
       ((({ s.ddu with led := s.ddu.led.setHalf (1 - s.ddu.dlHalf) none } : Ddu).on fun n =>
         (n.setB Reg.DDU_DL_STATUS 0 8 false).setFld Reg.DDU_DL_FORMAT 0 16 16 0).dlFormat 0 1 3))) ∧
  (∀ s : State, s.abl.hist.probation ≤ s.abl.n.ltime → s.abl.n.bit Reg.ABL_HS_STATUS 0 27 = true → exec (.probationEnd .abl) s = .next (s.settleAbl
       (((((s.abl.onHist fun h => { h with altBlocks := [], formatAlt := 0, probation := 0 }).on fun n =>
         n.setB Reg.ABL_HS_STATUS 0 27 false).superCause).hsFree s.abl.hist.altBlocks).hsFormat 0 1 3))) ∧
  (∀ (s : State) (port serial flags : Nat) (body : List Nat), s.abl.reconciles port = false → exec (.reconcile port serial flags body) s = .next (s.settleAbl s.abl)) ∧
  (∀ (s : State) (port serial flags : Nat) (body : List Nat), s.abl.reconciles port = true →
     exec (.reconcile port serial flags body) s = .next (s.settleAbl ((s.abl.reconTake port serial flags body).reconTell port serial (s.abl.reconCase port serial flags)
       (lookupD s.abl.hist.tab.ports port 0) flags (s.abl.hist.tab.die serial).image (s.abl.reconImage port serial flags body) (imageOf body) (s.abl.reconCells port serial flags body).length)) ∧
     (s.abl.reconTake port serial flags body).hist.reconciled = port :: s.abl.hist.reconciled.filter (fun p => p != port) ∧
     (s.abl.reconTake port serial flags body).hist.retry = s.abl.hist.retry.filter fun p => p != port) ∧
  (∀ s : State, s.abl.hist.retry = [] → exec .reconcileRetry s = .next (s.settleAbl s.abl)) ∧
  (∀ (s : State) (port : Nat), s.abl.hist.retry = [port] → exec .reconcileRetry s = .next (s.settleAbl
       ((({ s.abl with gov := { s.abl.gov with faults := (port, s.abl.n.local) :: s.abl.gov.faults } } : Abl).reconStart port).faultWords port)))

/-- What the commands of the history store do. (14_health_ledger.md R500, R503, R504, R506, R508, R511, R514, R517, R518, R528, R533) -/
def Obligations.HistoryStoreCommandsComplete : Prop :=
  (∀ (s : State) (ess : Bool) (r : Record), s.abl.hsOn = false → exec (.hsAppend ess r) s = .next (s.settleAbl s.abl)) ∧
  (∀ (s : State) (r : Record), s.abl.hsOn = true → s.abl.hist.pending = none → s.abl.hist.freeCount < 256 → exec (.hsAppend false r) s = .next (s.settleAbl
       (s.abl.onHist fun h => { h with spaceRun := h.spaceRun + 1 }))) ∧
  (∀ (s : State) (r : Record) (b : Abl), s.abl.hsOn = true → s.abl.hist.pending = none → 256 ≤ s.abl.hist.freeCount → s.abl.hist.hours.sum < s.abl.n.fld Reg.ABL_HS_CTRL 0 16 16 * 1000000 →
     b = s.abl.hsWrite r.bytes true [] → b.n.rd Reg.ABL_HS_JSEQ = s.abl.n.rd Reg.ABL_HS_JSEQ + 1 →
     exec (.hsAppend true r) s = .next (s.settleAbl (b.onHist fun h => { h with pending := some (s.abl.n.rd Reg.ABL_HS_JSEQ, true, r.bytes) }))) ∧
  (∀ (s : State) (p : Nat), s.abl.hist.pending = none → exec (.hsAppendDurable p) s = .next (s.settleAbl s.abl)) ∧
  (∀ (s : State) (p : Nat) (x : HsRec) (ess : Bool) (b : List Nat), s.abl.hist.pending = some (x.jseq, ess, b) → s.abl.hist.pwrFail = false → s.abl.hsPaths = [p] →
     s.abl.hist.log = [x] → x.marks = [] →
     exec (.hsAppendDurable p) s = .next (s.settleAbl ((s.abl.hsProgram [p] (65536 * x.block + x.off) [0x5A]).onHist fun h =>
       { h with log := h.log.map (fun y => if y.jseq = x.jseq then { y with marks := [p] } else y), pending := if (s.abl.hsProgram [p] (65536 * x.block + x.off) [0x5A]).hsPaths.all [p].contains then none else h.pending }))) ∧
  (∀ s : State, s.abl.hsMount = 3 → exec .hsMount s = .next (s.settleAbl s.abl)) ∧
  (∀ s : State, s.abl.hsMount = 0 → s.abl.n.fld Reg.ABL_STATUS 0 16 4 = 2 → s.abl.hist.newest 0 = none → s.abl.hist.newest 1 = none →
     exec .hsMount s = .next (s.settleAbl s.abl.mountBlank.sealedBoot)) ∧
  (∀ s : State, s.abl.hist.pwrFail = false → s.abl.hist.op = none → exec .pwrfailAssert s = .next (s.settleAbl
       ((s.abl.onHist fun h => { h with pwrFail := true }).on fun n => (n.satFld Reg.ABL_HS_PWRFAIL 0 0 32 1).irqAll 2))) ∧
  (∀ s : State, exec .pwrfailRelease s = .next (s.settleAbl { s.abl with hist := { s.abl.hist with pwrFail := false } })) ∧
  (∀ s : State, s.abl.hist.pwrFail = false → s.abl.hist.sbDue = true → s.abl.hist.sbAt = none → exec .superblockWriteDue s = .next (s.settleAbl s.abl.superWrite)) ∧
  (∀ (s : State) (t : Nat), s.abl.hist.sbDue = true → s.abl.hist.sbAt = some t → s.abl.n.local < t + 10000000000 → exec .superblockWriteDue s = .next (s.settleAbl s.abl)) ∧
  (∀ s : State, s.abl.compactCause = false → exec .compactionStart s = .next (s.settleAbl s.abl)) ∧
  (∀ s : State, s.abl.hsOn = true → s.abl.hist.pass = none → s.abl.compactCause = true → s.abl.n.bit Reg.ABL_HS_CTRL 0 1 = true → s.abl.passesToday.length < 24 → 32 ≤ s.abl.hist.freeCount →
     ∃ (a : Abl) (x : PassX), exec .compactionStart s = .next (s.settleAbl ((a.onHist fun h => { h with pass := some x, passDue := none, passTimes := a.n.tideline :: a.passesToday }).compactNote 0 1 0)) ∧
       x.urgent = false) ∧
  (∀ s : State, s.abl.hist.pass = none → exec .compactionDone s = .next (s.settleAbl s.abl) ∧ exec .compactionResume s = .next (s.settleAbl (if s.abl.compactSt = 3 ∧
       (s.abl.n.mc.highAt + 10000000 ≤ s.abl.n.local ∨ s.abl.hist.freeCount < 32) then s.abl.compactNote 3 1 0 else s.abl))) ∧
  (∀ (s : State) (x : PassX), s.abl.hist.pass = some x → s.abl.compactSt = 1 → s.abl.superFree = true →
     ∃ (a : Abl) (free : List Nat) (h : Nat), exec .compactionDone s = .next (s.settleAbl ((a.on fun n => n.opEnd h stOk 1 [free.length, x.bytes, free.length, (a.n.local - x.began) / 1000000]).onHist
         fun h => { h with pass := none })) ∧ h = x.handle) ∧
  (∀ (s : State) (a : Abl), a = (s.abl.onHist fun h => { h with hours := (0 :: h.hours).take 24, overHours := (0 :: h.overHours).take 24 }).dayView →
     exec .hsDayBucket s = .next (s.settleAbl (if a.hsOn = true then a.wearLevel else a))) ∧
  (∀ (s : State) (e : Nat × Nat × Nat) (a : Abl) (serial day : Nat) (c : CellRec), s.abl.hsOn = true → s.abl.hist.tally = [e] →
     a = (s.abl.onHist fun h => { h with tally := [] }) → serial = a.serialAt e.1 → serial ≠ 0 → day = a.n.ltime / 86400 →
     c = a.hist.tab.cell serial e.2.1 e.2.2 →
     exec .exposureFlush s = .next (s.settleAbl ((a.onTab fun t => t.putCell { c with
       expose := (bindKey c.expose day (lookupD c.expose day 0 + 1)).filter fun x => decide (day < x.1 + 8) }).on fun n =>
         n.emit 0 2 0x1B 0x0002 650 (le 4 (n.tideline / 4294967296) ++ le 8 serial ++ le 2 e.2.1 ++ [e.2.2, 0] ++ le 4 day ++ le 4 1) 8))) ∧
  (∀ s : State, s.abl.hsOn = true → s.abl.hist.tally = [] → exec .exposureFlush s = .next (s.settleAbl (s.abl.onHist fun h => { h with tally := [] }))) ∧
  (∀ s : State, s.abl.hsOn = true → 
     exec .baselineSave s = .next (s.settleAbl ((s.abl.onTab fun t => { t with baselines := (s.abl.n.regs.filter fun p => decide (0x00630000 ≤ p.1) && decide (p.1 < 0x00650000)).map fun p => ((p.1 - 0x00630000) / 16, p.2) }).hsTable 4 false))) ∧
  (∀ s : State, s.abl.hist.exports = [] → exec .exportSuspendTimeout s = .next (s.settleAbl s.abl)) ∧
  (∀ (s : State) (e : ExportX) (t : Nat), s.abl.hist.exports = [e] → e.suspendedAt = some t → t + 600000000000 ≤ s.abl.n.local →
     exec .exportSuspendTimeout s = .next (s.settleAbl ((s.abl.onHist fun h => { h with exports := [] }).on fun n =>
       n.opEnd e.handle stCancelled 0 [e.segs, e.bytes, 0, s.abl.n.rd Reg.ABL_HS_JSEQ - 1]))) ∧
  (∀ (s : State) (paths addr op : Nat) (i : Instr), s.abl.hist.op = none → (op = 1 ∨ s.abl.hist.pwrFail = false) →
     (i, op) ∈ [(Instr.hsOpRead .firmware paths addr, 1), (Instr.hsOpProgram .firmware paths addr, 2), (Instr.hsOpErase .firmware paths addr, 3), (Instr.hsOpProgramMark .firmware paths addr, 4)] →
     exec i s = .next (s.settleAbl ((s.abl.onHist fun h => { h with op := some (op, paths % 4, addr % 2 ^ 32) }).on fun n => n.setB Reg.ABL_HS_OP_STATUS 0 0 true))) ∧
  (∀ (s : State) (who : Requester) (paths addr : Nat) (i : Instr), who ≠ .firmware →
     i ∈ [Instr.hsOpRead who paths addr, Instr.hsOpProgram who paths addr, Instr.hsOpErase who paths addr, Instr.hsOpProgramMark who paths addr] →
     exec i s = .next (s.settleAbl (s.abl.on fun n => n.bump Reg.ABL_HS_DENIED))) ∧
  (∀ (s : State) (fail paths addr : Nat), s.abl.hist.op = some (1, paths, addr) → 268435456 ≤ addr →
     exec (.hsOpDone fail) s = .next (s.settleAbl ((s.abl.onHist fun h => { h with op := none }).on fun n => (n.wr Reg.ABL_HS_OP_STATUS 0 (stBad * 65536)).irq 97))) ∧
  (∀ (s : State) (fail addr p : Nat) (a : Abl), s.abl.hist.op = some (1, 2 ^ p, addr) → addr < 268435456 → s.abl.hsPaths = [p] → bit fail p = false → bit (2 ^ p) p = true →
     a = (s.abl.onHist fun h => { h with op := none }) →
     exec (.hsOpDone fail) s = .next (s.settleAbl ((a.on fun n => n.wr Reg.ABL_HS_BUF 0 (leNat (a.hist.read p addr 4096))).on fun n =>
       (n.wr Reg.ABL_HS_OP_STATUS 0 (stOk * 65536)).irq 97)))

/-- What the commands of the sentinel's power states, of its domains and of the tray's budget do. (15_power_and_thermal.md R537, R539, R540, R541, R546, R547, R564) -/
def Obligations.SentinelPowerCommandsComplete : Prop :=
  (∀ (s : State) (a : Abl), s.abl.n.pwrState = 3 → s.abl.n.resets = [] →
     a = (({ s.abl.mainLost with pwr := { s.abl.mainLost.pwr with wake := 0 }, pins := { s.abl.mainLost.pins with mainEn := false } } : Abl).on fun n => n.setFld Reg.ABL_PWR_STATE 0 0 3 0) →
     exec .slackEntryDone s = .next (s.settleAbl (a.wakeUp s.abl.pwr.wake))) ∧
  (∀ s : State, s.abl.n.pwrState ≠ 3 → exec .slackEntryDone s = .next (s.settleAbl s.abl)) ∧
  (∀ (s : State) (causes w : Nat), w = causes &&& s.abl.n.fld Reg.ABL_PWR_WAKE_EN 0 0 5 → w ≠ 0 → s.abl.n.pwrState = 3 →
     exec (.sentinelWake causes) s = .next (s.settleAbl { s.abl with pwr := { s.abl.pwr with wake := s.abl.pwr.wake ||| w } })) ∧
  (∀ (s : State) (causes w : Nat), w = causes &&& s.abl.n.fld Reg.ABL_PWR_WAKE_EN 0 0 5 → w ≠ 0 → s.abl.n.pwrState = 0 →
     exec (.sentinelWake causes) s = .next (s.settleAbl (({ s.abl with pwr := { s.abl.pwr with wake := w }, pins := { s.abl.pins with mainEn := s.abl.pins.aonPgood && !s.abl.pins.thermtrip } } : Abl).on fun n =>
         (n.setFld Reg.ABL_PWR_STATE 0 0 3 4).wr Reg.ABL_PWR_WAKE_CAUSE 0 (n.rd Reg.ABL_PWR_WAKE_CAUSE ||| w)))) ∧
  (∀ (s : State) (a : Abl), s.abl.n.pwrState = 4 → s.abl.pins.mainPgood = true → s.abl.pins.lost = false →
     a = (((({ s.abl with pwr := { s.abl.pwr with wake := 0 } } : Abl).on fun n => n.setFld Reg.ABL_PWR_STATE 0 0 3 1).pwrRec 0 1 (wakeCause s.abl.pwr.wake)).on Node.timeWake) →
     a.hsMount = 0 → a.gov.props = [] →
     exec .sentinelWakeDone s = .next (s.settleAbl a)) ∧
  (∀ s : State, dist32 s.abl.n.now (s.abl.n.rd Reg.ABL_PWR_WAKE_AT) < 0 → exec .wakeAtDue s = .next (s.settleAbl s.abl)) ∧
  (∀ s : State, 0 ≤ dist32 s.abl.n.now (s.abl.n.rd Reg.ABL_PWR_WAKE_AT) → exec .wakeAtDue s = exec (.sentinelWake 16) s) ∧
  (∀ (s : State) (w : Nat), 0 ≤ dist32 s.abl.n.now (s.abl.n.rd Reg.ABL_PWR_WAKE_AT) → w = 16 &&& s.abl.n.fld Reg.ABL_PWR_WAKE_EN 0 0 5 → w ≠ 0 → s.abl.n.pwrState = 0 →
     exec .wakeAtDue s = .next (s.settleAbl (({ s.abl with pwr := { s.abl.pwr with wake := w }, pins := { s.abl.pins with mainEn := s.abl.pins.aonPgood && !s.abl.pins.thermtrip } } : Abl).on fun n =>
         (n.setFld Reg.ABL_PWR_STATE 0 0 3 4).wr Reg.ABL_PWR_WAKE_CAUSE 0 (n.rd Reg.ABL_PWR_WAKE_CAUSE ||| w)))) ∧
  (∀ s : State, s.abl.n.pwrState = 1 → s.abl.pwr.starting = [] → s.abl.n.domOn 2 = false → s.abl.n.domOn 3 = false →
     exec (.domainDemand 8) s = .next (s.settleAbl (({ s.abl with pwr := { s.abl.pwr with starting := [2, 3] } } : Abl).on fun n => n.setFld Reg.ABL_PWR_STATE 0 0 3 2))) ∧
  (∀ (s : State) (k : Nat), k ∈ s.abl.pwr.starting → 2 ≤ k →
     exec (.domainReady k) s = .next (s.settleAbl (({ s.abl with pwr := { s.abl.pwr with starting := s.abl.pwr.starting.filter (fun j => j != k), idleAt := bindKey s.abl.pwr.idleAt k s.abl.n.local } } : Abl).on fun n => (n.domStart k).irq 145))) ∧
  (∀ (s : State) (k : Nat), k ∉ s.abl.pwr.starting → exec (.domainReady k) s = .next (s.settleAbl s.abl)) ∧
  (∀ (s : State) (k : Nat), k ∈ [1, 3, 4] → s.abl.n.domOn k = true → s.abl.domBusy k = false →
     lookupD s.abl.pwr.idleAt k 0 + s.abl.n.fld Reg.ABL_PWR_DOM_IDLE_US 0 0 20 * 1000 ≤ s.abl.n.local →
     exec (.domainIdleExpiry k) s = .next (s.settleAbl (s.abl.domStop k))) ∧
  (∀ s : State, s.abl.n.role ≠ 1 → exec .budgetDivision s = .next (s.settleAbl s.abl)) ∧
  (∀ (s : State) (p b : Nat), b = s.abl.n.rd Reg.ABL_PWR_BUDGET → bit b 63 = true → s.abl.powered = [p] → s.abl.n.role = 1 → bits b 16 16 + bits b 32 16 ≤ bits b 0 16 →
     s.abl.demandOf p ≤ bits b 32 16 → s.abl.n.dieCap p ≤ bits b 0 16 - bits b 16 16 → s.abl.pwr.falling = [] →
     exec .budgetDivision s = .next (s.settleAbl (({ s.abl with pwr := { s.abl.pwr with falling := [], rising := [(p, bits b 0 16 - bits b 16 16)], fallAt := s.abl.n.local } } : Abl).sendRising))) ∧
  (∀ (s : State) (p : Nat) (a : Abl), a = (s.abl.on fun n => n.setB Reg.ABL_PWR_DIE_CAP p 31 true) →
     exec (.capAckRx p) s = .next (s.settleAbl ({ a with pwr := { a.pwr with acked := bindKey a.pwr.acked p (a.n.dieCap p), falling := a.pwr.falling.filter fun q => q != p } } : Abl).sendRising)) ∧
  (∀ (s : State) (logic memory : Nat) (temp : Int), ∃ a : Abl, exec (.sentinelPowerLoop logic memory temp) s = .next (s.settleAbl a) ∧
       a.n = (List.range 6).foldl (fun (n : Node) r => n.wr Reg.ABL_PWR_THR_US r (a.pwr.ticks.getD r 0 / 50)) (s.abl.n.wr Reg.ABL_PWR_PKG 0 (logic % 65536 * 65536 + memory % 65536)))

/-- What the commands of the DDU's power controller do. (15_power_and_thermal.md R543, R548, R549, R551, R553, R555, R561, R562) -/
def Obligations.DiePowerCommandsComplete : Prop :=
  (∀ (s : State) (cause : Nat), s.ddu.live = true → s.ddu.pwr ≠ 0 → exec (.dduSlackExit cause) s = .next (s.settleDdu s.ddu.fastStart)) ∧
  (∀ (s : State) (cause : Nat) (d : Ddu), s.ddu.live = true → s.ddu.pwr = 0 → s.ddu.bnd.corePgood = true → d = s.ddu.setPwr (if s.ddu.bnd.hostActive = true then 2 else 1) cause →
     exec (.dduSlackExit cause) s = .next (s.settleDdu (((({ (d.wr Reg.DDU_PWR_CAP 0 0) with pw := { d.pw with capAt := d.n.local, woke := d.n.local } } : Ddu).fastStart).on Node.timeWake).fastStart))) ∧
  (∀ s : State, s.ddu.pwr ≠ 0 → s.ddu.pw.capAt + 100000000 ≤ s.ddu.n.local → exec .capStale s = .next (s.settleDdu (s.ddu.on fun n => n.setB Reg.DDU_PWR_STATE 0 8 true))) ∧
  (∀ s : State, s.ddu.pwr ≠ 0 → s.ddu.n.local < s.ddu.pw.capAt + 100000000 → exec .capStale s = .next (s.settleDdu s.ddu)) ∧
  (∀ s : State, s.ddu.pwr ≠ 0 → exec .demandReport s = .next (s.settleDdu (s.ddu.on fun n => n.evRec 0x1E 0x0004 506
       (le 2 (min 65535 s.ddu.demandW) ++ le 2 ((s.ddu.phaseNow).getD 0xFFFF) ++ zeros 4)))) ∧
  (∀ (s : State) (duty : List Nat), s.ddu.pwr = 0 → exec .demandReport s = .next (s.settleDdu s.ddu) ∧ exec (.phaseSignatureTick duty) s = .next (s.settleDdu s.ddu) ∧
       exec .powerLoopWindow s = .next (s.settleDdu s.ddu) ∧ exec .phaseTableSave s = .next (s.settleDdu s.ddu)) ∧
  (∀ (s : State) (duty : List Nat) (x : PhaseEnt), s.ddu.byMarker = false → s.ddu.pwr ≠ 0 → s.ddu.pw.phases = [] →
     x = { e := 0, source := 1, sig := (List.range 8).map fun c => min 15 (duty.getD c 0) } →
     exec (.phaseSignatureTick duty) s = .next (s.settleDdu { s.ddu with pw := { (s.ddu.pw.putPhase { x with usedAt := s.ddu.n.local }) with select := some (some 0) } })) ∧
  (∀ (s : State) (d : Ddu), s.ddu.pwr ≠ 0 → s.ddu.n.bit Reg.DDU_SUBRESET 0 4 = false → s.ddu.pw.capNext = none → s.ddu.rails = [] → s.ddu.pw.select = none →
     d = ((({ s.ddu with pw := { s.ddu.pw with totals := (List.range 8).map fun c => s.ddu.rd Reg.DDU_CLASS_TOTAL c } } : Ddu).wr Reg.DDU_PWR_LAST 0 0).wr Reg.DDU_PWR_USED 0 0).loadView →
     d.phaseNow = none → d.n.bit Reg.DDU_PWR_CTRL 0 31 = false →
     exec .powerLoopWindow s = .next (s.settleDdu { d with pw := { d.pw with unthrottled := unthrottledW (List.replicate 8 0) ((List.range 8).map fun c => d.n.fld Reg.DDU_PWR_LEVEL 0 (4 * c) 4) 0 } })) ∧
  (∀ (s : State) (r : Nat), s.ddu.railState r ≠ 1 → exec (.railRecalEnd r) s = .next (s.settleDdu s.ddu)) ∧
  (∀ (s : State) (r m e : Nat), s.ddu.railState r = 1 → (s.ddu.pw.rail r).cal = 0 → m = (s.ddu.pw.rail r).sumM → e = (s.ddu.pw.rail r).sumE → e ≠ 0 → m * 4096 / e < 65536 → 133 * e < 100 * m →
     exec (.railRecalEnd r) s = .next (s.settleDdu ((s.ddu.on fun n => n.setFld Reg.DDU_PWR_RSTATE r 0 16 (m * 4096 / e)).derate r))) ∧
  (∀ (s : State) (r : Nat), s.ddu.railState r = 2 → (s.ddu.pw.rail r).watchAt + 10000000000 ≤ s.ddu.n.local →
     exec (.railWatchEnd r) s = .next (s.settleDdu { (s.ddu.on fun n => n.setFld Reg.DDU_PWR_RSTATE r 29 3 0) with pw := s.ddu.pw.putRail { r := r } })) ∧
  (∀ s : State, s.ddu.pwr ≠ 0 → exec .phaseTableSave s = .next (s.settleDdu s.ddu.ledPhases))

/-- What the commands of the interrupt controllers do. (16_management_complex.md R574, R575, R576, R577, R578, R590, R591) -/
def Obligations.InterruptCommandsComplete : Prop :=
  (∀ (s : State) (dev : Dev) (id core : Nat) (high : Bool), (part s dev).dev = dev → 0 < id → id < privBase dev → (part s dev).aicEdge id = false →
     exec (.interruptRequest dev id core high) s = .next (settled s dev { part s dev with aic := { (part s dev).aic with
       lines := ((part s dev).aic.lines.filter fun x => x != id) ++ (if high = true then [id] else []) } })) ∧
  (∀ (s : State) (dev : Dev) (id core : Nat), (part s dev).dev = dev → 0 < id → id < privBase dev → (part s dev).aicEdge id = true →
     exec (.interruptRequest dev id core true) s = .next (settled s dev ((part s dev).irq id)) ∧ exec (.interruptRequest dev id core false) s = .next (settled s dev (part s dev))) ∧
  (∀ (s : State) (core : Nat), s.abl.n.aicBest core = none →
     exec (.aicClaim .abl core) s = .next (({ s with rdata := 0, busErr := false } : State).settleAbl (s.abl.on fun n => n.bump (Reg.AIC_SPURIOUS n.dev)))) ∧
  (∀ (s : State) (core : Nat), s.ddu.n.aicBest core = none →
     exec (.aicClaim .ddu core) s = .next (({ s with rdata := 0, busErr := false } : State).settleDdu (s.ddu.on fun n => n.bump (Reg.AIC_SPURIOUS n.dev)))) ∧
  (∀ (s : State) (core id p : Nat) (n : Node), s.abl.n.aicBest core = some (id, p) → n = s.abl.n.setStack core ((id, p) :: s.abl.n.aicStack core) → n.dev = .abl → id < 992 →
     exec (.aicClaim .abl core) s = .next (({ s with rdata := id, busErr := false } : State).settleAbl (s.abl.on fun _ => { n with aic := { n.aic with pend := n.aic.pend.filter fun y => y != id } }))) ∧
  (∀ (s : State) (core id p : Nat) (n : Node), s.ddu.n.aicBest core = some (id, p) → n = s.ddu.n.setStack core ((id, p) :: s.ddu.n.aicStack core) → n.dev = .ddu → id < 224 →
     exec (.aicClaim .ddu core) s = .next (({ s with rdata := id, busErr := false } : State).settleDdu (s.ddu.on fun _ => { n with aic := { n.aic with pend := n.aic.pend.filter fun y => y != id } }))) ∧
  (∀ (s : State) (dev : Dev) (core id p : Nat) (rest : List (Nat × Nat)), (part s dev).aicStack core = (id, p) :: rest →
     exec (.aicEoi dev core id) s = .next (settled s dev ((part s dev).setStack core rest))) ∧
  (∀ (s : State) (dev : Dev) (core id i p : Nat) (rest : List (Nat × Nat)), (part s dev).aicStack core = (i, p) :: rest → i ≠ id →
     exec (.aicEoi dev core id) s = .next (settled s dev ((part s dev).bump (Reg.AIC_EOI_ERR (part s dev).dev)))) ∧
  (∀ (s : State) (dev : Dev) (v : Nat), bits v 16 3 < coresOf (part s dev).dev → exec (.aicSgi dev v) s = .next (settled s dev ((part s dev).irqCore (bits v 16 3) (16 + v % 8)))) ∧
  (∀ (s : State) (dev : Dev) (v : Nat), coresOf (part s dev).dev ≤ bits v 16 3 → exec (.aicSgi dev v) s = .next (settled s dev (part s dev))) ∧
  (∀ (s : State) (dev : Dev) (who : Requester) (core id v : Nat), who ≠ .firmware →
     exec (.aicCfgWrite dev who core id v) s = .next (settled s dev ((part s dev).bump (Reg.AIC_DENIED (part s dev).dev)))) ∧
  (∀ (s : State) (dev : Dev) (core id v : Nat), 0 < id → id < privBase (part s dev).dev → bits v 16 3 < coresOf (part s dev).dev →
     exec (.aicCfgWrite dev .firmware core id v) s = .next (settled s dev ((part s dev).softWrite (Reg.AIC_CFG (part s dev).dev) id 0xFFFFFFFF v)))

/-- What the commands of engine resets, of watchdogs and of the load of the complex do. (16_management_complex.md R581, R582, R583, R584, R585, R586, R587) -/
def Obligations.ManagementCommandsComplete : Prop :=
  (∀ (s : State) (who : Requester) (v : Nat), who ≠ .firmware → who ≠ .bar0 → exec (.engineResetStart who v) s = .next (s.settleAbl s.abl.denied)) ∧
  (∀ (s : State) (b : Nat) (r : ResetRun), b < 24 → s.abl.n.bit Reg.ABL_ENGINE_RESET 0 b = false → s.abl.n.fld Reg.ABL_ENGINE_RESET_MODE 0 b 1 = 0 → setBitsOf 41 (2 ^ b) = [b] →
     bit (2 ^ b) 63 = false → r = { bit := b, mode := 0, cause := 1, began := s.abl.n.local, drained := false, inFlight := s.abl.engWork b, discarded := 0 } →
     exec (.engineResetStart .firmware (2 ^ b)) s = .next (s.settleAbl (s.abl.on fun n => { n.setB Reg.ABL_ENGINE_RESET 0 b true with resets := n.resets ++ [r] }))) ∧
  (∀ (s : State) (b : Nat), s.abl.n.resets = [] → exec (.engineResetDrainEnd b) s = .next (s.settleAbl s.abl) ∧ exec (.engineResetDone b) s = .next (s.settleAbl s.abl)) ∧
  (∀ (s : State) (r y : ResetRun), s.abl.n.resets = [r] → r.drained = false → y = { r with drained := true, discarded := min r.inFlight (s.abl.engWork r.bit), done := r.inFlight - min r.inFlight (s.abl.engWork r.bit) } →
     exec (.engineResetDrainEnd r.bit) s = .next (s.settleAbl ((s.abl.on fun n => { n with resets := [y] }).engDiscard r.bit))) ∧
  (∀ (s : State) (r : ResetRun), s.abl.n.resets = [r] → r.drained = true → r.bit < 26 →
     exec (.engineResetDone r.bit) s = .next (s.settleAbl ((s.abl.on fun n => (engRegs r.bit).foldl (fun (n : Node) x => n.resetRegs x.1 x.2) { n with resets := [] }).engReport r))) ∧
  (∀ s : State, exec .mcReset s = .next (s.settleAbl (s.abl.mcReset 3))) ∧
  (∀ (s : State) (v : Nat), 0 < v → v < 9223372036854775808 → exec (.engineResetStart .bar0 v) s = .next (s.settleAbl (s.abl.on fun n => n.bump Reg.ABL_ENGINE_RESET_DENIED))) ∧
  (∀ (s : State) (dev : Dev) (core : Nat), exec (.watchdogKick dev core 0x4B49) s = .next (settled s dev { part s dev with mc := { (part s dev).mc with
       kicks := bindKey (part s dev).mc.kicks core (part s dev).local, warned := (part s dev).mc.warned.filter fun c => c != core } })) ∧
  (∀ (s : State) (core v : Nat), v ≠ 0x4B49 → s.abl.n.dev = .abl → exec (.watchdogKick .abl core v) s = .next (s.settleAbl (s.abl.on fun n => n.bump Reg.ABL_MC_WDOG_BADKICK))) ∧
  (∀ (s : State) (dev : Dev) (core : Nat), (part s dev).wdogCounts core = true → (part s dev).kickAt core + (part s dev).wdogMs core * 1000000 ≤ (part s dev).local → core ∉ (part s dev).mc.warned →
     exec (.watchdogWarning dev core) s = .next (settled s dev ((({ part s dev with mc := { (part s dev).mc with warned := core :: (part s dev).mc.warned } } : Node).irqCore core 4).wdogRec core 1))) ∧
  (∀ (s : State) (dev : Dev) (core : Nat), (part s dev).wdogCounts core = false →
     exec (.watchdogWarning dev core) s = .next (settled s dev (part s dev)) ∧ exec (.watchdogExpiry dev core) s = .next (settled s dev (part s dev))) ∧
  (∀ (s : State) (core : Nat) (n : Node), s.abl.n.wdogCounts core = true → s.abl.n.kickAt core + 2 * s.abl.n.wdogMs core * 1000000 ≤ s.abl.n.local → s.abl.n.mc.expired = [] →
     n = ({ s.abl.n with mc := { s.abl.n.mc with expired := bindKey [] core s.abl.n.local } } : Node).wdogRec core 2 →
     exec (.watchdogExpiry .abl core) s = .next (s.settleAbl (s.abl.on fun _ => ((((n.fault (n.coreSrc core) 0 2 0 core).coreReset core).rolesMove core).wdogRestart core)))) ∧
  (∀ (s : State) (busy : List Nat), exec (.mcLoadTick .ddu busy) s = .next (s.settleDdu (if s.ddu.n.booted = true then s.ddu.on fun n => n.loadTick busy else s.ddu))) ∧
  (∀ (s : State) (busy : List Nat) (a : Abl), s.abl.n.booted = true → a = (s.abl.on fun n => (n.mc.down.foldl Node.coreUp n).loadTick busy) → a.n.load ≤ 85 → a.n.mc.shed = none → a.compactSt ≠ 3 →
     a.n.fld Reg.ABL_MC_SUMMARY_MS 0 0 16 = 0 → (∀ p, p < 16 → a.n.bit Reg.ABL_TREE_HVALID p 0 = false) →
     exec (.mcLoadTick .abl busy) s = .next (s.settleAbl a))

/-- What the commands that post, signal and expire at the mailboxes do. (17_wyique_mailbox_protocol.md R593, R598, R602, R611, R612, R613, R615, R616, R620, R622; 14_health_ledger.md R527, R528; 19_security_and_debug.md R658) -/
def Obligations.MailboxCommandsComplete : Prop :=
  (∀ (s : State) (c : Cmd), c.path = 1 → mbOk 1 c.mb = true → exec (.mailboxPost c) s = .next (s.settleAbl ((s.abl.on fun n => n.post c).wakeUp 2))) ∧
  (∀ (s : State) (c : Cmd), c.path = 0 → mbOk 0 c.mb = true → s.abl.decodes = true → exec (.mailboxPost c) s = .next (s.settleAbl ((s.abl.on fun n => n.post c).wakeUp 1))) ∧
  (∀ (s : State) (c : Cmd), c.path = 3 → mbOk 3 c.mb = true → s.ddu.live = true → s.ddu.n.bit Reg.DDU_SUBRESET 0 9 = false →
     exec (.mailboxPost c) s = .next (s.settleDdu (if cmdFast c then (s.ddu.on fun n => n.post c).fastStart else s.ddu.on fun n => n.post c))) ∧
  (∀ (s : State) (c : Cmd), c.path = 1 → mbOk 1 c.mb = true → s.abl.n.bit Reg.ABL_MB_OWNED 0 c.mb = true → s.abl.n.dev = .abl →
     exec (.mailboxPost c) s = .next (s.settleAbl ((s.abl.on fun n => n.bump Reg.ABL_MB_DISCARDED).wakeUp 2))) ∧
  (∀ (s : State) (port peer seq : Nat) (c : Cmd), (port, peer) ∉ s.abl.guard.assocs → exec (.commandDatagram port peer seq c) s = .next (s.settleAbl s.abl)) ∧
  (∀ (s : State) (port peer seq : Nat) (c : Cmd), (port, peer) ∈ s.abl.guard.assocs → c.path = 2 → mbOk 2 c.mb = true → s.abl.n.pwrState ≠ 0 → s.abl.n.mb.kept = [] → s.abl.n.bit Reg.ABL_MB_OWNED 0 c.mb = false →
     exec (.commandDatagram port peer seq c) s = .next (s.settleAbl ((s.abl.on fun n => n.setMb { n.mb with kept := bindKey n.mb.kept c.mb (seq % 4294967296) }).postCmd c))) ∧
  (∀ (s : State) (port peer seq : Nat) (c : Cmd), (port, peer) ∈ s.abl.guard.assocs → c.path = 2 → mbOk 2 c.mb = true → s.abl.n.pwrState ≠ 0 → s.abl.n.mb.kept = [(c.mb, seq % 4294967296)] →
     exec (.commandDatagram port peer seq c) s = .next (s.settleAbl s.abl)) ∧
  (∀ (s : State) (path k : Nat) (r : Record), path ≠ 3 → eventClass r.typ r.code = some k → exec (.eventWrite path r) s = .next (s.settleAbl (s.abl.on fun n => n.eventOn path k 554 r))) ∧
  (∀ (s : State) (r : Record), exec (.eventWrite 3 r) s = .next (s.settleDdu (s.ddu.on fun n => n.event r))) ∧
  (∀ (s : State) (p v : Nat), s.abl.n.rd Reg.ABL_MB_EVT_RD p ≤ v → v ≤ s.abl.n.rd Reg.ABL_MB_EVT_WR p → v % 8 = 0 → exec (.eventRdWrite p v) s = .next (s.settleAbl (s.abl.on fun n =>
       ((n.wr Reg.ABL_MB_EVT_RD p v).setEv p { (n.wr Reg.ABL_MB_EVT_RD p v).ev p with ring := ((n.wr Reg.ABL_MB_EVT_RD p v).ev p).ring.filter fun (x : Nat × Record) => decide (v ≤ x.1) }).evRefill p))) ∧
  (∀ (s : State) (p v : Nat), (v < s.abl.n.rd Reg.ABL_MB_EVT_RD p ∨ s.abl.n.rd Reg.ABL_MB_EVT_WR p < v) → exec (.eventRdWrite p v) s = .next (s.settleAbl (s.abl.on fun n => n.bump Reg.ABL_MB_DISCARDED))) ∧
  (∀ (s : State) (seq t : Nat) (r : Record), (s.abl.n.ev 2).sent = [(seq, t, r)] → t + 10000000 ≤ s.abl.n.local → exec .eventResend s = .next (s.settleAbl (s.abl.on fun n => n.setEv 2 { n.ev 2 with sent := [(seq, n.local, r)] }))) ∧
  (∀ s : State, s.abl.n.mb.stages = [] → exec .stageIdleFree s = .next (s.settleAbl s.abl)) ∧
  (∀ (s : State) (x : StageX), s.abl.n.mb.stages = [x] → x.touched + 60000000000 ≤ s.abl.n.local → exec .stageIdleFree s = .next (s.settleAbl (s.abl.stageFree x))) ∧
  (∀ (s : State) (x : OpX), s.abl.n.mb.ops = [x] → x.state = 2 → x.ended + 8000000 ≤ s.abl.n.local →
     exec (.handleGuardExpiry x.slot) s = .next (s.settleAbl (s.abl.on fun n => n.setMb { n.mb with ops := [], gens := bindKey n.mb.gens x.slot ((x.gen + 1) % 65536) }))) ∧
  (∀ (s : State) (x : OpX), s.abl.n.mb.ops = [x] → (x.state ≠ 2 ∨ s.abl.n.local < x.ended + 8000000) → exec (.handleGuardExpiry x.slot) s = .next (s.settleAbl s.abl)) ∧
  (∀ s : State, s.ddu.n.mb.rev = none → exec .reverseTimeout s = .next (s.settleDdu s.ddu) ∧ (∀ st data, exec (.reverseMailboxComplete st data) s = .next (s.settleDdu s.ddu))) ∧
  (∀ (s : State) (x : RevX), s.ddu.n.mb.rev = some x → x.at_ + 1000000000 ≤ s.ddu.n.local →
     exec .reverseTimeout s = .next (s.settleDdu ((s.ddu.on fun n => (n.setMb { n.mb with rev := none }).setB Reg.DDU_MB_OWNED 0 3 false).on fun n => n.done x.code 0 (Config.notDone 65536) []))) ∧
  (∀ (s : State) (x : RevX) (data : List Nat), s.ddu.n.mb.rev = some x →
     exec (.reverseMailboxComplete 0 data) s = .next (s.settleDdu ((s.ddu.on fun n => (n.setMb { n.mb with rev := none }).setB Reg.DDU_MB_OWNED 0 3 false).on fun n => n.done x.code 0 stOk data))) ∧
  (∀ (s : State) (p : PostedX), s.ddu.revWaits 0x1101 = some p → s.ddu.n.mb.rev = none → exec .hostRepeatTile s = .next (s.settleDdu
       ((s.ddu.on fun n => ((n.setMb { n.mb with rev := some { code := 0x1101, params := p.cmd.params.take 16, at_ := n.local } }).setB Reg.DDU_MB_OWNED 0 3 true)).on fun n => n.hostIrq 3))) ∧
  (∀ (s : State) (h cell i : Nat), s.ddu.pattern = some (h, cell) → s.ddu.n.mb.rev = none → exec (.hostSetPattern i) s = .next (s.settleDdu
       ((s.ddu.on fun n => ((n.setMb { n.mb with rev := some { code := 0x1102, params := [i % 16, 0, 0, 0] ++ le 4 h, at_ := n.local } }).setB Reg.DDU_MB_OWNED 0 3 true)).on fun n => n.hostIrq 3))) ∧
  (∀ (s : State) (h : Nat), s.abl.hist.exports = [] → exec (.exportSegmentDone h) s = .next (s.settleAbl s.abl)) ∧
  (∀ (s : State) (x : ExportX) (b : List Nat), s.abl.hist.exports = [x] → x.suspendedAt = none → s.abl.n.mc.shed = none → x.left = [] → leAt x.ref 0 1 = 0 → s.abl.n.op x.handle = none →
     b = s.abl.segmentBytes x [] true →
     exec (.exportSegmentDone x.handle) s = .next (s.settleAbl ((((s.abl.on fun n => n.frameUp 0 3 .other [0x0B02, x.handle, x.segs] b).onHist fun h => { h with exports := h.exports.filter fun y => y.handle != x.handle })).on fun n =>
       n.opEnd x.handle stOk 0 [x.segs + 1, x.bytes + b.length, 0, 0]))) ∧
  (∀ (s : State) (port peer : Nat) (root : List Nat), exec (.dtlsHandshakeRx port peer root false) s = .next (s.settleAbl s.abl)) ∧
  (∀ (s : State) (port peer : Nat) (root : List Nat), port < 2 → s.abl.keyIn 2 root none = true → s.abl.guard.assocs = [] →
     exec (.dtlsHandshakeRx port peer root true) s = .next (s.settleAbl { s.abl with guard := { s.abl.guard with assocs := [(port, peer)] } }))

/-- A catalogue command that is not next to start changes nothing, and one that the common checks refuse gets the answer of the first check that fails. (17_wyique_mailbox_protocol.md R598, R599, R600, R601, R619, R620) -/
def Obligations.CatalogueChecksComplete : Prop :=
  (∀ (s : State) (c : Cmd) (i : Instr) (code : Nat), (i, code) ∈ [(Instr.stageOpen c, 0x0010), (Instr.stageWrite c, 0x0011), (Instr.stageClose c, 0x0012), (Instr.stageRead c, 0x0013),
       (Instr.stageFree c, 0x0014), (Instr.timeConfig c, 0x0101), (Instr.timeAcceptJump c, 0x0102), (Instr.snapAt c, 0x0103), (Instr.ppsConfig c, 0x0104), (Instr.setTrayBudget c, 0x0201),
       (Instr.setPowerState c, 0x0202), (Instr.setSelfLimits c, 0x0203), (Instr.setParents c, 0x0301), (Instr.returnToPrimary c, 0x0302), (Instr.setChild c, 0x0303), (Instr.setRing c, 0x0304),
       (Instr.setRole c, 0x0305), (Instr.faultClear c, 0x0401), (Instr.restoreSource c, 0x0402), (Instr.faultConfig c, 0x0403), (Instr.inject c, 0x0404), (Instr.gateFail c, 0x0405),
       (Instr.bwConfig c, 0x0501), (Instr.bwReport c, 0x0502), (Instr.bwOverride c, 0x0503), (Instr.jobStart c, 0x0601), (Instr.jobEnd c, 0x0602), (Instr.groupRegister c, 0x0603),
       (Instr.groupRelease c, 0x0604), (Instr.rankmapLoad c, 0x0605), (Instr.metLoad c, 0x0606), (Instr.uschSet c, 0x0607), (Instr.modelUnload c, 0x0702), (Instr.modelBind c, 0x0703),
       (Instr.progUnload c, 0x0802), (Instr.ctxBind c, 0x0803), (Instr.ctxUnbind c, 0x0804), (Instr.gridSweep c, 0x0805), (Instr.verdictConfig c, 0x0901), (Instr.campaignStart c, 0x0902),
       (Instr.secPolicy c, 0x0A01), (Instr.restore c, 0x0A02), (Instr.restoreLoaded c, 0x0A03), (Instr.ledgerCompact c, 0x0B01), (Instr.ledgerExport c, 0x0B02), (Instr.ledgerFormatCommit c, 0x0B03),
       (Instr.ledgerQuery c, 0x0B04), (Instr.traceExport c, 0x0C01), (Instr.traceTrigger c, 0x0C02), (Instr.profileEnable c, 0x0C03), (Instr.profileDisable c, 0x0C04), (Instr.attest c, 0x0D01),
       (Instr.debugOpen c, 0x0D03), (Instr.debugClose c, 0x0D04)] →
     (s.abl.n.pick c code = none → exec i s = .next (s.settleAbl s.abl)) ∧
     (∀ p r, s.abl.n.pick c code = some p → s.abl.n.early c = some r → exec i s = .next (replied s p s.abl r))) ∧
  (∀ (s : State) (c : Cmd) (i : Instr) (code : Nat), (i, code) ∈ [(Instr.dieIdent c, 0x1001), (Instr.dieRegWrite c, 0x1002), (Instr.dieCap c, 0x1003), (Instr.dieSlack c, 0x1004),
       (Instr.dieSuspect c, 0x1005), (Instr.dieProfile c, 0x1006), (Instr.dieSecCut c, 0x1007), (Instr.dieSecCommit c, 0x1008), (Instr.dieRepeat c, 0x100C), (Instr.dieCampaign c, 0x100D),
       (Instr.dieQuery c, 0x1201)] →
     (s.ddu.n.pick c code = none → exec i s = .next (s.settleDdu s.ddu)) ∧
     (∀ p r, s.ddu.n.pick c code = some p → s.ddu.n.early c = some r → exec i s = .next (repliedDdu s p s.ddu r)))

/-- What the general commands of the catalogue do: negotiation, fences, long operations, events and staged objects. (17_wyique_mailbox_protocol.md R604, R606, R607, R609, R613, R614, R615, R617, R618, R619) -/
def Obligations.GeneralCatalogueComplete : Prop :=
  (∀ (s : State) (dev : Dev) (c : Cmd) (p : PostedX), pathDev c.path = dev → Serving (part s dev) c 0x0001 p → (part s dev).dev = dev → c.p 0 2 = 1 → exec (.hello c) s = .next (settled s dev
       (((((part s dev).wr (negReg dev) (negIdx c.path) (281474976710656 + c.p 5 1 % 16 * 256 + 128 + pathAuthority c.path)).wr (featReg dev) (negIdx c.path) (c.p 8 32 &&& pathFeatures c.path))).answer p
         { data := le 2 1 ++ le 2 0 ++ [pathAuthority c.path, pathMailboxes c.path] ++ le 2 1984 ++ le 32 (c.p 8 32 &&& pathFeatures c.path) }))) ∧
  (∀ (s : State) (dev : Dev) (c : Cmd) (p : PostedX), pathDev c.path = dev → Serving (part s dev) c 0x0001 p → (part s dev).dev = dev → c.p 0 2 ≠ 1 → exec (.hello c) s = .next (settled s dev
       ((((part s dev).wr (negReg dev) (negIdx c.path) 0).wr (featReg dev) (negIdx c.path) 0).answer p { status := stUnsupported, data := [1, 0, 0, 0] ++ le 2 1 ++ le 2 0 }))) ∧
  (∀ (s : State) (dev : Dev) (c : Cmd) (p : PostedX), pathDev c.path = dev → Serving (part s dev) c 0x0002 p → c.p 0 1 ≤ 3 → exec (.fence c) s = .next (settled s dev ((part s dev).answer p {}))) ∧
  (∀ (s : State) (dev : Dev) (c : Cmd) (p : PostedX) (x : OpX), pathDev c.path = dev → Serving (part s dev) c 0x0003 p → (part s dev).op (c.p 0 4) = some x →
     exec (.opQuery c) s = .next (settled s dev ((part s dev).answer p { data := (part s dev).opPayload x x.state }))) ∧
  (∀ (s : State) (c : Cmd) (p : PostedX) (x : OpX) (b : Abl) (i : Instr) (code what : Nat), (i, code, what) ∈ [(Instr.opSuspend c, 0x0004, 0), (Instr.opResume c, 0x0005, 1), (Instr.opCancel c, 0x0006, 2)] →
     pathDev c.path = .abl → Serving s.abl.n c code p → s.abl.n.opEarly c what = none → s.abl.n.op (c.p 0 4) = some x → s.abl.opAct x what = (b, true) → exec i s = .next (replied s p b {})) ∧
  (∀ (s : State) (dev : Dev) (c : Cmd) (p : PostedX) (r : Ans) (i : Instr) (code what : Nat), (i, code, what) ∈ [(Instr.opSuspend c, 0x0004, 0), (Instr.opResume c, 0x0005, 1), (Instr.opCancel c, 0x0006, 2)] →
     pathDev c.path = dev → Serving (part s dev) c code p → (part s dev).opEarly c what = some r → exec i s = .next (settled s dev ((part s dev).answer p r))) ∧
  (∀ (s : State) (c : Cmd) (p : PostedX), Serving s.abl.n c 0x0007 p → c.path = 2 → exec (.eventAck c) s = .next (replied s p (s.abl.on fun n =>
       (n.setEv 2 { n.ev 2 with sent := (n.ev 2).sent.filter fun (x : Nat × Nat × Record) => decide (0 < dist32 x.1 (c.p 0 4)) }).evRefill 2) {})) ∧
  (∀ (s : State) (dev : Dev) (c : Cmd) (p : PostedX), pathDev c.path = dev → Serving (part s dev) c 0x0008 p → exec (.getInfo c) s = .next (settled s dev ((part s dev).answer p ((part s dev).getInfo c)))) ∧
  (∀ (s : State) (c : Cmd) (p : PostedX) (x : StageX) (a : Abl), Serving s.abl.n c 0x0010 p → 0 < c.p 0 8 → c.p 0 8 ≤ 268435456 → s.abl.n.mb.stages = [] →
     x = { id := s.abl.n.mb.nextStage, addr := Config.objectAddr s.abl.n.mb.nextStage (c.p 0 8), len := c.p 0 8, touched := s.abl.n.local } →
     a = (s.abl.on fun n => (n.setMb { n.mb with nextStage := (s.abl.n.mb.nextStage + 1) % 4294967296 }).putStage x) →
     exec (.stageOpen c) s = .next (replied s p ((a.grantOpen x.addr x.len c.jobtag true).domDemand 4) { data := le 4 x.id })) ∧
  (∀ (s : State) (c : Cmd) (p : PostedX) (x : StageX), Serving s.abl.n c 0x0011 p → c.params.drop 16 ≠ [] → s.abl.n.stage (c.p 0 4) = some x → x.closed = false → c.p 8 8 + (c.params.drop 16).length ≤ x.len →
     exec (.stageWrite c) s = .next (replied s p { (s.abl.on fun n => n.putStage x) with out := s.abl.out ++ [(x.addr + c.p 8 8, c.params.drop 16)] } {})) ∧
  (∀ (s : State) (c : Cmd) (p : PostedX) (x : StageX), Serving s.abl.n c 0x0012 p → s.abl.n.stage (c.p 0 4) = some x → crc32c (stagedBytes s x) = c.p 4 4 →
     exec (.stageClose c) s = .next (replied s p (s.abl.on fun n => n.putStage { x with closed := true }) {})) ∧
  (∀ (s : State) (c : Cmd) (p : PostedX) (x : StageX), Serving s.abl.n c 0x0012 p → s.abl.n.stage (c.p 0 4) = some x → crc32c (stagedBytes s x) ≠ c.p 4 4 →
     exec (.stageClose c) s = .next (replied s p (s.abl.on fun n => n.putStage x) (Ans.of stBad))) ∧
  (∀ (s : State) (c : Cmd) (p : PostedX) (x : StageX), Serving s.abl.n c 0x0013 p → 0 < c.p 16 4 → c.p 16 4 ≤ 1984 → s.abl.n.stage (c.p 0 4) = some x → c.p 8 8 + c.p 16 4 ≤ x.len →
     exec (.stageRead c) s = .next (replied s p (s.abl.on fun n => n.putStage x) { data := ((stagedBytes s x).drop (c.p 8 8)).take (c.p 16 4) })) ∧
  (∀ (s : State) (c : Cmd) (p : PostedX) (x : StageX), Serving s.abl.n c 0x0014 p → s.abl.n.stage (c.p 0 4) = some x → exec (.stageFree c) s = .next (replied s p (s.abl.stageFree x) {})) ∧
  (∀ (s : State) (c : Cmd) (p : PostedX), s.abl.n.mb.stages = [] → c.p 16 4 ≠ 0 → c.params.drop 16 ≠ [] →
     (Serving s.abl.n c 0x0011 p → exec (.stageWrite c) s = .next (replied s p s.abl (Ans.of stBad))) ∧ (Serving s.abl.n c 0x0012 p → exec (.stageClose c) s = .next (replied s p s.abl (Ans.of stBad))) ∧
     (Serving s.abl.n c 0x0013 p → exec (.stageRead c) s = .next (replied s p s.abl (Ans.of stBad))) ∧ (Serving s.abl.n c 0x0014 p → exec (.stageFree c) s = .next (replied s p s.abl (Ans.of stBad))))

/-- What the catalogue commands of time, power, tree, faults and the governor do. (05_timekeeping.md R169, R174, R177, R182; 15_power_and_thermal.md R538, R545, R564; 01_fleet_integrity_model.md R30, R36; 07_reduction_tree.md R255; 08_jobs_sync_objects_ordering.md R279; 12_state_securing.md R431; 20_reset_pins_electrical.md R676; 13_faults_isolation_governor.md R469, R471, R476, R480, R482, R483, R489) -/
def Obligations.ControlCatalogueComplete : Prop :=
  (∀ (s : State) (c : Cmd) (p : PostedX), Serving s.abl.n c 0x0101 p → bits (c.p 0 4) 27 3 < 2 → exec (.timeConfig c) s = .next (replied s p (s.abl.on fun n =>
       { (n.softWrite (Reg.TIME_CTRL .abl) 0 (ones 32) (c.p 0 4)).wr (Reg.TIME_ASYM .abl) 0 (c.p 4 4) with timex := { ((n.softWrite (Reg.TIME_CTRL .abl) 0 (ones 32) (c.p 0 4)).wr (Reg.TIME_ASYM .abl) 0 (c.p 4 4)).timex with ptpDomain := c.p 8 1 } }) {})) ∧
  (∀ (s : State) (c : Cmd) (p : PostedX), Serving s.abl.n c 0x0102 p → s.abl.n.timeState = 3 → exec (.timeAcceptJump c) s = .next (replied s p (s.abl.on Node.acceptJump) {})) ∧
  (∀ (s : State) (c : Cmd) (p : PostedX), Serving s.abl.n c 0x0102 p → s.abl.n.timeState ≠ 3 → exec (.timeAcceptJump c) s = .next (replied s p s.abl (Ans.of stBad))) ∧
  (∀ (s : State) (c : Cmd) (p : PostedX) (key : Nat) (a : Abl), Serving s.abl.n c 0x0103 p → s.abl.n.tideline < c.p 0 8 → c.p 0 8 < s.abl.n.tideline + 2147483648 → s.abl.n.timex.launch.length < 32 → key = 1048576 + c.p 8 4 →
     a = (s.abl.on fun n => { n with timex := { n.timex with frames := bindKey n.timex.frames key (.frame .snapAt [c.p 8 4] []) } }) →
     exec (.snapAt c) s = .next (replied s p (a.on fun n => n.launchEnqueue { target := c.p 0 8 % 4294967296, ports := c.p 12 4 % 67108864, frame := key, comp := true }) {})) ∧
  (∀ (s : State) (c : Cmd) (p : PostedX), Serving s.abl.n c 0x0104 p → c.p 4 2 ≤ 1023 → exec (.ppsConfig c) s = .next (replied s p (s.abl.on fun n => (n.ppsNext (c.p 0 4)).wr Reg.ABL_PPS_WIDTH_US 0 (c.p 4 2)) {})) ∧
  (∀ (s : State) (c : Cmd) (p : PostedX), Serving s.abl.n c 0x0201 p → c.p 2 2 ≤ c.p 0 2 → exec (.setTrayBudget c) s = .next (replied s p (s.abl.on fun n =>
       n.wr Reg.ABL_PWR_BUDGET 0 (9223372036854775808 + c.p 4 2 * 4294967296 + c.p 2 2 * 65536 + c.p 0 2)) {})) ∧
  (∀ (s : State) (c : Cmd) (p : PostedX), Serving s.abl.n c 0x0201 p → c.p 0 2 < c.p 2 2 → exec (.setTrayBudget c) s = .next (replied s p s.abl (Ans.of stBad))) ∧
  (∀ (s : State) (c : Cmd) (p : PostedX), Serving s.abl.n c 0x0202 p → c.p 0 1 = 0 → s.abl.slackOk = true → s.abl.n.pwrState ≠ 3 → exec (.setPowerState c) s = .next (replied s p
       (s.abl.on fun n => (n.softWrite Reg.ABL_PWR_WAKE_EN 0 (ones 32) (c.p 4 4)).wr Reg.ABL_PWR_WAKE_AT 0 (c.p 8 4)).slackEnter {})) ∧
  (∀ (s : State) (c : Cmd) (p : PostedX), Serving s.abl.n c 0x0202 p → c.p 0 1 = 0 → s.abl.slackOk = false → exec (.setPowerState c) s = .next (replied s p s.abl (Ans.busy 10000))) ∧
  (∀ (s : State) (c : Cmd) (p : PostedX), Serving s.abl.n c 0x0203 p → exec (.setSelfLimits c) s = .next (replied s p (s.abl.on fun n => (n.wr Reg.ABL_PWR_SELF_CAP_W 0 (c.p 0 2)).setFld Reg.ABL_PWR_TLIM 0 0 16 (c.p 2 2)) {})) ∧
  (∀ (s : State) (c : Cmd) (p : PostedX) (x y : Nat), Serving s.abl.n c 0x0301 p → x = c.p 0 4 % 1048576 → y = c.p 4 4 % 1048576 → x ≠ y → bits x 17 3 = bits y 17 3 →
     exec (.setParents c) s = .next (replied s p (s.abl.on fun n => { n with parent := { n.parent with primary := x, alternate := y } }) {})) ∧
  (∀ (s : State) (c : Cmd) (p : PostedX), Serving s.abl.n c 0x0302 p → exec (.returnToPrimary c) s = .next (replied s p (if s.abl.n.primaryUp = true then s.abl.returnPrimary else s.abl)
       (if s.abl.n.primaryUp = true then {} else c.later s.abl.n))) ∧
  (∀ (s : State) (c : Cmd) (p : PostedX), Serving s.abl.n c 0x0303 p → c.p 0 1 < 32 → exec (.setChild c) s = .next (replied s p (s.abl.childWrite (c.p 0 1) (ones 128) (c.p 8 16)) {})) ∧
  (∀ (s : State) (c : Cmd) (p : PostedX) (a : Abl), Serving s.abl.n c 0x0304 p → (s.abl.ringWrite (c.p 0 16) = (a, true) → exec (.setRing c) s = .next (replied s p a {})) ∧
       (s.abl.ringWrite (c.p 0 16) = (a, false) → exec (.setRing c) s = .next (replied s p a (Ans.of stBad)))) ∧
  (∀ (s : State) (c : Cmd) (p : PostedX), Serving s.abl.n c 0x0305 p → (∀ k, k < 24 → s.abl.n.portState k = 0) → s.abl.n.fld Reg.ABL_NODE 0 26 2 = 2 → c.p 0 1 = 2 ∨ c.p 0 1 = 3 →
     exec (.setRole c) s = .next (replied s p (s.abl.on fun n => (List.range 24).foldl (fun n k => (n.portView k).portCtrl k) (n.setFld Reg.ABL_NODE 0 28 3 (c.p 0 1))) {})) ∧
  (∀ (s : State) (c : Cmd) (p : PostedX), c.p 2 1 = 0xFF → reservedSrc .abl (c.p 0 2) = false →
     (Serving s.abl.n c 0x0401 p → exec (.faultClear c) s = .next (replied s p (s.abl.on fun n => n.faultClear (c.p 0 2)) {})) ∧
     (Serving s.abl.n c 0x0403 p → exec (.faultConfig c) s = .next (replied s p (s.abl.on fun n => n.softWrite Reg.ABL_FLT_CFG (c.p 0 2) (ones 32) (c.p 4 4)) {})) ∧
     (Serving s.abl.n c 0x0404 p → s.abl.n.arrBit Reg.ABL_FLT_ISO (c.p 0 2) = false → exec (.inject c) s = .next (replied s p (s.abl.on fun n =>
       n.injWrite (c.p 0 2 % 1024 * 281474976710656 + c.p 6 1 % 2 * 4294967296 + c.p 4 2)) {})) ∧
     (Serving s.abl.n c 0x0402 p → s.abl.n.arrBit Reg.ABL_FLT_ISO (c.p 0 2) = false → exec (.restoreSource c) s = .next (replied s p s.abl {})) ∧
     (Serving s.abl.n c 0x0402 p → s.abl.n.arrBit Reg.ABL_FLT_ISO (c.p 0 2) = true → 295 < c.p 0 2 → exec (.restoreSource c) s = .next (replied s p
       (((s.abl.on fun n => n.restore (c.p 0 2) 255).sourceBack (c.p 0 2) 255).dropSource (c.p 0 2) 255) {}))) ∧
  (∀ (s : State) (c : Cmd) (p : PostedX), Serving s.abl.n c 0x0401 p → c.p 2 1 < 16 → s.abl.n.childValid (c.p 2 1) = true →
     exec (.faultClear c) s = .next (replied s p (s.abl.on fun n => n.dieCmd (c.p 2 1) 0x1009 ([1, 0] ++ le 2 (c.p 0 2) ++ zeros 8)) {})) ∧
  (∀ (s : State) (c : Cmd) (p : PostedX), Serving s.abl.n c 0x0405 p → s.abl.n.groupOf c.jobtag (c.p 0 2) = none → exec (.gateFail c) s = .next (replied s p s.abl (Ans.of stBad))) ∧
  (∀ (s : State) (c : Cmd) (p : PostedX) (g h : Nat), Serving s.abl.n c 0x0405 p → s.abl.n.groupOf c.jobtag (c.p 0 2) = some g → s.abl.n.fld Reg.ABL_GROUP g 160 32 = 0 → h = s.abl.n.fld Reg.ABL_GROUP g 128 32 → h ≠ 0 →
     (s.abl.n.obj ((h + c.p 4 4 % 2) % 8192)).st = 1 → (s.abl.n.obj ((h + c.p 4 4 % 2) % 8192)).failed = false →
     exec (.gateFail c) s = .next (replied s p (s.abl.on fun n => n.fwSync 4 { jobtag := c.jobtag, handle := h + c.p 4 4 % 2, attempt := c.p 8 1, group := c.p 0 2, epoch := c.p 4 4 })
       (Ans.of ((s.abl.n.fwSync 4 { jobtag := c.jobtag, handle := h + c.p 4 4 % 2, attempt := c.p 8 1, group := c.p 0 2, epoch := c.p 4 4 }).fld Reg.ABL_SYNC_STATUS 0 16 16)))) ∧
  (∀ (s : State) (c : Cmd) (p : PostedX), (Serving s.abl.n c 0x0501 p → exec (.bwConfig c) s = .next (replied s p
         ({ s.abl with gov := { s.abl.gov with pool := c.p 0 4, cap := c.p 4 2, spares := c.p 6 2 } } : Abl).bwRun.bwKeep {})) ∧
       (Serving s.abl.n c 0x0502 p → 1 ≤ c.p 4 1 → c.p 4 1 ≤ 4 → exec (.bwReport c) s = .next (replied s p (s.abl.bwReport (c.p 0 4) (c.p 4 1)) {})) ∧
       (∀ b, Serving s.abl.n c 0x0503 p → c.p 4 1 = 1 ∨ c.p 4 1 = 2 → s.abl.bwOverride (c.p 0 4) (c.p 4 1) = some b → exec (.bwOverride c) s = .next (replied s p b {})) ∧
       (Serving s.abl.n c 0x0503 p → s.abl.gov.items = [] → exec (.bwOverride c) s = .next (replied s p s.abl (Ans.of stBad))))

/-- What the catalogue commands of jobs, groups, models, programs and contexts do. (08_jobs_sync_objects_ordering.md R261, R264, R265, R266; 07_reduction_tree.md R229, R244, R252; 09_tree_engine.md R313, R317, R319; 10_replay_grid.md R361, R362, R363, R364; 17_wyique_mailbox_protocol.md R615, R619) -/
def Obligations.JobCatalogueComplete : Prop :=
  (∀ (s : State) (c : Cmd) (p : PostedX) (m : FanMsg) (b : Abl) (i : Nat), Serving s.abl.n c 0x0601 p → c.p 8 2 = 1 → 28 ≤ c.params.length → c.p 16 4 ≤ c.p 20 4 → c.p 20 4 < 131072 →
     (List.range 63).any (fun j => decide (1 ≤ j) && s.abl.n.fld Reg.ABL_JOB j 125 3 == 0) = true →
     startMsgs c.jobtag (c.p 0 4) (c.p 4 4) [(c.p 16 4, c.p 20 4, c.p 24 4)] = [m] → 1 ≤ s.abl.freeBufs → s.abl.originate { m with seq := s.abl.fanSeq m.jobtag } = (b, some i) →
     exec (.jobStart c) s = .next (replied s p b { wait := some (bufKey i) })) ∧
  (∀ (s : State) (c : Cmd) (p : PostedX) (m : FanMsg) (b : Abl) (i : Nat), Serving s.abl.n c 0x0602 p → c.p 0 1 ≤ 2 → c.jobtag ≠ 0 → s.abl.jobRanges c.jobtag ≠ [] → (s.abl.jobRanges c.jobtag).length ≤ 32 → 1 ≤ s.abl.freeBufs →
     m = { jobtag := c.jobtag, seq := s.abl.fanSeq c.jobtag, kind := 2, deadline := 0, ranges := s.abl.jobRanges c.jobtag, body := le 4 (c.p 0 1) ++ zeros 4 } → s.abl.originate m = (b, some i) →
     exec (.jobEnd c) s = .next (replied s p b { wait := some (bufKey i) })) ∧
  (∀ (s : State) (c : Cmd) (p : PostedX) (m : FanMsg) (b : Abl) (i : Nat), Serving s.abl.n c 0x0603 p → 0 < c.p 0 2 → c.p 0 2 < 0xFFFE → c.jobtag ≠ 0 → c.p 4 2 = 1 → 16 ≤ c.params.length → c.p 8 4 ≤ c.p 12 4 → c.p 12 4 < 131072 →
     bit (c.p 2 2) 0 = false → 1 ≤ s.abl.freeBufs →
     m = { jobtag := c.jobtag, seq := s.abl.fanSeq c.jobtag, kind := 3, deadline := 0, ranges := [(c.p 8 4, c.p 12 4)], body := le 2 (c.p 0 2) ++ le 2 (c.p 2 2) ++ le 4 0 ++ zeros 8 } → s.abl.originate m = (b, some i) →
     exec (.groupRegister c) s = .next (replied s p b { wait := some (bufKey i) })) ∧
  (∀ (s : State) (c : Cmd) (p : PostedX) (g : Nat), Serving s.abl.n c 0x0604 p → s.abl.n.groupOf c.jobtag (c.p 0 2) = some g → 1 ≤ s.abl.freeBufs → s.abl.n.fld Reg.ABL_GROUP g 160 32 = 0 →
     exec (.groupRelease c) s = .next (replied s p (s.abl.originate { jobtag := c.jobtag, seq := s.abl.fanSeq c.jobtag, kind := 4, deadline := 0, ranges := lookupD s.abl.groupRanges g [], body := le 2 (c.p 0 2) ++ zeros 6 }).1 {})) ∧
  (∀ (s : State) (c : Cmd) (p : PostedX), Serving s.abl.n c 0x0605 p → c.p 0 2 = 1 → 24 ≤ c.params.length → (∀ i, i < 1024 → s.abl.n.bit Reg.ABL_RANKMAP i 127 = false) → bit (c.p 8 16) 127 = true →
     bits (c.p 8 16) 112 6 ≠ 0 → bits (c.p 8 16) 112 6 ≠ 63 → s.abl.n.fld Reg.ABL_JOB (bits (c.p 8 16) 112 6) 125 3 ≠ 0 →
     exec (.rankmapLoad c) s = .next (replied s p (s.abl.on fun n => n.softWrite Reg.ABL_RANKMAP 0 (ones 128) (c.p 8 16)) {})) ∧
  (∀ (s : State) (c : Cmd) (p : PostedX) (a : Abl), Serving s.abl.n c 0x0606 p → c.p 0 2 < 4096 → (s.abl.metSet (c.p 0 2) (c.p 8 16) = (a, true) → exec (.metLoad c) s = .next (replied s p a {})) ∧
       (s.abl.metSet (c.p 0 2) (c.p 8 16) = (a, false) → exec (.metLoad c) s = .next (replied s p a (Ans.of stRefused)))) ∧
  (∀ (s : State) (c : Cmd) (p : PostedX), Serving s.abl.n c 0x0607 p → c.p 0 1 < 8 → (Config.uschPort (c.p 0 1) (c.p 8 8) = true → exec (.uschSet c) s = .next (replied s p (s.abl.on fun n => n.softWrite Reg.ABL_USCH_PORT (c.p 0 1) (ones 64) (c.p 8 8)) {})) ∧
       (Config.uschPort (c.p 0 1) (c.p 8 8) = false → exec (.uschSet c) s = .next (replied s p (s.abl.on fun n => n.uschJob (c.p 0 1) (c.p 8 8)) {}))) ∧
  (∀ (s : State) (c : Cmd) (p : PostedX) (host : Option (List Nat)) (b : List Nat) (x : Option StageX) (a : Abl), c.p 0 1 < 64 → s.abl.refBytes c.path ((c.params.drop 8).take 24) host (stagedBytes s) = .ok (b, x) →
     (Serving s.abl.n c 0x0701 p → s.abl.modelLoad (c.p 0 1) b b.length = (a, none) → exec (.modelLoad c host) s = .next (replied s p a { wait := some (0x0701 * 2 ^ 32 + c.p 0 1) })) ∧
     (∀ st, Serving s.abl.n c 0x0701 p → s.abl.modelLoad (c.p 0 1) b b.length = (a, some st) → exec (.modelLoad c host) s = .next (replied s p a (Ans.of st))) ∧
     (Serving s.abl.n c 0x0801 p → s.abl.progLoad (c.p 0 1) b b.length = (a, none) → exec (.progLoad c host) s = .next (replied s p a { wait := some (0x0801 * 2 ^ 32 + c.p 0 1) })) ∧
     (∀ st, Serving s.abl.n c 0x0801 p → s.abl.progLoad (c.p 0 1) b b.length = (a, some st) → exec (.progLoad c host) s = .next (replied s p a (Ans.of st)))) ∧
  (∀ (s : State) (c : Cmd) (p : PostedX) (host : Option (List Nat)) (st : Nat), c.p 0 1 < 64 → s.abl.refBytes c.path ((c.params.drop 8).take 24) host (stagedBytes s) = .error st →
     (Serving s.abl.n c 0x0701 p → exec (.modelLoad c host) s = .next (replied s p s.abl (Ans.of st))) ∧ (Serving s.abl.n c 0x0801 p → exec (.progLoad c host) s = .next (replied s p s.abl (Ans.of st)))) ∧
  (∀ (s : State) (c : Cmd) (p : PostedX) (a : Abl), c.p 0 1 < 32 →
     (Serving s.abl.n c 0x0702 p → s.abl.modelUnload (c.p 0 1) = (a, none) → exec (.modelUnload c) s = .next (replied s p a { wait := some (0x0702 * 2 ^ 32 + c.p 0 1) })) ∧
     (Serving s.abl.n c 0x0703 p → exec (.modelBind c) s = .next (replied s p (s.abl.bindWrite (c.p 0 1) (c.p 8 16)).1 (Ans.of (s.abl.bindWrite (c.p 0 1) (c.p 8 16)).2))) ∧
     (Serving s.abl.n c 0x0802 p → s.abl.progUnload (c.p 0 1) = (a, none) → exec (.progUnload c) s = .next (replied s p a { wait := some (0x0802 * 2 ^ 32 + c.p 0 1) })) ∧
     (Serving s.abl.n c 0x0803 p → c.p 2 1 < 64 → s.abl.ctxBind (c.p 0 1) (c.p 1 1) (c.p 2 1) (c.p 4 2) (c.p 6 2) c.jobtag = (a, 0) → exec (.ctxBind c) s = .next (replied s p a (Ans.of 0))) ∧
     (Serving s.abl.n c 0x0804 p → s.abl.ctxUnbind (c.p 0 1) = (a, none) → exec (.ctxUnbind c) s = .next (replied s p a { wait := some (0x0804 * 2 ^ 32 + c.p 0 1) }))) ∧
  (∀ (s : State) (c : Cmd) (p : PostedX) (a : Abl) (h : Nat), Serving s.abl.n c 0x0805 p → s.abl.sweepStart c.path (c.p 0 1) = (a, 0, h) → exec (.gridSweep c) s = .next (replied s p a { handle := h }))

/-- What the catalogue commands of verdicts, securing, the ledger and traces do. (11_verdicts_and_silent_errors.md R411, R420, R421; 12_state_securing.md R429, R430, R441; 14_health_ledger.md R517, R526, R527; 04_trace_and_event_records.md R138, R139; 17_wyique_mailbox_protocol.md R618, R619) -/
def Obligations.RecordCatalogueComplete : Prop :=
  (∀ (s : State) (c : Cmd) (p : PostedX), Serving s.abl.n c 0x0901 p → exec (.verdictConfig c) s = .next (replied s p (s.abl.on fun n =>
       (((n.softWrite Reg.ABL_VER_CTRL 0 (ones 32) (c.p 0 4)).softWrite Reg.ABL_VER_WAIT_US 0 (ones 32) (c.p 4 4)).softWrite Reg.ABL_VER_HIST_CFG 0 (ones 32) (c.p 8 4)).softWrite Reg.ABL_VER_OBS_CFG 0 (ones 32) (c.p 12 4)) {})) ∧
  (∀ (s : State) (c : Cmd) (p : PostedX) (a : Abl) (h : Nat), (Serving s.abl.n c 0x0902 p → s.abl.campStart c.path c.jobtag c.params = (a, 0, h) → exec (.campaignStart c) s = .next (replied s p a { handle := h })) ∧
       (Serving s.abl.n c 0x0A02 p → s.abl.restoreStart c.path c.jobtag c.params = (a, 0, h) → exec (.restore c) s = .next (replied s p a { handle := h })) ∧
       (Serving s.abl.n c 0x0A02 p → s.abl.restoreStart c.path c.jobtag c.params = (a, stBad, h) → exec (.restore c) s = .next (replied s p a { status := stBad, handle := h })) ∧
       (Serving s.abl.n c 0x0A03 p → exec (.restoreLoaded c) s = .next (replied s p (s.abl.restoreLoaded (c.p 0 4) (c.p 4 4) (c.p 8 1)).1 (Ans.of (s.abl.restoreLoaded (c.p 0 4) (c.p 4 4) (c.p 8 1)).2)))) ∧
  (∀ (s : State) (c : Cmd) (p : PostedX), Serving s.abl.n c 0x0A01 p → c.jobtag ≠ 0 → exec (.secPolicy c) s = .next (replied s p
       ((s.abl.putRoot { s.abl.root c.jobtag with policy := (List.range 240).map fun t => bits (c.p (t / 4) 1) (2 * (t % 4)) 2, compress := bit (c.p 60 1) 0 }).on fun n =>
         (((n.setB Reg.ABL_SEC_CTRL 0 1 (bit (c.p 60 1) 0)).policyWrite (c.p 64 4)).wr Reg.ABL_SEC_CUT_MIN_MS 0 (c.p 68 4)).wr Reg.ABL_SEC_PASS_LIMIT_MS 0 (c.p 72 4)) {})) ∧
  (∀ (s : State) (c : Cmd) (p : PostedX) (x : PassX), Serving s.abl.n c 0x0B01 p → s.abl.hist.pass = some x → exec (.ledgerCompact c) s = .next (replied s p s.abl (c.later s.abl.n))) ∧
  (∀ (s : State) (c : Cmd) (p : PostedX) (n : Node) (h : Nat) (o : OpX), Serving s.abl.n c 0x0B01 p → s.abl.hist.pass = none → s.abl.hist.passDue = none → s.abl.n.opStart 4 c.path 0 = (some h, n) → n.op h = some o →
     exec (.ledgerCompact c) s = .next (replied s p ((({ s.abl with n := n.opNote o 0 } : Abl).onHist fun x => { x with passDue := some h }).compactStart) { handle := h })) ∧
  (∀ (s : State) (c : Cmd) (p : PostedX), Serving s.abl.n c 0x0B02 p → leAt ((c.params.drop 24).take 24) 0 1 = 1 → exec (.ledgerExport c) s = .next (replied s p s.abl (Ans.of stBad))) ∧
  (∀ (s : State) (c : Cmd) (p : PostedX) (n : Node) (h : Nat) (o : OpX) (x : ExportX), Serving s.abl.n c 0x0B02 p → leAt c.params 0 1 = 0 → leAt c.params 16 2 = 0 → leAt ((c.params.drop 24).take 24) 0 1 = 0 →
     s.abl.n.opStart 5 c.path c.jobtag = (some h, n) → n.op h = some o → s.abl.hist.log = [] →
     x = { handle := h, num := s.abl.hist.nextExport, scope := [0, leAt c.params 8 8, 0], ref := (c.params.drop 24).take 24, left := (Config.exportCheckpoint s.abl.hist.ckptJseq [0, leAt c.params 8 8, 0]).map (fun b => (s.abl.hist.ckptJseq, b)) } →
     exec (.ledgerExport c) s = .next (replied s p (({ s.abl with n := n.opNote o 0 } : Abl).onHist fun h => { h with exports := x :: h.exports, nextExport := h.nextExport + 1 }) { handle := h })) ∧
  (∀ (s : State) (c : Cmd) (p : PostedX), (Serving s.abl.n c 0x0B03 p → s.abl.hist.probation = 0 → exec (.ledgerFormatCommit c) s = .next (replied s p s.abl {})) ∧
       (Serving s.abl.n c 0x0B03 p → s.abl.hist.probation ≠ 0 → exec (.ledgerFormatCommit c) s = .next (replied s p s.abl.probationEnd {})) ∧
       (Serving s.abl.n c 0x0B04 p → exec (.ledgerQuery c) s = .next (replied s p s.abl (s.abl.ledgerQuery c.params)))) ∧
  (∀ (s : State) (c : Cmd) (p : PostedX) (n : Node) (h : Nat) (o : OpX) (x : TraceOut), Serving s.abl.n c 0x0C01 p → leAt c.params 0 1 < 16 → s.abl.n.childValid (leAt c.params 0 1) = true → leAt ((c.params.drop 8).take 24) 0 1 = 0 →
     s.abl.traces = [] → s.abl.n.opStart 6 c.path c.jobtag = (some h, n) → n.op h = some o → x = { handle := h, port := leAt c.params 0 1, ref := (c.params.drop 8).take 24 } →
     exec (.traceExport c) s = .next (replied s p (({ s.abl with n := n.opNote o 0, traces := [x] } : Abl).on fun n => n.dieCmd (leAt c.params 0 1) 0x100B (2 :: le 4 h)) { handle := h })) ∧
  (∀ (s : State) (c : Cmd) (p : PostedX), Serving s.abl.n c 0x0C02 p → c.p 0 1 < 16 → s.abl.n.childValid (c.p 0 1) = true → exec (.traceTrigger c) s = .next (replied s p (s.abl.on fun n => n.dieCmd (c.p 0 1) 0x100B [1]) {}))

/-- What the catalogue commands of profiling, attestation, debug sessions, the lifecycle, keys and firmware do. (19_security_and_debug.md R645, R646, R647, R648, R651, R654, R656, R659, R661, R664, R665; 03_counters_and_sensors.md R92) -/
def Obligations.SecurityCatalogueComplete : Prop :=
  (∀ (s : State) (c : Cmd) (p : PostedX) (con : Option ConsentX), Serving s.abl.n c 0x0C03 p → leAt c.params 2 1 = 8 → s.abl.profileMay c = some con →
     exec (.profileEnable c) s = .next (replied s p { (s.abl.on fun n => n.setB Reg.ABL_PERF_CTRL 0 0 true) with guard := { s.abl.guard with consents := con.toList ++ s.abl.guard.consents } } {})) ∧
  (∀ (s : State) (c : Cmd) (p : PostedX), Serving s.abl.n c 0x0C03 p → 1 ≤ leAt c.params 2 1 → leAt c.params 2 1 < 16 → s.abl.profileMay c = none → exec (.profileEnable c) s = .next (replied s p s.abl (Ans.of stNotPermitted))) ∧
  (∀ (s : State) (c : Cmd) (p : PostedX), Serving s.abl.n c 0x0C04 p → exec (.profileDisable c) s = .next (replied s p (s.abl.profileDisable (c.p 0 2)) {})) ∧
  (∀ (s : State) (c : Cmd) (p : PostedX), Serving s.abl.n c 0x0D01 p → leAt c.params 32 1 = 255 → leAt c.params 33 1 = 0 → exec (.attest c) s = .next (replied s p s.abl
       { data := coseSign1 (le 8 Config.signKid) (s.abl.report (c.params.take 32) 255) (Config.es384 (coseSigInput (s.abl.report (c.params.take 32) 255))) })) ∧
  (∀ (s : State) (c : Cmd) (p : PostedX), Serving s.abl.n c 0x0D01 p → 3 ≤ leAt c.params 33 1 → exec (.attest c) s = .next (replied s p s.abl (Ans.of stBad))) ∧
  (∀ (s : State) (c : Cmd) (p : PostedX) (b : List Nat), Serving s.abl.n c 0x0D02 p →
     b = le 8 (s.abl.n.rd Reg.ABL_SERIAL) ++ padTo 32 (Config.nonce s.free) ++ le 4 (s.abl.n.rd Reg.ABL_DBG_SESSIONS + 1) ++ le 4 s.abl.n.now →
     exec (.debugChallenge c) s = .next (replied { s with free := s.free + 1 } p { s.abl with guard := { s.abl.guard with challenge := some (b, s.abl.n.local) } } { data := b })) ∧
  (∀ (s : State) (c : Cmd) (p : PostedX), Serving s.abl.n c 0x0D03 p → s.abl.fused ≠ 1 → exec (.debugOpen c) s = .next (replied s p s.abl (Ans.of stNotPermitted))) ∧
  (∀ (s : State) (c : Cmd) (p : PostedX) (ch : List Nat) (x : Cose) (grant dies dur tag : Nat) (a : Abl), Serving s.abl.n c 0x0D03 p → s.abl.fused = 1 → s.abl.n.pwrState ≠ 3 → s.abl.sessionOpen = false →
     s.abl.challenge = some ch → coseRead c.params = some x → s.abl.signedBy 0 7 x [] none = true → x.num 1 = some (s.abl.n.rd Reg.ABL_SERIAL) → x.str 2 = some ((ch.drop 8).take 32) →
     x.num 3 = some grant → x.num 5 = some dies → x.num 6 = some dur → x.num 4 = some tag → grant < 128 → dies < 65536 → 0 < dur → dur ≤ 28800 →
     a = (({ s.abl with guard := { s.abl.guard with challenge := none, session := some (s.abl.n.local, (List.range 6).map fun k => s.abl.n.rd Reg.ABL_MC_WDOG_CFG k) } } : Abl).on fun n =>
       ((((n.wr Reg.ABL_DBG_CTRL 0 (2147483648 + grant)).wr Reg.ABL_DBG_EXPIRE 0 ((s.abl.n.seconds + dur) % 4294967296)).wr Reg.ABL_DBG_JOBTAG 0 tag).wr Reg.ABL_DBG_DIES 0 dies).wr Reg.ABL_DBG_SESSIONS 0 (s.abl.n.rd Reg.ABL_DBG_SESSIONS + 1)) →
     exec (.debugOpen c) s = .next (replied s p ((((a.setLc 2).mrExtend 4 (sha384 c.params)).dieGrant dies (2147483648 + (grant &&& 0x30)) ((s.abl.n.seconds + dur) % 4294967296)).secRec 0x0001
       (le 2 grant ++ le 2 dies ++ le 4 (s.abl.n.rd Reg.ABL_DBG_SESSIONS + 1))) {})) ∧
  (∀ (s : State) (c : Cmd) (p : PostedX), Serving s.abl.n c 0x0D04 p → exec (.debugClose c) s = .next (replied s p (s.abl.sessionEnd 1) {})) ∧
  (∀ (s : State) (c : Cmd) (p : PostedX) (i : Instr) (op : Nat), Serving s.abl.n c 0x0D05 p → c.code = 0x0D05 → c.p 0 1 = op → op ≤ 3 → s.abl.lcBusy = true →
     (i, op) ∈ [(Instr.lifecycleSecure c, 1), (Instr.lifecycleRma c, 2), (Instr.lifecycleDecommission c, 3)] → exec i s = .next (replied s p s.abl { status := stBusy, hint := 10000 })) ∧
  (∀ (s : State) (c : Cmd) (p : PostedX), c.code = 0x0D05 → c.p 1 1 = 255 → s.abl.lcBusy = false → s.abl.hist.pwrFail = false →
     (Serving s.abl.n c 0x0D05 p → c.p 0 1 = 1 → exec (.lifecycleSecure c) s = .next (replied s p (s.abl.lcSecure c.params).1 (s.abl.lcSecure c.params).2)) ∧
     (Serving s.abl.n c 0x0D05 p → c.p 0 1 = 2 → s.abl.fused = 1 → Config.rmaToken (c.params.drop 52) = true → exec (.lifecycleRma c) s = .next (replied s p
       ((((({ (s.abl.sessionEnd 5).erase with guard := { (s.abl.sessionEnd 5).erase.guard with keysOff := true } } : Abl).fuse 3).mrExtend 4 (Config.lifecycleDigest 2 255 c.params)).lcRec 2 255 1 3)) {})) ∧
     (Serving s.abl.n c 0x0D05 p → c.p 0 1 = 3 → exec (.lifecycleDecommission c) s = .next (replied s p
       ((((s.abl.sessionEnd 5).seal.retirePart.mrExtend 4 (Config.lifecycleDigest 3 255 c.params)).lcRec 3 255 s.abl.fused 4)) {})) ∧
     (Serving s.abl.n c 0x0D05 p → c.p 0 1 = 4 → exec (.keyAdd c) s = .next (replied s p (s.abl.keyAdd c.params).1 (s.abl.keyAdd c.params).2)) ∧
     (Serving s.abl.n c 0x0D05 p → c.p 0 1 = 5 → exec (.keyRevoke c) s = .next (replied s p (s.abl.keyRevoke c.params).1 (s.abl.keyRevoke c.params).2))) ∧
  (∀ (s : State) (c : Cmd) (p : PostedX) (k : Nat) (x : Cose) (a : Abl), Serving s.abl.n c 0x0D05 p → c.code = 0x0D05 → c.p 1 1 = 255 → c.p 0 1 = 4 → leAt c.params 2 1 < 3 → leAt c.params 3 1 < 4 →
     k = 4 * leAt c.params 2 1 + leAt c.params 3 1 → 52 ≤ c.params.length → s.abl.keySlot k = [] → coseRead (c.params.drop 52) = some x → s.abl.signedBy (leAt c.params 2 1) 7 x (c.params.take 52) (some k) = true →
     a = { s.abl with guard := { s.abl.guard with keys := bindKey s.abl.guard.keys k ((c.params.drop 4).take 48) } } →
     exec (.keyAdd c) s = .next (replied s p ((a.mrExtend 4 (Config.lifecycleDigest 4 255 c.params)).lcRec 4 255 s.abl.n.lifecycle s.abl.n.lifecycle) {})) ∧
  (∀ (s : State) (c : Cmd) (p : PostedX) (host : Option (List Nat)) (x : FwX), c.code = 0x0E01 → s.abl.guard.update = some x →
     (Serving s.abl.n c 0x0E01 p → c.p 0 1 < 3 → exec (.fwUpdate c host) s = .next (replied s p s.abl (Ans.of stBusy))) ∧
     (Serving s.abl.n c 0x0E01 p → 128 ≤ c.p 0 1 → c.p 0 1 < 131 → exec (.fwCommit c host) s = .next (replied s p s.abl (Ans.of stBusy)))) ∧
  (∀ (s : State) (c : Cmd) (p : PostedX) (host : Option (List Nat)) (img : List Nat) (st : Option StageX) (n : Node) (h : Nat) (o : OpX) (x : FwX), Serving s.abl.n c 0x0E01 p → c.code = 0x0E01 → c.p 0 1 < 3 → s.abl.guard.update = none →
     s.abl.refBytes c.path ((c.params.drop 8).take 24) host (stagedBytes s) = .ok (img, st) → s.abl.n.opStart 8 c.path c.jobtag = (some h, n) → n.op h = some o →
     x = { handle := h, comp := c.p 0 1, dies := leAt c.params 2 2, image := img, stage := st.map fun y => y.id } →
     exec (.fwUpdate c host) s = .next (replied s p { s.abl with n := n.opNote o 0, guard := { s.abl.guard with update := some x } } { handle := h })) ∧
  (∀ (s : State) (c : Cmd) (p : PostedX) (host : Option (List Nat)) (n : Node) (h k : Nat) (a b : Abl) (ok : Bool), Serving s.abl.n c 0x0E01 p → c.code = 0x0E01 → c.p 0 1 = 128 + k → k < 3 → s.abl.guard.update = none →
     s.abl.n.opStart 8 c.path c.jobtag = (some h, n) → a = { s.abl with n := n } → a.fwCommit k = (b, ok) →
     exec (.fwCommit c host) s = .next (replied s p (b.on fun n => n.opEnd h (if ok = true then stOk else stNotPermitted) (if ok = true then 2 else 0) [(a.image k (a.slotOf k)).length, b2n ok, 0, imgVersion (a.image k (a.slotOf k))]) { handle := h }))

/-- What the commands of the sentinel mailbox and of host software do at the DDU. (17_wyique_mailbox_protocol.md R620; 06_dervi_link.md R194; 15_power_and_thermal.md R543, R548, R560; 11_verdicts_and_silent_errors.md R387, R408, R413; 03_counters_and_sensors.md R92; 12_state_securing.md R429, R438; 13_faults_isolation_governor.md R469, R471, R476, R489; 14_health_ledger.md R520, R522; 04_trace_and_event_records.md R138, R139) -/
def Obligations.DieCatalogueComplete : Prop :=
  (∀ (s : State) (c : Cmd) (p : PostedX), Serving s.ddu.n c 0x1001 p → exec (.dieIdent c) s = .next (repliedDdu s p
       ((((s.ddu.wr Reg.DDU_DIE_INDEX 0 (2147483648 + c.p 0 4 % 131072)).wr Reg.DDU_LNK_FB_PEER 0 (c.p 8 8)).wr Reg.DDU_LNK_FB_PEER 1 (c.p 16 8)).wr Reg.DDU_LNK_FB_PEER 2 (c.p 24 8)) {})) ∧
  (∀ (s : State) (c : Cmd) (p : PostedX), Serving s.ddu.n c 0x1002 p → c.p 0 2 = 1 → 32 ≤ c.params.length → exec (.dieRegWrite c) s = .next (repliedDdu s p (s.ddu.entryWrite (c.p 16 4) (c.p 20 4) (c.p 24 8)) {})) ∧
  (∀ (s : State) (c : Cmd) (p : PostedX), Serving s.ddu.n c 0x1002 p → c.p 0 2 = 0 → exec (.dieRegWrite c) s = .next (repliedDdu s p s.ddu (Ans.of stZero))) ∧
  (∀ (s : State) (c : Cmd) (p : PostedX), Serving s.ddu.n c 0x1003 p → exec (.dieCap c) s = .next (repliedDdu s p ((((s.ddu.newCap (c.p 0 2)).wr Reg.DDU_PWR_EXT 0 (c.p 4 4)).wr Reg.DDU_PWR_VSET 0 (c.p 8 2)).regRequest) {})) ∧
  (∀ (s : State) (c : Cmd) (p : PostedX), Serving s.ddu.n c 0x1004 p → (s.ddu.slackMay = true → exec (.dieSlack c) s = .next (repliedDdu s p (s.ddu.toSlack 1) {})) ∧
       (s.ddu.slackMay = false → exec (.dieSlack c) s = .next (repliedDdu s p s.ddu (c.later s.ddu.n)))) ∧
  (∀ (s : State) (c : Cmd) (p : PostedX), Serving s.ddu.n c 0x1005 p → exec (.dieSuspect c) s = .next (repliedDdu s p ((List.range 16).foldl (fun d w => d.wr Reg.DDU_SUSPECT_NEXT w (c.p (4 * w) 4)) s.ddu) {})) ∧
  (∀ (s : State) (c : Cmd) (p : PostedX), Serving s.ddu.n c 0x1006 p → (bit (c.p 0 1) 0 = true → c.p 4 4 = s.ddu.jobTag → s.ddu.jobTag ≠ 0 → exec (.dieProfile c) s = .next (repliedDdu s p (s.ddu.wr Reg.DDU_PROF_CTRL 0 (s.ddu.jobTag * 4294967296 + 1)) {})) ∧
       (bit (c.p 0 1) 0 = true → c.p 4 4 ≠ s.ddu.jobTag → exec (.dieProfile c) s = .next (repliedDdu s p s.ddu (Ans.of stBad))) ∧
       (bit (c.p 0 1) 0 = false → exec (.dieProfile c) s = .next (repliedDdu s p s.ddu.profClear {}))) ∧
  (∀ (s : State) (c : Cmd) (p : PostedX), Serving s.ddu.n c 0x1007 p → exec (.dieSecCut c) s = .next (repliedDdu s p
       (s.ddu.secCutSet (c.p 0 4) (c.p 4 4) ((List.range 240).filter fun t => bit (c.p (8 + t / 8) 1) (t % 8))) {})) ∧
  (∀ (s : State) (c : Cmd) (p : PostedX), Serving s.ddu.n c 0x1008 p → 1 ≤ c.p 0 2 → c.p 0 2 ≤ 240 → 8 + 8 * c.p 0 2 ≤ c.params.length → exec (.dieSecCommit c) s = .next (repliedDdu s p
       (s.ddu.secCommit ((List.range (c.p 0 2)).map fun i => (c.p (8 + 8 * i) 4, c.p (12 + 8 * i) 4))) {})) ∧
  (∀ (s : State) (c : Cmd) (p : PostedX), c.code = 0x1009 → c.p 2 2 < 508 → Serving s.ddu.n c 0x1009 p →
     (c.p 0 1 = 1 → exec (.dieFaultClear c) s = .next (repliedDdu s p (s.ddu.on fun n => n.faultClear (c.p 2 2)) {})) ∧
     (c.p 0 1 = 2 → exec (.dieFaultRestore c) s = .next (repliedDdu s p (s.ddu.unitBack (c.p 2 2)) {})) ∧
     (c.p 0 1 = 3 → exec (.dieFaultConfigure c) s = .next (repliedDdu s p (s.ddu.on fun n => n.softWrite Reg.DDU_FLT_CFG (c.p 2 2) (ones 32) (c.p 4 4)) {})) ∧
     (c.p 0 1 = 4 → s.ddu.n.arrBit Reg.DDU_FLT_ISO (c.p 2 2) = false → exec (.dieFaultInject c) s = .next (repliedDdu s p (s.ddu.on fun n =>
       n.injWrite (c.p 2 2 * 281474976710656 + c.p 10 1 % 2 * 4294967296 + c.p 8 2)) {}))) ∧
  (∀ (s : State) (c : Cmd) (p : PostedX), c.code = 0x100A → Serving s.ddu.n c 0x100A p → 1 ≤ c.p 8 2 → c.p 8 2 ≤ 1968 → c.p 4 4 + c.p 8 2 ≤ (s.ddu.ledSection (c.p 2 2)).length → c.p 2 2 ≤ 5 →
     (c.p 0 1 = 1 → exec (.dieLedgerRead c) s = .next (repliedDdu s p s.ddu { data := ((s.ddu.ledSection (c.p 2 2)).drop (c.p 4 4)).take (c.p 8 2) })) ∧
     (c.p 0 1 = 2 → c.p 2 2 ≠ 0 → 16 + c.p 8 2 ≤ c.params.length → s.ddu.dlWrites = true → exec (.dieLedgerWrite c) s = .next (repliedDdu s p (s.ddu.ledWrite (c.p 2 2) (c.p 4 4) (paramBytes c 16 (c.p 8 2))) {}))) ∧
  (∀ (s : State) (c : Cmd) (p : PostedX), c.code = 0x100B → Serving s.ddu.n c 0x100B p →
     (c.p 0 1 = 1 → exec (.dieTraceTrigger c) s = .next (repliedDdu s p (s.ddu.trcFire 3 0) {})) ∧
     (c.p 0 1 = 2 → s.ddu.trc.exp = none → exec (.dieTraceExportStart c) s = .next (repliedDdu s p (s.ddu.exportStart (c.p 1 4)) {})) ∧
     (∀ x, c.p 0 1 = 3 → s.ddu.trc.exp = some x → exec (.dieTraceExportSuspend c) s = .next (repliedDdu s p { s.ddu with trc := { s.ddu.trc with exp := some { x with suspended := true } } } {})) ∧
     (∀ x, c.p 0 1 = 4 → s.ddu.trc.exp = some x → exec (.dieTraceExportResume c) s = .next (repliedDdu s p { s.ddu with trc := { s.ddu.trc with exp := some { x with suspended := false } } } {})) ∧
     (∀ x, c.p 0 1 = 5 → s.ddu.trc.exp = some x → exec (.dieTraceExportCancel c) s = .next (repliedDdu s p { s.ddu with trc := { s.ddu.trc with exp := none } } {})) ∧
     (c.p 0 1 = 5 → s.ddu.trc.exp = none → exec (.dieTraceExportCancel c) s = .next (repliedDdu s p s.ddu (Ans.of stStale)))) ∧
  (∀ (s : State) (c : Cmd) (p : PostedX), Serving s.ddu.n c 0x100C p → exec (.dieRepeat c) s = .next (repliedDdu s p (s.ddu.revPost 0x1101 (c.params.take 16)) { wait := some (revKey 0x1101) })) ∧
  (∀ (s : State) (c : Cmd) (p : PostedX), Serving s.ddu.n c 0x100D p → c.p 4 1 = 0xFF → exec (.dieCampaign c) s = .next (repliedDdu s p
       (({ s.ddu with pattern := none } : Ddu).revPost 0x1102 ([0, 0, 0, 0] ++ le 4 (c.p 0 4))) { wait := some (revKey 0x1102) })) ∧
  (∀ (s : State) (c : Cmd) (p : PostedX), Serving s.ddu.n c 0x100D p → c.p 4 1 ≠ 0xFF → exec (.dieCampaign c) s = .next (repliedDdu s p
       (({ s.ddu with pattern := some (c.p 0 4, c.p 4 1) } : Ddu).revPost 0x1102 ([Config.pattern (c.p 0 4) (c.p 4 1) % 16, 0, 0, 0] ++ le 4 (c.p 0 4))) { wait := some (revKey 0x1102) })) ∧
  (∀ (s : State) (c : Cmd) (p : PostedX), Serving s.ddu.n c 0x1201 p → exec (.dieQuery c) s = .next (repliedDdu s p s.ddu
       { data := le 4 (s.ddu.rd Reg.DDU_JOB_STATE) ++ le 4 (s.ddu.rd Reg.DDU_PWR_STATE) ++ le 4 (s.ddu.rd Reg.DDU_PWR_REASONS) ++ le 4 (s.ddu.rd Reg.DDU_DL_STATUS) }))

/-- What the register, aperture, function-reset and bus-master commands do. A DDU access that a requester may not make counts in DDU_ACCESS_DENIED and ends in a fabric error; a sentinel access of BAR0 by someone else counts in ABL_HOST_DENIED; an aperture access that a grant does not let through counts in ABL_HOST_AP_DENIED, reads 0 and writes nothing. (00_scope.md R8, R9; 02_die_unit_boundary.md R64; 18_host_interface_address_map.md R629, R631, R633, R634, R636, R638, R640) -/
def Obligations.HostAccessCommandsComplete : Prop :=
  (∀ (s : State) (who : Requester) (off size v : Nat), s.ddu.answers who = true → dduMay who true off size = true → accessOk off size = true →
     ¬ (655360 ≤ off ∧ off < 671744) → fastBlock off = false →
     exec (.registerWrite .ddu who off size v) s = .next (({ s with busErr := false }).settleDdu
       ((regPieces dduRegs off size).foldl (fun (d : Ddu) (p : Piece) => d.regSet who p.r p.i p.mask (p.data v)) s.ddu))) ∧
  (∀ (s : State) (who : Requester) (off size v : Nat), s.ddu.answers who = true → dduMay who true off size = true → accessOk off size = true →
     ¬ (655360 ≤ off ∧ off < 671744) → fastBlock off = true → s.ddu.fastAccess.fastUp = true →
     exec (.registerWrite .ddu who off size v) s = .next (({ s with busErr := false }).settleDdu
       ((regPieces dduRegs off size).foldl (fun (d : Ddu) (p : Piece) => d.regSet who p.r p.i p.mask (p.data v)) s.ddu.fastAccess))) ∧
  (∀ (s : State) (who : Requester) (off size v : Nat), s.ddu.answers who = false → exec (.registerWrite .ddu who off size v) s = .next (({ s with busErr := true }).settleDdu s.ddu)) ∧
  (∀ (s : State) (who : Requester) (off size v : Nat), s.ddu.answers who = true → dduMay who true off size = false →
     exec (.registerWrite .ddu who off size v) s = .next (({ s with busErr := true }).settleDdu (s.ddu.bump Reg.DDU_ACCESS_DENIED))) ∧
  (∀ (s : State) (off size v : Nat),
     exec (.registerWrite .abl .firmware off size v) s = .next (({ s with busErr := false }).settleAbl (s.abl.mcWrite off size v)) ∧
     exec (.registerWrite .abl .bar0 off size v) s = .next (({ s with busErr := false }).settleAbl (s.abl.hostWrite off size v)) ∧
     exec (.registerWrite .abl .i3c off size v) s = .next (({ s with busErr := false }).settleAbl (s.abl.bmcWrite off size v)) ∧
     exec (.registerWrite .abl .hostPrivileged off size v) s = .next (({ s with busErr := false }).settleAbl s.abl.denied)) ∧
  (∀ (s : State) (who : Requester) (off size : Nat), s.ddu.answers who = true → dduMay who false off size = false →
     exec (.rcRegisterRead .ddu who off size) s = .next (({ s with rdata := 0, busErr := true }).settleDdu (s.ddu.bump Reg.DDU_ACCESS_DENIED))) ∧
  (∀ (s : State) (who : Requester) (off size : Nat), s.ddu.answers who = true → dduMay who false off size = true → accessOk off size = true →
     ¬ (294912 ≤ off ∧ off < 327680) → fastBlock off = false →
     areaRead s.ddu.areaByte off size = none → who ≠ .hostPrivileged →
     ∃ y : Ddu × Nat, y = (regPieces dduRegs off size).foldl (fun (x : Ddu × Nat) p => let g := x.1.regGet p.r p.i (size == 8); (g.1, x.2 + p.out g.2)) (s.ddu, 0) ∧
     exec (.rcRegisterRead .ddu who off size) s = .next (({ s with rdata := y.2, busErr := false }).settleDdu y.1)) ∧
  (∀ (s : State) (off size : Nat),
     exec (.rcRegisterRead .abl .firmware off size) s = .next (({ s with rdata := (s.abl.mcRead off size).2, busErr := false }).settleAbl (s.abl.mcRead off size).1) ∧
     exec (.rcRegisterRead .abl .i3c off size) s = .next (({ s with rdata := (s.abl.bmcRead off size).2, busErr := false }).settleAbl (s.abl.bmcRead off size).1) ∧
     exec (.rcRegisterRead .abl .sentinel off size) s = .next (({ s with rdata := 0, busErr := false }).settleAbl s.abl.denied)) ∧
  (∀ (s : State) (x len : Nat) (data : List Byte), s.abl.apOk x len true = true → s.abl.apAddr x < hbmBase →
     exec (.apertureAccess x len true data) s = .next (({ s with mem := Cells.store s.mem (s.abl.apAddr x, padTo len (data.take len)) }).settleAbl s.abl)) ∧
  (∀ (s : State) (x len : Nat) (data : List Byte), s.abl.apOk x len false = true → s.abl.apAddr x < hbmBase →
     exec (.apertureAccess x len false data) s = .next (({ s with rdata := leNat (Cells.read s.mem (s.abl.apAddr x) len), busErr := false }).settleAbl s.abl)) ∧
  (∀ (s : State) (x len : Nat) (data : List Byte), s.abl.decodes = true →
     (s.abl.apOk x len true = false → exec (.apertureAccess x len true data) s = .next (s.settleAbl (s.abl.on fun n => n.bump Reg.ABL_HOST_AP_DENIED))) ∧
     (s.abl.apOk x len false = false → exec (.apertureAccess x len false data) s = .next (({ s with rdata := 0, busErr := false }).settleAbl (s.abl.on fun n => n.bump Reg.ABL_HOST_AP_DENIED)))) ∧
  (∀ (s : State) (off size : Nat), exec (.hostWideRead off size) s = .next (({ s with rdata := (s.abl.hostRead off size).2, busErr := false }).settleAbl (s.abl.hostRead off size).1)) ∧
  (∀ (s : State) (kind : Nat), exec (.functionReset kind) s = .next (s.settleAbl { s.abl.fnReset with pins := { s.abl.fnReset.pins with perstN := decide (kind ≠ 3) && s.abl.fnReset.pins.perstN } })) ∧
  (∀ s : State, exec (.busMasterChange true) s = .next (s.settleAbl { s.abl with host := { s.abl.host with busMaster := true } }) ∧
     exec (.busMasterChange false) s = .next (s.settleAbl
       (({ s.abl with host := { s.abl.host with busMaster := false } } : Abl).hostOps.foldl Abl.hold { s.abl with host := { s.abl.host with busMaster := false } })))

/-- What boot, the expiries, and the power, reset and clock pins do. Every clause gives the sentinel (or the DDU) as the command leaves it. (19_security_and_debug.md R649, R654, R655, R657, R659, R661, R662, R664; 20_reset_pins_electrical.md R672, R673, R677, R678, R680, R684, R685; 12_state_securing.md R440) -/
def Obligations.BootAndPinCommandsComplete : Prop :=
  (∀ s : State, s.abl.pins.inReset = false → s.abl.pins.lost = false →
     (∀ (k bad : Nat), s.abl.n.fld Reg.ABL_STATUS 0 16 4 = 0 → s.abl.bootSlot 0 bad = some k → exec (.bootStageDone bad) s = .next (s.settleAbl (s.abl.bootRun 0 k))) ∧
     (∀ (k bad : Nat), s.abl.n.fld Reg.ABL_STATUS 0 16 4 = 1 → s.abl.bootSlot 1 bad = some k → exec (.bootStageDone bad) s = .next (s.settleAbl (s.abl.bootRun 1 k).mcBack)) ∧
     (∀ (comp bad : Nat), comp < 2 → s.abl.n.fld Reg.ABL_STATUS 0 16 4 = comp → s.abl.bootSlot comp bad = none → exec (.bootStageDone bad) s = .next (s.settleAbl (s.abl.bootFail comp)))) ∧
  (∀ (s : State) (comp : Nat) (img : List Nat), s.abl.guard.recover = some comp →
     img = (Cells.read s.mem 0 (min 67108864 (272 + leAt (Cells.read s.mem 0 272) 16 4))).take (272 + leAt (Cells.read s.mem 0 (min 67108864 (272 + leAt (Cells.read s.mem 0 272) 16 4))) 16 4) →
     s.abl.imgFail comp img = none →
     ∃ a : Abl, a = s.abl.on (fun n => (n.wr Reg.ABL_HOST_GRANT 0 0).fltRefresh) ∧ ∃ g : GuardX, g = { a.guard with recover := none, flash := bindKey a.guard.flash (2 * comp + a.slotOf comp) img } ∧
     exec .recoveryImagePost s = .next (s.settleAbl (({ a with guard := g } : Abl).bootRun comp (a.slotOf comp)))) ∧
  (∀ s : State, s.abl.guard.recover = none → exec .recoveryImagePost s = .next (s.settleAbl s.abl)) ∧
  (∀ (s : State) (port : Nat) (report : List Byte), s.abl.guard.update = none →
     exec (.bootReportRx port report) s = .next (s.settleAbl { s.abl with guard := { s.abl.guard with reports := bindKey s.abl.guard.reports port report } })) ∧
  (∀ (s : State) (port : Nat) (report : List Byte) (x : FwX) (o : OpX), s.abl.guard.update = some x → s.abl.n.op x.handle = some o → o.state = 0 → o.kstate = 2 →
     bit x.dies port = true → x.booted.contains port = false → (List.range 16).all (fun p => !(bit x.dies p && s.abl.n.childValid p) || (port :: x.booted).contains p) = true →
     exec (.bootReportRx port report) s = .next (s.settleAbl
       ((({ s.abl with guard := { s.abl.guard with reports := bindKey s.abl.guard.reports port report, update := some { x with booted := port :: x.booted } } } : Abl).fwState 2 1
         (imgSvn x.image)).fwEnd { x with booted := port :: x.booted } stOk 2 x.image.length (1 + (x.booted.length + 1))))) ∧
  (∀ s : State, exec .debugSessionExpiry s = .next (s.settleAbl (if s.abl.sessionOpen = true ∧ 0 ≤ dist32 (s.abl.n.seconds % 4294967296) (s.abl.n.rd Reg.ABL_DBG_EXPIRE) then s.abl.sessionEnd 2 else s.abl))) ∧
  (∀ (s : State) (b : List Byte) (t : Nat), s.abl.guard.challenge = some (b, t) →
     exec .debugChallengeExpiry s = .next (s.settleAbl (if s.abl.n.local < t + 60000000000 then s.abl else { s.abl with guard := { s.abl.guard with challenge := none } }))) ∧
  (∀ s : State, exec .dduDebugExpiry s = .next (s.settleDdu (if 0 ≤ dist32 (s.ddu.n.seconds % 4294967296) (s.ddu.rd Reg.DDU_DBG_EXPIRE) then s.ddu.dbgEnd else s.ddu))) ∧
  (∀ s : State, exec .profileConsentExpiry s = .next (s.settleAbl
       ((s.abl.guard.consents.filter fun x => decide (x.expiry ≤ s.abl.n.seconds)).foldl (fun a x => a.profileDisable x.dies) s.abl))) ∧
  (∀ (s : State) (t : Nat), s.abl.guard.activated = some t → s.abl.n.fld Reg.ABL_STATUS 0 16 4 < 2 → t + 10000000000 ≤ s.abl.n.local →
     exec .fwBootTimeout s = .next (s.settleAbl (s.abl.fwRevert.on fun n => n.setFld Reg.ABL_STATUS 0 16 4 0))) ∧
  (∀ (s : State) (held : Bool) (x : FwX) (o : OpX), s.abl.guard.update = some x → s.abl.n.op x.handle = some o → o.state = 0 → o.kstate = 0 →
     (s.abl.imgFail x.comp x.image = none → exec (.fwSlotWriteDone held) s = .next (({ s with free := s.free + 16 }).settleAbl
       (s.abl.on fun n => n.opChange x.handle fun o => { o with kstate := 1, cs := x.cs x.image.length 0 }))) ∧
     (s.abl.imgFail x.comp x.image = some .bad → exec (.fwSlotWriteDone held) s = .next (({ s with free := s.free + 16 }).settleAbl (s.abl.fwEnd x stBad 3 x.image.length 0))) ∧
     (s.abl.imgFail x.comp x.image = some .rollback → exec (.fwSlotWriteDone held) s = .next (({ s with free := s.free + 16 }).settleAbl (s.abl.fwEnd x stNotPermitted 4 x.image.length 0)))) ∧
  (∀ (s : State) (x : FwX) (o : OpX), s.abl.guard.update = some x → s.abl.n.op x.handle = some o → o.state = 0 → o.kstate = 1 →
     exec (.fwSlotWriteDone false) s = .next (({ s with free := s.free + 16 }).settleAbl (s.abl.fwEnd x stInternal 0 x.image.length 0))) ∧
  (∀ s : State, s.abl.n.role = 1 → s.abl.n.trayLevel = 0 →
     exec .trayNeapHoldExpiry s = .next (s.settleAbl ((s.abl.sec.reqAt.map fun x => x.1).foldl (fun a t => a.secRequest t 0) s.abl))) ∧
  (∀ s : State, s.abl.pins.aonPgood = false →
     exec .aonPgoodRise s = .next (s.settleAbl { s.abl with pins := { s.abl.pins with aonPgood := true, mainEn := true, mainSeen := false, inReset := true } })) ∧
  (∀ s : State, s.abl.pins.aonPgood = true → exec .aonPgoodFall s = .next (s.settleAbl
       { s.abl.chipState true with pins := { (s.abl.chipState true).pins with aonPgood := false, mainEn := false, thermtrip := false, mainSeen := false } })) ∧
  (∀ s : State, s.abl.pins.mainPgood = false → s.abl.pins.aonPgood = true →
     (s.abl.pins.mainSeen = false → exec .mainPgoodRise s = .next (s.settleAbl { s.abl with pins := { s.abl.pins with mainPgood := true, mainSeen := true } })) ∧
     (s.abl.pins.mainSeen = true → s.abl.pins.lost = true → s.abl.pins.mainEn = true → exec .mainPgoodRise s = .next (s.settleAbl
       ((({ s.abl with pins := { s.abl.pins with mainPgood := true, lost := false, lostAt := none } } : Abl).on fun n => n.setFld Reg.ABL_PWR_STATE 0 0 3 4).mcReset 2)))) ∧
  (∀ s : State, s.abl.pins.mainPgood = true → (s.abl.pins.mainEn = false ∨ s.abl.pins.inReset = true) →
     exec .mainPgoodFall s = .next (s.settleAbl { s.abl with pins := { s.abl.pins with mainPgood := false } })) ∧
  (∀ s : State, s.abl.pins.mainPgood = true → s.abl.pins.mainEn = true → s.abl.pins.inReset = false →
     ∃ a : Abl, a = (({ s.abl with pins := { s.abl.pins with mainPgood := false } } : Abl).mainLost.on fun n =>
       (n.setFld Reg.ABL_PWR_STATE 0 0 3 0).setFld Reg.ABL_PWR_STATE 0 8 5 0) ∧ ∃ b : Abl, b = (a.pwrRec s.abl.n.pwrState 0 7).on (fun n => n.fault 654 0 2 0 0) ∧
     exec .mainPgoodFall s = .next (s.settleAbl { b with pins := { b.pins with mainEn := false, lost := true, lostAt := some b.n.local } })) ∧
  (∀ (s : State) (t : Nat), s.abl.pins.lostAt = some t → t + 10000000 ≤ s.abl.n.local → s.abl.pins.aonPgood = true → s.abl.pins.thermtrip = false →
     exec .mainEnRestart s = .next (s.settleAbl { s.abl with pins := { s.abl.pins with mainEn := true, lostAt := none } })) ∧
  (∀ (s : State) (ns : Nat), (1000 ≤ ns → exec (.resetNAssert ns) s = .next (s.settleAbl { s.abl.chipState false with pins := { (s.abl.chipState false).pins with resetN := false } })) ∧
     (ns < 100 → exec (.resetNAssert ns) s = .next (s.settleAbl s.abl))) ∧
  (∀ s : State, s.abl.pins.inReset = true → s.abl.pins.aonPgood = true → s.abl.pins.mainSeen = true → s.abl.n.fld Reg.ABL_NODE 0 26 2 ≠ 1 →
     ∃ a : Abl, a = ({ s.abl with pins := { s.abl.pins with inReset := false, resetN := true } } : Abl).mrExtend 0 (Config.romDigest (s.abl.n.rd Reg.ABL_LC_STATE) (s.abl.n.rd Reg.ABL_LC_SVN)) ∧
     exec .internalResetEnd s = .next (s.settleAbl (if a.fused = 4 then a.retirePart else a))) ∧
  (∀ s : State, exec .perstRelease s = .next (s.settleAbl { s.abl with pins := { s.abl.pins with perstN := true } })) ∧
  (∀ s : State, s.abl.pins.aonPgood = true → exec .thermtrip s = .next (s.settleAbl { s.abl with pins := { s.abl.pins with thermtrip := true, mainEn := false } })) ∧
  (∀ s : State, s.abl.pins.refLost = false → (s.abl.n.timeState = tsUnaligned ∨ s.abl.n.timeState = tsHoldover) → exec .refclkLoss s = .next (s.settleAbl
       (({ s.abl with pins := { s.abl.pins with refLost := true } } : Abl).on fun n => (n.timeAlign (ofInt 32 n.timex.theta)).fault 654 0 0 0 0))) ∧
  (∀ s : State, s.abl.pins.refLost = false → s.abl.n.timeState ≠ tsUnaligned → s.abl.n.timeState ≠ tsHoldover → exec .refclkLoss s = .next (s.settleAbl
       (({ s.abl with pins := { s.abl.pins with refLost := true } } : Abl).on fun n => ((n.toHoldover 1).timeAlign (ofInt 32 (n.toHoldover 1).timex.theta)).fault 654 0 0 0 0))) ∧
  (∀ s : State, exec .refclkRelock s = .next (s.settleAbl { s.abl with pins := { s.abl.pins with refLost := false } }))

/-- A step takes the command at the front of the queue and runs it on the state with the queue's rest; with an empty queue the block idles. The queue and the idling are the model's choice (assumption log 3). (01_fleet_integrity_model.md R28) -/
def Obligations.StepRunsFrontCommand : Prop :=
  (∀ (s : State) (c : Instr) (rest : List Instr), step { s with pending := c :: rest } = exec c { s with pending := rest }) ∧
  (∀ s : State, s.pending = [] → step s = .next s)

/-- Every command of the table answers a next state in every state, whatever its operands, and leaves the queue and the numbering of the open values in order. No command of the table is refused and none faults: a forbidden access is counted and answered as its rule says. The numbering of the open values is the model's own (assumption log 9). (02_die_unit_boundary.md R64; 17_wyique_mailbox_protocol.md R599; 18_host_interface_address_map.md R629) -/
def Obligations.EveryCommandCompletes : Prop :=
  ∀ (c : Instr) (s : State), ∃ t, exec c s = .next t ∧ t.pending = s.pending ∧ s.free ≤ t.free

/-- A queue of n commands is empty after n steps, and no run ever stops. The queue is the model's own (assumption log 3). (17_wyique_mailbox_protocol.md R601) -/
def Obligations.QueueIsWorkedOff : Prop :=
  ∀ s : State, NeverStops s ∧ ∃ t, Runs s.pending.length s t ∧ t.pending = []

/-- Every step from a sound state leads to a sound state: the memory stays in its canonical form, and no memory write of a command outlives its step. The canonical form of the memory is the model's own (assumption log 7). (18_host_interface_address_map.md R633, R636; 19_security_and_debug.md R648, R665) -/
def Obligations.StepKeepsSoundness : Prop :=
  ∀ s t : State, Sound s → step s = .next t → Sound t

/-- The state after reset is sound, with an empty queue. (18_host_interface_address_map.md R633; 20_reset_pins_electrical.md R682) -/
def Obligations.ResetIsSound : Prop :=
  Sound State.reset ∧ State.reset.pending = []

/-- A command to the DDU leaves the sentinel and its memory as they are, and a command to the sentinel leaves the DDU as it is. That the two devices exchange nothing but commands is the model's choice (assumption log 1). (01_fleet_integrity_model.md R28; 02_die_unit_boundary.md R64; 18_host_interface_address_map.md R629) -/
def Obligations.CommandsActOnOneDevice : Prop :=
  (∀ (c : Instr) (s t : State), home c = .ddu → exec c s = .next t → OnlyDdu s t) ∧
  (∀ (c : Instr) (s t : State), home c = .abl → exec c s = .next t → t.ddu = s.ddu ∧ t.pending = s.pending)

/-- A device with nothing in hand adds nothing to a command's own effect but the fields of ABL_STATUS that mirror other registers. (01_fleet_integrity_model.md R28; 18_host_interface_address_map.md R642; 14_health_ledger.md R508; 16_management_complex.md R586) -/
def Obligations.QuietDevicesOweNothing : Prop :=
  (∀ (s : State) (d : Ddu), QuietDdu d → s.settleDdu d = { s with ddu := d }) ∧
  (∀ (s : State) (a : Abl), QuietAbl a → a.out = [] → a.wipe = false → a.n.pwrState = s.abl.n.pwrState →
     a.n.srcSel ≠ 3 ∨ (∀ k, a.n.mgmtDown k = s.abl.n.mgmtDown k) →
     s.settleAbl a = { s with abl := a.on fun n => (n.setFld Reg.ABL_STATUS 0 20 3 (n.fld Reg.ABL_HS_STATUS 0 29 3)).setFld Reg.ABL_STATUS 0 24 3 n.pwrState })

/-- An aperture write that is let through changes exactly the bytes it names, and an aperture read gives the bytes that stand there. (18_host_interface_address_map.md R633, R634) -/
def Obligations.ApertureReadsBack : Prop :=
  (∀ (s : State) (x len : Nat) (data : List Byte), s.mem.wf = true → s.abl.apOk x len true = true →
     ∃ m : Memory, exec (.apertureAccess x len true data) s = .next (({ s with mem := m }).settleAbl (s.abl.apTouch x len true)) ∧ Memory.wf m = true ∧
     ∀ b, Cells.get m b = if s.abl.apAddr x ≤ b ∧ b < s.abl.apAddr x + len then data.getD (b - s.abl.apAddr x) 0 % 256 else Cells.get s.mem b) ∧
  (∀ (s : State) (x len : Nat) (data : List Byte), s.mem.wf = true → s.abl.apOk x len false = true →
     ∃ v : Nat, exec (.apertureAccess x len false data) s = .next (({ s with rdata := v, busErr := false }).settleAbl (s.abl.apTouch x len false)) ∧
     ∀ i, i < len → v / 256 ^ i % 256 = Cells.get s.mem (s.abl.apAddr x + i))

/-- What the registers of several tables read after reset. DDU_ID's part code, no die index, 1,000 µs of fast-domain idle time, windows of 1 ms for summaries, an increment of 20 ns on both devices with time UNALIGNED, trace OFF, no tray budget, and a risk table at Neap, score 0, with STALE set, as R682 says of power-on (assumption log 99). (02_die_unit_boundary.md R66, R67, R69; 04_trace_and_event_records.md R137; 05_timekeeping.md R181, R183; 07_reduction_tree.md R216; 09_tree_engine.md R327; 15_power_and_thermal.md R569; 20_reset_pins_electrical.md R682) -/
def Obligations.ResetValues : Prop :=
  (State.reset.ddu.n.rd Reg.DDU_ID / 65536 = 0xD0D1 ∧ State.reset.ddu.n.rd Reg.DDU_DIE_INDEX = 0 ∧ State.reset.ddu.n.rd Reg.DDU_CTRL = 1000 ∧
     State.reset.ddu.n.rd Reg.DDU_SUM_CTRL = 10 ∧ (∀ dev, (part State.reset dev).rd (Reg.TIME_INCR dev) = 20 * 4294967296) ∧
     (∀ dev, (part State.reset dev).timeState = tsUnaligned) ∧ State.reset.ddu.n.fld Reg.DDU_TRC_STATE 0 0 3 = 0 ∧ State.reset.abl.n.rd Reg.ABL_PWR_BUDGET = 0) ∧
  (∀ d, d < 16 → State.reset.abl.n.rd Reg.ABL_TREE_RISK d = 2305843009213693952)

/-- A record's bytes are its 16-byte header, its payload, and zero bytes up to the next multiple of 8, never more than 4,096. (00_scope.md R11) -/
def Obligations.RecordsAreWhole : Prop :=
  ∀ r : Record, r.payload.length ≤ 4080 → leAt r.bytes 4 2 = r.payload.length ∧ (r.bytes.drop 16).take r.payload.length = r.payload ∧
     16 + r.payload.length ≤ r.bytes.length ∧ r.bytes.length < 16 + r.payload.length + 8 ∧ r.bytes.length % 8 = 0 ∧ r.bytes.length ≤ 4096 ∧
     ∀ b ∈ r.bytes.drop (16 + r.payload.length), b = 0

/-- Every record that fits the header's fields is read back whole from its bytes. (00_scope.md R3, R11, R12) -/
def Obligations.RecordBytesReadBack : Prop :=
  ∀ r : Record, r.typ < 256 → r.code < 65536 → r.src < 65536 → r.time < 4294967296 → r.seq < 65536 → r.flags < 65536 → r.payload.length ≤ 4080 → recOfBytes r.bytes = r

/-- Every FANOUT message within the limits of its layout is read back whole from its payload. (00_scope.md R3; 07_reduction_tree.md R239) -/
def Obligations.FanoutBytesReadBack : Prop :=
  ∀ m : FanMsg, m.jobtag < 4294967296 → m.seq < 4294967296 → m.kind < 65536 → m.deadline < 4294967296 → m.ranges.length ≤ 32 → m.body.length ≤ 1024 →
     (∀ r ∈ m.ranges, r.1 < 4294967296 ∧ r.2 < 4294967296) → fanOfBytes (fanBytes m) = m

/-- An increment outside 19.98 to 20.02 ns is refused and counted and the register keeps its value; one within the range is taken. A zero increment is outside the range. The counter is followed up to its width. (05_timekeeping.md R154) -/
def Obligations.IncrementStaysInRange : Prop :=
  (∀ (s : State) (dev : Dev) (who : Requester) (slew : Bool) (v : Nat), Awake s dev → MayWrite s who dev → v < 1099511627776 →
     (v * 100 < 1998 * 4294967296 ∨ 2002 * 4294967296 < v * 100) →
     ∃ m : Node, exec (.timeIncrWrite dev who slew v) s = .next (settled (answered s dev) dev m) ∧ OnlyReg (part s dev) m ((Reg.TIME_REFUSED (part s dev).dev).addr 0) ∧
     ((part s dev).rd (Reg.TIME_REFUSED (part s dev).dev) + 1 < 2 ^ (Reg.TIME_REFUSED (part s dev).dev).width →
      m.rd (Reg.TIME_REFUSED (part s dev).dev) = (part s dev).rd (Reg.TIME_REFUSED (part s dev).dev) + 1)) ∧
  (∀ (s : State) (dev : Dev) (who : Requester) (slew : Bool) (v : Nat), Awake s dev → MayWrite s who dev → v < 1099511627776 →
     1998 * 4294967296 ≤ v * 100 → v * 100 ≤ 2002 * 4294967296 →
     ∃ (m : Node) (r : RegDef), (r = if slew then Reg.TIME_SLEW_INCR (part s dev).dev else Reg.TIME_INCR (part s dev).dev) ∧
     exec (.timeIncrWrite dev who slew v) s = .next (settled (answered s dev) dev m) ∧ OnlyReg (part s dev) m (r.addr 0) ∧ m.rd r = v)

/-- In DECOMMISSIONED a write of DDU_SUBRESET is discarded and counted in DDU_ACCESS_DENIED, and changes nothing else. The counter is followed up to its width. What the DDU has in hand follows as after every command. (02_die_unit_boundary.md R74) -/
def Obligations.NoSubresetWhenDecommissioned : Prop :=
  ∀ (s : State) (who : Requester) (v : Nat), who ≠ .unprivileged → s.ddu.answers who = true → s.ddu.n.fld Reg.DDU_STATUS 0 8 3 = 4 →
     ∃ d : Ddu, exec (.subresetStart who v) s = .next (({ s with busErr := false }).settleDdu d) ∧ { d with n := s.ddu.n } = s.ddu ∧
     OnlyReg s.ddu.n d.n (Reg.DDU_ACCESS_DENIED.addr 0) ∧
     (s.ddu.rd Reg.DDU_ACCESS_DENIED + 1 < 2 ^ Reg.DDU_ACCESS_DENIED.width → d.rd Reg.DDU_ACCESS_DENIED = s.ddu.rd Reg.DDU_ACCESS_DENIED + 1)

/-- The command that a row serves is a posted one, and no command that may start stands before it: none of a higher class, and none of its class that was posted earlier. The classes are numbered so that 0 goes first. Which command a row names is the model's (assumption log 83). (17_wyique_mailbox_protocol.md R601, R602, R603, R604) -/
def Obligations.CommandsStartByClassAndOrder : Prop :=
  ∀ (n : Node) (c : Cmd) (code : Nat) (p : PostedX), n.pick c code = some p → p ∈ n.mb.posted ∧ p.cmd = c ∧ c.code = code ∧ n.ready p = true ∧
     ∀ q ∈ n.mb.posted, n.ready q = true → cmdCls n.dev p.cmd ≤ cmdCls n.dev q.cmd ∧ (cmdCls n.dev q.cmd = cmdCls n.dev p.cmd → p.n ≤ q.n)

/-- A fall of AON_PGOOD leaves every register of the sentinel at its reset value but the two that show fuses and the state they give; the DDU's cold reset does the same on the DDU, and each leaves the other device as it is. (20_reset_pins_electrical.md R672, R682; 02_die_unit_boundary.md R77) -/
def Obligations.PowerOnResetClears : Prop :=
  (∀ s : State, s.abl.pins.aonPgood = true → ∃ a : Abl, exec .aonPgoodFall s = .next (s.settleAbl a) ∧
     (∀ (q : RegDef) (j : Nat), q.addr j ≠ Reg.ABL_LC_STATE.addr 0 → q.addr j ≠ Reg.ABL_LC_SVN.addr 0 → q.addr j ≠ Reg.ABL_STATUS.addr 0 → a.n.rd q j = q.rst j) ∧
     a.n.txq = [] ∧ a.n.mb.posted = [] ∧ a.jobs = [] ∧ a.wipe = true) ∧
  (∀ s : State, ∃ t, exec .dduResetAssert s = .next t ∧ (∀ (q : RegDef) (j : Nat), q.addr j ≠ Reg.DDU_STATUS.addr 0 → t.ddu.n.rd q j = q.rst j) ∧
     t.ddu.n.txq = [] ∧ t.ddu.n.mb.posted = [] ∧ t.ddu.bnd.resetN = true ∧ t.ddu.led.a = s.ddu.led.a ∧ t.ddu.led.b = s.ddu.led.b ∧ t.abl = s.abl ∧ t.mem = s.mem)

/-- Commands that set one register change that register alone: every other register, every queue and buffer of the device, the other device and the memory are as before. The device has nothing in hand, and the DDU's fast domain runs where the command needs it; on the sentinel, ABL_STATUS also mirrors the mount and power states. (02_die_unit_boundary.md R47; 03_counters_and_sensors.md R86; 04_trace_and_event_records.md R129; 05_timekeeping.md R174; 11_verdicts_and_silent_errors.md R388; 15_power_and_thermal.md R548; 16_management_complex.md R582, R585; 17_wyique_mailbox_protocol.md R612) -/
def Obligations.RegisterCommandFrames : Prop :=
  (∀ (s : State) (c : Instr) (r : RegDef) (i : Nat), QuietDdu s.ddu → s.ddu.live = true → s.ddu.pwr ≠ 0 →
     ((∃ who, who ≠ .unprivileged ∧ s.ddu.answers who = true ∧ s.ddu.n.bit Reg.DDU_STATUS 0 2 = true ∧ s.ddu.n.bit Reg.DDU_STATUS 0 1 = false ∧ c = .cntFreezeWrite who 1 ∧
        s.ddu.n.bit Reg.DDU_CNT_FREEZE 0 0 = false ∧ r = Reg.DDU_CNT_FREEZE ∧ i = 0) ∨
      (∃ who v, who ≠ .unprivileged ∧ s.ddu.answers who = true ∧ s.ddu.n.bit Reg.DDU_STATUS 0 2 = true ∧ s.ddu.n.bit Reg.DDU_STATUS 0 1 = false ∧ c = .traceSpillRdWrite who v ∧
        r = Reg.DDU_TRC_SPILL_RD ∧ i = 0 ∧ s.ddu.rd r ≤ v ∧ v ≤ s.ddu.rd Reg.DDU_TRC_SPILL_WR ∧ v % 4096 = 0) ∨
      (∃ who, who ≠ .unprivileged ∧ s.ddu.answers who = true ∧ s.ddu.n.bit Reg.DDU_STATUS 0 2 = true ∧ s.ddu.n.bit Reg.DDU_STATUS 0 1 = false ∧ c = .chkLastClear who ∧ r = Reg.DDU_CHK_LAST ∧ i = 0) ∨
      (c = .capStale ∧ s.ddu.pw.capAt + 100000000 ≤ s.ddu.n.local ∧ r = Reg.DDU_PWR_STATE ∧ i = 0) ∨
      (c = .fastDomainStart ∧ s.ddu.n.bit Reg.DDU_STATUS 0 2 = false ∧ s.ddu.n.bit Reg.DDU_STATUS 0 1 = false ∧ s.ddu.bnd.corePgood = true ∧ r = Reg.DDU_STATUS ∧ i = 0)) →
     ∃ t, exec c s = .next t ∧ OnlyDdu s t ∧ OnlyReg s.ddu.n t.ddu.n (r.addr i) ∧ { t.ddu with n := s.ddu.n } = s.ddu) ∧
  (∀ (s : State) (c : Instr) (r : RegDef), QuietAbl s.abl → s.abl.out = [] → s.abl.wipe = false → s.abl.n.dev = .abl →
     ((c = .launchEnqueue .firmware ∧ 32 ≤ s.abl.n.timex.launch.length ∧ r = Reg.ABL_LAUNCH_STATUS) ∨
      (∃ v, c = .engineResetStart .bar0 v ∧ 0 < v ∧ v < 9223372036854775808 ∧ r = Reg.ABL_ENGINE_RESET_DENIED) ∨
      (∃ core v, c = .watchdogKick .abl core v ∧ v ≠ 0x4B49 ∧ r = Reg.ABL_MC_WDOG_BADKICK) ∨
      (∃ p v, c = .eventRdWrite p v ∧ s.abl.n.rd Reg.ABL_MB_EVT_WR p < v ∧ r = Reg.ABL_MB_DISCARDED)) →
     ∃ t, exec c s = .next t ∧ OnlyAbl s t ∧ t.mem = s.mem ∧ { t.abl with n := s.abl.n } = s.abl ∧ { t.abl.n with regs := s.abl.n.regs } = s.abl.n ∧
     ∀ (q : RegDef) (j : Nat), q.addr j ≠ r.addr 0 → q.addr j ≠ Reg.ABL_STATUS.addr 0 → t.abl.n.rd q j = s.abl.n.rd q j)
end

