-- ==== Sys2Proof/Laws/Cells.lean ====
section
/-!
SUPPORT. The laws of byte memories: the canonical form, what a write leaves, and that every operation keeps the form.
-/

namespace Sys2Proof.Machine

/-! ## The canonical form -/

theorem okFrom_mono {lo lo' : Nat} (h : lo' ≤ lo) : ∀ {m : Cells}, Cells.okFrom lo m = true → Cells.okFrom lo' m = true
  | [], _ => rfl
  | (a, b) :: t, hm => by
    simp only [Cells.okFrom, Bool.and_eq_true, decide_eq_true_eq] at hm ⊢
    exact ⟨⟨le_trans h hm.1.1, hm.1.2⟩, hm.2⟩

theorem okFrom_append {hi : Nat} {m' : Cells} (h' : Cells.okFrom hi m' = true) :
    ∀ {lo : Nat} {m : Cells}, lo ≤ hi → Cells.okFrom lo m = true → (∀ c ∈ m, c.1 < hi) → Cells.okFrom lo (m ++ m') = true
  | _, [], hl, _, _ => okFrom_mono hl h'
  | lo, (a, b) :: t, _, hm, hb => by
    simp only [Cells.okFrom, List.cons_append, Bool.and_eq_true, decide_eq_true_eq] at hm ⊢
    exact ⟨hm.1, okFrom_append h' (hb (a, b) (by simp)) hm.2 fun c hc => hb c (by simp [hc])⟩

theorem fresh_okFrom : ∀ (a : Nat) (l : List Nat), Cells.okFrom a (Cells.fresh a l) = true
  | _, [] => rfl
  | a, b :: t => by
    unfold Cells.fresh
    split
    · exact okFrom_mono (Nat.le_succ a) (fresh_okFrom (a + 1) t)
    · rename_i h
      simp only [Cells.okFrom, le_refl, decide_true, Bool.true_and, Bool.and_eq_true, bne_iff_ne, ne_eq]
      refine ⟨fun hz => h ?_, fresh_okFrom (a + 1) t⟩
      have := congrArg BitVec.toNat hz
      simpa using this

theorem fresh_lt : ∀ (a : Nat) (l : List Nat), ∀ c ∈ Cells.fresh a l, c.1 < a + l.length
  | _, [], c, h => by simp [Cells.fresh] at h
  | a, b :: t, c, h => by
    unfold Cells.fresh at h
    split at h
    · have := fresh_lt (a + 1) t c h
      simp only [List.length_cons]; omega
    · rcases List.mem_cons.1 h with rfl | h
      · simp
      · have := fresh_lt (a + 1) t c h
        simp only [List.length_cons]; omega

theorem below_okFrom (a : Nat) : ∀ {lo : Nat} {m : Cells}, Cells.okFrom lo m = true → Cells.okFrom lo (m.below a) = true
  | _, [], _ => rfl
  | lo, (x, b) :: t, h => by
    simp only [Cells.okFrom, Bool.and_eq_true, decide_eq_true_eq] at h
    simp only [Cells.below, List.takeWhile]
    split
    · simp only [Cells.okFrom, Bool.and_eq_true, decide_eq_true_eq]
      exact ⟨h.1, below_okFrom a h.2⟩
    · rfl

theorem below_lt (m : Cells) (a : Nat) : ∀ c ∈ m.below a, c.1 < a := fun c h => by
  simpa using List.mem_takeWhile_imp h

theorem above_okFrom (a : Nat) : ∀ {lo : Nat} {m : Cells}, Cells.okFrom lo m = true → Cells.okFrom a (m.above a) = true
  | _, [], _ => rfl
  | lo, (x, b) :: t, h => by
    simp only [Cells.okFrom, Bool.and_eq_true, decide_eq_true_eq] at h
    simp only [Cells.above, List.dropWhile]
    split
    · exact above_okFrom a h.2
    · rename_i hx
      simp only [decide_eq_false_iff_not, not_lt] at hx
      simp only [Cells.okFrom, Bool.and_eq_true, decide_eq_true_eq]
      exact ⟨⟨hx, h.1.2⟩, h.2⟩

/-- A write keeps the canonical form. -/
theorem write_wf {m : Cells} (h : m.wf = true) (a : Nat) (l : List Nat) : (m.write a l).wf = true := by
  refine okFrom_append (okFrom_append (above_okFrom _ h) (Nat.le_add_right a l.length) (fresh_okFrom a l) (fresh_lt a l)) (Nat.zero_le a)
    (below_okFrom a h) (below_lt m a)

theorem writeIn_wf {m : Cells} (h : m.wf = true) (lo hi a : Nat) (l : List Nat) : (m.writeIn lo hi a l).wf = true := by
  unfold Cells.writeIn
  simp only
  split
  · exact write_wf h _ _
  · exact h

/-- A write to the memory space keeps the canonical form. -/
theorem store_wf {m : Cells} (h : m.wf = true) (w : Nat × List Nat) : (m.store w).wf = true :=
  writeIn_wf (writeIn_wf h _ _ _ _) _ _ _ _

/-- Any run of writes keeps the canonical form. -/
theorem stores_wf (ws : List (Nat × List Nat)) : ∀ {m : Cells}, m.wf = true → (ws.foldl Cells.store m).wf = true := by
  induction ws with
  | nil => exact fun h => h
  | cons w t ih => exact fun h => ih (store_wf h w)

/-! ## Reads after writes -/

theorem get_of_lt {x : Nat} : ∀ {lo : Nat} {m : Cells}, Cells.okFrom lo m = true → x < lo → m.get x = 0
  | _, [], _, _ => rfl
  | lo, (a, b) :: t, h, hx => by
    simp only [Cells.okFrom, Bool.and_eq_true, decide_eq_true_eq] at h
    have : x < a := lt_of_lt_of_le hx h.1.1
    simp [Cells.get, this, Nat.ne_of_lt this]

theorem get_append_lt {x hi : Nat} {m' : Cells} (h' : Cells.okFrom hi m' = true) (hx : x < hi) :
    ∀ (m : Cells), (m ++ m').get x = m.get x
  | [] => get_of_lt h' hx
  | (a, b) :: t => by
    simp only [List.cons_append, Cells.get]
    rw [get_append_lt h' hx t]

theorem get_append_ge {x : Nat} {m' : Cells} : ∀ {m : Cells}, (∀ c ∈ m, c.1 < x) → (m ++ m').get x = m'.get x
  | [], _ => rfl
  | (a, b) :: t, hb => by
    have ha : a < x := hb (a, b) (by simp)
    simp only [List.cons_append, Cells.get, Nat.ne_of_gt ha, if_false, Nat.lt_asymm ha]
    exact get_append_ge fun c hc => hb c (by simp [hc])

theorem get_below {x a : Nat} (hx : x < a) : ∀ {lo : Nat} {m : Cells}, Cells.okFrom lo m = true → (m.below a).get x = m.get x
  | _, [], _ => rfl
  | lo, (y, b) :: t, h => by
    simp only [Cells.okFrom, Bool.and_eq_true, decide_eq_true_eq] at h
    simp only [Cells.below, List.takeWhile]
    by_cases hy : y < a
    · simp only [hy, decide_true, Cells.get]
      have := get_below hx (m := t) h.2
      simp only [Cells.below] at this
      rw [this]
    · simp only [hy, decide_false, Cells.get]
      rw [if_neg (by omega), if_pos (by omega)]

theorem get_above {x a : Nat} (hx : a ≤ x) : ∀ {m : Cells}, (m.above a).get x = m.get x
  | [] => rfl
  | (y, b) :: t => by
    simp only [Cells.above, List.dropWhile]
    by_cases hy : y < a
    · simp only [hy, decide_true, Cells.get]
      rw [if_neg (by omega), if_neg (by omega)]
      exact get_above hx
    · simp only [hy, decide_false]

theorem get_fresh {x : Nat} : ∀ (a : Nat) (l : List Nat), a ≤ x → x < a + l.length → (Cells.fresh a l).get x = l.getD (x - a) 0 % 256
  | a, [], h1, h2 => by simp at h2; omega
  | a, b :: t, h1, h2 => by
    have step : a + 1 ≤ x → (Cells.fresh (a + 1) t).get x = (b :: t).getD (x - a) 0 % 256 := fun h => by
      rw [get_fresh (a + 1) t h (by simp only [List.length_cons] at h2; omega)]
      have : x - a = x - (a + 1) + 1 := by omega
      rw [this, List.getD_cons_succ]
    unfold Cells.fresh
    split
    · rename_i hz
      rcases Nat.eq_or_lt_of_le h1 with rfl | h
      · rw [get_of_lt (fresh_okFrom (a + 1) t) (Nat.lt_succ_self a)]
        simp [hz]
      · exact step h
    · rcases Nat.eq_or_lt_of_le h1 with rfl | h
      · simp [Cells.get]
      · simp only [Cells.get]
        rw [if_neg (by omega), if_neg (by omega)]
        exact step h

/-- What a byte reads after a write: the byte written, or the byte that was there. -/
theorem get_write {m : Cells} (h : m.wf = true) (a : Nat) (l : List Nat) (x : Nat) :
    (m.write a l).get x = if a ≤ x ∧ x < a + l.length then l.getD (x - a) 0 % 256 else m.get x := by
  have hab := above_okFrom (a + l.length) h
  have hfr := okFrom_append hab (Nat.le_add_right a l.length) (fresh_okFrom a l) (fresh_lt a l)
  unfold Cells.write
  by_cases hx : x < a
  · rw [if_neg (by omega), get_append_lt hfr hx, get_below hx h]
  · rw [get_append_ge fun c hc => lt_of_lt_of_le (below_lt m a c hc) (not_lt.1 hx)]
    by_cases hy : x < a + l.length
    · rw [if_pos ⟨not_lt.1 hx, hy⟩, get_append_lt hab hy, get_fresh a l (not_lt.1 hx) hy]
    · rw [if_neg (by omega), get_append_ge fun c hc => lt_of_lt_of_le (fresh_lt a l c hc) (not_lt.1 hy), get_above (not_lt.1 hy)]

end Sys2Proof.Machine
end

