-- ==== Sys2Proof/Laws/Reg.lean ====
section
/-!
SUPPORT. The laws of bit fields and of the register file: what a register reads after a write, and which registers a write leaves.
-/

namespace Sys2Proof.Machine

/-! ## Bit fields -/

theorem bits_mul_le (v lo w : Nat) : bits v lo w * 2 ^ lo ≤ v := by
  unfold bits
  calc v / 2 ^ lo % 2 ^ w * 2 ^ lo ≤ v / 2 ^ lo * 2 ^ lo := Nat.mul_le_mul_right _ (Nat.mod_le _ _)
    _ ≤ v := Nat.div_mul_le_self _ _

theorem bits_lt (v lo w : Nat) : bits v lo w < 2 ^ w := Nat.mod_lt _ (Nat.two_pow_pos w)

/-- A number cut at a field: what lies above it, the field, and what lies below it. -/
theorem bits_split (v lo w : Nat) : v = v / 2 ^ (lo + w) * 2 ^ (lo + w) + bits v lo w * 2 ^ lo + v % 2 ^ lo := by
  unfold bits
  have h1 := Nat.div_add_mod v (2 ^ lo)
  have h2 := Nat.div_add_mod (v / 2 ^ lo) (2 ^ w)
  rw [Nat.div_div_eq_div_mul, ← Nat.pow_add] at h2
  have h3 : 2 ^ (lo + w) = 2 ^ lo * 2 ^ w := Nat.pow_add 2 lo w
  generalize v / 2 ^ (lo + w) = q at *
  generalize v / 2 ^ lo % 2 ^ w = f at *
  generalize v % 2 ^ lo = r at *
  rw [← h2] at h1
  rw [h3]
  nlinarith

/-- A field put in place of another keeps what lies above and below. -/
theorem setBits_eq (v lo w x : Nat) : setBits v lo w x = v / 2 ^ (lo + w) * 2 ^ (lo + w) + x % 2 ^ w * 2 ^ lo + v % 2 ^ lo := by
  unfold setBits
  have := bits_split v lo w
  omega

/-- A field reads what was put into it. -/
@[simp] theorem bits_setBits (v lo w x : Nat) : bits (setBits v lo w x) lo w = x % 2 ^ w := by
  rw [setBits_eq]
  unfold bits
  have e : v / 2 ^ (lo + w) * 2 ^ (lo + w) + x % 2 ^ w * 2 ^ lo + v % 2 ^ lo =
      v % 2 ^ lo + 2 ^ lo * (x % 2 ^ w + 2 ^ w * (v / 2 ^ (lo + w))) := by
    rw [Nat.pow_add]; ring
  rw [e, Nat.add_mul_div_left _ _ (Nat.two_pow_pos lo), Nat.div_eq_of_lt (Nat.mod_lt _ (Nat.two_pow_pos lo)), Nat.zero_add,
    Nat.add_mul_mod_self_left, Nat.mod_mod]

/-- A field that lies below another keeps its value when that one is put. -/
theorem bits_setBits_below {v lo w x a b : Nat} (h : a + b ≤ lo) : bits (setBits v lo w x) a b = bits v a b := by
  rw [setBits_eq]
  unfold bits
  obtain ⟨k, rfl⟩ := Nat.exists_eq_add_of_le h
  have e : v / 2 ^ (a + b + k + w) * 2 ^ (a + b + k + w) + x % 2 ^ w * 2 ^ (a + b + k) + v % 2 ^ (a + b + k) =
      v % 2 ^ (a + b + k) + 2 ^ a * (2 ^ b * (2 ^ k * (v / 2 ^ (a + b + k + w) * 2 ^ w + x % 2 ^ w))) := by
    simp only [Nat.pow_add]; ring
  rw [e, Nat.add_mul_div_left _ _ (Nat.two_pow_pos a), Nat.add_mul_mod_self_left]
  have h3 : v % 2 ^ (a + b + k) / 2 ^ a % 2 ^ b = v / 2 ^ a % 2 ^ b := by
    have : (2 : Nat) ^ (a + b + k) = 2 ^ a * (2 ^ b * 2 ^ k) := by simp only [Nat.pow_add]; ring
    rw [this, Nat.mod_mul_right_div_self, Nat.mod_mul_right_mod]
  exact h3

/-- A field that lies above another keeps its value when that one is put. -/
theorem bits_setBits_above {v lo w x a b : Nat} (h : lo + w ≤ a) : bits (setBits v lo w x) a b = bits v a b := by
  rw [setBits_eq]
  unfold bits
  obtain ⟨k, rfl⟩ := Nat.exists_eq_add_of_le h
  have hlt : x % 2 ^ w * 2 ^ lo + v % 2 ^ lo < 2 ^ (lo + w) := by
    have h1 := Nat.mod_lt x (Nat.two_pow_pos w)
    have h2 := Nat.mod_lt v (Nat.two_pow_pos lo)
    have h3 : (2 : Nat) ^ (lo + w) = 2 ^ w * 2 ^ lo := by rw [Nat.pow_add]; ring
    rw [h3]
    calc x % 2 ^ w * 2 ^ lo + v % 2 ^ lo < x % 2 ^ w * 2 ^ lo + 2 ^ lo := by omega
      _ = (x % 2 ^ w + 1) * 2 ^ lo := by ring
      _ ≤ 2 ^ w * 2 ^ lo := Nat.mul_le_mul_right _ h1
  have e : (v / 2 ^ (lo + w) * 2 ^ (lo + w) + x % 2 ^ w * 2 ^ lo + v % 2 ^ lo) / 2 ^ (lo + w) = v / 2 ^ (lo + w) := by
    rw [Nat.add_assoc, Nat.mul_comm, Nat.mul_add_div (Nat.two_pow_pos _), Nat.div_eq_of_lt hlt, Nat.add_zero]
  rw [Nat.pow_add 2 (lo + w) k, ← Nat.div_div_eq_div_mul, e, Nat.div_div_eq_div_mul]

/-! ## The register file -/

/-- A listed address reads what was listed, every other address what it read before. -/
theorem get?_put (f : RegFile) (a v b : Nat) : (f.put a v).get? b = if a = b then some v else f.get? b := by
  induction f with
  | nil =>
    simp only [RegFile.put, RegFile.get?]
    by_cases h : b = a
    · simp [h]
    · have : ¬ a = b := fun e => h e.symm
      simp [h, this]
  | cons p t ih =>
    obtain ⟨c, w⟩ := p
    simp only [RegFile.put]
    split
    · rename_i hac
      simp only [RegFile.get?]
      by_cases h : b = a
      · simp [h]
      · have : ¬ a = b := fun e => h e.symm
        simp only [h, this, if_false]
        by_cases hb : b < a
        · rw [if_pos hb, if_neg (by omega), if_pos (by omega)]
        · rw [if_neg hb]
    · split
      · rename_i h1 h2
        subst h2
        simp only [RegFile.get?]
        by_cases h : b = a
        · simp [h]
        · have : ¬ a = b := fun e => h e.symm
          simp [h, this]
      · rename_i h1 h2
        simp only [RegFile.get?]
        by_cases h : b = c
        · have : ¬ a = b := fun e => h2 (e.trans h)
          simp [h]
          intro e; exact absurd (e.trans rfl) h2
        · simp only [h, if_false]
          split
          · have : ¬ a = b := by omega
            simp [this]
          · exact ih

/-- A register reads what was written to it, cut to its width. -/
@[simp] theorem rd_wr (n : Node) (r : RegDef) (i v : Nat) : (n.wr r i v).rd r i = v % 2 ^ r.width := by
  simp [Node.rd, Node.wr, RegFile.rd, RegFile.wr, get?_put]

/-- A write leaves every register at another address. -/
theorem rd_wr_ne {n : Node} {r q : RegDef} {i j v : Nat} (h : r.addr i ≠ q.addr j) : (n.wr r i v).rd q j = n.rd q j := by
  simp [Node.rd, Node.wr, RegFile.rd, RegFile.wr, get?_put, h]

/-- What a register reads depends on the register file alone. -/
theorem rd_of_regs {n m : Node} (h : n.regs = m.regs) (r : RegDef) (i : Nat) : n.rd r i = m.rd r i := by simp [Node.rd, h]

/-- A field of a register after a write of that field, where the field lies within the register. -/
theorem fld_setFld (n : Node) (r : RegDef) (i lo w v : Nat) (h : lo + w ≤ r.width) : (n.setFld r i lo w v).fld r i lo w = v % 2 ^ w := by
  have e : ∀ x, bits (x % 2 ^ r.width) lo w = bits x lo w := by
    intro x
    unfold bits
    obtain ⟨k, hk⟩ := Nat.exists_eq_add_of_le h
    rw [hk, show lo + w + k = lo + (w + k) by omega, Nat.pow_add, Nat.mod_mul_right_div_self, Nat.pow_add, Nat.mod_mul_right_mod]
  simp [Node.fld, Node.setFld, e]

/-- The address order of the register file survives a write. -/
theorem put_wf : ∀ {f : RegFile}, f.wf = true → ∀ a v, (f.put a v).wf = true
  | [], _, _, _ => rfl
  | [(b, w)], _, a, v => by
    simp only [RegFile.put]
    split
    · rename_i h; simp [RegFile.wf, h]
    · split
      · rfl
      · rename_i h1 h2
        have : b < a := by omega
        simp [RegFile.wf, this]
  | (b, w) :: (c, x) :: t, h, a, v => by
    simp only [RegFile.wf, Bool.and_eq_true, decide_eq_true_eq] at h
    have ih := put_wf h.2 a v
    simp only [RegFile.put] at ih ⊢
    split
    · rename_i h1; simp [RegFile.wf, h1, h.1, h.2]
    · split
      · rename_i h1 h2; subst h2; simp [RegFile.wf, h.1, h.2]
      · rename_i h1 h2
        have hb : b < a := by omega
        split at ih
        · rename_i h3; simp [RegFile.wf, h3, hb, h.2]
        · split at ih
          · rename_i h3 h4; subst h4
            rw [if_neg h3, if_pos rfl]
            simp only [RegFile.wf, Bool.and_eq_true, decide_eq_true_eq]
            exact ⟨hb, ih⟩
          · rename_i h3 h4
            rw [if_neg h3, if_neg h4]
            simp only [RegFile.wf, Bool.and_eq_true, decide_eq_true_eq]
            exact ⟨h.1, ih⟩

end Sys2Proof.Machine
end

