-- ==== Sys2Proof/Laws/State.lean ====
section
/-!
SUPPORT. What the updates of the state leave: one lemma for each field and update, so that a proof need not unfold a record update.
-/

namespace Sys2Proof.Machine

/-! ## The whole state -/

@[simp] theorem State.settleDdu_ddu (s : State) (d : Ddu) : (s.settleDdu d).ddu = d.carry := rfl
@[simp] theorem State.settleDdu_abl (s : State) (d : Ddu) : (s.settleDdu d).abl = s.abl := rfl
@[simp] theorem State.settleDdu_mem (s : State) (d : Ddu) : (s.settleDdu d).mem = s.mem := rfl
@[simp] theorem State.settleDdu_rdata (s : State) (d : Ddu) : (s.settleDdu d).rdata = s.rdata := rfl
@[simp] theorem State.settleDdu_busErr (s : State) (d : Ddu) : (s.settleDdu d).busErr = s.busErr := rfl
@[simp] theorem State.settleDdu_free (s : State) (d : Ddu) : (s.settleDdu d).free = s.free := rfl
@[simp] theorem State.settleDdu_pending (s : State) (d : Ddu) : (s.settleDdu d).pending = s.pending := rfl
@[simp] theorem putAbl_ddu (s : State) (a : Abl) : (putAbl s a).ddu = s.ddu := rfl
@[simp] theorem State.settleAbl_ddu (s : State) (a : Abl) : (s.settleAbl a).ddu = s.ddu := rfl
@[simp] theorem putAbl_rdata (s : State) (a : Abl) : (putAbl s a).rdata = s.rdata := rfl
@[simp] theorem State.settleAbl_rdata (s : State) (a : Abl) : (s.settleAbl a).rdata = s.rdata := rfl
@[simp] theorem putAbl_busErr (s : State) (a : Abl) : (putAbl s a).busErr = s.busErr := rfl
@[simp] theorem State.settleAbl_busErr (s : State) (a : Abl) : (s.settleAbl a).busErr = s.busErr := rfl
@[simp] theorem putAbl_free (s : State) (a : Abl) : (putAbl s a).free = s.free := rfl
@[simp] theorem State.settleAbl_free (s : State) (a : Abl) : (s.settleAbl a).free = s.free := rfl
@[simp] theorem putAbl_pending (s : State) (a : Abl) : (putAbl s a).pending = s.pending := rfl
@[simp] theorem State.settleAbl_pending (s : State) (a : Abl) : (s.settleAbl a).pending = s.pending := rfl

/-! ## The two devices -/

@[simp] theorem Ddu.on_n (d : Ddu) (f : Node → Node) : (d.on f).n = f d.n := rfl
@[simp] theorem Ddu.on_bnd (d : Ddu) (f : Node → Node) : (d.on f).bnd = d.bnd := rfl
@[simp] theorem Ddu.on_streams (d : Ddu) (f : Node → Node) : (d.on f).streams = d.streams := rfl
@[simp] theorem Ddu.on_sens (d : Ddu) (f : Node → Node) : (d.on f).sens = d.sens := rfl
@[simp] theorem Ddu.on_trc (d : Ddu) (f : Node → Node) : (d.on f).trc = d.trc := rfl
@[simp] theorem Ddu.on_fabric (d : Ddu) (f : Node → Node) : (d.on f).fabric = d.fabric := rfl
@[simp] theorem Ddu.on_fb (d : Ddu) (f : Node → Node) : (d.on f).fb = d.fb := rfl
@[simp] theorem Ddu.on_job (d : Ddu) (f : Node → Node) : (d.on f).job = d.job := rfl
@[simp] theorem Ddu.on_sum (d : Ddu) (f : Node → Node) : (d.on f).sum = d.sum := rfl
@[simp] theorem Ddu.on_lrb (d : Ddu) (f : Node → Node) : (d.on f).lrb = d.lrb := rfl
@[simp] theorem Ddu.on_pw (d : Ddu) (f : Node → Node) : (d.on f).pw = d.pw := rfl
@[simp] theorem Ddu.on_chk (d : Ddu) (f : Node → Node) : (d.on f).chk = d.chk := rfl
@[simp] theorem Ddu.on_led (d : Ddu) (f : Node → Node) : (d.on f).led = d.led := rfl
@[simp] theorem Ddu.on_sec (d : Ddu) (f : Node → Node) : (d.on f).sec = d.sec := rfl
@[simp] theorem Ddu.on_pattern (d : Ddu) (f : Node → Node) : (d.on f).pattern = d.pattern := rfl
@[simp] theorem Abl.on_n (a : Abl) (f : Node → Node) : (a.on f).n = f a.n := rfl
@[simp] theorem Abl.on_psamp (a : Abl) (f : Node → Node) : (a.on f).psamp = a.psamp := rfl
@[simp] theorem Abl.on_profJobs (a : Abl) (f : Node → Node) : (a.on f).profJobs = a.profJobs := rfl
@[simp] theorem Abl.on_adopted (a : Abl) (f : Node → Node) : (a.on f).adopted = a.adopted := rfl
@[simp] theorem Abl.on_fans (a : Abl) (f : Node → Node) : (a.on f).fans = a.fans := rfl
@[simp] theorem Abl.on_jobs (a : Abl) (f : Node → Node) : (a.on f).jobs = a.jobs := rfl
@[simp] theorem Abl.on_groupGuard (a : Abl) (f : Node → Node) : (a.on f).groupGuard = a.groupGuard := rfl
@[simp] theorem Abl.on_groupRanges (a : Abl) (f : Node → Node) : (a.on f).groupRanges = a.groupRanges := rfl
@[simp] theorem Abl.on_red (a : Abl) (f : Node → Node) : (a.on f).red = a.red := rfl
@[simp] theorem Abl.on_bars (a : Abl) (f : Node → Node) : (a.on f).bars = a.bars := rfl
@[simp] theorem Abl.on_tree (a : Abl) (f : Node → Node) : (a.on f).tree = a.tree := rfl
@[simp] theorem Abl.on_grid (a : Abl) (f : Node → Node) : (a.on f).grid = a.grid := rfl
@[simp] theorem Abl.on_ver (a : Abl) (f : Node → Node) : (a.on f).ver = a.ver := rfl
@[simp] theorem Abl.on_gov (a : Abl) (f : Node → Node) : (a.on f).gov = a.gov := rfl
@[simp] theorem Abl.on_hist (a : Abl) (f : Node → Node) : (a.on f).hist = a.hist := rfl
@[simp] theorem Abl.on_sec (a : Abl) (f : Node → Node) : (a.on f).sec = a.sec := rfl
@[simp] theorem Abl.on_pwr (a : Abl) (f : Node → Node) : (a.on f).pwr = a.pwr := rfl
@[simp] theorem Abl.on_host (a : Abl) (f : Node → Node) : (a.on f).host = a.host := rfl
@[simp] theorem Abl.on_traces (a : Abl) (f : Node → Node) : (a.on f).traces = a.traces := rfl
@[simp] theorem Abl.on_guard (a : Abl) (f : Node → Node) : (a.on f).guard = a.guard := rfl
@[simp] theorem Abl.on_pins (a : Abl) (f : Node → Node) : (a.on f).pins = a.pins := rfl
@[simp] theorem Abl.on_out (a : Abl) (f : Node → Node) : (a.on f).out = a.out := rfl
@[simp] theorem Abl.on_wipe (a : Abl) (f : Node → Node) : (a.on f).wipe = a.wipe := rfl
@[simp] theorem Ddu.wr_n (d : Ddu) (r : RegDef) (i v : Nat) : (d.wr r i v).n = d.n.wr r i v := rfl
@[simp] theorem Ddu.bump_n (d : Ddu) (r : RegDef) (i k : Nat) : (d.bump r i k).n = d.n.bump r i k := rfl
@[simp] theorem Ddu.wr_bnd (d : Ddu) (r : RegDef) (i v : Nat) : (d.wr r i v).bnd = d.bnd := rfl
@[simp] theorem Ddu.bump_bnd (d : Ddu) (r : RegDef) (i k : Nat) : (d.bump r i k).bnd = d.bnd := rfl
@[simp] theorem Ddu.wr_streams (d : Ddu) (r : RegDef) (i v : Nat) : (d.wr r i v).streams = d.streams := rfl
@[simp] theorem Ddu.bump_streams (d : Ddu) (r : RegDef) (i k : Nat) : (d.bump r i k).streams = d.streams := rfl
@[simp] theorem Ddu.wr_sens (d : Ddu) (r : RegDef) (i v : Nat) : (d.wr r i v).sens = d.sens := rfl
@[simp] theorem Ddu.bump_sens (d : Ddu) (r : RegDef) (i k : Nat) : (d.bump r i k).sens = d.sens := rfl
@[simp] theorem Ddu.wr_trc (d : Ddu) (r : RegDef) (i v : Nat) : (d.wr r i v).trc = d.trc := rfl
@[simp] theorem Ddu.bump_trc (d : Ddu) (r : RegDef) (i k : Nat) : (d.bump r i k).trc = d.trc := rfl
@[simp] theorem Ddu.wr_fabric (d : Ddu) (r : RegDef) (i v : Nat) : (d.wr r i v).fabric = d.fabric := rfl
@[simp] theorem Ddu.bump_fabric (d : Ddu) (r : RegDef) (i k : Nat) : (d.bump r i k).fabric = d.fabric := rfl
@[simp] theorem Ddu.wr_fb (d : Ddu) (r : RegDef) (i v : Nat) : (d.wr r i v).fb = d.fb := rfl
@[simp] theorem Ddu.bump_fb (d : Ddu) (r : RegDef) (i k : Nat) : (d.bump r i k).fb = d.fb := rfl
@[simp] theorem Ddu.wr_job (d : Ddu) (r : RegDef) (i v : Nat) : (d.wr r i v).job = d.job := rfl
@[simp] theorem Ddu.bump_job (d : Ddu) (r : RegDef) (i k : Nat) : (d.bump r i k).job = d.job := rfl
@[simp] theorem Ddu.wr_sum (d : Ddu) (r : RegDef) (i v : Nat) : (d.wr r i v).sum = d.sum := rfl
@[simp] theorem Ddu.bump_sum (d : Ddu) (r : RegDef) (i k : Nat) : (d.bump r i k).sum = d.sum := rfl
@[simp] theorem Ddu.wr_lrb (d : Ddu) (r : RegDef) (i v : Nat) : (d.wr r i v).lrb = d.lrb := rfl
@[simp] theorem Ddu.bump_lrb (d : Ddu) (r : RegDef) (i k : Nat) : (d.bump r i k).lrb = d.lrb := rfl
@[simp] theorem Ddu.wr_pw (d : Ddu) (r : RegDef) (i v : Nat) : (d.wr r i v).pw = d.pw := rfl
@[simp] theorem Ddu.bump_pw (d : Ddu) (r : RegDef) (i k : Nat) : (d.bump r i k).pw = d.pw := rfl
@[simp] theorem Ddu.wr_chk (d : Ddu) (r : RegDef) (i v : Nat) : (d.wr r i v).chk = d.chk := rfl
@[simp] theorem Ddu.bump_chk (d : Ddu) (r : RegDef) (i k : Nat) : (d.bump r i k).chk = d.chk := rfl
@[simp] theorem Ddu.wr_led (d : Ddu) (r : RegDef) (i v : Nat) : (d.wr r i v).led = d.led := rfl
@[simp] theorem Ddu.bump_led (d : Ddu) (r : RegDef) (i k : Nat) : (d.bump r i k).led = d.led := rfl
@[simp] theorem Ddu.wr_sec (d : Ddu) (r : RegDef) (i v : Nat) : (d.wr r i v).sec = d.sec := rfl
@[simp] theorem Ddu.bump_sec (d : Ddu) (r : RegDef) (i k : Nat) : (d.bump r i k).sec = d.sec := rfl
@[simp] theorem Ddu.wr_pattern (d : Ddu) (r : RegDef) (i v : Nat) : (d.wr r i v).pattern = d.pattern := rfl
@[simp] theorem Ddu.bump_pattern (d : Ddu) (r : RegDef) (i k : Nat) : (d.bump r i k).pattern = d.pattern := rfl

/-! ## What both devices have -/

@[simp] theorem Node.wr_dev (n : Node) (r : RegDef) (i v : Nat) : (n.wr r i v).dev = n.dev := rfl
@[simp] theorem Node.wr_seqs (n : Node) (r : RegDef) (i v : Nat) : (n.wr r i v).seqs = n.seqs := rfl
@[simp] theorem Node.wr_recx (n : Node) (r : RegDef) (i v : Nat) : (n.wr r i v).recx = n.recx := rfl
@[simp] theorem Node.wr_written (n : Node) (r : RegDef) (i v : Nat) : (n.wr r i v).written = n.written := rfl
@[simp] theorem Node.wr_limited (n : Node) (r : RegDef) (i v : Nat) : (n.wr r i v).limited = n.limited := rfl
@[simp] theorem Node.wr_txq (n : Node) (r : RegDef) (i v : Nat) : (n.wr r i v).txq = n.txq := rfl
@[simp] theorem Node.wr_lossDue (n : Node) (r : RegDef) (i v : Nat) : (n.wr r i v).lossDue = n.lossDue := rfl
@[simp] theorem Node.wr_delivered (n : Node) (r : RegDef) (i v : Nat) : (n.wr r i v).delivered = n.delivered := rfl
@[simp] theorem Node.wr_lanes (n : Node) (r : RegDef) (i v : Nat) : (n.wr r i v).lanes = n.lanes := rfl
@[simp] theorem Node.wr_fbHost (n : Node) (r : RegDef) (i v : Nat) : (n.wr r i v).fbHost = n.fbHost := rfl
@[simp] theorem Node.wr_parent (n : Node) (r : RegDef) (i v : Nat) : (n.wr r i v).parent = n.parent := rfl
@[simp] theorem Node.wr_usch (n : Node) (r : RegDef) (i v : Nat) : (n.wr r i v).usch = n.usch := rfl
@[simp] theorem Node.wr_evs (n : Node) (r : RegDef) (i v : Nat) : (n.wr r i v).evs = n.evs := rfl
@[simp] theorem Node.wr_bw (n : Node) (r : RegDef) (i v : Nat) : (n.wr r i v).bw = n.bw := rfl
@[simp] theorem Node.wr_preAcc (n : Node) (r : RegDef) (i v : Nat) : (n.wr r i v).preAcc = n.preAcc := rfl
@[simp] theorem Node.wr_pchain (n : Node) (r : RegDef) (i v : Nat) : (n.wr r i v).pchain = n.pchain := rfl
@[simp] theorem Node.wr_frac (n : Node) (r : RegDef) (i v : Nat) : (n.wr r i v).frac = n.frac := rfl
@[simp] theorem Node.wr_timex (n : Node) (r : RegDef) (i v : Nat) : (n.wr r i v).timex = n.timex := rfl
@[simp] theorem Node.wr_sync (n : Node) (r : RegDef) (i v : Nat) : (n.wr r i v).sync = n.sync := rfl
@[simp] theorem Node.wr_flt (n : Node) (r : RegDef) (i v : Nat) : (n.wr r i v).flt = n.flt := rfl
@[simp] theorem Node.wr_aic (n : Node) (r : RegDef) (i v : Nat) : (n.wr r i v).aic = n.aic := rfl
@[simp] theorem Node.wr_resets (n : Node) (r : RegDef) (i v : Nat) : (n.wr r i v).resets = n.resets := rfl
@[simp] theorem Node.wr_due (n : Node) (r : RegDef) (i v : Nat) : (n.wr r i v).due = n.due := rfl
@[simp] theorem Node.wr_mb (n : Node) (r : RegDef) (i v : Nat) : (n.wr r i v).mb = n.mb := rfl
@[simp] theorem Node.wr_mc (n : Node) (r : RegDef) (i v : Nat) : (n.wr r i v).mc = n.mc := rfl
@[simp] theorem Node.wr_msi (n : Node) (r : RegDef) (i v : Nat) : (n.wr r i v).msi = n.msi := rfl
@[simp] theorem Node.wr_tostore (n : Node) (r : RegDef) (i v : Nat) : (n.wr r i v).tostore = n.tostore := rfl
@[simp] theorem Node.wr_badRecs (n : Node) (r : RegDef) (i v : Nat) : (n.wr r i v).badRecs = n.badRecs := rfl
@[simp] theorem Node.wr_abortLate (n : Node) (r : RegDef) (i v : Nat) : (n.wr r i v).abortLate = n.abortLate := rfl
@[simp] theorem Node.wr_opHold (n : Node) (r : RegDef) (i v : Nat) : (n.wr r i v).opHold = n.opHold := rfl
@[simp] theorem Node.wr_shareHold (n : Node) (r : RegDef) (i v : Nat) : (n.wr r i v).shareHold = n.shareHold := rfl
@[simp] theorem Node.setFld_dev (n : Node) (r : RegDef) (i lo w v : Nat) : (n.setFld r i lo w v).dev = n.dev := rfl
@[simp] theorem Node.setFld_seqs (n : Node) (r : RegDef) (i lo w v : Nat) : (n.setFld r i lo w v).seqs = n.seqs := rfl
@[simp] theorem Node.setFld_recx (n : Node) (r : RegDef) (i lo w v : Nat) : (n.setFld r i lo w v).recx = n.recx := rfl
@[simp] theorem Node.setFld_written (n : Node) (r : RegDef) (i lo w v : Nat) : (n.setFld r i lo w v).written = n.written := rfl
@[simp] theorem Node.setFld_limited (n : Node) (r : RegDef) (i lo w v : Nat) : (n.setFld r i lo w v).limited = n.limited := rfl
@[simp] theorem Node.setFld_txq (n : Node) (r : RegDef) (i lo w v : Nat) : (n.setFld r i lo w v).txq = n.txq := rfl
@[simp] theorem Node.setFld_lossDue (n : Node) (r : RegDef) (i lo w v : Nat) : (n.setFld r i lo w v).lossDue = n.lossDue := rfl
@[simp] theorem Node.setFld_delivered (n : Node) (r : RegDef) (i lo w v : Nat) : (n.setFld r i lo w v).delivered = n.delivered := rfl
@[simp] theorem Node.setFld_lanes (n : Node) (r : RegDef) (i lo w v : Nat) : (n.setFld r i lo w v).lanes = n.lanes := rfl
@[simp] theorem Node.setFld_fbHost (n : Node) (r : RegDef) (i lo w v : Nat) : (n.setFld r i lo w v).fbHost = n.fbHost := rfl
@[simp] theorem Node.setFld_parent (n : Node) (r : RegDef) (i lo w v : Nat) : (n.setFld r i lo w v).parent = n.parent := rfl
@[simp] theorem Node.setFld_usch (n : Node) (r : RegDef) (i lo w v : Nat) : (n.setFld r i lo w v).usch = n.usch := rfl
@[simp] theorem Node.setFld_evs (n : Node) (r : RegDef) (i lo w v : Nat) : (n.setFld r i lo w v).evs = n.evs := rfl
@[simp] theorem Node.setFld_bw (n : Node) (r : RegDef) (i lo w v : Nat) : (n.setFld r i lo w v).bw = n.bw := rfl
@[simp] theorem Node.setFld_preAcc (n : Node) (r : RegDef) (i lo w v : Nat) : (n.setFld r i lo w v).preAcc = n.preAcc := rfl
@[simp] theorem Node.setFld_pchain (n : Node) (r : RegDef) (i lo w v : Nat) : (n.setFld r i lo w v).pchain = n.pchain := rfl
@[simp] theorem Node.setFld_frac (n : Node) (r : RegDef) (i lo w v : Nat) : (n.setFld r i lo w v).frac = n.frac := rfl
@[simp] theorem Node.setFld_timex (n : Node) (r : RegDef) (i lo w v : Nat) : (n.setFld r i lo w v).timex = n.timex := rfl
@[simp] theorem Node.setFld_sync (n : Node) (r : RegDef) (i lo w v : Nat) : (n.setFld r i lo w v).sync = n.sync := rfl
@[simp] theorem Node.setFld_flt (n : Node) (r : RegDef) (i lo w v : Nat) : (n.setFld r i lo w v).flt = n.flt := rfl
@[simp] theorem Node.setFld_aic (n : Node) (r : RegDef) (i lo w v : Nat) : (n.setFld r i lo w v).aic = n.aic := rfl
@[simp] theorem Node.setFld_resets (n : Node) (r : RegDef) (i lo w v : Nat) : (n.setFld r i lo w v).resets = n.resets := rfl
@[simp] theorem Node.setFld_due (n : Node) (r : RegDef) (i lo w v : Nat) : (n.setFld r i lo w v).due = n.due := rfl
@[simp] theorem Node.setFld_mb (n : Node) (r : RegDef) (i lo w v : Nat) : (n.setFld r i lo w v).mb = n.mb := rfl
@[simp] theorem Node.setFld_mc (n : Node) (r : RegDef) (i lo w v : Nat) : (n.setFld r i lo w v).mc = n.mc := rfl
@[simp] theorem Node.setFld_msi (n : Node) (r : RegDef) (i lo w v : Nat) : (n.setFld r i lo w v).msi = n.msi := rfl
@[simp] theorem Node.setFld_tostore (n : Node) (r : RegDef) (i lo w v : Nat) : (n.setFld r i lo w v).tostore = n.tostore := rfl
@[simp] theorem Node.setFld_badRecs (n : Node) (r : RegDef) (i lo w v : Nat) : (n.setFld r i lo w v).badRecs = n.badRecs := rfl
@[simp] theorem Node.setFld_abortLate (n : Node) (r : RegDef) (i lo w v : Nat) : (n.setFld r i lo w v).abortLate = n.abortLate := rfl
@[simp] theorem Node.setFld_opHold (n : Node) (r : RegDef) (i lo w v : Nat) : (n.setFld r i lo w v).opHold = n.opHold := rfl
@[simp] theorem Node.setFld_shareHold (n : Node) (r : RegDef) (i lo w v : Nat) : (n.setFld r i lo w v).shareHold = n.shareHold := rfl
@[simp] theorem Node.setB_dev (n : Node) (r : RegDef) (i b : Nat) (v : Bool) : (n.setB r i b v).dev = n.dev := rfl
@[simp] theorem Node.setB_seqs (n : Node) (r : RegDef) (i b : Nat) (v : Bool) : (n.setB r i b v).seqs = n.seqs := rfl
@[simp] theorem Node.setB_recx (n : Node) (r : RegDef) (i b : Nat) (v : Bool) : (n.setB r i b v).recx = n.recx := rfl
@[simp] theorem Node.setB_written (n : Node) (r : RegDef) (i b : Nat) (v : Bool) : (n.setB r i b v).written = n.written := rfl
@[simp] theorem Node.setB_limited (n : Node) (r : RegDef) (i b : Nat) (v : Bool) : (n.setB r i b v).limited = n.limited := rfl
@[simp] theorem Node.setB_txq (n : Node) (r : RegDef) (i b : Nat) (v : Bool) : (n.setB r i b v).txq = n.txq := rfl
@[simp] theorem Node.setB_lossDue (n : Node) (r : RegDef) (i b : Nat) (v : Bool) : (n.setB r i b v).lossDue = n.lossDue := rfl
@[simp] theorem Node.setB_delivered (n : Node) (r : RegDef) (i b : Nat) (v : Bool) : (n.setB r i b v).delivered = n.delivered := rfl
@[simp] theorem Node.setB_lanes (n : Node) (r : RegDef) (i b : Nat) (v : Bool) : (n.setB r i b v).lanes = n.lanes := rfl
@[simp] theorem Node.setB_fbHost (n : Node) (r : RegDef) (i b : Nat) (v : Bool) : (n.setB r i b v).fbHost = n.fbHost := rfl
@[simp] theorem Node.setB_parent (n : Node) (r : RegDef) (i b : Nat) (v : Bool) : (n.setB r i b v).parent = n.parent := rfl
@[simp] theorem Node.setB_usch (n : Node) (r : RegDef) (i b : Nat) (v : Bool) : (n.setB r i b v).usch = n.usch := rfl
@[simp] theorem Node.setB_evs (n : Node) (r : RegDef) (i b : Nat) (v : Bool) : (n.setB r i b v).evs = n.evs := rfl
@[simp] theorem Node.setB_bw (n : Node) (r : RegDef) (i b : Nat) (v : Bool) : (n.setB r i b v).bw = n.bw := rfl
@[simp] theorem Node.setB_preAcc (n : Node) (r : RegDef) (i b : Nat) (v : Bool) : (n.setB r i b v).preAcc = n.preAcc := rfl
@[simp] theorem Node.setB_pchain (n : Node) (r : RegDef) (i b : Nat) (v : Bool) : (n.setB r i b v).pchain = n.pchain := rfl
@[simp] theorem Node.setB_frac (n : Node) (r : RegDef) (i b : Nat) (v : Bool) : (n.setB r i b v).frac = n.frac := rfl
@[simp] theorem Node.setB_timex (n : Node) (r : RegDef) (i b : Nat) (v : Bool) : (n.setB r i b v).timex = n.timex := rfl
@[simp] theorem Node.setB_sync (n : Node) (r : RegDef) (i b : Nat) (v : Bool) : (n.setB r i b v).sync = n.sync := rfl
@[simp] theorem Node.setB_flt (n : Node) (r : RegDef) (i b : Nat) (v : Bool) : (n.setB r i b v).flt = n.flt := rfl
@[simp] theorem Node.setB_aic (n : Node) (r : RegDef) (i b : Nat) (v : Bool) : (n.setB r i b v).aic = n.aic := rfl
@[simp] theorem Node.setB_resets (n : Node) (r : RegDef) (i b : Nat) (v : Bool) : (n.setB r i b v).resets = n.resets := rfl
@[simp] theorem Node.setB_due (n : Node) (r : RegDef) (i b : Nat) (v : Bool) : (n.setB r i b v).due = n.due := rfl
@[simp] theorem Node.setB_mb (n : Node) (r : RegDef) (i b : Nat) (v : Bool) : (n.setB r i b v).mb = n.mb := rfl
@[simp] theorem Node.setB_mc (n : Node) (r : RegDef) (i b : Nat) (v : Bool) : (n.setB r i b v).mc = n.mc := rfl
@[simp] theorem Node.setB_msi (n : Node) (r : RegDef) (i b : Nat) (v : Bool) : (n.setB r i b v).msi = n.msi := rfl
@[simp] theorem Node.setB_tostore (n : Node) (r : RegDef) (i b : Nat) (v : Bool) : (n.setB r i b v).tostore = n.tostore := rfl
@[simp] theorem Node.setB_badRecs (n : Node) (r : RegDef) (i b : Nat) (v : Bool) : (n.setB r i b v).badRecs = n.badRecs := rfl
@[simp] theorem Node.setB_abortLate (n : Node) (r : RegDef) (i b : Nat) (v : Bool) : (n.setB r i b v).abortLate = n.abortLate := rfl
@[simp] theorem Node.setB_opHold (n : Node) (r : RegDef) (i b : Nat) (v : Bool) : (n.setB r i b v).opHold = n.opHold := rfl
@[simp] theorem Node.setB_shareHold (n : Node) (r : RegDef) (i b : Nat) (v : Bool) : (n.setB r i b v).shareHold = n.shareHold := rfl
@[simp] theorem Node.bump_dev (n : Node) (r : RegDef) (i k : Nat) : (n.bump r i k).dev = n.dev := rfl
@[simp] theorem Node.bump_seqs (n : Node) (r : RegDef) (i k : Nat) : (n.bump r i k).seqs = n.seqs := rfl
@[simp] theorem Node.bump_recx (n : Node) (r : RegDef) (i k : Nat) : (n.bump r i k).recx = n.recx := rfl
@[simp] theorem Node.bump_written (n : Node) (r : RegDef) (i k : Nat) : (n.bump r i k).written = n.written := rfl
@[simp] theorem Node.bump_limited (n : Node) (r : RegDef) (i k : Nat) : (n.bump r i k).limited = n.limited := rfl
@[simp] theorem Node.bump_txq (n : Node) (r : RegDef) (i k : Nat) : (n.bump r i k).txq = n.txq := rfl
@[simp] theorem Node.bump_lossDue (n : Node) (r : RegDef) (i k : Nat) : (n.bump r i k).lossDue = n.lossDue := rfl
@[simp] theorem Node.bump_delivered (n : Node) (r : RegDef) (i k : Nat) : (n.bump r i k).delivered = n.delivered := rfl
@[simp] theorem Node.bump_lanes (n : Node) (r : RegDef) (i k : Nat) : (n.bump r i k).lanes = n.lanes := rfl
@[simp] theorem Node.bump_fbHost (n : Node) (r : RegDef) (i k : Nat) : (n.bump r i k).fbHost = n.fbHost := rfl
@[simp] theorem Node.bump_parent (n : Node) (r : RegDef) (i k : Nat) : (n.bump r i k).parent = n.parent := rfl
@[simp] theorem Node.bump_usch (n : Node) (r : RegDef) (i k : Nat) : (n.bump r i k).usch = n.usch := rfl
@[simp] theorem Node.bump_evs (n : Node) (r : RegDef) (i k : Nat) : (n.bump r i k).evs = n.evs := rfl
@[simp] theorem Node.bump_bw (n : Node) (r : RegDef) (i k : Nat) : (n.bump r i k).bw = n.bw := rfl
@[simp] theorem Node.bump_preAcc (n : Node) (r : RegDef) (i k : Nat) : (n.bump r i k).preAcc = n.preAcc := rfl
@[simp] theorem Node.bump_pchain (n : Node) (r : RegDef) (i k : Nat) : (n.bump r i k).pchain = n.pchain := rfl
@[simp] theorem Node.bump_frac (n : Node) (r : RegDef) (i k : Nat) : (n.bump r i k).frac = n.frac := rfl
@[simp] theorem Node.bump_timex (n : Node) (r : RegDef) (i k : Nat) : (n.bump r i k).timex = n.timex := rfl
@[simp] theorem Node.bump_sync (n : Node) (r : RegDef) (i k : Nat) : (n.bump r i k).sync = n.sync := rfl
@[simp] theorem Node.bump_flt (n : Node) (r : RegDef) (i k : Nat) : (n.bump r i k).flt = n.flt := rfl
@[simp] theorem Node.bump_aic (n : Node) (r : RegDef) (i k : Nat) : (n.bump r i k).aic = n.aic := rfl
@[simp] theorem Node.bump_resets (n : Node) (r : RegDef) (i k : Nat) : (n.bump r i k).resets = n.resets := rfl
@[simp] theorem Node.bump_due (n : Node) (r : RegDef) (i k : Nat) : (n.bump r i k).due = n.due := rfl
@[simp] theorem Node.bump_mb (n : Node) (r : RegDef) (i k : Nat) : (n.bump r i k).mb = n.mb := rfl
@[simp] theorem Node.bump_mc (n : Node) (r : RegDef) (i k : Nat) : (n.bump r i k).mc = n.mc := rfl
@[simp] theorem Node.bump_msi (n : Node) (r : RegDef) (i k : Nat) : (n.bump r i k).msi = n.msi := rfl
@[simp] theorem Node.bump_tostore (n : Node) (r : RegDef) (i k : Nat) : (n.bump r i k).tostore = n.tostore := rfl
@[simp] theorem Node.bump_badRecs (n : Node) (r : RegDef) (i k : Nat) : (n.bump r i k).badRecs = n.badRecs := rfl
@[simp] theorem Node.bump_abortLate (n : Node) (r : RegDef) (i k : Nat) : (n.bump r i k).abortLate = n.abortLate := rfl
@[simp] theorem Node.bump_opHold (n : Node) (r : RegDef) (i k : Nat) : (n.bump r i k).opHold = n.opHold := rfl
@[simp] theorem Node.bump_shareHold (n : Node) (r : RegDef) (i k : Nat) : (n.bump r i k).shareHold = n.shareHold := rfl
@[simp] theorem Node.resetRegs_dev (n : Node) (lo hi : Nat) : (n.resetRegs lo hi).dev = n.dev := rfl
@[simp] theorem Node.resetRegs_seqs (n : Node) (lo hi : Nat) : (n.resetRegs lo hi).seqs = n.seqs := rfl
@[simp] theorem Node.resetRegs_recx (n : Node) (lo hi : Nat) : (n.resetRegs lo hi).recx = n.recx := rfl
@[simp] theorem Node.resetRegs_written (n : Node) (lo hi : Nat) : (n.resetRegs lo hi).written = n.written := rfl
@[simp] theorem Node.resetRegs_limited (n : Node) (lo hi : Nat) : (n.resetRegs lo hi).limited = n.limited := rfl
@[simp] theorem Node.resetRegs_txq (n : Node) (lo hi : Nat) : (n.resetRegs lo hi).txq = n.txq := rfl
@[simp] theorem Node.resetRegs_lossDue (n : Node) (lo hi : Nat) : (n.resetRegs lo hi).lossDue = n.lossDue := rfl
@[simp] theorem Node.resetRegs_delivered (n : Node) (lo hi : Nat) : (n.resetRegs lo hi).delivered = n.delivered := rfl
@[simp] theorem Node.resetRegs_lanes (n : Node) (lo hi : Nat) : (n.resetRegs lo hi).lanes = n.lanes := rfl
@[simp] theorem Node.resetRegs_fbHost (n : Node) (lo hi : Nat) : (n.resetRegs lo hi).fbHost = n.fbHost := rfl
@[simp] theorem Node.resetRegs_parent (n : Node) (lo hi : Nat) : (n.resetRegs lo hi).parent = n.parent := rfl
@[simp] theorem Node.resetRegs_usch (n : Node) (lo hi : Nat) : (n.resetRegs lo hi).usch = n.usch := rfl
@[simp] theorem Node.resetRegs_evs (n : Node) (lo hi : Nat) : (n.resetRegs lo hi).evs = n.evs := rfl
@[simp] theorem Node.resetRegs_bw (n : Node) (lo hi : Nat) : (n.resetRegs lo hi).bw = n.bw := rfl
@[simp] theorem Node.resetRegs_preAcc (n : Node) (lo hi : Nat) : (n.resetRegs lo hi).preAcc = n.preAcc := rfl
@[simp] theorem Node.resetRegs_pchain (n : Node) (lo hi : Nat) : (n.resetRegs lo hi).pchain = n.pchain := rfl
@[simp] theorem Node.resetRegs_frac (n : Node) (lo hi : Nat) : (n.resetRegs lo hi).frac = n.frac := rfl
@[simp] theorem Node.resetRegs_timex (n : Node) (lo hi : Nat) : (n.resetRegs lo hi).timex = n.timex := rfl
@[simp] theorem Node.resetRegs_sync (n : Node) (lo hi : Nat) : (n.resetRegs lo hi).sync = n.sync := rfl
@[simp] theorem Node.resetRegs_flt (n : Node) (lo hi : Nat) : (n.resetRegs lo hi).flt = n.flt := rfl
@[simp] theorem Node.resetRegs_aic (n : Node) (lo hi : Nat) : (n.resetRegs lo hi).aic = n.aic := rfl
@[simp] theorem Node.resetRegs_resets (n : Node) (lo hi : Nat) : (n.resetRegs lo hi).resets = n.resets := rfl
@[simp] theorem Node.resetRegs_due (n : Node) (lo hi : Nat) : (n.resetRegs lo hi).due = n.due := rfl
@[simp] theorem Node.resetRegs_mb (n : Node) (lo hi : Nat) : (n.resetRegs lo hi).mb = n.mb := rfl
@[simp] theorem Node.resetRegs_mc (n : Node) (lo hi : Nat) : (n.resetRegs lo hi).mc = n.mc := rfl
@[simp] theorem Node.resetRegs_msi (n : Node) (lo hi : Nat) : (n.resetRegs lo hi).msi = n.msi := rfl
@[simp] theorem Node.resetRegs_tostore (n : Node) (lo hi : Nat) : (n.resetRegs lo hi).tostore = n.tostore := rfl
@[simp] theorem Node.resetRegs_badRecs (n : Node) (lo hi : Nat) : (n.resetRegs lo hi).badRecs = n.badRecs := rfl
@[simp] theorem Node.resetRegs_abortLate (n : Node) (lo hi : Nat) : (n.resetRegs lo hi).abortLate = n.abortLate := rfl
@[simp] theorem Node.resetRegs_opHold (n : Node) (lo hi : Nat) : (n.resetRegs lo hi).opHold = n.opHold := rfl
@[simp] theorem Node.resetRegs_shareHold (n : Node) (lo hi : Nat) : (n.resetRegs lo hi).shareHold = n.shareHold := rfl
@[simp] theorem Node.softWrite_dev (n : Node) (r : RegDef) (i m v : Nat) : (n.softWrite r i m v).dev = n.dev := rfl
@[simp] theorem Node.softWrite_seqs (n : Node) (r : RegDef) (i m v : Nat) : (n.softWrite r i m v).seqs = n.seqs := rfl
@[simp] theorem Node.softWrite_recx (n : Node) (r : RegDef) (i m v : Nat) : (n.softWrite r i m v).recx = n.recx := rfl
@[simp] theorem Node.softWrite_written (n : Node) (r : RegDef) (i m v : Nat) : (n.softWrite r i m v).written = n.written := rfl
@[simp] theorem Node.softWrite_limited (n : Node) (r : RegDef) (i m v : Nat) : (n.softWrite r i m v).limited = n.limited := rfl
@[simp] theorem Node.softWrite_txq (n : Node) (r : RegDef) (i m v : Nat) : (n.softWrite r i m v).txq = n.txq := rfl
@[simp] theorem Node.softWrite_lossDue (n : Node) (r : RegDef) (i m v : Nat) : (n.softWrite r i m v).lossDue = n.lossDue := rfl
@[simp] theorem Node.softWrite_delivered (n : Node) (r : RegDef) (i m v : Nat) : (n.softWrite r i m v).delivered = n.delivered := rfl
@[simp] theorem Node.softWrite_lanes (n : Node) (r : RegDef) (i m v : Nat) : (n.softWrite r i m v).lanes = n.lanes := rfl
@[simp] theorem Node.softWrite_fbHost (n : Node) (r : RegDef) (i m v : Nat) : (n.softWrite r i m v).fbHost = n.fbHost := rfl
@[simp] theorem Node.softWrite_parent (n : Node) (r : RegDef) (i m v : Nat) : (n.softWrite r i m v).parent = n.parent := rfl
@[simp] theorem Node.softWrite_usch (n : Node) (r : RegDef) (i m v : Nat) : (n.softWrite r i m v).usch = n.usch := rfl
@[simp] theorem Node.softWrite_evs (n : Node) (r : RegDef) (i m v : Nat) : (n.softWrite r i m v).evs = n.evs := rfl
@[simp] theorem Node.softWrite_bw (n : Node) (r : RegDef) (i m v : Nat) : (n.softWrite r i m v).bw = n.bw := rfl
@[simp] theorem Node.softWrite_preAcc (n : Node) (r : RegDef) (i m v : Nat) : (n.softWrite r i m v).preAcc = n.preAcc := rfl
@[simp] theorem Node.softWrite_pchain (n : Node) (r : RegDef) (i m v : Nat) : (n.softWrite r i m v).pchain = n.pchain := rfl
@[simp] theorem Node.softWrite_frac (n : Node) (r : RegDef) (i m v : Nat) : (n.softWrite r i m v).frac = n.frac := rfl
@[simp] theorem Node.softWrite_timex (n : Node) (r : RegDef) (i m v : Nat) : (n.softWrite r i m v).timex = n.timex := rfl
@[simp] theorem Node.softWrite_sync (n : Node) (r : RegDef) (i m v : Nat) : (n.softWrite r i m v).sync = n.sync := rfl
@[simp] theorem Node.softWrite_flt (n : Node) (r : RegDef) (i m v : Nat) : (n.softWrite r i m v).flt = n.flt := rfl
@[simp] theorem Node.softWrite_aic (n : Node) (r : RegDef) (i m v : Nat) : (n.softWrite r i m v).aic = n.aic := rfl
@[simp] theorem Node.softWrite_resets (n : Node) (r : RegDef) (i m v : Nat) : (n.softWrite r i m v).resets = n.resets := rfl
@[simp] theorem Node.softWrite_due (n : Node) (r : RegDef) (i m v : Nat) : (n.softWrite r i m v).due = n.due := rfl
@[simp] theorem Node.softWrite_mb (n : Node) (r : RegDef) (i m v : Nat) : (n.softWrite r i m v).mb = n.mb := rfl
@[simp] theorem Node.softWrite_mc (n : Node) (r : RegDef) (i m v : Nat) : (n.softWrite r i m v).mc = n.mc := rfl
@[simp] theorem Node.softWrite_msi (n : Node) (r : RegDef) (i m v : Nat) : (n.softWrite r i m v).msi = n.msi := rfl
@[simp] theorem Node.softWrite_tostore (n : Node) (r : RegDef) (i m v : Nat) : (n.softWrite r i m v).tostore = n.tostore := rfl
@[simp] theorem Node.softWrite_badRecs (n : Node) (r : RegDef) (i m v : Nat) : (n.softWrite r i m v).badRecs = n.badRecs := rfl
@[simp] theorem Node.softWrite_abortLate (n : Node) (r : RegDef) (i m v : Nat) : (n.softWrite r i m v).abortLate = n.abortLate := rfl
@[simp] theorem Node.softWrite_opHold (n : Node) (r : RegDef) (i m v : Nat) : (n.softWrite r i m v).opHold = n.opHold := rfl
@[simp] theorem Node.softWrite_shareHold (n : Node) (r : RegDef) (i m v : Nat) : (n.softWrite r i m v).shareHold = n.shareHold := rfl

end Sys2Proof.Machine
end

