-- ==== Sys2Proof/Laws/Settle.lean ====
section
/-!
SUPPORT. What every command does beside its own effect: it answers a next state, leaves the queue as it finds it, keeps the canonical form of the
memory, and, when a device has nothing in hand, adds nothing of its own.
-/

namespace Sys2Proof.Machine

open Safety

/-! ## Settling with nothing in hand -/

theorem mbSweep_of_posted_nil {n : Node} (h : n.mb.posted = []) : n.mbSweep = n := by simp [Node.mbSweep, h]

theorem Ddu.carryN_of_due_nil {d : Ddu} (h : d.n.due = []) (k : Nat) : d.carryN k = d := by
  cases k with
  | zero => rfl
  | succ k => simp [Ddu.carryN, h]

theorem Abl.carryN_of_due_nil {a : Abl} (h : a.n.due = []) (k : Nat) : a.carryN k = a := by
  cases k with
  | zero => rfl
  | succ k => simp [Abl.carryN, h]

/-- No message that waits has expired where none waits. -/
theorem purge_of_txq_nil {n : Node} (h : n.txq = []) : n.purge = n := by simp [Node.purge, h]

/-- With no loss and no record to count, nothing settles. -/
theorem settle_of_quiet {n : Node} (h : QuietNode n) : n.settle = n := by
  obtain ⟨n0, mb, hq, hl, ho, hw, hi⟩ := h
  have e : n.flushLoss = n := by
    have hp : ({ n.parent with orphanDrops := 0 } : ParentX) = n.parent := by rw [← ho]
    simp only [Node.flushLoss, hl, ho, List.foldl_nil, Node.loss, if_pos, hp]
    rw [← hl]
  simp only [Node.settle, e]
  split
  · obtain ⟨⟩ := n
    simp_all
  · obtain ⟨⟩ := n
    simp_all [Node.count, Node.countIn]

/-- A DDU with nothing in hand settles as it is. -/
theorem Ddu.carry_of_quiet {d : Ddu} (h : QuietDdu d) : d.carry = d := by
  obtain ⟨hn, hf, hi, ht, hw⟩ := h
  have e0 : (d.carryN 8).on Node.mbSweep = d := by
    simp [Ddu.carryN_of_due_nil hn.1, Ddu.on, mbSweep_of_posted_nil hn.2.1]
  have e1 : (d.on fun n => n.purge) = d := by simp [Ddu.on, purge_of_txq_nil hn.2.2.1]
  have e2 : d.fabricDrain = d := by
    obtain ⟨n, bnd, str, sens, trc, fab, fb⟩ := d
    obtain ⟨⟩ := fb
    simp_all [Ddu.fabricDrain]
  have e3 : d.fastRest = d := by simp [Ddu.fastRest, hi]
  have e4 : d.trcJob = d := by simp [Ddu.trcJob, ht]
  have e5 : d.spillWater = d := by simp [Ddu.spillWater, Ddu.rd, hw]
  have e6 : d.on Node.settle = d := by simp [Ddu.on, settle_of_quiet hn]
  simp only [Ddu.carry, e0, e1, e2, e3, e4, e5, e6, ite_self]

/-- A sentinel with nothing in hand has no work that follows. -/
theorem Abl.follow_of_quiet {a : Abl} (h : QuietAbl a) : a.follow = a := by
  obtain ⟨hn, ho, hm, hi, hv, hc, hq, hs, hr, hx, ht, hg, h3, h4, _⟩ := h
  have e1 : a.verSweep = a := by simp [Abl.verSweep, hv]
  have e2 : a.campSweep = a := by simp [Abl.campSweep, hc]
  have e3 : a.secSweep = a := by simp [Abl.secSweep, hs, hr, hx, ht]
  have e7 : a.owedSweep = a := by
    rw [Abl.owedSweep, hq, List.foldl_nil, ← hq]
  have e4 : a.sweepStep = a := by simp [Abl.sweepStep, hg]
  have e5 : a.domWork = a := by simp [Abl.domWork, h3, h4]
  have e6 : a.storeOut = a := by simp [Abl.storeOut, hm, Abl.hsDrain, ho]
  simp [Abl.follow, e1, e2, e3, e7, e4, e5, e6, Abl.on, mbSweep_of_posted_nil hn.2.1, purge_of_txq_nil hn.2.2.1, settle_of_quiet hn]

/-! ## What a command keeps -/

/-- What no command touches or breaks: the queue, the numbering of the open values, and the canonical form of the memory. -/
structure Kept (s t : State) : Prop where
  pending : t.pending = s.pending
  free : s.free ≤ t.free
  mem : s.mem.wf = true → t.mem.wf = true

/-- A result that is a next state in which everything of `Kept` holds. -/
def Completes (s : State) (r : Res) : Prop := ∃ t, r = .next t ∧ Kept s t

theorem Kept.refl (s : State) : Kept s s := ⟨rfl, le_refl _, id⟩

theorem settleDdu_kept {s s' : State} (h : Kept s s') (d : Ddu) : Kept s (s'.settleDdu d) := ⟨h.pending, h.free, h.mem⟩

theorem settleAbl_kept {s s' : State} (h : Kept s s') (a : Abl) : Kept s (s'.settleAbl a) := by
  refine ⟨h.pending, h.free, fun hm => ?_⟩
  simp only [State.settleAbl, putAbl]
  apply stores_wf
  split
  · rfl
  · exact h.mem hm

theorem onDdu_completes {s s' : State} (h : Kept s s') (f : Ddu → Ddu) : Completes s (onDdu s' f) := ⟨_, rfl, settleDdu_kept h _⟩

theorem onAbl_completes {s s' : State} (h : Kept s s') (f : Abl → Abl) : Completes s (onAbl s' f) := ⟨_, rfl, settleAbl_kept h _⟩

theorem onNode_completes {s s' : State} (h : Kept s s') (dev : Dev) (f : Node → Node) : Completes s (onNode dev s' f) := by
  cases dev
  · exact onDdu_completes h fun d => d.on f
  · exact onAbl_completes h fun a => a.on f

theorem onDduFree_completes {s s' : State} (h : Kept s s') (f : Nat → Ddu → Ddu) : Completes s (onDduFree s' f) :=
  ⟨_, rfl, settleDdu_kept (s' := { s' with free := s'.free + 1 }) ⟨h.pending, Nat.le_succ_of_le h.free, h.mem⟩ _⟩

theorem onAblFree_completes {s s' : State} (h : Kept s s') (f : Nat → Abl → Abl) : Completes s (onAblFree s' f) :=
  ⟨_, rfl, settleAbl_kept (s' := { s' with free := s'.free + 1 }) ⟨h.pending, Nat.le_succ_of_le h.free, h.mem⟩ _⟩

theorem dduWrite_completes (who : Requester) (s : State) (f : Ddu → Ddu) : Completes s (dduWrite who s f) := by
  unfold dduWrite
  split
  · exact ⟨_, rfl, ⟨rfl, le_refl _, id⟩⟩
  · split
    · exact ⟨_, rfl, ⟨rfl, le_refl _, id⟩⟩
    · exact onDdu_completes (s := s) (s' := { s with busErr := false }) ⟨rfl, le_refl _, id⟩ f

theorem dduSentinelWrite_completes (who : Requester) (s : State) (f : Ddu → Ddu) : Completes s (dduSentinelWrite who s f) := by
  unfold dduSentinelWrite
  split
  · exact ⟨_, rfl, ⟨rfl, le_refl _, id⟩⟩
  · split
    · exact onDdu_completes (s := s) (s' := { s with busErr := false }) ⟨rfl, le_refl _, id⟩ f
    · exact ⟨_, rfl, ⟨rfl, le_refl _, id⟩⟩

theorem ablWrite_completes (who : Requester) (s : State) (f : Abl → Abl) : Completes s (ablWrite who s f) := by
  unfold ablWrite
  split
  · exact onAbl_completes (Kept.refl s) _
  · exact ⟨_, rfl, ⟨rfl, le_refl _, id⟩⟩

/-! ## A message of a JobTag (R258): acted on, or dropped and counted -/

theorem Node.ofJob_known {n : Node} {t : Nat} (f : Node → Node) (h : n.jobCheck t = 0) : n.ofJob t f = f n := by simp [Node.ofJob, h]

theorem Node.ofJob_stale {n : Node} {t : Nat} (f : Node → Node) (h : n.jobCheck t = 1) : n.ofJob t f = n.bumpOf staleReg := by
  simp [Node.ofJob, h]

theorem Node.ofJob_unknown {n : Node} {t : Nat} (f : Node → Node) (h : n.jobCheck t = 2) : n.ofJob t f = n.bumpOf unknownReg := by
  simp [Node.ofJob, h]

theorem Abl.ofJob_known {a : Abl} {t : Nat} (f : Abl → Abl) (h : a.n.jobCheck t = 0) : a.ofJob t f = f a := by simp [Abl.ofJob, h]

theorem Abl.ofJob_stale {a : Abl} {t : Nat} (f : Abl → Abl) (h : a.n.jobCheck t = 1) : a.ofJob t f = a.on fun n => n.bumpOf staleReg := by
  simp [Abl.ofJob, h]

theorem Abl.ofJob_unknown {a : Abl} {t : Nat} (f : Abl → Abl) (h : a.n.jobCheck t = 2) : a.ofJob t f = a.on fun n => n.bumpOf unknownReg := by
  simp [Abl.ofJob, h]

end Sys2Proof.Machine
end

