-- ==== Sys2Proof/WellFormed.lean ====
section
/-!
DEFINITION. Which operands a command can have: device numbers, ports, register numbers and byte values within the
ranges that the rules give.  A command outside them names nothing that the devices have.
-/

namespace Sys2Proof

/-- Every entry is a byte. -/
def bytesOk (l : List Nat) : Bool := l.all fun b => decide (b < 256)

/-- Whether every field of a report fits its width. -/
def reportOk (r : Report) : Bool :=
  decide (r.jobtag < 2 ^ 32) && decide (r.epoch < 2 ^ 32) && decide (r.tile < 2 ^ 32) && decide (r.format < 256) && decide (r.flags < 256) &&
    decide (r.unit < 2 ^ 16) && decide (r.rowRef < 2 ^ 64) && decide (r.rowRes < 2 ^ 64) && decide (r.colRef < 2 ^ 64) &&
    decide (r.colRes < 2 ^ 64) && decide (r.boundIn < 2 ^ 64)

/-- A FANOUT within the limits of R239. -/
def fanOk (m : FanMsg) : Bool := decide (m.ranges.length ≤ 32) && decide (m.body.length ≤ 1024) && bytesOk m.body

/-- A sync operation whose fields fit the layouts of R284 and R289. -/
def syncOk (q : SyncReq) : Bool :=
  decide (q.handle < 2 ^ 32) && decide (q.kind < 4) && decide (q.attempt < 256) && decide (q.group < 65536) &&
    decide (q.epoch < 2 ^ 32) && decide (q.d < 2 ^ 64)

/-- A command as a mailbox can hold it (R595, R596): the path has five values, and the parameters are bytes. -/
def cmdOk (c : Cmd) : Bool :=
  decide (c.path < 5) && decide (c.mb < 52) && decide (c.code < 65536) && decide (c.flags < 65536) && decide (c.tag < 65536) &&
    decide (c.jobtag < 2 ^ 32) && decide (c.params.length < 65536) && bytesOk c.params

/-- What host memory gives, where it gives anything. -/
def hostOk (h : Option (List Byte)) : Bool := match h with | some b => bytesOk b | none => true

/-- Operands within the ranges of the rule of each command. -/
def Instr.wellFormed : Instr → Bool
  | .registerWrite _ _ _ size v => decide (0 < size) && decide (size ≤ 8) && decide (v < 2 ^ 64)
  | .abortCopyRx _ _ q => syncOk q
  | .parentLost => true
  | .attachRequestRx port slot child => decide (port < 24) && decide (slot < 4) && decide (child < 2 ^ 20)
  | .attachAckRx port => decide (16 ≤ port) && decide (port < 20)
  | .attachRefusedRx => true
  | .attachResendTimer => true
  | .attachTimeout => true
  | .orphanRetry => true
  | .eventBusCycle slots => decide (slots.length ≤ 16)
  | .preaccFold => true
  | .markerAccept m => decide (m < 2 ^ 64)
  | .markerProcess => true
  | .checksumReportAccept r => reportOk r
  | .abftCheck => true
  | .hostActiveRise => true
  | .hostActiveFall => true
  | .fastDomainStart => true
  | .fastDomainReady => true
  | .fastIdleExpiry => true
  | .droopDetect => true
  | .clkStretchHoldEnd => true
  | .regAckRx => true
  | .regReqTimeout => true
  | .subresetStart _ v => decide (v < 2 ^ 32)
  | .subresetDrainEnd b => decide (b < 11)
  | .subresetDone b => decide (b < 11)
  | .dduResetAssert => true
  | .dduResetRelease => true
  | .dduAliveRaise => true
  | .dduAonPgoodFall => true
  | .corePgoodFall => true
  | .cntWrap k => decide (k < 4096)
  | .cntChained k => decide (k < 4096) && decide (k % 2 = 0)
  | .cntSelWrite _ k _ => decide (k < 4096)
  | .cntChainRead _ k => decide (k < 4096) && decide (k % 2 = 0)
  | .cntClear _ v => decide (v < 2 ^ 32)
  | .cntFreezeWrite _ v => decide (v < 2 ^ 32)
  | .cntFreezeExpiry => true
  | .bwCfgWrite _ _ w _ => decide (w < 48)
  | .bwWindowClose _ w => decide (w < 48)
  | .sensorSample c _ clamp => decide (c < 152) && decide (clamp ≤ 2)
  | .sensorStale c => decide (c < 152)
  | .pcntLatch _ => true
  | .pcntClear _ v => decide (v < 2 ^ 32)
  | .psampSample core _ _ _ _ tag => decide (core < 262) && decide (tag.context < 256)
  | .traceTapRetire c _ _ _ => decide (c < 8)
  | .tapFifoRecover c _ => decide (c < 8)
  | .tracePeriodicSync c _ => decide (c < 8)
  | .traceEnable _ v => decide (v < 2 ^ 32)
  | .traceDisable _ v => decide (v < 2 ^ 32)
  | .traceDisableDrainEnd => true
  | .trigNow _ => true
  | .rearm _ => true
  | .tracePostDone => true
  | .traceAreaFull => true
  | .traceSpillBlock => true
  | .traceSpillRdWrite _ v => decide (v < 2 ^ 64)
  | .traceResume => true
  | .traceApertureRead _ off => decide (off < 32768) && decide (off % 8 = 0)
  | .traceExportBlock => true
  | .recFreezeWrite _ _ v => decide (v < 2 ^ 32)
  | .recFreezeExpiry _ => true
  | .recRlWrite _ _ j _ => decide (j < 4096)
  | .timeTick _ => true
  | .timeWrap _ => true
  | .slewEnd _ => true
  | .timeNsRead _ => true
  | .timeIncrWrite _ _ _ v => decide (v < 2 ^ 64)
  | .slewTicksWrite _ _ v => decide (v < 2 ^ 32)
  | .timeLoad _ _ => true
  | .acceptJump _ _ => true
  | .timeReqSend _ => true
  | .timeReqRx _ port slot _ _ _ => decide (port < 24) && decide (slot < 4)
  | .timeRespRx _ port _ _ flags _ => decide (port < 24) && decide (flags < 8)
  | .timeSourceLost _ => true
  | .ptpMessageRx port domain _ _ _ => decide (port < 2) && decide (domain < 128)
  | .holdoverAlarm => true
  | .ppsInEdge => true
  | .ppsOutDue => true
  | .ppsOutEnd => true
  | .ppsNextWrite _ v => decide (v < 2 ^ 32)
  | .launchEnqueue _ => true
  | .launchFlush _ => true
  | .launchDue => true
  | .snapAtFrameRx snapId => decide (snapId < 2 ^ 32)
  | .flitTime _ p slot => decide (p < 24) && decide (slot < 4)
  | .flitRx _ p slot f => decide (p < 24) && decide (slot < 4) && bytesOk f.payload
  | .messageRx dev port slot _ => decide (port < (if dev = .abl then 24 else 1)) && decide (slot < 4)
  | .signalDetect _ p slot => decide (p < 24) && decide (slot < 4)
  | .trainComplete _ p slot _ _ _ => decide (p < 24) && decide (slot < 4)
  | .trainTimeout _ p slot => decide (p < 24) && decide (slot < 4)
  | .signalLost _ p slot => decide (p < 24) && decide (slot < 4)
  | .laneFailure _ p slot cause _ => decide (p < 24) && decide (slot < 4) && decide (1 ≤ cause) && decide (cause ≤ 3)
  | .noFlitTimeout _ p slot => decide (p < 24) && decide (slot < 4)
  | .resetNoticeRx _ p slot cause => decide (p < 24) && decide (slot < 4) && decide (cause ≤ 4)
  | .backoffExpiry _ p slot => decide (p < 24) && decide (slot < 4)
  | .earlyLossWithdraw _ p slot => decide (p < 24) && decide (slot < 4)
  | .lnkCtrlWrite _ _ p v => decide (p < 24) && decide (v < 2 ^ 32)
  | .retrain _ _ p => decide (p < 24)
  | .fallbackExit => true
  | .fbGuestRequestRx guest _ => decide (guest < 2 ^ 20)
  | .fbRefusedRx => true
  | .fbListRetry => true
  | .fbHostSilence => true
  | .fbRingMessage _ => true
  | .summaryWindowClose => true
  | .dieSummaryRx _ r => bytesOk r.payload
  | .nodeSummaryRx _ r => bytesOk r.payload
  | .inputWindowClose _ _ => true
  | .metSlotWrite _ m _ => decide (m < 4096)
  | .barrierArrivalRx _ r => bytesOk r.payload
  | .barrierPartRx _ r => bytesOk r.payload
  | .barrierTimeout _ _ _ => true
  | .fanStart _ j => decide (j < 4)
  | .fanPendingRx _ _ _ => true
  | .fanAckRx _ _ _ _ miss _ => decide (miss.length ≤ 8)
  | .fanAckTimeout _ _ c => decide (c < 32)
  | .fanPendingTimer _ _ => true
  | .fanDeadline _ _ => true
  | .fanRelayRx _ _ _ _ _ _ m => fanOk m
  | .fanRelayAckRx _ _ _ _ miss _ => decide (miss.length ≤ 8)
  | .fanKeepExpiry _ _ _ => true
  | .uschEnqueue p _ _ => decide (16 ≤ p) && decide (p < 24)
  | .uschPick p => decide (16 ≤ p) && decide (p < 24)
  | .uschSample => true
  | .uschJobWrite _ k _ => decide (k < 64)
  | .jobStartDeliver _ _ _ _ _ m => fanOk m
  | .jobEndDeliver _ _ _ _ _ m => fanOk m
  | .groupRegisterDeliver _ _ _ _ _ m => fanOk m
  | .groupReleaseDeliver _ _ _ _ _ m => fanOk m
  | .scrubComplete => true
  | .scrubTimeout => true
  | .jobHoldExpiry => true
  | .jobEntryScrubDone j => decide (j < 64)
  | .jobGuardExpiry j => decide (j < 64)
  | .syncAlloc _ _ q => syncOk q
  | .syncSet _ _ q => syncOk q
  | .syncAdd _ _ q => syncOk q
  | .syncMax _ _ q => syncOk q
  | .syncFail _ _ q => syncOk q
  | .syncArm _ _ q => syncOk q
  | .syncRelease _ _ q => syncOk q
  | .syncQuery _ _ q => syncOk q
  | .syncReach _ _ q => syncOk q
  | .syncStateApply _ _ q => syncOk q
  | .syncStateRx _ _ q => syncOk q
  | .syncGuardExpiry _ k => decide (k < 8192)
  | .sourceFence _ => true
  | .sourceFenceComplete => true
  | .syncFence _ _ r => decide (r < 7)
  | .epochCloseComplete => true
  | .treeSubmit _ v => decide (v < 2 ^ 64)
  | .treeSampleComplete j c parity => decide (j ≤ 128) && decide (c < 32) && parity.all fun b => decide (b < 16)
  | .riskLevelFall d => decide (d < 16)
  | .riskScoreStale d => decide (d < 16)
  | .modelLoadDone slot _ => decide (slot < 64)
  | .treeScrubPass fixed => fixed.all fun p => decide (p.1 < 16)
  | .treeWakeDone => true
  | .lrbEvaluate => true
  | .lrbFloorExpiry c => decide (c < 8)
  | .snoopDataRx _ r => bytesOk r.payload
  | .bundleLanded _ _ _ _ => true
  | .slicePlace => true
  | .sliceRunDone _ => true
  | .sliceRunTimeout _ => true
  | .gridCoreFault core cause => decide (core < 256) && decide (1 ≤ cause) && decide (cause ≤ 5)
  | .endStream core => decide (core < 256)
  | .load core => decide (core < 256)
  | .loadAsync core => decide (core < 256)
  | .streamLoadDone core st => decide (core < 256) && decide (st < 4)
  | .wait core => decide (core < 256)
  | .send core => decide (core < 256)
  | .recv core => decide (core < 256)
  | .meshDeliver core => decide (core < 256)
  | .mma core => decide (core < 256)
  | .vecAdd core => decide (core < 256)
  | .vecSub core => decide (core < 256)
  | .vecMul core => decide (core < 256)
  | .vecFma core => decide (core < 256)
  | .vecMin core => decide (core < 256)
  | .vecMax core => decide (core < 256)
  | .vecSqrt core => decide (core < 256)
  | .vecRcp core => decide (core < 256)
  | .vecRsqrt core => decide (core < 256)
  | .vecExp2 core => decide (core < 256)
  | .vecLog2 core => decide (core < 256)
  | .vecTanh core => decide (core < 256)
  | .vecExp core => decide (core < 256)
  | .vecSigmoid core => decide (core < 256)
  | .vecSilu core => decide (core < 256)
  | .vecGeluTanh core => decide (core < 256)
  | .vecSoftmax core => decide (core < 256)
  | .vecRmsnorm core => decide (core < 256)
  | .vecSum core => decide (core < 256)
  | .vecMaxReduce core => decide (core < 256)
  | .cvt core => decide (core < 256)
  | .cvtQuant core => decide (core < 256)
  | .cmp core => decide (core < 256)
  | .loop core => decide (core < 256)
  | .katRunStart => true
  | .progLoadDone slot => decide (slot < 64)
  | .ctxScrubDone c => decide (c < 32)
  | .gridWakeDone => true
  | .gridIdleExpiry => true
  | .chkLastClear _ => true
  | .cellTedgeWrite _ j v => decide (j < 7) && decide (v < 2 ^ 16)
  | .snoopPost _ slot => decide (slot < 16)
  | .snoopSlotServe data => data.all bytesOk
  | .snoopSlotComplete => true
  | .chkMismatchRx _ r => bytesOk r.payload
  | .epochSummaryRx _ r => bytesOk r.payload
  | .epochFenceRx _ r => bytesOk r.payload
  | .verdictWaitTimeout => true
  | .failureClassify => true
  | .classifyTimeout => true
  | .repeatTimeout => true
  | .unitObservationClear => true
  | .campaignCellDwell handle => decide (handle < 2 ^ 32)
  | .campaignCellLeave handle => decide (handle < 2 ^ 32)
  | .campaignTimeLimit handle => decide (handle < 2 ^ 32)
  | .secureRequestTimer => true
  | .secureRequestRx _ r => bytesOk r.payload
  | .secureCutDeliver _ _ _ _ _ m => fanOk m
  | .secureCommitDeliver _ _ _ _ _ m => fanOk m
  | .secureAbandonDeliver _ _ _ _ _ m => fanOk m
  | .secureReleaseDeliver _ _ _ _ _ m => fanOk m
  | .restoreDeliver _ _ _ _ _ m _ => fanOk m
  | .securePost _ slot => decide (slot < 8)
  | .secureSlotServe data => data.all bytesOk
  | .secureDieDone => true
  | .secureLate _ => true
  | .secureDieDoneRx _ r => bytesOk r.payload
  | .secureDataRx _ r => bytesOk r.payload
  | .shareDataRx _ r => bytesOk r.payload
  | .shareAckRx _ r => bytesOk r.payload
  | .trayCutDoneRx _ r => bytesOk r.payload
  | .passLimitExpiry => true
  | .sharesLostRx _ r => bytesOk r.payload
  | .restoreDoneRx _ _ _ _ => true
  | .secureHoldExpiry => true
  | .cmpSubmit q => decide (q < 64)
  | .cmpDescDone q => decide (q < 64)
  | .faultEvent _ src cause flags _ _ => decide (src < 1024) && decide (cause < 256) && decide (flags < 8) && decide (flags % 2 = 0)
  | .faultSubwindowAdvance _ src => decide (src < 1024)
  | .channelFailure _ src slot => decide (src < 1024) && decide (slot < 256)
  | .channelRetry _ src slot _ => decide (src < 1024) && decide (slot < 256)
  | .drainProposalRx _ r => bytesOk r.payload
  | .bwDecisionRx _ r => bytesOk r.payload
  | .bwResendTimer => true
  | .bwWindowExpiry => true
  | .dieLedgerMount bad _ => decide (bad < 4)
  | .dieLedgerJournal r => bytesOk r.payload
  | .hsAppend _ r => bytesOk r.payload
  | .hsAppendDurable path => decide (path < 2)
  | .hsMount => true
  | .pwrfailAssert => true
  | .pwrfailRelease => true
  | .superblockWriteDue => true
  | .compactionStart => true
  | .compactionDone => true
  | .compactionResume => true
  | .hsDayBucket => true
  | .exposureFlush => true
  | .baselineSave => true
  | .reconcile port _ flags body => decide (port < 16) && decide (flags < 4) && bytesOk body
  | .reconcileRetry => true
  | .exportSuspendTimeout => true
  | .probationEnd _ => true
  | .hsOpRead _ paths _ => decide (paths < 4)
  | .hsOpProgram _ paths _ => decide (paths < 4)
  | .hsOpErase _ paths _ => decide (paths < 4)
  | .hsOpProgramMark _ paths _ => decide (paths < 4)
  | .hsOpDone fail => decide (fail < 4)
  | .slackEntryDone => true
  | .sentinelWake causes => decide (causes < 32)
  | .sentinelWakeDone => true
  | .wakeAtDue => true
  | .domainDemand mask => decide (mask < 32)
  | .domainReady k => decide (k < 5)
  | .domainIdleExpiry k => decide (k < 5)
  | .dduSlackExit cause => decide (3 ≤ cause) && decide (cause ≤ 6)
  | .budgetDivision => true
  | .capAckRx port => decide (port < 16)
  | .capStale => true
  | .demandReport => true
  | .phaseSignatureTick duty => decide (duty.length = 8)
  | .powerLoopWindow => true
  | .railRecalEnd r => decide (r < 24)
  | .railWatchEnd r => decide (r < 24)
  | .phaseTableSave => true
  | .sentinelPowerLoop logic memory _ => decide (logic < 65536) && decide (memory < 65536)
  | .interruptRequest dev id core _ => decide (id < (if dev = .abl then 1024 else 256)) && decide (core < (if dev = .abl then 6 else 2))
  | .aicClaim dev core => decide (core < (if dev = .abl then 6 else 2))
  | .aicEoi dev core id => decide (core < (if dev = .abl then 6 else 2)) && decide (id < 2 ^ 32)
  | .aicSgi _ v => decide (v < 2 ^ 32)
  | .aicCfgWrite dev _ core id v => decide (id < (if dev = .abl then 1024 else 256)) && decide (core < (if dev = .abl then 6 else 2)) && decide (v < 2 ^ 32)
  | .engineResetStart _ v => decide (v < 2 ^ 64)
  | .engineResetDrainEnd b => decide (b < 64)
  | .engineResetDone b => decide (b < 64)
  | .mcReset => true
  | .watchdogKick dev core v => decide (core < (if dev = .abl then 6 else 2)) && decide (v < 2 ^ 32)
  | .watchdogWarning dev core => decide (core < (if dev = .abl then 6 else 2))
  | .watchdogExpiry dev core => decide (core < (if dev = .abl then 6 else 2))
  | .mcLoadTick dev busy => decide (busy.length = (if dev = .abl then 6 else 2)) && busy.all fun b => decide (b ≤ 100)
  | .mailboxPost c => cmdOk c
  | .commandDatagram port _ seq c => decide (port < 2) && decide (seq < 2 ^ 32) && cmdOk c
  | .eventWrite path r => decide (path < 4) && bytesOk r.payload
  | .eventRdWrite path v => decide (path < 2) && decide (v < 2 ^ 32)
  | .eventResend => true
  | .stageIdleFree => true
  | .handleGuardExpiry slot => decide (slot < 64)
  | .reverseTimeout => true
  | .hello c => cmdOk c
  | .fence c => cmdOk c
  | .opQuery c => cmdOk c
  | .opSuspend c => cmdOk c
  | .opResume c => cmdOk c
  | .opCancel c => cmdOk c
  | .eventAck c => cmdOk c
  | .getInfo c => cmdOk c
  | .stageOpen c => cmdOk c
  | .stageWrite c => cmdOk c
  | .stageClose c => cmdOk c
  | .stageRead c => cmdOk c
  | .stageFree c => cmdOk c
  | .timeConfig c => cmdOk c
  | .timeAcceptJump c => cmdOk c
  | .snapAt c => cmdOk c
  | .ppsConfig c => cmdOk c
  | .setTrayBudget c => cmdOk c
  | .setPowerState c => cmdOk c
  | .setSelfLimits c => cmdOk c
  | .setParents c => cmdOk c
  | .returnToPrimary c => cmdOk c
  | .setChild c => cmdOk c
  | .setRing c => cmdOk c
  | .setRole c => cmdOk c
  | .faultClear c => cmdOk c
  | .restoreSource c => cmdOk c
  | .faultConfig c => cmdOk c
  | .inject c => cmdOk c
  | .gateFail c => cmdOk c
  | .bwConfig c => cmdOk c
  | .bwReport c => cmdOk c
  | .bwOverride c => cmdOk c
  | .jobStart c => cmdOk c
  | .jobEnd c => cmdOk c
  | .groupRegister c => cmdOk c
  | .groupRelease c => cmdOk c
  | .rankmapLoad c => cmdOk c
  | .metLoad c => cmdOk c
  | .uschSet c => cmdOk c
  | .modelLoad c host => cmdOk c && hostOk host
  | .modelUnload c => cmdOk c
  | .modelBind c => cmdOk c
  | .progLoad c host => cmdOk c && hostOk host
  | .progUnload c => cmdOk c
  | .ctxBind c => cmdOk c
  | .ctxUnbind c => cmdOk c
  | .gridSweep c => cmdOk c
  | .verdictConfig c => cmdOk c
  | .campaignStart c => cmdOk c
  | .secPolicy c => cmdOk c
  | .restore c => cmdOk c
  | .restoreLoaded c => cmdOk c
  | .ledgerCompact c => cmdOk c
  | .ledgerExport c => cmdOk c
  | .ledgerFormatCommit c => cmdOk c
  | .ledgerQuery c => cmdOk c
  | .traceExport c => cmdOk c
  | .traceTrigger c => cmdOk c
  | .profileEnable c => cmdOk c
  | .profileDisable c => cmdOk c
  | .attest c => cmdOk c
  | .debugChallenge c => cmdOk c
  | .debugOpen c => cmdOk c
  | .debugClose c => cmdOk c
  | .lifecycleSecure c => cmdOk c
  | .lifecycleRma c => cmdOk c
  | .lifecycleDecommission c => cmdOk c
  | .keyAdd c => cmdOk c
  | .keyRevoke c => cmdOk c
  | .fwUpdate c host => cmdOk c && hostOk host
  | .fwCommit c host => cmdOk c && hostOk host
  | .dieIdent c => cmdOk c
  | .dieRegWrite c => cmdOk c
  | .dieCap c => cmdOk c
  | .dieSlack c => cmdOk c
  | .dieSuspect c => cmdOk c
  | .dieProfile c => cmdOk c
  | .dieSecCut c => cmdOk c
  | .dieSecCommit c => cmdOk c
  | .dieFaultClear c => cmdOk c
  | .dieFaultRestore c => cmdOk c
  | .dieFaultConfigure c => cmdOk c
  | .dieFaultInject c => cmdOk c
  | .dieLedgerRead c => cmdOk c
  | .dieLedgerWrite c => cmdOk c
  | .dieTraceTrigger c => cmdOk c
  | .dieTraceExportStart c => cmdOk c
  | .dieTraceExportSuspend c => cmdOk c
  | .dieTraceExportResume c => cmdOk c
  | .dieTraceExportCancel c => cmdOk c
  | .dieRepeat c => cmdOk c
  | .dieCampaign c => cmdOk c
  | .hostRepeatTile => true
  | .hostSetPattern intensity => decide (intensity < 16)
  | .dieQuery c => cmdOk c
  | .apertureAccess _ len write data => decide (0 < len) && decide (len ≤ 64) && bytesOk data && decide (data.length = (if write then len else 0))
  | .hostWideRead _ size => decide (0 < size) && decide (size ≤ 8)
  | .functionReset kind => decide (kind < 4)
  | .busMasterChange _ => true
  | .recoveryImagePost => true
  | .bootReportRx port report => decide (port < 16) && bytesOk report
  | .debugSessionExpiry => true
  | .debugChallengeExpiry => true
  | .dduDebugExpiry => true
  | .profileConsentExpiry => true
  | .fwBootTimeout => true
  | .aonPgoodRise => true
  | .aonPgoodFall => true
  | .mainPgoodRise => true
  | .mainPgoodFall => true
  | .mainEnRestart => true
  | .resetNAssert _ => true
  | .internalResetEnd => true
  | .bootStageDone bad => decide (bad < 16)
  | .perstRelease => true
  | .thermtrip => true
  | .refclkLoss => true
  | .refclkRelock => true
  | .rcRegisterRead _ _ _ size => decide (0 < size) && decide (size ≤ 8)
  | .reverseMailboxComplete status data => decide (status < 65536) && bytesOk data
  | .dduAonPgoodRise => true
  | .trayNeapHoldExpiry => true
  | .exportSegmentDone handle => decide (handle < 2 ^ 32)
  | .fwSlotWriteDone _ => true
  | .dtlsHandshakeRx port _ root _ => decide (port < 2) && bytesOk root

end Sys2Proof
end

