-- ==== Sys2Proof/Tests/Slice0.lean ====
section
/-!
SUPPORT. Tests: published values of the checksums, a register's layout, an ill-formed term for each check of Instr.wellFormed, and for the statements of
Obligations.lean concrete states and operands that meet all hypotheses of a clause together.  A clause whose hypotheses rest on a free value of Config (a
signature, a key, a token) has its witness under that one premise.
-/

namespace Sys2Proof.Tests

open Machine Safety

set_option Elab.async false
set_option maxRecDepth 4096

/-- A node of either device whose registers have the values that follow, by register and instance, and whose ticks have added
its time. -/
def nodeOf (dev : Dev) (l : List (RegDef × Nat × Nat)) : Node :=
  (fun n : Node => { n with timex := { n.timex with elapsed := (n.rd (Reg.TIME_WRAP dev) * 2 ^ 32 + n.now) * 2 ^ 32 } }) (l.foldl (fun n x => n.wr x.1 x.2.1 x.2.2) { dev := dev })

/-- A DDU in use: fast domain running, ALIVE, and every register whose reset value the silicon fixes at a number. -/
def dn (l : List (RegDef × Nat × Nat)) : Node :=
  nodeOf .ddu ([(Reg.DDU_STATUS, 0, 0x10C), (Reg.DDU_ID, 0, 0xD0D10001), (Reg.DDU_PWR_CAP, 0, 0), (Reg.DDU_PWR_SAFE, 0, 0),
    (Reg.DDU_DL_STATUS, 0, 2)] ++ l)

/-- A sentinel in use as a tray: BOOT 2, and every register whose reset value the silicon fixes at a number. -/
def an (l : List (RegDef × Nat × Nat)) : Node :=
  nodeOf .abl ([(Reg.ABL_ID, 0, 0xAB160001), (Reg.ABL_NODE, 0, 0x10020003), (Reg.ABL_STATUS, 0, 0x01020000), (Reg.ABL_SERIAL, 0, 7),
    (Reg.ABL_LC_STATE, 0, 0), (Reg.ABL_LC_SVN, 0, 0), (Reg.ABL_RED_CLOSE_US, 0, 50), (Reg.ABL_RED_BAR_TIMEOUT_US, 0, 50000)] ++ l)

/-- The two devices in use, with changes to the DDU's registers and to the DDU. -/
def sd (l : List (RegDef × Nat × Nat)) (f : Ddu → Ddu := id) : State := { ddu := f { n := dn l }, abl := { n := an [] } }

/-- The two devices in use, with changes to the sentinel's registers and to the sentinel. -/
def sa (l : List (RegDef × Nat × Nat)) (f : Abl → Abl := id) : State := { ddu := { n := dn [] }, abl := f { n := an l } }

/-- A record of type, code and payload. -/
def rec0 (p : List Nat) : Record := { typ := 0, code := 0, src := 0, time := 0, seq := 0, payload := p }

/-- A record as the body of a message from `origin` to `dest`. -/
def msg0 (origin dest : Nat) : Msg := { origin := origin, dest := dest, expire := 1000, cls := 1, body := .record (rec0 []) }

/-- A FANOUT message of a kind without ranges. -/
def fan0 (kind : Nat) : FanMsg := { jobtag := 0, seq := 0, kind := kind, deadline := 0 }

/-- A checksum report of a tile. -/
def rep0 : Report := { jobtag := 0, epoch := 0, tile := 0, format := 0, unit := 0, rowRef := 0, rowRes := 0, colRef := 0, colRes := 0 }

/-- Rate limits that hold back every record of a TYPE and CODE. -/
def mute (dev : Dev) (l : List (Nat × Nat)) : List (RegDef × Nat × Nat) :=
  l.mapIdx fun i x => (Reg.REC_RL dev, i, 2 ^ 63 + x.1 * 2 ^ 48 + x.2 * 2 ^ 32)

/-- A fan-out at work with one child. -/
def fan1 (st : Nat := 0) : FanX := { msg := fan0 5, origin := 0, children := [⟨0, st, 1⟩] }

/-- A model without trees, and a sample of it. -/
def tm0 : TreeModel := { slot := 0, feats := [], luts := [], maps := [], trees := [], ents := [], outs := [], stages := 1 }
def ts0 : TreeSample := { i := 3, c := 0, w := 0, jobtag := 0, model := tm0, bins := [] }

/-- A bundle, a program, a core, a run and a slice of the Replay Grid. -/
def bun0 : Bundle := { jobtag := 0, epoch := 0, tile := 0, die := 0, format := 0, attempt := 0, m := 1, n := 1, k := 1, prog := 0, secs := [] }
def prog0 (cs : List (List GridCmd)) (shape : Nat := 0) : GridProg :=
  { slot := 0, format := 0, shape := shape, wUs := 100, sliceMax := 0, len := 0, streams := cs, consts := [], kat := bun0, expect := (0, 0, 0) }
def core0 : GridCore := { core := 0, k := 0 }
def run0 (cs : List GridCore) : GridRun := { id := 1, part := cs.map fun c => c.core, began := 0, cores := cs }
def slice0 : GridSlice := { id := 1, ctx := 0, slot := 0, bundle := bun0, arrived := 0, since := 0 }

/-- A sentinel on whose grid the cores that follow work in one run. -/
def sg (cs : List GridCore) (xs : List (List GridCmd) := []) (shape : Nat := 0) : State :=
  sa [] fun a => { a with grid := { a.grid with progs := [prog0 xs shape], slices := [slice0], runs := [run0 cs] } }

/-- A command of a grid core. -/
def gc (op : Nat) (flags : Nat := 0) (args : List Nat := []) : GridCmd := { op := op, fmt := 0, flags := flags, args := args }

/-- Registers of a sentinel that holds the running job 65,537 in slot 1, with VERDICT group 7 of which child 0 is a member. -/
def jobRegs : List (RegDef × Nat × Nat) :=
  [(Reg.ABL_JOB, 1, 2 ^ 126 + 7 * 2 ^ 96 + 65537), (Reg.ABL_GROUP, 0, 2 ^ 255 + 2 ^ 254 + 2 ^ 240 + 7 * 2 ^ 224), (Reg.ABL_GROUP_EXP, 0, 1),
    (Reg.ABL_RED_CHILD, 0, 2 ^ 127)]

/-- The job's own part, with this sentinel as its securing root. -/
def jobA1 : JobA := { slot := 1, root := 0x20003, members := [(0, 1)] }

/-- A failure to classify, a campaign, an operation, a cut, a root, a restore. -/
def fail0 : FailX := { id := 0, kind := 3, jobtag := 0, epoch := 0, attempt := 0, die := 0, time := 0, began := 0 }
def op0 (k : Nat) : OpX := { slot := 0, gen := 0, kind := 4, path := 0, began := 0, kstate := k }
def camp0 : CampX :=
  { handle := 0, jobtag := 0, die := 0, unit := 0, cell := 0, slot := 0, seed := 0, target := 0, reproN := 0, limit := 0, runs := some 0 }
def cut0 : CutX := { jobtag := 65537, cut := 0, epoch := 0, methods := [] }
def rest0 : RestX := { handle := 0, old := 0, new := 65537, cut := 0, pairs := [] }
def sc (k : Nat) : State :=
  sa [] fun a => { a with n := { a.n with mb := { a.n.mb with ops := [op0 k] } }, ver := { a.ver with camps := [camp0] } }

/-- A command of the catalogue on the Ethernet path, and one that the sentinel gives to the die. -/
def ca (code : Nat) (params : List Nat := []) (job : Nat := 0) : Cmd := { path := 2, mb := 20, code := code, jobtag := job, params := params }
def cd (code : Nat) (params : List Nat := []) (job : Nat := 0) : Cmd :=
  if code = 0x1201 then { path := 4, mb := 0, code := code, jobtag := job, params := params }
  else { path := 3, mb := 4, code := code, jobtag := job, params := params }
def pc (c : Cmd) : PostedX := { n := 0, cmd := c, at_ := 0 }

/-- The two devices in use, with one command posted at the sentinel, or at the DDU, and every feature negotiated. -/
def sma (c : Cmd) (l : List (RegDef × Nat × Nat) := []) (f : Abl → Abl := id) : State :=
  sa ([(Reg.ABL_MB_NEG, 2, 0xFF), (Reg.ABL_MB_FEAT, 2, 2 ^ 32 - 1)] ++ l) fun a =>
    f { a with n := { a.n with mb := { a.n.mb with posted := [pc c] } } }
def smd (c : Cmd) (l : List (RegDef × Nat × Nat) := []) (f : Ddu → Ddu := id) : State :=
  sd ([(Reg.DDU_MB_NEG, 0, 0xFF), (Reg.DDU_MB_FEAT, 0, 2 ^ 32 - 1), (Reg.DDU_MB_NEG, 1, 0xFF), (Reg.DDU_MB_FEAT, 1, 2 ^ 32 - 1)] ++ l) fun d =>
    f { d with n := { d.n with mb := { d.n.mb with posted := [pc c] } } }

/-- A record of the history store, a pass, an export. -/
def hs0 : HsRec := { jseq := 0, bytes := [], block := 2, off := 0, tab := {}, gov := {} }
def pass0 : PassX := { handle := 0, jseq := 0, began := 0, tab := {}, gov := {} }
def exp0 : ExportX := { handle := 0, num := 0, scope := [] }
def hsr : List (RegDef × Nat × Nat) := [(Reg.ABL_HS_STATUS, 0, 2 ^ 30), (Reg.ABL_HS_CTRL, 0, 65539)]

/-- A proposal of the governor. -/
def prop0 : PropX := { die := 0, id := 0, cls := 1, sent := 0 }


/-- The operation that a node without operations starts, and the node then. -/
def os (n : Node) (k : Nat) : Node := (n.opStart k 2 0).2
def oo (n : Node) (k : Nat) : OpX := ((os n k).op 0).getD (op0 0)
/-- A state in which the sentinel has one staged byte. -/
def cFw : Cmd := ca 0x0E01 (zeros 8 ++ [1, 0, 0, 0] ++ le 4 1 ++ zeros 8 ++ le 8 1)
def sFw : State := sma cFw [] fun a => { a with n := { a.n with mb := { a.n.mb with stages := [{ id := 1, addr := 0, len := 1, touched := 0 }] } } }
def cTr : Cmd := ca 0x0C01 (zeros 32)
def sTr : State := sma cTr [(Reg.ABL_RED_CHILD, 0, 2 ^ 127)]
def cEx : Cmd := ca 0x0B02 (zeros 48)
def cCo : Cmd := ca 0x0B01 (zeros 4)

/-- An image whose CRC is right, from its header's first 60 bytes and the rest; a model without trees, and a program that only ends. -/
def img0 (h b : List Nat) : List Nat := h ++ le 4 (crc32c (h ++ zeros 4 ++ b)) ++ b
def imgModel : List Nat :=
  img0 (le 4 0x31455254 ++ le 2 1 ++ zeros 6 ++ le 4 80 ++ zeros 16 ++ [64, 0, 0, 0, 64, 0, 0, 0, 64, 0, 0, 0, 64, 0, 0, 0, 64, 0, 0, 0, 64, 0, 0, 0] ++ zeros 4) (zeros 16)
def imgProg : List Nat :=
  img0 (le 4 0x31505247 ++ le 2 1 ++ [6, 0] ++ zeros 4 ++ le 4 184 ++ le 4 10 ++ le 4 1 ++ le 2 1 ++ zeros 6 ++ le 4 64 ++ le 4 64 ++ zeros 4 ++ le 4 104 ++ le 4 80 ++ zeros 8)
    (le 4 72 ++ le 4 1 ++ zeros 112)
/-- A command that loads the staged object with these bytes, and a state that holds them. -/
def stIm (b : List Nat) : StageX := { id := 1, addr := 0, len := b.length, touched := 0 }
def cIm (code : Nat) (b : List Nat) : Cmd := ca code (zeros 8 ++ [1, 0, 0, 0] ++ le 4 1 ++ zeros 8 ++ le 8 b.length)
def sIm (code : Nat) (b : List Nat) : State :=
  { sma (cIm code b) [] fun a => { a with n := { a.n with mb := { a.n.mb with stages := [stIm b] } } } with mem := Cells.write [] 0 b }

theorem eq_of_snd {α β : Type} {x : α × β} {b : β} (h : x.2 = b) : x = (x.1, b) := Prod.ext rfl h

/-- A firmware image of a component without a body, and the sentinel with it in both of the component's boot slots. -/
def fw0 (comp : Nat) : List Nat := le 4 0x31574642 ++ [comp] ++ zeros 19 ++ sha384 [] ++ zeros 200
def fwX (comp : Nat) : FwX := { handle := 0, comp := comp, dies := 0, image := fw0 comp }
def sBt (comp boot : Nat) : State :=
  sa [(Reg.ABL_STATUS, 0, 0x01000000 + boot * 65536), (Reg.ABL_LC_SVN, 0, 2 ^ 16)] fun a =>
    { a with pins := { a.pins with inReset := false }, n := { a.n with mb := { a.n.mb with ops := [op0 0] } },
             guard := { a.guard with flash := [(2 * comp, fw0 comp), (2 * comp + 1, fw0 comp)], recover := some comp, update := some (fwX comp) } }
/-- A COSE object with a map as its payload: 1 `serial`, 2 32 bytes, 3 to 6 numbers, 7 a key. -/
def cose0 (m : List Nat) : List Nat := [0x84, 0x44] ++ coseProtected ++ [0xA0, 0x58, m.length] ++ m ++ [0x41, 0]
def mapDbg : List Nat := [0xA7, 1, 7, 2, 0x58, 32] ++ zeros 32 ++ [3, 1, 4, 0, 5, 1, 6, 10, 7, 0x41, 0]
def xDbg : Cose := { payload := mapDbg, sig := [0], map := [(1, .num 7), (2, .str (zeros 32)), (3, .num 1), (4, .num 0), (5, .num 1), (6, .num 10), (7, .str [0])] }
def cDbg : Cmd := ca 0x0D03 (cose0 mapDbg)
def sDbg : State := sma cDbg [(Reg.ABL_LC_STATE, 0, 0x11)] fun a => { a with guard := { a.guard with challenge := some (zeros 40, 0) } }
def mapKey : List Nat := [0xA1, 7, 0x41, 0]
def xKey : Cose := { payload := mapKey, sig := [0], map := [(7, .str [0])] }
def cKey : Cmd := ca 0x0D05 ([4, 255, 0, 0] ++ zeros 48 ++ cose0 mapKey)
def sKey : State := sma cKey [] fun a => { a with guard := { a.guard with keys := [(0, [])] } }

/-! ## Values from outside the model -/

/-- The CRC-32C of the nine digits (RFC 3720, and the catalogues of CRCs): E3069283. -/
theorem test_crc32c_digits : crc32c [0x31, 0x32, 0x33, 0x34, 0x35, 0x36, 0x37, 0x38, 0x39] = 0xE3069283 := by decide +kernel

/-- The first and last words of SHA-384 of "abc" (FIPS 180-4 example). -/
theorem test_sha384_abc : ((sha384 [0x61, 0x62, 0x63]).take 8, (sha384 [0x61, 0x62, 0x63]).drop 40) =
    ([0xCB, 0x00, 0x75, 0x3F, 0x45, 0xA3, 0x5E, 0x8B], [0x58, 0xBA, 0xEC, 0xA1, 0x34, 0xC8, 0x25, 0xA7]) := by decide +kernel

/-- ABL_SEC_RING by the fields of R456: VALID, P 1, G 2, SUCC 5, PRED 6, LENGTH 8, POSITION 3; a LENGTH that is no multiple of G is discarded (R431). -/
theorem test_ring_fields :
    (fun r : Abl × Bool => (r.2 && r.1.n.ringValid, [r.1.n.ringP, r.1.n.ringG, r.1.n.ringSucc, r.1.n.ringPred, r.1.n.ringLen, r.1.n.ringPos]))
        ((sa []).abl.ringWrite (2 ^ 127 + 1 * 2 ^ 124 + 2 * 2 ^ 120 + 5 * 2 ^ 80 + 6 * 2 ^ 60 + 8 * 2 ^ 32 + 3)) = (true, [1, 2, 5, 6, 8, 3]) ∧
    ((sa []).abl.ringWrite (2 ^ 127 + 2 * 2 ^ 120 + 7 * 2 ^ 32)).2 = false := by decide +kernel

/-! ## Well-formedness: an ill-formed term for each check, which the check refuses -/

/-- A sync operation, a command and a flit whose fields are 0. -/
def sync0 : SyncReq := { jobtag := 0, handle := 0 }
def cmd0 : Cmd := ca 0
def flit0 : Flit := { ftype := 0 }

theorem test_illFormed_words_0 :
    ([.endStream, .load, .loadAsync, .wait, .send, .recv, .meshDeliver, .mma, .vecAdd, .vecSub, .vecMul, .vecFma, .vecMin, .vecMax, .vecSqrt, .vecRcp,
   .vecRsqrt, .vecExp2, .vecLog2, .vecTanh, .vecExp, .vecSigmoid, .vecSilu, .vecGeluTanh, .vecSoftmax, .vecRmsnorm, .vecSum, .vecMaxReduce, .cvt,
   .cvtQuant, .cmp, .loop] : List (Word → Instr)).all (fun f => (f 255).wellFormed && !(f 256).wellFormed) = true := by decide +kernel

theorem test_illFormed_words_1 :
    ([.campaignCellDwell, .campaignCellLeave, .campaignTimeLimit, .exportSegmentDone] : List (Word → Instr)).all (fun f => (f 4294967295).wellFormed && !(f 4294967296).wellFormed) = true := by decide +kernel

theorem test_illFormed_commands_2 :
    ([.mailboxPost, .hello, .fence, .opQuery, .opSuspend, .opResume, .opCancel, .eventAck, .getInfo, .stageOpen, .stageWrite, .stageClose, .stageRead,
   .stageFree, .timeConfig, .timeAcceptJump, .snapAt, .ppsConfig, .setTrayBudget, .setPowerState, .setSelfLimits, .setParents, .returnToPrimary,
   .setChild, .setRing, .setRole, .faultClear, .restoreSource, .faultConfig, .inject, .gateFail, .bwConfig, .bwReport, .bwOverride, .jobStart,
   .jobEnd, .groupRegister, .groupRelease, .rankmapLoad, .metLoad, .uschSet, .modelUnload, .modelBind, .progUnload, .ctxBind, .ctxUnbind, .gridSweep,
   .verdictConfig, .campaignStart, .secPolicy, .restore, .restoreLoaded, .ledgerCompact, .ledgerExport, .ledgerFormatCommit, .ledgerQuery,
   .traceExport, .traceTrigger, .profileEnable, .profileDisable, .attest, .debugChallenge, .debugOpen, .debugClose, .lifecycleSecure, .lifecycleRma,
   .lifecycleDecommission, .keyAdd, .keyRevoke, .dieIdent, .dieRegWrite, .dieCap, .dieSlack, .dieSuspect, .dieProfile, .dieSecCut, .dieSecCommit,
   .dieFaultClear, .dieFaultRestore, .dieFaultConfigure, .dieFaultInject, .dieLedgerRead, .dieLedgerWrite, .dieTraceTrigger, .dieTraceExportStart,
   .dieTraceExportSuspend, .dieTraceExportResume, .dieTraceExportCancel, .dieRepeat, .dieCampaign, .dieQuery] : List (Cmd → Instr)).all (fun f => (f cmd0).wellFormed && !(f { cmd0 with path := 5 }).wellFormed) = true := by decide +kernel

theorem test_illFormed_fields :
    (!cmdOk { cmd0 with mb := 52 } && !cmdOk { cmd0 with code := 65536 } && !cmdOk { cmd0 with flags := 65536 } && !cmdOk { cmd0 with tag := 65536 } &&
     !cmdOk { cmd0 with jobtag := 2 ^ 32 } && !cmdOk { cmd0 with params := [256] } && !cmdOk { cmd0 with params := zeros 65536 } &&
     !syncOk { sync0 with handle := 2 ^ 32 } && !syncOk { sync0 with attempt := 256 } && !syncOk { sync0 with group := 65536 } &&
     !syncOk { sync0 with epoch := 2 ^ 32 } && !syncOk { sync0 with d := 2 ^ 64 } && !fanOk { fan0 0 with ranges := List.replicate 33 (0, 0) } &&
     !fanOk { fan0 0 with body := zeros 1025 } && !reportOk { rep0 with jobtag := 2 ^ 32 } && !reportOk { rep0 with epoch := 2 ^ 32 } &&
     !reportOk { rep0 with tile := 2 ^ 32 } && !reportOk { rep0 with format := 256 } && !reportOk { rep0 with unit := 2 ^ 16 } &&
     !reportOk { rep0 with rowRef := 2 ^ 64 } && !reportOk { rep0 with rowRes := 2 ^ 64 } && !reportOk { rep0 with colRef := 2 ^ 64 } &&
     !reportOk { rep0 with colRes := 2 ^ 64 } && !reportOk { rep0 with boundIn := 2 ^ 64 }) = true := by decide +kernel

theorem test_illFormed_0 :
    ([.registerWrite .abl .firmware 0 0 0, .registerWrite .abl .firmware 0 9 0, .registerWrite .abl .firmware 0 1 (2 ^ 64),
   .abortCopyRx .abl 0 { sync0 with kind := 4 }, .syncStateRx .abl 0 { sync0 with kind := 4 }, .attachRequestRx 24 0 0, .attachRequestRx 0 4 0,
   .attachRequestRx 0 0 (2 ^ 20), .attachAckRx 15, .attachAckRx 20, .eventBusCycle (List.replicate 17 none), .markerAccept (2 ^ 64),
   .checksumReportAccept { rep0 with flags := 256 }, .subresetStart .firmware (2 ^ 32), .cntClear .firmware (2 ^ 32),
   .cntFreezeWrite .firmware (2 ^ 32), .pcntClear .firmware (2 ^ 32), .traceEnable .firmware (2 ^ 32), .traceDisable .firmware (2 ^ 32),
   .ppsNextWrite .firmware (2 ^ 32), .subresetDrainEnd 11, .subresetDone 11, .cntWrap 4096, .cntChained 4096, .cntChained 1,
   .cntSelWrite .firmware 4096 0, .cntChainRead .firmware 4096, .cntChainRead .firmware 1, .bwCfgWrite .abl .firmware 48 0, .bwWindowClose .abl 48] : List Instr).all (fun c => !c.wellFormed) = true := by decide +kernel

theorem test_illFormed_1 :
    ([.sensorSample 152 0 0, .sensorSample 0 0 3, .sensorStale 152, .psampSample 262 0 0 0 0 ⟨0, 0⟩, .psampSample 0 0 0 0 0 ⟨0, 256⟩,
   .traceTapRetire 8 0 (.retire 0) false, .tapFifoRecover 8 0, .tracePeriodicSync 8 0, .traceSpillRdWrite .firmware (2 ^ 64),
   .treeSubmit .firmware (2 ^ 64), .engineResetStart .firmware (2 ^ 64), .traceApertureRead .firmware 32768, .traceApertureRead .firmware 1,
   .recFreezeWrite .abl .firmware (2 ^ 32), .slewTicksWrite .abl .firmware (2 ^ 32), .recRlWrite .abl .firmware 4096 0,
   .timeIncrWrite .abl .firmware false (2 ^ 64), .timeReqRx .abl 24 0 0 0 0, .timeReqRx .abl 0 4 0 0 0, .timeRespRx .abl 24 0 0 0 0,
   .timeRespRx .abl 0 0 0 8 0, .ptpMessageRx 2 0 0 0 .other, .ptpMessageRx 0 128 0 0 .other, .snapAtFrameRx (2 ^ 32), .flitTime .abl 24 0,
   .flitTime .abl 0 4, .signalDetect .abl 24 0, .signalDetect .abl 0 4, .trainTimeout .abl 24 0, .trainTimeout .abl 0 4] : List Instr).all (fun c => !c.wellFormed) = true := by decide +kernel

theorem test_illFormed_2 :
    ([.signalLost .abl 24 0, .signalLost .abl 0 4, .noFlitTimeout .abl 24 0, .noFlitTimeout .abl 0 4, .backoffExpiry .abl 24 0, .backoffExpiry .abl 0 4,
   .earlyLossWithdraw .abl 24 0, .earlyLossWithdraw .abl 0 4, .flitRx .abl 24 0 flit0, .flitRx .abl 0 4 flit0,
   .flitRx .abl 0 0 { ftype := 0, payload := [256] }, .messageRx .abl 24 0 (msg0 0 0), .messageRx .abl 0 4 (msg0 0 0),
   .trainComplete .abl 24 0 0 0 false, .trainComplete .abl 0 4 0 0 false, .laneFailure .abl 24 0 1 0, .laneFailure .abl 0 4 1 0,
   .laneFailure .abl 0 0 0 0, .laneFailure .abl 0 0 4 0, .resetNoticeRx .abl 24 0 0, .resetNoticeRx .abl 0 4 0, .resetNoticeRx .abl 0 0 5,
   .lnkCtrlWrite .abl .firmware 24 0, .lnkCtrlWrite .abl .firmware 0 (2 ^ 32), .retrain .abl .firmware 24, .fbGuestRequestRx (2 ^ 20) 0,
   .dieSummaryRx 0 (rec0 [256]), .nodeSummaryRx 0 (rec0 [256]), .barrierArrivalRx 0 (rec0 [256]), .barrierPartRx 0 (rec0 [256])] : List Instr).all (fun c => !c.wellFormed) = true := by decide +kernel

theorem test_illFormed_3 :
    ([.snoopDataRx 0 (rec0 [256]), .chkMismatchRx 0 (rec0 [256]), .epochSummaryRx 0 (rec0 [256]), .epochFenceRx 0 (rec0 [256]),
   .secureRequestRx 0 (rec0 [256]), .secureDieDoneRx 0 (rec0 [256]), .secureDataRx 0 (rec0 [256]), .shareDataRx 0 (rec0 [256]),
   .shareAckRx 0 (rec0 [256]), .trayCutDoneRx 0 (rec0 [256]), .sharesLostRx 0 (rec0 [256]), .drainProposalRx 0 (rec0 [256]),
   .bwDecisionRx 0 (rec0 [256]), .metSlotWrite .firmware 4096 0, .fanStart .firmware 4, .fanAckRx 0 0 0 0 (List.replicate 9 (0, 0)) false,
   .fanRelayAckRx 0 0 0 0 (List.replicate 9 (0, 0)) false, .fanAckTimeout 0 0 32, .fanRelayRx 0 0 0 0 0 0 { fan0 0 with body := [256] },
   .uschEnqueue 15 0 (msg0 0 0), .uschEnqueue 24 0 (msg0 0 0), .uschPick 15, .uschPick 24, .uschJobWrite .firmware 64 0,
   .jobStartDeliver .abl 0 0 0 0 { fan0 0 with body := [256] }, .jobEndDeliver .abl 0 0 0 0 { fan0 0 with body := [256] },
   .groupRegisterDeliver .abl 0 0 0 0 { fan0 0 with body := [256] }, .groupReleaseDeliver .abl 0 0 0 0 { fan0 0 with body := [256] },
   .secureCutDeliver .abl 0 0 0 0 { fan0 0 with body := [256] }, .secureCommitDeliver .abl 0 0 0 0 { fan0 0 with body := [256] }] : List Instr).all (fun c => !c.wellFormed) = true := by decide +kernel

theorem test_illFormed_4 :
    ([.secureAbandonDeliver .abl 0 0 0 0 { fan0 0 with body := [256] }, .secureReleaseDeliver .abl 0 0 0 0 { fan0 0 with body := [256] },
   .jobEntryScrubDone 64, .jobGuardExpiry 64, .syncAlloc .abl (.remote 0 false) { sync0 with kind := 4 },
   .syncSet .abl (.remote 0 false) { sync0 with kind := 4 }, .syncAdd .abl (.remote 0 false) { sync0 with kind := 4 },
   .syncMax .abl (.remote 0 false) { sync0 with kind := 4 }, .syncFail .abl (.remote 0 false) { sync0 with kind := 4 },
   .syncArm .abl (.remote 0 false) { sync0 with kind := 4 }, .syncRelease .abl (.remote 0 false) { sync0 with kind := 4 },
   .syncQuery .abl (.remote 0 false) { sync0 with kind := 4 }, .syncReach .abl (.remote 0 false) { sync0 with kind := 4 },
   .syncStateApply .abl (.remote 0 false) { sync0 with kind := 4 }, .syncGuardExpiry .abl 8192, .syncFence .abl .firmware 7,
   .treeSampleComplete 129 0 [], .treeSampleComplete 0 32 [], .treeSampleComplete 0 0 [16], .riskLevelFall 16, .riskScoreStale 16,
   .modelLoadDone 64 false, .treeScrubPass [(16, 0)], .lrbFloorExpiry 8, .gridCoreFault 256 1, .gridCoreFault 0 0, .gridCoreFault 0 6,
   .streamLoadDone 256 0, .streamLoadDone 0 4, .progLoadDone 64] : List Instr).all (fun c => !c.wellFormed) = true := by decide +kernel

theorem test_illFormed_5 :
    ([.handleGuardExpiry 64, .ctxScrubDone 32, .cellTedgeWrite .firmware 7 0, .cellTedgeWrite .firmware 0 (2 ^ 16), .snoopPost .firmware 16,
   .snoopSlotServe [[256]], .secureSlotServe [[256]], .restoreDeliver .abl 0 0 0 0 { fan0 0 with body := [256] } [], .securePost .firmware 8,
   .cmpSubmit 64, .cmpDescDone 64, .faultEvent .abl 1024 0 0 0 0, .faultEvent .abl 0 256 0 0 0, .faultEvent .abl 0 0 8 0 0,
   .faultEvent .abl 0 0 1 0 0, .faultSubwindowAdvance .abl 1024, .channelFailure .abl 1024 0, .channelFailure .abl 0 256,
   .channelRetry .abl 1024 0 false, .channelRetry .abl 0 256 false, .dieLedgerMount 4 0, .dieLedgerJournal (rec0 [256]),
   .hsAppend false (rec0 [256]), .hsAppendDurable 2, .reconcile 16 0 0 [], .reconcile 0 0 4 [], .reconcile 0 0 0 [256], .hsOpRead .firmware 4 0,
   .hsOpProgram .firmware 4 0, .hsOpErase .firmware 4 0] : List Instr).all (fun c => !c.wellFormed) = true := by decide +kernel

theorem test_illFormed_6 :
    ([.hsOpProgramMark .firmware 4 0, .hsOpDone 4, .sentinelWake 32, .domainDemand 32, .domainReady 5, .domainIdleExpiry 5, .dduSlackExit 2,
   .dduSlackExit 7, .capAckRx 16, .phaseSignatureTick [], .railRecalEnd 24, .railWatchEnd 24, .sentinelPowerLoop 65536 0 0,
   .sentinelPowerLoop 0 65536 0, .interruptRequest .abl 1024 0 false, .interruptRequest .abl 0 6 false, .aicClaim .abl 6, .watchdogWarning .abl 6,
   .watchdogExpiry .abl 6, .aicEoi .abl 6 0, .aicEoi .abl 0 (2 ^ 32), .aicSgi .abl (2 ^ 32), .aicCfgWrite .abl .firmware 0 1024 0,
   .aicCfgWrite .abl .firmware 6 0 0, .aicCfgWrite .abl .firmware 0 0 (2 ^ 32), .engineResetDrainEnd 64, .engineResetDone 64, .watchdogKick .abl 6 0,
   .watchdogKick .abl 0 (2 ^ 32), .mcLoadTick .abl []] : List Instr).all (fun c => !c.wellFormed) = true := by decide +kernel

theorem test_illFormed_7 :
    ([.mcLoadTick .abl [101, 0, 0, 0, 0, 0], .commandDatagram 2 0 0 cmd0, .commandDatagram 0 0 (2 ^ 32) cmd0,
   .commandDatagram 0 0 0 { cmd0 with path := 5 }, .eventWrite 4 (rec0 []), .eventWrite 0 (rec0 [256]), .eventRdWrite 2 0, .eventRdWrite 0 (2 ^ 32),
   .modelLoad { cmd0 with path := 5 } none, .modelLoad cmd0 (some [256]), .progLoad { cmd0 with path := 5 } none, .progLoad cmd0 (some [256]),
   .fwUpdate { cmd0 with path := 5 } none, .fwUpdate cmd0 (some [256]), .fwCommit { cmd0 with path := 5 } none, .fwCommit cmd0 (some [256]),
   .hostSetPattern 16, .apertureAccess 0 0 false [], .apertureAccess 0 65 false [], .apertureAccess 0 1 false [256], .apertureAccess 0 1 false [0],
   .hostWideRead 0 0, .hostWideRead 0 9, .functionReset 4, .bootReportRx 16 [], .bootReportRx 0 [256], .bootStageDone 16,
   .rcRegisterRead .abl .firmware 0 0, .rcRegisterRead .abl .firmware 0 9, .reverseMailboxComplete 65536 []] : List Instr).all (fun c => !c.wellFormed) = true := by decide +kernel

theorem test_illFormed_8 :
    ([.reverseMailboxComplete 0 [256], .dtlsHandshakeRx 2 0 [] false, .dtlsHandshakeRx 0 0 [256] false] : List Instr).all (fun c => !c.wellFormed) = true := by decide +kernel

theorem test_wellFormed_0 :
    ([.registerWrite .abl .firmware 0 1 0, .abortCopyRx .abl 0 sync0, .syncStateRx .abl 0 sync0, .attachRequestRx 0 0 0, .attachAckRx 16,
   .eventBusCycle [], .markerAccept 0, .checksumReportAccept rep0, .subresetStart .firmware 0, .cntClear .firmware 0, .cntFreezeWrite .firmware 0,
   .pcntClear .firmware 0, .traceEnable .firmware 0, .traceDisable .firmware 0, .ppsNextWrite .firmware 0, .subresetDrainEnd 0, .subresetDone 0,
   .cntWrap 0, .cntChained 0, .cntSelWrite .firmware 0 0, .cntChainRead .firmware 0, .bwCfgWrite .abl .firmware 0 0, .bwWindowClose .abl 0,
   .sensorSample 0 0 0, .sensorStale 0, .psampSample 0 0 0 0 0 ⟨0, 0⟩, .traceTapRetire 0 0 (.retire 0) false, .tapFifoRecover 0 0,
   .tracePeriodicSync 0 0, .traceSpillRdWrite .firmware 0] : List Instr).all (fun c => c.wellFormed) = true := by decide +kernel

theorem test_wellFormed_1 :
    ([.treeSubmit .firmware 0, .engineResetStart .firmware 0, .traceApertureRead .firmware 0, .recFreezeWrite .abl .firmware 0,
   .slewTicksWrite .abl .firmware 0, .recRlWrite .abl .firmware 0 0, .timeIncrWrite .abl .firmware false 0, .timeReqRx .abl 0 0 0 0 0,
   .timeRespRx .abl 0 0 0 0 0, .ptpMessageRx 0 0 0 0 .other, .snapAtFrameRx 0, .flitTime .abl 0 0, .signalDetect .abl 0 0, .trainTimeout .abl 0 0,
   .signalLost .abl 0 0, .noFlitTimeout .abl 0 0, .backoffExpiry .abl 0 0, .earlyLossWithdraw .abl 0 0, .flitRx .abl 0 0 flit0,
   .messageRx .abl 0 0 (msg0 0 0), .trainComplete .abl 0 0 0 0 false, .laneFailure .abl 0 0 1 0, .resetNoticeRx .abl 0 0 0,
   .lnkCtrlWrite .abl .firmware 0 0, .retrain .abl .firmware 0, .fbGuestRequestRx 0 0, .dieSummaryRx 0 (rec0 []), .nodeSummaryRx 0 (rec0 []),
   .barrierArrivalRx 0 (rec0 []), .barrierPartRx 0 (rec0 [])] : List Instr).all (fun c => c.wellFormed) = true := by decide +kernel

theorem test_wellFormed_2 :
    ([.snoopDataRx 0 (rec0 []), .chkMismatchRx 0 (rec0 []), .epochSummaryRx 0 (rec0 []), .epochFenceRx 0 (rec0 []), .secureRequestRx 0 (rec0 []),
   .secureDieDoneRx 0 (rec0 []), .secureDataRx 0 (rec0 []), .shareDataRx 0 (rec0 []), .shareAckRx 0 (rec0 []), .trayCutDoneRx 0 (rec0 []),
   .sharesLostRx 0 (rec0 []), .drainProposalRx 0 (rec0 []), .bwDecisionRx 0 (rec0 []), .metSlotWrite .firmware 0 0, .fanStart .firmware 0,
   .fanAckRx 0 0 0 0 [] false, .fanRelayAckRx 0 0 0 0 [] false, .fanAckTimeout 0 0 0, .fanRelayRx 0 0 0 0 0 0 (fan0 0), .uschEnqueue 16 0 (msg0 0 0),
   .uschPick 16, .uschJobWrite .firmware 0 0, .jobStartDeliver .abl 0 0 0 0 (fan0 0), .jobEndDeliver .abl 0 0 0 0 (fan0 0),
   .groupRegisterDeliver .abl 0 0 0 0 (fan0 0), .groupReleaseDeliver .abl 0 0 0 0 (fan0 0), .secureCutDeliver .abl 0 0 0 0 (fan0 0),
   .secureCommitDeliver .abl 0 0 0 0 (fan0 0), .secureAbandonDeliver .abl 0 0 0 0 (fan0 0), .secureReleaseDeliver .abl 0 0 0 0 (fan0 0)] : List Instr).all (fun c => c.wellFormed) = true := by decide +kernel

theorem test_wellFormed_3 :
    ([.jobEntryScrubDone 0, .jobGuardExpiry 0, .syncAlloc .abl (.remote 0 false) sync0, .syncSet .abl (.remote 0 false) sync0,
   .syncAdd .abl (.remote 0 false) sync0, .syncMax .abl (.remote 0 false) sync0, .syncFail .abl (.remote 0 false) sync0,
   .syncArm .abl (.remote 0 false) sync0, .syncRelease .abl (.remote 0 false) sync0, .syncQuery .abl (.remote 0 false) sync0,
   .syncReach .abl (.remote 0 false) sync0, .syncStateApply .abl (.remote 0 false) sync0, .syncGuardExpiry .abl 0, .syncFence .abl .firmware 0,
   .treeSampleComplete 0 0 [], .riskLevelFall 0, .riskScoreStale 0, .modelLoadDone 0 false, .treeScrubPass [], .lrbFloorExpiry 0, .gridCoreFault 0 1,
   .streamLoadDone 0 0, .progLoadDone 0, .handleGuardExpiry 0, .ctxScrubDone 0, .cellTedgeWrite .firmware 0 0, .snoopPost .firmware 0,
   .snoopSlotServe [], .secureSlotServe [], .restoreDeliver .abl 0 0 0 0 (fan0 0) []] : List Instr).all (fun c => c.wellFormed) = true := by decide +kernel

theorem test_wellFormed_4 :
    ([.securePost .firmware 0, .cmpSubmit 0, .cmpDescDone 0, .faultEvent .abl 0 0 0 0 0, .faultSubwindowAdvance .abl 0, .channelFailure .abl 0 0,
   .channelRetry .abl 0 0 false, .dieLedgerMount 0 0, .dieLedgerJournal (rec0 []), .hsAppend false (rec0 []), .hsAppendDurable 0,
   .reconcile 0 0 0 [], .hsOpRead .firmware 0 0, .hsOpProgram .firmware 0 0, .hsOpErase .firmware 0 0, .hsOpProgramMark .firmware 0 0, .hsOpDone 0,
   .sentinelWake 0, .domainDemand 0, .domainReady 0, .domainIdleExpiry 0, .dduSlackExit 3, .capAckRx 0, .phaseSignatureTick (zeros 8),
   .railRecalEnd 0, .railWatchEnd 0, .sentinelPowerLoop 0 0 0, .interruptRequest .abl 0 0 false, .aicClaim .abl 0, .watchdogWarning .abl 0] : List Instr).all (fun c => c.wellFormed) = true := by decide +kernel

theorem test_wellFormed_5 :
    ([.watchdogExpiry .abl 0, .aicEoi .abl 0 0, .aicSgi .abl 0, .aicCfgWrite .abl .firmware 0 0 0, .engineResetDrainEnd 0, .engineResetDone 0,
   .watchdogKick .abl 0 0, .mcLoadTick .abl (zeros 6), .commandDatagram 0 0 0 cmd0, .eventWrite 0 (rec0 []), .eventRdWrite 0 0, .modelLoad cmd0 none,
   .progLoad cmd0 none, .fwUpdate cmd0 none, .fwCommit cmd0 none, .hostSetPattern 0, .apertureAccess 0 1 false [], .hostWideRead 0 1,
   .functionReset 0, .bootReportRx 0 [], .bootStageDone 0, .rcRegisterRead .abl .firmware 0 1, .reverseMailboxComplete 0 [],
   .dtlsHandshakeRx 0 0 [] false] : List Instr).all (fun c => c.wellFormed) = true := by decide +kernel

/-! ## States and operands that meet the statements' hypotheses -/

theorem test_hyps_ParentCommandsComplete_0 :
    (∃ (s : State) (dev : Dev) (q : SyncReq), Awake s dev ∧ (q.jobtag, q.epoch) ∉ (part s dev).parent.acted) ∧
    (∃ (s : State) (dev : Dev) (q : SyncReq), Awake s dev ∧ (q.jobtag, q.epoch) ∈ (part s dev).parent.acted) ∧
    (∃ (s : State), s.abl.n.parentGone = false) ∧
    (∃ (s : State), s.abl.n.parentGone = true ∧ s.abl.n.parent.st = psPrimary) ∧
    (∃ (s : State), s.abl.n.parentGone = true ∧ s.abl.n.parent.st = psAlternate) ∧
    (∃ (s : State) (child : Nat) (c : Nat), s.abl.n.childOf child = some c ∧ c < 16 ∧ s.abl.n.childValid c = true) ∧
    (∃ (s : State) (child : Nat), s.abl.n.childOf child = none ∧ ((∀ c, 16 ≤ c → c < 32 → s.abl.n.childValid c = true))) ∧
    (∃ (s : State) (port : Nat) (a : Abl), s.abl.n.parent.st = psAttaching ∧ 18 ≤ port ∧ a = (s.abl.on fun n => (n.setParent psAlternate).resendUp)) ∧
    (∃ (s : State), s.abl.n.parent.st = psAttaching) ∧
    (∃ (s : State), s.abl.n.parent.st = psAttaching ∧ s.abl.n.parent.resent = false) :=
  ⟨⟨sa [], .abl, { handle := 0, jobtag := 65537, epoch := 1 }, by trivial, by decide +kernel⟩,
   ⟨sa [] fun a => { a with n := { a.n with parent := { acted := [(65537, 1)] } } }, .abl, { handle := 0, jobtag := 65537, epoch := 1 }, by trivial, by decide +kernel⟩,
   ⟨sa [(Reg.LNK_STATUS .abl, 16, 3)] fun a => { a with n := { a.n with parent := { st := psPrimary } } }, by decide +kernel⟩,
   ⟨sa [] fun a => { a with n := { a.n with parent := { st := psPrimary } } }, by decide +kernel⟩,
   ⟨sa [] fun a => { a with n := { a.n with parent := { st := psAlternate } } }, by decide +kernel⟩,
   ⟨sa [(Reg.ABL_RED_CHILD, 15, 2 ^ 127 + 5 * 2 ^ 96)], 5, 15, by decide +kernel⟩,
   ⟨sa ((List.range 16).map fun c => (Reg.ABL_RED_CHILD, 16 + c, 2 ^ 127 + c * 2 ^ 96)), 77, by decide +kernel⟩,
   ⟨sa [] fun a => { a with n := { a.n with parent := { st := psAttaching } } }, 18, _, by decide +kernel, by decide +kernel, rfl⟩,
   ⟨sa [] fun a => { a with n := { a.n with parent := { st := psAttaching } } }, by decide +kernel⟩,
   ⟨sa [] fun a => { a with n := { a.n with parent := { st := psAttaching } } }, by decide +kernel⟩⟩

theorem test_hyps_ParentCommandsComplete_1 : ∃ (s : State), s.abl.n.parent.st = psOrphan :=
  ⟨sa [] fun a => { a with n := { a.n with parent := { st := psOrphan } } }, by decide +kernel⟩

theorem test_hyps_BoundaryCompletes_0 :
    (∃ (s : State) (m : Nat), s.ddu.alive = true ∧ s.ddu.pwr ≠ 0 ∧ s.ddu.n.bit Reg.DDU_STATUS 0 2 = true ∧ s.ddu.bnd.markFifo.length < 256 ∧ 1 ≤ bits m 60 4 ∧ bits m 60 4 ≤ 4) ∧
    (∃ (s : State) (m : Nat) (stamp : Nat) (before : Nat) (late : Bool) (rest : List (Nat × Nat × Bool × Nat)), s.ddu.live = true ∧ s.ddu.n.bankRuns = true ∧ s.ddu.bnd.markFifo = (m, stamp, late, before) :: rest ∧ bits m 60 4 = 3 ∧ bits (s.ddu.rd Reg.DDU_TRC_TRIG_MARK) 28 4 ≠ 3) ∧
    (∃ (s : State), s.ddu.alive = true ∧ s.ddu.pwr ≠ 0 ∧ s.ddu.n.bit Reg.DDU_STATUS 0 2 = true ∧ s.ddu.bnd.chkFifo.length < 1024) ∧
    (∃ (s : State) (r : Report) (cell : Nat) (k : Nat) (rest : List (Report × Nat)), s.ddu.live = true ∧ s.ddu.bnd.chkFifo = (r, cell) :: rest ∧ s.ddu.n.bit Reg.DDU_STATUS 0 2 = true ∧ s.ddu.n.bit Reg.DDU_SUBRESET 0 8 = false ∧ r.jobtag = (({ s.ddu with bnd := { s.ddu.bnd with chkFifo := rest } } : Ddu).chkView).jobTag ∧ (({ s.ddu with bnd := { s.ddu.bnd with chkFifo := rest } } : Ddu).chkView).attemptOf r.epoch = some k) ∧
    (∃ (s : State), s.ddu.live = true ∧ s.ddu.pwr = 2 ∧ s.ddu.n.bit Reg.DDU_STATUS 0 2 = false ∧ s.ddu.n.bit Reg.DDU_STATUS 0 1 = false ∧ s.ddu.bnd.corePgood = true) ∧
    (∃ (s : State), s.ddu.live = true ∧ s.ddu.pwr ≠ 2) ∧
    (∃ (s : State), s.ddu.live = true ∧ s.ddu.pwr = 2) ∧
    (∃ (s : State), s.ddu.live = true ∧ s.ddu.n.bit Reg.DDU_STATUS 0 2 = false ∧ s.ddu.n.bit Reg.DDU_STATUS 0 1 = false ∧ s.ddu.bnd.corePgood = true ∧ s.ddu.pwr ≠ 0) ∧
    (∃ (s : State), s.ddu.live = true ∧ s.ddu.n.bit Reg.DDU_STATUS 0 1 = true) ∧
    (∃ (s : State), s.ddu.live = true ∧ s.ddu.fastIdle = true ∧ s.ddu.n.bit Reg.DDU_STATUS 0 2 = true) :=
  ⟨⟨sd [], 4 * 2 ^ 60, by decide +kernel⟩,
   ⟨sd [] fun d => { d with bnd := { d.bnd with markFifo := [(3 * 2 ^ 60, 0, false, 0)] } }, 3 * 2 ^ 60, 0, 0, false, [], by decide +kernel⟩,
   ⟨sd [], by decide +kernel⟩,
   ⟨sd [] fun d => { d with n := { d.n with sync := { objs := [{ num := 0, st := 1, armed := true, attempt := 1 }] } }, bnd := { d.bnd with chkFifo := [(rep0, 0)] } }, rep0, 0, 1, [], by decide +kernel⟩,
   ⟨sd [(Reg.DDU_STATUS, 0, 0x108), (Reg.DDU_PWR_STATE, 0, 2)], by decide +kernel⟩,
   ⟨sd [], by decide +kernel⟩,
   ⟨sd [(Reg.DDU_PWR_STATE, 0, 2)], by decide +kernel⟩,
   ⟨sd [(Reg.DDU_STATUS, 0, 0x108)], by decide +kernel⟩,
   ⟨sd [(Reg.DDU_STATUS, 0, 0x10A)], by decide +kernel⟩,
   ⟨sd [(Reg.TIME_NS .ddu, 0, 4000000000)] fun d => { d with bnd := { d.bnd with hostActive := false } }, by decide +kernel⟩⟩

theorem test_hyps_BoundaryCompletes_1 :
    (∃ (s : State), s.ddu.live = true ∧ s.ddu.bnd.clkStretch = false) ∧
    (∃ (s : State), s.ddu.live = true ∧ s.ddu.bnd.clkStretch = true) ∧
    (∃ (s : State) (v : Nat), s.ddu.live = true ∧ s.ddu.bnd.regReq = some v ∧ (s.ddu.n.chan 1000 255).st = 0 ∧ s.ddu.n.fld Reg.DDU_PWR_VSET 0 0 16 = v) ∧
    (∃ (s : State) (v : Nat), s.ddu.live = true ∧ s.ddu.bnd.regReq = some v) :=
  ⟨⟨sd [], by decide +kernel⟩,
   ⟨sd [] fun d => { d with bnd := { d.bnd with clkStretch := true } }, by decide +kernel⟩,
   ⟨sd [(Reg.DDU_PWR_VSET, 0, 850)] fun d => { d with bnd := { d.bnd with regReq := some 850 } }, 850, by decide +kernel⟩,
   ⟨sd [] fun d => { d with bnd := { d.bnd with regReq := some 850 } }, 850, by decide +kernel⟩⟩

theorem test_hyps_BoundaryResetsComplete :
    (∃ (s : State) (who : Requester) (b : Nat), who ≠ .unprivileged ∧ s.ddu.answers who = true ∧ b < 11 ∧ s.ddu.n.fld Reg.DDU_STATUS 0 8 3 ≠ 4 ∧ s.ddu.n.bit Reg.DDU_SUBRESET 0 b = false ∧ s.ddu.n.bit Reg.DDU_SUBRESET_MODE 0 b = false) ∧
    (∃ (s : State) (b : Nat) (r : ResetRun), s.ddu.live = true ∧ s.ddu.n.resets.find? (fun r => r.bit == b && !r.drained) = some r) ∧
    (∃ (s : State) (b : Nat) (r : ResetRun), s.ddu.live = true ∧ s.ddu.n.resets.find? (fun r => r.bit == b && r.drained) = some r) ∧
    (∃ (s : State), s.ddu.bnd.aonPgood = true ∧ s.ddu.bnd.hostActive = false ∧ s.ddu.n.fld Reg.DDU_DL_STATUS 0 0 3 ≠ 0) ∧
    (∃ (s : State) (d : Ddu), s.ddu.bnd.aonPgood = true ∧ s.ddu.bnd.hostActive = true ∧ d = ({ s.ddu with bnd := { s.ddu.bnd with resetN := false } } : Ddu).hostRise ∧ d.n.fld Reg.DDU_DL_STATUS 0 0 3 ≠ 0) ∧
    (∃ (s : State), s.ddu.live = true ∧ s.ddu.n.timeState ≠ tsUnaligned ∧ (s.ddu.n.fld Reg.DDU_DL_STATUS 0 0 3 = 2 ∨ s.ddu.n.fld Reg.DDU_DL_STATUS 0 0 3 = 3)) ∧
    (∃ (s : State), s.ddu.live = true ∧ s.ddu.pw.phases = s.ddu.led.image.phases) ∧
    (∃ (s : State) (e : Nat) (a : Nat) (before : Nat) (rest : List (Nat × Nat × Nat)), s.ddu.live = true ∧ s.ddu.chk.closing = (e, a, before) :: rest ∧ before + s.ddu.bnd.chkFifo.length ≤ s.ddu.chk.accepted ∧ (s.ddu.chk.slots.all fun x => slotEpoch x.val != e) = true ∧ s.ddu.chk.epochs = []) :=
  ⟨⟨sd [], .firmware, 10, by decide +kernel⟩,
   ⟨sd [] fun d => { d with n := { d.n with resets := [{ bit := 10, mode := 0, cause := 1 }] } }, 10, { bit := 10, mode := 0, cause := 1 }, by decide +kernel⟩,
   ⟨sd [] fun d => { d with n := { d.n with resets := [{ bit := 0, mode := 0, cause := 1, drained := true }] } }, 0, { bit := 0, mode := 0, cause := 1, drained := true }, by decide +kernel⟩,
   ⟨sd [], by decide +kernel⟩,
   ⟨sd [(Reg.DDU_PWR_STATE, 0, 0)] fun d => { d with bnd := { d.bnd with hostActive := true, corePgood := false } }, _, by decide +kernel, by decide +kernel, rfl, by decide +kernel⟩,
   ⟨sd [(Reg.TIME_STATUS .ddu, 0, 0x100)], by decide +kernel⟩,
   ⟨sd [], by decide +kernel⟩,
   ⟨sd [] fun d => { d with chk := { d.chk with closing := [(1, 0, 0)] } }, 1, 0, 0, [], by decide +kernel⟩⟩

theorem test_hyps_CounterCommandsComplete :
    (∃ (s : State) (ev : Nat) (inc : Nat), s.ddu.live = true ∧ ev < 0xF00 ∧ inc < 16) ∧
    (∃ (s : State), s.ddu.n.bankRuns = true) ∧
    (∃ (s : State) (k : Nat), k % 2 = 1 ∧ s.ddu.n.rd Reg.DDU_CNT k = 2 ^ 48 - 1 ∧ s.ddu.n.chained k = false ∧ s.ddu.n.bankRuns = true) ∧
    (∃ (s : State) (k : Nat), k % 2 = 0 ∧ s.ddu.n.rd Reg.DDU_CNT k = 2 ^ 48 - 1 ∧ s.ddu.n.chained k = false ∧ s.ddu.n.bankRuns = true ∧ s.ddu.n.fld Reg.DDU_CNT_SEL k 12 2 = 1 ∧ (s.ddu.n.wr Reg.DDU_CNT k 0).chained k = false ∧ (s.ddu.n.wr Reg.DDU_CNT k 0).fld Reg.DDU_CNT_SEL k 12 2 = 1) ∧
    (∃ (s : State) (who : Requester) (d : Ddu) (k : Nat), FastMay s who d ∧ 87 < k ∧ k % 2 = 1) ∧
    (∃ (s : State) (who : Requester) (d : Ddu) (k : Nat), FastMay s who d ∧ s.ddu.n.withheld k = false ∧ k % 2 = 0 ∧ d.n.chained k = true ∧ (d.n.wr Reg.DDU_CNT_HI_LATCH 0 (d.n.rd Reg.DDU_CNT (k + 1))).withheld k = false) ∧
    (∃ (s : State) (who : Requester) (d : Ddu) (first : Nat) (count : Nat), FastMay s who d ∧ first < 4096 ∧ 0 < count ∧ first + count ≤ 4096 ∧ d.streams = []) ∧
    (∃ (s : State) (who : Requester) (d : Ddu), FastMay s who d ∧ d.n.bit Reg.DDU_CNT_FREEZE 0 0 = false) ∧
    (∃ (s : State), s.ddu.n.bit Reg.DDU_CNT_FREEZE 0 0 = true) ∧
    (∃ (first : Nat) (count : Nat), first < 1536 ∧ 0 < count ∧ first + count ≤ 1536 ∧ first % 2 = 0 ∧ (first + count - 1) % 2 = 1) :=
  ⟨⟨sd [], 0xEFF, 15, by decide +kernel⟩,
   ⟨sd [], by decide +kernel⟩,
   ⟨sd [(Reg.DDU_CNT, 1, 2 ^ 48 - 1)], 1, by decide +kernel⟩,
   ⟨sd [(Reg.DDU_CNT, 0, 2 ^ 48 - 1), (Reg.DDU_CNT_SEL, 0, 0x1000)], 0, by decide +kernel⟩,
   ⟨sd [], .firmware, _, 89, ⟨by decide, by decide +kernel, rfl, by decide +kernel⟩, by decide +kernel⟩,
   ⟨sd [(Reg.DDU_CNT_CHAINED, 1, 4096)], .firmware, _, 88, ⟨by decide, by decide +kernel, rfl, by decide +kernel⟩, by decide +kernel⟩,
   ⟨sd [], .firmware, _, 4095, 1, ⟨by decide, by decide +kernel, rfl, by decide +kernel⟩, by decide +kernel⟩,
   ⟨sd [], .sentinel, _, ⟨by decide, by decide +kernel, rfl, by decide +kernel⟩, by decide +kernel⟩,
   ⟨sd [(Reg.DDU_CNT_FREEZE, 0, 1)], by decide +kernel⟩,
   ⟨1534, 2, by decide +kernel⟩⟩

theorem test_hyps_SensingCommandsComplete :
    (∃ (s : State) (who : Requester) (d : Ddu) (v : Nat), FastMay s who d ∧ 0 < bits v 32 20 ∧ bits v 32 20 ≤ 1000000) ∧
    (∃ (s : State) (w : Nat) (b : BwX), s.ddu.n.bw.find? (fun b => b.w == w && b.begun && decide (b.at_ + s.ddu.n.fld (bwCfg s.ddu.n.dev) w 32 20 * 1000 ≤ s.ddu.n.rd (Reg.TIME_WRAP s.ddu.n.dev) * 2 ^ 32 + s.ddu.n.now)) = some b) ∧
    (∃ (s : State) (c : Nat) (raw : Nat) (clamp : Nat), s.ddu.live = true ∧ s.ddu.n.bit Reg.DDU_SNS_STATE c 31 = false ∧ s.ddu.n.fld Reg.DDU_SNS_CFG c 0 24 ≠ 0 ∧ (((s.ddu.sensSample c raw clamp (Config.freeNat s.free)).sumNote c).lrbNote c).rd Reg.DDU_SNS_EVENTS c = s.ddu.rd Reg.DDU_SNS_EVENTS c) ∧
    (∃ (s : State) (c : Nat) (d : Ddu), s.ddu.live = true ∧ bit (s.ddu.n.rd Reg.DDU_SNS_STATE c) 31 = false ∧ s.ddu.n.fld Reg.DDU_SNS_CFG c 0 24 ≠ 0 ∧ lookupD s.ddu.sens.last c 0 + 4 * s.ddu.sensPeriod c ≤ s.ddu.n.local ∧ d = s.ddu.wr Reg.DDU_SNS_STATE c (setBit (s.ddu.n.rd Reg.DDU_SNS_STATE c) 30 true)) ∧
    (∃ (s : State) (core : Nat) (occ : Nat) (latency : Nat) (p : Nat) (i : Nat) (g : SampleTag), core < 256 ∧ s.abl.sampled core = some (p, i, g) ∧ 512 ≤ s.abl.n.fld Reg.ABL_PSAMP_CTRL 0 0 11 ∧ s.abl.n.fld Reg.ABL_PSAMP_CTRL 0 0 11 < 1152 ∧ lookupD s.abl.psamp.next core (s.abl.n.rd Reg.ABL_PSAMP_PERIOD) ≤ occ ∧ s.abl.n.rd Reg.ABL_PSAMP_PERIOD ≠ 0 ∧ s.abl.n.bit Reg.ABL_PSAMP_SCOPE 0 0 = true ∧ s.abl.profJobs.contains g.jobtag = true ∧ latency < 65536 ∧ s.abl.n.rd Reg.ABL_PSAMP_RDPTR = s.abl.n.rd Reg.ABL_PSAMP_WRPTR ∧ s.abl.n.rd Reg.ABL_PSAMP_WRPTR < 4096) :=
  ⟨⟨sd [], .firmware, _, 1000000 * 2 ^ 32, ⟨by decide, by decide +kernel, rfl, by decide +kernel⟩, by decide +kernel⟩,
   ⟨sd [] fun d => { d with n := { d.n with bw := [{ w := 0, begun := true }] } }, 0, { w := 0, begun := true }, by decide +kernel⟩,
   ⟨sd [(Reg.DDU_SNS_CFG, 151, 1000)], 151, 5, 0, by decide +kernel⟩,
   ⟨sd [(Reg.DDU_SNS_CFG, 0, 1000), (Reg.TIME_WRAP .ddu, 0, 1)], 0, _, by decide +kernel, by decide +kernel, by decide +kernel, by decide +kernel, rfl⟩,
   ⟨sa [(Reg.ABL_PSAMP_PERIOD, 0, 100), (Reg.ABL_PSAMP_SCOPE, 0, 1), (Reg.ABL_PSAMP_CTRL, 0, 512)] fun a => { a with profJobs := [65537], grid := { a.grid with progs := [{ prog0 [[gc 0 7 [0]]] with offs := [64] }], slices := [{ slice0 with bundle := { bun0 with jobtag := 65537 } }], runs := [run0 [{ core0 with core := 255 }]] } }, 255, 100, 65535, 64, 7 * 2 ^ 16, ⟨65537, 0⟩, by decide +kernel⟩⟩

theorem test_hyps_TraceCommandsComplete_0 :
    (∃ (s : State) (c : Nat), s.ddu.tapOn c = true ∧ (s.ddu.trc.core c).tapOver = false) ∧
    (∃ (s : State) (c : Nat), s.ddu.tapOn c = true) ∧
    (∃ (s : State) (c : Nat), s.ddu.tapOn c = true ∧ (s.ddu.trc.core c).tapOver = true) ∧
    (∃ (s : State) (c : Nat), s.ddu.tapOn c = true ∧ s.ddu.rd Reg.DDU_TRC_SYNC_US ≠ 0 ∧ s.ddu.rd Reg.DDU_TRC_SYNC_US * 1000 ≤ s.ddu.n.local - (s.ddu.trc.core c).lastSync) ∧
    (∃ (s : State) (who : Requester) (d : Ddu) (v : Nat), FastMay s who d ∧ d.n.bit Reg.DDU_PROF_CTRL 0 0 = true ∧ (d.trcCtrl v).trcState = trcOff ∧ d.n.bit Reg.DDU_SUBRESET 0 3 = false) ∧
    (∃ (s : State) (who : Requester) (d : Ddu) (v : Nat), FastMay s who d ∧ ((d.trcCtrl v).on fun n => n.setB Reg.DDU_TRC_CTRL 0 0 false).trcState = trcOff) ∧
    (∃ (s : State), s.ddu.trc.draining ≠ 0 ∧ s.ddu.trc.loss = 0) ∧
    (∃ (s : State) (who : Requester) (e : Ddu), FastMay s who e ∧ e.n.bit Reg.DDU_SUBRESET 0 3 = false ∧ e.trcState = trcArmed ∧ e.trc.open_ = false ∧ e.trc.complete = 0) ∧
    (∃ (s : State) (who : Requester) (d : Ddu), FastMay s who d ∧ d.trcState = trcDone) ∧
    (∃ (s : State), s.ddu.trc.postOn = true ∧ s.ddu.rd Reg.DDU_TRC_POST_KIB * 1024 ≤ s.ddu.trc.post + s.ddu.trc.cur.length) :=
  ⟨⟨sd [(Reg.DDU_TRC_STATE, 0, 1), (Reg.DDU_TRC_CTRL, 0, 2 ^ 23)], 7, by decide +kernel⟩,
   ⟨sd [(Reg.DDU_TRC_STATE, 0, 1), (Reg.DDU_TRC_CTRL, 0, 2 ^ 16)], 0, by decide +kernel⟩,
   ⟨sd [(Reg.DDU_TRC_STATE, 0, 1), (Reg.DDU_TRC_CTRL, 0, 2 ^ 16)] fun d => { d with trc := { d.trc with cores := [{ core := 0, tapOver := true }] } }, 0, by decide +kernel⟩,
   ⟨sd [(Reg.DDU_TRC_STATE, 0, 1), (Reg.DDU_TRC_CTRL, 0, 2 ^ 16), (Reg.DDU_TRC_SYNC_US, 0, 100), (Reg.TIME_NS .ddu, 0, 100000)], 0, by decide +kernel⟩,
   ⟨sd [(Reg.DDU_PROF_CTRL, 0, 1)], .firmware, _, 0, ⟨by decide, by decide +kernel, rfl, by decide +kernel⟩, by decide +kernel⟩,
   ⟨sd [], .firmware, _, 0, ⟨by decide, by decide +kernel, rfl, by decide +kernel⟩, by decide +kernel⟩,
   ⟨sd [] fun d => { d with trc := { d.trc with draining := 1 } }, by decide +kernel⟩,
   ⟨sd [(Reg.DDU_TRC_STATE, 0, 1)], .firmware, _, ⟨by decide, by decide +kernel, rfl, by decide +kernel⟩, by decide +kernel⟩,
   ⟨sd [(Reg.DDU_TRC_STATE, 0, trcDone)], .firmware, _, ⟨by decide, by decide +kernel, rfl, by decide +kernel⟩, by decide +kernel⟩,
   ⟨sd [(Reg.DDU_TRC_POST_KIB, 0, 1)] fun d => { d with trc := { d.trc with postOn := true, post := 1024 } }, by decide +kernel⟩⟩

theorem test_hyps_TraceCommandsComplete_1 :
    (∃ (s : State), s.ddu.trcState = trcTriggered ∧ 4096 * (1024 - s.ddu.trc.headland.length) ≤ s.ddu.trc.post) ∧
    (∃ (s : State) (b : List Nat) (rest : List (List Nat)), s.ddu.live = true ∧ s.ddu.trc.staging = b :: rest ∧ s.ddu.spillReady = true ∧ s.ddu.fb.queue = [] ∧ s.ddu.trc.loss = 0) ∧
    (∃ (s : State) (who : Requester) (d : Ddu) (v : Nat), FastMay s who d ∧ d.rd Reg.DDU_TRC_SPILL_RD ≤ v ∧ v ≤ d.rd Reg.DDU_TRC_SPILL_WR ∧ v % 4096 = 0) ∧
    (∃ (s : State) (d : Ddu), s.ddu.pwr ≠ 0 ∧ ((s.ddu.n.timeState = tsLocked ∧ s.ddu.n.timex.load = none) ∨ s.ddu.pw.woke + 100000 ≤ s.ddu.n.local) ∧ s.ddu.trcState = trcParked ∧ s.ddu.trc.loss = 0 ∧ d = ((s.ddu.setTrcState (s.ddu.n.fld Reg.DDU_TRC_STATE 0 4 3)).on fun n => n.setFld Reg.DDU_TRC_STATE 0 4 3 0).trcNext ∧ s.ddu.trc.postOn = false ∧ d.tracing = true ∧ d.trcRoom = true ∧ d.trc.loss = 0) ∧
    (∃ (s : State) (who : Requester), who ≠ .unprivileged ∧ s.ddu.answers who = true ∧ s.ddu.trcState = trcDone) ∧
    (∃ (s : State) (x : TraceExport) (off : Nat) (b : List Nat) (rest : List (Nat × List Nat)), s.ddu.trc.exp = some x ∧ x.suspended = false ∧ x.left = (off, b) :: rest ∧ rest ≠ []) :=
  ⟨⟨sd [(Reg.DDU_TRC_STATE, 0, trcTriggered)] fun d => { d with trc := { d.trc with post := 4194304 } }, by decide +kernel⟩,
   ⟨sd [(Reg.DDU_SPILL_SIZE, 0, 4096), (Reg.DDU_FABRIC_RATE, 0, 1)] fun d => { d with trc := { d.trc with staging := [[1], [2]] } }, [1], [[2]], by decide +kernel⟩,
   ⟨sd [(Reg.DDU_TRC_SPILL_WR, 0, 4096)], .firmware, _, 4096, ⟨by decide, by decide +kernel, rfl, by decide +kernel⟩, by decide +kernel⟩,
   ⟨sd [(Reg.DDU_TRC_STATE, 0, 16 + trcParked), (Reg.DDU_TRC_CTRL, 0, 1), (Reg.TIME_STATUS .ddu, 0, 0x100)], _, by decide +kernel, by decide +kernel, by decide +kernel, by decide +kernel, rfl, by decide +kernel⟩,
   ⟨sd [(Reg.DDU_TRC_STATE, 0, trcDone)], .firmware, by decide +kernel⟩,
   ⟨sd [] fun d => { d with trc := { d.trc with exp := some { handle := 1, left := [(0, [1]), (4096, [2])] } } }, { handle := 1, left := [(0, [1]), (4096, [2])] }, 0, [1], [(4096, [2])], by decide +kernel⟩⟩

theorem test_hyps_RecorderCommandsComplete :
    (∃ (s : State), s.abl.n.bit (Reg.REC_FREEZE s.abl.n.dev) 0 0 = false ∧ s.abl.n.fld (Reg.REC_FREEZE_MAX_US s.abl.n.dev) 0 0 20 ≠ 0 ∧ (({ (s.abl.n.setB (Reg.REC_FREEZE s.abl.n.dev) 0 0 true) with recx := { s.abl.n.recx with freezeNs := s.abl.n.now } } : Node).fld (Reg.REC_FREEZE_MAX_US s.abl.n.dev) 0 0 20) ≠ 0) ∧
    (∃ (s : State), s.ddu.n.bit (Reg.REC_FREEZE s.ddu.n.dev) 0 0 = true) ∧
    (∃ (s : State), s.abl.n.bit (Reg.REC_FREEZE s.abl.n.dev) 0 0 = true) ∧
    (∃ (s : State) (who : Requester), who ≠ .unprivileged ∧ s.ddu.answers who = true) :=
  ⟨⟨sa [], by decide +kernel⟩,
   ⟨sd [(Reg.REC_FREEZE .ddu, 0, 1)], by decide +kernel⟩,
   ⟨sa [(Reg.REC_FREEZE .abl, 0, 1)], by decide +kernel⟩,
   ⟨sd [], .firmware, by decide +kernel⟩⟩

theorem test_hyps_TimeUnitCommandsComplete_0 :
    (∃ (s : State), s.abl.n.timex.load = none ∧ s.abl.n.tickSum < 2 ^ 64) ∧
    (∃ (s : State), s.ddu.live = true ∧ s.ddu.n.timex.load = none ∧ s.ddu.n.tickSum < 2 ^ 64) ∧
    (∃ (s : State), s.abl.n.timex.load = none ∧ 2 ^ 64 ≤ s.abl.n.tickSum) ∧
    (∃ (s : State) (ns : Nat) (frac : Nat), s.abl.n.timex.load = some (.abs ns frac)) ∧
    (∃ (s : State) (d : Int), s.ddu.live = true ∧ s.ddu.n.timex.load = some (.rel d)) ∧
    (∃ (s : State), s.ddu.live = true ∧ s.ddu.n.rd (Reg.TIME_SLEW_TICKS s.ddu.n.dev) = 1) ∧
    (∃ (s : State), s.ddu.live = true) ∧
    (∃ (v : Nat), v < 2 ^ 40 ∧ 1998 * 2 ^ 32 ≤ v * 100 ∧ v * 100 ≤ 2002 * 2 ^ 32) ∧
    (∃ (v : Nat), v < 2 ^ 40 ∧ (v * 100 < 1998 * 2 ^ 32 ∨ 2002 * 2 ^ 32 < v * 100)) ∧
    (∃ (s : State) (v : Nat), (s.abl.n.setSlew v).swServo = false) :=
  ⟨⟨sa [], by decide +kernel⟩,
   ⟨sd [], by decide +kernel⟩,
   ⟨sa [(Reg.TIME_NS .abl, 0, 2 ^ 32 - 1)], by decide +kernel⟩,
   ⟨sa [] fun a => { a with n := { a.n with timex := { a.n.timex with load := some (.abs 5 6) } } }, 5, 6, by decide +kernel⟩,
   ⟨sd [] fun d => { d with n := { d.n with timex := { d.n.timex with load := some (.rel 5) } } }, 5, by decide +kernel⟩,
   ⟨sd [(Reg.TIME_SLEW_TICKS .ddu, 0, 1)], by decide +kernel⟩,
   ⟨sd [], by decide +kernel⟩,
   ⟨1998 * 2 ^ 32 / 100 + 1, by decide +kernel⟩,
   ⟨2002 * 2 ^ 32 / 100 + 1, by decide +kernel⟩,
   ⟨sa [(Reg.TIME_CTRL .abl, 0, 0)], 0, by decide +kernel⟩⟩

theorem test_hyps_TimeUnitCommandsComplete_1 :
    (∃ (s : State), s.abl.n.swServo = false) ∧
    (∃ (s : State), s.abl.n.timeState = tsJumpHeld) ∧
    (∃ (s : State), s.ddu.live = true ∧ s.ddu.n.srcSel ≠ 3 ∧ s.ddu.n.timeState = tsLocked) ∧
    (∃ (s : State) (m : Node), s.abl.n.srcSel = 3 ∧ s.abl.n.timeState = tsLocked ∧ m = ({ s.abl.n with timex := { s.abl.n.timex with ptp := { s.abl.n.timex.ptp with half := none, masters := s.abl.n.timex.ptp.masters.filter fun c => some c != s.abl.n.timex.ptp.best } } } : Node)) :=
  ⟨⟨sa ((Reg.TIME_CTRL .abl, 0, 0) :: mute .abl [(0x12, 1)]), by decide +kernel⟩,
   ⟨sa [(Reg.TIME_STATUS .abl, 0, 0x300)], by decide +kernel⟩,
   ⟨sd [(Reg.TIME_STATUS .ddu, 0, 0x100)], by decide +kernel⟩,
   ⟨sa [(Reg.TIME_CTRL .abl, 0, 3 * 2 ^ 27), (Reg.TIME_STATUS .abl, 0, 0x100)], _, by decide +kernel, by decide +kernel, rfl⟩⟩

theorem test_hyps_TimeExchangeCommandsComplete_0 :
    (∃ (s : State), s.abl.n.asleep = false ∧ s.abl.n.srcSel = 1 ∧ s.abl.n.exch ≠ 0) ∧
    (∃ (s : State) (slot : Nat), slot ≠ 0 ∧ s.abl.n.timeState ≠ tsUnaligned) ∧
    (∃ (s : State) (port : Nat) (delta : Nat) (m : Node), s.abl.n.dev = .abl ∧ m = s.abl.n.wr (Reg.LNK_DELAY .abl) port delta ∧ m.timeState ≠ tsUnaligned) ∧
    (∃ (s : State) (port : Nat) (t1 : Nat) (t2 : Nat) (t3 : Nat) (flags : Nat) (delta : Int) (theta : Int) (m : Node), s.ddu.live = true ∧ s.ddu.n.dev = .ddu ∧ s.ddu.n.timex.t1 = some t1 ∧ delta = (500 * (((s.ddu.n.stamp : Int) - t1) - ((t3 : Int) - t2) * 256) - toInt 32 (s.ddu.n.rd (Reg.TIME_ASYM .ddu)) * 256 + 128000) / 256000 ∧ theta = (500 * (((t2 : Int) * 256 - t1) + ((t3 : Int) * 256 - s.ddu.n.stamp)) + toInt 32 (s.ddu.n.rd (Reg.TIME_ASYM .ddu)) * 256 + 128000) / 256000 ∧ m = ({ (((s.ddu.n.wr (Reg.TIME_DELAY .ddu) 0 (ofInt 32 delta)).wr (Reg.TIME_OFFSET .ddu) 0 (ofInt 32 theta)).wr (Reg.LNK_DELAY .ddu) port (ofInt 32 delta)) with timex := { s.ddu.n.timex with t1 := none, serverHold := flags == tsHoldover || flags == tsJumpHeld, serverOut := flags == tsHoldover } } : Node).stamped) ∧
    (∃ (s : State) (domain : Nat), domain ≠ s.abl.n.timex.ptpDomain) ∧
    (∃ (s : State) (port : Nat) (domain : Nat), domain = s.abl.n.timex.ptpDomain ∧ s.abl.n.mgmtDown (24 + port) = false) ∧
    (∃ (s : State) (port : Nat) (domain : Nat), domain = s.abl.n.timex.ptpDomain ∧ s.abl.n.mgmtDown (24 + port) = false ∧ s.abl.n.asleep = false) ∧
    (∃ (s : State), s.abl.n.timeState = tsHoldover ∧ 2500000000 < s.abl.n.local - s.abl.n.timex.holdSince) ∧
    (∃ (s : State) (m : Node) (k : Node), s.abl.n.timex.lastPps = none ∧ m = (s.abl.n.wr Reg.ABL_PPS_IN_STAMP 0 (s.abl.n.stamp / 256 % 2 ^ 32)).wr Reg.ABL_PPS_IN_WRAP 0 ((s.abl.n.stamp / 256 / 2 ^ 32 + 2 ^ 32 - s.abl.n.rd (Reg.TIME_TIDE_BASE .abl)) % 2 ^ 32) ∧ k = ({ m with timex := { s.abl.n.timex with lastPps := some s.abl.n.local, ppsFrac := s.abl.n.stamp % 256, stamps := s.abl.n.timex.stamps + 1 } } : Node).irq 107 ∧ k.srcSel ≠ 5) ∧
    (∃ (s : State), s.abl.n.timex.lastPps = some s.abl.n.local) :=
  ⟨⟨sa [(Reg.TIME_CTRL .abl, 0, 2 ^ 27 + 2 ^ 16)], by decide +kernel⟩,
   ⟨sa [(Reg.TIME_STATUS .abl, 0, 0x100)], 1, by decide +kernel⟩,
   ⟨sa [(Reg.TIME_STATUS .abl, 0, 0x100)], 0, 0, _, by decide +kernel, rfl, by decide +kernel⟩,
   ⟨sd [] fun d => { d with n := { d.n with timex := { d.n.timex with t1 := some 5 } } }, 0, 5, 6, 7, 0, _, _, _, by decide +kernel, by decide +kernel, by decide +kernel, rfl, rfl, rfl⟩,
   ⟨sa [], 128, by decide +kernel⟩,
   ⟨sa [], 0, 0, by decide +kernel⟩,
   ⟨sa [], 0, 0, by decide +kernel⟩,
   ⟨sa [(Reg.TIME_STATUS .abl, 0, 0x200), (Reg.TIME_WRAP .abl, 0, 1)], by decide +kernel⟩,
   ⟨sa [], _, _, by decide +kernel, rfl, rfl, by decide +kernel⟩,
   ⟨sa [] fun a => { a with n := { a.n with timex := { a.n.timex with lastPps := some 0 } } }, by decide +kernel⟩⟩

theorem test_hyps_TimeExchangeCommandsComplete_1 :
    (∃ (s : State), dist32 (s.abl.n.rd Reg.ABL_PPS_NEXT) s.abl.n.now ≤ 0 ∧ s.abl.n.bit (Reg.TIME_STATUS .abl) 0 6 = false) ∧
    (∃ (s : State), 32 ≤ s.abl.n.timex.launch.length) ∧
    (∃ (s : State), s.abl.n.timex.launch = [] ∧ 0 < dist32 (s.abl.n.rd Reg.ABL_LAUNCH_TARGET) s.abl.n.now ∧ bit (s.abl.n.rd Reg.ABL_LAUNCH_FRAME) 31 = false ∧ s.abl.n.rd Reg.ABL_LAUNCH_PORTS = 1) ∧
    (∃ (s : State) (e : LaunchEntry), s.abl.n.timex.launch = [e] ∧ (s.abl.n.launchDueOf e).2.ports = 0) ∧
    (∃ (s : State), s.ddu.live = true) :=
  ⟨⟨sa [(Reg.TIME_STATUS .abl, 0, 0)], by decide +kernel⟩,
   ⟨sa [] fun a => { a with n := { a.n with timex := { a.n.timex with launch := List.replicate 32 ⟨0, 1, 0, false⟩ } } }, by decide +kernel⟩,
   ⟨sa [(Reg.ABL_LAUNCH_TARGET, 0, 1), (Reg.ABL_LAUNCH_PORTS, 0, 1)], by decide +kernel⟩,
   ⟨sa [] fun a => { a with n := { a.n with timex := { a.n.timex with launch := [⟨0, 0, 0, false⟩] } } }, ⟨0, 0, 0, false⟩, by decide +kernel⟩,
   ⟨sd [], by decide +kernel⟩⟩

theorem test_hyps_LaneCommandsComplete_0 :
    (∃ (s : State), s.ddu.live = true ∧ s.ddu.n.bit Reg.DDU_STATUS 0 7 = false) ∧
    (∃ (s : State), s.ddu.live = true ∧ s.ddu.n.bit Reg.DDU_STATUS 0 7 = true ∧ (s.ddu.n.lane 0 0).st ≠ lsUp) ∧
    (∃ (s : State) (dev : Dev) (p : Nat) (slot : Nat), Awake s dev ∧ ((part s dev).lane p slot).st ≠ lsUp) ∧
    (∃ (s : State) (p : Nat) (slot : Nat) (f : Flit), s.abl.n.dev = .abl ∧ (s.abl.n.lane p slot).st = lsUp ∧ f.intact = false) ∧
    (∃ (s : State) (p : Nat) (slot : Nat) (f : Flit) (m : Node) (l : LaneX), s.abl.n.dev = .abl ∧ (s.abl.n.lane p slot).st = lsUp ∧ f.intact = true ∧ (f.ftype = 1 ∨ f.ftype = 2) ∧ f.cls ≠ 6 ∧ (p < 20 ∨ f.cls = 4) ∧ m = ((s.abl.n.lcount p 1).lcount p 3 2).flitAck p slot f ∧ f.seq = (m.lane p slot).expSeq ∧ l = { m.lane p slot with expSeq := (f.seq + 1) % 4096, awaitSeq := false, creditDue := modifyAt (m.lane p slot).creditDue f.cls fun x => x + 1 }) ∧
    (∃ (s : State) (p : Nat) (slot : Nat) (f : Flit) (m : Node) (l : LaneX), s.ddu.n.dev = .ddu ∧ s.ddu.live = true ∧ (s.ddu.n.lane p slot).st = lsUp ∧ f.intact = true ∧ (f.ftype = 1 ∨ f.ftype = 2) ∧ f.cls ≠ 6 ∧ m = (s.ddu.n.count 0xF41).flitAck p slot f ∧ f.seq = (m.lane p slot).expSeq ∧ l = { m.lane p slot with expSeq := (f.seq + 1) % 4096, awaitSeq := false, creditDue := modifyAt (m.lane p slot).creditDue f.cls fun x => x + 1 }) ∧
    (∃ (s : State) (dev : Dev) (p : Nat) (slot : Nat), Awake s dev ∧ ((part s dev).lane p slot).st = lsDetect ∧ ((¬ (part s dev).dev = .ddu ∨ ¬ (part s dev).fld Reg.DDU_PWR_STATE 0 0 3 = 0))) ∧
    (∃ (s : State) (dev : Dev) (p : Nat) (slot : Nat) (n : Node), Awake s dev ∧ ((part s dev).lane p slot).st = lsTrain ∧ n = (part s dev).modLane p slot LaneX.trainedOnce ∧ bit (n.rd (Reg.LNK_PEER_EXPECT n.dev) p) 63 = false) ∧
    (∃ (s : State) (dev : Dev) (p : Nat) (slot : Nat) (peer : Nat) (n : Node), Awake s dev ∧ ((part s dev).lane p slot).st = lsTrain ∧ n = (part s dev).modLane p slot LaneX.trainedOnce ∧ bit (n.rd (Reg.LNK_PEER_EXPECT n.dev) p) 63 = true ∧ bits (n.rd (Reg.LNK_PEER_EXPECT n.dev) p) 0 28 ≠ bits peer 0 28) ∧
    (∃ (s : State) (dev : Dev) (p : Nat) (slot : Nat), Awake s dev ∧ ((part s dev).lane p slot).st = lsTrain) :=
  ⟨⟨sd [], by decide +kernel⟩,
   ⟨sd [(Reg.DDU_STATUS, 0, 0x18C)], by decide +kernel⟩,
   ⟨sd [], .ddu, 0, 0, by trivial, by decide +kernel⟩,
   ⟨sa [] fun a => { a with n := { a.n with lanes := [(92, { st := lsUp })] } }, 23, 0, { ftype := 0, crc := 1 }, by decide +kernel⟩,
   ⟨sa [] fun a => { a with n := { a.n with lanes := [(0, { st := lsUp })] } }, 0, 0, { ftype := 1, crc := 2735523419 }, _, _, by decide +kernel, by decide +kernel, by decide +kernel, by decide +kernel, (by decide +kernel), by decide +kernel, rfl, by decide +kernel, rfl⟩,
   ⟨sd [] fun d => { d with n := { d.n with lanes := [(0, { st := lsUp })] } }, 0, 0, { ftype := 1, crc := 2735523419 }, _, _, by decide +kernel, by decide +kernel, by decide +kernel, by decide +kernel, (by decide +kernel), by decide +kernel, rfl, by decide +kernel, rfl⟩,
   ⟨sd [] fun d => { d with n := { d.n with lanes := [(0, { st := lsDetect })] } }, .ddu, 0, 0, by trivial, by decide +kernel⟩,
   ⟨sd [] fun d => { d with n := { d.n with lanes := [(0, { st := lsTrain })] } }, .ddu, 0, 0, _, by trivial, by decide +kernel, rfl, by decide +kernel⟩,
   ⟨sd [(Reg.LNK_PEER_EXPECT .ddu, 0, 2 ^ 63 + 6)] fun d => { d with n := { d.n with lanes := [(0, { st := lsTrain })] } }, .ddu, 0, 0, 5, _, by trivial, by decide +kernel, rfl, by decide +kernel⟩,
   ⟨sd [] fun d => { d with n := { d.n with lanes := [(0, { st := lsTrain })] } }, .ddu, 0, 0, by trivial, by decide +kernel⟩⟩

theorem test_hyps_LaneCommandsComplete_1 :
    (∃ (s : State) (dev : Dev) (p : Nat) (slot : Nat), Awake s dev ∧ ((part s dev).lane p slot).st = lsUp) ∧
    (∃ (s : State) (dev : Dev) (p : Nat) (slot : Nat) (cause : Nat) (uncorr : Nat), Awake s dev ∧ ((part s dev).lane p slot).st = lsUp ∧ uncorr = 0 ∧ 1 ≤ cause ∧ cause ≤ 3) ∧
    (∃ (s : State) (dev : Dev) (p : Nat) (slot : Nat) (cause : Nat), Awake s dev ∧ ((part s dev).lane p slot).st = lsUp ∧ cause ≠ 0) ∧
    (∃ (s : State) (dev : Dev) (p : Nat) (slot : Nat), Awake s dev ∧ ((part s dev).lane p slot).st = lsBackoff) ∧
    (∃ (s : State) (dev : Dev), Awake s dev) ∧
    (∃ (s : State) (dev : Dev) (who : Requester), Awake s dev ∧ MayWrite s who dev) ∧
    (∃ (s : State) (who : Requester), who ≠ .unprivileged ∧ s.ddu.answers who = true ∧ s.ddu.n.dev = .ddu) ∧
    (∃ (s : State), s.abl.n.dev = .abl) :=
  ⟨⟨sd [] fun d => { d with n := { d.n with lanes := [(0, { st := lsUp })] } }, .ddu, 0, 0, by trivial, by decide +kernel⟩,
   ⟨sd [] fun d => { d with n := { d.n with lanes := [(0, { st := lsUp })] } }, .ddu, 0, 0, 3, 0, by trivial, by decide +kernel⟩,
   ⟨sd [] fun d => { d with n := { d.n with lanes := [(0, { st := lsUp })] } }, .ddu, 0, 0, 1, by trivial, by decide +kernel⟩,
   ⟨sd [] fun d => { d with n := { d.n with lanes := [(0, { st := lsBackoff })] } }, .ddu, 0, 0, by trivial, by decide +kernel⟩,
   ⟨sd [], .ddu, by trivial⟩,
   ⟨sd [], .ddu, .firmware, by trivial, by first | exact rfl | exact ⟨by decide, by decide +kernel⟩⟩,
   ⟨sd [], .firmware, by decide +kernel⟩,
   ⟨sa [], by decide +kernel⟩⟩

theorem test_hyps_MessageAndSchedulerCommandsComplete_0 :
    (∃ (s : State) (p : Nat) (slot : Nat) (m : Msg), s.abl.n.msgOver m = true ∧ (s.abl.n.lane p slot).done = []) ∧
    (∃ (s : State) (p : Nat) (slot : Nat) (m : Msg), s.abl.n.msgOver m = false ∧ s.abl.n.isCopy m = true ∧ (s.abl.n.lane p slot).done = []) ∧
    (∃ (s : State) (p : Nat) (slot : Nat) (m : Msg), s.abl.n.msgOver m = false ∧ s.abl.n.isCopy m = false ∧ (s.abl.n.lane p slot).done = [] ∧ bits m.dest 0 20 ≠ (s.abl.n.noteRec m).ident ∧ m.hops = 0) ∧
    (∃ (s : State) (p : Nat) (slot : Nat) (m : Msg) (r : Record), s.abl.n.msgOver m = false ∧ s.abl.n.isCopy m = false ∧ (s.abl.n.lane p slot).done = [] ∧ bits m.dest 0 20 = (s.abl.n.noteRec m).ident ∧ m.body = .record r ∧ r.payload.length ≤ 4080) ∧
    (∃ (s : State) (m : Msg), s.ddu.live = true ∧ (s.ddu.n.lane 0 0).done = [] ∧ s.ddu.n.msgOver m = false ∧ bits m.dest 0 20 = s.ddu.n.ident) ∧
    (∃ (s : State) (m : Msg), s.ddu.live = true ∧ (s.ddu.n.lane 0 0).done = [] ∧ s.ddu.n.msgOver m = false ∧ bits m.dest 0 20 ≠ s.ddu.n.ident ∧ s.ddu.n.bit Reg.DDU_DIE_INDEX 0 31 = true ∧ m.hops ≠ 0) ∧
    (∃ (s : State), s.ddu.n.bit Reg.DDU_STATUS 0 7 = true ∧ (s.ddu.n.lane 0 0).st = lsUp ∧ (s.ddu.n.lane 0 0).upSince + 1000000000 ≤ s.ddu.n.local) ∧
    (∃ (s : State), s.ddu.live = true ∧ (s.ddu.n.lane 0 0).st = lsUp ∧ s.ddu.n.bit Reg.DDU_STATUS 0 7 = false ∧ s.ddu.fb.guests = []) ∧
    (∃ (s : State), s.ddu.live = true ∧ (s.ddu.n.lane 0 0).st ≠ lsUp) ∧
    (∃ (s : State), s.ddu.n.bit Reg.DDU_STATUS 0 7 = true ∧ s.ddu.fb.accepted = true) :=
  ⟨⟨sa [(Reg.TIME_NS .abl, 0, 2000)], 0, 0, msg0 5 6, by decide +kernel⟩,
   ⟨sa [] fun a => { a with n := { a.n with delivered := [(5 * 2 ^ 13 + 1, 0)] } }, 0, 0, msg0 5 6, by decide +kernel⟩,
   ⟨sa [], 0, 0, { msg0 5 6 with hops := 0 }, by decide +kernel⟩,
   ⟨sa [], 0, 0, msg0 5 0x20003, rec0 [], by decide +kernel⟩,
   ⟨sd [], msg0 5 0, by decide +kernel⟩,
   ⟨sd [(Reg.DDU_DIE_INDEX, 0, 2 ^ 31)], msg0 5 6, by decide +kernel⟩,
   ⟨sd [(Reg.DDU_STATUS, 0, 0x18C), (Reg.TIME_NS .ddu, 0, 1000000000)] fun d => { d with n := { d.n with lanes := [(0, { st := lsUp })] } }, by decide +kernel⟩,
   ⟨sd [] fun d => { d with n := { d.n with lanes := [(0, { st := lsUp })] } }, by decide +kernel⟩,
   ⟨sd [], by decide +kernel⟩,
   ⟨sd [(Reg.DDU_STATUS, 0, 0x18C)] fun d => { d with fb := { d.fb with accepted := true } }, by decide +kernel⟩⟩

theorem test_hyps_MessageAndSchedulerCommandsComplete_1 :
    (∃ (s : State), s.ddu.n.bit Reg.DDU_STATUS 0 7 = true ∧ s.ddu.fb.exhausted = true) ∧
    (∃ (s : State) (m : Msg) (r : Record) (d : Ddu), s.ddu.live = true ∧ s.ddu.n.msgOver m = false ∧ m.body = .record r ∧ d = (s.ddu.ringStore m).guestSeen (bits m.origin 0 20) ∧ d.isGuest (bits m.origin 0 20) = true) ∧
    (∃ (s : State) (m : Msg) (r : Record) (d : Ddu), s.ddu.live = true ∧ s.ddu.n.msgOver m = false ∧ m.body = .record r ∧ d = (s.ddu.ringStore m).guestSeen (bits m.origin 0 20) ∧ d.isGuest (bits m.origin 0 20) = false ∧ bits m.dest 0 20 = s.ddu.n.ident) ∧
    (∃ (s : State) (p : Nat), 16 ≤ p ∧ s.abl.n.uplinkFree p = true) ∧
    (∃ (s : State) (p : Nat) (x : Node) (m : Node) (t : TxMsg), 16 ≤ p ∧ s.abl.n.uplinkFree p = true ∧ x = s.abl.n.purge.sentFlits p 1 ∧ x.dueFrame p 0 = none ∧ x.flitPick p 0 = (m, some t) ∧ (t.sent ≠ 0 ∨ x.portQuiet p = false)) ∧
    (∃ (s : State) (p : Nat) (k : Nat) (c : Nat) (t : TxMsg), s.abl.n.uschPick p = some (k, c) ∧ ([1, 2, 3, 4].find? fun x => decide (0 < (s.abl.n.lane p 0).credit.getD x 0) && (s.abl.n.headOf p 0 x).any fun y => decide (0 < y.sent)) = none ∧ s.abl.n.txq.find? (fun y => y.port == p && y.slot == k && y.msg.cls == c && y.sent == 0 && !y.launch) = some t) ∧
    (∃ (s : State), s.abl.n.txq = [] ∧ s.abl.n.fld Reg.ABL_USCH_SAMPLE_US 0 0 20 ≠ 0) :=
  ⟨⟨sd [(Reg.DDU_STATUS, 0, 0x18C)] fun d => { d with fb := { d.fb with exhausted := true } }, by decide +kernel⟩,
   ⟨sd [] fun d => { d with fb := { d.fb with guests := [5] } }, msg0 5 6, rec0 [], _, by decide +kernel, by decide +kernel, by decide +kernel, rfl, by decide +kernel⟩,
   ⟨sd [], msg0 5 0, rec0 [], _, by decide +kernel, by decide +kernel, by decide +kernel, rfl, by decide +kernel⟩,
   ⟨sa [] fun a => { a with n := { a.n with lanes := [(64, { st := lsUp })], txq := [{ port := 16, msg := msg0 5 6, size := 64, at_ := 0 }] } }, 16, by decide +kernel⟩,
   ⟨sa [] fun a => { a with n := { a.n with lanes := [(64, { st := lsUp })], txq := [{ port := 16, msg := msg0 5 6, size := 64, at_ := 0 }] } }, 16, _, ((((sa [] fun a => { a with n := { a.n with lanes := [(64, { st := lsUp })], txq := [{ port := 16, msg := msg0 5 6, size := 64, at_ := 0 }] } }).abl.n.purge.sentFlits 16 1).flitPick 16 0).1), { port := 16, msg := msg0 5 6, size := 64, at_ := 0 }, by decide +kernel, by decide +kernel, rfl, by decide +kernel⟩,
   ⟨sa [] fun a => { a with n := { a.n with lanes := [(64, { st := lsUp })], txq := [{ port := 16, msg := msg0 5 6, size := 64, at_ := 0 }] } }, 16, 0, 1, { port := 16, msg := msg0 5 6, size := 64, at_ := 0 }, by decide +kernel⟩,
   ⟨sa [(Reg.ABL_USCH_SAMPLE_US, 0, 100)], by decide +kernel⟩⟩

theorem test_hyps_ReductionCommandsComplete_0 :
    (∃ (s : State), s.ddu.alive = false) ∧
    (∃ (s : State), s.ddu.alive = true) ∧
    (∃ (s : State) (origin : Nat), s.abl.n.bit Reg.ABL_RED_CTRL 0 0 = true ∧ s.abl.n.childOf origin = none) ∧
    (∃ (s : State) (origin : Nat) (c : Nat) (r : Record), s.abl.n.bit Reg.ABL_RED_CTRL 0 0 = true ∧ s.abl.n.childOf origin = some c ∧ s.abl.frameSlots (leAt r.payload 0 4) = none) ∧
    (∃ (s : State) (origin : Nat) (c : Nat) (ms : List Nat) (p : Abl × List Nat) (r : Record), s.abl.n.bit Reg.ABL_RED_CTRL 0 0 = true ∧ s.abl.n.childOf origin = some c ∧ s.abl.n.jobCheck (leAt r.payload 0 4) = 0 ∧ s.abl.frameSlots (leAt r.payload 0 4) = some ms ∧ p = (dieEnts r.payload).foldl (Abl.dieEntry ms origin c (leAt r.payload 4 4)) (s.abl, [])) ∧
    (∃ (s : State) (origin : Nat) (c : Nat) (ms : List Nat) (p : Abl × List Nat) (r : Record), s.abl.n.bit Reg.ABL_RED_CTRL 0 0 = true ∧ s.abl.n.childOf origin = some c ∧ s.abl.n.jobCheck (leAt r.payload 0 4) = 0 ∧ s.abl.frameSlots (leAt r.payload 0 4) = some ms ∧ p = (redEntries (min 253 (leAt r.payload 24 4)) (r.payload.drop 32)).foldl (Abl.nodeEntry ms c (leAt r.payload 8 4) (leAt r.payload 16 4) (leAt r.payload 4 4)) (s.abl.knownDies (leAt r.payload 0 4) c (leAt r.payload 12 4), [])) ∧
    (∃ (s : State) (period : Nat) (w : Nat), period ≠ 0 ∧ (w + 1) * periodNs period + s.abl.n.fld Reg.ABL_RED_CLOSE_US 0 0 16 * 1000 ≤ s.abl.n.tideline ∧ s.abl.n.bit Reg.ABL_RED_CTRL 0 0 = true ∧ s.abl.closing period w = [] ∧ s.abl.red.frames = []) ∧
    (∃ (s : State) (period : Nat) (w : Nat) (b : Abl) (sl : RedSlot) (x : RedSlot), s.abl.closing period w = [sl] ∧ b = s.abl.closeWindow period w ∧ b.redSlot sl.m = some x ∧ x.next = w + 1) ∧
    (∃ (v : Nat), bit v 127 = true ∧ bits v 124 3 ≠ 7 ∧ min 10000 (bits v 24 20) = 0) ∧
    (∃ (v : Nat), bit v 127 = false ∧ bit v 123 = false) :=
  ⟨⟨sd [(Reg.DDU_STATUS, 0, 0x104)], by decide +kernel⟩,
   ⟨sd [], by decide +kernel⟩,
   ⟨sa [(Reg.ABL_RED_CTRL, 0, 1)], 5, by decide +kernel⟩,
   ⟨sa [(Reg.ABL_RED_CTRL, 0, 1), (Reg.ABL_RED_CHILD, 0, 2 ^ 127 + 5 * 2 ^ 96)], 5, 0, rec0 [1, 0, 1, 0], by decide +kernel⟩,
   ⟨sa [(Reg.ABL_RED_CTRL, 0, 1), (Reg.ABL_RED_CHILD, 0, 2 ^ 127 + 5 * 2 ^ 96)] fun a => { a with red := { a.red with slots := [{ m := 0, next := 0 }] } }, 5, 0, [0], _, rec0 [], by decide +kernel, by decide +kernel, by decide +kernel, by decide +kernel, rfl⟩,
   ⟨sa [(Reg.ABL_RED_CTRL, 0, 1), (Reg.ABL_RED_CHILD, 0, 2 ^ 127 + 5 * 2 ^ 96)] fun a => { a with red := { a.red with slots := [{ m := 0, next := 0 }] } }, 5, 0, [0], _, rec0 [], by decide +kernel, by decide +kernel, by decide +kernel, by decide +kernel, rfl⟩,
   ⟨sa [(Reg.ABL_RED_CTRL, 0, 1), (Reg.TIME_TIDE_BASE .abl, 0, 1)], 1, 0, by decide +kernel⟩,
   ⟨sa [(Reg.ABL_RED_CTRL, 0, 1), (Reg.ABL_RED_MET, 0, 2 ^ 24), (Reg.TIME_NS .abl, 0, 150000)] fun a => { a with red := { a.red with slots := [{ m := 0, next := 0 }] } }, 1, 0, _, { m := 0, next := 0 }, _, by decide +kernel, rfl, rfl, by decide +kernel⟩,
   ⟨2 ^ 127, by decide +kernel⟩,
   ⟨0, by decide +kernel⟩⟩

theorem test_hyps_ReductionCommandsComplete_1 :
    (∃ (s : State) (origin : Nat) (c : Nat) (r : Record), s.abl.n.jobCheck (leAt r.payload 0 4) = 0 ∧ s.abl.n.childOf origin = some c ∧ bit (leAt r.payload 10 2) 0 = false) ∧
    (∃ (s : State) (origin : Nat) (r : Record), s.abl.n.jobCheck (leAt r.payload 0 4) = 0 ∧ s.abl.n.childOf origin = none) ∧
    (∃ (s : State) (origin : Nat) (c : Nat) (r : Record), s.abl.n.jobCheck (leAt r.payload 0 4) = 0 ∧ s.abl.n.childOf origin = some c ∧ bit (leAt r.payload 10 2) 2 = false) ∧
    (∃ (s : State) (t : Nat) (tag : Nat) (epoch : Nat) (b : BarX), s.abl.bars.find? (fun x => x.jobtag == t && x.tag == tag && x.epoch == epoch) = some b ∧ b.began + s.abl.n.rd Reg.ABL_RED_BAR_TIMEOUT_US * 1000 ≤ s.abl.n.local) :=
  ⟨⟨sa [(Reg.ABL_RED_CHILD, 0, 2 ^ 127 + 5 * 2 ^ 96)], 5, 0, rec0 [], by decide +kernel⟩,
   ⟨sa [], 5, rec0 [], by decide +kernel⟩,
   ⟨sa [(Reg.ABL_RED_CHILD, 0, 2 ^ 127 + 5 * 2 ^ 96)], 5, 0, rec0 [], by decide +kernel⟩,
   ⟨sa [(Reg.TIME_NS .abl, 0, 50000000)] fun a => { a with bars := [⟨1, 2, 3, 0, []⟩] }, 1, 2, 3, ⟨1, 2, 3, 0, []⟩, by decide +kernel⟩⟩

theorem test_hyps_FanCommandsComplete_0 :
    (∃ (s : State) (i : Nat), s.abl.n.fld Reg.ABL_RED_FAN_STAT i 62 2 = 1) ∧
    (∃ (s : State) (i : Nat) (m : FanMsg), s.abl.n.fld Reg.ABL_RED_FAN_STAT i 62 2 ≠ 1 ∧ m = fanOfBytes (le 2048 (s.abl.n.rd Reg.ABL_RED_FAN_BUF i)) ∧ m.ranges = []) ∧
    (∃ (s : State) (i : Nat) (m : FanMsg) (b : Abl), s.abl.n.fld Reg.ABL_RED_FAN_STAT i 62 2 ≠ 1 ∧ m = ({ (fanOfBytes (le 2048 (s.abl.n.rd Reg.ABL_RED_FAN_BUF i))) with deadline := (s.abl.n.now + s.abl.n.rd Reg.ABL_RED_FAN_DEADLINE_US * 1000) % 4294967296 } : FanMsg) ∧ m.ranges ≠ [] ∧ (s.abl.on fun n => n.wr Reg.ABL_RED_FAN_STAT i 4611686018427387904).fanKind m ((s.abl.on fun n => n.wr Reg.ABL_RED_FAN_STAT i 4611686018427387904).n.ident) = (b, true)) ∧
    (∃ (s : State) (t : Nat) (q : Nat) (x : FanX), s.abl.n.jobCheck t = 0 ∧ s.abl.fansOf t q = [x]) ∧
    (∃ (s : State) (origin : Nat) (t : Nat) (q : Nat) (x : FanX) (k : FanChild), s.abl.n.jobCheck t = 0 ∧ s.abl.fansOf t q = [x] ∧ x.done = false ∧ x.children.find? (fun k => decide (k.st < 4) && (s.abl.n.childNode k.c == origin)) = some k) ∧
    (∃ (s : State) (t : Nat) (q : Nat), s.abl.n.jobCheck t = 0 ∧ s.abl.fansOf t q = []) ∧
    (∃ (s : State) (t : Nat) (q : Nat), s.abl.fansOf t q = []) ∧
    (∃ (s : State) (t : Nat), s.abl.n.jobCheck t = 1) ∧
    (∃ (s : State) (origin : Nat) (t : Nat) (q : Nat) (x : FanX) (k : FanChild), s.abl.n.jobCheck t = 0 ∧ s.abl.fansOf t q = [x] ∧ x.done = false ∧ x.children.find? (fun k => decide (k.st < 4) && (k.st == 3 && s.abl.n.childPeer k.c == origin)) = some k) ∧
    (∃ (s : State) (t : Nat) (q : Nat) (c : Nat) (x : FanX) (k : FanChild), s.abl.fansOf t q = [x] ∧ x.done = false ∧ x.children.find? (fun k => k.c == c && decide (k.st < 4)) = some k ∧ k.st < 2) :=
  ⟨⟨sa [(Reg.ABL_RED_FAN_STAT, 3, 2 ^ 62)], 3, by decide +kernel⟩,
   ⟨sa [], 3, fan0 0, by decide +kernel⟩,
   ⟨sa [(Reg.ABL_RED_FAN_BUF, 0, 2 ^ 80 + 0x20 * 2 ^ 64)], 0, { fan0 0x20 with deadline := ((sa []).abl.n.rd Reg.ABL_RED_FAN_DEADLINE_US * 1000) % 4294967296, ranges := [(0, 0)] }, _, by decide +kernel, by decide +kernel, by decide +kernel, rfl⟩,
   ⟨sa [] fun a => { a with fans := [fan1] }, 0, 0, fan1, by decide +kernel⟩,
   ⟨sa [] fun a => { a with fans := [fan1] }, 0, 0, 0, fan1, ⟨0, 0, 1⟩, by decide +kernel⟩,
   ⟨sa [(Reg.ABL_JOB, 1, 2 ^ 125 + 65537)], 65537, 1, by decide +kernel⟩,
   ⟨sa [], 65537, 1, by decide +kernel⟩,
   ⟨sa [(Reg.ABL_JOB, 1, 2 ^ 126 + 65538)], 65537, by decide +kernel⟩,
   ⟨sa [] fun a => { a with fans := [fan1 3] }, 0, 0, 0, fan1 3, ⟨0, 3, 1⟩, by decide +kernel⟩,
   ⟨sa [] fun a => { a with fans := [fan1 1] }, 0, 0, 0, fan1 1, ⟨0, 1, 1⟩, by decide +kernel⟩⟩

theorem test_hyps_FanCommandsComplete_1 :
    (∃ (s : State) (t : Nat) (q : Nat) (c : Nat) (x : FanX) (k : FanChild), s.abl.fansOf t q = [x] ∧ x.done = false ∧ x.children.find? (fun k => k.c == c && decide (k.st < 4)) = some k ∧ k.st = 2 ∧ s.abl.n.role = 1) ∧
    (∃ (s : State) (t : Nat) (q : Nat) (x : FanX), s.abl.fansOf t q = [x] ∧ x.done = false) ∧
    (∃ (s : State) (t : Nat) (q : Nat) (x : FanX), s.abl.fansOf t q = [x] ∧ x.done = false ∧ dist32 x.msg.deadline s.abl.n.now ≤ 0) ∧
    (∃ (s : State) (failed : Nat) (requester : Nat) (m : FanMsg) (y : FanX), s.abl.n.jobCheck m.jobtag = 0 ∧ (s.abl.fansOf m.jobtag m.seq).find? (fun y => y.relay == some (failed, requester)) = some y ∧ y.done = true) ∧
    (∃ (s : State) (origin : Nat) (failed : Nat) (m : FanMsg) (b : Abl), s.abl.n.jobCheck m.jobtag = 0 ∧ s.abl.fans = [] ∧ s.abl.relayKind failed m origin = (b, true)) :=
  ⟨⟨sa [] fun a => { a with fans := [fan1 2] }, 0, 0, 0, fan1 2, ⟨0, 2, 1⟩, by decide +kernel⟩,
   ⟨sa [] fun a => { a with fans := [fan1] }, 0, 0, fan1, by decide +kernel⟩,
   ⟨sa [] fun a => { a with fans := [fan1] }, 0, 0, fan1, by decide +kernel⟩,
   ⟨sa [] fun a => { a with fans := [{ fan1 with relay := some (5, 6), done := true }] }, 5, 6, fan0 5, { fan1 with relay := some (5, 6), done := true }, by decide +kernel⟩,
   ⟨sa [], 0, 5, fan0 5, _, by decide +kernel, by decide +kernel, rfl⟩⟩

theorem test_hyps_JobCommandsComplete_0 :
    (∃ (s : State) (m : FanMsg), s.ddu.live = true ∧ (m.jobtag, m.seq) ∉ s.ddu.job.kept ∧ (m.jobtag, m.seq) ∉ s.ddu.job.refused) ∧
    (∃ (s : State) (m : FanMsg), s.ddu.live = true ∧ (m.jobtag, m.seq) ∉ s.ddu.job.kept ∧ (m.jobtag, m.seq) ∉ s.ddu.job.refused ∧ lcJobs (s.ddu.n.fld Reg.DDU_STATUS 0 8 3) = true) ∧
    (∃ (s : State) (m : FanMsg), s.ddu.live = true ∧ (m.jobtag, m.seq) ∉ s.ddu.job.kept ∧ (m.jobtag, m.seq) ∉ s.ddu.job.refused ∧ lcJobs (s.ddu.n.fld Reg.DDU_STATUS 0 8 3) = false) ∧
    (∃ (s : State) (m : FanMsg), s.ddu.live = true ∧ (m.jobtag, m.seq) ∉ s.ddu.job.kept ∧ (m.jobtag, m.seq) ∉ s.ddu.job.refused ∧ s.ddu.n.jobCheck m.jobtag = 0 ∧ bit (leAt m.body 2 2) 0 = true ∧ s.ddu.job.verdictGroup = 0) ∧
    (∃ (s : State) (m : FanMsg), s.ddu.live = true ∧ (m.jobtag, m.seq) ∉ s.ddu.job.kept ∧ (m.jobtag, m.seq) ∉ s.ddu.job.refused ∧ s.ddu.n.jobCheck m.jobtag = 0 ∧ s.ddu.job.verdictGroup = leAt m.body 0 2) ∧
    (∃ (s : State) (origin : Nat) (m : FanMsg) (b : Abl), s.abl.fans = [] ∧ s.abl.n.jobCheck m.jobtag ≠ 1 ∧ s.abl.fanKind (fanAs 1 m) origin = (b, true)) ∧
    (∃ (s : State) (m : FanMsg), s.abl.fans = [] ∧ s.abl.n.jobCheck m.jobtag = 0) ∧
    (∃ (s : State) (origin : Nat) (m : FanMsg), s.abl.fans = [] ∧ s.abl.n.jobCheck m.jobtag = 0 ∧ (s.abl.groupRegister (fanAs 3 m) origin).2 = false) ∧
    (∃ (s : State) (origin : Nat) (m : FanMsg), s.abl.fans = [] ∧ s.abl.n.jobCheck m.jobtag = 0 ∧ (s.abl.groupRegister (fanAs 3 m) origin).2 = true) ∧
    (∃ (s : State), s.ddu.live = true ∧ s.ddu.jobState ≠ 2 ∧ s.ddu.jobState ≠ 3) :=
  ⟨⟨sd [], fan0 2, by decide +kernel⟩,
   ⟨sd [], fan0 1, by decide +kernel⟩,
   ⟨sd [(Reg.DDU_STATUS, 0, 0xC)], fan0 1, by decide +kernel⟩,
   ⟨sd [], { fan0 3 with body := [1, 0, 1, 0] }, by decide +kernel⟩,
   ⟨sd [], fan0 4, by decide +kernel⟩,
   ⟨sa [(Reg.ABL_STATUS, 0, 0x11020000)], 0, { fan0 1 with jobtag := 65537 }, _, by decide +kernel, by decide +kernel, rfl⟩,
   ⟨sa [], fan0 2, by decide +kernel⟩,
   ⟨sa [], 0, fan0 3, by decide +kernel⟩,
   ⟨sa [(Reg.ABL_JOB, 1, 2 ^ 126 + 65537)], 0, { fan0 3 with jobtag := 65537, body := [5, 0, 0, 0] }, by decide +kernel⟩,
   ⟨sd [], by decide +kernel⟩⟩

theorem test_hyps_JobCommandsComplete_1 :
    (∃ (s : State), s.ddu.live = true ∧ s.ddu.jobState = 2 ∧ s.ddu.n.bit Reg.DDU_FENCE_STATUS 0 0 = false) ∧
    (∃ (s : State), s.ddu.jobState = 2 ∧ s.ddu.job.held = none) ∧
    (∃ (s : State) (j : JobStart), s.ddu.job.held = some j ∧ s.ddu.jobState = 1) ∧
    (∃ (s : State) (j : Nat), s.abl.n.fld Reg.ABL_JOB j 125 3 = 4 ∧ dist32 (s.abl.n.fld Reg.ABL_JOB j 32 32) s.abl.n.now ≤ 0) ∧
    (∃ (s : State) (k : Nat), (s.abl.n.obj k).st = 2 ∧ dist32 (s.abl.n.obj k).guardEnd s.abl.n.now ≤ 0) ∧
    (∃ (s : State) (k : Nat), (s.ddu.n.obj k).st = 2 ∧ dist32 (s.ddu.n.obj k).guardEnd s.ddu.n.now ≤ 0 ∧ s.ddu.job.waiting = none) ∧
    (∃ (s : State) (j : JobStart), s.ddu.job.waiting = some j) ∧
    (∃ (s : State) (who : Requester), who ≠ .unprivileged ∧ s.ddu.answers who = true) ∧
    (∃ (s : State), s.ddu.epochFences.n.bit Reg.DDU_FENCE_STATUS 0 0 = true ∧ s.ddu.epochFences.fenceMet = true ∧ s.ddu.epochFences.job.scrubbed = none) ∧
    (∃ (s : State) (bytes : Nat), s.ddu.epochFences.n.bit Reg.DDU_FENCE_STATUS 0 0 = true ∧ s.ddu.epochFences.fenceMet = true ∧ s.ddu.epochFences.job.scrubbed = some (bytes, true)) :=
  ⟨⟨sd [(Reg.DDU_JOB_STATE, 0, 2)], by decide +kernel⟩,
   ⟨sd [(Reg.DDU_JOB_STATE, 0, 2)], by decide +kernel⟩,
   ⟨sd [(Reg.DDU_JOB_STATE, 0, 1)] fun d => { d with job := { d.job with held := some { tag := 65537 } } }, { tag := 65537 }, by decide +kernel⟩,
   ⟨sa [(Reg.ABL_JOB, 63, 2 ^ 127)], 63, by decide +kernel⟩,
   ⟨sa [] fun a => { a with n := { a.n with sync := { objs := [{ num := 8191, st := 2 }] } } }, 8191, by decide +kernel⟩,
   ⟨sd [] fun d => { d with n := { d.n with sync := { objs := [{ num := 511, st := 2 }] } } }, 511, by decide +kernel⟩,
   ⟨sd [] fun d => { d with job := { d.job with waiting := some { tag := 65537 } } }, { tag := 65537 }, by decide +kernel⟩,
   ⟨sd [], .firmware, by decide +kernel⟩,
   ⟨sd [(Reg.DDU_FENCE_STATUS, 0, 1)], by decide +kernel⟩,
   ⟨sd [(Reg.DDU_FENCE_STATUS, 0, 1)] fun d => { d with job := { d.job with scrubbed := some (7, true) } }, 7, by decide +kernel⟩⟩

theorem test_hyps_JobCommandsComplete_2 :
    (∃ (s : State) (who : Requester), who ≠ .unprivileged ∧ s.ddu.answers who = true) ∧
    (∃ (s : State), s.abl.n.syncOn = true) ∧
    (∃ (s : State), s.abl.n.syncOn = false ∧ s.abl.n.dev = .abl) :=
  ⟨⟨sd [], .hostPrivileged, by decide +kernel⟩,
   ⟨sa [(Reg.ABL_SYNC_CTRL, 0, 1)], by decide +kernel⟩,
   ⟨sa [(Reg.ABL_SYNC_CTRL, 0, 0)], by decide +kernel⟩⟩

theorem test_hyps_SyncCommandsComplete :
    (∃ (s : State) (dev : Dev) (k : Nat) (q : SyncReq), Heard s dev ∧ (part s dev).syncOn = true ∧ q.handle % 8192 = k ∧ k < syncCount (part s dev).dev ∧ ((part s dev).obj k).st = 1 ∧ ((part s dev).obj k).kind ≠ 1 ∧ bits q.handle 16 16 = jobGen ((part s dev).obj k).jobtag) ∧
    (∃ (s : State) (dev : Dev) (k : Nat) (q : SyncReq), Heard s dev ∧ (part s dev).syncOn = true ∧ q.handle % 8192 = k ∧ k < syncCount (part s dev).dev ∧ ((part s dev).obj k).st = 1 ∧ ((part s dev).obj k).kind = 1 ∧ bits q.handle 16 16 = jobGen ((part s dev).obj k).jobtag) ∧
    (∃ (s : State) (dev : Dev), Awake s dev) ∧
    (∃ (s : State) (dev : Dev) (k : Nat) (q : SyncReq), Heard s dev ∧ (part s dev).syncOn = true ∧ q.handle % 8192 = k ∧ k < syncCount (part s dev).dev ∧ ((part s dev).obj k).st = 0 ∧ bits q.handle 16 16 = jobGen (q.d / 4294967296 % 4294967296)) ∧
    (∃ (s : State) (dev : Dev) (k : Nat) (q : SyncReq), Heard s dev ∧ (part s dev).syncOn = true ∧ q.handle % 8192 = k ∧ k < syncCount (part s dev).dev ∧ ((part s dev).obj k).st = 1 ∧ bits q.handle 16 16 = jobGen ((part s dev).obj k).jobtag) :=
  ⟨⟨sd [] fun d => { d with n := { d.n with sync := { objs := [{ num := 511, st := 1, jobtag := 65537 }] } } }, .ddu, 511, { handle := 66047 }, by first | exact trivial | (change _ = true; decide +kernel), by decide +kernel⟩,
   ⟨sd [] fun d => { d with n := { d.n with sync := { objs := [{ num := 511, st := 1, jobtag := 65537, kind := 1 }] } } }, .ddu, 511, { handle := 66047 }, by first | exact trivial | (change _ = true; decide +kernel), by decide +kernel⟩,
   ⟨sd [], .ddu, by trivial⟩,
   ⟨sd [], .ddu, 511, { handle := 511 }, by first | exact trivial | (change _ = true; decide +kernel), by decide +kernel⟩,
   ⟨sd [] fun d => { d with n := { d.n with sync := { objs := [{ num := 511, st := 1, jobtag := 65537 }] } } }, .ddu, 511, { handle := 66047 }, by first | exact trivial | (change _ = true; decide +kernel), by decide +kernel⟩⟩

theorem test_hyps_TreeCommandsComplete_0 :
    (∃ (s : State) (v : Nat), s.abl.model (bits v 16 6) = none) ∧
    (∃ (s : State) (v : Nat) (m : TreeModel) (x : TreeSample), s.abl.model (bits v 16 6) = some m ∧ s.abl.tree.samples = [] ∧ s.abl.n.bit Reg.ABL_TREE_CTRL 0 0 = true ∧ s.abl.n.modelState (bits v 16 6) = 2 ∧ x = TreeSample.mk 128 (bits v 0 5) 0 0 m (s.abl.binsOf m 0 (bits v 0 5) 0 (some (min 256 (bits v 32 9)))) 0 (!s.abl.treeWake)) ∧
    (∃ (s : State) (i : Nat) (c : Nat), s.abl.tree.samples.find? (fun x => x.i == i && x.c == c && !x.waiting) = none) ∧
    (∃ (s : State) (i : Nat) (c : Nat) (parity : List Nat) (used : List Nat) (x : TreeSample) (w : List Nat × List Nat × List Nat × Bool), s.abl.tree.samples.find? (fun x => x.i == i && x.c == c && !x.waiting) = some x ∧ used = parity.filter (fun b => x.model.trees.any fun r => r.bank == b) ∧ w = walkAll x.model x.bins (used ++ (List.range 16).filter fun b => s.abl.n.bit Reg.ABL_TREE_STATUS 0 (16 + b))) ∧
    (∃ (x : TreeSample), x.i = 128) ∧
    (∃ (s : State) (d : Nat) (p : Nat × Nat), s.abl.tree.below.find? (fun p => p.1 == d) = some p ∧ s.abl.n.riskLevel d ≠ 0 ∧ s.abl.freshScores d ≠ [] ∧ p.2 + 10000000000 ≤ s.abl.n.tideline) ∧
    (∃ (s : State) (k : Nat), s.abl.n.modelState k = 1) ∧
    (∃ (s : State) (x : TreeSample), s.abl.tree.samples = [x] ∧ x.waiting = true) ∧
    (∃ (s : State), s.ddu.live = true ∧ s.ddu.n.fld Reg.DDU_LRB_CTRL 0 0 16 = 0) ∧
    (∃ (s : State), s.ddu.live = true ∧ s.ddu.n.fld Reg.DDU_LRB_CTRL 0 0 16 ≠ 0 ∧ s.ddu.lrb.at_ = none ∧ s.ddu.lrbOn = false) :=
  ⟨⟨sa [], 0, by decide +kernel⟩,
   ⟨sa [(Reg.ABL_TREE_CTRL, 0, 1), (Reg.ABL_TREE_MODEL, 0, 2 ^ 126)] fun a => { a with tree := { a.tree with models := [tm0] } }, 0, tm0, _, by decide +kernel, by decide +kernel, by decide +kernel, by decide +kernel, rfl⟩,
   ⟨sa [], 128, 31, by decide +kernel⟩,
   ⟨sa [] fun a => { a with tree := { a.tree with samples := [ts0] } }, 3, 0, [], _, ts0, _, by decide +kernel, rfl, rfl⟩,
   ⟨{ ts0 with i := 128 }, by decide +kernel⟩,
   ⟨sa [(Reg.TIME_WRAP .abl, 0, 3), (Reg.ABL_TREE_BIND, 0, 3 * 2 ^ 126), (Reg.ABL_TREE_RISK, 15, 2 ^ 62)] fun a => { a with tree := { a.tree with below := [(15, 0)], scores := [(0, 15, 5, 100000000000)] } }, 15, (15, 0), by decide +kernel⟩,
   ⟨sa [(Reg.ABL_TREE_MODEL, 63, 2 ^ 125)], 63, by decide +kernel⟩,
   ⟨sa [] fun a => { a with tree := { a.tree with samples := [{ ts0 with waiting := true }] } }, { ts0 with waiting := true }, by decide +kernel⟩,
   ⟨sd [(Reg.DDU_LRB_CTRL, 0, 0)], by decide +kernel⟩,
   ⟨sd [(Reg.DDU_LRB_CTRL, 0, 10)], by decide +kernel⟩⟩

theorem test_hyps_TreeCommandsComplete_1 :
    (∃ (s : State) (key : Nat) (d : Ddu) (e : Ddu), s.ddu.live = true ∧ s.ddu.n.fld Reg.DDU_LRB_CTRL 0 0 16 ≠ 0 ∧ s.ddu.lrb.at_ = none ∧ s.ddu.lrbOn = true ∧ key = s.ddu.lrbKey ∧ d = ((s.ddu.bump Reg.DDU_LRB_EVALS).wr Reg.DDU_LRB_LASTKEY 0 key).lrbKeep ∧ d.lrbFirst key = none ∧ e = (d.on fun n => n.setB Reg.DDU_LRB_STATUS 0 31 true)) ∧
    (∃ (s : State) (key : Nat) (k : Nat) (d : Ddu) (e : Ddu), s.ddu.live = true ∧ s.ddu.n.fld Reg.DDU_LRB_CTRL 0 0 16 ≠ 0 ∧ s.ddu.lrb.at_ = none ∧ s.ddu.lrbOn = true ∧ key = s.ddu.lrbKey ∧ d = ((s.ddu.bump Reg.DDU_LRB_EVALS).wr Reg.DDU_LRB_LASTKEY 0 key).lrbKeep ∧ d.lrbFirst key = some k ∧ e = d.lrbAct key k) ∧
    (∃ (s : State), s.ddu.live = true) :=
  ⟨⟨sd [(Reg.DDU_LRB_CTRL, 0, 2 ^ 31 + 10)], _, _, _, by decide +kernel, by decide +kernel, by decide +kernel, by decide +kernel, rfl, rfl, by decide +kernel, rfl⟩,
   ⟨sd [(Reg.DDU_LRB_CTRL, 0, 2 ^ 31 + 10), (Reg.DDU_LRB_ACT, 2047, 2 ^ 63)], _, 2047, _, _, by decide +kernel, by decide +kernel, by decide +kernel, by decide +kernel, rfl, rfl, by decide +kernel, rfl⟩,
   ⟨sd [], by decide +kernel⟩⟩

theorem test_hyps_GridCommandsComplete_0 :
    (∃ (s : State) (r : Record), s.abl.n.jobCheck (leAt r.payload 0 4) = 1 ∧ bit (leAt r.payload 8 4) 31 = true) ∧
    (∃ (s : State) (die : Nat) (t : Nat) (epoch : Nat) (tile : Nat) (x : IngestX), s.abl.grid.ingest.find? (fun x => x.die == die && x.jobtag == t && x.epoch == epoch && x.tile == tile && (x.last || x.bad)) = some x ∧ x.sections = none) ∧
    (∃ (s : State) (die : Nat) (t : Nat) (epoch : Nat) (tile : Nat) (x : IngestX) (secs : List (List Nat)) (a : Abl) (b : Bundle), s.abl.grid.ingest.find? (fun x => x.die == die && x.jobtag == t && x.epoch == epoch && x.tile == tile && (x.last || x.bad)) = some x ∧ x.sections = some secs ∧ b = bundleOf (x.hdr.getD []) secs ∧ a = { s.abl with grid := { s.abl.grid with ingest := s.abl.grid.ingest.filter fun y => !(y.die == die && y.jobtag == t && y.epoch == epoch && y.tile == tile) } } ∧ s.abl.n.jobCheck b.jobtag = 0 ∧ a.bundleCtx b.jobtag b.prog = none) ∧
    (∃ (s : State) (die : Nat) (t : Nat) (epoch : Nat) (tile : Nat) (c : Nat) (slot : Nat) (x : IngestX) (secs : List (List Nat)) (a : Abl) (e : Abl) (b : Bundle) (p : GridProg), s.abl.grid.ingest.find? (fun x => x.die == die && x.jobtag == t && x.epoch == epoch && x.tile == tile && (x.last || x.bad)) = some x ∧ x.sections = some secs ∧ b = bundleOf (x.hdr.getD []) secs ∧ a = { s.abl with grid := { s.abl.grid with ingest := s.abl.grid.ingest.filter fun y => !(y.die == die && y.jobtag == t && y.epoch == epoch && y.tile == tile) } } ∧ s.abl.n.jobCheck b.jobtag = 0 ∧ a.bundleCtx b.jobtag b.prog = some c ∧ e = a.ctxSeen c b.epoch ∧ slot = e.n.ctxFld c 246 6 ∧ e.prog slot = some p ∧ b.format = p.format ∧ b.m ≤ 256 ∧ b.n ≤ 256 ∧ b.m = p.kat.m ∧ b.n = p.kat.n ∧ b.size ≤ p.sliceMax ∧ e.n.bit Reg.ABL_GRID_CTX c 252 = false) ∧
    (∃ (s : State) (sl : GridSlice) (p : List Nat), s.abl.n.bit Reg.ABL_GRID_CTRL 0 0 = true ∧ s.abl.n.gridPower = 2 ∧ s.abl.grid.slices = [sl] ∧ sl.st = 0 ∧ (s.abl.freeParts (s.abl.shapeOf sl) sl.away).head? = some p) ∧
    (∃ (s : State) (id : Nat) (sl : GridSlice) (r : GridRun), s.abl.slice id = some sl ∧ s.abl.run id = some r ∧ r.cores.all (fun c => c.st == 4) = true ∧ sl.kat = 0 ∧ sl.doomed = false ∧ sl.st ≠ 3 ∧ r.tally.1 = 0 ∧ 32 ≤ sl.ctx) ∧
    (∃ (s : State) (id : Nat) (w : Nat) (sl : GridSlice) (r : GridRun), s.abl.slice id = some sl ∧ s.abl.run id = some r ∧ r.cores.all (fun c => c.st == 4) = false ∧ w = ((s.abl.prog sl.slot).map fun p => p.wUs).getD 0 ∧ r.began + 2 * w * 1000 ≤ s.abl.n.local) ∧
    (∃ (s : State), s.abl.grid.runs = []) ∧
    (∃ (s : State) (k : Nat) (r : GridRun), s.abl.grid.runs.find? (fun r => r.part.contains k) = some r) ∧
    (∃ (s : State), s.abl.n.bit Reg.ABL_GRID_CTRL 0 0 = true ∧ s.abl.n.bit Reg.ABL_GRID_CTRL 0 1 = true ∧ s.abl.n.rd Reg.ABL_GRID_KAT_MS ≠ 0 ∧ s.abl.grid.slices = [] ∧ s.abl.grid.katAt + s.abl.n.rd Reg.ABL_GRID_KAT_MS * 1000000 ≤ s.abl.n.local ∧ s.abl.n.gridPower = 0) :=
  ⟨⟨sa [(Reg.ABL_JOB, 1, 2 ^ 126 + 65538)], rec0 (le 4 65537 ++ zeros 4 ++ le 4 (2 ^ 31)), by decide +kernel⟩,
   ⟨sa [] fun a => { a with grid := { a.grid with ingest := [{ die := 0, jobtag := 0, epoch := 0, tile := 0, attempt := 0, unit := 0, cell := 0, at_ := 0, last := true }] } }, 0, 0, 0, 0, _, rfl, by decide +kernel⟩,
   ⟨sa [] fun a => { a with grid := { a.grid with ingest := [{ die := 0, jobtag := 0, epoch := 0, tile := 0, attempt := 0, unit := 0, cell := 0, at_ := 0, last := true, hdr := some (zeros 64) }] } }, 0, 0, 0, 0, _, [[], [], [], []], _, _, rfl, by decide +kernel, rfl, rfl, by decide +kernel⟩,
   ⟨sa [(Reg.ABL_GRID_CTX, 0, 2 ^ 253)] fun a => { a with grid := { a.grid with ingest := [{ die := 0, jobtag := 0, epoch := 0, tile := 0, attempt := 0, unit := 0, cell := 0, at_ := 0, last := true, hdr := some (zeros 64) }], progs := [{ prog0 [] with kat := { bun0 with m := 0, n := 0 }, sliceMax := 1000 }] } }, 0, 0, 0, 0, 0, _, _, [[], [], [], []], _, _, _, { prog0 [] with kat := { bun0 with m := 0, n := 0 }, sliceMax := 1000 }, rfl, by decide +kernel, rfl, rfl, by decide +kernel, by decide +kernel, rfl, rfl, by decide +kernel⟩,
   ⟨sa [(Reg.ABL_GRID_CTRL, 0, 1), (Reg.ABL_GRID_STATUS, 0, 2 ^ 31)] fun a => { a with grid := { a.grid with slices := [slice0] } }, slice0, _, by decide +kernel, by decide +kernel, by decide +kernel, by decide +kernel, rfl⟩,
   ⟨sa [] fun a => { a with grid := { a.grid with slices := [{ slice0 with ctx := 32, st := 1 }], runs := [run0 [{ core0 with st := 4 }]] } }, 1, { slice0 with ctx := 32, st := 1 }, run0 [{ core0 with st := 4 }], by decide +kernel⟩,
   ⟨sa [] fun a => { a with grid := { a.grid with slices := [slice0], runs := [run0 [core0]] } }, 1, _, slice0, run0 [core0], by decide +kernel, by decide +kernel, by decide +kernel, rfl, by decide +kernel⟩,
   ⟨sa [], by decide +kernel⟩,
   ⟨sg [core0], 0, run0 [core0], by decide +kernel⟩,
   ⟨sa [(Reg.ABL_GRID_CTRL, 0, 3), (Reg.ABL_GRID_KAT_MS, 0, 1), (Reg.ABL_GRID_STATUS, 0, 0), (Reg.TIME_NS .abl, 0, 1000000)], by decide +kernel⟩⟩

theorem test_hyps_GridCommandsComplete_1 :
    (∃ (s : State) (k : Nat) (p : GridProg) (part : List Nat) (sl : GridSlice) (a : Abl), s.abl.n.bit Reg.ABL_GRID_CTRL 0 0 = true ∧ s.abl.n.bit Reg.ABL_GRID_CTRL 0 1 = true ∧ s.abl.n.rd Reg.ABL_GRID_KAT_MS ≠ 0 ∧ s.abl.grid.slices = [] ∧ s.abl.grid.katAt + s.abl.n.rd Reg.ABL_GRID_KAT_MS * 1000000 ≤ s.abl.n.local ∧ s.abl.n.gridPower = 2 ∧ s.abl.katSlot = some k ∧ s.abl.prog k = some p ∧ s.abl.katPart p = some part ∧ sl = { id := s.abl.grid.next, ctx := 255, slot := p.slot, bundle := p.kat, arrived := s.abl.n.local, since := s.abl.n.local, kat := 2 } ∧ a = { s.abl with grid := { s.abl.grid with slices := [sl], next := s.abl.grid.next + 1, katTurn := k + 1, katAt := s.abl.n.local } }) ∧
    (∃ (s : State) (k : Nat) (p : GridProg) (e : KatEnd) (f : KatEnd), s.abl.prog k = some p ∧ s.abl.n.progState k = 1 ∧ p.ends = [e, f] ∧ e.us ≤ p.wUs ∧ f.us ≤ p.wUs ∧ e.got = some p.expect ∧ f.got = some p.expect) ∧
    (∃ (s : State) (c : Nat), s.abl.n.ctxState c = 3) ∧
    (∃ (s : State), s.abl.n.gridPower = 1) ∧
    (∃ (s : State), s.abl.n.gridPower = 2 ∧ s.abl.gridIdle = true ∧ s.abl.grid.idleAt + s.abl.n.rd Reg.ABL_GRID_IDLE_US * 1000 ≤ s.abl.n.local) :=
  ⟨⟨sa [(Reg.ABL_GRID_CTRL, 0, 3), (Reg.ABL_GRID_KAT_MS, 0, 1), (Reg.ABL_GRID_STATUS, 0, 2 ^ 31), (Reg.TIME_NS .abl, 0, 1000000), (Reg.ABL_GRID_PROG, 0, 2 ^ 126)] fun a => { a with grid := { a.grid with progs := [prog0 []] } }, 0, prog0 [], [0], _, _, by decide +kernel, by decide +kernel, by decide +kernel, by decide +kernel, (by decide +kernel), by decide +kernel, by decide +kernel, by decide +kernel, by decide +kernel, rfl, rfl⟩,
   ⟨sa [(Reg.ABL_GRID_PROG, 0, 2 ^ 125)] fun a => { a with grid := { a.grid with progs := [{ prog0 [] with ends := [⟨100, [0], some (0, 0, 0)⟩, ⟨1, [0], some (0, 0, 0)⟩] }] } }, 0, _, _, _, rfl, by decide +kernel, rfl, by decide +kernel⟩,
   ⟨sa [(Reg.ABL_GRID_CTX, 31, 3 * 2 ^ 253)], 31, by decide +kernel⟩,
   ⟨sa [(Reg.ABL_GRID_STATUS, 0, 2 ^ 30)], by decide +kernel⟩,
   ⟨sa [(Reg.ABL_GRID_STATUS, 0, 2 ^ 31), (Reg.ABL_GRID_IDLE_US, 0, 0)], by decide +kernel⟩⟩

theorem test_hyps_CoreCommandsComplete_0 :
    (∃ (s : State) (core : Nat) (r : GridRun) (e : GridEnv) (x : GridCmd) (c : GridCore) (d : GridCore), s.abl.coreAt core = some (r, e, c) ∧ e.cmd c = some x ∧ c.st = 0 ∧ (x.op = 1 ∧ bit x.flags 2 = false) ∧ coreLoad e x c = .ok d ∧ d.st = 0 ∧ d.pc ≠ c.pc) ∧
    (∃ (s : State) (core : Nat) (r : GridRun) (e : GridEnv) (x : GridCmd) (c : GridCore) (d : GridCore), s.abl.coreAt core = some (r, e, c) ∧ e.cmd c = some x ∧ c.st = 0 ∧ (x.op = 1 ∧ bit x.flags 2 = true) ∧ coreLoadAsync e x c = .ok d ∧ d.st = 0 ∧ d.pc ≠ c.pc) ∧
    (∃ (s : State) (core : Nat) (r : GridRun) (e : GridEnv) (x : GridCmd) (c : GridCore) (d : GridCore), s.abl.coreAt core = some (r, e, c) ∧ e.cmd c = some x ∧ c.st = 0 ∧ x.op = 5 ∧ coreMma e x c = .ok d ∧ d.st = 0 ∧ d.pc ≠ c.pc) ∧
    (∃ (s : State) (core : Nat) (r : GridRun) (e : GridEnv) (x : GridCmd) (c : GridCore) (d : GridCore), s.abl.coreAt core = some (r, e, c) ∧ e.cmd c = some x ∧ c.st = 0 ∧ (x.op = 7 ∧ bit x.flags 0 = false) ∧ coreCvt e x c = .ok d ∧ d.st = 0 ∧ d.pc ≠ c.pc) ∧
    (∃ (s : State) (core : Nat) (r : GridRun) (e : GridEnv) (x : GridCmd) (c : GridCore) (d : GridCore), s.abl.coreAt core = some (r, e, c) ∧ e.cmd c = some x ∧ c.st = 0 ∧ (x.op = 7 ∧ bit x.flags 0 = true) ∧ coreCvt e x c = .ok d ∧ d.st = 0 ∧ d.pc ≠ c.pc) ∧
    (∃ (s : State) (core : Nat) (r : GridRun) (e : GridEnv) (x : GridCmd) (c : GridCore) (d : GridCore), s.abl.coreAt core = some (r, e, c) ∧ e.cmd c = some x ∧ c.st = 0 ∧ x.op = 8 ∧ coreCmp e x c = .ok d ∧ d.st = 0 ∧ d.pc ≠ c.pc) ∧
    (∃ (s : State) (core : Nat) (r : GridRun) (e : GridEnv) (x : GridCmd) (c : GridCore) (d : GridCore), s.abl.coreAt core = some (r, e, c) ∧ e.cmd c = some x ∧ c.st = 0 ∧ x.op = 9 ∧ coreLoop x c = .ok d ∧ d.st = 0 ∧ d.pc ≠ c.pc) ∧
    (∃ (s : State) (core : Nat) (r : GridRun) (e : GridEnv) (x : GridCmd) (c : GridCore) (d : GridCore), s.abl.coreAt core = some (r, e, c) ∧ e.cmd c = some x ∧ c.st = 0 ∧ x.op = 2 ∧ coreWait x c = .ok d ∧ d.st = 0 ∧ d.pc ≠ c.pc) ∧
    (∃ (s : State) (core : Nat) (r : GridRun) (e : GridEnv) (x : GridCmd) (c : GridCore), s.abl.coreAt core = some (r, e, c) ∧ e.cmd c = some x ∧ c.st = 0 ∧ x.op = 0) ∧
    (∃ (s : State) (core : Nat) (r : GridRun) (e : GridEnv) (x : GridCmd) (c : GridCore), s.abl.coreAt core = some (r, e, c) ∧ e.cmd c = some x ∧ c.st = 0 ∧ x.op = 3 ∧ sendDest e.prog.shape x c ≠ none) :=
  ⟨⟨sg [core0] [[gc 1]], 0, _, _, _, _, _, rfl, rfl, by decide +kernel, by decide +kernel, rfl, by decide +kernel⟩,
   ⟨sg [core0] [[gc 1 4]], 0, _, _, _, _, _, rfl, rfl, by decide +kernel, by decide +kernel, rfl, by decide +kernel⟩,
   ⟨sg [core0] [[gc 5]], 0, _, _, _, _, _, rfl, rfl, by decide +kernel, by decide +kernel, rfl, by decide +kernel⟩,
   ⟨sg [core0] [[gc 7]], 0, _, _, _, _, _, rfl, rfl, by decide +kernel, by decide +kernel, rfl, by decide +kernel⟩,
   ⟨sg [core0] [[gc 7 1]], 0, _, _, _, _, _, rfl, rfl, by decide +kernel, by decide +kernel, rfl, by decide +kernel⟩,
   ⟨sg [core0] [[gc 8]], 0, _, _, _, _, _, rfl, rfl, by decide +kernel, by decide +kernel, rfl, by decide +kernel⟩,
   ⟨sg [core0] [[gc 9]], 0, _, _, _, _, _, rfl, rfl, by decide +kernel, by decide +kernel, rfl, by decide +kernel⟩,
   ⟨sg [core0] [[gc 2]], 0, _, _, _, _, _, rfl, rfl, by decide +kernel, by decide +kernel, rfl, by decide +kernel⟩,
   ⟨sg [core0] [[gc 0]], 0, _, _, _, _, rfl, rfl, by decide +kernel⟩,
   ⟨sg [core0] [[gc 3]], 0, _, _, _, _, rfl, rfl, by decide +kernel⟩⟩

theorem test_hyps_CoreCommandsComplete_1 :
    (∃ (s : State) (core : Nat) (r : GridRun) (e : GridEnv) (x : GridCmd) (c : GridCore), s.abl.coreAt core = some (r, e, c) ∧ e.cmd c = some x ∧ c.st = 0 ∧ x.op = 3 ∧ sendDest e.prog.shape x c = none) ∧
    (∃ (s : State) (core : Nat) (r : GridRun) (e : GridEnv) (x : GridCmd) (c : GridCore), s.abl.coreAt core = some (r, e, c) ∧ e.cmd c = some x ∧ c.st = 0 ∧ x.op = 4 ∧ x.arg c 2 + x.args.getD 3 0 ≤ workBytes) ∧
    (∃ (s : State) (core : Nat) (r : GridRun) (e : GridEnv) (c : GridCore), s.abl.coreAt core = some (r, e, c)) ∧
    (∃ (s : State) (core : Nat) (d : Nat) (r : GridRun) (e : GridEnv) (c : GridCore) (u : GridCore) (v : GridCore) (x : GridCmd) (y : GridCmd) (b : List Nat), s.abl.coreAt core = some (r, e, c) ∧ e.cmd c = some x ∧ c.st = 1 ∧ sendDest e.prog.shape x c = some d ∧ r.cores.find? (fun y => y.k == d) = some u ∧ e.cmd u = some y ∧ u.st = 2 ∧ u.core ≠ c.core ∧ bits (y.arg u 1) 0 3 = bits (x.arg c 1) 0 3 ∧ x.args.getD 3 0 ≤ y.args.getD 3 0 ∧ workRead c (x.arg c 2) (x.args.getD 3 0) = .ok b ∧ workWrite u (y.arg u 2) (b.take (y.args.getD 3 0)) = .ok v) :=
  ⟨⟨sg [core0] [[gc 3 0 [1]]], 0, _, _, _, _, rfl, rfl, by decide +kernel⟩,
   ⟨sg [core0] [[gc 4]], 0, _, _, _, _, rfl, rfl, by decide +kernel⟩,
   ⟨sg [core0], 0, _, _, _, rfl⟩,
   ⟨sg [{ core0 with st := 2 }, { core := 1, k := 1, st := 1 }] [[gc 4], [gc 3]] 1, 1, 0, _, _, _, _, _, _, _, [], rfl, rfl, by decide +kernel, by decide +kernel, rfl, rfl, by decide +kernel, by decide +kernel, by decide +kernel, by decide +kernel, (by decide +kernel), rfl⟩⟩

theorem test_hyps_VecCommandsComplete :
    (∃ (s : State) (core : Nat) (k : Nat) (i : Instr) (r : GridRun) (e : GridEnv) (x : GridCmd) (c : GridCore) (d : GridCore), (i, k) ∈ [(Instr.vecAdd core, 0), (Instr.vecSub core, 1), (Instr.vecMul core, 2), (Instr.vecFma core, 3), (Instr.vecMin core, 4), (Instr.vecMax core, 5), (Instr.vecSqrt core, 6), (Instr.vecRcp core, 7), (Instr.vecRsqrt core, 8), (Instr.vecExp2 core, 9), (Instr.vecLog2 core, 10), (Instr.vecTanh core, 11), (Instr.vecExp core, 16), (Instr.vecSigmoid core, 17), (Instr.vecSilu core, 18), (Instr.vecGeluTanh core, 19), (Instr.vecSoftmax core, 20), (Instr.vecRmsnorm core, 21), (Instr.vecSum core, 22), (Instr.vecMaxReduce core, 23)] ∧ s.abl.coreAt core = some (r, e, c) ∧ e.cmd c = some x ∧ c.st = 0 ∧ x.op = 6 ∧ x.args.getD 3 0 = k ∧ coreVec (Config.freeNat s.free) x c = .ok d ∧ d.st = 0 ∧ d.pc ≠ c.pc) ∧
    (∃ (x : GridCmd) (c : GridCore) (d : GridCore) (n : Nat) (k : Nat) (free : Nat) (bx : List Nat) (bs : List Nat), x.arg c 2 = n ∧ x.args.getD 3 0 = k ∧ k < 6 ∧ k ≠ 3 ∧ x.args.getD 4 0 ≠ 0xFFFFFFFF ∧ workRead c (x.arg c 0) (4 * n) = .ok bx ∧ workRead c (x.args.getD 4 0) (4 * n) = .ok bs ∧ workWrite c (x.arg c 1) ((vecRun k (words32 n bx) (words32 n bs) (words32 n bx) (x.args.getD 5 0) free).flatMap (le 4)) = .ok d) ∧
    (∃ (k : Nat), k < 12) :=
  ⟨⟨sg [core0] [[gc 6]], 0, 0, .vecAdd 0, _, _, _, _, _, by decide +kernel, rfl, rfl, by decide +kernel, by decide +kernel, by decide +kernel, rfl, by decide +kernel⟩,
   ⟨gc 6 0 [0, 0, 0, 5], core0, core0, 0, 5, 0, [], [], by decide +kernel⟩,
   ⟨11, by decide +kernel⟩⟩

theorem test_hyps_SnoopCommandsComplete :
    (∃ (s : State) (who : Requester) (d : Ddu), FastMay s who d) ∧
    (∃ (s : State) (who : Requester) (i : Nat) (v : Nat) (d : Ddu), FastMay s who d ∧ ((∀ j, j < 6 → toInt 16 (if j = i then v else d.rd Reg.DDU_CELL_TEDGE j) < toInt 16 (if j + 1 = i then v else d.rd Reg.DDU_CELL_TEDGE (j + 1))))) ∧
    (∃ (s : State) (who : Requester) (i : Nat) (v : Nat) (j : Nat) (d : Ddu), FastMay s who d ∧ j < 6 ∧ ¬ (toInt 16 (if j = i then v else d.rd Reg.DDU_CELL_TEDGE j) < toInt 16 (if j + 1 = i then v else d.rd Reg.DDU_CELL_TEDGE (j + 1)))) ∧
    (∃ (s : State) (who : Requester) (d : Ddu), FastMay s who d ∧ d.n.bit Reg.DDU_SNOOP_CTRL 0 31 = false) ∧
    (∃ (s : State) (who : Requester) (k : Nat) (v : Nat) (a : Nat) (cell : Nat) (x : TileX) (d : Ddu) (e : Ddu), FastMay s who e ∧ v = e.rd Reg.DDU_SNOOP_SLOT k ∧ e.n.bit Reg.DDU_SNOOP_CTRL 0 31 = true ∧ e.n.bit Reg.DDU_SNOOP_PEND 0 k = false ∧ e.n.bit Reg.DDU_SUBRESET 0 7 = false ∧ slotTag v = e.jobTag ∧ e.attemptOf (slotEpoch v) = some a ∧ e.selected (slotEpoch v) (slotTile v) (slotUnit v) = true ∧ ((∀ r, r < 4 → slotLen v r ≠ 0 → e.inWindow (slotAddr v r) (slotLen v r) = true)) ∧ (e.chk.ep (slotEpoch v) a).tiles.find? (fun x => x.tile == slotTile v && x.rep) = some x ∧ x.cell = cell ∧ d = (e.on fun n => n.setB Reg.DDU_SNOOP_PEND 0 k true).fastStart) ∧
    (∃ (s : State) (x : SnoopX) (rest : List SnoopX), s.ddu.chk.slots = x :: rest ∧ x.served = false ∧ s.ddu.fb.queue = [] ∧ s.ddu.n.bit Reg.DDU_STATUS 0 2 = true ∧ s.ddu.n.fld Reg.DDU_FABRIC_RATE 0 0 16 ≠ 0 ∧ ((∀ r, r < 4 → slotLen x.val r = 0))) ∧
    (∃ (s : State) (data : List (List Nat)) (x : SnoopX) (rest : List SnoopX) (sec : Nat → List Nat) (d : Ddu), s.ddu.chk.slots = x :: rest ∧ x.served = false ∧ s.ddu.fb.queue = [] ∧ s.ddu.n.bit Reg.DDU_STATUS 0 2 = true ∧ s.ddu.n.fld Reg.DDU_FABRIC_RATE 0 0 16 ≠ 0 ∧ ((∀ r, r < 4 → slotLen x.val r ≠ 0 ∧ s.ddu.inWindow (slotAddr x.val r) (slotLen x.val r) = true)) ∧ sec = (fun r => padTo (slotLen x.val r) (data.getD r [])) ∧ d = (List.range 4).foldl (fun e r => (e.snoopRead (slotLen x.val r)).sendSection x r (sec r)) s.ddu) ∧
    (∃ (s : State) (x : SnoopX) (rest : List SnoopX), s.ddu.chk.slots = x :: rest ∧ x.served = false ∧ s.ddu.fb.queue = [] ∧ s.ddu.n.bit Reg.DDU_STATUS 0 2 = true ∧ s.ddu.n.fld Reg.DDU_FABRIC_RATE 0 0 16 ≠ 0 ∧ slotLen x.val 0 ≠ 0 ∧ slotLen x.val 1 = 0 ∧ slotLen x.val 2 = 0 ∧ slotLen x.val 3 = 0 ∧ s.ddu.inWindow (slotAddr x.val 0) (slotLen x.val 0) = false) ∧
    (∃ (s : State) (x : SnoopX) (rest : List SnoopX) (d : Ddu), s.ddu.chk.slots = x :: rest ∧ x.served = true ∧ d = ((s.ddu.snoopFree x).on fun n => n.postUp (slotTag x.val) 5 0x18 0x0001 503 (snoopBytes x.val 0xFF 1 x.cell x.attempt 0 ((s.ddu.snoopFree x).snoopHeader x))).sentNote (slotEpoch x.val) x.attempt) :=
  ⟨⟨sd [], .firmware, _, ⟨by decide, by decide +kernel, rfl, by decide +kernel⟩⟩,
   ⟨sd [], .firmware, 6, 7000, _, ⟨by decide, by decide +kernel, rfl, by decide +kernel⟩, by decide +kernel⟩,
   ⟨sd [], .firmware, 0, 7000, 0, _, ⟨by decide, by decide +kernel, rfl, by decide +kernel⟩, by decide +kernel⟩,
   ⟨sd [], .firmware, _, ⟨by decide, by decide +kernel, rfl, by decide +kernel⟩, by decide +kernel⟩,
   ⟨sd [(Reg.DDU_SNOOP_CTRL, 0, 2 ^ 31)] fun d => { d with n := { d.n with sync := { objs := [{ num := 0, st := 1, armed := true }] } }, chk := { d.chk with epochs := [{ epoch := 0, attempt := 0, tiles := [{ tile := 0, unit := 0, cell := 9, rep := true }] }] } }, .firmware, 7, _, 0, 9, { tile := 0, unit := 0, cell := 9, rep := true }, _, _, ⟨by decide, by decide +kernel, rfl, by decide +kernel⟩, rfl, by decide +kernel, by decide +kernel, by decide +kernel, by decide +kernel, (by decide +kernel), by decide +kernel, by decide +kernel, by decide +kernel, by decide +kernel, rfl⟩,
   ⟨sd [(Reg.DDU_FABRIC_RATE, 0, 1)] fun d => { d with chk := { d.chk with slots := [{ slot := 0, val := 0 }] } }, { slot := 0, val := 0 }, [], by decide +kernel⟩,
   ⟨sd [(Reg.DDU_FABRIC_RATE, 0, 1), (Reg.DDU_SNOOP_WIN_SIZE, 0, 4096)] fun d => { d with chk := { d.chk with slots := [{ slot := 0, val := 2 ^ 320 * (1 + 2 ^ 128 + 2 ^ 256 + 2 ^ 384) }] } }, [], { slot := 0, val := 2 ^ 320 * (1 + 2 ^ 128 + 2 ^ 256 + 2 ^ 384) }, [], _, _, by decide +kernel, by decide +kernel, by decide +kernel, by decide +kernel, (by decide +kernel), by decide +kernel, rfl, rfl⟩,
   ⟨sd [(Reg.DDU_FABRIC_RATE, 0, 1)] fun d => { d with chk := { d.chk with slots := [{ slot := 0, val := 2 ^ 320 }] } }, { slot := 0, val := 2 ^ 320 }, [], by decide +kernel⟩,
   ⟨sd [] fun d => { d with chk := { d.chk with slots := [{ slot := 0, val := 0, served := true }] } }, { slot := 0, val := 0, served := true }, [], _, by decide +kernel, by decide +kernel, rfl⟩⟩

theorem test_hyps_VerdictCommandsComplete_0 :
    (∃ (s : State) (r : Record), s.abl.n.jobCheck (leAt r.payload 0 4) = 1) ∧
    (∃ (s : State) (r : Record), s.abl.n.jobCheck (leAt r.payload 0 4) = 2) ∧
    (∃ (s : State) (origin : Nat) (e : Nat) (r : Record) (b : Abl), s.abl.n.jobCheck (leAt r.payload 0 4) = 0 ∧ s.abl.verEntry (leAt r.payload 0 4) (origin % 131072) (leAt r.payload 4 4) (leAt r.payload 17 1) = (b, some e)) ∧
    (∃ (s : State) (origin : Nat) (e : Nat) (r : Record) (b : Abl), s.abl.n.jobCheck (leAt r.payload 0 4) = 0 ∧ s.abl.verEntry (leAt r.payload 0 4) (origin % 131072) (leAt r.payload 4 4) (leAt r.payload 8 1) = (b, some e)) ∧
    (∃ (s : State) (origin : Nat) (r : Record) (b : Abl), s.abl.n.jobCheck (leAt r.payload 0 4) = 0 ∧ (s.abl.fenceNote (leAt r.payload 0 4) (origin % 131072) (leAt r.payload 4 4) (leAt r.payload 8 1)).verEntry (leAt r.payload 0 4) (origin % 131072) (leAt r.payload 4 4) (leAt r.payload 8 1) = (b, none)) ∧
    (∃ (s : State) (origin : Nat) (e : Nat) (r : Record) (a : Abl) (b : Abl), s.abl.n.jobCheck (leAt r.payload 0 4) = 0 ∧ (s.abl.fenceNote (leAt r.payload 0 4) (origin % 131072) (leAt r.payload 4 4) (leAt r.payload 8 1)).verEntry (leAt r.payload 0 4) (origin % 131072) (leAt r.payload 4 4) (leAt r.payload 8 1) = (b, some e) ∧ (b.verX e).fenced = [] ∧ a = (((b.putVerX { (b.verX e) with fenced := [origin % 131072], firstFence := b.n.local, lastFence := b.n.local }).on fun n => (n.setFld Reg.ABL_VER_EPOCH e 144 8 1).setFld Reg.ABL_VER_EPOCH e 32 32 (n.setFld Reg.ABL_VER_EPOCH e 144 8 1).now).verCheck e) ∧ a.n.rd Reg.ABL_VER_WAIT_US ≠ 0) ∧
    (∃ (s : State), s.abl.ver.fails = []) ∧
    (∃ (s : State) (f : FailX), s.abl.ver.fails.find? (fun f => !f.wait && !(f.asked && f.repeatClass.isNone)) = some f ∧ (f.kind = 3 ∨ f.kind = 4)) ∧
    (∃ (s : State) (f : FailX), s.abl.ver.fails = [f] ∧ f.signed = false ∧ f.began + 1000000000 ≤ s.abl.n.local) ∧
    (∃ (s : State) (f : FailX), s.abl.ver.fails = [f] ∧ f.asked = true ∧ f.repeatClass = none ∧ f.began + 1000000000 ≤ s.abl.n.local) :=
  ⟨⟨sa [(Reg.ABL_JOB, 1, 2 ^ 126 + 65538)], rec0 (le 4 65537), by decide +kernel⟩,
   ⟨sa [], rec0 (le 4 65537), by decide +kernel⟩,
   ⟨sa jobRegs, 0, 0, rec0 (le 4 65537), ((sa jobRegs).abl.verEntry (leAt (rec0 (le 4 65537)).payload 0 4) ((0) % 131072) (leAt (rec0 (le 4 65537)).payload 4 4) (leAt (rec0 (le 4 65537)).payload 17 1)).1, by decide +kernel, Prod.ext (rfl) (by decide +kernel)⟩,
   ⟨sa jobRegs, 0, 0, rec0 (le 4 65537), ((sa jobRegs).abl.verEntry (leAt (rec0 (le 4 65537)).payload 0 4) ((0) % 131072) (leAt (rec0 (le 4 65537)).payload 4 4) (leAt (rec0 (le 4 65537)).payload 8 1)).1, by decide +kernel, Prod.ext (rfl) (by decide +kernel)⟩,
   ⟨sa [], 0, rec0 [], _, by decide +kernel, rfl⟩,
   ⟨sa (jobRegs ++ [(Reg.ABL_GROUP, 0, 2 ^ 255 + 2 ^ 254 + 2 ^ 240 + 7 * 2 ^ 224 + 2 * 2 ^ 96)]), 0, 0, rec0 (le 4 65537), _, (((sa (jobRegs ++ [(Reg.ABL_GROUP, 0, 2 ^ 255 + 2 ^ 254 + 2 ^ 240 + 7 * 2 ^ 224 + 2 * 2 ^ 96)])).abl.fenceNote (leAt (rec0 (le 4 65537)).payload 0 4) ((0) % 131072) (leAt (rec0 (le 4 65537)).payload 4 4) (leAt (rec0 (le 4 65537)).payload 8 1)).verEntry (leAt (rec0 (le 4 65537)).payload 0 4) ((0) % 131072) (leAt (rec0 (le 4 65537)).payload 4 4) (leAt (rec0 (le 4 65537)).payload 8 1)).1, by decide +kernel, Prod.ext (rfl) (by decide +kernel), by decide +kernel, rfl, by decide +kernel⟩,
   ⟨sa [], by decide +kernel⟩,
   ⟨sa [] fun a => { a with ver := { a.ver with fails := [fail0] } }, fail0, by decide +kernel⟩,
   ⟨sa [(Reg.TIME_NS .abl, 0, 1000000000)] fun a => { a with ver := { a.ver with fails := [fail0] } }, fail0, by decide +kernel⟩,
   ⟨sa [(Reg.TIME_NS .abl, 0, 1000000000)] fun a => { a with ver := { a.ver with fails := [{ fail0 with asked := true }] } }, { fail0 with asked := true }, by decide +kernel⟩⟩

theorem test_hyps_VerdictCommandsComplete_1 :
    (∃ (s : State), s.abl.ver.obs = []) ∧
    (∃ (s : State) (h : Nat) (c : CampX), s.abl.ver.camps.find? (fun c => c.handle == h) = some c ∧ s.abl.campSt c = 2) ∧
    (∃ (s : State) (h : Nat) (c : CampX), s.abl.ver.camps.find? (fun c => c.handle == h) = some c ∧ s.abl.campSt c = 3) ∧
    (∃ (s : State) (h : Nat) (t : Nat) (c : CampX), s.abl.ver.camps.find? (fun c => c.handle == h) = some c ∧ ((s.abl.campSt c = 2 ∨ s.abl.campSt c = 3)) ∧ c.runs = some t ∧ c.limit * 1000000000 ≤ c.used + (s.abl.n.local - t)) :=
  ⟨⟨sa [], by decide +kernel⟩,
   ⟨sc 2, 0, camp0, by decide +kernel⟩,
   ⟨sc 3, 0, camp0, by decide +kernel⟩,
   ⟨sc 3, 0, 0, camp0, by decide +kernel⟩⟩

theorem test_hyps_SecureDieCommandsComplete :
    (∃ (s : State) (m : FanMsg) (d : Ddu) (ms : List Nat) (clear : List Nat), s.ddu.live = true ∧ (m.jobtag, m.seq) ∉ s.ddu.job.kept ∧ (m.jobtag, m.seq) ∉ s.ddu.job.refused ∧ d = { s.ddu with job := { s.ddu.job with kept := (m.jobtag, m.seq) :: s.ddu.job.kept } } ∧ rangeOf m.ranges (s.ddu.n.fld Reg.DDU_DIE_INDEX 0 0 17) ≠ none ∧ m.jobtag = s.ddu.jobTag ∧ ms = (List.range 240).map (fun k => bits (leAt m.body 8 60) (2 * k) 2) ∧ clear = (if d.sec.methods = [] then [] else (List.range 240).filter fun k => ms.getD k 0 != d.sec.methods.getD k 0)) ∧
    (∃ (s : State) (m : FanMsg) (d : Ddu), s.ddu.live = true ∧ (m.jobtag, m.seq) ∉ s.ddu.job.kept ∧ (m.jobtag, m.seq) ∉ s.ddu.job.refused ∧ d = { s.ddu with job := { s.ddu.job with kept := (m.jobtag, m.seq) :: s.ddu.job.kept } } ∧ rangeOf m.ranges (s.ddu.n.fld Reg.DDU_DIE_INDEX 0 0 17) ≠ none ∧ m.jobtag = s.ddu.jobTag) ∧
    (∃ (s : State) (port : Nat) (slot : Nat) (sender : Nat) (origin : Nat) (k : Nat) (m : FanMsg) (i : Instr) (a : Abl), s.abl.fans = [] ∧ s.abl.n.jobCheck m.jobtag = 0 ∧ (i, k) ∈ [(Instr.secureCutDeliver .abl port slot sender origin m, 0x10), (Instr.secureCommitDeliver .abl port slot sender origin m, 0x11), (Instr.secureAbandonDeliver .abl port slot sender origin m, 0x12), (Instr.secureReleaseDeliver .abl port slot sender origin m, 0x13)] ∧ a = { s.abl with n := { s.abl.n with due := s.abl.n.due ++ [React.secFan (fanAs k m) origin] } }) ∧
    (∃ (s : State) (who : Requester) (e : Ddu), FastMay s who e ∧ e.n.bit Reg.DDU_SEC_CTRL 0 31 = false) ∧
    (∃ (s : State) (who : Requester) (k : Nat) (v : Nat) (held : Nat) (d : Ddu) (e : Ddu), FastMay s who e ∧ v = e.rd Reg.DDU_SEC_SLOT k ∧ e.n.bit Reg.DDU_SEC_CTRL 0 31 = true ∧ e.n.bit Reg.DDU_SEC_PEND 0 k = false ∧ e.n.bit Reg.DDU_SUBRESET 0 7 = false ∧ secTag v = e.jobTag ∧ secCut v = e.rd Reg.DDU_SEC_CUT_ID ∧ secTensor v < 240 ∧ ((∀ r, r < 4 → secLen v r ≠ 0 → e.inWindow (secAddr v r) (secLen v r) = true)) ∧ held = e.rd Reg.DDU_SEC_VERSION (secTensor v) ∧ bit held 63 = false ∧ d = (({ e with sec := { e.sec with posted := e.sec.posted ++ [(secTensor v, true, secVersion v, secSize v)] } } : Ddu).on fun n => n.setB Reg.DDU_SEC_PEND 0 k true).fastStart) ∧
    (∃ (s : State) (x : SecSlot) (rest : List SecSlot), s.ddu.sec.slots = x :: rest ∧ s.ddu.fb.queue = [] ∧ s.ddu.n.bit Reg.DDU_STATUS 0 2 = true ∧ s.ddu.n.fld Reg.DDU_FABRIC_RATE 0 0 16 ≠ 0 ∧ secLen x.val 0 ≠ 0 ∧ s.ddu.inWindow (secAddr x.val 0) (secLen x.val 0) = false ∧ s.ddu.sec.held = false) ∧
    (∃ (s : State) (data : List (List Nat)) (bytes : List Nat) (x : SecSlot) (rest : List SecSlot), s.ddu.sec.slots = x :: rest ∧ s.ddu.fb.queue = [] ∧ s.ddu.n.bit Reg.DDU_STATUS 0 2 = true ∧ s.ddu.n.fld Reg.DDU_FABRIC_RATE 0 0 16 ≠ 0 ∧ ((∀ r, r < 4 → secLen x.val r ≠ 0 → s.ddu.inWindow (secAddr x.val r) (secLen x.val r) = true)) ∧ s.ddu.sec.held = false ∧ bytes = (List.range 4).flatMap (fun r => padTo (secLen x.val r) (data.getD r []))) ∧
    (∃ (s : State), s.ddu.sec.held = true) ∧
    (∃ (s : State), s.ddu.sec.fencing = true ∧ s.ddu.n.bit Reg.DDU_FENCE_STATUS 0 0 = false) ∧
    (∃ (s : State) (who : Requester) (e : Ddu), FastMay s who e) :=
  ⟨⟨sd [], { fan0 0x10 with ranges := [(0, 0)] }, _, _, _, by decide +kernel, by decide +kernel, by decide +kernel, rfl, by decide +kernel, by decide +kernel, rfl, rfl⟩,
   ⟨sd [], { fan0 0x10 with ranges := [(0, 0)] }, _, by decide +kernel, by decide +kernel, by decide +kernel, rfl, by decide +kernel⟩,
   ⟨sa [], 0, 0, 0, 0, 0x10, fan0 0, .secureCutDeliver .abl 0 0 0 0 (fan0 0), _, by decide +kernel, by decide +kernel, by decide +kernel, rfl⟩,
   ⟨sd [], .firmware, _, ⟨by decide, by decide +kernel, rfl, by decide +kernel⟩, by decide +kernel⟩,
   ⟨sd [(Reg.DDU_SEC_CTRL, 0, 2 ^ 31)], .firmware, 7, _, _, _, _, ⟨by decide, by decide +kernel, rfl, by decide +kernel⟩, rfl, by decide +kernel, by decide +kernel, by decide +kernel, by decide +kernel, (by decide +kernel), by decide +kernel, by decide +kernel, rfl, by decide +kernel, rfl⟩,
   ⟨sd [(Reg.DDU_FABRIC_RATE, 0, 1)] fun d => { d with sec := { d.sec with slots := [⟨0, 2 ^ 320⟩] } }, ⟨0, 2 ^ 320⟩, [], by decide +kernel⟩,
   ⟨sd [(Reg.DDU_FABRIC_RATE, 0, 1)] fun d => { d with sec := { d.sec with slots := [⟨0, 0⟩] } }, [], _, ⟨0, 0⟩, [], by decide +kernel, by decide +kernel, by decide +kernel, by decide +kernel, (by decide +kernel), by decide +kernel, rfl⟩,
   ⟨sd [] fun d => { d with sec := { d.sec with held := true } }, by decide +kernel⟩,
   ⟨sd [] fun d => { d with sec := { d.sec with fencing := true } }, by decide +kernel⟩,
   ⟨sd [], .firmware, _, ⟨by decide, by decide +kernel, rfl, by decide +kernel⟩⟩⟩

theorem test_hyps_SecuringCommandsComplete_0 :
    (∃ (s : State) (r : Record), s.abl.n.jobCheck (leAt r.payload 0 4) = 1) ∧
    (∃ (s : State) (r : Record), s.abl.n.jobCheck (leAt r.payload 0 4) = 2) ∧
    (∃ (s : State) (t : Nat) (r : Record), t = leAt r.payload 0 4 ∧ s.abl.n.jobCheck t = 0 ∧ s.abl.isRoot t = true ∧ leAt r.payload 8 1 = 0) ∧
    (∃ (s : State) (origin : Nat) (t : Nat) (port : Nat) (r : Record) (x : CutX) (es : List (Nat × Bool × Nat × Nat)), t = leAt r.payload 0 4 ∧ s.abl.n.jobCheck t = 0 ∧ s.abl.cut t (leAt r.payload 4 4) = some x ∧ s.abl.n.childOf (origin % 1048576) = some port ∧ bit (leAt r.payload 10 1) 0 = false ∧ es = (List.range (leAt r.payload 8 2)).map (fun i => (leAt r.payload (16 + 16 * i) 1, bit (leAt r.payload (16 + 16 * i + 1) 1) 0, leAt r.payload (16 + 16 * i + 4) 4, leAt r.payload (16 + 16 * i + 8) 8))) ∧
    (∃ (s : State) (origin : Nat) (t : Nat) (port : Nat) (r : Record) (x : CutX) (y : SecInst), t = leAt r.payload 0 4 ∧ s.abl.n.jobCheck t = 0 ∧ s.abl.cut t (leAt r.payload 4 4) = some x ∧ y = { port := port, tensor := leAt r.payload 12 1, version := leAt r.payload 8 4, bytes := r.payload.drop 32, ok := false } ∧ s.abl.n.childOf (origin % 1048576) = some port ∧ x.ended = false ∧ x.insts = [] ∧ leAt r.payload 16 8 = 0 ∧ bit (leAt r.payload 13 1) 0 = false) ∧
    (∃ (s : State) (r : Record), s.abl.n.jobCheck (leAt r.payload 0 4) ≠ 1 ∧ s.abl.n.bit Reg.ABL_SEC_CTRL 0 0 = false) ∧
    (∃ (s : State) (t : Nat) (r : Record) (key : ShareX) (x : ShareX), t = leAt r.payload 0 4 ∧ s.abl.n.jobCheck t ≠ 1 ∧ s.abl.n.bit Reg.ABL_SEC_CTRL 0 0 = true ∧ leAt r.payload 9 1 = 1 ∧ key = { jobtag := t, cut := leAt r.payload 4 4, tensor := leAt r.payload 8 1, kind := 1, shard := leAt r.payload 11 1, origin := leAt r.payload 12 4, gen := 0 } ∧ x = s.abl.share key ∧ leAt r.payload 16 8 = x.bytes.length ∧ s.abl.shareFits (r.payload.length - 32) = true ∧ bit (leAt r.payload 24 1) 0 = false) ∧
    (∃ (s : State) (t : Nat) (r : Record), t = leAt r.payload 0 4 ∧ s.abl.n.jobCheck t = 0 ∧ leAt r.payload 9 1 = 0 ∧ s.abl.isRoot t = true) ∧
    (∃ (s : State) (t : Nat) (kind : Nat) (r : Record) (x : CutX) (y : CutX), t = leAt r.payload 0 4 ∧ s.abl.n.jobCheck t = 0 ∧ kind = leAt r.payload 9 1 ∧ kind ≠ 0 ∧ s.abl.cut t (leAt r.payload 4 4) = some x ∧ leAt r.payload 10 2 = 0 ∧ y = { x with awaits := x.awaits.erase (leAt r.payload 8 1, kind) }) ∧
    (∃ (s : State) (t : Nat) (r : Record), t = leAt r.payload 0 4 ∧ s.abl.n.jobCheck t = 0 ∧ s.abl.isRoot t = true ∧ leAt r.payload 4 4 = s.abl.n.secFld t 152 32 ∧ s.abl.passSt t = 1 ∧ leAt r.payload 10 1 = 1) :=
  ⟨⟨sa [(Reg.ABL_JOB, 1, 2 ^ 126 + 65538)], rec0 (le 4 65537), by decide +kernel⟩,
   ⟨sa [], rec0 (le 4 65537), by decide +kernel⟩,
   ⟨sa jobRegs fun a => { a with jobs := [jobA1] }, _, rec0 (le 4 65537), rfl, by decide +kernel⟩,
   ⟨sa jobRegs fun a => { a with sec := { a.sec with cuts := [cut0] } }, 0, _, 0, rec0 (le 4 65537), cut0, _, rfl, by decide +kernel, by decide +kernel, by decide +kernel, by decide +kernel, rfl⟩,
   ⟨sa jobRegs fun a => { a with sec := { a.sec with cuts := [cut0] } }, 0, _, 0, rec0 (le 4 65537), cut0, _, rfl, by decide +kernel, by decide +kernel, rfl, by decide +kernel⟩,
   ⟨sa [(Reg.ABL_SEC_CTRL, 0, 0)], rec0 [], by decide +kernel⟩,
   ⟨sa ((Reg.ABL_SEC_CTRL, 0, 1) :: jobRegs), _, rec0 (le 4 65537 ++ zeros 5 ++ [1] ++ zeros 22), _, _, rfl, by decide +kernel, by decide +kernel, by decide +kernel, rfl, rfl, by decide +kernel⟩,
   ⟨sa jobRegs fun a => { a with jobs := [jobA1] }, _, rec0 (le 4 65537), rfl, by decide +kernel⟩,
   ⟨sa jobRegs fun a => { a with sec := { a.sec with cuts := [cut0] } }, _, _, rec0 (le 4 65537 ++ zeros 5 ++ [1]), cut0, _, rfl, by decide +kernel, rfl, by decide +kernel, by decide +kernel, by decide +kernel, rfl⟩,
   ⟨sa ((Reg.ABL_SEC_JOB, 1, 2 ^ 253) :: jobRegs) fun a => { a with jobs := [jobA1] }, _, rec0 (le 4 65537 ++ zeros 6 ++ [1]), rfl, by decide +kernel⟩⟩

theorem test_hyps_SecuringCommandsComplete_1 :
    (∃ (s : State) (x : RootX), s.abl.sec.roots = [x] ∧ s.abl.passSt x.jobtag = 1 ∧ x.began + x.held + s.abl.n.rd Reg.ABL_SEC_PASS_LIMIT_MS * 1000000 ≤ s.abl.n.local) ∧
    (∃ (s : State) (t : Nat) (r : Record), t = leAt r.payload 0 4 ∧ s.abl.n.jobCheck t = 0 ∧ s.abl.isRoot t = true) ∧
    (∃ (s : State) (origin : Nat) (t : Nat) (dies : Nat) (bytes : Nat) (x : RestX) (y : RestX), s.abl.sec.restores.find? (fun x => x.new == t) = some x ∧ x.done.contains origin = false ∧ y = { x with done := origin :: x.done, dies := x.dies + dies, bytes := x.bytes + bytes }) ∧
    (∃ (s : State), s.abl.sec.holds = []) ∧
    (∃ (s : State) (t : Nat) (k : Nat), s.abl.sec.holds = [(t, k)] ∧ k ≤ s.abl.n.local ∧ s.abl.offHolders t (s.abl.root t).last = []) ∧
    (∃ (s : State), s.abl.n.role ≠ 1) ∧
    (∃ (s : State) (t : Nat), s.abl.n.role = 1 ∧ s.abl.n.trayLevel ≠ 0 ∧ s.abl.n.bit Reg.ABL_SEC_CTRL 0 0 = true ∧ s.abl.trayJobs = [t] ∧ s.abl.sec.reqAt = []) ∧
    (∃ (s : State) (q : Nat), s.abl.n.bit Reg.ABL_CMP_CTRL 0 0 = true ∧ s.abl.n.bit Reg.ABL_CMP_BUSY 0 q = false) ∧
    (∃ (s : State) (q : Nat), s.abl.n.bit Reg.ABL_CMP_BUSY 0 q = false) ∧
    (∃ (s : State) (q : Nat) (d : Nat) (st : Nat) (blocks : Nat) (src : List Nat) (o : List Nat), d = s.abl.n.rd Reg.ABL_CMP_DESC q ∧ src = Cells.load s.mem (bits d 0 64) (bits d 128 64) (fun i => Config.freeNat (s.free + i)) ∧ s.abl.n.bit Reg.ABL_CMP_BUSY 0 q = true ∧ cmpRun d src = (st, o, blocks) ∧ st = stOk ∧ o ≠ []) :=
  ⟨⟨sa ([(Reg.ABL_SEC_JOB, 1, 2 ^ 253), (Reg.ABL_SEC_PASS_LIMIT_MS, 0, 0)] ++ jobRegs) fun a => { a with sec := { a.sec with roots := [{ jobtag := 65537 }] } }, { jobtag := 65537 }, by decide +kernel⟩,
   ⟨sa jobRegs fun a => { a with jobs := [jobA1] }, _, rec0 (le 4 65537), rfl, by decide +kernel⟩,
   ⟨sa [] fun a => { a with sec := { a.sec with restores := [rest0] } }, 0, 65537, 0, 0, rest0, _, by decide +kernel, by decide +kernel, rfl⟩,
   ⟨sa [], by decide +kernel⟩,
   ⟨sa [] fun a => { a with sec := { a.sec with holds := [(0, 0)] } }, 0, 0, by decide +kernel⟩,
   ⟨sa [(Reg.ABL_NODE, 0, 0x20040003)], by decide +kernel⟩,
   ⟨sa ([(Reg.ABL_TREE_RISK, 15, 2 ^ 62), (Reg.ABL_SEC_CTRL, 0, 1)] ++ jobRegs) fun a => { a with jobs := [jobA1] }, 65537, by decide +kernel⟩,
   ⟨sa [(Reg.ABL_CMP_CTRL, 0, 1)], 0, by decide +kernel⟩,
   ⟨sa [], 3, by decide +kernel⟩,
   ⟨{ sa [(Reg.ABL_CMP_BUSY, 0, 1), (Reg.ABL_CMP_DESC, 0, 26 * 2 ^ 128 + 100 * 2 ^ 192 + 2 * 2 ^ 256)] with mem := Cells.write [] 0 (le 4 0x31424D43 ++ le 4 4096 ++ le 8 1 ++ le 4 6 ++ [1, 1, 0, 0xFE, 0xFF, 0x42]) }, 0, _, 0, 1, _, [0x42], rfl, rfl, by decide +kernel⟩⟩

theorem test_hyps_SecuringCommandsComplete_2 :
    (∃ (s : State) (j : Nat), s.abl.n.fld Reg.ABL_JOB j 125 3 ≠ 3) ∧
    (∃ (s : State) (j : Nat), s.abl.n.fld Reg.ABL_JOB j 125 3 = 3 ∧ (s.abl.jobA j).members.all (fun m => (s.abl.jobA j).scrubbed.contains m.1) = true ∧ ((List.range 64).any fun c => s.abl.n.ctxState c != 0 && s.abl.n.ctxFld c 192 32 == s.abl.n.fld Reg.ABL_JOB j 0 32) = false) :=
  ⟨⟨sa [], 63, by decide +kernel⟩,
   ⟨sa [(Reg.ABL_JOB, 1, 3 * 2 ^ 125 + 65537)], 1, by decide +kernel⟩⟩

theorem test_hyps_FaultCommandsComplete :
    (∃ (s : State) (dev : Dev) (src : Nat), (part s dev).dev = dev ∧ Awake s dev ∧ ((dev = .abl → s.abl.grid.runs = [])) ∧ reservedSrc dev src = true) ∧
    (∃ (s : State) (dev : Dev) (src : Nat), (part s dev).dev = dev ∧ Awake s dev ∧ ((dev = .abl → s.abl.grid.runs = [])) ∧ reservedSrc dev src = false ∧ (part s dev).fld (fltInj dev) 0 0 16 = 0 ∧ ((part s dev).fltTotal src).dev = dev ∧ ((part s dev).fltTotal src).bit (fltCtrl dev) 0 0 = false) ∧
    (∃ (s : State) (src : Nat) (cause : Nat) (flags : Nat) (jobtag : Nat) (arg : Nat) (n : Node), s.ddu.n.dev = .ddu ∧ s.ddu.live = true ∧ reservedSrc .ddu src = false ∧ bit flags 0 = false ∧ bit flags 1 = true ∧ s.ddu.n.fld Reg.DDU_FLT_INJ 0 0 16 = 0 ∧ (s.ddu.n.fltTotal src).dev = .ddu ∧ (s.ddu.n.fltTotal src).bit Reg.DDU_FLT_CTRL 0 0 = true ∧ ((s.ddu.n.fltTotal src).winAdd src).dev = .ddu ∧ n = ((s.ddu.n.fltTotal src).winAdd src).emit jobtag 2 0x1A 0x0001 src (le 2 src ++ [cause, flags] ++ le 4 (((s.ddu.n.fltTotal src).winAdd src).winCount src) ++ le 4 jobtag ++ le 4 arg) ∧ (n.setWin src []).dev = .ddu) ∧
    (∃ (s : State) (dev : Dev) (src : Nat) (w : FaultWin), (part s dev).flt.wins.find? (fun w => w.src == src) = some w) ∧
    (∃ (s : State) (dev : Dev) (src : Nat), (part s dev).flt.wins.find? (fun w => w.src == src) = none) ∧
    (∃ (s : State) (dev : Dev) (src : Nat) (slot : Nat) (p : Nat), lanePort dev src = some p ∧ (part s dev).portUp p = true ∧ ((part s dev).lane p slot).st = lsUp) ∧
    (∃ (s : State) (dev : Dev) (src : Nat), lanePort dev src = none ∧ otherChannel dev src = true ∧ (part s dev).bit (fltCtrl dev) 0 0 = true ∧ ((part s dev).chan src 255).st = 3) ∧
    (∃ (s : State) (src : Nat) (c : ChanX), src < 152 ∧ s.ddu.n.dev = .ddu ∧ s.ddu.n.bit Reg.DDU_FLT_CTRL 0 0 = true ∧ c = s.ddu.n.chan src 255 ∧ c.st = 1 ∧ c.fails = [] ∧ c.inEpisode = true) ∧
    (∃ (s : State) (dev : Dev) (src : Nat) (slot : Nat) (p : Nat), lanePort dev src = some p ∧ ((part s dev).lane p slot).st = lsBackoff) ∧
    (∃ (s : State) (dev : Dev) (src : Nat) (c : ChanX), lanePort dev src = none ∧ otherChannel dev src = true ∧ c = (part s dev).chan src 255 ∧ c.st = 1) :=
  ⟨⟨sd [], .ddu, 511, by decide +kernel, by trivial, by decide +kernel⟩,
   ⟨sd [(Reg.DDU_FLT_CTRL, 0, 0)], .ddu, 507, by decide +kernel, by trivial, by decide +kernel⟩,
   ⟨sd ((Reg.DDU_FLT_CTRL, 0, 1) :: mute .ddu [(0x1A, 1)]), 507, 0, 2, 0, 0, _, by decide +kernel, by decide +kernel, by decide +kernel, by decide +kernel, (by decide +kernel), by decide +kernel, by decide +kernel, by decide +kernel, by decide +kernel, rfl, by decide +kernel⟩,
   ⟨sd [] fun d => { d with n := { d.n with flt := { d.n.flt with wins := [⟨5, []⟩] } } }, .ddu, 5, ⟨5, []⟩, by decide +kernel⟩,
   ⟨sd [], .ddu, 5, by decide +kernel⟩,
   ⟨sa [(Reg.LNK_STATUS .abl, 23, 3)] fun a => { a with n := { a.n with lanes := [(92, { st := lsUp })] } }, .abl, 295, 0, 23, by decide +kernel⟩,
   ⟨sd [(Reg.DDU_FLT_CTRL, 0, 1)] fun d => { d with n := { d.n with flt := { d.n.flt with chans := [{ src := 1000, st := 3 }] } } }, .ddu, 1000, by decide +kernel⟩,
   ⟨sd [(Reg.DDU_FLT_CTRL, 0, 1)] fun d => { d with n := { d.n with flt := { d.n.flt with chans := [{ src := 151, st := 1, inEpisode := true }] } } }, 151, _, by decide +kernel, by decide +kernel, by decide +kernel, rfl, by decide +kernel⟩,
   ⟨sd [] fun d => { d with n := { d.n with lanes := [(0, { st := lsBackoff })] } }, .ddu, 1001, 0, 0, by decide +kernel⟩,
   ⟨sd [] fun d => { d with n := { d.n with flt := { d.n.flt with chans := [{ src := 1000, st := 1 }] } } }, .ddu, 1000, _, by decide +kernel, by decide +kernel, rfl, by decide +kernel⟩⟩

theorem test_hyps_GovernorCommandsComplete :
    (∃ (s : State) (origin : Nat) (r : Record) (a : Abl) (x : BwItem), a = s.abl.bwPrune ∧ a.gov.items = [] ∧ a.gov.window.length < a.bwLimit ∧ x = { tray := origin, die := leAt r.payload 0 4, id := leAt r.payload 4 4, cls := leAt r.payload 8 1, body := r.payload, at_ := a.n.tideline }) ∧
    (∃ (s : State) (r : Record) (a : Abl), a = s.abl.bwPrune ∧ a.gov.items.find? (fun x => x.id == leAt r.payload 4 4) = none ∧ a.bwLimit ≤ a.gov.window.length ∧ 1024 ≤ a.bwQueue.length) ∧
    (∃ (s : State), s.abl.gov.props = []) ∧
    (∃ (s : State) (d : Nat) (port : Nat) (r : Record) (p : PropX), d = leAt r.payload 8 1 ∧ s.abl.gov.props = [p] ∧ p.die = leAt r.payload 0 4 ∧ p.id = leAt r.payload 4 4 ∧ d = 2 ∧ s.abl.n.portOfDie p.die = some port) ∧
    (∃ (s : State), s.abl.gov.props = []) ∧
    (∃ (s : State) (p : PropX), s.abl.gov.props = [p] ∧ p.decision = 0 ∧ p.sent + 1000000000 ≤ s.abl.n.local) ∧
    (∃ (s : State) (p : PropX), s.abl.gov.props = [p] ∧ s.abl.n.local < p.sent + 1000000000) ∧
    (∃ (s : State), s.abl.gov.window = []) ∧
    (∃ (s : State) (w : Nat × Nat × Nat), s.abl.gov.window = [w] ∧ w.2.2 + 3600000000000 ≤ s.abl.n.tideline) :=
  ⟨⟨sa [] fun a => { a with gov := { a.gov with cap := 1, spares := 2 } }, 0, rec0 [], _, _, rfl, by decide +kernel, by decide +kernel, rfl⟩,
   ⟨sa [] fun a => { a with gov := { a.gov with items := List.replicate 1024 { tray := 0, die := 0, id := 1, cls := 1, body := [], at_ := 0 } } }, rec0 [], _, rfl, by decide +kernel⟩,
   ⟨sa [], by decide +kernel⟩,
   ⟨sa [(Reg.ABL_RED_CHILD, 15, 2 ^ 127)] fun a => { a with gov := { a.gov with props := [prop0] } }, _, 15, rec0 (zeros 8 ++ [2]), prop0, rfl, by decide +kernel, by decide +kernel, by decide +kernel, rfl, by decide +kernel⟩,
   ⟨sa [], by decide +kernel⟩,
   ⟨sa [(Reg.TIME_NS .abl, 0, 1000000000)] fun a => { a with gov := { a.gov with props := [prop0] } }, prop0, by decide +kernel⟩,
   ⟨sa [(Reg.TIME_NS .abl, 0, 999999999)] fun a => { a with gov := { a.gov with props := [prop0] } }, prop0, by decide +kernel⟩,
   ⟨sa [], by decide +kernel⟩,
   ⟨sa [(Reg.TIME_TIDE_BASE .abl, 0, 839)] fun a => { a with gov := { a.gov with window := [(0, 0, 0)] } }, (0, 0, 0), by decide +kernel⟩⟩

theorem test_hyps_DieLedgerCommandsComplete :
    (∃ (s : State) (good : Nat) (d : Ddu) (e : Ddu), s.ddu.live = true ∧ s.ddu.dlMount = 0 ∧ s.ddu.led.a = none ∧ s.ddu.led.b = none ∧ e = (s.ddu.bump Reg.DDU_DL_ERRORS 0 (if good < s.ddu.led.journal.length then 1 else 0)).on (fun n => if good < s.ddu.led.journal.length then n.malformed 504 else n) ∧ d = (({ e with led := { e.led with image := {} } } : Ddu).snapshot 0 1 0 1).journalRestart 1) ∧
    (∃ (s : State), s.ddu.live = true ∧ 2 ≤ s.ddu.dlMount) ∧
    (∃ (s : State) (r : Record) (b : List Nat) (d : Ddu), s.ddu.live = true ∧ s.ddu.dlWrites = true ∧ b = r.bytes ++ le 4 (crc32c r.bytes) ++ le 4 (s.ddu.led.jtag % 4294967296) ∧ d = { s.ddu with led := { s.ddu.led with journal := s.ddu.led.journal ++ [(b, s.ddu.led.image)] } } ∧ d.led.used ≤ 11520) ∧
    (∃ (s : State) (r : Record) (b : List Nat) (d : Ddu), s.ddu.live = true ∧ s.ddu.dlWrites = true ∧ b = r.bytes ++ le 4 (crc32c r.bytes) ++ le 4 (s.ddu.led.jtag % 4294967296) ∧ d = { s.ddu with led := { s.ddu.led with journal := s.ddu.led.journal ++ [(b, s.ddu.led.image)] } } ∧ 11520 < d.led.used) ∧
    (∃ (s : State), s.ddu.n.bit Reg.DDU_DL_STATUS 0 8 = true) ∧
    (∃ (s : State), s.abl.hist.probation ≤ s.abl.n.ltime ∧ s.abl.n.bit Reg.ABL_HS_STATUS 0 27 = true) ∧
    (∃ (s : State) (port : Nat), s.abl.reconciles port = false) ∧
    (∃ (s : State) (port : Nat), s.abl.reconciles port = true) ∧
    (∃ (s : State), s.abl.hist.retry = []) ∧
    (∃ (s : State) (port : Nat), s.abl.hist.retry = [port]) :=
  ⟨⟨sd [(Reg.DDU_DL_STATUS, 0, 0)], 0, _, _, by decide +kernel, by decide +kernel, by decide +kernel, by decide +kernel, rfl, rfl⟩,
   ⟨sd [], by decide +kernel⟩,
   ⟨sd [], rec0 [], _, _, by decide +kernel, by decide +kernel, rfl, rfl, by decide +kernel⟩,
   ⟨sd [] fun d => { d with led := { d.led with journal := List.replicate 24 (List.replicate 500 0, {}) } }, rec0 [], _, _, by decide +kernel, by decide +kernel, rfl, rfl, by decide +kernel⟩,
   ⟨sd [(Reg.DDU_DL_STATUS, 0, 0x102)], by decide +kernel⟩,
   ⟨sa [(Reg.ABL_HS_STATUS, 0, 2 ^ 27)], by decide +kernel⟩,
   ⟨sa hsr, 16, by decide +kernel⟩,
   ⟨sa hsr, 15, by decide +kernel⟩,
   ⟨sa [], by decide +kernel⟩,
   ⟨sa [] fun a => { a with hist := { a.hist with retry := [15] } }, 15, by decide +kernel⟩⟩

theorem test_hyps_HistoryStoreCommandsComplete_0 :
    (∃ (s : State), s.abl.hsOn = false) ∧
    (∃ (s : State), s.abl.hsOn = true ∧ s.abl.hist.pending = none ∧ s.abl.hist.freeCount < 256) ∧
    (∃ (s : State) (r : Record) (b : Abl), s.abl.hsOn = true ∧ s.abl.hist.pending = none ∧ 256 ≤ s.abl.hist.freeCount ∧ s.abl.hist.hours.sum < s.abl.n.fld Reg.ABL_HS_CTRL 0 16 16 * 1000000 ∧ b = s.abl.hsWrite r.bytes true [] ∧ b.n.rd Reg.ABL_HS_JSEQ = s.abl.n.rd Reg.ABL_HS_JSEQ + 1) ∧
    (∃ (s : State), s.abl.hist.pending = none) ∧
    (∃ (s : State) (p : Nat) (x : HsRec) (ess : Bool) (b : List Nat), s.abl.hist.pending = some (x.jseq, ess, b) ∧ s.abl.hist.pwrFail = false ∧ s.abl.hsPaths = [p] ∧ s.abl.hist.log = [x] ∧ x.marks = []) ∧
    (∃ (s : State), s.abl.hsMount = 3) ∧
    (∃ (s : State), s.abl.hsMount = 0 ∧ s.abl.n.fld Reg.ABL_STATUS 0 16 4 = 2 ∧ s.abl.hist.newest 0 = none ∧ s.abl.hist.newest 1 = none) ∧
    (∃ (s : State), s.abl.hist.pwrFail = false ∧ s.abl.hist.op = none) ∧
    (∃ (s : State), s.abl.hist.pwrFail = false ∧ s.abl.hist.sbDue = true ∧ s.abl.hist.sbAt = none) ∧
    (∃ (s : State) (t : Nat), s.abl.hist.sbDue = true ∧ s.abl.hist.sbAt = some t ∧ s.abl.n.local < t + 10000000000) :=
  ⟨⟨sa [], by decide +kernel⟩,
   ⟨sa hsr fun a => { a with hist := { a.hist with bad := List.replicate 3839 0 } }, by decide +kernel⟩,
   ⟨sa hsr (fun a => { a with hist := { a.hist with blocks := [{ b := 2, role := 1, first := 0 }], open_ := some 2 } }), rec0 [], _, by decide +kernel, by decide +kernel, by decide +kernel, by decide +kernel, rfl, by decide +kernel⟩,
   ⟨sa [], by decide +kernel⟩,
   ⟨sa [(Reg.ABL_HS_PATH, 1, 3 * 2 ^ 62)] fun a => { a with hist := { a.hist with pending := some (0, true, [1]), log := [hs0] } }, 0, hs0, true, [1], by decide +kernel⟩,
   ⟨sa [(Reg.ABL_HS_STATUS, 0, 3 * 2 ^ 29)], by decide +kernel⟩,
   ⟨sa [(Reg.ABL_HS_STATUS, 0, 0)], by decide +kernel⟩,
   ⟨sa [], by decide +kernel⟩,
   ⟨sa [] fun a => { a with hist := { a.hist with sbDue := true } }, by decide +kernel⟩,
   ⟨sa [] fun a => { a with hist := { a.hist with sbDue := true, sbAt := some 0 } }, 0, by decide +kernel⟩⟩

theorem test_hyps_HistoryStoreCommandsComplete_1 :
    (∃ (s : State), s.abl.compactCause = false) ∧
    (∃ (s : State), s.abl.hsOn = true ∧ s.abl.hist.pass = none ∧ s.abl.compactCause = true ∧ s.abl.n.bit Reg.ABL_HS_CTRL 0 1 = true ∧ s.abl.passesToday.length < 24 ∧ 32 ≤ s.abl.hist.freeCount) ∧
    (∃ (s : State), s.abl.hist.pass = none) ∧
    (∃ (s : State) (x : PassX), s.abl.hist.pass = some x ∧ s.abl.compactSt = 1 ∧ s.abl.superFree = true) ∧
    (∃ (s : State) (a : Abl), a = (s.abl.onHist fun h => { h with hours := (0 :: h.hours).take 24, overHours := (0 :: h.overHours).take 24 }).dayView) ∧
    (∃ (s : State) (e : Nat × Nat × Nat) (a : Abl) (serial : Nat) (day : Nat) (c : CellRec), s.abl.hsOn = true ∧ s.abl.hist.tally = [e] ∧ a = (s.abl.onHist fun h => { h with tally := [] }) ∧ serial = a.serialAt e.1 ∧ serial ≠ 0 ∧ day = a.n.ltime / 86400 ∧ c = a.hist.tab.cell serial e.2.1 e.2.2) ∧
    (∃ (s : State), s.abl.hsOn = true ∧ s.abl.hist.tally = []) ∧
    (∃ (s : State), s.abl.hsOn = true) ∧
    (∃ (s : State), s.abl.hist.exports = []) ∧
    (∃ (s : State) (e : ExportX) (t : Nat), s.abl.hist.exports = [e] ∧ e.suspendedAt = some t ∧ t + 600000000000 ≤ s.abl.n.local) :=
  ⟨⟨sa [], by decide +kernel⟩,
   ⟨sa hsr fun a => { a with hist := { a.hist with passDue := some 0 } }, by decide +kernel⟩,
   ⟨sa [], by decide +kernel⟩,
   ⟨sa [(Reg.ABL_HS_STATUS, 0, 2 ^ 21)] fun a => { a with hist := { a.hist with pass := some pass0 } }, pass0, by decide +kernel⟩,
   ⟨sa [], _, rfl⟩,
   ⟨sa hsr fun a => { a with hist := { a.hist with tally := [(0, 5, 1)], tab := { a.hist.tab with ports := [(0, 77)] } } }, (0, 5, 1), _, _, _, _, by decide +kernel, by decide +kernel, rfl, rfl, by decide +kernel, rfl, rfl⟩,
   ⟨sa hsr, by decide +kernel⟩,
   ⟨sa hsr, by decide +kernel⟩,
   ⟨sa [], by decide +kernel⟩,
   ⟨sa [(Reg.TIME_WRAP .abl, 0, 140)] fun a => { a with hist := { a.hist with exports := [{ exp0 with suspendedAt := some 0 }] } }, { exp0 with suspendedAt := some 0 }, 0, by decide +kernel⟩⟩

theorem test_hyps_HistoryStoreCommandsComplete_2 :
    (∃ (s : State) (paths : Nat) (addr : Nat) (op : Nat) (i : Instr), s.abl.hist.op = none ∧ ((op = 1 ∨ s.abl.hist.pwrFail = false)) ∧ (i, op) ∈ [(Instr.hsOpRead .firmware paths addr, 1), (Instr.hsOpProgram .firmware paths addr, 2), (Instr.hsOpErase .firmware paths addr, 3), (Instr.hsOpProgramMark .firmware paths addr, 4)]) ∧
    (∃ (who : Requester) (paths : Nat) (addr : Nat) (i : Instr), who ≠ .firmware ∧ i ∈ [Instr.hsOpRead who paths addr, Instr.hsOpProgram who paths addr, Instr.hsOpErase who paths addr, Instr.hsOpProgramMark who paths addr]) ∧
    (∃ (s : State) (paths : Nat) (addr : Nat), s.abl.hist.op = some (1, paths, addr) ∧ 268435456 ≤ addr) ∧
    (∃ (s : State) (fail : Nat) (addr : Nat) (p : Nat) (a : Abl), s.abl.hist.op = some (1, 2 ^ p, addr) ∧ addr < 268435456 ∧ s.abl.hsPaths = [p] ∧ bit fail p = false ∧ bit (2 ^ p) p = true ∧ a = (s.abl.onHist fun h => { h with op := none })) :=
  ⟨⟨sa [], 3, 0, 4, .hsOpProgramMark .firmware 3 0, by decide +kernel⟩,
   ⟨.bar0, 3, 0, .hsOpErase .bar0 3 0, by decide +kernel⟩,
   ⟨sa [] fun a => { a with hist := { a.hist with op := some (1, 0, 268435456) } }, 0, 268435456, by decide +kernel⟩,
   ⟨sa [(Reg.ABL_HS_PATH, 1, 3 * 2 ^ 62)] fun a => { a with hist := { a.hist with op := some (1, 1, 268435455) } }, 0, 268435455, 0, _, by decide +kernel, by decide +kernel, by decide +kernel, by decide +kernel, (by decide +kernel), rfl⟩⟩

theorem test_hyps_SentinelPowerCommandsComplete_0 :
    (∃ (s : State) (a : Abl), s.abl.n.pwrState = 3 ∧ s.abl.n.resets = [] ∧ a = (({ s.abl.mainLost with pwr := { s.abl.mainLost.pwr with wake := 0 }, pins := { s.abl.mainLost.pins with mainEn := false } } : Abl).on fun n => n.setFld Reg.ABL_PWR_STATE 0 0 3 0)) ∧
    (∃ (s : State), s.abl.n.pwrState ≠ 3) ∧
    (∃ (s : State) (causes : Nat) (w : Nat), w = causes &&& s.abl.n.fld Reg.ABL_PWR_WAKE_EN 0 0 5 ∧ w ≠ 0 ∧ s.abl.n.pwrState = 3) ∧
    (∃ (s : State) (causes : Nat) (w : Nat), w = causes &&& s.abl.n.fld Reg.ABL_PWR_WAKE_EN 0 0 5 ∧ w ≠ 0 ∧ s.abl.n.pwrState = 0) ∧
    (∃ (s : State) (a : Abl), s.abl.n.pwrState = 4 ∧ s.abl.pins.mainPgood = true ∧ s.abl.pins.lost = false ∧ a = (((({ s.abl with pwr := { s.abl.pwr with wake := 0 } } : Abl).on fun n => n.setFld Reg.ABL_PWR_STATE 0 0 3 1).pwrRec 0 1 (wakeCause s.abl.pwr.wake)).on Node.timeWake) ∧ a.hsMount = 0 ∧ a.gov.props = []) ∧
    (∃ (s : State), dist32 s.abl.n.now (s.abl.n.rd Reg.ABL_PWR_WAKE_AT) < 0) ∧
    (∃ (s : State), 0 ≤ dist32 s.abl.n.now (s.abl.n.rd Reg.ABL_PWR_WAKE_AT)) ∧
    (∃ (s : State) (w : Nat), 0 ≤ dist32 s.abl.n.now (s.abl.n.rd Reg.ABL_PWR_WAKE_AT) ∧ w = 16 &&& s.abl.n.fld Reg.ABL_PWR_WAKE_EN 0 0 5 ∧ w ≠ 0 ∧ s.abl.n.pwrState = 0) ∧
    (∃ (s : State), s.abl.n.pwrState = 1 ∧ s.abl.pwr.starting = [] ∧ s.abl.n.domOn 2 = false ∧ s.abl.n.domOn 3 = false) ∧
    (∃ (s : State) (k : Nat), k ∈ s.abl.pwr.starting ∧ 2 ≤ k) :=
  ⟨⟨sa [(Reg.ABL_PWR_STATE, 0, 3)], _, by decide +kernel, by decide +kernel, rfl⟩,
   ⟨sa [], by decide +kernel⟩,
   ⟨sa [(Reg.ABL_PWR_STATE, 0, 3), (Reg.ABL_PWR_WAKE_EN, 0, 31)], 31, _, rfl, by decide +kernel⟩,
   ⟨sa [(Reg.ABL_PWR_STATE, 0, 0), (Reg.ABL_PWR_WAKE_EN, 0, 31)], 1, _, rfl, by decide +kernel⟩,
   ⟨sa ((Reg.ABL_PWR_STATE, 0, 4) :: mute .abl [(0x1C, 1)]), _, by decide +kernel, by decide +kernel, by decide +kernel, rfl, by decide +kernel⟩,
   ⟨sa [(Reg.ABL_PWR_WAKE_AT, 0, 1)], by decide +kernel⟩,
   ⟨sa [(Reg.ABL_PWR_WAKE_AT, 0, 0)], by decide +kernel⟩,
   ⟨sa [(Reg.ABL_PWR_WAKE_AT, 0, 0), (Reg.ABL_PWR_STATE, 0, 0), (Reg.ABL_PWR_WAKE_EN, 0, 31)], _, by decide +kernel, rfl, by decide +kernel⟩,
   ⟨sa [(Reg.ABL_PWR_STATE, 0, 1)], by decide +kernel⟩,
   ⟨sa [] fun a => { a with pwr := { a.pwr with starting := [2] } }, 2, by decide +kernel⟩⟩

theorem test_hyps_SentinelPowerCommandsComplete_1 :
    (∃ (s : State) (k : Nat), k ∉ s.abl.pwr.starting) ∧
    (∃ (s : State) (k : Nat), k ∈ [1, 3, 4] ∧ s.abl.n.domOn k = true ∧ s.abl.domBusy k = false ∧ lookupD s.abl.pwr.idleAt k 0 + s.abl.n.fld Reg.ABL_PWR_DOM_IDLE_US 0 0 20 * 1000 ≤ s.abl.n.local) ∧
    (∃ (s : State), s.abl.n.role ≠ 1) ∧
    (∃ (s : State) (p : Nat) (b : Nat), b = s.abl.n.rd Reg.ABL_PWR_BUDGET ∧ bit b 63 = true ∧ s.abl.powered = [p] ∧ s.abl.n.role = 1 ∧ bits b 16 16 + bits b 32 16 ≤ bits b 0 16 ∧ s.abl.demandOf p ≤ bits b 32 16 ∧ s.abl.n.dieCap p ≤ bits b 0 16 - bits b 16 16 ∧ s.abl.pwr.falling = []) ∧
    (∃ (s : State) (p : Nat) (a : Abl), a = (s.abl.on fun n => n.setB Reg.ABL_PWR_DIE_CAP p 31 true)) :=
  ⟨⟨sa [], 2, by decide +kernel⟩,
   ⟨sa [(Reg.ABL_PWR_STATE, 0, 0x1201), (Reg.ABL_PWR_DOM_IDLE_US, 0, 0)], 4, by decide +kernel⟩,
   ⟨sa [(Reg.ABL_NODE, 0, 0x20040003)], by decide +kernel⟩,
   ⟨sa [(Reg.ABL_PWR_BUDGET, 0, 2 ^ 63 + 20 * 2 ^ 32 + 10 * 2 ^ 16 + 100), (Reg.ABL_RED_CHILD, 15, 2 ^ 127), (Reg.LNK_STATUS .abl, 15, 3)], 15, _, rfl, by decide +kernel⟩,
   ⟨sa [], 15, _, rfl⟩⟩

theorem test_hyps_DiePowerCommandsComplete_0 :
    (∃ (s : State), s.ddu.live = true ∧ s.ddu.pwr ≠ 0) ∧
    (∃ (s : State) (cause : Nat) (d : Ddu), s.ddu.live = true ∧ s.ddu.pwr = 0 ∧ s.ddu.bnd.corePgood = true ∧ d = s.ddu.setPwr (if s.ddu.bnd.hostActive = true then 2 else 1) cause) ∧
    (∃ (s : State), s.ddu.pwr ≠ 0 ∧ s.ddu.pw.capAt + 100000000 ≤ s.ddu.n.local) ∧
    (∃ (s : State), s.ddu.pwr ≠ 0 ∧ s.ddu.n.local < s.ddu.pw.capAt + 100000000) ∧
    (∃ (s : State), s.ddu.pwr ≠ 0) ∧
    (∃ (s : State), s.ddu.pwr = 0) ∧
    (∃ (s : State) (duty : List Nat) (x : PhaseEnt), s.ddu.byMarker = false ∧ s.ddu.pwr ≠ 0 ∧ s.ddu.pw.phases = [] ∧ x = { e := 0, source := 1, sig := (List.range 8).map fun c => min 15 (duty.getD c 0) }) ∧
    (∃ (s : State) (d : Ddu), s.ddu.pwr ≠ 0 ∧ s.ddu.n.bit Reg.DDU_SUBRESET 0 4 = false ∧ s.ddu.pw.capNext = none ∧ s.ddu.rails = [] ∧ s.ddu.pw.select = none ∧ d = ((({ s.ddu with pw := { s.ddu.pw with totals := (List.range 8).map fun c => s.ddu.rd Reg.DDU_CLASS_TOTAL c } } : Ddu).wr Reg.DDU_PWR_LAST 0 0).wr Reg.DDU_PWR_USED 0 0).loadView ∧ d.phaseNow = none ∧ d.n.bit Reg.DDU_PWR_CTRL 0 31 = false) ∧
    (∃ (s : State) (r : Nat), s.ddu.railState r ≠ 1) ∧
    (∃ (s : State) (r : Nat) (m : Nat) (e : Nat), s.ddu.railState r = 1 ∧ (s.ddu.pw.rail r).cal = 0 ∧ m = (s.ddu.pw.rail r).sumM ∧ e = (s.ddu.pw.rail r).sumE ∧ e ≠ 0 ∧ m * 4096 / e < 65536 ∧ 133 * e < 100 * m) :=
  ⟨⟨sd [], by decide +kernel⟩,
   ⟨sd [(Reg.DDU_PWR_STATE, 0, 0)], 0, _, by decide +kernel, by decide +kernel, by decide +kernel, rfl⟩,
   ⟨sd [(Reg.TIME_NS .ddu, 0, 100000000)], by decide +kernel⟩,
   ⟨sd [(Reg.TIME_NS .ddu, 0, 99999999)], by decide +kernel⟩,
   ⟨sd [], by decide +kernel⟩,
   ⟨sd [(Reg.DDU_PWR_STATE, 0, 0)], by decide +kernel⟩,
   ⟨sd [(Reg.DDU_PWR_CTRL, 0, 2 ^ 29)], [], _, by decide +kernel, by decide +kernel, by decide +kernel, rfl⟩,
   ⟨sd [(Reg.DDU_PWR_CTRL, 0, 0)], _, by decide +kernel, by decide +kernel, by decide +kernel, by decide +kernel, (by decide +kernel), rfl, by decide +kernel⟩,
   ⟨sd [], 23, by decide +kernel⟩,
   ⟨sd [(Reg.DDU_PWR_RSTATE, 23, 2 ^ 29)] fun d => { d with pw := { d.pw with rails := [{ r := 23, sumM := 2, sumE := 1 }] } }, 23, _, _, by decide +kernel, by decide +kernel, rfl, rfl, by decide +kernel⟩⟩

theorem test_hyps_DiePowerCommandsComplete_1 : ∃ (s : State) (r : Nat), s.ddu.railState r = 2 ∧ (s.ddu.pw.rail r).watchAt + 10000000000 ≤ s.ddu.n.local :=
  ⟨sd [(Reg.DDU_PWR_RSTATE, 23, 2 ^ 30), (Reg.TIME_WRAP .ddu, 0, 3)], 23, by decide +kernel⟩

theorem test_hyps_InterruptCommandsComplete_0 :
    (∃ (s : State) (dev : Dev) (id : Nat), (part s dev).dev = dev ∧ 0 < id ∧ id < privBase dev ∧ (part s dev).aicEdge id = false) ∧
    (∃ (s : State) (dev : Dev) (id : Nat), (part s dev).dev = dev ∧ 0 < id ∧ id < privBase dev ∧ (part s dev).aicEdge id = true) ∧
    (∃ (s : State) (core : Nat), s.abl.n.aicBest core = none) ∧
    (∃ (s : State) (core : Nat), s.ddu.n.aicBest core = none) ∧
    (∃ (s : State) (core : Nat) (id : Nat) (p : Nat) (n : Node), s.abl.n.aicBest core = some (id, p) ∧ n = s.abl.n.setStack core ((id, p) :: s.abl.n.aicStack core) ∧ n.dev = .abl ∧ id < 992) ∧
    (∃ (s : State) (core : Nat) (id : Nat) (p : Nat) (n : Node), s.ddu.n.aicBest core = some (id, p) ∧ n = s.ddu.n.setStack core ((id, p) :: s.ddu.n.aicStack core) ∧ n.dev = .ddu ∧ id < 224) ∧
    (∃ (s : State) (dev : Dev) (core : Nat) (id : Nat) (p : Nat) (rest : List (Nat × Nat)), (part s dev).aicStack core = (id, p) :: rest) ∧
    (∃ (s : State) (dev : Dev) (core : Nat) (id : Nat) (i : Nat) (p : Nat) (rest : List (Nat × Nat)), (part s dev).aicStack core = (i, p) :: rest ∧ i ≠ id) ∧
    (∃ (s : State) (dev : Dev) (v : Nat), bits v 16 3 < coresOf (part s dev).dev) ∧
    (∃ (s : State) (dev : Dev) (v : Nat), coresOf (part s dev).dev ≤ bits v 16 3) :=
  ⟨⟨sd [(Reg.AIC_CFG .ddu, 223, 0)], .ddu, 223, by decide +kernel⟩,
   ⟨sd [(Reg.AIC_CFG .ddu, 1, 2 ^ 30)], .ddu, 1, by decide +kernel⟩,
   ⟨sa [], 5, by decide +kernel⟩,
   ⟨sd [], 1, by decide +kernel⟩,
   ⟨sa [(Reg.AIC_CFG .abl, 991, 2 ^ 31 + 5 * 2 ^ 16 + 7)] fun a => { a with n := { a.n with aic := { a.n.aic with pend := [991] } } }, 5, 991, 7, _, by decide +kernel, rfl, by decide +kernel⟩,
   ⟨sd [(Reg.AIC_CFG .ddu, 223, 2 ^ 31 + 2 ^ 16 + 7)] fun d => { d with n := { d.n with aic := { d.n.aic with pend := [223] } } }, 1, 223, 7, _, by decide +kernel, rfl, by decide +kernel⟩,
   ⟨sd [] fun d => { d with n := { d.n with aic := { d.n.aic with nests := [[(5, 1)]] } } }, .ddu, 0, 5, 1, [], by decide +kernel⟩,
   ⟨sd [] fun d => { d with n := { d.n with aic := { d.n.aic with nests := [[(5, 1)]] } } }, .ddu, 0, 6, 5, 1, [], by decide +kernel⟩,
   ⟨sd [], .ddu, 65536, by decide +kernel⟩,
   ⟨sd [], .ddu, 131072, by decide +kernel⟩⟩

theorem test_hyps_InterruptCommandsComplete_1 :
    (∃ (who : Requester), who ≠ .firmware) ∧
    (∃ (s : State) (dev : Dev) (id : Nat) (v : Nat), 0 < id ∧ id < privBase (part s dev).dev ∧ bits v 16 3 < coresOf (part s dev).dev) :=
  ⟨⟨.bar0, by decide +kernel⟩,
   ⟨sd [], .ddu, 223, 65536, by decide +kernel⟩⟩

theorem test_hyps_ManagementCommandsComplete_0 :
    (∃ (who : Requester), who ≠ .firmware ∧ who ≠ .bar0) ∧
    (∃ (s : State) (b : Nat) (r : ResetRun), b < 24 ∧ s.abl.n.bit Reg.ABL_ENGINE_RESET 0 b = false ∧ s.abl.n.fld Reg.ABL_ENGINE_RESET_MODE 0 b 1 = 0 ∧ setBitsOf 41 (2 ^ b) = [b] ∧ bit (2 ^ b) 63 = false ∧ r = { bit := b, mode := 0, cause := 1, began := s.abl.n.local, drained := false, inFlight := s.abl.engWork b, discarded := 0 }) ∧
    (∃ (s : State), s.abl.n.resets = []) ∧
    (∃ (s : State) (r : ResetRun) (y : ResetRun), s.abl.n.resets = [r] ∧ r.drained = false ∧ y = { r with drained := true, discarded := min r.inFlight (s.abl.engWork r.bit), done := r.inFlight - min r.inFlight (s.abl.engWork r.bit) }) ∧
    (∃ (s : State) (r : ResetRun), s.abl.n.resets = [r] ∧ r.drained = true ∧ r.bit < 26) ∧
    (∃ (v : Nat), 0 < v ∧ v < 9223372036854775808) ∧
    (∃ (s : State) (v : Nat), v ≠ 0x4B49 ∧ s.abl.n.dev = .abl) ∧
    (∃ (s : State) (dev : Dev) (core : Nat), (part s dev).wdogCounts core = true ∧ (part s dev).kickAt core + (part s dev).wdogMs core * 1000000 ≤ (part s dev).local ∧ core ∉ (part s dev).mc.warned) ∧
    (∃ (s : State) (dev : Dev) (core : Nat), (part s dev).wdogCounts core = false) ∧
    (∃ (s : State) (core : Nat) (n : Node), s.abl.n.wdogCounts core = true ∧ s.abl.n.kickAt core + 2 * s.abl.n.wdogMs core * 1000000 ≤ s.abl.n.local ∧ s.abl.n.mc.expired = [] ∧ n = ({ s.abl.n with mc := { s.abl.n.mc with expired := bindKey [] core s.abl.n.local } } : Node).wdogRec core 2) :=
  ⟨⟨.hostPrivileged, by decide +kernel⟩,
   ⟨sa [], 23, _, by decide +kernel, by decide +kernel, by decide +kernel, by decide +kernel, (by decide +kernel), rfl⟩,
   ⟨sa [], by decide +kernel⟩,
   ⟨sa [] fun a => { a with n := { a.n with resets := [{ bit := 40, mode := 0, cause := 1 }] } }, { bit := 40, mode := 0, cause := 1 }, _, by decide +kernel, by decide +kernel, rfl⟩,
   ⟨sa [] fun a => { a with n := { a.n with resets := [{ bit := 25, mode := 0, cause := 1, drained := true }] } }, { bit := 25, mode := 0, cause := 1, drained := true }, by decide +kernel⟩,
   ⟨9223372036854775807, by decide +kernel⟩,
   ⟨sa [], 0, by decide +kernel⟩,
   ⟨sd [(Reg.TIME_NS .ddu, 0, 100000000)], .ddu, 1, by decide +kernel⟩,
   ⟨sa [], .abl, 6, by decide +kernel⟩,
   ⟨sa [(Reg.ABL_MC_WDOG_CFG, 5, 1), (Reg.ABL_MC_CORE_STATE, 5, 0), (Reg.TIME_NS .abl, 0, 2000000)], 5, _, by decide +kernel, by decide +kernel, by decide +kernel, rfl⟩⟩

theorem test_hyps_ManagementCommandsComplete_1 : ∃ (s : State) (busy : List Nat) (a : Abl), s.abl.n.booted = true ∧ a = (s.abl.on fun n => (n.mc.down.foldl Node.coreUp n).loadTick busy) ∧ a.n.load ≤ 85 ∧ a.n.mc.shed = none ∧ a.compactSt ≠ 3 ∧ a.n.fld Reg.ABL_MC_SUMMARY_MS 0 0 16 = 0 ∧ ((∀ p, p < 16 → a.n.bit Reg.ABL_TREE_HVALID p 0 = false)) :=
  ⟨sa [(Reg.ABL_MC_SUMMARY_MS, 0, 0)], [], _, by decide +kernel, rfl, by decide +kernel⟩

theorem test_hyps_MailboxCommandsComplete_0 :
    (∃ (c : Cmd), c.path = 1 ∧ mbOk 1 c.mb = true) ∧
    (∃ (s : State) (c : Cmd), c.path = 0 ∧ mbOk 0 c.mb = true ∧ s.abl.decodes = true) ∧
    (∃ (s : State) (c : Cmd), c.path = 3 ∧ mbOk 3 c.mb = true ∧ s.ddu.live = true ∧ s.ddu.n.bit Reg.DDU_SUBRESET 0 9 = false) ∧
    (∃ (s : State) (c : Cmd), c.path = 1 ∧ mbOk 1 c.mb = true ∧ s.abl.n.bit Reg.ABL_MB_OWNED 0 c.mb = true ∧ s.abl.n.dev = .abl) ∧
    (∃ (s : State) (port : Nat) (peer : Nat), (port, peer) ∉ s.abl.guard.assocs) ∧
    (∃ (s : State) (port : Nat) (peer : Nat) (c : Cmd), (port, peer) ∈ s.abl.guard.assocs ∧ c.path = 2 ∧ mbOk 2 c.mb = true ∧ s.abl.n.pwrState ≠ 0 ∧ s.abl.n.mb.kept = [] ∧ s.abl.n.bit Reg.ABL_MB_OWNED 0 c.mb = false) ∧
    (∃ (s : State) (port : Nat) (peer : Nat) (seq : Nat) (c : Cmd), (port, peer) ∈ s.abl.guard.assocs ∧ c.path = 2 ∧ mbOk 2 c.mb = true ∧ s.abl.n.pwrState ≠ 0 ∧ s.abl.n.mb.kept = [(c.mb, seq % 4294967296)]) ∧
    (∃ (path : Nat) (k : Nat) (r : Record), path ≠ 3 ∧ eventClass r.typ r.code = some k) ∧
    (∃ (s : State) (p : Nat) (v : Nat), s.abl.n.rd Reg.ABL_MB_EVT_RD p ≤ v ∧ v ≤ s.abl.n.rd Reg.ABL_MB_EVT_WR p ∧ v % 8 = 0) ∧
    (∃ (s : State) (p : Nat) (v : Nat), ((v < s.abl.n.rd Reg.ABL_MB_EVT_RD p ∨ s.abl.n.rd Reg.ABL_MB_EVT_WR p < v))) :=
  ⟨⟨{ path := 1, mb := 19, code := 1 }, by decide +kernel⟩,
   ⟨sa [], { path := 0, mb := 15, code := 1 }, by decide +kernel⟩,
   ⟨sd [], { path := 3, mb := 4, code := 1 }, by decide +kernel⟩,
   ⟨sa [(Reg.ABL_MB_OWNED, 0, 2 ^ 19)], { path := 1, mb := 19, code := 1 }, by decide +kernel⟩,
   ⟨sa [], 0, 5, by decide +kernel⟩,
   ⟨sa [] fun a => { a with guard := { a.guard with assocs := [(0, 5)] } }, 0, 5, ca 1, by decide +kernel⟩,
   ⟨sa [] fun a => { a with n := { a.n with mb := { a.n.mb with kept := [(20, 4294967295)] } }, guard := { a.guard with assocs := [(0, 5)] } }, 0, 5, 4294967295, ca 1, by decide +kernel⟩,
   ⟨2, 0, { rec0 [] with typ := 0x1A, code := 2 }, by decide +kernel⟩,
   ⟨sa [(Reg.ABL_MB_EVT_WR, 2, 64)], 2, 64, by decide +kernel⟩,
   ⟨sa [], 2, 1, by decide +kernel⟩⟩

theorem test_hyps_MailboxCommandsComplete_1 :
    (∃ (s : State) (seq : Nat) (t : Nat) (r : Record), (s.abl.n.ev 2).sent = [(seq, t, r)] ∧ t + 10000000 ≤ s.abl.n.local) ∧
    (∃ (s : State), s.abl.n.mb.stages = []) ∧
    (∃ (s : State) (x : StageX), s.abl.n.mb.stages = [x] ∧ x.touched + 60000000000 ≤ s.abl.n.local) ∧
    (∃ (s : State) (x : OpX), s.abl.n.mb.ops = [x] ∧ x.state = 2 ∧ x.ended + 8000000 ≤ s.abl.n.local) ∧
    (∃ (s : State) (x : OpX), s.abl.n.mb.ops = [x] ∧ ((x.state ≠ 2 ∨ s.abl.n.local < x.ended + 8000000))) ∧
    (∃ (s : State), s.ddu.n.mb.rev = none) ∧
    (∃ (s : State), s.ddu.n.mb.rev = none) ∧
    (∃ (s : State) (x : RevX), s.ddu.n.mb.rev = some x ∧ x.at_ + 1000000000 ≤ s.ddu.n.local) ∧
    (∃ (s : State) (x : RevX), s.ddu.n.mb.rev = some x) ∧
    (∃ (s : State) (p : PostedX), s.ddu.revWaits 0x1101 = some p ∧ s.ddu.n.mb.rev = none) :=
  ⟨⟨sa [(Reg.TIME_NS .abl, 0, 10000000)] fun a => { a with n := { a.n with evs := [{}, {}, { sent := [(0, 0, rec0 [])] }] } }, 0, 0, rec0 [], by decide +kernel⟩,
   ⟨sa [], by decide +kernel⟩,
   ⟨sa [(Reg.TIME_WRAP .abl, 0, 14)] fun a => { a with n := { a.n with mb := { a.n.mb with stages := [{ id := 1, addr := 0, len := 8, touched := 0 }] } } }, { id := 1, addr := 0, len := 8, touched := 0 }, by decide +kernel⟩,
   ⟨sa [(Reg.TIME_NS .abl, 0, 8000000)] fun a => { a with n := { a.n with mb := { a.n.mb with ops := [{ op0 0 with state := 2 }] } } }, { op0 0 with state := 2 }, by decide +kernel⟩,
   ⟨sa [(Reg.TIME_NS .abl, 0, 7999999)] fun a => { a with n := { a.n with mb := { a.n.mb with ops := [{ op0 0 with state := 2 }] } } }, { op0 0 with state := 2 }, by decide +kernel⟩,
   ⟨sd [], by decide +kernel⟩,
   ⟨sd [], by decide +kernel⟩,
   ⟨sd [(Reg.TIME_NS .ddu, 0, 1000000000)] fun d => { d with n := { d.n with mb := { d.n.mb with rev := some ⟨0x1101, [], 0⟩ } } }, ⟨0x1101, [], 0⟩, by decide +kernel⟩,
   ⟨sd [] fun d => { d with n := { d.n with mb := { d.n.mb with rev := some ⟨0x1101, [], 0⟩ } } }, ⟨0x1101, [], 0⟩, by decide +kernel⟩,
   ⟨sd [] fun d => { d with n := { d.n with mb := { d.n.mb with posted := [{ pc (cd 0x100C) with wait := some (revKey 0x1101) }] } } }, { pc (cd 0x100C) with wait := some (revKey 0x1101) }, by decide +kernel⟩⟩

theorem test_hyps_MailboxCommandsComplete_2 :
    (∃ (s : State) (h : Nat) (cell : Nat), s.ddu.pattern = some (h, cell) ∧ s.ddu.n.mb.rev = none) ∧
    (∃ (s : State), s.abl.hist.exports = []) ∧
    (∃ (s : State) (x : ExportX) (b : List Nat), s.abl.hist.exports = [x] ∧ x.suspendedAt = none ∧ s.abl.n.mc.shed = none ∧ x.left = [] ∧ leAt x.ref 0 1 = 0 ∧ s.abl.n.op x.handle = none ∧ b = s.abl.segmentBytes x [] true) ∧
    ((Config.keyRevoked 8 = false) → ∃ (s : State) (port : Nat) (root : List Nat), port < 2 ∧ s.abl.keyIn 2 root none = true ∧ s.abl.guard.assocs = []) :=
  ⟨⟨sd [] fun d => { d with pattern := some (1, 2) }, 1, 2, by decide +kernel⟩,
   ⟨sa [], by decide +kernel⟩,
   ⟨sa [] fun a => { a with hist := { a.hist with exports := [exp0] } }, exp0, _, by decide +kernel, by decide +kernel, by decide +kernel, by decide +kernel, (by decide +kernel), by decide +kernel, rfl⟩,
   fun h => ⟨sa [] fun a => { a with guard := { a.guard with keys := [(8, sha384 [])] } }, 1, [], by decide +kernel, List.any_eq_true.2 ⟨0, by decide, by simp [Abl.keyOk, h]; decide +kernel⟩, by decide +kernel⟩⟩

theorem test_hyps_CatalogueChecksComplete :
    (∃ (s : State) (c : Cmd) (i : Instr) (code : Nat), (i, code) ∈ [(Instr.stageOpen c, 0x0010), (Instr.stageWrite c, 0x0011), (Instr.stageClose c, 0x0012), (Instr.stageRead c, 0x0013), (Instr.stageFree c, 0x0014), (Instr.timeConfig c, 0x0101), (Instr.timeAcceptJump c, 0x0102), (Instr.snapAt c, 0x0103), (Instr.ppsConfig c, 0x0104), (Instr.setTrayBudget c, 0x0201), (Instr.setPowerState c, 0x0202), (Instr.setSelfLimits c, 0x0203), (Instr.setParents c, 0x0301), (Instr.returnToPrimary c, 0x0302), (Instr.setChild c, 0x0303), (Instr.setRing c, 0x0304), (Instr.setRole c, 0x0305), (Instr.faultClear c, 0x0401), (Instr.restoreSource c, 0x0402), (Instr.faultConfig c, 0x0403), (Instr.inject c, 0x0404), (Instr.gateFail c, 0x0405), (Instr.bwConfig c, 0x0501), (Instr.bwReport c, 0x0502), (Instr.bwOverride c, 0x0503), (Instr.jobStart c, 0x0601), (Instr.jobEnd c, 0x0602), (Instr.groupRegister c, 0x0603), (Instr.groupRelease c, 0x0604), (Instr.rankmapLoad c, 0x0605), (Instr.metLoad c, 0x0606), (Instr.uschSet c, 0x0607), (Instr.modelUnload c, 0x0702), (Instr.modelBind c, 0x0703), (Instr.progUnload c, 0x0802), (Instr.ctxBind c, 0x0803), (Instr.ctxUnbind c, 0x0804), (Instr.gridSweep c, 0x0805), (Instr.verdictConfig c, 0x0901), (Instr.campaignStart c, 0x0902), (Instr.secPolicy c, 0x0A01), (Instr.restore c, 0x0A02), (Instr.restoreLoaded c, 0x0A03), (Instr.ledgerCompact c, 0x0B01), (Instr.ledgerExport c, 0x0B02), (Instr.ledgerFormatCommit c, 0x0B03), (Instr.ledgerQuery c, 0x0B04), (Instr.traceExport c, 0x0C01), (Instr.traceTrigger c, 0x0C02), (Instr.profileEnable c, 0x0C03), (Instr.profileDisable c, 0x0C04), (Instr.attest c, 0x0D01), (Instr.debugOpen c, 0x0D03), (Instr.debugClose c, 0x0D04)] ∧ s.abl.n.pick c code = none) ∧
    (∃ (s : State) (c : Cmd) (i : Instr) (code : Nat) (p : _) (r : _), (i, code) ∈ [(Instr.stageOpen c, 0x0010), (Instr.stageWrite c, 0x0011), (Instr.stageClose c, 0x0012), (Instr.stageRead c, 0x0013), (Instr.stageFree c, 0x0014), (Instr.timeConfig c, 0x0101), (Instr.timeAcceptJump c, 0x0102), (Instr.snapAt c, 0x0103), (Instr.ppsConfig c, 0x0104), (Instr.setTrayBudget c, 0x0201), (Instr.setPowerState c, 0x0202), (Instr.setSelfLimits c, 0x0203), (Instr.setParents c, 0x0301), (Instr.returnToPrimary c, 0x0302), (Instr.setChild c, 0x0303), (Instr.setRing c, 0x0304), (Instr.setRole c, 0x0305), (Instr.faultClear c, 0x0401), (Instr.restoreSource c, 0x0402), (Instr.faultConfig c, 0x0403), (Instr.inject c, 0x0404), (Instr.gateFail c, 0x0405), (Instr.bwConfig c, 0x0501), (Instr.bwReport c, 0x0502), (Instr.bwOverride c, 0x0503), (Instr.jobStart c, 0x0601), (Instr.jobEnd c, 0x0602), (Instr.groupRegister c, 0x0603), (Instr.groupRelease c, 0x0604), (Instr.rankmapLoad c, 0x0605), (Instr.metLoad c, 0x0606), (Instr.uschSet c, 0x0607), (Instr.modelUnload c, 0x0702), (Instr.modelBind c, 0x0703), (Instr.progUnload c, 0x0802), (Instr.ctxBind c, 0x0803), (Instr.ctxUnbind c, 0x0804), (Instr.gridSweep c, 0x0805), (Instr.verdictConfig c, 0x0901), (Instr.campaignStart c, 0x0902), (Instr.secPolicy c, 0x0A01), (Instr.restore c, 0x0A02), (Instr.restoreLoaded c, 0x0A03), (Instr.ledgerCompact c, 0x0B01), (Instr.ledgerExport c, 0x0B02), (Instr.ledgerFormatCommit c, 0x0B03), (Instr.ledgerQuery c, 0x0B04), (Instr.traceExport c, 0x0C01), (Instr.traceTrigger c, 0x0C02), (Instr.profileEnable c, 0x0C03), (Instr.profileDisable c, 0x0C04), (Instr.attest c, 0x0D01), (Instr.debugOpen c, 0x0D03), (Instr.debugClose c, 0x0D04)] ∧ s.abl.n.pick c code = some p ∧ s.abl.n.early c = some r) ∧
    (∃ (s : State) (c : Cmd) (i : Instr) (code : Nat), (i, code) ∈ [(Instr.dieIdent c, 0x1001), (Instr.dieRegWrite c, 0x1002), (Instr.dieCap c, 0x1003), (Instr.dieSlack c, 0x1004), (Instr.dieSuspect c, 0x1005), (Instr.dieProfile c, 0x1006), (Instr.dieSecCut c, 0x1007), (Instr.dieSecCommit c, 0x1008), (Instr.dieRepeat c, 0x100C), (Instr.dieCampaign c, 0x100D), (Instr.dieQuery c, 0x1201)] ∧ s.ddu.n.pick c code = none) ∧
    (∃ (s : State) (c : Cmd) (i : Instr) (code : Nat) (p : _) (r : _), (i, code) ∈ [(Instr.dieIdent c, 0x1001), (Instr.dieRegWrite c, 0x1002), (Instr.dieCap c, 0x1003), (Instr.dieSlack c, 0x1004), (Instr.dieSuspect c, 0x1005), (Instr.dieProfile c, 0x1006), (Instr.dieSecCut c, 0x1007), (Instr.dieSecCommit c, 0x1008), (Instr.dieRepeat c, 0x100C), (Instr.dieCampaign c, 0x100D), (Instr.dieQuery c, 0x1201)] ∧ s.ddu.n.pick c code = some p ∧ s.ddu.n.early c = some r) :=
  ⟨⟨sa [], ca 0x0010, .stageOpen (ca 0x0010), 0x0010, by simp, by decide +kernel⟩,
   ⟨sa [] fun a => { a with n := { a.n with mb := { a.n.mb with posted := [pc (ca 0x0010)] } } }, ca 0x0010, .stageOpen (ca 0x0010), 0x0010, pc (ca 0x0010), { status := stUnsupported }, by simp, by decide +kernel⟩,
   ⟨sd [], cd 0x1001, .dieIdent (cd 0x1001), 0x1001, by simp, by decide +kernel⟩,
   ⟨sd [] fun d => { d with n := { d.n with mb := { d.n.mb with posted := [pc (cd 0x1001)] } } }, cd 0x1001, .dieIdent (cd 0x1001), 0x1001, pc (cd 0x1001), { status := stUnsupported }, by simp, by decide +kernel⟩⟩

theorem test_hyps_GeneralCatalogueComplete_0 :
    (∃ (s : State) (dev : Dev) (c : Cmd) (p : PostedX), pathDev c.path = dev ∧ Serving (part s dev) c 0x0001 p ∧ (part s dev).dev = dev ∧ c.p 0 2 = 1) ∧
    (∃ (s : State) (dev : Dev) (c : Cmd) (p : PostedX), pathDev c.path = dev ∧ Serving (part s dev) c 0x0001 p ∧ (part s dev).dev = dev ∧ c.p 0 2 ≠ 1) ∧
    (∃ (s : State) (dev : Dev) (c : Cmd) (p : PostedX), pathDev c.path = dev ∧ Serving (part s dev) c 0x0002 p ∧ c.p 0 1 ≤ 3) ∧
    (∃ (s : State) (dev : Dev) (c : Cmd) (p : PostedX) (x : OpX), pathDev c.path = dev ∧ Serving (part s dev) c 0x0003 p ∧ (part s dev).op (c.p 0 4) = some x) ∧
    (∃ (s : State) (c : Cmd) (p : PostedX) (x : OpX) (b : Abl) (i : Instr) (code : Nat) (what : Nat), (i, code, what) ∈ [(Instr.opSuspend c, 0x0004, 0), (Instr.opResume c, 0x0005, 1), (Instr.opCancel c, 0x0006, 2)] ∧ pathDev c.path = .abl ∧ Serving s.abl.n c code p ∧ s.abl.n.opEarly c what = none ∧ s.abl.n.op (c.p 0 4) = some x ∧ s.abl.opAct x what = (b, true)) ∧
    (∃ (s : State) (dev : Dev) (c : Cmd) (p : PostedX) (r : Ans) (i : Instr) (code : Nat) (what : Nat), (i, code, what) ∈ [(Instr.opSuspend c, 0x0004, 0), (Instr.opResume c, 0x0005, 1), (Instr.opCancel c, 0x0006, 2)] ∧ pathDev c.path = dev ∧ Serving (part s dev) c code p ∧ (part s dev).opEarly c what = some r) ∧
    (∃ (s : State) (c : Cmd) (p : PostedX), Serving s.abl.n c 0x0007 p ∧ c.path = 2) ∧
    (∃ (s : State) (dev : Dev) (c : Cmd) (p : PostedX), pathDev c.path = dev ∧ Serving (part s dev) c 0x0008 p) ∧
    (∃ (s : State) (c : Cmd) (p : PostedX) (x : StageX) (a : Abl), Serving s.abl.n c 0x0010 p ∧ 0 < c.p 0 8 ∧ c.p 0 8 ≤ 268435456 ∧ s.abl.n.mb.stages = [] ∧ x = { id := s.abl.n.mb.nextStage, addr := Config.objectAddr s.abl.n.mb.nextStage (c.p 0 8), len := c.p 0 8, touched := s.abl.n.local } ∧ a = (s.abl.on fun n => (n.setMb { n.mb with nextStage := (s.abl.n.mb.nextStage + 1) % 4294967296 }).putStage x)) ∧
    (∃ (s : State) (c : Cmd) (p : PostedX) (x : StageX), Serving s.abl.n c 0x0011 p ∧ c.params.drop 16 ≠ [] ∧ s.abl.n.stage (c.p 0 4) = some x ∧ x.closed = false ∧ c.p 8 8 + (c.params.drop 16).length ≤ x.len) :=
  ⟨⟨sma (ca 0x0001 (le 2 1 ++ zeros 38)), .abl, (ca 0x0001 (le 2 1 ++ zeros 38)), pc (ca 0x0001 (le 2 1 ++ zeros 38)), by decide +kernel, ⟨by decide +kernel, by decide +kernel⟩, by decide +kernel⟩,
   ⟨sma (ca 0x0001 (zeros 40)), .abl, (ca 0x0001 (zeros 40)), pc (ca 0x0001 (zeros 40)), by decide +kernel, ⟨by decide +kernel, by decide +kernel⟩, by decide +kernel⟩,
   ⟨smd (cd 0x0002 ([3])), .ddu, (cd 0x0002 ([3])), pc (cd 0x0002 ([3])), by decide +kernel, ⟨by decide +kernel, by decide +kernel⟩, by decide +kernel⟩,
   ⟨sma (ca 0x0003 (zeros 4)) ([]) (fun a => { a with n := { a.n with mb := { a.n.mb with ops := [op0 0] } } }), .abl, (ca 0x0003 (zeros 4)), pc (ca 0x0003 (zeros 4)), op0 0, by decide +kernel, ⟨by decide +kernel, by decide +kernel⟩, by decide +kernel⟩,
   ⟨sma (ca 0x0006 (zeros 4)) ([]) (fun a => { a with n := { a.n with mb := { a.n.mb with ops := [{ op0 0 with path := 2, kind := 5 }] } }, hist := { a.hist with exports := [exp0] } }), (ca 0x0006 (zeros 4)), pc (ca 0x0006 (zeros 4)), { op0 0 with path := 2, kind := 5 }, _, .opCancel (ca 0x0006 (zeros 4)), 6, 2, by simp, by decide +kernel, ⟨by decide +kernel, by decide +kernel⟩, by decide +kernel, by decide +kernel, rfl⟩,
   ⟨sma (ca 0x0004 (zeros 4)), .abl, (ca 0x0004 (zeros 4)), pc (ca 0x0004 (zeros 4)), Ans.of stStale, .opSuspend (ca 0x0004 (zeros 4)), 4, 0, by simp, by decide +kernel, ⟨by decide +kernel, by decide +kernel⟩, by decide +kernel⟩,
   ⟨sma (ca 0x0007 (zeros 4)), (ca 0x0007 (zeros 4)), pc (ca 0x0007 (zeros 4)), ⟨by decide +kernel, by decide +kernel⟩, by decide +kernel⟩,
   ⟨sma (ca 0x0008 ([])), .abl, (ca 0x0008 ([])), pc (ca 0x0008 ([])), by decide +kernel, ⟨by decide +kernel, by decide +kernel⟩⟩,
   ⟨sma (ca 0x0010 (le 8 268435456)), (ca 0x0010 (le 8 268435456)), pc (ca 0x0010 (le 8 268435456)), _, _, ⟨by decide +kernel, by decide +kernel⟩, by decide +kernel, by decide +kernel, by decide +kernel, rfl, rfl⟩,
   ⟨sma (ca 0x0011 (le 4 1 ++ zeros 12 ++ [5])) ([]) (fun a => { a with n := { a.n with mb := { a.n.mb with stages := [{ id := 1, addr := 0, len := 1, touched := 0 }] } } }), (ca 0x0011 (le 4 1 ++ zeros 12 ++ [5])), pc (ca 0x0011 (le 4 1 ++ zeros 12 ++ [5])), { id := 1, addr := 0, len := 1, touched := 0 }, ⟨by decide +kernel, by decide +kernel⟩, by decide +kernel⟩⟩

theorem test_hyps_GeneralCatalogueComplete_1 :
    (∃ (s : State) (c : Cmd) (p : PostedX) (x : StageX), Serving s.abl.n c 0x0012 p ∧ s.abl.n.stage (c.p 0 4) = some x ∧ crc32c (stagedBytes s x) = c.p 4 4) ∧
    (∃ (s : State) (c : Cmd) (p : PostedX) (x : StageX), Serving s.abl.n c 0x0012 p ∧ s.abl.n.stage (c.p 0 4) = some x ∧ crc32c (stagedBytes s x) ≠ c.p 4 4) ∧
    (∃ (s : State) (c : Cmd) (p : PostedX) (x : StageX), Serving s.abl.n c 0x0013 p ∧ 0 < c.p 16 4 ∧ c.p 16 4 ≤ 1984 ∧ s.abl.n.stage (c.p 0 4) = some x ∧ c.p 8 8 + c.p 16 4 ≤ x.len) ∧
    (∃ (s : State) (c : Cmd) (p : PostedX) (x : StageX), Serving s.abl.n c 0x0014 p ∧ s.abl.n.stage (c.p 0 4) = some x) ∧
    (∃ (s : State) (c : Cmd) (p : PostedX), s.abl.n.mb.stages = [] ∧ c.p 16 4 ≠ 0 ∧ c.params.drop 16 ≠ [] ∧ Serving s.abl.n c 0x0011 p) ∧
    (∃ (s : State) (c : Cmd) (p : PostedX), s.abl.n.mb.stages = [] ∧ c.p 16 4 ≠ 0 ∧ c.params.drop 16 ≠ [] ∧ Serving s.abl.n c 0x0012 p) ∧
    (∃ (s : State) (c : Cmd) (p : PostedX), s.abl.n.mb.stages = [] ∧ c.p 16 4 ≠ 0 ∧ c.params.drop 16 ≠ [] ∧ Serving s.abl.n c 0x0013 p) ∧
    (∃ (s : State) (c : Cmd) (p : PostedX), s.abl.n.mb.stages = [] ∧ c.p 16 4 ≠ 0 ∧ c.params.drop 16 ≠ [] ∧ Serving s.abl.n c 0x0014 p) :=
  ⟨⟨sma (ca 0x0012 (le 4 1 ++ zeros 4)) ([]) (fun a => { a with n := { a.n with mb := { a.n.mb with stages := [{ id := 1, addr := 0, len := 0, touched := 0 }] } } }), (ca 0x0012 (le 4 1 ++ zeros 4)), pc (ca 0x0012 (le 4 1 ++ zeros 4)), { id := 1, addr := 0, len := 0, touched := 0 }, ⟨by decide +kernel, by decide +kernel⟩, by decide +kernel⟩,
   ⟨sma (ca 0x0012 (le 4 1 ++ le 4 5)) ([]) (fun a => { a with n := { a.n with mb := { a.n.mb with stages := [{ id := 1, addr := 0, len := 0, touched := 0 }] } } }), (ca 0x0012 (le 4 1 ++ le 4 5)), pc (ca 0x0012 (le 4 1 ++ le 4 5)), { id := 1, addr := 0, len := 0, touched := 0 }, ⟨by decide +kernel, by decide +kernel⟩, by decide +kernel⟩,
   ⟨sma (ca 0x0013 (le 4 1 ++ zeros 12 ++ le 4 1984)) ([]) (fun a => { a with n := { a.n with mb := { a.n.mb with stages := [{ id := 1, addr := 0, len := 1984, touched := 0 }] } } }), (ca 0x0013 (le 4 1 ++ zeros 12 ++ le 4 1984)), pc (ca 0x0013 (le 4 1 ++ zeros 12 ++ le 4 1984)), { id := 1, addr := 0, len := 1984, touched := 0 }, ⟨by decide +kernel, by decide +kernel⟩, by decide +kernel⟩,
   ⟨sma (ca 0x0014 (le 4 1)) ([]) (fun a => { a with n := { a.n with mb := { a.n.mb with stages := [{ id := 1, addr := 0, len := 1, touched := 0 }] } } }), (ca 0x0014 (le 4 1)), pc (ca 0x0014 (le 4 1)), { id := 1, addr := 0, len := 1, touched := 0 }, ⟨by decide +kernel, by decide +kernel⟩, by decide +kernel⟩,
   ⟨sma (ca 0x0011 (zeros 16 ++ [1])), (ca 0x0011 (zeros 16 ++ [1])), pc (ca 0x0011 (zeros 16 ++ [1])), by decide +kernel, by decide +kernel, by decide +kernel, ⟨by decide +kernel, by decide +kernel⟩⟩,
   ⟨sma (ca 0x0012 (zeros 16 ++ [1])), (ca 0x0012 (zeros 16 ++ [1])), pc (ca 0x0012 (zeros 16 ++ [1])), by decide +kernel, by decide +kernel, by decide +kernel, ⟨by decide +kernel, by decide +kernel⟩⟩,
   ⟨sma (ca 0x0013 (zeros 16 ++ le 4 1)), (ca 0x0013 (zeros 16 ++ le 4 1)), pc (ca 0x0013 (zeros 16 ++ le 4 1)), by decide +kernel, by decide +kernel, by decide +kernel, ⟨by decide +kernel, by decide +kernel⟩⟩,
   ⟨sma (ca 0x0014 (zeros 16 ++ [1])), (ca 0x0014 (zeros 16 ++ [1])), pc (ca 0x0014 (zeros 16 ++ [1])), by decide +kernel, by decide +kernel, by decide +kernel, ⟨by decide +kernel, by decide +kernel⟩⟩⟩

theorem test_hyps_ControlCatalogueComplete_0 :
    (∃ (s : State) (c : Cmd) (p : PostedX), Serving s.abl.n c 0x0101 p ∧ bits (c.p 0 4) 27 3 < 2) ∧
    (∃ (s : State) (c : Cmd) (p : PostedX), Serving s.abl.n c 0x0102 p ∧ s.abl.n.timeState = 3) ∧
    (∃ (s : State) (c : Cmd) (p : PostedX), Serving s.abl.n c 0x0102 p ∧ s.abl.n.timeState ≠ 3) ∧
    (∃ (s : State) (c : Cmd) (p : PostedX) (key : Nat) (a : Abl), Serving s.abl.n c 0x0103 p ∧ s.abl.n.tideline < c.p 0 8 ∧ c.p 0 8 < s.abl.n.tideline + 2147483648 ∧ s.abl.n.timex.launch.length < 32 ∧ key = 1048576 + c.p 8 4 ∧ a = (s.abl.on fun n => { n with timex := { n.timex with frames := bindKey n.timex.frames key (.frame .snapAt [c.p 8 4] []) } })) ∧
    (∃ (s : State) (c : Cmd) (p : PostedX), Serving s.abl.n c 0x0104 p ∧ c.p 4 2 ≤ 1023) ∧
    (∃ (s : State) (c : Cmd) (p : PostedX), Serving s.abl.n c 0x0201 p ∧ c.p 2 2 ≤ c.p 0 2) ∧
    (∃ (s : State) (c : Cmd) (p : PostedX), Serving s.abl.n c 0x0201 p ∧ c.p 0 2 < c.p 2 2) ∧
    (∃ (s : State) (c : Cmd) (p : PostedX), Serving s.abl.n c 0x0202 p ∧ c.p 0 1 = 0 ∧ s.abl.slackOk = true ∧ s.abl.n.pwrState ≠ 3) ∧
    (∃ (s : State) (c : Cmd) (p : PostedX), Serving s.abl.n c 0x0202 p ∧ c.p 0 1 = 0 ∧ s.abl.slackOk = false) ∧
    (∃ (s : State) (c : Cmd) (p : PostedX), Serving s.abl.n c 0x0203 p) :=
  ⟨⟨sma (ca 0x0101 (zeros 9)), (ca 0x0101 (zeros 9)), pc (ca 0x0101 (zeros 9)), ⟨by decide +kernel, by decide +kernel⟩, by decide +kernel⟩,
   ⟨sma (ca 0x0102 ([])) ([(Reg.TIME_STATUS .abl, 0, 0x300)]), (ca 0x0102 ([])), pc (ca 0x0102 ([])), ⟨by decide +kernel, by decide +kernel⟩, by decide +kernel⟩,
   ⟨sma (ca 0x0102 ([])) ([(Reg.TIME_STATUS .abl, 0, 0x100)]), (ca 0x0102 ([])), pc (ca 0x0102 ([])), ⟨by decide +kernel, by decide +kernel⟩, by decide +kernel⟩,
   ⟨sma (ca 0x0103 (le 8 2147483647 ++ zeros 8)), (ca 0x0103 (le 8 2147483647 ++ zeros 8)), pc (ca 0x0103 (le 8 2147483647 ++ zeros 8)), _, _, ⟨by decide +kernel, by decide +kernel⟩, by decide +kernel, by decide +kernel, by decide +kernel, rfl, rfl⟩,
   ⟨sma (ca 0x0104 (zeros 4 ++ le 2 1023)), (ca 0x0104 (zeros 4 ++ le 2 1023)), pc (ca 0x0104 (zeros 4 ++ le 2 1023)), ⟨by decide +kernel, by decide +kernel⟩, by decide +kernel⟩,
   ⟨sma (ca 0x0201 (zeros 6)), (ca 0x0201 (zeros 6)), pc (ca 0x0201 (zeros 6)), ⟨by decide +kernel, by decide +kernel⟩, by decide +kernel⟩,
   ⟨sma (ca 0x0201 (zeros 2 ++ le 2 1 ++ zeros 2)), (ca 0x0201 (zeros 2 ++ le 2 1 ++ zeros 2)), pc (ca 0x0201 (zeros 2 ++ le 2 1 ++ zeros 2)), ⟨by decide +kernel, by decide +kernel⟩, by decide +kernel⟩,
   ⟨sma (ca 0x0202 (zeros 12)), (ca 0x0202 (zeros 12)), pc (ca 0x0202 (zeros 12)), ⟨by decide +kernel, by decide +kernel⟩, by decide +kernel⟩,
   ⟨sma (ca 0x0202 (zeros 12)) (jobRegs), (ca 0x0202 (zeros 12)), pc (ca 0x0202 (zeros 12)), ⟨by decide +kernel, by decide +kernel⟩, by decide +kernel⟩,
   ⟨sma (ca 0x0203 (zeros 4)), (ca 0x0203 (zeros 4)), pc (ca 0x0203 (zeros 4)), ⟨by decide +kernel, by decide +kernel⟩⟩⟩

theorem test_hyps_ControlCatalogueComplete_1 :
    (∃ (s : State) (c : Cmd) (p : PostedX) (x : Nat) (y : Nat), Serving s.abl.n c 0x0301 p ∧ x = c.p 0 4 % 1048576 ∧ y = c.p 4 4 % 1048576 ∧ x ≠ y ∧ bits x 17 3 = bits y 17 3) ∧
    (∃ (s : State) (c : Cmd) (p : PostedX), Serving s.abl.n c 0x0302 p) ∧
    (∃ (s : State) (c : Cmd) (p : PostedX), Serving s.abl.n c 0x0303 p ∧ c.p 0 1 < 32) ∧
    (∃ (s : State) (c : Cmd) (p : PostedX) (a : Abl), Serving s.abl.n c 0x0304 p ∧ s.abl.ringWrite (c.p 0 16) = (a, true)) ∧
    (∃ (s : State) (c : Cmd) (p : PostedX) (a : Abl), Serving s.abl.n c 0x0304 p ∧ s.abl.ringWrite (c.p 0 16) = (a, false)) ∧
    (∃ (s : State) (c : Cmd) (p : PostedX), Serving s.abl.n c 0x0305 p ∧ ((∀ k, k < 24 → s.abl.n.portState k = 0)) ∧ s.abl.n.fld Reg.ABL_NODE 0 26 2 = 2 ∧ (c.p 0 1 = 2 ∨ c.p 0 1 = 3)) ∧
    (∃ (s : State) (c : Cmd) (p : PostedX), c.p 2 1 = 0xFF ∧ reservedSrc .abl (c.p 0 2) = false ∧ Serving s.abl.n c 0x0401 p) ∧
    (∃ (s : State) (c : Cmd) (p : PostedX), c.p 2 1 = 0xFF ∧ reservedSrc .abl (c.p 0 2) = false ∧ Serving s.abl.n c 0x0403 p) ∧
    (∃ (s : State) (c : Cmd) (p : PostedX), c.p 2 1 = 0xFF ∧ reservedSrc .abl (c.p 0 2) = false ∧ Serving s.abl.n c 0x0404 p ∧ s.abl.n.arrBit Reg.ABL_FLT_ISO (c.p 0 2) = false) ∧
    (∃ (s : State) (c : Cmd) (p : PostedX), c.p 2 1 = 0xFF ∧ reservedSrc .abl (c.p 0 2) = false ∧ Serving s.abl.n c 0x0402 p ∧ s.abl.n.arrBit Reg.ABL_FLT_ISO (c.p 0 2) = false) :=
  ⟨⟨sma (ca 0x0301 (le 4 0x40001 ++ le 4 0x40002)), (ca 0x0301 (le 4 0x40001 ++ le 4 0x40002)), pc (ca 0x0301 (le 4 0x40001 ++ le 4 0x40002)), _, _, ⟨by decide +kernel, by decide +kernel⟩, rfl, rfl, by decide +kernel⟩,
   ⟨sma (ca 0x0302 ([])), (ca 0x0302 ([])), pc (ca 0x0302 ([])), ⟨by decide +kernel, by decide +kernel⟩⟩,
   ⟨sma (ca 0x0303 ([31] ++ zeros 23)), (ca 0x0303 ([31] ++ zeros 23)), pc (ca 0x0303 ([31] ++ zeros 23)), ⟨by decide +kernel, by decide +kernel⟩, by decide +kernel⟩,
   ⟨sma (ca 0x0304 (le 16 (2 ^ 32 * 4 + 2 ^ 120))), (ca 0x0304 (le 16 (2 ^ 32 * 4 + 2 ^ 120))), pc (ca 0x0304 (le 16 (2 ^ 32 * 4 + 2 ^ 120))), ((sma (ca 0x0304 (le 16 (2 ^ 32 * 4 + 2 ^ 120)))).abl.ringWrite (((ca 0x0304 (le 16 (2 ^ 32 * 4 + 2 ^ 120)))).p 0 16)).1, ⟨by decide +kernel, by decide +kernel⟩, Prod.ext (rfl) (by decide +kernel)⟩,
   ⟨sma (ca 0x0304 (zeros 16)), (ca 0x0304 (zeros 16)), pc (ca 0x0304 (zeros 16)), _, ⟨by decide +kernel, by decide +kernel⟩, rfl⟩,
   ⟨sma (ca 0x0305 ([3])) ([(Reg.ABL_NODE, 0, 0x08000000)]), (ca 0x0305 ([3])), pc (ca 0x0305 ([3])), ⟨by decide +kernel, by decide +kernel⟩, by decide +kernel⟩,
   ⟨sma (ca 0x0401 (le 2 654 ++ [0xFF])), (ca 0x0401 (le 2 654 ++ [0xFF])), pc (ca 0x0401 (le 2 654 ++ [0xFF])), by decide +kernel, by decide +kernel, ⟨by decide +kernel, by decide +kernel⟩⟩,
   ⟨sma (ca 0x0403 (le 2 654 ++ [0xFF] ++ zeros 5)), (ca 0x0403 (le 2 654 ++ [0xFF] ++ zeros 5)), pc (ca 0x0403 (le 2 654 ++ [0xFF] ++ zeros 5)), by decide +kernel, by decide +kernel, ⟨by decide +kernel, by decide +kernel⟩⟩,
   ⟨sma (ca 0x0404 (le 2 654 ++ [0xFF] ++ zeros 4)), (ca 0x0404 (le 2 654 ++ [0xFF] ++ zeros 4)), pc (ca 0x0404 (le 2 654 ++ [0xFF] ++ zeros 4)), by decide +kernel, by decide +kernel, ⟨by decide +kernel, by decide +kernel⟩, by decide +kernel⟩,
   ⟨sma (ca 0x0402 (le 2 654 ++ [0xFF, 0])), (ca 0x0402 (le 2 654 ++ [0xFF, 0])), pc (ca 0x0402 (le 2 654 ++ [0xFF, 0])), by decide +kernel, by decide +kernel, ⟨by decide +kernel, by decide +kernel⟩, by decide +kernel⟩⟩

theorem test_hyps_ControlCatalogueComplete_2 :
    (∃ (s : State) (c : Cmd) (p : PostedX), c.p 2 1 = 0xFF ∧ reservedSrc .abl (c.p 0 2) = false ∧ Serving s.abl.n c 0x0402 p ∧ s.abl.n.arrBit Reg.ABL_FLT_ISO (c.p 0 2) = true ∧ 295 < c.p 0 2) ∧
    (∃ (s : State) (c : Cmd) (p : PostedX), Serving s.abl.n c 0x0401 p ∧ c.p 2 1 < 16 ∧ s.abl.n.childValid (c.p 2 1) = true) ∧
    (∃ (s : State) (c : Cmd) (p : PostedX), Serving s.abl.n c 0x0405 p ∧ s.abl.n.groupOf c.jobtag (c.p 0 2) = none) ∧
    (∃ (s : State) (c : Cmd) (p : PostedX) (g : Nat) (h : Nat), Serving s.abl.n c 0x0405 p ∧ s.abl.n.groupOf c.jobtag (c.p 0 2) = some g ∧ s.abl.n.fld Reg.ABL_GROUP g 160 32 = 0 ∧ h = s.abl.n.fld Reg.ABL_GROUP g 128 32 ∧ h ≠ 0 ∧ (s.abl.n.obj ((h + c.p 4 4 % 2) % 8192)).st = 1 ∧ (s.abl.n.obj ((h + c.p 4 4 % 2) % 8192)).failed = false) ∧
    (∃ (s : State) (c : Cmd) (p : PostedX), Serving s.abl.n c 0x0501 p) ∧
    (∃ (s : State) (c : Cmd) (p : PostedX), Serving s.abl.n c 0x0502 p ∧ 1 ≤ c.p 4 1 ∧ c.p 4 1 ≤ 4) ∧
    (∃ (s : State) (c : Cmd) (p : PostedX) (b : _), Serving s.abl.n c 0x0503 p ∧ (c.p 4 1 = 1 ∨ c.p 4 1 = 2) ∧ s.abl.bwOverride (c.p 0 4) (c.p 4 1) = some b) ∧
    (∃ (s : State) (c : Cmd) (p : PostedX), Serving s.abl.n c 0x0503 p ∧ s.abl.gov.items = []) :=
  ⟨⟨sma (ca 0x0402 (le 2 654 ++ [0xFF, 0])) ([(Reg.ABL_FLT_ISO, 20, 2 ^ 14)]), (ca 0x0402 (le 2 654 ++ [0xFF, 0])), pc (ca 0x0402 (le 2 654 ++ [0xFF, 0])), by decide +kernel, by decide +kernel, ⟨by decide +kernel, by decide +kernel⟩, by decide +kernel⟩,
   ⟨sma (ca 0x0401 (zeros 2 ++ [15])) ([(Reg.ABL_RED_CHILD, 15, 2 ^ 127)]), (ca 0x0401 (zeros 2 ++ [15])), pc (ca 0x0401 (zeros 2 ++ [15])), ⟨by decide +kernel, by decide +kernel⟩, by decide +kernel⟩,
   ⟨sma (ca 0x0405 (zeros 9)), (ca 0x0405 (zeros 9)), pc (ca 0x0405 (zeros 9)), ⟨by decide +kernel, by decide +kernel⟩, by decide +kernel⟩,
   ⟨sma (ca 0x0405 (le 2 7 ++ zeros 7) (65537)) ((Reg.ABL_GROUP, 0, 2 ^ 255 + 2 ^ 254 + 2 ^ 240 + 7 * 2 ^ 224 + 65541 * 2 ^ 128) :: (jobRegs.filter fun x => x.1.off != Reg.ABL_GROUP.off)) (fun a => { a with n := { a.n with sync := { objs := [{ num := 5, st := 1 }] } } }), (ca 0x0405 (le 2 7 ++ zeros 7) (65537)), pc (ca 0x0405 (le 2 7 ++ zeros 7) (65537)), _, _, ⟨by decide +kernel, by decide +kernel⟩, rfl, by decide +kernel, rfl, by decide +kernel⟩,
   ⟨sma (ca 0x0501 (zeros 8)), (ca 0x0501 (zeros 8)), pc (ca 0x0501 (zeros 8)), ⟨by decide +kernel, by decide +kernel⟩⟩,
   ⟨sma (ca 0x0502 (zeros 4 ++ [4])), (ca 0x0502 (zeros 4 ++ [4])), pc (ca 0x0502 (zeros 4 ++ [4])), ⟨by decide +kernel, by decide +kernel⟩, by decide +kernel⟩,
   ⟨sma (ca 0x0503 (zeros 4 ++ [1])) ([]) (fun a => { a with gov := { a.gov with items := [{ tray := 0, die := 0, id := 0, cls := 1, body := [], at_ := 0 }] } }), (ca 0x0503 (zeros 4 ++ [1])), pc (ca 0x0503 (zeros 4 ++ [1])), _, ⟨by decide +kernel, by decide +kernel⟩, by decide +kernel, rfl⟩,
   ⟨sma (ca 0x0503 (zeros 5)), (ca 0x0503 (zeros 5)), pc (ca 0x0503 (zeros 5)), ⟨by decide +kernel, by decide +kernel⟩, by decide +kernel⟩⟩

theorem test_hyps_JobCatalogueComplete_0 :
    (∃ (s : State) (c : Cmd) (p : PostedX) (m : FanMsg) (b : Abl) (i : Nat), Serving s.abl.n c 0x0601 p ∧ c.p 8 2 = 1 ∧ 28 ≤ c.params.length ∧ c.p 16 4 ≤ c.p 20 4 ∧ c.p 20 4 < 131072 ∧ (List.range 63).any (fun j => decide (1 ≤ j) && s.abl.n.fld Reg.ABL_JOB j 125 3 == 0) = true ∧ startMsgs c.jobtag (c.p 0 4) (c.p 4 4) [(c.p 16 4, c.p 20 4, c.p 24 4)] = [m] ∧ 1 ≤ s.abl.freeBufs ∧ s.abl.originate { m with seq := s.abl.fanSeq m.jobtag } = (b, some i)) ∧
    (∃ (s : State) (c : Cmd) (p : PostedX) (m : FanMsg) (b : Abl) (i : Nat), Serving s.abl.n c 0x0602 p ∧ c.p 0 1 ≤ 2 ∧ c.jobtag ≠ 0 ∧ s.abl.jobRanges c.jobtag ≠ [] ∧ (s.abl.jobRanges c.jobtag).length ≤ 32 ∧ 1 ≤ s.abl.freeBufs ∧ m = { jobtag := c.jobtag, seq := s.abl.fanSeq c.jobtag, kind := 2, deadline := 0, ranges := s.abl.jobRanges c.jobtag, body := le 4 (c.p 0 1) ++ zeros 4 } ∧ s.abl.originate m = (b, some i)) ∧
    (∃ (s : State) (c : Cmd) (p : PostedX) (m : FanMsg) (b : Abl) (i : Nat), Serving s.abl.n c 0x0603 p ∧ 0 < c.p 0 2 ∧ c.p 0 2 < 0xFFFE ∧ c.jobtag ≠ 0 ∧ c.p 4 2 = 1 ∧ 16 ≤ c.params.length ∧ c.p 8 4 ≤ c.p 12 4 ∧ c.p 12 4 < 131072 ∧ bit (c.p 2 2) 0 = false ∧ 1 ≤ s.abl.freeBufs ∧ m = { jobtag := c.jobtag, seq := s.abl.fanSeq c.jobtag, kind := 3, deadline := 0, ranges := [(c.p 8 4, c.p 12 4)], body := le 2 (c.p 0 2) ++ le 2 (c.p 2 2) ++ le 4 0 ++ zeros 8 } ∧ s.abl.originate m = (b, some i)) ∧
    (∃ (s : State) (c : Cmd) (p : PostedX) (g : Nat), Serving s.abl.n c 0x0604 p ∧ s.abl.n.groupOf c.jobtag (c.p 0 2) = some g ∧ 1 ≤ s.abl.freeBufs ∧ s.abl.n.fld Reg.ABL_GROUP g 160 32 = 0) ∧
    (∃ (s : State) (c : Cmd) (p : PostedX), Serving s.abl.n c 0x0605 p ∧ c.p 0 2 = 1 ∧ 24 ≤ c.params.length ∧ ((∀ i, i < 1024 → s.abl.n.bit Reg.ABL_RANKMAP i 127 = false)) ∧ bit (c.p 8 16) 127 = true ∧ bits (c.p 8 16) 112 6 ≠ 0 ∧ bits (c.p 8 16) 112 6 ≠ 63 ∧ s.abl.n.fld Reg.ABL_JOB (bits (c.p 8 16) 112 6) 125 3 ≠ 0) ∧
    (∃ (s : State) (c : Cmd) (p : PostedX) (a : Abl), Serving s.abl.n c 0x0606 p ∧ c.p 0 2 < 4096 ∧ s.abl.metSet (c.p 0 2) (c.p 8 16) = (a, true)) ∧
    (∃ (s : State) (c : Cmd) (p : PostedX) (a : Abl), Serving s.abl.n c 0x0606 p ∧ c.p 0 2 < 4096 ∧ s.abl.metSet (c.p 0 2) (c.p 8 16) = (a, false)) ∧
    ((Config.uschPort 0 0 = true) → ∃ (s : State) (c : Cmd) (p : PostedX), Serving s.abl.n c 0x0607 p ∧ c.p 0 1 < 8 ∧ Config.uschPort (c.p 0 1) (c.p 8 8) = true) ∧
    ((Config.uschPort 0 0 = false) → ∃ (s : State) (c : Cmd) (p : PostedX), Serving s.abl.n c 0x0607 p ∧ c.p 0 1 < 8 ∧ Config.uschPort (c.p 0 1) (c.p 8 8) = false) ∧
    (∃ (s : State) (c : Cmd) (p : PostedX) (host : Option (List Nat)) (b : List Nat) (x : Option StageX) (a : Abl), c.p 0 1 < 64 ∧ s.abl.refBytes c.path ((c.params.drop 8).take 24) host (stagedBytes s) = .ok (b, x) ∧ Serving s.abl.n c 0x0701 p ∧ s.abl.modelLoad (c.p 0 1) b b.length = (a, none)) :=
  ⟨⟨sma (ca 0x0601 (zeros 8 ++ [1] ++ zeros 19) (65537)), (ca 0x0601 (zeros 8 ++ [1] ++ zeros 19) (65537)), pc (ca 0x0601 (zeros 8 ++ [1] ++ zeros 19) (65537)), _, _, _, ⟨by decide +kernel, by decide +kernel⟩, by decide +kernel, by decide +kernel, by decide +kernel, by decide +kernel, (by decide +kernel), rfl, by decide +kernel, rfl⟩,
   ⟨sma (ca 0x0602 ([2]) (65537)) (jobRegs) (fun a => { a with jobs := [{ jobA1 with ranges := [(0, 0)] }] }), (ca 0x0602 ([2]) (65537)), pc (ca 0x0602 ([2]) (65537)), _, _, _, ⟨by decide +kernel, by decide +kernel⟩, by decide +kernel, by decide +kernel, by decide +kernel, by decide +kernel, (by decide +kernel), rfl, rfl⟩,
   ⟨sma (ca 0x0603 (le 2 5 ++ zeros 2 ++ le 2 1 ++ zeros 10) (65537)) (jobRegs), (ca 0x0603 (le 2 5 ++ zeros 2 ++ le 2 1 ++ zeros 10) (65537)), pc (ca 0x0603 (le 2 5 ++ zeros 2 ++ le 2 1 ++ zeros 10) (65537)), _, _, _, ⟨by decide +kernel, by decide +kernel⟩, by decide +kernel, by decide +kernel, by decide +kernel, by decide +kernel, (by decide +kernel), by decide +kernel, by decide +kernel, by decide +kernel, by decide +kernel, rfl, rfl⟩,
   ⟨sma (ca 0x0604 (le 2 7) (65537)) (jobRegs), (ca 0x0604 (le 2 7) (65537)), pc (ca 0x0604 (le 2 7) (65537)), _, ⟨by decide +kernel, by decide +kernel⟩, rfl, by decide +kernel⟩,
   ⟨sma (ca 0x0605 ([1] ++ zeros 7 ++ le 16 (2 ^ 127 + 2 ^ 112))) (jobRegs), (ca 0x0605 ([1] ++ zeros 7 ++ le 16 (2 ^ 127 + 2 ^ 112))), pc (ca 0x0605 ([1] ++ zeros 7 ++ le 16 (2 ^ 127 + 2 ^ 112))), ⟨by decide +kernel, by decide +kernel⟩, by decide +kernel⟩,
   ⟨sma (ca 0x0606 (le 2 4095 ++ zeros 22)), (ca 0x0606 (le 2 4095 ++ zeros 22)), pc (ca 0x0606 (le 2 4095 ++ zeros 22)), _, ⟨by decide +kernel, by decide +kernel⟩, by decide +kernel, rfl⟩,
   ⟨sma (ca 0x0606 (zeros 8 ++ le 16 (2 ^ 127))), (ca 0x0606 (zeros 8 ++ le 16 (2 ^ 127))), pc (ca 0x0606 (zeros 8 ++ le 16 (2 ^ 127))), _, ⟨by decide +kernel, by decide +kernel⟩, by decide +kernel, rfl⟩,
   fun h => ⟨sma (ca 0x0607 (zeros 16)), (ca 0x0607 (zeros 16)), pc (ca 0x0607 (zeros 16)), ⟨by decide +kernel, by decide +kernel⟩, by decide +kernel, h⟩,
   fun h => ⟨sma (ca 0x0607 (zeros 16)), (ca 0x0607 (zeros 16)), pc (ca 0x0607 (zeros 16)), ⟨by decide +kernel, by decide +kernel⟩, by decide +kernel, h⟩,
   ⟨sIm 0x0701 imgModel, cIm 0x0701 imgModel, pc (cIm 0x0701 imgModel), none, imgModel, some (stIm imgModel), ((sIm 0x0701 imgModel).abl.modelLoad ((cIm 0x0701 imgModel).p 0 1) (imgModel) (imgModel).length).1, by decide +kernel, by decide +kernel, ⟨by decide +kernel, by decide +kernel⟩, eq_of_snd (by decide +kernel)⟩⟩

theorem test_hyps_JobCatalogueComplete_1 :
    (∃ (s : State) (c : Cmd) (p : PostedX) (host : Option (List Nat)) (b : List Nat) (x : Option StageX) (a : Abl) (st : _), c.p 0 1 < 64 ∧ s.abl.refBytes c.path ((c.params.drop 8).take 24) host (stagedBytes s) = .ok (b, x) ∧ Serving s.abl.n c 0x0701 p ∧ s.abl.modelLoad (c.p 0 1) b b.length = (a, some st)) ∧
    (∃ (s : State) (c : Cmd) (p : PostedX) (host : Option (List Nat)) (b : List Nat) (x : Option StageX) (a : Abl), c.p 0 1 < 64 ∧ s.abl.refBytes c.path ((c.params.drop 8).take 24) host (stagedBytes s) = .ok (b, x) ∧ Serving s.abl.n c 0x0801 p ∧ s.abl.progLoad (c.p 0 1) b b.length = (a, none)) ∧
    (∃ (s : State) (c : Cmd) (p : PostedX) (host : Option (List Nat)) (b : List Nat) (x : Option StageX) (a : Abl) (st : _), c.p 0 1 < 64 ∧ s.abl.refBytes c.path ((c.params.drop 8).take 24) host (stagedBytes s) = .ok (b, x) ∧ Serving s.abl.n c 0x0801 p ∧ s.abl.progLoad (c.p 0 1) b b.length = (a, some st)) ∧
    (∃ (s : State) (c : Cmd) (p : PostedX) (host : Option (List Nat)) (st : Nat), c.p 0 1 < 64 ∧ s.abl.refBytes c.path ((c.params.drop 8).take 24) host (stagedBytes s) = .error st ∧ Serving s.abl.n c 0x0701 p) ∧
    (∃ (s : State) (c : Cmd) (p : PostedX) (host : Option (List Nat)) (st : Nat), c.p 0 1 < 64 ∧ s.abl.refBytes c.path ((c.params.drop 8).take 24) host (stagedBytes s) = .error st ∧ Serving s.abl.n c 0x0801 p) ∧
    (∃ (s : State) (c : Cmd) (p : PostedX) (a : Abl), c.p 0 1 < 32 ∧ Serving s.abl.n c 0x0702 p ∧ s.abl.modelUnload (c.p 0 1) = (a, none)) ∧
    (∃ (s : State) (c : Cmd) (p : PostedX), c.p 0 1 < 32 ∧ Serving s.abl.n c 0x0703 p) ∧
    (∃ (s : State) (c : Cmd) (p : PostedX) (a : Abl), c.p 0 1 < 32 ∧ Serving s.abl.n c 0x0802 p ∧ s.abl.progUnload (c.p 0 1) = (a, none)) ∧
    (∃ (s : State) (c : Cmd) (p : PostedX) (a : Abl), c.p 0 1 < 32 ∧ Serving s.abl.n c 0x0803 p ∧ c.p 2 1 < 64 ∧ s.abl.ctxBind (c.p 0 1) (c.p 1 1) (c.p 2 1) (c.p 4 2) (c.p 6 2) c.jobtag = (a, 0)) ∧
    (∃ (s : State) (c : Cmd) (p : PostedX) (a : Abl), c.p 0 1 < 32 ∧ Serving s.abl.n c 0x0804 p ∧ s.abl.ctxUnbind (c.p 0 1) = (a, none)) :=
  ⟨⟨sma (ca 0x0701 (zeros 8 ++ [1, 0, 0, 0] ++ le 4 1 ++ zeros 8 ++ le 8 1)) ([]) (fun a => { a with n := { a.n with mb := { a.n.mb with stages := [{ id := 1, addr := 0, len := 1, touched := 0 }] } } }), (ca 0x0701 (zeros 8 ++ [1, 0, 0, 0] ++ le 4 1 ++ zeros 8 ++ le 8 1)), pc (ca 0x0701 (zeros 8 ++ [1, 0, 0, 0] ++ le 4 1 ++ zeros 8 ++ le 8 1)), none, _, _, _, stBad, by decide +kernel, rfl, ⟨by decide +kernel, by decide +kernel⟩, rfl⟩,
   ⟨sIm 0x0801 imgProg, cIm 0x0801 imgProg, pc (cIm 0x0801 imgProg), none, imgProg, some (stIm imgProg), ((sIm 0x0801 imgProg).abl.progLoad ((cIm 0x0801 imgProg).p 0 1) (imgProg) (imgProg).length).1, by decide +kernel, by decide +kernel, ⟨by decide +kernel, by decide +kernel⟩, eq_of_snd (by decide +kernel)⟩,
   ⟨sma (ca 0x0801 (zeros 8 ++ [1, 0, 0, 0] ++ le 4 1 ++ zeros 8 ++ le 8 1)) ([]) (fun a => { a with n := { a.n with mb := { a.n.mb with stages := [{ id := 1, addr := 0, len := 1, touched := 0 }] } } }), (ca 0x0801 (zeros 8 ++ [1, 0, 0, 0] ++ le 4 1 ++ zeros 8 ++ le 8 1)), pc (ca 0x0801 (zeros 8 ++ [1, 0, 0, 0] ++ le 4 1 ++ zeros 8 ++ le 8 1)), none, _, _, _, _, by decide +kernel, rfl, ⟨by decide +kernel, by decide +kernel⟩, rfl⟩,
   ⟨sma (ca 0x0701 (zeros 32)), (ca 0x0701 (zeros 32)), pc (ca 0x0701 (zeros 32)), none, stBad, by decide +kernel, rfl, ⟨by decide +kernel, by decide +kernel⟩⟩,
   ⟨sma (ca 0x0801 (zeros 32)), (ca 0x0801 (zeros 32)), pc (ca 0x0801 (zeros 32)), none, stBad, by decide +kernel, rfl, ⟨by decide +kernel, by decide +kernel⟩⟩,
   ⟨sma (ca 0x0702 ([0])) ([(Reg.ABL_TREE_MODEL, 0, 2 ^ 126)]) (fun a => { a with tree := { a.tree with samples := [ts0] } }), (ca 0x0702 ([0])), pc (ca 0x0702 ([0])), _, by decide +kernel, ⟨by decide +kernel, by decide +kernel⟩, rfl⟩,
   ⟨sma (ca 0x0703 (zeros 24)), (ca 0x0703 (zeros 24)), pc (ca 0x0703 (zeros 24)), by decide +kernel, ⟨by decide +kernel, by decide +kernel⟩⟩,
   ⟨sma (ca 0x0802 ([0])) ([(Reg.ABL_GRID_PROG, 0, 2 ^ 126)]) (fun a => { a with grid := { a.grid with slices := [slice0] } }), (ca 0x0802 ([0])), pc (ca 0x0802 ([0])), _, by decide +kernel, ⟨by decide +kernel, by decide +kernel⟩, rfl⟩,
   ⟨sma (ca 0x0803 (zeros 8)) ([(Reg.ABL_GRID_PROG, 0, 2 ^ 126)]) (fun a => { a with grid := { a.grid with progs := [prog0 []] } }), (ca 0x0803 (zeros 8)), pc (ca 0x0803 (zeros 8)), _, by decide +kernel, ⟨by decide +kernel, by decide +kernel⟩, by decide +kernel, rfl⟩,
   ⟨sma (ca 0x0804 ([31])) ([(Reg.ABL_GRID_CTX, 31, 2 ^ 253)]), (ca 0x0804 ([31])), pc (ca 0x0804 ([31])), _, by decide +kernel, ⟨by decide +kernel, by decide +kernel⟩, rfl⟩⟩

theorem test_hyps_JobCatalogueComplete_2 : ∃ (s : State) (c : Cmd) (p : PostedX) (a : Abl) (h : Nat), Serving s.abl.n c 0x0805 p ∧ s.abl.sweepStart c.path (c.p 0 1) = (a, 0, h) :=
  ⟨sma (ca 0x0805 ([0])) ([(Reg.ABL_GRID_PROG, 0, 2 ^ 126)]) (fun a => { a with grid := { a.grid with progs := [prog0 []] } }), (ca 0x0805 ([0])), pc (ca 0x0805 ([0])), _, _, ⟨by decide +kernel, by decide +kernel⟩, rfl⟩

theorem test_hyps_RecordCatalogueComplete_0 :
    (∃ (s : State) (c : Cmd) (p : PostedX), Serving s.abl.n c 0x0901 p) ∧
    (∃ (s : State) (c : Cmd) (p : PostedX) (a : Abl) (h : Nat), Serving s.abl.n c 0x0902 p ∧ s.abl.campStart c.path c.jobtag c.params = (a, 0, h)) ∧
    (∃ (s : State) (c : Cmd) (p : PostedX) (a : Abl) (h : Nat), Serving s.abl.n c 0x0A02 p ∧ s.abl.restoreStart c.path c.jobtag c.params = (a, 0, h)) ∧
    (∃ (s : State) (c : Cmd) (p : PostedX) (a : Abl) (h : Nat), Serving s.abl.n c 0x0A02 p ∧ s.abl.restoreStart c.path c.jobtag c.params = (a, stBad, h)) ∧
    (∃ (s : State) (c : Cmd) (p : PostedX), Serving s.abl.n c 0x0A03 p) ∧
    (∃ (s : State) (c : Cmd) (p : PostedX), Serving s.abl.n c 0x0A01 p ∧ c.jobtag ≠ 0) ∧
    (∃ (s : State) (c : Cmd) (p : PostedX) (x : PassX), Serving s.abl.n c 0x0B01 p ∧ s.abl.hist.pass = some x) ∧
    (∃ (s : State) (c : Cmd) (p : PostedX) (n : Node) (h : Nat) (o : OpX), Serving s.abl.n c 0x0B01 p ∧ s.abl.hist.pass = none ∧ s.abl.hist.passDue = none ∧ s.abl.n.opStart 4 c.path 0 = (some h, n) ∧ n.op h = some o) ∧
    (∃ (s : State) (c : Cmd) (p : PostedX), Serving s.abl.n c 0x0B02 p ∧ leAt ((c.params.drop 24).take 24) 0 1 = 1) ∧
    (∃ (s : State) (c : Cmd) (p : PostedX) (n : Node) (h : Nat) (o : OpX) (x : ExportX), Serving s.abl.n c 0x0B02 p ∧ leAt c.params 0 1 = 0 ∧ leAt c.params 16 2 = 0 ∧ leAt ((c.params.drop 24).take 24) 0 1 = 0 ∧ s.abl.n.opStart 5 c.path c.jobtag = (some h, n) ∧ n.op h = some o ∧ s.abl.hist.log = [] ∧ x = { handle := h, num := s.abl.hist.nextExport, scope := [0, leAt c.params 8 8, 0], ref := (c.params.drop 24).take 24, left := (Config.exportCheckpoint s.abl.hist.ckptJseq [0, leAt c.params 8 8, 0]).map (fun b => (s.abl.hist.ckptJseq, b)) }) :=
  ⟨⟨sma (ca 0x0901 (zeros 16)), (ca 0x0901 (zeros 16)), pc (ca 0x0901 (zeros 16)), ⟨by decide +kernel, by decide +kernel⟩⟩,
   ⟨sma (ca 0x0902 (zeros 16 ++ le 4 1 ++ le 2 1 ++ zeros 6) (65537)) ([(Reg.ABL_RED_CHILD, 0, 2 ^ 127), (Reg.ABL_GRID_PROG, 0, 2 ^ 126)]), (ca 0x0902 (zeros 16 ++ le 4 1 ++ le 2 1 ++ zeros 6) (65537)), pc (ca 0x0902 (zeros 16 ++ le 4 1 ++ le 2 1 ++ zeros 6) (65537)), _, _, ⟨by decide +kernel, by decide +kernel⟩, rfl⟩,
   ⟨sma (ca 0x0A02 (zeros 6) (65537)) (jobRegs) (fun a => { a with sec := { a.sec with roots := [{ jobtag := 65537, cutId := 1 }] } }), (ca 0x0A02 (zeros 6) (65537)), pc (ca 0x0A02 (zeros 6) (65537)), _, _, ⟨by decide +kernel, by decide +kernel⟩, rfl⟩,
   ⟨sma (ca 0x0A02 (zeros 8)), (ca 0x0A02 (zeros 8)), pc (ca 0x0A02 (zeros 8)), ((sma (ca 0x0A02 (zeros 8))).abl.restoreStart ((ca 0x0A02 (zeros 8))).path ((ca 0x0A02 (zeros 8))).jobtag ((ca 0x0A02 (zeros 8))).params).1, 0, ⟨by decide +kernel, by decide +kernel⟩, Prod.ext (rfl) (Prod.ext (by decide +kernel) (by decide +kernel))⟩,
   ⟨sma (ca 0x0A03 (zeros 9)), (ca 0x0A03 (zeros 9)), pc (ca 0x0A03 (zeros 9)), ⟨by decide +kernel, by decide +kernel⟩⟩,
   ⟨sma (ca 0x0A01 (zeros 76) (65537)) (jobRegs), (ca 0x0A01 (zeros 76) (65537)), pc (ca 0x0A01 (zeros 76) (65537)), ⟨by decide +kernel, by decide +kernel⟩, by decide +kernel⟩,
   ⟨sma (ca 0x0B01 (zeros 4)) ([]) (fun a => { a with hist := { a.hist with pass := some pass0 } }), (ca 0x0B01 (zeros 4)), pc (ca 0x0B01 (zeros 4)), pass0, ⟨by decide +kernel, by decide +kernel⟩, by decide +kernel⟩,
   ⟨sma cCo, cCo, pc cCo, os (sma cCo).abl.n 4, 0, oo (sma cCo).abl.n 4, ⟨by decide +kernel, by decide +kernel⟩, by decide +kernel⟩,
   ⟨sma (ca 0x0B02 (zeros 24 ++ [1] ++ zeros 23)), (ca 0x0B02 (zeros 24 ++ [1] ++ zeros 23)), pc (ca 0x0B02 (zeros 24 ++ [1] ++ zeros 23)), ⟨by decide +kernel, by decide +kernel⟩, by decide +kernel⟩,
   ⟨sma cEx, cEx, pc cEx, os (sma cEx).abl.n 5, 0, oo (sma cEx).abl.n 5, _, ⟨by decide +kernel, by decide +kernel⟩, by decide +kernel, by decide +kernel, by decide +kernel, by decide +kernel, (by decide +kernel), by decide +kernel, rfl⟩⟩

theorem test_hyps_RecordCatalogueComplete_1 :
    (∃ (s : State) (c : Cmd) (p : PostedX), Serving s.abl.n c 0x0B03 p ∧ s.abl.hist.probation = 0) ∧
    (∃ (s : State) (c : Cmd) (p : PostedX), Serving s.abl.n c 0x0B03 p ∧ s.abl.hist.probation ≠ 0) ∧
    (∃ (s : State) (c : Cmd) (p : PostedX), Serving s.abl.n c 0x0B04 p) ∧
    (∃ (s : State) (c : Cmd) (p : PostedX) (n : Node) (h : Nat) (o : OpX) (x : TraceOut), Serving s.abl.n c 0x0C01 p ∧ leAt c.params 0 1 < 16 ∧ s.abl.n.childValid (leAt c.params 0 1) = true ∧ leAt ((c.params.drop 8).take 24) 0 1 = 0 ∧ s.abl.traces = [] ∧ s.abl.n.opStart 6 c.path c.jobtag = (some h, n) ∧ n.op h = some o ∧ x = { handle := h, port := leAt c.params 0 1, ref := (c.params.drop 8).take 24 }) ∧
    (∃ (s : State) (c : Cmd) (p : PostedX), Serving s.abl.n c 0x0C02 p ∧ c.p 0 1 < 16 ∧ s.abl.n.childValid (c.p 0 1) = true) :=
  ⟨⟨sma (ca 0x0B03 ([])), (ca 0x0B03 ([])), pc (ca 0x0B03 ([])), ⟨by decide +kernel, by decide +kernel⟩, by decide +kernel⟩,
   ⟨sma (ca 0x0B03 ([])) ([]) (fun a => { a with hist := { a.hist with probation := 1 } }), (ca 0x0B03 ([])), pc (ca 0x0B03 ([])), ⟨by decide +kernel, by decide +kernel⟩, by decide +kernel⟩,
   ⟨sma (ca 0x0B04 (zeros 11)), (ca 0x0B04 (zeros 11)), pc (ca 0x0B04 (zeros 11)), ⟨by decide +kernel, by decide +kernel⟩⟩,
   ⟨sTr, cTr, pc cTr, os sTr.abl.n 6, 0, oo sTr.abl.n 6, _, ⟨by decide +kernel, by decide +kernel⟩, by decide +kernel, by decide +kernel, by decide +kernel, by decide +kernel, (by decide +kernel), by decide +kernel, rfl⟩,
   ⟨sma (ca 0x0C02 ([15] ++ zeros 15)) ([(Reg.ABL_RED_CHILD, 15, 2 ^ 127)]), (ca 0x0C02 ([15] ++ zeros 15)), pc (ca 0x0C02 ([15] ++ zeros 15)), ⟨by decide +kernel, by decide +kernel⟩, by decide +kernel⟩⟩

theorem test_hyps_SecurityCatalogueComplete_0 :
    (∃ (s : State) (c : Cmd) (p : PostedX) (con : Option ConsentX), Serving s.abl.n c 0x0C03 p ∧ leAt c.params 2 1 = 8 ∧ s.abl.profileMay c = some con) ∧
    (∃ (s : State) (c : Cmd) (p : PostedX), Serving s.abl.n c 0x0C03 p ∧ 1 ≤ leAt c.params 2 1 ∧ leAt c.params 2 1 < 16 ∧ s.abl.profileMay c = none) ∧
    (∃ (s : State) (c : Cmd) (p : PostedX), Serving s.abl.n c 0x0C04 p) ∧
    (∃ (s : State) (c : Cmd) (p : PostedX), Serving s.abl.n c 0x0D01 p ∧ leAt c.params 32 1 = 255 ∧ leAt c.params 33 1 = 0) ∧
    (∃ (s : State) (c : Cmd) (p : PostedX), Serving s.abl.n c 0x0D01 p ∧ 3 ≤ leAt c.params 33 1) ∧
    (∃ (s : State) (c : Cmd) (p : PostedX) (b : List Nat), Serving s.abl.n c 0x0D02 p ∧ b = le 8 (s.abl.n.rd Reg.ABL_SERIAL) ++ padTo 32 (Config.nonce s.free) ++ le 4 (s.abl.n.rd Reg.ABL_DBG_SESSIONS + 1) ++ le 4 s.abl.n.now) ∧
    (∃ (s : State) (c : Cmd) (p : PostedX), Serving s.abl.n c 0x0D03 p ∧ s.abl.fused ≠ 1) ∧
    ((sDbg.abl.signedBy 0 7 xDbg [] none = true) → ∃ (s : State) (c : Cmd) (p : PostedX) (ch : List Nat) (x : Cose) (grant : Nat) (dies : Nat) (dur : Nat) (tag : Nat) (a : Abl), Serving s.abl.n c 0x0D03 p ∧ s.abl.fused = 1 ∧ s.abl.n.pwrState ≠ 3 ∧ s.abl.sessionOpen = false ∧ s.abl.challenge = some ch ∧ coseRead c.params = some x ∧ s.abl.signedBy 0 7 x [] none = true ∧ x.num 1 = some (s.abl.n.rd Reg.ABL_SERIAL) ∧ x.str 2 = some ((ch.drop 8).take 32) ∧ x.num 3 = some grant ∧ x.num 5 = some dies ∧ x.num 6 = some dur ∧ x.num 4 = some tag ∧ grant < 128 ∧ dies < 65536 ∧ 0 < dur ∧ dur ≤ 28800 ∧ a = (({ s.abl with guard := { s.abl.guard with challenge := none, session := some (s.abl.n.local, (List.range 6).map fun k => s.abl.n.rd Reg.ABL_MC_WDOG_CFG k) } } : Abl).on fun n => ((((n.wr Reg.ABL_DBG_CTRL 0 (2147483648 + grant)).wr Reg.ABL_DBG_EXPIRE 0 ((s.abl.n.seconds + dur) % 4294967296)).wr Reg.ABL_DBG_JOBTAG 0 tag).wr Reg.ABL_DBG_DIES 0 dies).wr Reg.ABL_DBG_SESSIONS 0 (s.abl.n.rd Reg.ABL_DBG_SESSIONS + 1))) ∧
    (∃ (s : State) (c : Cmd) (p : PostedX), Serving s.abl.n c 0x0D04 p) ∧
    (∃ (s : State) (c : Cmd) (p : PostedX) (i : Instr) (op : Nat), Serving s.abl.n c 0x0D05 p ∧ c.code = 0x0D05 ∧ c.p 0 1 = op ∧ op ≤ 3 ∧ s.abl.lcBusy = true ∧ (i, op) ∈ [(Instr.lifecycleSecure c, 1), (Instr.lifecycleRma c, 2), (Instr.lifecycleDecommission c, 3)]) :=
  ⟨⟨sma (ca 0x0C03 ([0, 0, 8] ++ zeros 37)), (ca 0x0C03 ([0, 0, 8] ++ zeros 37)), pc (ca 0x0C03 ([0, 0, 8] ++ zeros 37)), none, ⟨by decide +kernel, by decide +kernel⟩, by decide +kernel⟩,
   ⟨sma (ca 0x0C03 ([0, 0, 15] ++ zeros 37)) ([(Reg.ABL_STATUS, 0, 0x11020000)]), (ca 0x0C03 ([0, 0, 15] ++ zeros 37)), pc (ca 0x0C03 ([0, 0, 15] ++ zeros 37)), ⟨by decide +kernel, by decide +kernel⟩, by decide +kernel⟩,
   ⟨sma (ca 0x0C04 (zeros 8)), (ca 0x0C04 (zeros 8)), pc (ca 0x0C04 (zeros 8)), ⟨by decide +kernel, by decide +kernel⟩⟩,
   ⟨sma (ca 0x0D01 (zeros 32 ++ [255, 0])), (ca 0x0D01 (zeros 32 ++ [255, 0])), pc (ca 0x0D01 (zeros 32 ++ [255, 0])), ⟨by decide +kernel, by decide +kernel⟩, by decide +kernel⟩,
   ⟨sma (ca 0x0D01 (zeros 32 ++ [255, 3])), (ca 0x0D01 (zeros 32 ++ [255, 3])), pc (ca 0x0D01 (zeros 32 ++ [255, 3])), ⟨by decide +kernel, by decide +kernel⟩, by decide +kernel⟩,
   ⟨sma (ca 0x0D02 (zeros 0)), (ca 0x0D02 (zeros 0)), pc (ca 0x0D02 (zeros 0)), _, ⟨by decide +kernel, by decide +kernel⟩, rfl⟩,
   ⟨sma (ca 0x0D03 (zeros 0)), (ca 0x0D03 (zeros 0)), pc (ca 0x0D03 (zeros 0)), ⟨by decide +kernel, by decide +kernel⟩, by decide +kernel⟩,
   fun h => ⟨sDbg, cDbg, pc cDbg, zeros 40, xDbg, 1, 1, 10, 0, _, ⟨by decide +kernel, by decide +kernel⟩, by decide +kernel, by decide +kernel, by decide +kernel, by decide +kernel, (by decide +kernel), h, by decide +kernel, by decide +kernel, by decide +kernel, by decide +kernel, (by decide +kernel), by decide +kernel, by decide +kernel, by decide +kernel, by decide +kernel, (by decide +kernel), rfl⟩,
   ⟨sma (ca 0x0D04 (zeros 0)), (ca 0x0D04 (zeros 0)), pc (ca 0x0D04 (zeros 0)), ⟨by decide +kernel, by decide +kernel⟩⟩,
   ⟨sma (ca 0x0D05 ([3, 255, 0, 0])) (jobRegs), (ca 0x0D05 ([3, 255, 0, 0])), pc (ca 0x0D05 ([3, 255, 0, 0])), .lifecycleDecommission (ca 0x0D05 [3, 255, 0, 0]), 3, ⟨by decide +kernel, by decide +kernel⟩, by decide +kernel, by decide +kernel, by decide +kernel, by decide +kernel, by simp⟩⟩

theorem test_hyps_SecurityCatalogueComplete_1 :
    (∃ (s : State) (c : Cmd) (p : PostedX), c.code = 0x0D05 ∧ c.p 1 1 = 255 ∧ s.abl.lcBusy = false ∧ s.abl.hist.pwrFail = false ∧ Serving s.abl.n c 0x0D05 p ∧ c.p 0 1 = 1) ∧
    ((Config.rmaToken [] = true) → ∃ (s : State) (c : Cmd) (p : PostedX), c.code = 0x0D05 ∧ c.p 1 1 = 255 ∧ s.abl.lcBusy = false ∧ s.abl.hist.pwrFail = false ∧ Serving s.abl.n c 0x0D05 p ∧ c.p 0 1 = 2 ∧ s.abl.fused = 1 ∧ Config.rmaToken (c.params.drop 52) = true) ∧
    (∃ (s : State) (c : Cmd) (p : PostedX), c.code = 0x0D05 ∧ c.p 1 1 = 255 ∧ s.abl.lcBusy = false ∧ s.abl.hist.pwrFail = false ∧ Serving s.abl.n c 0x0D05 p ∧ c.p 0 1 = 3) ∧
    (∃ (s : State) (c : Cmd) (p : PostedX), c.code = 0x0D05 ∧ c.p 1 1 = 255 ∧ s.abl.lcBusy = false ∧ s.abl.hist.pwrFail = false ∧ Serving s.abl.n c 0x0D05 p ∧ c.p 0 1 = 4) ∧
    (∃ (s : State) (c : Cmd) (p : PostedX), c.code = 0x0D05 ∧ c.p 1 1 = 255 ∧ s.abl.lcBusy = false ∧ s.abl.hist.pwrFail = false ∧ Serving s.abl.n c 0x0D05 p ∧ c.p 0 1 = 5) ∧
    ((sKey.abl.signedBy 0 7 xKey (cKey.params.take 52) (some 0) = true) → ∃ (s : State) (c : Cmd) (p : PostedX) (k : Nat) (x : Cose) (a : Abl), Serving s.abl.n c 0x0D05 p ∧ c.code = 0x0D05 ∧ c.p 1 1 = 255 ∧ c.p 0 1 = 4 ∧ leAt c.params 2 1 < 3 ∧ leAt c.params 3 1 < 4 ∧ k = 4 * leAt c.params 2 1 + leAt c.params 3 1 ∧ 52 ≤ c.params.length ∧ s.abl.keySlot k = [] ∧ coseRead (c.params.drop 52) = some x ∧ s.abl.signedBy (leAt c.params 2 1) 7 x (c.params.take 52) (some k) = true ∧ a = { s.abl with guard := { s.abl.guard with keys := bindKey s.abl.guard.keys k ((c.params.drop 4).take 48) } }) ∧
    (∃ (s : State) (c : Cmd) (p : PostedX) (x : FwX), c.code = 0x0E01 ∧ s.abl.guard.update = some x ∧ Serving s.abl.n c 0x0E01 p ∧ c.p 0 1 < 3) ∧
    (∃ (s : State) (c : Cmd) (p : PostedX) (x : FwX), c.code = 0x0E01 ∧ s.abl.guard.update = some x ∧ Serving s.abl.n c 0x0E01 p ∧ 128 ≤ c.p 0 1 ∧ c.p 0 1 < 131) ∧
    (∃ (s : State) (c : Cmd) (p : PostedX) (host : Option (List Nat)) (img : List Nat) (st : Option StageX) (n : Node) (h : Nat) (o : OpX) (x : FwX), Serving s.abl.n c 0x0E01 p ∧ c.code = 0x0E01 ∧ c.p 0 1 < 3 ∧ s.abl.guard.update = none ∧ s.abl.refBytes c.path ((c.params.drop 8).take 24) host (stagedBytes s) = .ok (img, st) ∧ s.abl.n.opStart 8 c.path c.jobtag = (some h, n) ∧ n.op h = some o ∧ x = { handle := h, comp := c.p 0 1, dies := leAt c.params 2 2, image := img, stage := st.map fun y => y.id }) ∧
    (∃ (s : State) (c : Cmd) (p : PostedX) (n : Node) (h : Nat) (k : Nat) (a : Abl) (b : Abl) (ok : Bool), Serving s.abl.n c 0x0E01 p ∧ c.code = 0x0E01 ∧ c.p 0 1 = 128 + k ∧ k < 3 ∧ s.abl.guard.update = none ∧ s.abl.n.opStart 8 c.path c.jobtag = (some h, n) ∧ a = { s.abl with n := n } ∧ a.fwCommit k = (b, ok)) :=
  ⟨⟨sma (ca 0x0D05 ([1, 255, 0, 0])), (ca 0x0D05 ([1, 255, 0, 0])), pc (ca 0x0D05 ([1, 255, 0, 0])), by decide +kernel, by decide +kernel, by decide +kernel, by decide +kernel, ⟨by decide +kernel, by decide +kernel⟩, by decide +kernel⟩,
   fun h => ⟨sma (ca 0x0D05 ([2, 255, 0, 0])) ([(Reg.ABL_LC_STATE, 0, 0x11)]), (ca 0x0D05 ([2, 255, 0, 0])), pc (ca 0x0D05 ([2, 255, 0, 0])), by decide +kernel, by decide +kernel, by decide +kernel, by decide +kernel, ⟨by decide +kernel, by decide +kernel⟩, by decide +kernel, by decide +kernel, h⟩,
   ⟨sma (ca 0x0D05 ([3, 255, 0, 0])), (ca 0x0D05 ([3, 255, 0, 0])), pc (ca 0x0D05 ([3, 255, 0, 0])), by decide +kernel, by decide +kernel, by decide +kernel, by decide +kernel, ⟨by decide +kernel, by decide +kernel⟩, by decide +kernel⟩,
   ⟨sma (ca 0x0D05 ([4, 255, 0, 0])), (ca 0x0D05 ([4, 255, 0, 0])), pc (ca 0x0D05 ([4, 255, 0, 0])), by decide +kernel, by decide +kernel, by decide +kernel, by decide +kernel, ⟨by decide +kernel, by decide +kernel⟩, by decide +kernel⟩,
   ⟨sma (ca 0x0D05 ([5, 255, 0, 0])), (ca 0x0D05 ([5, 255, 0, 0])), pc (ca 0x0D05 ([5, 255, 0, 0])), by decide +kernel, by decide +kernel, by decide +kernel, by decide +kernel, ⟨by decide +kernel, by decide +kernel⟩, by decide +kernel⟩,
   fun h => ⟨sKey, cKey, pc cKey, 0, xKey, _, ⟨by decide +kernel, by decide +kernel⟩, by decide +kernel, by decide +kernel, by decide +kernel, by decide +kernel, (by decide +kernel), by decide +kernel, by decide +kernel, by decide +kernel, by decide +kernel, h, rfl⟩,
   ⟨sma (ca 0x0E01 ([2] ++ zeros 31)) ([]) (fun a => { a with guard := { a.guard with update := some { handle := 0, comp := 0, dies := 0, image := [] } } }), (ca 0x0E01 ([2] ++ zeros 31)), pc (ca 0x0E01 ([2] ++ zeros 31)), { handle := 0, comp := 0, dies := 0, image := [] }, by decide +kernel, by decide +kernel, ⟨by decide +kernel, by decide +kernel⟩, by decide +kernel⟩,
   ⟨sma (ca 0x0E01 ([130] ++ zeros 31)) ([]) (fun a => { a with guard := { a.guard with update := some { handle := 0, comp := 0, dies := 0, image := [] } } }), (ca 0x0E01 ([130] ++ zeros 31)), pc (ca 0x0E01 ([130] ++ zeros 31)), { handle := 0, comp := 0, dies := 0, image := [] }, by decide +kernel, by decide +kernel, ⟨by decide +kernel, by decide +kernel⟩, by decide +kernel⟩,
   ⟨sFw, cFw, pc cFw, none, [0], some { id := 1, addr := 0, len := 1, touched := 0 }, os sFw.abl.n 8, 0, oo sFw.abl.n 8, _, ⟨by decide +kernel, by decide +kernel⟩, by decide +kernel, by decide +kernel, by decide +kernel, by decide +kernel, (by decide +kernel), by decide +kernel, rfl⟩,
   ⟨sma (ca 0x0E01 ([130] ++ zeros 31)), (ca 0x0E01 ([130] ++ zeros 31)), pc (ca 0x0E01 ([130] ++ zeros 31)), _, _, 2, _, _, _, ⟨by decide +kernel, by decide +kernel⟩, by decide +kernel, by decide +kernel, by decide +kernel, by decide +kernel, rfl, rfl, rfl⟩⟩

theorem test_hyps_DieCatalogueComplete_0 :
    (∃ (s : State) (c : Cmd) (p : PostedX), Serving s.ddu.n c 0x1001 p) ∧
    (∃ (s : State) (c : Cmd) (p : PostedX), Serving s.ddu.n c 0x1002 p ∧ c.p 0 2 = 1 ∧ 32 ≤ c.params.length) ∧
    (∃ (s : State) (c : Cmd) (p : PostedX), Serving s.ddu.n c 0x1002 p ∧ c.p 0 2 = 0) ∧
    (∃ (s : State) (c : Cmd) (p : PostedX), Serving s.ddu.n c 0x1003 p) ∧
    (∃ (s : State) (c : Cmd) (p : PostedX), Serving s.ddu.n c 0x1004 p ∧ s.ddu.slackMay = true) ∧
    (∃ (s : State) (c : Cmd) (p : PostedX), Serving s.ddu.n c 0x1004 p ∧ s.ddu.slackMay = false) ∧
    (∃ (s : State) (c : Cmd) (p : PostedX), Serving s.ddu.n c 0x1005 p) ∧
    (∃ (s : State) (c : Cmd) (p : PostedX), Serving s.ddu.n c 0x1006 p ∧ bit (c.p 0 1) 0 = true ∧ c.p 4 4 = s.ddu.jobTag ∧ s.ddu.jobTag ≠ 0) ∧
    (∃ (s : State) (c : Cmd) (p : PostedX), Serving s.ddu.n c 0x1006 p ∧ bit (c.p 0 1) 0 = true ∧ c.p 4 4 ≠ s.ddu.jobTag) ∧
    (∃ (s : State) (c : Cmd) (p : PostedX), Serving s.ddu.n c 0x1006 p ∧ bit (c.p 0 1) 0 = false) :=
  ⟨⟨smd (cd 0x1001 (zeros 32)), (cd 0x1001 (zeros 32)), pc (cd 0x1001 (zeros 32)), ⟨by decide +kernel, by decide +kernel⟩⟩,
   ⟨smd (cd 0x1002 (le 2 1 ++ zeros 30)), (cd 0x1002 (le 2 1 ++ zeros 30)), pc (cd 0x1002 (le 2 1 ++ zeros 30)), ⟨by decide +kernel, by decide +kernel⟩, by decide +kernel⟩,
   ⟨smd (cd 0x1002 (zeros 2)), (cd 0x1002 (zeros 2)), pc (cd 0x1002 (zeros 2)), ⟨by decide +kernel, by decide +kernel⟩, by decide +kernel⟩,
   ⟨smd (cd 0x1003 (zeros 10)), (cd 0x1003 (zeros 10)), pc (cd 0x1003 (zeros 10)), ⟨by decide +kernel, by decide +kernel⟩⟩,
   ⟨smd (cd 0x1004 (zeros 0)), (cd 0x1004 (zeros 0)), pc (cd 0x1004 (zeros 0)), ⟨by decide +kernel, by decide +kernel⟩, by decide +kernel⟩,
   ⟨smd (cd 0x1004 (zeros 0)) ([]) (fun d => { d with bnd := { d.bnd with hostActive := true } }), (cd 0x1004 (zeros 0)), pc (cd 0x1004 (zeros 0)), ⟨by decide +kernel, by decide +kernel⟩, by decide +kernel⟩,
   ⟨smd (cd 0x1005 (zeros 64)), (cd 0x1005 (zeros 64)), pc (cd 0x1005 (zeros 64)), ⟨by decide +kernel, by decide +kernel⟩⟩,
   ⟨smd (cd 0x1006 ([1, 0, 0, 0] ++ le 4 65537)) ([(Reg.DDU_JOB_TAG, 0, 65537)]), (cd 0x1006 ([1, 0, 0, 0] ++ le 4 65537)), pc (cd 0x1006 ([1, 0, 0, 0] ++ le 4 65537)), ⟨by decide +kernel, by decide +kernel⟩, by decide +kernel⟩,
   ⟨smd (cd 0x1006 ([1, 0, 0, 0] ++ le 4 65537)), (cd 0x1006 ([1, 0, 0, 0] ++ le 4 65537)), pc (cd 0x1006 ([1, 0, 0, 0] ++ le 4 65537)), ⟨by decide +kernel, by decide +kernel⟩, by decide +kernel⟩,
   ⟨smd (cd 0x1006 (zeros 8)), (cd 0x1006 (zeros 8)), pc (cd 0x1006 (zeros 8)), ⟨by decide +kernel, by decide +kernel⟩, by decide +kernel⟩⟩

theorem test_hyps_DieCatalogueComplete_1 :
    (∃ (s : State) (c : Cmd) (p : PostedX), Serving s.ddu.n c 0x1007 p) ∧
    (∃ (s : State) (c : Cmd) (p : PostedX), Serving s.ddu.n c 0x1008 p ∧ 1 ≤ c.p 0 2 ∧ c.p 0 2 ≤ 240 ∧ 8 + 8 * c.p 0 2 ≤ c.params.length) ∧
    (∃ (s : State) (c : Cmd) (p : PostedX), c.code = 0x1009 ∧ c.p 2 2 < 508 ∧ Serving s.ddu.n c 0x1009 p ∧ c.p 0 1 = 1) ∧
    (∃ (s : State) (c : Cmd) (p : PostedX), c.code = 0x1009 ∧ c.p 2 2 < 508 ∧ Serving s.ddu.n c 0x1009 p ∧ c.p 0 1 = 2) ∧
    (∃ (s : State) (c : Cmd) (p : PostedX), c.code = 0x1009 ∧ c.p 2 2 < 508 ∧ Serving s.ddu.n c 0x1009 p ∧ c.p 0 1 = 3) ∧
    (∃ (s : State) (c : Cmd) (p : PostedX), c.code = 0x1009 ∧ c.p 2 2 < 508 ∧ Serving s.ddu.n c 0x1009 p ∧ c.p 0 1 = 4 ∧ s.ddu.n.arrBit Reg.DDU_FLT_ISO (c.p 2 2) = false) ∧
    (∃ (s : State) (c : Cmd) (p : PostedX), c.code = 0x100A ∧ Serving s.ddu.n c 0x100A p ∧ 1 ≤ c.p 8 2 ∧ c.p 8 2 ≤ 1968 ∧ c.p 4 4 + c.p 8 2 ≤ (s.ddu.ledSection (c.p 2 2)).length ∧ c.p 2 2 ≤ 5 ∧ c.p 0 1 = 1) ∧
    (∃ (s : State) (c : Cmd) (p : PostedX), c.code = 0x100A ∧ Serving s.ddu.n c 0x100A p ∧ 1 ≤ c.p 8 2 ∧ c.p 8 2 ≤ 1968 ∧ c.p 4 4 + c.p 8 2 ≤ (s.ddu.ledSection (c.p 2 2)).length ∧ c.p 2 2 ≤ 5 ∧ c.p 0 1 = 2 ∧ c.p 2 2 ≠ 0 ∧ 16 + c.p 8 2 ≤ c.params.length ∧ s.ddu.dlWrites = true) ∧
    (∃ (s : State) (c : Cmd) (p : PostedX), c.code = 0x100B ∧ Serving s.ddu.n c 0x100B p ∧ c.p 0 1 = 1) ∧
    (∃ (s : State) (c : Cmd) (p : PostedX), c.code = 0x100B ∧ Serving s.ddu.n c 0x100B p ∧ c.p 0 1 = 2 ∧ s.ddu.trc.exp = none) :=
  ⟨⟨smd (cd 0x1007 (zeros 38)), (cd 0x1007 (zeros 38)), pc (cd 0x1007 (zeros 38)), ⟨by decide +kernel, by decide +kernel⟩⟩,
   ⟨smd (cd 0x1008 (le 2 1 ++ zeros 14)), (cd 0x1008 (le 2 1 ++ zeros 14)), pc (cd 0x1008 (le 2 1 ++ zeros 14)), ⟨by decide +kernel, by decide +kernel⟩, by decide +kernel⟩,
   ⟨smd (cd 0x1009 ([1, 0] ++ le 2 507 ++ zeros 7)), (cd 0x1009 ([1, 0] ++ le 2 507 ++ zeros 7)), pc (cd 0x1009 ([1, 0] ++ le 2 507 ++ zeros 7)), by decide +kernel, by decide +kernel, ⟨by decide +kernel, by decide +kernel⟩, by decide +kernel⟩,
   ⟨smd (cd 0x1009 ([2, 0] ++ le 2 507 ++ zeros 7)), (cd 0x1009 ([2, 0] ++ le 2 507 ++ zeros 7)), pc (cd 0x1009 ([2, 0] ++ le 2 507 ++ zeros 7)), by decide +kernel, by decide +kernel, ⟨by decide +kernel, by decide +kernel⟩, by decide +kernel⟩,
   ⟨smd (cd 0x1009 ([3, 0] ++ le 2 507 ++ zeros 7)), (cd 0x1009 ([3, 0] ++ le 2 507 ++ zeros 7)), pc (cd 0x1009 ([3, 0] ++ le 2 507 ++ zeros 7)), by decide +kernel, by decide +kernel, ⟨by decide +kernel, by decide +kernel⟩, by decide +kernel⟩,
   ⟨smd (cd 0x1009 ([4, 0] ++ le 2 507 ++ zeros 7)), (cd 0x1009 ([4, 0] ++ le 2 507 ++ zeros 7)), pc (cd 0x1009 ([4, 0] ++ le 2 507 ++ zeros 7)), by decide +kernel, by decide +kernel, ⟨by decide +kernel, by decide +kernel⟩, by decide +kernel⟩,
   ⟨smd (cd 0x100A ([1, 0] ++ le 2 1 ++ zeros 4 ++ le 2 1)), (cd 0x100A ([1, 0] ++ le 2 1 ++ zeros 4 ++ le 2 1)), pc (cd 0x100A ([1, 0] ++ le 2 1 ++ zeros 4 ++ le 2 1)), by decide +kernel, ⟨by decide +kernel, by decide +kernel⟩, by decide +kernel⟩,
   ⟨smd (cd 0x100A ([2, 0] ++ le 2 1 ++ zeros 4 ++ le 2 1 ++ zeros 6 ++ [7])), (cd 0x100A ([2, 0] ++ le 2 1 ++ zeros 4 ++ le 2 1 ++ zeros 6 ++ [7])), pc (cd 0x100A ([2, 0] ++ le 2 1 ++ zeros 4 ++ le 2 1 ++ zeros 6 ++ [7])), by decide +kernel, ⟨by decide +kernel, by decide +kernel⟩, by decide +kernel⟩,
   ⟨smd (cd 0x100B ([1] ++ zeros 15)), (cd 0x100B ([1] ++ zeros 15)), pc (cd 0x100B ([1] ++ zeros 15)), by decide +kernel, ⟨by decide +kernel, by decide +kernel⟩, by decide +kernel⟩,
   ⟨smd (cd 0x100B ([2] ++ zeros 15)), (cd 0x100B ([2] ++ zeros 15)), pc (cd 0x100B ([2] ++ zeros 15)), by decide +kernel, ⟨by decide +kernel, by decide +kernel⟩, by decide +kernel⟩⟩

theorem test_hyps_DieCatalogueComplete_2 :
    (∃ (s : State) (c : Cmd) (p : PostedX) (x : _), c.code = 0x100B ∧ Serving s.ddu.n c 0x100B p ∧ c.p 0 1 = 3 ∧ s.ddu.trc.exp = some x) ∧
    (∃ (s : State) (c : Cmd) (p : PostedX) (x : _), c.code = 0x100B ∧ Serving s.ddu.n c 0x100B p ∧ c.p 0 1 = 4 ∧ s.ddu.trc.exp = some x) ∧
    (∃ (s : State) (c : Cmd) (p : PostedX) (x : _), c.code = 0x100B ∧ Serving s.ddu.n c 0x100B p ∧ c.p 0 1 = 5 ∧ s.ddu.trc.exp = some x) ∧
    (∃ (s : State) (c : Cmd) (p : PostedX), c.code = 0x100B ∧ Serving s.ddu.n c 0x100B p ∧ c.p 0 1 = 5 ∧ s.ddu.trc.exp = none) ∧
    (∃ (s : State) (c : Cmd) (p : PostedX), Serving s.ddu.n c 0x100C p) ∧
    (∃ (s : State) (c : Cmd) (p : PostedX), Serving s.ddu.n c 0x100D p ∧ c.p 4 1 = 0xFF) ∧
    (∃ (s : State) (c : Cmd) (p : PostedX), Serving s.ddu.n c 0x100D p ∧ c.p 4 1 ≠ 0xFF) ∧
    (∃ (s : State) (c : Cmd) (p : PostedX), Serving s.ddu.n c 0x1201 p) :=
  ⟨⟨smd (cd 0x100B ([3] ++ zeros 15)) ([]) (fun d => { d with trc := { d.trc with exp := some { handle := 1, left := [] } } }), (cd 0x100B ([3] ++ zeros 15)), pc (cd 0x100B ([3] ++ zeros 15)), { handle := 1, left := [] }, by decide +kernel, ⟨by decide +kernel, by decide +kernel⟩, by decide +kernel⟩,
   ⟨smd (cd 0x100B ([4] ++ zeros 15)) ([]) (fun d => { d with trc := { d.trc with exp := some { handle := 1, left := [] } } }), (cd 0x100B ([4] ++ zeros 15)), pc (cd 0x100B ([4] ++ zeros 15)), { handle := 1, left := [] }, by decide +kernel, ⟨by decide +kernel, by decide +kernel⟩, by decide +kernel⟩,
   ⟨smd (cd 0x100B ([5] ++ zeros 15)) ([]) (fun d => { d with trc := { d.trc with exp := some { handle := 1, left := [] } } }), (cd 0x100B ([5] ++ zeros 15)), pc (cd 0x100B ([5] ++ zeros 15)), { handle := 1, left := [] }, by decide +kernel, ⟨by decide +kernel, by decide +kernel⟩, by decide +kernel⟩,
   ⟨smd (cd 0x100B ([5] ++ zeros 15)), (cd 0x100B ([5] ++ zeros 15)), pc (cd 0x100B ([5] ++ zeros 15)), by decide +kernel, ⟨by decide +kernel, by decide +kernel⟩, by decide +kernel⟩,
   ⟨smd (cd 0x100C (zeros 11)), (cd 0x100C (zeros 11)), pc (cd 0x100C (zeros 11)), ⟨by decide +kernel, by decide +kernel⟩⟩,
   ⟨smd (cd 0x100D (zeros 4 ++ [255])), (cd 0x100D (zeros 4 ++ [255])), pc (cd 0x100D (zeros 4 ++ [255])), ⟨by decide +kernel, by decide +kernel⟩, by decide +kernel⟩,
   ⟨smd (cd 0x100D (zeros 5)), (cd 0x100D (zeros 5)), pc (cd 0x100D (zeros 5)), ⟨by decide +kernel, by decide +kernel⟩, by decide +kernel⟩,
   ⟨smd (cd 0x1201 (zeros 4)), (cd 0x1201 (zeros 4)), pc (cd 0x1201 (zeros 4)), ⟨by decide +kernel, by decide +kernel⟩⟩⟩

theorem test_hyps_HostAccessCommandsComplete :
    (∃ (s : State) (who : Requester) (off : Nat) (size : Nat), s.ddu.answers who = true ∧ dduMay who true off size = true ∧ accessOk off size = true ∧ ¬ (655360 ≤ off ∧ off < 671744) ∧ fastBlock off = false) ∧
    (∃ (s : State) (who : Requester) (off : Nat) (size : Nat), s.ddu.answers who = true ∧ dduMay who true off size = true ∧ accessOk off size = true ∧ ¬ (655360 ≤ off ∧ off < 671744) ∧ fastBlock off = true ∧ s.ddu.fastAccess.fastUp = true) ∧
    (∃ (s : State) (who : Requester), s.ddu.answers who = false) ∧
    (∃ (s : State) (who : Requester) (off : Nat) (size : Nat), s.ddu.answers who = true ∧ dduMay who true off size = false) ∧
    (∃ (s : State) (who : Requester) (off : Nat) (size : Nat), s.ddu.answers who = true ∧ dduMay who false off size = false) ∧
    (∃ (s : State) (who : Requester) (off : Nat) (size : Nat), s.ddu.answers who = true ∧ dduMay who false off size = true ∧ accessOk off size = true ∧ ¬ (294912 ≤ off ∧ off < 327680) ∧ fastBlock off = false ∧ areaRead s.ddu.areaByte off size = none ∧ who ≠ .hostPrivileged) ∧
    (∃ (s : State) (x : Nat) (len : Nat), s.abl.apOk x len true = true ∧ s.abl.apAddr x < hbmBase) ∧
    (∃ (s : State) (x : Nat) (len : Nat), s.abl.apOk x len false = true ∧ s.abl.apAddr x < hbmBase) ∧
    (∃ (s : State) (x : Nat) (len : Nat), s.abl.decodes = true ∧ s.abl.apOk x len true = false) ∧
    (∃ (s : State) (x : Nat) (len : Nat), s.abl.decodes = true ∧ s.abl.apOk x len false = false) :=
  ⟨⟨sd [], .firmware, 671744, 8, by decide +kernel⟩,
   ⟨sd [], .firmware, 0x10000, 4, by decide +kernel⟩,
   ⟨{ sd [] with ddu := { (sd []).ddu with bnd := { (sd []).ddu.bnd with resetN := true } } }, .firmware, by decide +kernel⟩,
   ⟨sd [], .bar0, 0, 4, by decide +kernel⟩,
   ⟨sd [], .bar0, 0, 4, by decide +kernel⟩,
   ⟨sd [], .firmware, 16, 4, by decide +kernel⟩,
   ⟨sa [(Reg.ABL_HOST_AP_BASE, 0, 1), (Reg.ABL_HOST_GRANT, 0, 2 ^ 127 + 2 ^ 126)], 0, 4, by decide +kernel⟩,
   ⟨sa [(Reg.ABL_HOST_AP_BASE, 0, 1), (Reg.ABL_HOST_GRANT, 0, 2 ^ 127)], 0, 4, by decide +kernel⟩,
   ⟨sa [], 0, 1, by decide +kernel⟩,
   ⟨sa [], 0, 1, by decide +kernel⟩⟩

theorem test_hyps_BootAndPinCommandsComplete_0 :
    (((sBt 0 0).abl.bootSlot 0 0 = some 0) → ∃ (s : State) (k : Nat) (bad : Nat), s.abl.pins.inReset = false ∧ s.abl.pins.lost = false ∧ s.abl.n.fld Reg.ABL_STATUS 0 16 4 = 0 ∧ s.abl.bootSlot 0 bad = some k) ∧
    (((sBt 1 1).abl.bootSlot 1 0 = some 0) → ∃ (s : State) (k : Nat) (bad : Nat), s.abl.pins.inReset = false ∧ s.abl.pins.lost = false ∧ s.abl.n.fld Reg.ABL_STATUS 0 16 4 = 1 ∧ s.abl.bootSlot 1 bad = some k) ∧
    (∃ (s : State) (comp : Nat) (bad : Nat), s.abl.pins.inReset = false ∧ s.abl.pins.lost = false ∧ comp < 2 ∧ s.abl.n.fld Reg.ABL_STATUS 0 16 4 = comp ∧ s.abl.bootSlot comp bad = none) ∧
    (((sBt 1 1).abl.imgFail 1 (fw0 1) = none) → ∃ (s : State) (comp : Nat) (img : List Nat), s.abl.guard.recover = some comp ∧ img = (Cells.read s.mem 0 (min 67108864 (272 + leAt (Cells.read s.mem 0 272) 16 4))).take (272 + leAt (Cells.read s.mem 0 (min 67108864 (272 + leAt (Cells.read s.mem 0 272) 16 4))) 16 4) ∧ s.abl.imgFail comp img = none) ∧
    (∃ (s : State), s.abl.guard.recover = none) ∧
    (∃ (s : State), s.abl.guard.update = none) ∧
    (∃ (s : State) (port : Nat) (x : FwX) (o : OpX), s.abl.guard.update = some x ∧ s.abl.n.op x.handle = some o ∧ o.state = 0 ∧ o.kstate = 2 ∧ bit x.dies port = true ∧ x.booted.contains port = false ∧ (List.range 16).all (fun p => !(bit x.dies p && s.abl.n.childValid p) || (port :: x.booted).contains p) = true) ∧
    (∃ (s : State) (b : List Byte) (t : Nat), s.abl.guard.challenge = some (b, t)) ∧
    (∃ (s : State) (t : Nat), s.abl.guard.activated = some t ∧ s.abl.n.fld Reg.ABL_STATUS 0 16 4 < 2 ∧ t + 10000000000 ≤ s.abl.n.local) ∧
    (((sBt 1 2).abl.imgFail 1 (fw0 1) = none) → ∃ (s : State) (x : FwX) (o : OpX), s.abl.guard.update = some x ∧ s.abl.n.op x.handle = some o ∧ o.state = 0 ∧ o.kstate = 0 ∧ s.abl.imgFail x.comp x.image = none) :=
  ⟨fun h => ⟨sBt 0 0, 0, 0, by decide +kernel, by decide +kernel, by decide +kernel, h⟩,
   fun h => ⟨sBt 1 1, 0, 0, by decide +kernel, by decide +kernel, by decide +kernel, h⟩,
   ⟨sa [(Reg.ABL_STATUS, 0, 0x01010000)] fun a => { a with pins := { a.pins with inReset := false } }, 1, 15, by decide +kernel⟩,
   fun h => ⟨{ sBt 1 1 with mem := Cells.write [] 0 (fw0 1) }, 1, fw0 1, by decide +kernel, by decide +kernel, h⟩,
   ⟨sa [], by decide +kernel⟩,
   ⟨sa [], by decide +kernel⟩,
   ⟨sa [] fun a => { a with n := { a.n with mb := { a.n.mb with ops := [op0 2] } }, guard := { a.guard with update := some { handle := 0, comp := 2, dies := 32768, image := [] } } }, 15, { handle := 0, comp := 2, dies := 32768, image := [] }, op0 2, by decide +kernel⟩,
   ⟨sa [] fun a => { a with guard := { a.guard with challenge := some ([], 0) } }, [], 0, by decide +kernel⟩,
   ⟨sa [(Reg.ABL_STATUS, 0, 0x01010000), (Reg.TIME_WRAP .abl, 0, 3)] fun a => { a with guard := { a.guard with activated := some 0 } }, 0, by decide +kernel⟩,
   fun h => ⟨sBt 1 2, fwX 1, op0 0, by decide +kernel, by decide +kernel, by decide +kernel, by decide +kernel, h⟩⟩

theorem test_hyps_BootAndPinCommandsComplete_1 :
    (∃ (s : State) (x : FwX) (o : OpX), s.abl.guard.update = some x ∧ s.abl.n.op x.handle = some o ∧ o.state = 0 ∧ o.kstate = 0 ∧ s.abl.imgFail x.comp x.image = some .bad) ∧
    (∃ (s : State) (x : FwX) (o : OpX), s.abl.guard.update = some x ∧ s.abl.n.op x.handle = some o ∧ o.state = 0 ∧ o.kstate = 0 ∧ s.abl.imgFail x.comp x.image = some .rollback) ∧
    (∃ (s : State) (x : FwX) (o : OpX), s.abl.guard.update = some x ∧ s.abl.n.op x.handle = some o ∧ o.state = 0 ∧ o.kstate = 1) ∧
    (∃ (s : State), s.abl.n.role = 1 ∧ s.abl.n.trayLevel = 0) ∧
    (∃ (s : State), s.abl.pins.aonPgood = false) ∧
    (∃ (s : State), s.abl.pins.aonPgood = true) ∧
    (∃ (s : State), s.abl.pins.mainPgood = false ∧ s.abl.pins.aonPgood = true ∧ s.abl.pins.mainSeen = false) ∧
    (∃ (s : State), s.abl.pins.mainPgood = false ∧ s.abl.pins.aonPgood = true ∧ s.abl.pins.mainSeen = true ∧ s.abl.pins.lost = true ∧ s.abl.pins.mainEn = true) ∧
    (∃ (s : State), s.abl.pins.mainPgood = true ∧ ((s.abl.pins.mainEn = false ∨ s.abl.pins.inReset = true))) ∧
    (∃ (s : State), s.abl.pins.mainPgood = true ∧ s.abl.pins.mainEn = true ∧ s.abl.pins.inReset = false) :=
  ⟨⟨sa [] fun a => { a with n := { a.n with mb := { a.n.mb with ops := [op0 0] } }, guard := { a.guard with update := some { handle := 0, comp := 2, dies := 0, image := [] } } }, { handle := 0, comp := 2, dies := 0, image := [] }, op0 0, by decide +kernel⟩,
   ⟨sBt 2 2, fwX 2, op0 0, by decide +kernel⟩,
   ⟨sa [] fun a => { a with n := { a.n with mb := { a.n.mb with ops := [op0 1] } }, guard := { a.guard with update := some { handle := 0, comp := 2, dies := 0, image := [] } } }, { handle := 0, comp := 2, dies := 0, image := [] }, op0 1, by decide +kernel⟩,
   ⟨sa [], by decide +kernel⟩,
   ⟨sa [] fun a => { a with pins := { a.pins with aonPgood := false } }, by decide +kernel⟩,
   ⟨sa [], by decide +kernel⟩,
   ⟨sa [] fun a => { a with pins := { a.pins with mainPgood := false, mainSeen := false } }, by decide +kernel⟩,
   ⟨sa [] fun a => { a with pins := { a.pins with mainPgood := false, lost := true } }, by decide +kernel⟩,
   ⟨sa [], by decide +kernel⟩,
   ⟨sa [] fun a => { a with pins := { a.pins with inReset := false } }, by decide +kernel⟩⟩

theorem test_hyps_BootAndPinCommandsComplete_2 :
    (∃ (s : State) (t : Nat), s.abl.pins.lostAt = some t ∧ t + 10000000 ≤ s.abl.n.local ∧ s.abl.pins.aonPgood = true ∧ s.abl.pins.thermtrip = false) ∧
    (∃ (ns : Nat), 1000 ≤ ns) ∧
    (∃ (ns : Nat), ns < 100) ∧
    (∃ (s : State), s.abl.pins.inReset = true ∧ s.abl.pins.aonPgood = true ∧ s.abl.pins.mainSeen = true ∧ s.abl.n.fld Reg.ABL_NODE 0 26 2 ≠ 1) ∧
    (∃ (s : State), s.abl.pins.refLost = false ∧ ((s.abl.n.timeState = tsUnaligned ∨ s.abl.n.timeState = tsHoldover))) ∧
    (∃ (s : State), s.abl.pins.refLost = false ∧ s.abl.n.timeState ≠ tsUnaligned ∧ s.abl.n.timeState ≠ tsHoldover) :=
  ⟨⟨sa [(Reg.TIME_NS .abl, 0, 10000000)] fun a => { a with pins := { a.pins with lostAt := some 0 } }, 0, by decide +kernel⟩,
   ⟨1000, by decide +kernel⟩,
   ⟨99, by decide +kernel⟩,
   ⟨sa [], by decide +kernel⟩,
   ⟨sa [], by decide +kernel⟩,
   ⟨sa [(Reg.TIME_STATUS .abl, 0, 0x100)], by decide +kernel⟩⟩

theorem test_hyps_StepRunsFrontCommand : ∃ (s : State), s.pending = [] :=
  ⟨sa [], by decide +kernel⟩

theorem test_hyps_StepKeepsSoundness : ∃ (s : State) (t : State), Sound s ∧ step s = .next t :=
  ⟨State.reset, State.reset, ⟨rfl, rfl, rfl⟩, rfl⟩

theorem test_hyps_CommandsActOnOneDevice :
    (∃ (c : Instr) (s : State) (t : State), home c = .ddu ∧ exec c s = .next t) ∧
    (∃ (c : Instr) (s : State) (t : State), home c = .abl ∧ exec c s = .next t) :=
  ⟨⟨.capStale, sd [], _, by decide +kernel, rfl⟩,
   ⟨.parentLost, sa [], _, by decide +kernel, rfl⟩⟩

theorem test_hyps_QuietDevicesOweNothing :
    (∃ (d : Ddu), QuietDdu d) ∧
    (∃ (s : State) (a : Abl), QuietAbl a ∧ a.out = [] ∧ a.wipe = false ∧ a.n.pwrState = s.abl.n.pwrState ∧ (a.n.srcSel ≠ 3 ∨ (∀ k, a.n.mgmtDown k = s.abl.n.mgmtDown k))) :=
  ⟨⟨{ n := dn [] }, by decide +kernel⟩,
   ⟨sa [], { n := an [] }, by decide +kernel, by decide +kernel, by decide +kernel, by decide +kernel, Or.inl (by decide +kernel)⟩⟩

theorem test_hyps_ApertureReadsBack :
    (∃ (s : State) (x : Nat) (len : Nat), s.mem.wf = true ∧ s.abl.apOk x len true = true) ∧
    (∃ (s : State) (x : Nat) (len : Nat), s.mem.wf = true ∧ s.abl.apOk x len false = true) :=
  ⟨⟨sa [(Reg.ABL_HOST_AP_BASE, 0, 1), (Reg.ABL_HOST_GRANT, 0, 2 ^ 127 + 2 ^ 126)], 0, 4, by decide +kernel⟩,
   ⟨sa [(Reg.ABL_HOST_AP_BASE, 0, 1), (Reg.ABL_HOST_GRANT, 0, 2 ^ 127)], 0, 4, by decide +kernel⟩⟩

theorem test_hyps_ResetValues : ∃ (d : _), d < 16 :=
  ⟨15, by decide +kernel⟩

theorem test_hyps_RecordsAreWhole : ∃ (r : Record), r.payload.length ≤ 4080 :=
  ⟨rec0 [1], by decide +kernel⟩

theorem test_hyps_RecordBytesReadBack : ∃ (r : Record), r.typ < 256 ∧ r.code < 65536 ∧ r.src < 65536 ∧ r.time < 4294967296 ∧ r.seq < 65536 ∧ r.flags < 65536 ∧ r.payload.length ≤ 4080 :=
  ⟨{ rec0 [1, 2] with typ := 255, seq := 65535 }, by decide +kernel⟩

theorem test_hyps_FanoutBytesReadBack : ∃ (m : FanMsg), m.jobtag < 4294967296 ∧ m.seq < 4294967296 ∧ m.kind < 65536 ∧ m.deadline < 4294967296 ∧ m.ranges.length ≤ 32 ∧ m.body.length ≤ 1024 ∧ ((∀ r ∈ m.ranges, r.1 < 4294967296 ∧ r.2 < 4294967296)) :=
  ⟨{ fan0 5 with ranges := [(0, 4294967295)], body := [7] }, by decide +kernel⟩

theorem test_hyps_IncrementStaysInRange :
    (∃ (s : State) (dev : Dev) (who : Requester) (v : Nat), Awake s dev ∧ MayWrite s who dev ∧ v < 1099511627776 ∧ ((v * 100 < 1998 * 4294967296 ∨ 2002 * 4294967296 < v * 100))) ∧
    (∃ (s : State) (dev : Dev) (who : Requester) (v : Nat), Awake s dev ∧ MayWrite s who dev ∧ v < 1099511627776 ∧ 1998 * 4294967296 ≤ v * 100 ∧ v * 100 ≤ 2002 * 4294967296) :=
  ⟨⟨sd [], .ddu, .firmware, 0, by trivial, by first | exact rfl | exact ⟨by decide, by decide +kernel⟩, by decide +kernel⟩,
   ⟨sd [], .ddu, .firmware, 1998 * 2 ^ 32 / 100 + 1, by trivial, by first | exact rfl | exact ⟨by decide, by decide +kernel⟩, by decide +kernel⟩⟩

theorem test_hyps_NoSubresetWhenDecommissioned : ∃ (s : State) (who : Requester), who ≠ .unprivileged ∧ s.ddu.answers who = true ∧ s.ddu.n.fld Reg.DDU_STATUS 0 8 3 = 4 :=
  ⟨sd [(Reg.DDU_STATUS, 0, 0x40C)], .firmware, by decide +kernel⟩

theorem test_hyps_CommandsStartByClassAndOrder : ∃ (n : Node) (c : Cmd) (code : Nat) (p : PostedX), n.pick c code = some p :=
  ⟨(sma (ca 0x0008)).abl.n, ca 0x0008, 8, pc (ca 0x0008), by decide +kernel⟩

theorem test_hyps_PowerOnResetClears : ∃ (s : State), s.abl.pins.aonPgood = true :=
  ⟨sa [], by decide +kernel⟩

theorem test_hyps_RecordsAreWhole_padding : ∃ (r : Record) (b : Nat), b ∈ r.bytes.drop (16 + r.payload.length) ∧ r.payload.length ≤ 4080 :=
  ⟨rec0 [1], 0, by decide +kernel, by decide +kernel⟩

theorem test_hyps_CommandsStartByClassAndOrder_queue : ∃ (n : Node) (c : Cmd) (code : Nat) (p q : PostedX), q ∈ n.mb.posted ∧ n.pick c code = some p ∧
    n.ready q = true ∧ cmdCls n.dev q.cmd = cmdCls n.dev p.cmd :=
  ⟨(sma (ca 0x0008)).abl.n, ca 0x0008, 8, pc (ca 0x0008), pc (ca 0x0008), List.mem_singleton.2 rfl, by decide +kernel, by decide +kernel, rfl⟩

/-- The premises of RegisterCommandFrames on the DDU, without the command. -/
def frameD (s : State) : Prop := QuietDdu s.ddu ∧ s.ddu.live = true ∧ s.ddu.pwr ≠ 0

/-- An access that reaches a running fast domain. -/
def mayUp (s : State) (who : Requester) : Prop := who ≠ .unprivileged ∧ s.ddu.answers who = true ∧ s.ddu.n.bit Reg.DDU_STATUS 0 2 = true ∧
  s.ddu.n.bit Reg.DDU_STATUS 0 1 = false

theorem test_hyps_RegisterCommandFrames_ddu :
    (∃ (s : State) (who : Requester), frameD s ∧ mayUp s who ∧ s.ddu.n.bit Reg.DDU_CNT_FREEZE 0 0 = false) ∧
    (∃ (s : State) (who : Requester) (v : Nat), frameD s ∧ mayUp s who ∧ s.ddu.rd Reg.DDU_TRC_SPILL_RD ≤ v ∧ v ≤ s.ddu.rd Reg.DDU_TRC_SPILL_WR ∧
      v % 4096 = 0) ∧
    (∃ s : State, frameD s ∧ s.ddu.pw.capAt + 100000000 ≤ s.ddu.n.local) ∧
    (∃ s : State, frameD s ∧ s.ddu.n.bit Reg.DDU_STATUS 0 2 = false ∧ s.ddu.n.bit Reg.DDU_STATUS 0 1 = false ∧ s.ddu.bnd.corePgood = true) :=
  have d (s : State) (h : QuietDdu s.ddu ∧ s.ddu.live = true ∧ s.ddu.pwr ≠ 0) : frameD s := h
  have u (s : State) (h : Requester.firmware ≠ .unprivileged ∧ s.ddu.answers .firmware = true ∧ s.ddu.n.bit Reg.DDU_STATUS 0 2 = true ∧
      s.ddu.n.bit Reg.DDU_STATUS 0 1 = false) : mayUp s .firmware := h
  ⟨⟨sd [(Reg.DDU_PWR_STATE, 0, 1)], .firmware, d _ (by decide +kernel), u _ (by decide +kernel), by decide +kernel⟩,
   ⟨sd [(Reg.DDU_PWR_STATE, 0, 1)], .firmware, 0, d _ (by decide +kernel), u _ (by decide +kernel), by decide +kernel⟩,
   ⟨sd [(Reg.DDU_PWR_STATE, 0, 1), (Reg.TIME_NS .ddu, 0, 100000000)], d _ (by decide +kernel), by decide +kernel⟩,
   ⟨sd [(Reg.DDU_PWR_STATE, 0, 1), (Reg.DDU_STATUS, 0, 0x108)], d _ (by decide +kernel), by decide +kernel⟩⟩

/-- The premises of RegisterCommandFrames on the sentinel, without the command. -/
def frameA (s : State) : Prop := QuietAbl s.abl ∧ s.abl.out = [] ∧ s.abl.wipe = false ∧ s.abl.n.dev = .abl

theorem test_hyps_RegisterCommandFrames_abl :
    (∃ s : State, frameA s ∧ 32 ≤ s.abl.n.timex.launch.length) ∧
    (∃ (s : State) (v : Nat), frameA s ∧ 0 < v ∧ v < 9223372036854775808) ∧
    (∃ (s : State) (v : Nat), frameA s ∧ v ≠ 0x4B49) ∧
    (∃ (s : State) (p v : Nat), frameA s ∧ s.abl.n.rd Reg.ABL_MB_EVT_WR p < v) :=
  have q (f : Abl → Abl) (h : QuietAbl (sa [] f).abl ∧ (sa [] f).abl.out = [] ∧ (sa [] f).abl.wipe = false ∧ (sa [] f).abl.n.dev = .abl) : frameA (sa [] f) := h
  ⟨⟨sa [] fun a => { a with n := { a.n with timex := { a.n.timex with launch := List.replicate 32 ⟨0, 1, 0, false⟩ } } },
      q _ (by unfold QuietAbl; decide +kernel), by decide +kernel⟩,
   ⟨sa [], 1, q _ (by unfold QuietAbl; decide +kernel), by decide, by decide⟩,
   ⟨sa [], 0, q _ (by unfold QuietAbl; decide +kernel), by decide⟩,
   ⟨sa [], 0, 1, q _ (by unfold QuietAbl; decide +kernel), by decide +kernel⟩⟩

end Sys2Proof.Tests
end

section
/-!
SUPPORT. The bytes of records and of FANOUT messages (R3, R11, R12, R239): what little-endian bytes spell, and what a reader makes of a layout.
-/

namespace Sys2Proof.Machine

/-! ## Little-endian bytes (R3) -/

@[simp] theorem length_le (n v : Nat) : (le n v).length = n := by simp [le]

theorem le_succ (n v : Nat) : le (n + 1) v = v % 256 :: le n (v / 256) := by
  simp [le, List.range_succ_eq_map, Nat.pow_succ', Nat.div_div_eq_div_mul]

theorem leNat_cons (b : Nat) (l : List Nat) : leNat (b :: l) = b % 256 + 256 * leNat l := rfl

theorem leNat_le (n : Nat) : ∀ v, leNat (le n v) = v % 256 ^ n := by
  induction n with
  | zero => intro v; simp [le, leNat, Nat.mod_one]
  | succ n ih => intro v; rw [le_succ, leNat_cons, ih, Nat.mod_mod, Nat.pow_succ', Nat.mod_mul]

/-- A field that stands first reads what it spells. -/
theorem leAt_le_append (n v : Nat) (t : List Nat) : leAt (le n v ++ t) 0 n = v % 256 ^ n := by
  simp [leAt, leNat_le]

/-- A field behind other bytes is read in what follows them. -/
theorem leAt_append_of_le {l : List Nat} {off : Nat} (h : l.length ≤ off) (t : List Nat) (n : Nat) :
    leAt (l ++ t) off n = leAt t (off - l.length) n := by
  simp [leAt, List.drop_append, List.drop_eq_nil_of_le h]

/-! ## Padding (R11) -/

@[simp] theorem length_zeros (n : Nat) : (zeros n).length = n := by simp [zeros]

theorem eq_zero_of_mem_zeros {n b : Nat} (h : b ∈ zeros n) : b = 0 := List.eq_of_mem_replicate h

theorem le_align8 (n : Nat) : n ≤ align8 n := by unfold align8; omega

theorem align8_lt (n : Nat) : align8 n < n + 8 := by unfold align8; omega

theorem align8_mod (n : Nat) : align8 n % 8 = 0 := by unfold align8; omega

/-- The next multiple of 8 does not pass a bound that is one. -/
theorem align8_le {n k : Nat} (h : n ≤ 8 * k) : align8 n ≤ 8 * k := by unfold align8; omega

end Sys2Proof.Machine

namespace Sys2Proof

open Machine

/-! ## Records (R11, R12) -/

/-- The 16 header bytes of a record (R12). -/
def Record.header (r : Record) : List Nat :=
  [r.mark % 256, r.typ % 256] ++ le 2 r.code ++ le 2 r.payload.length ++ le 2 r.src ++ le 4 r.time ++ le 2 r.seq ++ le 2 r.flags

@[simp] theorem Record.length_header (r : Record) : r.header.length = 16 := by simp [Record.header]

theorem Record.bytes_eq (r : Record) : r.bytes = r.header ++ (r.payload ++ zeros (align8 (16 + r.payload.length) - (16 + r.payload.length))) := by
  have hlen : (r.header ++ r.payload).length = 16 + r.payload.length := by simp
  rw [← List.append_assoc, ← hlen]
  rfl

theorem Record.drop_header (r : Record) (t : List Nat) (k : Nat) : (r.header ++ t).drop (16 + k) = t.drop k := by
  rw [← r.length_header, List.drop_length_add_append]

/-- Each header field but MARK, read at its place, cut to its width. -/
theorem Record.leAt_bytes (r : Record) :
    leAt r.bytes 1 1 = r.typ % 256 ∧ leAt r.bytes 2 2 = r.code % 65536 ∧ leAt r.bytes 4 2 = r.payload.length % 65536 ∧
    leAt r.bytes 6 2 = r.src % 65536 ∧ leAt r.bytes 8 4 = r.time % 4294967296 ∧ leAt r.bytes 12 2 = r.seq % 65536 ∧
    leAt r.bytes 14 2 = r.flags % 65536 := by
  rw [r.bytes_eq]
  generalize r.payload ++ zeros (align8 (16 + r.payload.length) - (16 + r.payload.length)) = t
  refine ⟨by simp [Record.header, leAt, leNat], ?_, ?_, ?_, ?_, ?_, ?_⟩ <;> unfold Record.header <;>
    simp (disch := simp) only [List.append_assoc, leAt_append_of_le, length_le, List.length_cons, List.length_nil, Nat.reduceAdd, Nat.reduceSub,
      leAt_le_append, Nat.reducePow]

theorem Record.leAt_bytes_len (r : Record) (h : r.payload.length ≤ 4080) : leAt r.bytes 4 2 = r.payload.length := by
  obtain ⟨-, -, hlen, -⟩ := r.leAt_bytes
  rw [hlen, Nat.mod_eq_of_lt (by omega)]

theorem Record.take_drop_bytes (r : Record) : (r.bytes.drop 16).take r.payload.length = r.payload := by
  rw [r.bytes_eq, r.drop_header _ 0, List.drop_zero, List.take_left]

theorem Record.drop_bytes_payload (r : Record) :
    r.bytes.drop (16 + r.payload.length) = zeros (align8 (16 + r.payload.length) - (16 + r.payload.length)) := by
  rw [r.bytes_eq, r.drop_header, List.drop_left]

theorem Record.length_bytes (r : Record) : r.bytes.length = align8 (16 + r.payload.length) := by
  have h := le_align8 (16 + r.payload.length)
  simp only [r.bytes_eq, length_header, List.length_append, length_zeros]
  omega

/-- What a reader makes of a record's bytes: the whole record, with MARK as of a record that is written (R15). -/
theorem recOfBytes_bytes (r : Record) (htyp : r.typ < 256) (hcode : r.code < 65536) (hsrc : r.src < 65536) (htime : r.time < 4294967296)
    (hseq : r.seq < 65536) (hflags : r.flags < 65536) (hlen : r.payload.length ≤ 4080) : recOfBytes r.bytes = { r with mark := 0x5A } := by
  have hpay := r.leAt_bytes_len hlen
  obtain ⟨h1, h2, -, h6, h8, h12, h14⟩ := r.leAt_bytes
  simp only [recOfBytes, h1, h2, hpay, h6, h8, h12, h14, r.take_drop_bytes, Nat.mod_eq_of_lt, htyp, hcode, hsrc, htime, hseq, hflags]

/-- Refutes O52: a record's bytes hold its MARK (R12), and a reader gives every record the MARK of a written one, so that a record that arrives broken
(R16) is not read back as it is. -/
theorem not_recordBytesReadBack : ¬ Obligations.RecordBytesReadBack := by
  unfold Obligations.RecordBytesReadBack
  intro h
  have hread := h { typ := 1, code := 1, src := 0, time := 0, seq := 0, mark := 0 } (by decide) (by decide) (by decide) (by decide) (by decide)
    (by decide) (by decide)
  rw [recOfBytes_bytes _ (by decide) (by decide) (by decide) (by decide) (by decide) (by decide) (by decide)] at hread
  exact absurd hread (by decide)

/-- Settles O51: the header's length field, and the lengths and the padding by the rule of the next multiple of 8. -/
theorem recordsAreWhole : Obligations.RecordsAreWhole := by
  unfold Obligations.RecordsAreWhole
  intro r hlen
  have hle := le_align8 (16 + r.payload.length)
  have hlt := align8_lt (16 + r.payload.length)
  rw [r.drop_bytes_payload, r.length_bytes]
  exact ⟨r.leAt_bytes_len hlen, r.take_drop_bytes, hle, hlt, align8_mod _, align8_le (k := 512) (by omega), fun _ => eq_zero_of_mem_zeros⟩

end Sys2Proof

namespace Sys2Proof.Machine

/-! ## FANOUT messages (R239) -/

/-- The bytes of the ranges of a FANOUT. -/
def rangeBytes (rs : List (Nat × Nat)) : List Nat := rs.flatMap fun r => le 4 r.1 ++ le 4 r.2

theorem rangeBytes_cons (r : Nat × Nat) (rs : List (Nat × Nat)) (t : List Nat) :
    rangeBytes (r :: rs) ++ t = le 4 r.1 ++ (le 4 r.2 ++ (rangeBytes rs ++ t)) := by simp [rangeBytes]

@[simp] theorem length_rangeBytes (rs : List (Nat × Nat)) : (rangeBytes rs).length = 8 * rs.length := by
  simp [rangeBytes, List.length_flatMap, Nat.mul_comm]

/-- Ranges of 32-bit die indices are read back, entry by entry. -/
theorem map_leAt_rangeBytes (t : List Nat) : ∀ rs : List (Nat × Nat), (∀ r ∈ rs, r.1 < 4294967296 ∧ r.2 < 4294967296) →
    (List.range rs.length).map (fun i => (leAt (rangeBytes rs ++ t) (8 * i) 4, leAt (rangeBytes rs ++ t) (8 * i + 4) 4)) = rs := by
  intro rs
  induction rs with
  | nil => intro _; rfl
  | cons r rs ih =>
    intro h
    obtain ⟨⟨h1, h2⟩, hrs⟩ := List.forall_mem_cons.1 h
    have hnext (i k : Nat) : leAt (rangeBytes (r :: rs) ++ t) (8 * (i + 1) + k) 4 = leAt (rangeBytes rs ++ t) (8 * i + k) 4 := by
      rw [rangeBytes_cons, leAt_append_of_le (by simp; omega), leAt_append_of_le (by simp; omega)]
      congr 1
      simp; omega
    have hfst : leAt (rangeBytes (r :: rs) ++ t) 0 4 = r.1 := by
      rw [rangeBytes_cons, leAt_le_append, Nat.mod_eq_of_lt (by omega)]
    have hsnd : leAt (rangeBytes (r :: rs) ++ t) 4 4 = r.2 := by
      rw [rangeBytes_cons, leAt_append_of_le (by simp), length_le, leAt_le_append, Nat.mod_eq_of_lt (by omega)]
    have htail := ih hrs
    rw [List.length_cons, List.range_succ_eq_map, List.map_cons, List.map_map]
    refine congrArg₂ List.cons (Prod.ext hfst hsnd) (Eq.trans (List.map_congr_left fun i _ => ?_) htail)
    exact Prod.ext (hnext i 0) (hnext i 4)

/-- The 24 bytes of a FANOUT before its ranges. -/
def fanHeader (m : FanMsg) : List Nat :=
  le 4 m.jobtag ++ le 4 m.seq ++ le 2 m.kind ++ le 2 m.ranges.length ++ le 4 m.deadline ++ le 2 m.body.length ++ zeros 6

@[simp] theorem length_fanHeader (m : FanMsg) : (fanHeader m).length = 24 := by simp [fanHeader]

theorem fanBytes_eq (m : FanMsg) :
    fanBytes m = fanHeader m ++ (rangeBytes m.ranges ++ (m.body ++ zeros (align8 m.body.length - m.body.length))) := by
  rw [← List.append_assoc, ← List.append_assoc]
  rfl

theorem drop_fanHeader (m : FanMsg) (t : List Nat) (k : Nat) : (fanHeader m ++ t).drop (24 + k) = t.drop k := by
  rw [← length_fanHeader m, List.drop_length_add_append]

theorem leAt_fanHeader (m : FanMsg) (t : List Nat) (k n : Nat) : leAt (fanHeader m ++ t) (24 + k) n = leAt t k n := by
  rw [leAt, drop_fanHeader, leAt]

/-- Each field of a FANOUT before its ranges, read at its place, cut to its width. -/
theorem leAt_fanBytes (m : FanMsg) :
    leAt (fanBytes m) 0 4 = m.jobtag % 4294967296 ∧ leAt (fanBytes m) 4 4 = m.seq % 4294967296 ∧ leAt (fanBytes m) 8 2 = m.kind % 65536 ∧
    leAt (fanBytes m) 10 2 = m.ranges.length % 65536 ∧ leAt (fanBytes m) 12 4 = m.deadline % 4294967296 ∧
    leAt (fanBytes m) 16 2 = m.body.length % 65536 := by
  rw [fanBytes_eq]
  refine ⟨?_, ?_, ?_, ?_, ?_, ?_⟩ <;> unfold fanHeader <;>
    simp (disch := simp) only [List.append_assoc, leAt_append_of_le, length_le, Nat.reduceSub, leAt_le_append, Nat.reducePow]

/-- The ranges of a FANOUT, read as many as there are. -/
theorem ranges_of_fanBytes {m : FanMsg} (h : ∀ r ∈ m.ranges, r.1 < 4294967296 ∧ r.2 < 4294967296) :
    (List.range m.ranges.length).map (fun i => (leAt (fanBytes m) (24 + 8 * i) 4, leAt (fanBytes m) (28 + 8 * i) 4)) = m.ranges := by
  have hoff (i : Nat) : 28 + 8 * i = 24 + (8 * i + 4) := by omega
  simp only [fanBytes_eq, hoff, leAt_fanHeader]
  exact map_leAt_rangeBytes _ _ h

theorem body_of_fanBytes (m : FanMsg) : ((fanBytes m).drop (24 + 8 * m.ranges.length)).take m.body.length = m.body := by
  rw [fanBytes_eq, drop_fanHeader, ← length_rangeBytes, List.drop_left, List.take_left]

/-- Settles O53: the fields before the ranges, the ranges by induction on their list, and the body behind them. -/
theorem fanoutBytesReadBack : Obligations.FanoutBytesReadBack := by
  unfold Obligations.FanoutBytesReadBack
  intro m hjob hseq hkind hdead hranges hbody hdies
  obtain ⟨h0, h4, h8, h10, h12, h16⟩ := leAt_fanBytes m
  have hk : min 32 (m.ranges.length % 65536) = m.ranges.length := by omega
  have hb : min 1024 (m.body.length % 65536) = m.body.length := by omega
  simp only [fanOfBytes, h0, h4, h8, h10, h12, h16, hk, hb, ranges_of_fanBytes hdies, body_of_fanBytes, Nat.mod_eq_of_lt, hjob, hseq, hkind, hdead]

end Sys2Proof.Machine
end

section
/-!
SUPPORT. What an access of the DDU's window, of the sentinel's registers and of the aperture does, one lemma for each way it can end (R8, R64, R75, R633).
-/

namespace Sys2Proof.Machine

/-! ## The register commands -/

theorem exec_registerWrite_ddu (s : State) (who : Requester) (off size v : Nat) :
    exec (.registerWrite .ddu who off size v) s =
      .next (({ s with busErr := (s.ddu.busWrite who off size v).2 }).settleDdu (s.ddu.busWrite who off size v).1) := rfl

theorem exec_registerWrite_abl (s : State) (who : Requester) (off size v : Nat) :
    exec (.registerWrite .abl who off size v) s = .next (({ s with busErr := false }).settleAbl (s.abl.busWrite who off size v)) := rfl

theorem exec_rcRegisterRead_ddu (s : State) (who : Requester) (off size : Nat) :
    exec (.rcRegisterRead .ddu who off size) s =
      .next (({ s with rdata := (s.ddu.busRead who off size).2.1, busErr := (s.ddu.busRead who off size).2.2 }).settleDdu
        (s.ddu.busRead who off size).1) := rfl

theorem exec_rcRegisterRead_abl (s : State) (who : Requester) (off size : Nat) :
    exec (.rcRegisterRead .abl who off size) s =
      .next (({ s with rdata := (s.abl.busRead who off size).2, busErr := false }).settleAbl (s.abl.busRead who off size).1) := rfl

/-! ## The DDU window (R64, R75) -/

theorem Ddu.busWrite_of_not_answers {d : Ddu} {who : Requester} (h : d.answers who = false) (off size v : Nat) :
    d.busWrite who off size v = (d, true) := by simp [Ddu.busWrite, h]

theorem Ddu.busWrite_of_not_may {d : Ddu} {who : Requester} {off size : Nat} (h : d.answers who = true) (hm : dduMay who true off size = false)
    (v : Nat) : d.busWrite who off size v = (d.bump Reg.DDU_ACCESS_DENIED, true) := by simp [Ddu.busWrite, h, hm]

theorem Ddu.busWrite_of_slow {d : Ddu} {who : Requester} {off size : Nat} (h : d.answers who = true) (hm : dduMay who true off size = true)
    (ha : accessOk off size = true) (hf : fastBlock off = false) (v : Nat) :
    d.busWrite who off size v = (d.winWrite who off size v, false) := by simp [Ddu.busWrite, h, hm, ha, hf]

theorem Ddu.busWrite_of_fast {d : Ddu} {who : Requester} {off size : Nat} (h : d.answers who = true) (hm : dduMay who true off size = true)
    (ha : accessOk off size = true) (hf : fastBlock off = true) (hu : d.fastAccess.fastUp = true) (v : Nat) :
    d.busWrite who off size v = (d.fastAccess.winWrite who off size v, false) := by simp [Ddu.busWrite, h, hm, ha, hf, hu]

/-- Outside the mailbox window a write goes to its registers, piece by piece. -/
theorem Ddu.winWrite_of_regs (d : Ddu) (who : Requester) {off : Nat} (h : ¬ (655360 ≤ off ∧ off < 671744)) (size v : Nat) :
    d.winWrite who off size v = (regPieces dduRegs off size).foldl (fun (d : Ddu) (p : Piece) => d.regSet who p.r p.i p.mask (p.data v)) d :=
  if_neg h

theorem Ddu.busRead_of_not_may {d : Ddu} {who : Requester} {off size : Nat} (h : d.answers who = true) (hm : dduMay who false off size = false) :
    d.busRead who off size = (d.bump Reg.DDU_ACCESS_DENIED, 0, true) := by simp [Ddu.busRead, h, hm]

theorem Ddu.busRead_of_slow {d : Ddu} {who : Requester} {off size : Nat} (h : d.answers who = true) (hm : dduMay who false off size = true)
    (ha : accessOk off size = true) (hf : fastBlock off = false) :
    d.busRead who off size = ((d.winRead who off size).1, (d.winRead who off size).2, false) := by simp [Ddu.busRead, h, hm, ha, hf]

/-- Outside the trace aperture and the areas a read that no interrupt rule withholds takes its registers, piece by piece. -/
theorem Ddu.winRead_of_regs {d : Ddu} {who : Requester} {off size : Nat} (h : ¬ (294912 ≤ off ∧ off < 327680))
    (ha : areaRead d.areaByte off size = none) (hw : who ≠ .hostPrivileged) :
    d.winRead who off size = (regPieces dduRegs off size).foldl
      (fun (x : Ddu × Nat) p => let g := x.1.regGet p.r p.i (size == 8); (g.1, x.2 + p.out g.2)) (d, 0) := by
  simp [Ddu.winRead, h, ha, hw]

/-! ## The aperture (R633, R634, R636) -/

theorem Abl.decodes_of_apOk {a : Abl} {x len : Nat} {write : Bool} (h : a.apOk x len write = true) : a.decodes = true := by
  simp only [Abl.apOk, Bool.and_eq_true] at h
  exact h.1.1

/-- An access to SRAM that a grant lets through changes nothing but the memory. -/
theorem Abl.apTouch_of_sram {a : Abl} {x len : Nat} {write : Bool} (h : a.apOk x len write = true) (hx : a.apAddr x < hbmBase) :
    a.apTouch x len write = a := by
  simp [Abl.apTouch, Abl.decodes_of_apOk h, h, Nat.not_le.2 hx]

theorem Abl.apTouch_of_denied {a : Abl} {x len : Nat} {write : Bool} (hd : a.decodes = true) (h : a.apOk x len write = false) :
    a.apTouch x len write = a.on fun n => n.bump Reg.ABL_HOST_AP_DENIED := by
  simp [Abl.apTouch, hd, h]

theorem exec_apertureAccess_write (s : State) (x len : Nat) (data : List Byte) :
    exec (.apertureAccess x len true data) s =
      .next ((if s.abl.apOk x len true = true then { s with mem := Cells.store s.mem (s.abl.apAddr x, padTo len (data.take len)) } else s).settleAbl
        (s.abl.apTouch x len true)) := by
  change execApertureAccess x len true data s = _
  simp only [execApertureAccess, onAbl, if_true]
  split <;> rfl

theorem exec_apertureAccess_read (s : State) (x len : Nat) (data : List Byte) :
    exec (.apertureAccess x len false data) s =
      .next (({ s with rdata := if s.abl.apOk x len false = true then leNat (Cells.read s.mem (s.abl.apAddr x) len) else 0, busErr := false }).settleAbl
        (s.abl.apTouch x len false)) := rfl

/-! ## The function (R640) -/

theorem Abl.functionReset_eq (a : Abl) (kind : Nat) :
    a.functionReset kind = { a.fnReset with pins := { a.fnReset.pins with perstN := decide (kind ≠ 3) && a.fnReset.pins.perstN } } := by
  by_cases h : kind = 3 <;> simp [Abl.functionReset, h]

/-- Settles O40: each command by the way its access ends. -/
theorem hostAccessCommandsComplete : Obligations.HostAccessCommandsComplete := by
  unfold Obligations.HostAccessCommandsComplete
  refine ⟨?_, ?_, ?_, ?_, ?_, ?_, ?_, ?_, ?_, ?_, ?_, ?_, ?_, ?_⟩
  · intro s who off size v h hm ha hw hf
    rw [exec_registerWrite_ddu, Ddu.busWrite_of_slow h hm ha hf, Ddu.winWrite_of_regs _ _ hw]
  · intro s who off size v h hm ha hw hf hu
    rw [exec_registerWrite_ddu, Ddu.busWrite_of_fast h hm ha hf hu, Ddu.winWrite_of_regs _ _ hw]
  · intro s who off size v h
    rw [exec_registerWrite_ddu, Ddu.busWrite_of_not_answers h]
  · intro s who off size v h hm
    rw [exec_registerWrite_ddu, Ddu.busWrite_of_not_may h hm]
  · intro s off size v
    exact ⟨exec_registerWrite_abl .., exec_registerWrite_abl .., exec_registerWrite_abl .., exec_registerWrite_abl ..⟩
  · intro s who off size h hm
    rw [exec_rcRegisterRead_ddu, Ddu.busRead_of_not_may h hm]
  · intro s who off size h hm ha hw hf harea hwho
    exact ⟨_, rfl, by rw [exec_rcRegisterRead_ddu, Ddu.busRead_of_slow h hm ha hf, Ddu.winRead_of_regs hw harea hwho]⟩
  · intro s off size
    exact ⟨exec_rcRegisterRead_abl .., exec_rcRegisterRead_abl .., exec_rcRegisterRead_abl ..⟩
  · intro s x len data h hx
    rw [exec_apertureAccess_write, if_pos h, Abl.apTouch_of_sram h hx]
  · intro s x len data h hx
    rw [exec_apertureAccess_read, if_pos h, Abl.apTouch_of_sram h hx]
  · intro s x len data hd
    refine ⟨fun h => ?_, fun h => ?_⟩
    · rw [exec_apertureAccess_write, if_neg (by simp [h]), Abl.apTouch_of_denied hd h]
    · rw [exec_apertureAccess_read, if_neg (by simp [h]), Abl.apTouch_of_denied hd h]
  · exact fun _ _ _ => rfl
  · intro s kind
    rw [← Abl.functionReset_eq]
    rfl
  · exact fun _ => ⟨rfl, rfl⟩

end Sys2Proof.Machine
end

section
/-!
SUPPORT. What a sentinel adds to a command's effect once its reactions and the work that follows are done: the mirrored fields of ABL_STATUS
(R642, R565), and nothing else.
-/

namespace Sys2Proof.Machine

open Safety

/-! ## The mirrored fields of ABL_STATUS (R642) -/

/-- ABL_STATUS.STORE and .POWER as they mirror ABL_HS_STATUS.MOUNT and ABL_PWR_STATE. -/
def Node.mirrorStatus (n : Node) : Node :=
  (n.setFld Reg.ABL_STATUS 0 20 3 (n.fld Reg.ABL_HS_STATUS 0 29 3)).setFld Reg.ABL_STATUS 0 24 3 n.pwrState

/-- The power state depends on the register file alone. -/
theorem Node.pwrState_of_regs {n m : Node} (h : n.regs = m.regs) : n.pwrState = m.pwrState := by
  simp only [Node.pwrState, Node.fld, rd_of_regs h]

@[simp] theorem Node.pwrState_mirrorStatus (n : Node) : n.mirrorStatus.pwrState = n.pwrState := by
  have hne : Reg.ABL_STATUS.addr 0 ≠ Reg.ABL_PWR_STATE.addr 0 := by decide
  simp only [Node.mirrorStatus, Node.pwrState, Node.fld, Node.setFld, rd_wr_ne hne]

@[simp] theorem Node.parent_mirrorStatus (n : Node) : n.mirrorStatus.parent = n.parent := rfl

/-- Where the power state is as before, the views are the mirrored fields. -/
theorem Abl.views_of_pwrState_eq {old a : Abl} (h : a.n.pwrState = old.n.pwrState) : old.views a = a.on Node.mirrorStatus := by
  have hsession : (a.n.pwrState = 3 && old.n.pwrState != 3 && a.sessionOpen) = false := by simp [h]
  have hmirror : (a.on Node.mirrorStatus).n.pwrState = old.n.pwrState := by simp [h]
  simp only [Abl.views, hsession]
  exact if_pos hmirror

theorem Abl.msixOut_of_msi_nil {a : Abl} (h : a.n.msi = []) : a.msixOut = a := by simp [Abl.msixOut, h]

@[simp] theorem Abl.msixOut_parent (a : Abl) : a.msixOut.n.parent = a.n.parent := by
  unfold Abl.msixOut
  split <;> rfl

/-- No source of time is lost where PTP is not the source, or where no port has gone down (R168). -/
theorem Abl.ptpDown_of_same {old a : Abl} (h : a.n.srcSel ≠ 3 ∨ ∀ k, a.n.mgmtDown k = old.n.mgmtDown k) : old.ptpDown a = a := by
  rcases h with hsrc | hdown
  · simp [Abl.ptpDown, hsrc]
  · simp [Abl.ptpDown, hdown]

/-! ## The sentinel as a command leaves it -/

/-- With no reaction owed before the work that follows and after it, what is left to add is INGEST's hold, the mirrored fields and the interrupts
to the host. -/
theorem Abl.carryFrom_of_no_reaction {old a : Abl} (hdue : a.n.due = []) (hfollow : a.follow.n.due = [])
    (hpwr : a.follow.n.pwrState = old.n.pwrState) (hsrc : a.follow.n.srcSel ≠ 3 ∨ ∀ k, a.follow.n.mgmtDown k = old.n.mgmtDown k) :
    old.carryFrom a = ((a.follow.on fun n => { n with opHold := a.follow.ingestFull 4096 }).on Node.mirrorStatus).msixOut := by
  rw [Abl.carryFrom, Abl.carryN_of_due_nil hdue]
  generalize a.follow = b at *
  rw [Abl.ptpDown_of_same hsrc, Abl.carryN_of_due_nil hfollow, Abl.views_of_pwrState_eq]
  rw [Abl.on_n]
  exact (Node.pwrState_of_regs (by simp only)).trans hpwr

/-- A quiet sentinel ends with the mirrored fields brought up to date. -/
theorem Abl.carryFrom_of_quiet {old a : Abl} (h : QuietAbl a) (hpwr : a.n.pwrState = old.n.pwrState)
    (hsrc : a.n.srcSel ≠ 3 ∨ ∀ k, a.n.mgmtDown k = old.n.mgmtDown k) : old.carryFrom a = a.on Node.mirrorStatus := by
  have hf := Abl.follow_of_quiet h
  obtain ⟨⟨hdue, -⟩, -, -, hmsi, -, -, -, -, -, -, -, -, -, -, hhold⟩ := h
  have hop : (a.on fun n => { n with opHold := a.ingestFull 4096 }) = a := by rw [← hhold]; rfl
  rw [Abl.carryFrom_of_no_reaction hdue (by rw [hf]; exact hdue) (by rw [hf]; exact hpwr) (by rw [hf]; exact hsrc), hf, hop]
  exact Abl.msixOut_of_msi_nil hmsi

/-- A sentinel without memory writes is put as it is. -/
theorem putAbl_of_no_writes {s : State} {a : Abl} (hout : a.out = []) (hwipe : a.wipe = false) : putAbl s a = { s with abl := a } := by
  have ha : ({ a with out := [], wipe := false } : Abl) = a := by rw [← hout, ← hwipe]
  simp [putAbl, ha, hout, hwipe]

/-- Settles O48: a quiet DDU carries nothing out, and a quiet sentinel only mirrors. -/
theorem quietDevicesOweNothing : Obligations.QuietDevicesOweNothing := by
  unfold Obligations.QuietDevicesOweNothing
  refine ⟨fun s d hd => ?_, fun s a ha hout hwipe hpwr hsrc => ?_⟩
  · rw [State.settleDdu, Ddu.carry_of_quiet hd]
  · rw [State.settleAbl, Abl.carryFrom_of_quiet ha hpwr hsrc]
    exact putAbl_of_no_writes hout hwipe

/-! ## The queue (assumption log 3) -/

/-- Settles O42: by the two forms of the queue. -/
theorem stepRunsFrontCommand : Obligations.StepRunsFrontCommand := by
  unfold Obligations.StepRunsFrontCommand
  refine ⟨fun _ _ _ => rfl, fun s hempty => ?_⟩
  simp only [step, hempty]

end Sys2Proof.Machine
end

section
/-!
SUPPORT. Records that a sentinel writes with no limit and no event path (R12, R147, R611), and what settles where the history store takes none of
them (R504, R508).
-/

namespace Sys2Proof.Machine

open Safety

/-! ## Writing a record -/

/-- Where no rate limit matches, a record is numbered, stored and sent. -/
theorem Node.write_of_no_limit {n : Node} {typ code : Nat} (h : n.rlEntry typ code = none) (cls src flags : Nat) (payload : List Nat)
    (send : Record → Node → Node) (severe : Bool) (note : Record → Node → Node) :
    n.write cls typ code src flags payload send severe note = n.record1 cls typ code src flags payload send := by
  have hlimit : n.limit typ code severe = (some (0, 0), n) := by simp [Node.limit, h]
  simp [Node.write, hlimit]

/-- Whether none of a sentinel's event paths has been negotiated (R607). -/
def Node.noEventPath (n : Node) : Bool := (eventPaths .abl).all fun p => !Machine.bit (n.rd Reg.ABL_MB_NEG p) 7

theorem Node.event_of_noEventPath {n : Node} (hdev : n.dev = .abl) (h : n.noEventPath = true) (r : Record) : n.event r = n := by
  have hpath : ∀ p ∈ eventPaths .abl, ∀ c, n.eventOn p c (evSrc .abl) r = n := fun p hp c => by
    have hneg := List.all_eq_true.1 h p hp
    simp only [Node.eventOn, hneg, Bool.true_or, if_true]
  unfold Node.event
  split
  · rfl
  · simp only [hdev, eventPaths, List.foldl_cons, List.foldl_nil]
    rw [hpath 0 (by decide), hpath 1 (by decide), hpath 2 (by decide)]

/-- Noting a record for the store changes nothing but the notes. -/
theorem Node.keep_eq (n : Node) (r : Record) : n.keep r = { n with tostore := (n.keep r).tostore } := by
  unfold Node.keep
  split <;> rfl

/-- A sentinel with no loss to tell counts no record. -/
theorem Node.settle_of_no_loss {n : Node} (hdev : n.dev = .abl) (hloss : n.lossDue = []) (hdrop : n.parent.orphanDrops = 0) :
    n.settle = { n with written := 0, limited := 0 } := by
  have hparent : ({ n.parent with orphanDrops := 0 } : ParentX) = n.parent := by rw [← hdrop]
  have hflush : n.flushLoss = n := by
    simp only [Node.flushLoss, hloss, hdrop, List.foldl_nil, Node.loss, if_pos, hparent]
    rw [← hloss]
  simp only [Node.settle, hflush, hdev]

/-- The record that a node writes next. -/
def Node.nextRec (n : Node) (cls typ code src : Nat) (payload : List Nat) : Record := (n.mkRec cls typ code src 0 payload).1

/-- The node that has numbered, stored and sent a record upward. -/
def Node.sentUp (n : Node) (jobtag cls typ code src : Nat) (payload : List Nat) : Node :=
  let r := n.nextRec cls typ code src payload
  ((n.useSeq src cls).store r).sendUp jobtag cls (.record r)

/-- The node that has also noted it for the store. -/
def Node.told (n : Node) (jobtag cls typ code src : Nat) (payload : List Nat) : Node :=
  let m := n.sentUp jobtag cls typ code src payload
  { m with written := 0, limited := 0, tostore := (m.keep (n.nextRec cls typ code src payload)).tostore }

/-- A sentinel writes a record that no limit holds back, no path takes as an event, and that leaves no loss to tell. -/
abbrev Node.Unheard (n : Node) (jobtag cls typ code src : Nat) (payload : List Nat) : Prop :=
  n.rlEntry typ code = none ∧ (n.sentUp jobtag cls typ code src payload).dev = .abl ∧
  (n.sentUp jobtag cls typ code src payload).noEventPath = true ∧ (n.sentUp jobtag cls typ code src payload).lossDue = [] ∧
  (n.sentUp jobtag cls typ code src payload).parent.orphanDrops = 0

theorem Node.emit_of_unheard {n : Node} {jobtag cls typ code src : Nat} {payload : List Nat} (h : n.Unheard jobtag cls typ code src payload) :
    n.emit jobtag cls typ code src payload = n.told jobtag cls typ code src payload := by
  obtain ⟨hlimit, hdev, hpath, hloss, hdrop⟩ := h
  have hwrite : n.emit jobtag cls typ code src payload =
      (((n.sentUp jobtag cls typ code src payload).event (n.nextRec cls typ code src payload)).keep
        (n.nextRec cls typ code src payload)).settle := by
    rw [Node.emit, Node.write_of_no_limit hlimit]
    rfl
  rw [hwrite, Node.event_of_noEventPath hdev hpath, Node.keep_eq]
  exact Node.settle_of_no_loss hdev hloss hdrop

/-! ## The store takes no record -/

theorem Abl.hsStore_of_off {a : Abl} (h : a.hsOn = false) (r : Record) (ess : Bool) : a.hsStore r ess = a := by simp [Abl.hsStore, h]

@[simp] theorem Abl.hsOn_onTab (a : Abl) (f : HistTab → HistTab) : (a.onTab f).hsOn = a.hsOn := rfl

@[simp] theorem Abl.onTab_n (a : Abl) (f : HistTab → HistTab) : (a.onTab f).n = a.n := rfl

/-- A store that is off takes the records noted for it away, and leaves the rest of the node. -/
theorem Abl.hsDrain_n_of_off {a : Abl} (h : a.hsOn = false) : a.hsDrain.n = { a.n with tostore := [] } := by
  unfold Abl.hsDrain
  split
  · next hnil => rw [← hnil]
  · next rs _ =>
    have hstart : (a.on fun n => { n with tostore := [] }).hsOn = false := h
    refine (List.foldlRecOn _ _ (motive := fun b : Abl => b.hsOn = false ∧ b.n = { a.n with tostore := [] }) (And.intro hstart rfl) ?_).2
    intro b hb r _
    simp only
    split
    · simpa [Abl.hsStore_of_off, hb.1] using hb
    · split <;> simpa [Abl.hsStore_of_off, hb.1] using hb

/-- A sentinel that is quiet but for records noted for a store that is off: the work that follows takes them away. -/
theorem Abl.follow_n_of_store_off {a : Abl} (h : QuietAbl (a.on fun n => { n with tostore := [] })) (hoff : a.hsOn = false) :
    a.follow.n = { a.n with tostore := [] } := by
  obtain ⟨hn, -, hshed, -, hver, hcamp, howed, hcut, hroot, hrest, htray, hsweep, hd3, hd4, -⟩ := h
  simp only [Abl.on_n, Abl.on_ver, Abl.on_red, Abl.on_sec, Abl.on_grid] at hn hshed hver hcamp howed hcut hroot hrest htray hsweep
  replace hd3 : a.domBusy 3 = false := hd3
  replace hd4 : a.domBusy 4 = false := hd4
  have howe : a.owedSweep = a := by rw [Abl.owedSweep, howed, List.foldl_nil, ← howed]
  have hswept : a.verSweep.campSweep.secSweep.owedSweep.sweepStep.domWork = a := by
    simp [Abl.verSweep, hver, Abl.campSweep, hcamp, Abl.secSweep, hcut, hroot, hrest, htray, howe, Abl.sweepStep, hsweep, Abl.domWork, hd3, hd4]
  have hstore : a.storeOut = a.hsDrain := by simp [Abl.storeOut, hshed]
  obtain ⟨-, hposted, htxq, -⟩ := id hn
  simp only [Abl.follow, hswept, hstore, Abl.on_n, Abl.hsDrain_n_of_off hoff]
  rw [mbSweep_of_posted_nil hposted, purge_of_txq_nil htxq, settle_of_quiet hn]

/-- A sentinel that a command has left with nothing in hand but records for a store that is off, its power state as it was. -/
abbrev RestsButRecords (old a : Abl) : Prop :=
  QuietAbl (a.on fun n => { n with tostore := [] }) ∧ a.hsOn = false ∧ a.n.pwrState = old.n.pwrState ∧ a.n.srcSel ≠ 3

theorem settleAbl_parent {s : State} {a : Abl} (h : RestsButRecords s.abl a) : (s.settleAbl a).abl.n.parent = a.n.parent := by
  obtain ⟨hquiet, hoff, hpwr, hsrc⟩ := h
  have hfollow := Abl.follow_n_of_store_off hquiet hoff
  have hdue : a.n.due = [] := hquiet.1.1
  have hpwr' : a.follow.n.pwrState = s.abl.n.pwrState := by rw [hfollow]; exact hpwr
  have hsrc' : a.follow.n.srcSel ≠ 3 := by rw [hfollow]; exact hsrc
  change (s.abl.carryFrom a).n.parent = a.n.parent
  rw [Abl.carryFrom_of_no_reaction hdue (by rw [hfollow]; exact hdue) hpwr' (Or.inl hsrc')]
  simp [hfollow]

end Sys2Proof.Machine
end

section
/-!
SUPPORT. The entry to ORPHAN (R37, R38): what a sentinel's lost parent has not acknowledged is kept for the next one.
-/

namespace Sys2Proof.Machine

open Safety

/-- The loss of the alternate parent leads to ORPHAN (R37). -/
theorem Node.parentLost_of_alternate {n : Node} (hgone : n.parentGone = true) (hst : n.parent.st = psAlternate) : n.parentLost = n.toOrphan := by
  have hne : psAlternate ≠ psPrimary := by decide
  simp [Node.parentLost, hgone, hst, hne]

/-- What a node in ORPHAN makes of undelivered messages: they are kept, and what waits at the alternate's lanes waits at the primary's (R38). -/
def Node.keepUndelivered (n : Node) (ts : List TxMsg) : Node :=
  let n := ts.foldl (fun n t => n.keepUp t.slot t.msg) n
  let off (t : TxMsg) : Bool := t.port == 18 || t.port == 19
  let back (t : TxMsg) : TxMsg := if off t then { t with port := t.port - 2, sent := 0 } else t
  { n.wakeQueues ((n.txq.filter off).map back) with txq := n.txq.map back }

/-- The escalation of a node that enters ORPHAN: source 554, REASON 5 and its identity (R478). -/
def orphanAlarm (ident : Nat) : List Nat := [5, 0, 0, 0] ++ le 4 0 ++ le 4 ident ++ le 4 0

theorem Node.toOrphan_of_alternate {n : Node} (hst : n.parent.st = psAlternate) :
    n.toOrphan = ((n.setParent psOrphan).keepUndelivered (n.undelivered 18)).emit 0 1 0x1A 0x0020 554
      (orphanAlarm ((n.undelivered 18).foldl (fun m t => m.keepUp t.slot t.msg) (n.setParent psOrphan)).ident) := by
  simp only [Node.toOrphan, if_pos hst]
  rfl

/-! ## A message that the alternate has not acknowledged -/

/-- A sentinel under its alternate parent, both lanes down: lane 18's replay buffer holds a record of its own, its recorder is frozen and in reset,
and the sizes of its records, which the spec leaves open (log 16), so decide nothing. -/
def unackedNode : Node :=
  { ((({ dev := .abl } : Node).wr Reg.ABL_NODE 0 0x20003).setB Reg.ABL_ENGINE_RESET 0 34 true).setB (Reg.REC_FREEZE .abl) 0 0 true with
    parent := { st := psAlternate, alternate := 7 }
    lanes := [(4 * 18, { replay := [{ seq := 0, cls := 1, bytes := 32, last := true, msg :=
      { port := 18, size := 32, at_ := 0, msg :=
        { origin := 0x20003, dest := 7, expire := 1000, cls := 1,
          body := .record { typ := 0x12, code := 1, src := 0, time := 0, seq := 0 } } } }] })] }

def unackedState : State := { ddu := { n := { dev := .ddu } }, abl := { n := unackedNode } }

/-- That sentinel once PARENT_SWITCH has told of its entry to ORPHAN. -/
def switchedNode : Node :=
  ({ unackedNode with parent := { unackedNode.parent with st := psOrphan } } : Node).told 0 1 Config.parentSwitchType Config.parentSwitchCode 554
    (Config.parentSwitchPayload psAlternate psOrphan)

theorem setParent_unackedNode : unackedNode.setParent psOrphan = switchedNode := Node.emit_of_unheard (by decide +kernel)

/-- What the loss of the parent leaves: PARENT_SWITCH, the unacknowledged record and the escalation are kept for the next parent. -/
theorem kept_of_parentLost :
    (unackedState.settleAbl (unackedState.abl.on Node.parentLost)).abl.n.parent.kept.length = 3 := by
  have hlost : unackedNode.parentLost = (switchedNode.keepUndelivered (unackedNode.undelivered 18)).told 0 1 0x1A 0x0020 554
      (orphanAlarm ((unackedNode.undelivered 18).foldl (fun m t => m.keepUp t.slot t.msg) switchedNode).ident) := by
    rw [Node.parentLost_of_alternate (by decide +kernel) rfl, Node.toOrphan_of_alternate rfl, setParent_unackedNode]
    exact Node.emit_of_unheard (by decide +kernel)
  change (unackedState.settleAbl { unackedState.abl with n := unackedNode.parentLost }).abl.n.parent.kept.length = 3
  rw [hlost, settleAbl_parent (by decide +kernel)]
  decide +kernel

/-- What a bare escalation would leave: the unacknowledged record is not kept. -/
theorem kept_of_bare_escalation :
    (unackedState.settleAbl { unackedState.abl with
      n := (unackedNode.setParent psOrphan).escalate 554 5 0 unackedNode.ident 0 }).abl.n.parent.kept.length = 2 := by
  have htold : switchedNode.escalate 554 5 0 unackedNode.ident 0 = switchedNode.told 0 1 0x1A 0x0020 554 (orphanAlarm unackedNode.ident) :=
    Node.emit_of_unheard (by decide +kernel)
  rw [setParent_unackedNode, htold, settleAbl_parent (by decide +kernel)]
  decide +kernel

/-- Refutes O1: its clause on the loss of the alternate parent says that the entry to ORPHAN changes the parent's state and escalates, and leaves out
that the upward messages which that parent has not acknowledged are kept for the next one (R38, log 38). -/
theorem not_parentCommandsComplete : ¬ Obligations.ParentCommandsComplete := by
  unfold Obligations.ParentCommandsComplete
  rintro ⟨-, -, -, -, halternate, -⟩
  have hclaim : exec .parentLost unackedState = .next (unackedState.settleAbl { unackedState.abl with
      n := (unackedNode.setParent psOrphan).escalate 554 5 0 unackedNode.ident 0 }) := halternate unackedState (by decide +kernel) rfl
  have hmodel : exec .parentLost unackedState = .next (unackedState.settleAbl (unackedState.abl.on Node.parentLost)) := rfl
  have hsame := Host.Outcome.next.inj (hmodel.symm.trans hclaim)
  have hkept := kept_of_parentLost
  rw [hsame, kept_of_bare_escalation] at hkept
  exact absurd hkept (by decide)

end Sys2Proof.Machine
end

section
/-!
SUPPORT. That every command completes (R64, R599, R629): by the way it reaches its device, it answers a next state and keeps the queue and the order
of the numbering.
-/

namespace Sys2Proof.Machine

/-! ## The ways a command reaches its device -/

/-- A command that acts on the DDU completes. -/
theorem completes_of_ddu {s s' : State} {r : Res} {d : Ddu} (h : Kept s s') (hr : r = .next (s'.settleDdu d)) : Completes s r :=
  ⟨_, hr, settleDdu_kept h d⟩

/-- A command that acts on the sentinel completes. -/
theorem completes_of_abl {s s' : State} {r : Res} {a : Abl} (h : Kept s s') (hr : r = .next (s'.settleAbl a)) : Completes s r :=
  ⟨_, hr, settleAbl_kept h a⟩

theorem completes_ite {s : State} {p : Prop} [Decidable p] {r r' : Res} (h : Completes s r) (h' : Completes s r') :
    Completes s (if p then r else r') := by split <;> assumption

/-- What a read or a write answers, and what a device becomes, are not of what is kept. -/
theorem Kept.answer (s : State) {d : Ddu} {v : Nat} {b : Bool} : Kept s { s with ddu := d, rdata := v, busErr := b } := ⟨rfl, le_refl _, id⟩

/-- The numbering of the open values goes on by as many as a command draws. -/
theorem Kept.drawn (s : State) {k : Nat} (h : s.free ≤ k) : Kept s { s with free := k } := ⟨rfl, h, id⟩

/-- The answer that an access gets at once, with no effect but the count of a refusal. -/
theorem answer_completes (s : State) {d : Ddu} {v : Nat} {b : Bool} : Completes s (.next { s with ddu := d, rdata := v, busErr := b }) :=
  ⟨_, rfl, .answer s⟩

theorem dduFast_completes (who : Requester) (s : State) (f : Ddu → Ddu) : Completes s (dduFast who s f) :=
  completes_ite (answer_completes s) (dduWrite_completes who s _)

theorem bothCmd_completes (s : State) (c : Cmd) (code : Nat) (f : Node → Node × Ans) : Completes s (bothCmd s c code f) :=
  onNode_completes (.refl s) _ _

theorem opRow_completes (c : Cmd) (code what : Nat) (s : State) : Completes s (opRow c code what s) := by
  unfold opRow
  split
  · exact completes_of_abl (.refl s) rfl
  · exact completes_of_ddu (.refl s) rfl

theorem dieOpCmd_completes (s : State) (c : Cmd) (code op : Nat) (f : Ddu → Ddu × Ans) : Completes s (dieOpCmd s c code op f) :=
  completes_ite (completes_of_ddu (.refl s) rfl) (completes_of_ddu (.refl s) rfl)

theorem lcCmd_completes (s : State) (c : Cmd) (op : Nat) (f : Abl → Abl × Ans) : Completes s (lcCmd s c op f) :=
  completes_ite (completes_of_abl (.refl s) rfl) (completes_of_abl (.refl s) rfl)

theorem syncCommand_completes (dev : Dev) (op : Nat) (f : SyncFrom) (q : SyncReq) (s : State) : Completes s (syncCommand dev op f q s) := by
  cases f <;> cases dev
  case localReq.ddu => exact dduWrite_completes _ s _
  case remote.ddu => exact completes_of_ddu (.refl s) rfl
  case localReq.abl | remote.abl => exact completes_of_abl (.refl s) rfl

/-! ## The commands whose way depends on the state or the operands -/

theorem execBwCfgWrite_completes (dev : Dev) (who : Requester) (w v : Word) (s : State) : Completes s (execBwCfgWrite dev who w v s) := by
  cases dev
  · exact dduFast_completes who s fun d => d.on fun n => n.bwWrite w v
  · exact ablWrite_completes _ s _

theorem execAcceptJump_completes (dev : Dev) (who : Requester) (s : State) : Completes s (execAcceptJump dev who s) := by
  cases dev
  · exact completes_ite (completes_of_ddu (.answer s) rfl) (answer_completes s)
  · exact ablWrite_completes _ s _

theorem execCntChainRead_completes (who : Requester) (k : Word) (s : State) : Completes s (execCntChainRead who k s) :=
  completes_ite (answer_completes s) (completes_ite (answer_completes s) (completes_of_ddu (.answer s) rfl))

theorem execTraceApertureRead_completes (who : Requester) (off : Word) (s : State) : Completes s (execTraceApertureRead who off s) :=
  completes_ite (answer_completes s) (completes_ite (answer_completes s) (completes_of_ddu (.answer s) rfl))

theorem execTimeNsRead_completes (dev : Dev) (s : State) : Completes s (execTimeNsRead dev s) := by
  cases dev
  · exact completes_ite (completes_of_ddu (.answer s) rfl) (answer_completes s)
  · exact completes_of_abl (.answer s) rfl

theorem execMailboxPost_completes (c : Cmd) (s : State) : Completes s (execMailboxPost c s) := by
  unfold execMailboxPost
  split
  · exact completes_of_abl (.refl s) rfl
  · exact completes_of_ddu (.refl s) rfl

theorem execEventWrite_completes (path : Word) (r : Record) (s : State) : Completes s (execEventWrite path r s) := by
  refine completes_ite (completes_of_ddu (.refl s) rfl) ?_
  split <;> exact completes_of_abl (.refl s) rfl

theorem execFwUpdate_completes (c : Cmd) (host : Option (List Byte)) (s : State) : Completes s (execFwUpdate c host s) :=
  completes_ite (completes_of_abl (.refl s) rfl) (completes_of_abl (.refl s) rfl)

theorem execFwCommit_completes (c : Cmd) (host : Option (List Byte)) (s : State) : Completes s (execFwCommit c host s) :=
  completes_ite (completes_of_abl (.refl s) rfl) (completes_of_abl (.refl s) rfl)

/-- CMP_DESC_DONE draws a value for each byte that it reads outside the memory, and for each byte of its output. -/
theorem execCmpDescDone_completes (q : Word) (s : State) : Completes s (execCmpDescDone q s) := by
  unfold execCmpDescDone
  exact completes_of_abl (.drawn s (Nat.add_assoc .. ▸ Nat.le_add_right _ _)) rfl

/-- An aperture write is a store, which keeps the memory's canonical form. -/
theorem execApertureAccess_completes (x len : Word) (write : Bool) (data : List Byte) (s : State) :
    Completes s (execApertureAccess x len write data s) := by
  refine completes_ite (completes_of_abl ?_ rfl) (completes_of_abl (.answer s) rfl)
  split
  · exact ⟨rfl, le_refl _, fun h => store_wf h _⟩
  · exact .refl s

/-! ## Every command -/

/-- Every command of the table completes, by the way it reaches its device. -/
theorem exec_completes (c : Instr) (s : State) : Completes s (exec c s) := by
  cases c with
  | eventBusCycle | preaccFold | hostActiveRise | hostActiveFall | dduResetRelease | corePgoodFall | cntWrap | cntChained | cntFreezeExpiry
  | sensorStale | traceTapRetire | tapFifoRecover | tracePeriodicSync | traceDisableDrainEnd | tracePostDone | traceAreaFull
  | traceSpillBlock | traceResume | traceExportBlock | snapAtFrameRx | fallbackExit | fbGuestRequestRx | fbRefusedRx | fbListRetry
  | fbHostSilence | fbRingMessage | summaryWindowClose | scrubTimeout | jobHoldExpiry | sourceFenceComplete | lrbEvaluate | lrbFloorExpiry
  | snoopSlotServe | snoopSlotComplete | secureSlotServe | secureDieDone | dieLedgerMount | dieLedgerJournal | dduSlackExit | capStale
  | demandReport | phaseSignatureTick | powerLoopWindow | railRecalEnd | railWatchEnd | phaseTableSave | reverseTimeout | hostRepeatTile
  | hostSetPattern | dduDebugExpiry | reverseMailboxComplete | markerAccept | markerProcess | checksumReportAccept | abftCheck
  | fastDomainStart | fastDomainReady | fastIdleExpiry | droopDetect | clkStretchHoldEnd | regAckRx | regReqTimeout | subresetDrainEnd
  | subresetDone | dduAliveRaise | epochCloseComplete | dieIdent | dieRegWrite | dieCap | dieSlack | dieSuspect | dieProfile | dieSecCut
  | dieSecCommit | dieRepeat | dieCampaign | dieQuery =>
    exact completes_of_ddu (.refl s) rfl
  | parentLost | attachRequestRx | attachAckRx | attachRefusedRx | attachResendTimer | attachTimeout | orphanRetry | ptpMessageRx
  | holdoverAlarm | ppsInEdge | ppsOutDue | ppsOutEnd | launchDue | dieSummaryRx | nodeSummaryRx | inputWindowClose | barrierArrivalRx
  | barrierPartRx | barrierTimeout | fanPendingRx | fanAckRx | fanAckTimeout | fanPendingTimer | fanDeadline | fanRelayRx | fanRelayAckRx
  | uschEnqueue | uschPick | uschSample | jobEntryScrubDone | jobGuardExpiry | treeSampleComplete | riskLevelFall | riskScoreStale
  | modelLoadDone | treeScrubPass | treeWakeDone | snoopDataRx | bundleLanded | slicePlace | sliceRunDone | sliceRunTimeout | gridCoreFault
  | meshDeliver | katRunStart | progLoadDone | ctxScrubDone | gridWakeDone | gridIdleExpiry | chkMismatchRx | epochSummaryRx | epochFenceRx
  | verdictWaitTimeout | failureClassify | classifyTimeout | repeatTimeout | unitObservationClear | campaignCellDwell | campaignCellLeave
  | campaignTimeLimit | secureRequestTimer | passLimitExpiry | restoreDoneRx | secureHoldExpiry | cmpSubmit | drainProposalRx | bwDecisionRx
  | bwResendTimer | bwWindowExpiry | hsAppend | hsAppendDurable | hsMount | pwrfailAssert | pwrfailRelease | superblockWriteDue
  | compactionStart | compactionDone | compactionResume | hsDayBucket | exposureFlush | baselineSave | reconcile | reconcileRetry
  | exportSuspendTimeout | hsOpDone | slackEntryDone | sentinelWake | sentinelWakeDone | wakeAtDue | domainDemand | domainReady
  | domainIdleExpiry | budgetDivision | capAckRx | sentinelPowerLoop | engineResetStart | engineResetDrainEnd | engineResetDone | mcReset
  | commandDatagram | eventRdWrite | eventResend | stageIdleFree | handleGuardExpiry | functionReset | busMasterChange | recoveryImagePost
  | bootReportRx | debugSessionExpiry | debugChallengeExpiry | profileConsentExpiry | fwBootTimeout | aonPgoodRise | aonPgoodFall
  | mainPgoodRise | mainPgoodFall | mainEnRestart | resetNAssert | internalResetEnd | bootStageDone | perstRelease | thermtrip | refclkLoss
  | refclkRelock | trayNeapHoldExpiry | exportSegmentDone | dtlsHandshakeRx | eventAck | stageOpen | stageWrite | stageClose | stageRead
  | stageFree | timeConfig | timeAcceptJump | snapAt | ppsConfig | setTrayBudget | setPowerState | setSelfLimits | setParents
  | returnToPrimary | setChild | setRing | setRole | faultClear | restoreSource | faultConfig | inject | gateFail | bwConfig | bwReport
  | bwOverride | jobStart | jobEnd | groupRegister | groupRelease | rankmapLoad | metLoad | uschSet | modelLoad | modelUnload | modelBind
  | progLoad | progUnload | ctxBind | ctxUnbind | gridSweep | verdictConfig | campaignStart | secPolicy | restore | restoreLoaded
  | ledgerCompact | ledgerExport | ledgerFormatCommit | ledgerQuery | traceExport | traceTrigger | profileEnable | profileDisable | attest
  | debugOpen | debugClose | secureRequestRx | secureDieDoneRx | secureDataRx | shareDataRx | shareAckRx | trayCutDoneRx | sharesLostRx
  | hsOpRead | hsOpProgram | hsOpErase | hsOpProgramMark =>
    exact completes_of_abl (.refl s) rfl
  | bwWindowClose dev | recFreezeExpiry dev | faultSubwindowAdvance dev | channelFailure dev | channelRetry dev | interruptRequest dev
  | aicEoi dev | aicSgi dev | aicCfgWrite dev | watchdogKick dev | watchdogWarning dev | abortCopyRx dev | timeReqSend dev | timeReqRx dev
  | flitTime dev | messageRx dev | fanKeepExpiry dev | syncStateRx dev | syncGuardExpiry dev | faultEvent dev | probationEnd dev
  | watchdogExpiry dev | mcLoadTick dev | timeTick dev | timeWrap dev | slewEnd dev | timeRespRx dev | timeSourceLost dev | flitRx dev
  | signalDetect dev | trainComplete dev | trainTimeout dev | signalLost dev | laneFailure dev | noFlitTimeout dev | resetNoticeRx dev
  | backoffExpiry dev | earlyLossWithdraw dev | jobStartDeliver dev | jobEndDeliver dev | groupRegisterDeliver dev | groupReleaseDeliver dev
  | secureCutDeliver dev | secureCommitDeliver dev | secureAbandonDeliver dev | secureReleaseDeliver dev | restoreDeliver dev =>
    cases dev
    · exact completes_of_ddu (.refl s) rfl
    · exact completes_of_abl (.refl s) rfl
  | subresetStart | sourceFence => unfold exec; exact dduWrite_completes _ s _
  | cntSelWrite | cntClear | cntFreezeWrite | traceEnable | traceDisable | trigNow | rearm | traceSpillRdWrite | chkLastClear
  | cellTedgeWrite | snoopPost | securePost | secureLate =>
    unfold exec; exact dduFast_completes _ s _
  | pcntLatch | pcntClear | ppsNextWrite | launchEnqueue | launchFlush | metSlotWrite | fanStart | uschJobWrite | treeSubmit =>
    unfold exec; exact ablWrite_completes _ s _
  | recFreezeWrite dev | recRlWrite dev | lnkCtrlWrite dev | retrain dev | timeIncrWrite dev | slewTicksWrite dev | timeLoad dev =>
    unfold exec
    cases dev
    · exact dduWrite_completes _ s _
    · exact ablWrite_completes _ s _
  | syncFence dev =>
    unfold exec
    cases dev
    · exact dduWrite_completes _ s _
    · exact completes_of_abl (.refl s) rfl
  | registerWrite dev | rcRegisterRead dev | aicClaim dev =>
    cases dev
    · exact completes_of_ddu (.answer s) rfl
    · exact completes_of_abl (.answer s) rfl
  | hostWideRead => exact completes_of_abl (.answer s) rfl
  | sensorSample | scrubComplete => exact completes_of_ddu (.drawn s (Nat.le_add_right _ 1)) rfl
  | psampSample | streamLoadDone | endStream | load | loadAsync | wait | send | recv | mma | vecAdd | vecSub | vecMul | vecFma | vecMin
  | vecMax | vecSqrt | vecRcp | vecRsqrt | vecExp2 | vecLog2 | vecTanh | vecExp | vecSigmoid | vecSilu | vecGeluTanh | vecSoftmax
  | vecRmsnorm | vecSum | vecMaxReduce | cvt | cvtQuant | cmp | loop | debugChallenge =>
    exact completes_of_abl (.drawn s (Nat.le_add_right _ 1)) rfl
  | fwSlotWriteDone => exact completes_of_abl (.drawn s (Nat.le_add_right _ 16)) rfl
  | cmpDescDone => exact execCmpDescDone_completes ..
  | dduResetAssert | dduAonPgoodFall | dduAonPgoodRise => exact ⟨_, rfl, .answer s⟩
  | hello | fence | opQuery | getInfo => exact bothCmd_completes ..
  | opSuspend | opResume | opCancel => exact opRow_completes ..
  | dieFaultClear | dieFaultRestore | dieFaultConfigure | dieFaultInject | dieLedgerRead | dieLedgerWrite | dieTraceTrigger
  | dieTraceExportStart | dieTraceExportSuspend | dieTraceExportResume | dieTraceExportCancel =>
    exact dieOpCmd_completes ..
  | lifecycleSecure | lifecycleRma | lifecycleDecommission | keyAdd | keyRevoke => exact lcCmd_completes ..
  | syncAlloc | syncSet | syncAdd | syncMax | syncFail | syncArm | syncRelease | syncQuery | syncReach | syncStateApply =>
    exact syncCommand_completes ..
  | bwCfgWrite => exact execBwCfgWrite_completes ..
  | acceptJump => exact execAcceptJump_completes ..
  | cntChainRead => exact execCntChainRead_completes ..
  | traceApertureRead => exact execTraceApertureRead_completes ..
  | timeNsRead => exact execTimeNsRead_completes ..
  | mailboxPost => exact execMailboxPost_completes ..
  | eventWrite => exact execEventWrite_completes ..
  | apertureAccess => exact execApertureAccess_completes ..
  | fwUpdate => exact execFwUpdate_completes ..
  | fwCommit => exact execFwCommit_completes ..

/-- Settles O43: every command completes, and completing keeps the queue and the order of the numbering. -/
theorem everyCommandCompletes : Obligations.EveryCommandCompletes := by
  unfold Obligations.EveryCommandCompletes
  intro c s
  obtain ⟨t, hnext, hkept⟩ := exec_completes c s
  exact ⟨t, hnext, hkept.pending, hkept.free⟩

end Sys2Proof.Machine
end

section
/-!
SUPPORT. Commands that write one register (R47, R74, R86, R127, R174, R548, R582, R585, R612): what they leave of a device with nothing in hand.
-/

namespace Sys2Proof.Machine

open Safety

/-! ## One register -/

/-- A write of a register leaves every other register, and everything beside the registers. -/
theorem onlyReg_wr (n : Node) (r : RegDef) (i v : Nat) : OnlyReg n (n.wr r i v) (r.addr i) := ⟨fun _ _ h => rd_wr_ne h.symm, rfl⟩

/-- A counter below its width counts exactly. -/
theorem rd_bump {n : Node} {r : RegDef} {i k : Nat} (h : n.rd r i + k < 2 ^ r.width) : (n.bump r i k).rd r i = n.rd r i + k := by
  rw [Node.bump, rd_wr, if_pos h, Nat.mod_eq_of_lt h]

/-! ## Writes of the DDU's registers (R64, R75) -/

theorem dduWrite_of_may {who : Requester} {s : State} (hwho : who ≠ .unprivileged) (hans : s.ddu.answers who = true) (f : Ddu → Ddu) :
    dduWrite who s f = onDdu { s with busErr := false } f := by simp [dduWrite, hwho, hans]

/-- An access to a fast domain that is up, and not on its way up, changes nothing. -/
theorem Ddu.fastAccess_of_up {d : Ddu} (hup : d.n.bit Reg.DDU_STATUS 0 2 = true) (hstart : d.n.bit Reg.DDU_STATUS 0 1 = false) :
    d.fastAccess = d := by simp [Ddu.fastAccess, Ddu.fastStart, Ddu.fastReady, hup, hstart]

theorem dduFast_of_up {who : Requester} {s : State} (hwho : who ≠ .unprivileged) (hans : s.ddu.answers who = true)
    (hup : s.ddu.n.bit Reg.DDU_STATUS 0 2 = true) (hstart : s.ddu.n.bit Reg.DDU_STATUS 0 1 = false) (f : Ddu → Ddu) :
    dduFast who s f = .next (({ s with busErr := false } : State).settleDdu (f s.ddu)) := by
  have hfast := Ddu.fastAccess_of_up hup hstart
  rw [dduFast, hfast, dduWrite_of_may hwho hans]
  simp [Ddu.fastUp, hup, onDdu, hfast]

theorem Ddu.subWrite_of_decommissioned {d : Ddu} (h : d.n.fld Reg.DDU_STATUS 0 8 3 = 4) (v cause : Nat) :
    d.subWrite v cause = d.bump Reg.DDU_ACCESS_DENIED := by simp [Ddu.subWrite, h]

/-- Settles O55: the write reaches the DDU, which counts it and does nothing else. -/
theorem noSubresetWhenDecommissioned : Obligations.NoSubresetWhenDecommissioned := by
  unfold Obligations.NoSubresetWhenDecommissioned
  intro s who v hwho hans hlife
  refine ⟨s.ddu.bump Reg.DDU_ACCESS_DENIED, ?_, rfl, onlyReg_wr .., rd_bump⟩
  change dduWrite who s (fun d => d.subWrite v (subCause who)) = _
  rw [dduWrite_of_may hwho hans, onDdu, Ddu.subWrite_of_decommissioned hlife]

/-! ## A quiet device after a write of one register -/

/-- A DDU with nothing in hand has nothing in hand after a write of a register that is neither its idle wait nor its watermark. -/
theorem quietDdu_wr {d : Ddu} {r : RegDef} {i : Nat} (h : QuietDdu d) (hctrl : r.addr i ≠ Reg.DDU_CTRL.addr 0)
    (hmark : r.addr i ≠ Reg.DDU_TRC_SPILL_WMARK.addr 0) (v : Nat) : QuietDdu (d.wr r i v) := by
  obtain ⟨hn, hqueue, hidle, htrace, hwater⟩ := h
  refine ⟨hn, hqueue, ?_, htrace, ?_⟩
  · rwa [Ddu.wr_n, Node.fld, rd_wr_ne hctrl]
  · rwa [Ddu.wr_n, rd_wr_ne hmark]

/-- What a command leaves that writes one register of a quiet DDU. -/
theorem frame_of_exec_wr_ddu {s : State} {c : Instr} {r : RegDef} {i v : Nat} {err : Bool} (hquiet : QuietDdu s.ddu)
    (hctrl : r.addr i ≠ Reg.DDU_CTRL.addr 0) (hmark : r.addr i ≠ Reg.DDU_TRC_SPILL_WMARK.addr 0)
    (hexec : exec c s = .next (({ s with busErr := err } : State).settleDdu (s.ddu.wr r i v))) :
    ∃ t, exec c s = .next t ∧ OnlyDdu s t ∧ OnlyReg s.ddu.n t.ddu.n (r.addr i) ∧ { t.ddu with n := s.ddu.n } = s.ddu := by
  refine ⟨_, hexec, ⟨rfl, rfl, rfl⟩, ?_⟩
  rw [State.settleDdu_ddu, Ddu.carry_of_quiet (quietDdu_wr hquiet hctrl hmark v)]
  exact ⟨onlyReg_wr .., rfl⟩

/-- A sentinel's management port is down as before where neither the engine resets nor the isolated sources have changed. -/
theorem Node.mgmtDown_wr {n : Node} {r : RegDef} {i p : Nat} (hreset : r.addr i ≠ Reg.ABL_ENGINE_RESET.addr 0)
    (hiso : r.addr i ≠ Reg.ABL_FLT_ISO.addr ((647 + (p - 24)) / 32)) (v : Nat) : (n.wr r i v).mgmtDown p = n.mgmtDown p := by
  simp only [Node.mgmtDown, Node.arrBit, Node.bit, rd_wr_ne hreset, rd_wr_ne hiso]

/-- Only the ports 24 and 25 can be lost as the source of time (R168). -/
theorem Abl.ptpDown_of_ports {old a : Abl} (h24 : a.n.mgmtDown 24 = old.n.mgmtDown 24) (h25 : a.n.mgmtDown 25 = old.n.mgmtDown 25) :
    old.ptpDown a = a := by
  refine if_neg ?_
  simp only [Bool.and_eq_true, Bool.or_eq_true, decide_eq_true_eq, Bool.not_eq_true', not_and, Bool.not_eq_false, and_imp]
  rintro - (hp | hp) hdown
  · rwa [hp, ← h24, ← hp]
  · rwa [hp, ← h25, ← hp]

/-- The registers that a sentinel looks at once a command is done. -/
def watched : List Nat := [Reg.ABL_PWR_STATE.addr 0, Reg.ABL_ENGINE_RESET.addr 0, Reg.ABL_FLT_ISO.addr 20]

/-- After a write of a register that it does not watch, a quiet sentinel ends with the mirrored fields brought up to date. -/
theorem Abl.carryFrom_wr {a : Abl} {r : RegDef} {i : Nat} (hquiet : QuietAbl a) (hr : r.addr i ∉ watched) (v : Nat) :
    a.carryFrom (a.on fun n => n.wr r i v) = (a.on fun n => n.wr r i v).on Node.mirrorStatus := by
  simp only [watched, List.mem_cons, List.not_mem_nil, or_false, not_or] at hr
  obtain ⟨hpower, hreset, hiso⟩ := hr
  have hq : QuietAbl (a.on fun n => n.wr r i v) := hquiet
  have hsame : (a.on fun n => n.wr r i v).n.pwrState = a.n.pwrState := by
    simp only [Abl.on_n, Node.pwrState, Node.fld, rd_wr_ne hpower]
  have hport : a.ptpDown (a.on fun n => n.wr r i v) = a.on fun n => n.wr r i v :=
    Abl.ptpDown_of_ports (Node.mgmtDown_wr hreset hiso v) (Node.mgmtDown_wr hreset hiso v)
  generalize a.on (fun n => n.wr r i v) = b at *
  have hfollow := Abl.follow_of_quiet hq
  obtain ⟨⟨hdue, -⟩, -, -, hmsi, -, -, -, -, -, -, -, -, -, -, hop⟩ := hq
  have hhold : (b.on fun n => { n with opHold := b.ingestFull 4096 }) = b := by rw [← hop]; rfl
  rw [Abl.carryFrom, Abl.carryN_of_due_nil hdue, hfollow, hport, Abl.carryN_of_due_nil hdue, hhold, Abl.views_of_pwrState_eq hsame]
  exact Abl.msixOut_of_msi_nil hmsi

/-- What a command leaves that writes one register of a quiet sentinel. -/
theorem frame_of_exec_wr_abl {s : State} {c : Instr} {r : RegDef} {v : Nat} (hquiet : QuietAbl s.abl) (hout : s.abl.out = [])
    (hwipe : s.abl.wipe = false) (hr : r.addr 0 ∉ watched) (hexec : exec c s = .next (s.settleAbl (s.abl.on fun n => n.wr r 0 v))) :
    ∃ t, exec c s = .next t ∧ OnlyAbl s t ∧ t.mem = s.mem ∧ { t.abl with n := s.abl.n } = s.abl ∧
      { t.abl.n with regs := s.abl.n.regs } = s.abl.n ∧
      ∀ (q : RegDef) (j : Nat), q.addr j ≠ r.addr 0 → q.addr j ≠ Reg.ABL_STATUS.addr 0 → t.abl.n.rd q j = s.abl.n.rd q j := by
  have hput : s.settleAbl (s.abl.on fun n => n.wr r 0 v) = { s with abl := (s.abl.on fun n => n.wr r 0 v).on Node.mirrorStatus } := by
    rw [State.settleAbl, Abl.carryFrom_wr hquiet hr]
    exact putAbl_of_no_writes hout hwipe
  rw [hput] at hexec
  refine ⟨_, hexec, ⟨rfl, rfl, rfl, rfl⟩, rfl, rfl, rfl, fun q j hq hstatus => ?_⟩
  simp only [Abl.on_n, Node.mirrorStatus, Node.setFld, rd_wr_ne hstatus.symm, rd_wr_ne hq.symm]

/-! ## The commands that set one register -/

section

variable {s : State} {who : Requester}

theorem exec_cntFreezeWrite_one (hwho : who ≠ .unprivileged) (hans : s.ddu.answers who = true) (hup : s.ddu.n.bit Reg.DDU_STATUS 0 2 = true)
    (hstart : s.ddu.n.bit Reg.DDU_STATUS 0 1 = false) (h : s.ddu.n.bit Reg.DDU_CNT_FREEZE 0 0 = false) :
    exec (.cntFreezeWrite who 1) s =
      .next (({ s with busErr := false } : State).settleDdu (s.ddu.on fun n => n.setB Reg.DDU_CNT_FREEZE 0 0 true)) := by
  have h0 : Machine.bit 1 0 = true := by decide
  have h1 : Machine.bit 1 1 = false := by decide
  have hset : s.ddu.n.cntFreeze 1 = s.ddu.n.setB Reg.DDU_CNT_FREEZE 0 0 true := by simp [Node.cntFreeze, h, h0, h1]
  change dduFast who s (fun d => d.on fun n => n.cntFreeze 1) = _
  rw [dduFast_of_up hwho hans hup hstart, Ddu.on, hset, Ddu.on]

/-- The host's cursor moves to a block boundary that the spill has reached (R127). -/
theorem exec_traceSpillRdWrite_of_between {v : Nat} (hwho : who ≠ .unprivileged) (hans : s.ddu.answers who = true)
    (hup : s.ddu.n.bit Reg.DDU_STATUS 0 2 = true) (hstart : s.ddu.n.bit Reg.DDU_STATUS 0 1 = false)
    (hlo : s.ddu.rd Reg.DDU_TRC_SPILL_RD ≤ v) (hhi : v ≤ s.ddu.rd Reg.DDU_TRC_SPILL_WR) (halign : v % 4096 = 0) :
    exec (.traceSpillRdWrite who v) s = .next (({ s with busErr := false } : State).settleDdu (s.ddu.wr Reg.DDU_TRC_SPILL_RD 0 v)) := by
  change dduFast who s (fun d => d.spillRd v) = _
  rw [dduFast_of_up hwho hans hup hstart]
  simp [Ddu.spillRd, Nat.not_lt.2 hlo, Nat.not_lt.2 hhi, halign]

theorem exec_chkLastClear (hwho : who ≠ .unprivileged) (hans : s.ddu.answers who = true) (hup : s.ddu.n.bit Reg.DDU_STATUS 0 2 = true)
    (hstart : s.ddu.n.bit Reg.DDU_STATUS 0 1 = false) :
    exec (.chkLastClear who) s = .next (({ s with busErr := false } : State).settleDdu (s.ddu.wr Reg.DDU_CHK_LAST 0 0)) := by
  change dduFast who s (fun d => d.wr Reg.DDU_CHK_LAST 0 0) = _
  rw [dduFast_of_up hwho hans hup hstart]

/-- A cap that has not been confirmed for 100 ms is stale (R548). -/
theorem exec_capStale_of_late (hpwr : s.ddu.pwr ≠ 0) (hlate : s.ddu.pw.capAt + 100000000 ≤ s.ddu.n.local) :
    exec .capStale s = .next (s.settleDdu (s.ddu.on fun n => n.setB Reg.DDU_PWR_STATE 0 8 true)) := by
  change onDdu s Ddu.capStale = _
  simp [onDdu, Ddu.capStale, hpwr, hlate]

theorem onDduLive_of_live (h : s.ddu.live = true) (f : Ddu → Ddu) : onDduLive s f = .next (s.settleDdu (f s.ddu)) := by
  simp [onDduLive, onDdu, h]

/-- The fast domain starts where it is neither up nor on its way, and the core supply is good outside Slack (R47). -/
theorem Ddu.fastStart_of_down {d : Ddu} (hup : d.n.bit Reg.DDU_STATUS 0 2 = false) (hstart : d.n.bit Reg.DDU_STATUS 0 1 = false)
    (hgood : d.bnd.corePgood = true) (hpwr : d.pwr ≠ 0) : d.fastStart = d.on fun n => n.setB Reg.DDU_STATUS 0 1 true := by
  simp [Ddu.fastStart, hup, hstart, hgood, hpwr]

theorem exec_fastDomainStart_of_down (hlive : s.ddu.live = true) (hup : s.ddu.n.bit Reg.DDU_STATUS 0 2 = false)
    (hstart : s.ddu.n.bit Reg.DDU_STATUS 0 1 = false) (hgood : s.ddu.bnd.corePgood = true) (hpwr : s.ddu.pwr ≠ 0) :
    exec .fastDomainStart s = .next (s.settleDdu (s.ddu.on fun n => n.setB Reg.DDU_STATUS 0 1 true)) := by
  change onDduLive s Ddu.fastStart = _
  rw [onDduLive_of_live hlive, Ddu.fastStart_of_down hup hstart hgood hpwr]

theorem exec_launchEnqueue_of_full (h : 32 ≤ s.abl.n.timex.launch.length) :
    exec (.launchEnqueue .firmware) s = .next (s.settleAbl (s.abl.on fun n => n.setB Reg.ABL_LAUNCH_STATUS 0 8 true)) := by
  change onAbl s (fun a => a.on Node.launchBuilt) = _
  simp [onAbl, Abl.on, Node.launchBuilt, Node.launchEnqueue, h]

/-- A host that asks for the reset of an engine is refused (R582). -/
theorem exec_engineResetStart_bar0 {v : Nat} (hpos : 0 < v) (hlt : v < 9223372036854775808) :
    exec (.engineResetStart .bar0 v) s = .next (s.settleAbl (s.abl.on fun n => n.bump Reg.ABL_ENGINE_RESET_DENIED)) := by
  have hbit : bit v 63 = false := by simp [bit, Nat.div_eq_of_lt hlt]
  have hmod : v % 9223372036854775808 ≠ 0 := by omega
  change onAbl s (fun a => a.engWrite true v) = _
  simp [onAbl, Abl.engWrite, hbit, hmod]

theorem exec_watchdogKick_of_bad {v : Nat} (hdev : s.abl.n.dev = .abl) (hv : v ≠ 0x4B49) (core : Nat) :
    exec (.watchdogKick .abl core v) s = .next (s.settleAbl (s.abl.on fun n => n.bump Reg.ABL_MC_WDOG_BADKICK)) := by
  change onAbl s (fun a => a.on fun n => n.wdogKick core v) = _
  simp [onAbl, Abl.on, Node.wdogKick, hv, hdev]

theorem exec_eventRdWrite_of_beyond {p v : Nat} (h : s.abl.n.rd Reg.ABL_MB_EVT_WR p < v) :
    exec (.eventRdWrite p v) s = .next (s.settleAbl (s.abl.on fun n => n.bump Reg.ABL_MB_DISCARDED)) := by
  change onAbl s (fun a => a.on fun n => n.evRead p v) = _
  simp [onAbl, Abl.on, Node.evRead, h]

end

/-- Settles O58: each command by the register that it writes. -/
theorem registerCommandFrames : Obligations.RegisterCommandFrames := by
  unfold Obligations.RegisterCommandFrames
  constructor
  · intro s c r i hquiet hlive hpwr hcmd
    obtain ⟨who, hwho, hans, hup, hstart, rfl, hfrozen, rfl, rfl⟩ | ⟨who, v, hwho, hans, hup, hstart, rfl, rfl, rfl, hlo, hhi, halign⟩ |
      ⟨who, hwho, hans, hup, hstart, rfl, rfl, rfl⟩ | ⟨rfl, hlate, rfl, rfl⟩ | ⟨rfl, hup, hstart, hgood, rfl, rfl⟩ := hcmd
    · exact frame_of_exec_wr_ddu hquiet (by decide) (by decide) (exec_cntFreezeWrite_one hwho hans hup hstart hfrozen)
    · exact frame_of_exec_wr_ddu hquiet (by decide) (by decide) (exec_traceSpillRdWrite_of_between hwho hans hup hstart hlo hhi halign)
    · exact frame_of_exec_wr_ddu hquiet (by decide) (by decide) (exec_chkLastClear hwho hans hup hstart)
    · exact frame_of_exec_wr_ddu hquiet (by decide) (by decide) (exec_capStale_of_late hpwr hlate)
    · exact frame_of_exec_wr_ddu hquiet (by decide) (by decide) (exec_fastDomainStart_of_down hlive hup hstart hgood hpwr)
  · intro s c r hquiet hout hwipe hdev hcmd
    obtain ⟨rfl, hfull, rfl⟩ | ⟨v, rfl, hpos, hlt, rfl⟩ | ⟨core, v, rfl, hbad, rfl⟩ | ⟨p, v, rfl, hbeyond, rfl⟩ := hcmd
    · exact frame_of_exec_wr_abl hquiet hout hwipe (by decide) (exec_launchEnqueue_of_full hfull)
    · exact frame_of_exec_wr_abl hquiet hout hwipe (by decide) (exec_engineResetStart_bar0 hpos hlt)
    · exact frame_of_exec_wr_abl hquiet hout hwipe (by decide) (exec_watchdogKick_of_bad hdev hbad core)
    · exact frame_of_exec_wr_abl hquiet hout hwipe (by decide) (exec_eventRdWrite_of_beyond hbeyond)

end Sys2Proof.Machine
end

section
/-!
SUPPORT. What the commands at the die's boundary do (R47, R48, R52 to R56, R61, R62, R542, R559), one lemma for each way that an operation goes.
-/

namespace Sys2Proof.Machine

/-! ## Markers and reports (R52 to R56) -/

theorem Ddu.live_of_alive {d : Ddu} (h : d.alive = true) : d.live = true := by
  rw [Ddu.alive, Bool.and_eq_true] at h
  exact h.1

/-- What comes in rouses neither a DDU outside Slack nor a fast domain that is up. -/
theorem Ddu.arouse_of_up {d : Ddu} (hpwr : d.pwr ≠ 0) (hup : d.n.bit Reg.DDU_STATUS 0 2 = true) (cause : Nat) : d.arouse cause = d := by
  simp [Ddu.arouse, Ddu.leaveSlack, Ddu.fastStart, hpwr, hup]

theorem Ddu.markerAccept_of_room {d : Ddu} {m : Nat} (halive : d.alive = true) (hpwr : d.pwr ≠ 0) (hup : d.n.bit Reg.DDU_STATUS 0 2 = true)
    (hroom : d.bnd.markFifo.length < 256) (hlo : 1 ≤ bits m 60 4) (hhi : bits m 60 4 ≤ 4) :
    d.markerAccept m = { d with bnd := { d.bnd with markFifo :=
      d.bnd.markFifo ++ [(m, d.n.now, !d.bnd.markFifo.isEmpty || !d.n.bankRuns, d.chk.accepted)] } } := by
  have hkind : ¬ (bits m 60 4 = 0 ∨ 4 < bits m 60 4) := by omega
  simp [Ddu.markerAccept, Ddu.arouse_of_up hpwr hup, halive, Nat.not_le.2 hroom, hkind]

/-- A phase marker that is no trigger of the trace (R551). -/
theorem Ddu.markerProcess_of_phase {d : Ddu} {m stamp before : Nat} {late : Bool} {rest : List (Nat × Nat × Bool × Nat)}
    (hruns : d.n.bankRuns = true) (hfifo : d.bnd.markFifo = (m, stamp, late, before) :: rest) (hkind : bits m 60 4 = 3)
    (htrig : bits (d.rd Reg.DDU_TRC_TRIG_MARK) 28 4 ≠ 3) :
    d.markerProcess = ({ d with bnd := { d.bnd with markFifo := rest } } : Ddu).phaseMarker (bits m 48 6) := by
  rw [Ddu.rd] at htrig
  simp [Ddu.markerProcess, Ddu.rd, hfifo, hruns, hkind, htrig]

theorem Ddu.reportAccept_of_room {d : Ddu} {r : Report} (halive : d.alive = true) (hpwr : d.pwr ≠ 0) (hup : d.n.bit Reg.DDU_STATUS 0 2 = true)
    (hroom : d.bnd.chkFifo.length < 1024) :
    d.reportAccept r = ({ d with bnd := { d.bnd with chkFifo := d.bnd.chkFifo ++ [(r, d.cellOf (r.unit % 512))] }
                                 chk := { d.chk with accepted := d.chk.accepted + 1 } } : Ddu).chkView := by
  simp [Ddu.reportAccept, Ddu.arouse_of_up hpwr hup, halive, hroom]

/-- A report of the job, and of an epoch that is open, is checked (R56). -/
theorem Ddu.abftCheck_of_open {d d' : Ddu} {r : Report} {cell k : Nat} {rest : List (Report × Nat)} (hfifo : d.bnd.chkFifo = (r, cell) :: rest)
    (hup : d.n.bit Reg.DDU_STATUS 0 2 = true) (hreset : d.n.bit Reg.DDU_SUBRESET 0 8 = false)
    (hd' : d' = ({ d with bnd := { d.bnd with chkFifo := rest } } : Ddu).chkView) (hjob : r.jobtag = d'.jobTag)
    (hopen : d'.attemptOf r.epoch = some k) : d.abftCheck = d'.reportCheck r cell k := by
  subst hd'
  simp [Ddu.abftCheck, hfifo, hup, hreset, hjob, hopen]

/-! ## The fast domain (R47, R48, R542) -/

theorem Ddu.setPwr_of_same {d : Ddu} {st : Nat} (h : d.pwr = st) (cause : Nat) : d.setPwr st cause = d := if_pos h

/-- In Flood HOST_ACTIVE starts the fast domain and leaves the power state (R47). -/
theorem Ddu.hostRise_of_flood {d : Ddu} (hpwr : d.pwr = 2) (hup : d.n.bit Reg.DDU_STATUS 0 2 = false)
    (hstart : d.n.bit Reg.DDU_STATUS 0 1 = false) (hgood : d.bnd.corePgood = true) :
    d.hostRise = ({ d with bnd := { d.bnd with hostActive := true } } : Ddu).on fun n => n.setB Reg.DDU_STATUS 0 1 true := by
  have hpwr' : ({ d with bnd := { d.bnd with hostActive := true } } : Ddu).pwr = 2 := hpwr
  simp only [Ddu.hostRise, hpwr', Ddu.setPwr_of_same hpwr']
  exact Ddu.fastStart_of_down hup hstart hgood (by simp [hpwr'])

theorem Ddu.hostFall_of_flood {d : Ddu} (hpwr : d.pwr = 2) :
    d.hostFall = ({ d with bnd := { d.bnd with hostActive := false, lowAt := d.n.local - 10000 } } : Ddu).setPwr 1 5 := if_pos hpwr

theorem Ddu.hostFall_of_not_flood {d : Ddu} (hpwr : d.pwr ≠ 2) :
    d.hostFall = { d with bnd := { d.bnd with hostActive := false, lowAt := d.n.local - 10000 } } := if_neg hpwr

theorem Ddu.fastReady_of_starting {d : Ddu} (h : d.n.bit Reg.DDU_STATUS 0 1 = true) :
    d.fastReady = d.on fun n => (n.setFld Reg.DDU_STATUS 0 1 2 2).setB Reg.DDU_STATUS 0 5 false := if_pos h

theorem Ddu.fastIdleExpiry_of_idle {d : Ddu} (hidle : d.fastIdle = true) (hup : d.n.bit Reg.DDU_STATUS 0 2 = true) :
    d.fastIdleExpiry = d.on fun n => (n.setFld Reg.DDU_STATUS 0 1 2 0).setB Reg.DDU_STATUS 0 5 true := by
  simp [Ddu.fastIdleExpiry, Ddu.fastUp, Ddu.fastStop, hidle, hup]

/-! ## The hooks of the die (R61, R62, R559) -/

theorem Ddu.droopDetect_of_unstretched {d : Ddu} (h : d.bnd.clkStretch = false) :
    d.droopDetect = { d with bnd := { d.bnd with clkStretch := true }
                             pw := { d.pw with stretches := d.pw.stretches + 1, held := d.pw.held + 1, stretchAt := d.n.local } } := by
  simp [Ddu.droopDetect, h]

theorem Ddu.stretchEnd_of_stretched {d : Ddu} (h : d.bnd.clkStretch = true) :
    d.stretchEnd = { d with bnd := { d.bnd with clkStretch := false }
                            pw := { d.pw with strTicks := d.pw.strTicks + (d.n.local - d.pw.stretchAt) / 20 } } := if_pos h

/-- A working channel that works on is as before. -/
theorem Node.chanOk_of_working {n : Node} {src slot : Nat} (h : (n.chan src slot).st = 0) : n.chanOk src slot = n := by
  simp [Node.chanOk, h]

/-- The regulator holds the setpoint that is asked for, so no further request follows (R62). -/
theorem Ddu.regAck_of_wanted {d : Ddu} {v : Nat} (hreq : d.bnd.regReq = some v) (hchan : (d.n.chan 1000 255).st = 0)
    (hset : d.n.fld Reg.DDU_PWR_VSET 0 0 16 = v) : d.regAck = { d with bnd := { d.bnd with regReq := none, regSet := v } } := by
  simp [Ddu.regAck, hreq, Ddu.on, Node.chanOk_of_working hchan, Ddu.regRequest, hset]

theorem Ddu.regTimeout_of_request {d : Ddu} {v : Nat} (hreq : d.bnd.regReq = some v) :
    d.regTimeout = ({ d with bnd := { d.bnd with regReq := none } } : Ddu).on fun n => n.chanFail 1000 255 := by
  simp [Ddu.regTimeout, hreq]

/-! ## The commands of the boundary -/

/-- What a command makes of a DDU whose always-on domain is up. -/
theorem onDduLive_eq_next {s : State} {d : Ddu} (f : Ddu → Ddu) (hlive : s.ddu.live = true) (hf : f s.ddu = d) :
    onDduLive s f = .next (s.settleDdu d) := by rw [onDduLive_of_live hlive, hf]

theorem exec_hostActiveRise_of_live {s : State} (hlive : s.ddu.live = true) : exec .hostActiveRise s = .next (s.settleDdu s.ddu.hostRise) := by
  change execHostActiveRise s = _
  simp [execHostActiveRise, onDdu, hlive]

theorem exec_hostActiveFall_of_live {s : State} (hlive : s.ddu.live = true) : exec .hostActiveFall s = .next (s.settleDdu s.ddu.hostFall) := by
  change execHostActiveFall s = _
  simp [execHostActiveFall, onDdu, hlive]

/-- Settles O2: each command by what it does on a DDU whose always-on domain is up. -/
theorem boundaryCompletes : Obligations.BoundaryCompletes := by
  unfold Obligations.BoundaryCompletes
  refine ⟨?_, ?_, ?_, ?_, ?_, ?_, ?_, ?_, ?_, ?_, ?_, ?_, ?_, ?_⟩
  · intro s m halive hpwr hup hroom hlo hhi
    exact onDduLive_eq_next (fun d => d.markerAccept m) (Ddu.live_of_alive halive) (Ddu.markerAccept_of_room halive hpwr hup hroom hlo hhi)
  · intro s m stamp before late rest hlive hruns hfifo hkind htrig
    exact onDduLive_eq_next Ddu.markerProcess hlive (Ddu.markerProcess_of_phase hruns hfifo hkind htrig)
  · intro s r halive hpwr hup hroom
    exact onDduLive_eq_next (fun d => d.reportAccept r) (Ddu.live_of_alive halive) (Ddu.reportAccept_of_room halive hpwr hup hroom)
  · intro s r cell k rest hlive hfifo hup hreset hjob hopen
    exact onDduLive_eq_next Ddu.abftCheck hlive (Ddu.abftCheck_of_open hfifo hup hreset rfl hjob hopen)
  · intro s hlive hpwr hup hstart hgood
    rw [exec_hostActiveRise_of_live hlive, Ddu.hostRise_of_flood hpwr hup hstart hgood]
  · intro s hlive hpwr
    rw [exec_hostActiveFall_of_live hlive, Ddu.hostFall_of_not_flood hpwr]
  · intro s hlive hpwr
    rw [exec_hostActiveFall_of_live hlive, Ddu.hostFall_of_flood hpwr]
  · intro s hlive hup hstart hgood hpwr
    exact exec_fastDomainStart_of_down hlive hup hstart hgood hpwr
  · intro s hlive hstart
    exact onDduLive_eq_next Ddu.fastReady hlive (Ddu.fastReady_of_starting hstart)
  · intro s hlive hidle hup
    exact onDduLive_eq_next Ddu.fastIdleExpiry hlive (Ddu.fastIdleExpiry_of_idle hidle hup)
  · intro s hlive hstretch
    exact onDduLive_eq_next Ddu.droopDetect hlive (Ddu.droopDetect_of_unstretched hstretch)
  · intro s hlive hstretch
    exact onDduLive_eq_next Ddu.stretchEnd hlive (Ddu.stretchEnd_of_stretched hstretch)
  · intro s v hlive hreq hchan hset
    exact onDduLive_eq_next Ddu.regAck hlive (Ddu.regAck_of_wanted hreq hchan hset)
  · intro s v hlive hreq
    exact onDduLive_eq_next Ddu.regTimeout hlive (Ddu.regTimeout_of_request hreq)

end Sys2Proof.Machine
end

section
/-!
SUPPORT. Sub-block resets, the DDU's own resets and the closing of an epoch (R70 to R78, R277, R386, R387, R543, R681, R682).
-/

namespace Sys2Proof.Machine

/-! ## Sub-block resets (R70, R72) -/

/-- A write of one bit names that bit. -/
theorem setBitsOf_two_pow {b : Nat} (h : b < 11) : setBitsOf 11 (2 ^ b) = [b] := by
  interval_cases b <;> decide

/-- A reset that drains starts with what the sub-block has in hand. -/
theorem Ddu.subWrite_of_drain {d : Ddu} {b : Nat} (hb : b < 11) (hlife : d.n.fld Reg.DDU_STATUS 0 8 3 ≠ 4)
    (hidle : d.n.bit Reg.DDU_SUBRESET 0 b = false) (hmode : d.n.bit Reg.DDU_SUBRESET_MODE 0 b = false) (cause : Nat) :
    d.subWrite (2 ^ b) cause = d.on fun n => { (n.setB Reg.DDU_SUBRESET 0 b true) with
      resets := n.resets ++ [({ bit := b, mode := 0, cause := cause, inFlight := d.subWork b, began := d.n.local } : ResetRun)] } := by
  simp [Ddu.subWrite, Ddu.subStart, hlife, setBitsOf_two_pow hb, hidle, hmode, b2n]

theorem Ddu.subDrainEnd_of_draining {d : Ddu} {b : Nat} {r : ResetRun} (h : d.n.resets.find? (fun r => r.bit == b && !r.drained) = some r) :
    d.subDrainEnd b = ({ d with n := { d.n with resets :=
      { r with drained := true, discarded := min r.inFlight (d.subWork b), done := r.inFlight - min r.inFlight (d.subWork b) } ::
        (d.n.resets.filter fun x => x.bit != b) } } : Ddu).subDiscard b (min r.inFlight (d.subWork b)) := by
  simp only [Ddu.subDrainEnd, h]

theorem Ddu.subDone_of_drained {d : Ddu} {b : Nat} {r : ResetRun} (h : d.n.resets.find? (fun r => r.bit == b && r.drained) = some r) :
    d.subDone b = ({ d.subClear b with n := { (d.subClear b).n with resets := (d.subClear b).n.resets.filter fun x => x.bit != b } } : Ddu).on
      fun n => ((n.setB Reg.DDU_SUBRESET 0 b false).setB Reg.DDU_SUBRESET_DONE 0 b true).storeWaiting.emit 0 1 0x1D 0x0005 (subUnit b)
        ([b, r.mode, r.cause, 0] ++ le 4 r.done ++ le 4 r.discarded ++ le 4 ((n.local - r.began) / 1000)) := by
  simp only [Ddu.subDone, h]

/-! ## The DDU's own resets (R75 to R78, R681, R682) -/

/-- The release of a DDU whose die ledger has left its unmounted state changes the pin, and meets a HOST_ACTIVE that is high. -/
theorem Ddu.release_of_mounted {d d' : Ddu} (hgood : d.bnd.aonPgood = true)
    (hd' : d' = if d.bnd.hostActive then ({ d with bnd := { d.bnd with resetN := false } } : Ddu).hostRise
      else { d with bnd := { d.bnd with resetN := false } })
    (hmount : d'.n.fld Reg.DDU_DL_STATUS 0 0 3 ≠ 0) : d.release = d' := by
  subst hd'
  rw [Ddu.release, if_neg (by simp [hgood])]
  exact if_pos hmount

theorem Ddu.aliveRaise_of_ready {d : Ddu} (hlive : d.live = true) (htime : d.n.timeState ≠ tsUnaligned)
    (hmount : d.n.fld Reg.DDU_DL_STATUS 0 0 3 = 2 ∨ d.n.fld Reg.DDU_DL_STATUS 0 0 3 = 3) :
    d.aliveRaise = d.on fun n => (n.setB Reg.DDU_STATUS 0 3 true).setB Reg.DDU_STATUS 0 4 false := by
  simp [Ddu.aliveRaise, hlive, htime, hmount]

/-- A phase table that the ledger already holds is not journalled. -/
theorem Ddu.ledPhases_of_same {d : Ddu} (h : d.pw.phases = d.led.image.phases) : d.ledPhases = d := if_pos (by rw [h])

theorem exec_corePgoodFall_of_live {s : State} (hlive : s.ddu.live = true) :
    exec .corePgoodFall s = .next (s.settleDdu s.ddu.ledPhases.coreFall) := by
  change execCorePgoodFall s = _
  simp [execCorePgoodFall, onDdu, hlive]

/-! ## The closing of an epoch (R277, R386, R387) -/

@[simp] theorem Ddu.sentNote_chk (d : Ddu) (e a : Nat) : (d.sentNote e a).chk = d.chk := rfl

@[simp] theorem Ddu.epochFences_chk (d : Ddu) : d.epochFences.chk = d.chk := rfl

@[simp] theorem Ddu.epochFences_rd (d : Ddu) (r : RegDef) (i : Nat) : d.epochFences.rd r i = d.rd r i := rfl

/-- The masks that a closing epoch keeps and copies are all that it changes of the checker. -/
theorem Ddu.maskCopy_closing (d : Ddu) (e : Nat) : (d.maskCopy e).chk.closing = d.chk.closing := by
  unfold Ddu.maskCopy
  rw [Ddu.wr_chk]
  exact List.foldlRecOn _ _ (motive := fun x : Ddu => x.chk.closing = d.chk.closing) rfl fun x hx _ _ => hx

/-- The copied mask holds from the next epoch on (R387). -/
theorem Ddu.maskCopy_suspectFrom (d : Ddu) (e : Nat) : (d.maskCopy e).rd Reg.DDU_SNOOP_SUSPECT_FROM = (e + 1) % 2 ^ 32 := by
  rw [Ddu.maskCopy, Ddu.rd, Ddu.wr_n, rd_wr]
  rfl

/-- An epoch that waits for no report and no slot, and has no open tile, closes. -/
theorem Ddu.epochCloseDone_of_idle {d : Ddu} {e a before : Nat} {rest : List (Nat × Nat × Nat)}
    (hclosing : d.chk.closing = (e, a, before) :: rest) (hreports : before + d.bnd.chkFifo.length ≤ d.chk.accepted)
    (hslots : (d.chk.slots.all fun x => slotEpoch x.val != e) = true) (hopen : d.chk.epochs = []) :
    d.epochCloseDone.chk.closing = rest ∧ d.epochCloseDone.rd Reg.DDU_SNOOP_SUSPECT_FROM = (e + 1) % 2 ^ 32 := by
  have hwait : (decide (d.chk.accepted < before + d.bnd.chkFifo.length) ||
      d.chk.slots.any fun x => slotEpoch x.val == e && x.attempt == a) = false := by
    simp only [List.all_eq_true, bne_iff_ne] at hslots
    simp only [Bool.or_eq_false_iff, decide_eq_false_iff_not, Nat.not_lt, List.any_eq_false, Bool.and_eq_true, beq_iff_eq, not_and]
    exact ⟨hreports, fun x hx he => absurd he (hslots x hx)⟩
  have hmissing : (({ d.chk with closing := rest } : AbftX).ep e a).missingTiles = [] := by
    simp [AbftX.ep, hopen, EpochX.missingTiles]
  simp only [Ddu.epochCloseDone, hclosing, hwait, hmissing, List.foldl_nil, Bool.false_eq_true, if_false, Ddu.epochFences_chk,
    Ddu.epochFences_rd, Ddu.maskCopy_closing, Ddu.maskCopy_suspectFrom, Ddu.on_chk, Ddu.sentNote_chk, and_self]

/-- Settles O3: each command by what it does; the cold reset by the fused lifecycle. -/
theorem boundaryResetsComplete : Obligations.BoundaryResetsComplete := by
  unfold Obligations.BoundaryResetsComplete
  refine ⟨?_, ?_, ?_, fun _ => rfl, fun _ => rfl, fun _ => rfl, ?_, ?_, ?_, ?_, ?_, ?_⟩
  · intro s who b hwho hans hb hlife hidle hmode
    change dduWrite who s (fun d => d.subWrite (2 ^ b) (subCause who)) = _
    rw [dduWrite_of_may hwho hans, onDdu, Ddu.subWrite_of_drain hb hlife hidle hmode]
  · intro s b r hlive hrun
    exact onDduLive_eq_next (fun d => d.subDrainEnd b) hlive (Ddu.subDrainEnd_of_draining hrun)
  · intro s b r hlive hrun
    exact ⟨_, onDduLive_eq_next (fun d => d.subDone b) hlive (Ddu.subDone_of_drained hrun), rfl⟩
  · intro d
    unfold Ddu.cold
    cases d.bnd.fused <;> exact ⟨rfl, rfl, rfl, rfl, rfl, rfl, rfl, rfl, rfl, rfl⟩
  · intro s hgood hhost hmount
    change onDdu s Ddu.release = _
    rw [onDdu, Ddu.release_of_mounted hgood (if_neg (by simp [hhost])).symm hmount]
  · intro s d hgood hhost hd hmount
    change onDdu s Ddu.release = _
    rw [onDdu, Ddu.release_of_mounted hgood (hd.trans (if_pos hhost).symm) hmount]
  · intro s hlive htime hmount
    exact onDduLive_eq_next Ddu.aliveRaise hlive (Ddu.aliveRaise_of_ready hlive htime hmount)
  · intro s hlive hsame
    rw [exec_corePgoodFall_of_live hlive, Ddu.ledPhases_of_same hsame, Ddu.coreFall]
  · intro s e a before rest hlive hclosing hreports hslots hopen
    exact ⟨_, onDduLive_eq_next Ddu.epochCloseDone hlive rfl, Ddu.epochCloseDone_of_idle hclosing hreports hslots hopen⟩

end Sys2Proof.Machine
end

section
/-!
SUPPORT. What the registers read after reset (R682, assumption log 6).
-/

namespace Sys2Proof.Machine

open Safety

/-- At reset a register reads its reset value. -/
theorem rd_reset (dev : Dev) (r : RegDef) (i : Nat) : (part State.reset dev).rd r i = r.rst i := by cases dev <;> rfl

/-- Settles O50: by the reset value of each register. -/
theorem resetValues : Obligations.ResetValues := by
  unfold Obligations.ResetValues
  have hid : Reg.DDU_ID.rst 0 / 65536 = 0xD0D1 := by
    change (0xD0D10000 + Config.dduRevision % 65536) / 65536 = 0xD0D1
    omega
  have htime (dev : Dev) : (part State.reset dev).timeState = tsUnaligned := by cases dev <;> decide
  exact ⟨⟨hid, rfl, rfl, rfl, fun dev => rd_reset dev _ 0, htime, by decide, rfl⟩, fun d _ => rd_reset .abl _ d⟩

end Sys2Proof.Machine
end

section
/-!
SUPPORT. The clear of the sentinel's performance counters (R84, R86, R116): what it leaves of the chained pairs.
-/

namespace Sys2Proof.Machine

open Safety

/-- What settles on a quiet sentinel leaves the chained pairs. -/
theorem settleAbl_pchain {s : State} {a : Abl} (hquiet : QuietAbl a) (hpwr : a.n.pwrState = s.abl.n.pwrState) (hsrc : a.n.srcSel ≠ 3) :
    (s.settleAbl a).abl.n.pchain = a.n.pchain := by
  rw [State.settleAbl, Abl.carryFrom_of_quiet hquiet hpwr (.inl hsrc)]
  rfl

/-- A sentinel whose performance counters 0 and 1 are a chained pair of mode 1. -/
def chainedNode : Node := { ({ dev := .abl } : Node).wr Reg.ABL_PCNT_CHAIN 0 1 with pchain := [0] }

def chainedState : State := { State.reset with abl := { n := chainedNode } }

/-- A clear of that pair's two counters unchains it. -/
theorem pchain_of_pcntClear :
    (chainedState.settleAbl (chainedState.abl.on fun n => n.pcntClear (2 * 65536))).abl.n.pchain = [] := by
  rw [settleAbl_pchain (by decide +kernel) (by decide +kernel) (by decide +kernel)]
  decide +kernel

/-- The two counters back at their reset values, and nothing beside, would leave it chained. -/
theorem pchain_of_bare_reset :
    (chainedState.settleAbl (chainedState.abl.on fun n => { n with
      regs := n.regs.resetRange (Reg.ABL_PCNT.addr 0) (Reg.ABL_PCNT.addr 2) })).abl.n.pchain = [0] := by
  rw [settleAbl_pchain (by decide +kernel) (by decide +kernel) (by decide +kernel)]
  rfl

/-- Refutes O4: its clause on PCNT_CLEAR changes the counters alone, but a clear that covers a chained pair of mode 1 unchains it too (R84, R116). -/
theorem not_counterCommandsComplete : ¬ Obligations.CounterCommandsComplete := by
  unfold Obligations.CounterCommandsComplete
  rintro ⟨-, -, -, -, -, -, -, -, -, -, hclear⟩
  have hclaim : exec (.pcntClear .firmware (2 * 65536)) chainedState = .next (chainedState.settleAbl (chainedState.abl.on fun n => { n with
      regs := n.regs.resetRange (Reg.ABL_PCNT.addr 0) (Reg.ABL_PCNT.addr 2) })) :=
    hclear chainedState 0 2 (by decide) (by decide) (by decide) (by decide) (by decide)
  have hmodel : exec (.pcntClear .firmware (2 * 65536)) chainedState =
      .next (chainedState.settleAbl (chainedState.abl.on fun n => n.pcntClear (2 * 65536))) := rfl
  have hsame := Host.Outcome.next.inj (hmodel.symm.trans hclaim)
  have hcleared := pchain_of_pcntClear
  rw [hsame, pchain_of_bare_reset] at hcleared
  exact absurd hcleared (by decide)

end Sys2Proof.Machine
end

section
/-!
SUPPORT. Bandwidth windows, sensors and precise sampling (R100 to R102, R105 to R108, R117, R118), one lemma for each way that a command goes.
-/

namespace Sys2Proof.Machine

open Safety

/-- An access that a fast-domain block answers acts on the DDU with that domain up. -/
theorem dduFast_of_may {s : State} {who : Requester} {d : Ddu} (h : FastMay s who d) (f : Ddu → Ddu) :
    dduFast who s f = .next (({ s with busErr := false } : State).settleDdu (f d)) := by
  obtain ⟨hwho, hans, rfl, hup⟩ := h
  rw [dduFast, dduWrite_of_may hwho hans]
  simp [hup, onDdu]

/-! ## Bandwidth windows (R100 to R102) -/

/-- A window of a length that the spec supports starts anew. -/
theorem Node.bwWrite_of_length {n : Node} {w v : Nat} (hpos : 0 < bits v 32 20) (hmax : bits v 32 20 ≤ 1000000) :
    n.bwWrite w v = { (((n.wr (bwCfg n.dev) w (bits v 32 20 * 2 ^ 32 + bits v 0 12)).wr (bwLast n.dev) w 0).wr (bwPeak n.dev) w 0) with
      bw := { w := w } :: n.bw.filter fun b => b.w != w } := by
  simp [Node.bwWrite, Nat.min_eq_left hmax, hpos.ne']

/-- A window whose interval has passed. -/
def Node.bwDue (n : Node) (w : Nat) : Option BwX :=
  n.bw.find? fun b => b.w == w && b.begun &&
    decide (b.at_ + n.fld (bwCfg n.dev) w 32 20 * 1000 ≤ n.rd (Reg.TIME_WRAP n.dev) * 2 ^ 32 + n.now)

/-- A window that closes starts its next interval where this one ends. -/
theorem Node.bwClose_bw {n : Node} {w : Nat} {b : BwX} (h : n.bwDue w = some b) :
    (n.bwClose w).bw = { b with acc := 0, at_ := b.at_ + n.fld (bwCfg n.dev) w 32 20 * 1000 } :: n.bw.filter fun x => x.w != w := by
  rw [Node.bwDue] at h
  simp only [Node.bwClose, h, Node.wr_bw]

/-- A window that closes keeps the greatest sum as its peak. -/
theorem Node.bwClose_peak {n : Node} {w : Nat} {b : BwX} (h : n.bwDue w = some b) :
    (n.bwClose w).rd (bwPeak n.dev) w = max ((n.wr (bwLast n.dev) w ((bits (n.rd (bwLast n.dev) w) 48 16 + 1) % 65536 * 2 ^ 48 +
      b.acc % 2 ^ 48)).rd (bwPeak n.dev) w) (b.acc % 2 ^ 48) % 2 ^ (bwPeak n.dev).width := by
  rw [Node.bwDue] at h
  simp only [Node.bwClose, h, Node.wr_dev]
  exact rd_wr ..

/-! ## Sensors (R106 to R108) -/

/-- A sample that crosses no threshold leaves the Local Rule Bank alone. -/
theorem Ddu.sensStep_of_no_crossing {d : Ddu} {c raw clamp free : Nat}
    (h : (((d.sensSample c raw clamp free).sumNote c).lrbNote c).rd Reg.DDU_SNS_EVENTS c = d.rd Reg.DDU_SNS_EVENTS c) :
    d.sensStep c raw clamp free = ((d.sensSample c raw clamp free).sumNote c).lrbNote c := if_pos h

/-- A sampled channel that is late by four periods fails, and its four periods start anew. -/
theorem Ddu.sensStale_of_late {d : Ddu} {c : Nat} (hretired : bit (d.n.rd Reg.DDU_SNS_STATE c) 31 = false)
    (hperiod : d.n.fld Reg.DDU_SNS_CFG c 0 24 ≠ 0) (hlate : lookupD d.sens.last c 0 + 4 * d.sensPeriod c ≤ d.n.local) :
    d.sensStale c = ({ d.wr Reg.DDU_SNS_STATE c (setBit (d.n.rd Reg.DDU_SNS_STATE c) 30 true) with
      sens := { d.sens with last := bindKey d.sens.last c d.n.local } } : Ddu).on fun n => (n.sensRec c 3 0).chanFail c 255 := by
  refine if_neg ?_
  simp [hretired, hperiod, Nat.not_lt.2 hlate]

/-! ## Precise sampling (R117, R118) -/

/-- What little-endian bytes spell lies below the bound of their number. -/
theorem leNat_lt (l : List Nat) : leNat l < 256 ^ l.length := by
  induction l with
  | nil => simp [leNat]
  | cons b l ih =>
    rw [leNat_cons, List.length_cons, Nat.pow_succ]
    have hb := Nat.mod_lt b (show 0 < 256 by decide)
    omega

/-- The 32 bytes of a sample of a grid core whose latency fits its field. -/
def gridSample (pc instr latency core now ev : Nat) (g : SampleTag) : List Nat :=
  le 8 pc ++ le 4 instr ++ le 2 latency ++ le 2 core ++ le 4 now ++ le 2 ev ++ zeros 2 ++ le 4 g.jobtag ++ [g.context % 256, 0, 0, 0]

theorem length_gridSample (pc instr latency core now ev : Nat) (g : SampleTag) : (gridSample pc instr latency core now ev g).length = 32 := by
  simp [gridSample]

/-- A sentinel with one sample more in its buffer. -/
def Node.putSample (n : Node) (e : List Nat) : Node :=
  (n.wr Reg.ABL_PSAMP_BUF (n.rd Reg.ABL_PSAMP_WRPTR % 2048) (leNat e)).wr Reg.ABL_PSAMP_WRPTR 0 ((n.rd Reg.ABL_PSAMP_WRPTR + 1) % 4096)

theorem Node.rd_wrptr_putSample (n : Node) (e : List Nat) :
    (n.putSample e).rd Reg.ABL_PSAMP_WRPTR = (n.rd Reg.ABL_PSAMP_WRPTR + 1) % 4096 := by
  have hfits : (n.rd Reg.ABL_PSAMP_WRPTR + 1) % 4096 < 2 ^ Reg.ABL_PSAMP_WRPTR.width := by simp only [Reg.ABL_PSAMP_WRPTR]; omega
  rw [Node.putSample, rd_wr, Nat.mod_eq_of_lt hfits]

theorem Node.rd_buf_putSample {n : Node} {e : List Nat} (h : e.length = 32) :
    (n.putSample e).rd Reg.ABL_PSAMP_BUF (n.rd Reg.ABL_PSAMP_WRPTR % 2048) = leNat e := by
  have hfits : leNat e < 2 ^ Reg.ABL_PSAMP_BUF.width := (h ▸ leNat_lt e).trans_eq (by decide)
  have hne : Reg.ABL_PSAMP_WRPTR.addr 0 ≠ Reg.ABL_PSAMP_BUF.addr (n.rd Reg.ABL_PSAMP_WRPTR % 2048) := by
    simp only [Reg.ABL_PSAMP_WRPTR, Reg.ABL_PSAMP_BUF, RegDef.addr]; omega
  rw [Node.putSample, rd_wr_ne hne, rd_wr, Nat.mod_eq_of_lt hfits]

/-- A sentinel that draws at `free` when a core's next sample is due: PERIOD and a uniform value below 2^DITHER. -/
def Abl.drawNext (a : Abl) (core free : Nat) : Abl := { a with psamp := { a.psamp with
  next := bindKey a.psamp.next core (a.n.rd Reg.ABL_PSAMP_PERIOD + free % 2 ^ a.n.fld Reg.ABL_PSAMP_CTRL 0 16 5) } }

/-- A sample of a grid core that is due, of a job that may be profiled, goes into an empty buffer; the next is due after PERIOD and a dither. -/
theorem exec_psampSample_of_due {s : State} {core occ latency p i : Nat} {g : SampleTag} (pc instr : Nat) (tag : SampleTag) (hcore : core < 256)
    (hat : s.abl.sampled core = some (p, i, g)) (hlo : 512 ≤ s.abl.n.fld Reg.ABL_PSAMP_CTRL 0 0 11)
    (hhi : s.abl.n.fld Reg.ABL_PSAMP_CTRL 0 0 11 < 1152)
    (hdue : lookupD s.abl.psamp.next core (s.abl.n.rd Reg.ABL_PSAMP_PERIOD) ≤ occ) (hperiod : s.abl.n.rd Reg.ABL_PSAMP_PERIOD ≠ 0)
    (hscope : s.abl.n.bit Reg.ABL_PSAMP_SCOPE 0 0 = true) (hjob : s.abl.profJobs.contains g.jobtag = true) (hlatency : latency < 65536)
    (hempty : s.abl.n.rd Reg.ABL_PSAMP_RDPTR = s.abl.n.rd Reg.ABL_PSAMP_WRPTR) :
    exec (.psampSample core occ pc instr latency tag) s = .next (({ s with free := s.free + 1 } : State).settleAbl
      ((s.abl.drawNext core (Config.freeNat s.free)).on fun n =>
        n.putSample (gridSample p i latency core s.abl.n.now (s.abl.n.fld Reg.ABL_PSAMP_CTRL 0 0 11) g))) := by
  have hcaused : psampCaused core (s.abl.n.fld Reg.ABL_PSAMP_CTRL 0 0 11) = true := by simp [psampCaused, hcore, hlo, hhi]
  have hused : (s.abl.n.rd Reg.ABL_PSAMP_WRPTR + 4096 - s.abl.n.rd Reg.ABL_PSAMP_RDPTR) % 4096 = 0 := by omega
  have hmem : g.jobtag ∈ s.abl.profJobs := List.contains_iff_mem.1 hjob
  have hmin : min latency 65535 = latency := by omega
  have hsat : le 2 (b2n (decide (65535 < latency))) = zeros 2 := by
    rw [decide_eq_false (by omega)]
    rfl
  change execPsampSample core occ pc instr latency tag s = _
  simp [execPsampSample, onAblFree, hcore, hat, hperiod, hscope, hmem, hcaused, Nat.not_lt.2 hdue, hused, hmin, hsat, Abl.on, Abl.drawNext,
    Node.putSample, gridSample]

/-- Settles O5: each command by what it does when it may act. -/
theorem sensingCommandsComplete : Obligations.SensingCommandsComplete := by
  unfold Obligations.SensingCommandsComplete
  refine ⟨?_, ?_, ?_, ?_, ?_⟩
  · intro s who d w v hmay hpos hmax
    change dduFast who s (fun d => d.on fun n => n.bwWrite w v) = _
    rw [dduFast_of_may hmay, Ddu.on, Node.bwWrite_of_length hpos hmax]
    rfl
  · intro s w b hdue
    exact ⟨s.ddu.n.bwClose w, rfl, Node.bwClose_bw hdue, Node.bwClose_peak hdue⟩
  · intro s c raw clamp hlive _ _ hsame
    change execSensorSample c raw clamp s = _
    simp only [execSensorSample, onDduFree, hlive, if_true, Ddu.sensStep_of_no_crossing hsame]
  · intro s c d hlive hretired hperiod hlate hd
    change execSensorStale c s = _
    simp only [execSensorStale, onDdu, hlive, if_true, Ddu.sensStale_of_late hretired hperiod hlate, hd, Ddu.wr_sens]
  · intro s core occ pc instr latency p i tag g hcore hat hlo hhi hdue hperiod hscope hjob hlatency hempty _
    exact ⟨_, exec_psampSample_of_due pc instr tag hcore hat hlo hhi hdue hperiod hscope hjob hlatency hempty, Node.rd_wrptr_putSample _ _,
      Node.rd_buf_putSample (length_gridSample ..), rfl⟩

end Sys2Proof.Machine
end

section
/-!
SUPPORT. The trace stream, its capture around a trigger, its spill and its export (R119 to R139), one lemma for each way that a command goes.
-/

namespace Sys2Proof.Machine

open Safety

/-! ## The taps (R121 to R124) -/

/-- Only a retirement can meet TRIG_PC. -/
theorem Ddu.tapPc_addr (d : Ddu) (c reason target : Nat) : d.tapPc c (.addr reason target) = d := rfl

theorem exec_traceTapRetire_of_kept {s : State} {c : Nat} {ev : TapEvent} (pc : Nat) (hon : s.ddu.tapOn c = true)
    (hkept : (s.ddu.trc.core c).tapOver = false) (hpc : s.ddu.tapPc c ev = s.ddu) :
    exec (.traceTapRetire c pc ev false) s = .next (s.settleDdu (s.ddu.tapEvent c pc ev).trcView) := by
  change execTraceTapRetire c pc ev false s = _
  simp [execTraceTapRetire, onDdu, hon, hkept, hpc]

theorem exec_traceTapRetire_of_overflow {s : State} {c : Nat} (pc : Nat) (ev : TapEvent) (hon : s.ddu.tapOn c = true) :
    exec (.traceTapRetire c pc ev true) s =
      .next (s.settleDdu { s.ddu with trc := s.ddu.trc.setCore ((s.ddu.trc.core c).lose ev) }) := by
  change execTraceTapRetire c pc ev true s = _
  simp [execTraceTapRetire, onDdu, hon]

/-- A tap that has lost deliveries and has room again: LOSS with CAUSE 1 for them, and a CORE_SYNC of each core before its next packet. -/
def Ddu.tapRecovered (d : Ddu) (c : Nat) : Ddu :=
  let x := d.trc.core c
  let e := ({ d with trc := d.trc.setCore { x with tapOver := false, dropped := 0 } } : Ddu).trcPut ([pktHead 10 true 0, 1, 0, 0] ++ le 4 x.dropped)
  ({ e with trc := e.trc.needAll 3 } : Ddu).bump Reg.DDU_TRC_LOST 0 x.dropped

theorem exec_tapFifoRecover_of_lost {s : State} {c : Nat} (pc : Nat) (hon : s.ddu.tapOn c = true)
    (hover : (s.ddu.trc.core c).tapOver = true) :
    exec (.tapFifoRecover c pc) s = .next (s.settleDdu ((s.ddu.tapRecovered c).trcCorePkt c pc false none).trcView) := by
  change execTapFifoRecover c pc s = _
  simp [execTapFifoRecover, onDdu, hon, hover, Ddu.tapRecovered]

theorem exec_tracePeriodicSync_of_due {s : State} {c : Nat} (pc : Nat) (hon : s.ddu.tapOn c = true) (hus : s.ddu.rd Reg.DDU_TRC_SYNC_US ≠ 0)
    (hdue : s.ddu.rd Reg.DDU_TRC_SYNC_US * 1000 ≤ s.ddu.n.local - (s.ddu.trc.core c).lastSync) :
    exec (.tracePeriodicSync c pc) s = .next (s.settleDdu (s.ddu.trcCorePkt c pc false none).trcView) := by
  change execTracePeriodicSync c pc s = _
  simp [execTracePeriodicSync, onDdu, hon, hus, hdue]

/-! ## Enabling and disabling (R125, R130, R133) -/

/-- The fields of DDU_TRC_CTRL leave every other register. -/
theorem Ddu.trcCtrl_rd_ne {d : Ddu} {q : RegDef} {j : Nat} (h : Reg.DDU_TRC_CTRL.addr 0 ≠ q.addr j) (v : Nat) :
    (d.trcCtrl v).n.rd q j = d.n.rd q j := by
  simp only [Ddu.trcCtrl, Ddu.on_n, Node.setFld, rd_wr_ne h]

@[simp] theorem Ddu.trcCtrl_subreset (d : Ddu) (v b : Nat) : (d.trcCtrl v).n.bit Reg.DDU_SUBRESET 0 b = d.n.bit Reg.DDU_SUBRESET 0 b := by
  rw [Node.bit, Node.bit, Ddu.trcCtrl_rd_ne (by decide)]

/-- A permitted enabling of a trace that is off, and not in reset, arms it. -/
theorem Ddu.trcEnable_of_prof {d : Ddu} {v : Nat} (hprof : d.n.bit Reg.DDU_PROF_CTRL 0 0 = true) (hoff : (d.trcCtrl v).trcState = trcOff)
    (hidle : d.n.bit Reg.DDU_SUBRESET 0 3 = false) :
    d.trcEnable v = { (((d.trcCtrl v).on fun n => n.setB Reg.DDU_TRC_CTRL 0 0 true).fastStart.trcArm) with
      trc := { (((d.trcCtrl v).on fun n => n.setB Reg.DDU_TRC_CTRL 0 0 true).fastStart.trcArm).trc with byDebug := false } } := by
  simp [Ddu.trcEnable, hprof, hoff, hidle]

theorem Ddu.trcDisable_of_off {d : Ddu} {v : Nat} (hoff : ((d.trcCtrl v).on fun n => n.setB Reg.DDU_TRC_CTRL 0 0 false).trcState = trcOff) :
    d.trcDisable v = (d.trcCtrl v).on fun n => n.setB Reg.DDU_TRC_CTRL 0 0 false := if_pos hoff

/-- Where no packet has been dropped, no episode of loss ends. -/
theorem Ddu.trcLossEnd_of_no_loss {d : Ddu} (h : d.trc.loss = 0) : d.trcLossEnd = d := by simp [Ddu.trcLossEnd, h]

/-- A disable's drain ends: what it left staged is dropped and told. -/
theorem Ddu.trcDrainEnd_of_draining {d : Ddu} (hdrain : d.trc.draining ≠ 0) (hloss : d.trc.loss = 0) :
    d.trcDrainEnd = ({ d with trc := { d.trc with staging := d.trc.staging.drop d.trc.draining, draining := 0 } } : Ddu).on fun n =>
      n.loss d.trc.draining 0x0002 3 (some 499) := by
  rw [Ddu.trcDrainEnd, if_neg hdrain]
  exact Ddu.trcLossEnd_of_no_loss hloss

/-! ## The trigger and the capture after it (R125, R126, R130) -/

/-- What a trigger settles for the capture after it: the number of triggers taken, and the blocks of the Headland window. -/
def Ddu.captured (d : Ddu) : Nat × List Nat := (d.trc.trigSeq, d.trc.headland)

@[simp] theorem Ddu.trcPad_captured (d : Ddu) : d.trcPad.captured = d.captured := by
  unfold Ddu.trcPad
  dsimp only
  split
  · rfl
  · split <;> rfl

@[simp] theorem Ddu.trcNext_captured (d : Ddu) : d.trcNext.captured = d.captured := by
  unfold Ddu.trcNext
  dsimp only
  split
  · rfl
  · split
    · rfl
    · split <;> rfl

/-- The end of a block leaves what the trigger settled. -/
@[simp] theorem Ddu.trcClose_captured (d : Ddu) : d.trcClose.captured = d.captured := by
  unfold Ddu.trcClose
  split <;> simp

/-- A taken trigger is counted; with no complete block before it, its Headland window is empty. -/
theorem Ddu.trcTrigger_captured {d : Ddu} (hreset : d.n.bit Reg.DDU_SUBRESET 0 3 = false) (harmed : d.trcState = trcArmed)
    (hopen : d.trc.open_ = false) (hnone : d.trc.complete = 0) (source arg : Nat) :
    (d.trcTrigger source arg).captured = (d.trc.trigSeq + 1, []) := by
  have hclose : d.trcClose = d := by simp [Ddu.trcClose, hopen]
  have hheard : ¬ (decide (d.trcState = trcOff) || d.n.bit Reg.DDU_SUBRESET 0 3) = true := by simp [harmed, hreset, trcArmed, trcOff]
  unfold Ddu.trcTrigger
  extract_lets _ closed h frozen _ _ _ _ _ _ _ e _ stopped
  have hfrozen : frozen = [] := by simp [frozen, h, closed, hclose, hnone]
  have htaken : e.captured = (closed.trc.trigSeq + 1, frozen) := by
    simp only [e]
    split <;> rfl
  rw [hfrozen, show closed = d from hclose] at htaken
  rw [if_neg hheard, if_neg (not_not.2 harmed)]
  split
  · calc (stopped.trcClose.setTrcState trcDone).trcView.captured
      _ = stopped.trcClose.captured := rfl
      _ = e.captured := stopped.trcClose_captured
      _ = _ := htaken
  · exact htaken

/-- TRIG_NOW needs no enabled source (R138). -/
theorem exec_trigNow_of_may {s : State} {who : Requester} {d : Ddu} (h : FastMay s who d) :
    exec (.trigNow who) s = .next (({ s with busErr := false } : State).settleDdu (d.trcTrigger 6 0)) := by
  change dduFast who s (fun d => d.trcTrigger 6 0) = _
  rw [dduFast_of_may h]

theorem exec_tracePostDone_of_reached {s : State} (hon : s.ddu.trc.postOn = true)
    (hreached : s.ddu.rd Reg.DDU_TRC_POST_KIB * 1024 ≤ s.ddu.trc.post + s.ddu.trc.cur.length) :
    exec .tracePostDone s = .next (s.settleDdu
      ((({ s.ddu.trcClose with trc := { s.ddu.trcClose.trc with postOn := false } } : Ddu).setTrcState trcDone).trcView)) := by
  change execTracePostDone s = _
  simp [execTracePostDone, onDdu, hon, hreached]

theorem exec_traceAreaFull_of_full {s : State} (hst : s.ddu.trcState = trcTriggered) (hfull : 4096 * s.ddu.trcArea ≤ s.ddu.trc.post) :
    exec .traceAreaFull s = .next (s.settleDdu
      (({ s.ddu with trc := { s.ddu.trc with inStage := true } } : Ddu).setTrcState trcSpilling)) := by
  change execTraceAreaFull s = _
  simp [execTraceAreaFull, onDdu, hst, hfull]

/-! ## The spill (R127, R128) -/

/-- The fabric takes the oldest staged block, behind those that it has. -/
theorem Ddu.spillBlock_of_ready {d : Ddu} {b : List Nat} {rest : List (List Nat)} (hstaged : d.trc.staging = b :: rest)
    (hready : d.spillReady = true) (hloss : d.trc.loss = 0) :
    d.spillBlock.trc.staging = rest ∧
      d.spillBlock.fabric = d.fabric ++ [FabricOut.mk 2 (d.rd Reg.DDU_SPILL_BASE + d.rd Reg.DDU_TRC_SPILL_WR % d.spillSize) b none] := by
  have hblock : d.spillBlock = (({ d with
      fabric := d.fabric ++ [FabricOut.mk 2 (d.rd Reg.DDU_SPILL_BASE + d.rd Reg.DDU_TRC_SPILL_WR % d.spillSize) b none]
      trc := { d.trc with staging := rest, draining := d.trc.draining - 1 } } : Ddu).wr Reg.DDU_TRC_SPILL_WR 0
        (d.rd Reg.DDU_TRC_SPILL_WR + 4096)).on fun n => n.count 0xF82 64 := by
    simp only [Ddu.spillBlock, hstaged, hready, Bool.not_true, Bool.false_eq_true, if_false]
    exact Ddu.trcLossEnd_of_no_loss hloss
  rw [hblock]
  exact ⟨rfl, rfl⟩

/-- The host's cursor may move to a block boundary that the spill has reached. -/
theorem Ddu.spillRd_of_between {d : Ddu} {v : Nat} (hlo : d.rd Reg.DDU_TRC_SPILL_RD ≤ v) (hhi : v ≤ d.rd Reg.DDU_TRC_SPILL_WR)
    (halign : v % 4096 = 0) : d.spillRd v = d.wr Reg.DDU_TRC_SPILL_RD 0 v := by
  simp [Ddu.spillRd, Nat.not_lt.2 hlo, Nat.not_lt.2 hhi, halign]

/-! ## The exit from Slack (R131, R170) -/

/-- The trace in the state from which it has parked, after what the end of the block padded there brings. -/
def Ddu.unparked (d : Ddu) : Ddu :=
  ((d.setTrcState (d.n.fld Reg.DDU_TRC_STATE 0 4 3)).on fun n => n.setFld Reg.DDU_TRC_STATE 0 4 3 0).trcNext

/-- A parked trace that goes on heads a new block with REASON 2, where staging has room for it. -/
theorem Ddu.trcResume_of_room {d : Ddu} (hparked : d.trcState = trcParked) (htracing : d.unparked.tracing = true)
    (hroom : d.unparked.trcRoom = true) (hloss : d.unparked.trc.loss = 0) :
    d.trcResume = (({ d.unparked with trc := { d.unparked.trc with firstReason := some 2 } } : Ddu).trcOpen 2).trcView := by
  have hstart : (({ d.unparked with trc := { d.unparked.trc with firstReason := some 2 } } : Ddu).tracing &&
      ({ d.unparked with trc := { d.unparked.trc with firstReason := some 2 } } : Ddu).trcRoom) = true := by
    rw [Bool.and_eq_true]
    exact ⟨htracing, hroom⟩
  rw [Ddu.trcResume, if_neg (by simp [hparked])]
  exact (if_neg (not_not.2 hloss)).trans (if_pos hstart)

theorem exec_traceResume_of_awake {s : State} (hpwr : s.ddu.pwr ≠ 0)
    (hdue : (s.ddu.n.timeState = tsLocked ∧ s.ddu.n.timex.load = none) ∨ s.ddu.pw.woke + 100000 ≤ s.ddu.n.local) :
    exec .traceResume s = .next (s.settleDdu s.ddu.trcResume) := by
  have hact : (s.ddu.n.timeState == tsLocked && s.ddu.n.timex.load.isNone || decide (s.ddu.pw.woke + 100000 ≤ s.ddu.n.local)) = true := by
    simpa using hdue
  change execTraceResume s = _
  simp [execTraceResume, onDdu, hpwr, hact]

/-! ## The aperture and the export (R134, R139) -/

/-- A trace that is done shows all its blocks. -/
theorem Ddu.apertureRead_of_done {d : Ddu} (hdone : d.trcState = trcDone) (off size : Nat) :
    d.apertureRead off size =
      (d.fastAccess, leAt (d.trcBlock (8 * d.n.fld Reg.DDU_TRC_APERTURE 0 0 7 + off / 4096 % 8)) (off % 4096) size) := by
  simp [Ddu.apertureRead, Ddu.trcReadable, hdone, trcDone, trcArmed, trcTriggered, trcParked]

theorem exec_traceApertureRead_of_may {s : State} {who : Requester} (hwho : who ≠ .unprivileged) (hans : s.ddu.answers who = true) (off : Nat) :
    exec (.traceApertureRead who off) s = .next
      (({ s with rdata := (s.ddu.apertureRead off 8).2, busErr := false } : State).settleDdu (s.ddu.apertureRead off 8).1) := by
  change execTraceApertureRead who off s = _
  simp [execTraceApertureRead, onDdu, hwho, hans]

/-- A block that is not the export's last goes out, and the export goes on behind it. -/
theorem Ddu.exportBlock_of_more {d : Ddu} {x : TraceExport} {off : Nat} {b : List Nat} {rest : List (Nat × List Nat)}
    (hexp : d.trc.exp = some x) (hgoing : x.suspended = false) (hleft : x.left = (off, b) :: rest) (hmore : rest ≠ []) :
    d.exportBlock = { (d.on fun n => n.frameUp (n.rd Reg.DDU_JOB_TAG) 3 .traceBlock [x.handle, off, 0] b) with
      trc := { d.trc with exp := some { x with left := rest, sent := x.sent + 1 } } } := by
  simp [Ddu.exportBlock, hexp, hgoing, hleft, List.isEmpty_eq_false_iff.2 hmore, b2n]

/-- Settles O6: each command by what it does when it may act. -/
theorem traceCommandsComplete : Obligations.TraceCommandsComplete := by
  unfold Obligations.TraceCommandsComplete
  refine ⟨?_, ?_, ?_, ?_, ?_, ?_, ?_, ?_, ?_, ?_, ?_, ?_, ?_, ?_, ?_, ?_⟩
  · intro s c pc reason target hon hkept
    exact exec_traceTapRetire_of_kept pc hon hkept (Ddu.tapPc_addr ..)
  · intro s c pc ev hon
    exact exec_traceTapRetire_of_overflow pc ev hon
  · intro s c pc hon hover
    exact ⟨_, exec_tapFifoRecover_of_lost pc hon hover, rfl⟩
  · intro s c pc hon hus hdue
    exact exec_tracePeriodicSync_of_due pc hon hus hdue
  · intro s who d v hmay hprof hoff hidle
    change dduFast who s (fun d => d.trcEnable v) = _
    rw [dduFast_of_may hmay, Ddu.trcEnable_of_prof hprof hoff hidle]
  · intro s who d v hmay hoff
    change dduFast who s (fun d => d.trcDisable v) = _
    rw [dduFast_of_may hmay, Ddu.trcDisable_of_off hoff]
  · intro s hdrain hloss
    change onDdu s Ddu.trcDrainEnd = _
    rw [onDdu, Ddu.trcDrainEnd_of_draining hdrain hloss]
  · intro s who e hmay hreset harmed hopen hnone
    have hcaptured := Ddu.trcTrigger_captured hreset harmed hopen hnone 6 0
    exact ⟨_, exec_trigNow_of_may hmay, congrArg Prod.fst hcaptured, congrArg Prod.snd hcaptured⟩
  · intro s who d hmay hdone
    change dduFast who s (fun d => if d.trcState = trcDone then d.trcArm else d) = _
    rw [dduFast_of_may hmay, if_pos hdone]
  · exact fun s hon hreached => exec_tracePostDone_of_reached hon hreached
  · exact fun s hst hfull => exec_traceAreaFull_of_full hst hfull
  · intro s b rest hlive hstaged hready _ hloss
    exact ⟨_, onDduLive_eq_next Ddu.spillBlock hlive rfl, Ddu.spillBlock_of_ready hstaged hready hloss⟩
  · intro s who d v hmay hlo hhi halign
    change dduFast who s (fun d => d.spillRd v) = _
    rw [dduFast_of_may hmay, Ddu.spillRd_of_between hlo hhi halign]
  · rintro s hpwr hdue hparked - d rfl - htracing hroom hloss
    rw [exec_traceResume_of_awake hpwr hdue]
    exact congrArg (fun d => Host.Outcome.next (s.settleDdu d)) (Ddu.trcResume_of_room hparked htracing hroom hloss)
  · intro s who off hwho hans hdone
    rw [exec_traceApertureRead_of_may hwho hans, Ddu.apertureRead_of_done hdone]
  · intro s x off b rest hexp hgoing hleft hmore
    change onDdu s Ddu.exportBlock = _
    rw [onDdu, Ddu.exportBlock_of_more hexp hgoing hleft hmore]

end Sys2Proof.Machine
end

section
/-!
SUPPORT. The freeze of an event recorder and its rate limits (R143, R148, R151).
-/

namespace Sys2Proof.Machine

/-- A recorder that is not frozen freezes where its freeze has time to last. -/
theorem Node.recFreeze_of_thawed {n : Node} (hfree : n.bit (Reg.REC_FREEZE n.dev) 0 0 = false)
    (hlasts : ({ (n.setB (Reg.REC_FREEZE n.dev) 0 0 true) with recx := { n.recx with freezeNs := n.now } } : Node).fld
      (Reg.REC_FREEZE_MAX_US n.dev) 0 0 20 ≠ 0) :
    n.recFreeze 1 = { (n.setB (Reg.REC_FREEZE n.dev) 0 0 true) with recx := { n.recx with freezeNs := n.now } } := by
  have hset : Machine.bit 1 0 = true := by decide
  have hkeep : Machine.bit 1 1 = false := by decide
  simp only [Node.recFreeze, hset, hkeep, hfree]
  exact if_neg hlasts

/-- A freeze that has lasted its time ends with EXPIRED, what it held, and its record. -/
theorem Node.recFreezeExpiry_of_frozen {n : Node} (h : n.bit (Reg.REC_FREEZE n.dev) 0 0 = true) :
    n.recFreezeExpiry = (fun m : Node => m.emit 0 1 0x01 0x0002 (recSrc m.dev) (le 4 m.recx.freezeNs ++ zeros 4))
      (((n.setB (Reg.REC_FREEZE n.dev) 0 0 false).setB (Reg.REC_FREEZE n.dev) 0 1 true).recThaw) := if_pos h

/-- Settles O7: each command by what it does on the device that it names. -/
theorem recorderCommandsComplete : Obligations.RecorderCommandsComplete := by
  unfold Obligations.RecorderCommandsComplete
  refine ⟨?_, ?_, ?_, fun _ _ _ => rfl, ?_⟩
  · intro s hfree _ hlasts
    change onAbl s (fun a => a.on fun n => n.recFreeze 1) = _
    rw [onAbl, Abl.on, Node.recFreeze_of_thawed hfree hlasts]
    rfl
  · intro s hfrozen
    change onDdu s (fun d => d.on Node.recFreezeExpiry) = _
    rw [onDdu, Ddu.on, Node.recFreezeExpiry_of_frozen hfrozen]
    rfl
  · intro s hfrozen
    change onAbl s (fun a => a.on Node.recFreezeExpiry) = _
    rw [onAbl, Abl.on, Node.recFreezeExpiry_of_frozen hfrozen]
    rfl
  · intro s who k v hwho hans
    change dduWrite who s (fun d => d.on fun n => n.rlWrite k v) = _
    rw [dduWrite_of_may hwho hans, onDdu]

end Sys2Proof.Machine
end

section
/-!
SUPPORT. The Time Unit's increments, ticks, loads and source (R152, R154, R155, R158, R159, R168), one lemma for each way that a command goes.
-/

namespace Sys2Proof.Machine

open Safety

/-! ## Commands on the part that both devices have -/

/-- A command on the sentinel's part is known by what it makes of that part. -/
theorem onAbl_on {s : State} {f g : Node → Node} (h : f s.abl.n = g s.abl.n) :
    onAbl s (fun a => a.on f) = .next (s.settleAbl (s.abl.on g)) := by simp only [onAbl, Abl.on, h]

/-- A command on the DDU's part is known by what it makes of that part, while the always-on domain is up. -/
theorem onLive_ddu {s : State} {f g : Node → Node} (hlive : s.ddu.live = true) (h : f s.ddu.n = g s.ddu.n) :
    onLive .ddu s f = .next (s.settleDdu (s.ddu.on g)) := by simp only [onLive, onDdu, Ddu.on, hlive, h, if_true]

/-- A write that the device takes acts on its part. -/
theorem devWrite_of_may {s : State} {dev : Dev} {who : Requester} (hmay : MayWrite s who dev) (f : Node → Node) :
    devWrite dev who s f = .next (settled (answered s dev) dev (f (part s dev))) := by
  cases dev with
  | ddu =>
    obtain ⟨hwho, hans⟩ := hmay
    exact dduWrite_of_may hwho hans _
  | abl => exact if_pos hmay

/-! ## Increments (R154) -/

/-- A number that fits a field at bit 0 is what the field reads. -/
theorem bits_zero_of_lt {v w : Nat} (h : v < 2 ^ w) : bits v 0 w = v := by
  rw [bits, Nat.pow_zero, Nat.div_one, Nat.mod_eq_of_lt h]

theorem Node.incrWrite_of_out {n : Node} {v : Nat} (hv : v < 2 ^ 40) (hout : v * 100 < 1998 * 2 ^ 32 ∨ 2002 * 2 ^ 32 < v * 100)
    (slew : Bool) : n.incrWrite slew v = n.bump (Reg.TIME_REFUSED n.dev) := by
  have hbad : incrOk v = false := by
    simp only [incrOk, Bool.and_eq_false_iff, decide_eq_false_iff_not]
    omega
  simp [Node.incrWrite, bits_zero_of_lt hv, hbad]

/-- The register that an increment is written to. -/
def incrReg (dev : Dev) (slew : Bool) : RegDef := if slew then Reg.TIME_SLEW_INCR dev else Reg.TIME_INCR dev

theorem Node.incrWrite_of_in {n : Node} {v : Nat} (hv : v < 2 ^ 40) (hlo : 1998 * 2 ^ 32 ≤ v * 100) (hhi : v * 100 ≤ 2002 * 2 ^ 32)
    (slew : Bool) : n.incrWrite slew v = n.wr (incrReg n.dev slew) 0 v := by
  have hok : incrOk v = true := by simp only [incrOk, hlo, hhi, decide_true, Bool.and_true]
  cases slew <;> simp [Node.incrWrite, bits_zero_of_lt hv, hok, incrReg]

theorem width_incrReg (dev : Dev) (slew : Bool) : (incrReg dev slew).width = 64 := by cases slew <;> rfl

/-- Settles O54: the write reaches the device's part, and counts or takes the value by its range. -/
theorem incrementStaysInRange : Obligations.IncrementStaysInRange := by
  unfold Obligations.IncrementStaysInRange
  constructor
  · intro s dev who slew v _ hmay hv hout
    refine ⟨(part s dev).bump (Reg.TIME_REFUSED (part s dev).dev), ?_, onlyReg_wr .., rd_bump⟩
    rw [← Node.incrWrite_of_out hv hout slew]
    exact devWrite_of_may hmay _
  · intro s dev who slew v _ hmay hv hlo hhi
    refine ⟨(part s dev).wr (incrReg (part s dev).dev slew) 0 v, _, rfl, ?_, onlyReg_wr .., (rd_wr ..).trans ?_⟩
    · rw [← Node.incrWrite_of_in hv hlo hhi slew]
      exact devWrite_of_may hmay _
    · exact Nat.mod_eq_of_lt (by rw [width_incrReg]; omega)

/-! ## Ticks and loads (R152, R155, R158, R159) -/

/-- A node that the clock of its timers has moved on, its waiting load taken up. -/
def Node.elapse (n : Node) : Node := { n with timex := { n.timex with elapsed := n.timex.elapsed + n.incr, load := none } }

/-- A node whose time shows what the next tick adds up to. -/
def Node.shown (n : Node) : Node :=
  ({ (n.wr (Reg.TIME_NS n.dev) 0 (n.tickSum / 2 ^ 32 % 2 ^ 32)) with frac := n.tickSum % 2 ^ 32 } : Node).slewTick

theorem Node.tick_of_no_load {n : Node} (hload : n.timex.load = none) : n.tick = n.elapse.advance := by
  simp only [Node.tick, hload, Node.elapse]

/-- A tick that no load replaces, and at which TIME_NS does not wrap. -/
theorem Node.tick_of_no_wrap {n : Node} (hload : n.timex.load = none) (hsum : n.tickSum < 2 ^ 64) : n.tick = n.elapse.shown :=
  (tick_of_no_load hload).trans (if_pos hsum)

/-- A tick that no load replaces, and at which TIME_NS wraps. -/
theorem Node.tick_of_wrap {n : Node} (hload : n.timex.load = none) (hsum : 2 ^ 64 ≤ n.tickSum) : n.tick = n.elapse.shown.wrapped :=
  (tick_of_no_load hload).trans (if_neg (Nat.not_lt.2 hsum))

theorem Node.tick_of_abs {n : Node} {ns frac : Nat} (hload : n.timex.load = some (.abs ns frac)) :
    n.tick = n.elapse.timeLoad ns frac none := by
  simp only [Node.tick, hload, Node.elapse]

theorem Node.tick_of_rel {n : Node} {d : Int} (hload : n.timex.load = some (.rel d)) :
    n.tick = n.elapse.loadTide (tideAdd n.would d) := by
  simp only [Node.tick, hload]
  rfl

/-- A write of SLEW_TICKS is no sample where the hardware servo applies them. -/
theorem Node.slewWrite_of_hw {n : Node} {v : Nat} (h : (n.setSlew v).swServo = false) : n.slewWrite v = n.setSlew v := by
  simp [Node.slewWrite, h]

/-- A write of CMD.LOAD is no sample where the hardware servo applies them. -/
theorem Node.loadCmd_of_hw {n : Node} (h : n.swServo = false) :
    n.loadCmd = n.loadNext (.abs (n.rd (Reg.TIME_LOAD_NS n.dev)) (n.rd (Reg.TIME_LOAD_FRAC n.dev))) := by
  have hnext : (n.loadNext (.abs (n.rd (Reg.TIME_LOAD_NS n.dev)) (n.rd (Reg.TIME_LOAD_FRAC n.dev)))).swServo = false := h
  simp [Node.loadCmd, hnext]

theorem Node.acceptJump_of_held {n : Node} (h : n.timeState = tsJumpHeld) :
    n.acceptJump = ((n.loadNext (.rel n.timex.theta)).follow n.timex.master n.timex.source).setTimeState tsLocked := if_pos h

/-! ## The loss of the source (R168) -/

theorem Node.sourceLost_of_locked {n : Node} (hsrc : n.srcSel ≠ 3) (hst : n.timeState = tsLocked) :
    n.sourceLost = { (n.toHoldover 1) with timex := { (n.toHoldover 1).timex with t1 := none } } := by
  simp [Node.sourceLost, hsrc, hst]

/-- A node whose best PTP master has left the list, with the half of a sample that it gave. -/
def Node.bestGone (n : Node) : Node :=
  { n with timex := { n.timex with ptp := { n.timex.ptp with
    half := none, masters := n.timex.ptp.masters.filter fun c => some c != n.timex.ptp.best } } }

theorem Node.sourceLost_of_ptp {n : Node} (hsrc : n.srcSel = 3) (hst : n.timeState = tsLocked) :
    n.sourceLost = { (n.bestGone.toHoldover 1) with timex := { (n.bestGone.toHoldover 1).timex with t1 := none } } := by
  have hst' : n.bestGone.timeState = tsLocked := hst
  unfold Node.bestGone at *
  simp only [Node.sourceLost, hsrc, hst', not_true, ne_eq, if_false, decide_true, Bool.true_or, if_true]

/-- Settles O8: each command by what it makes of the part that both devices have. -/
theorem timeUnitCommandsComplete : Obligations.TimeUnitCommandsComplete := by
  unfold Obligations.TimeUnitCommandsComplete
  refine ⟨?_, ?_, ?_, ?_, ?_, ?_, fun _ => rfl, ?_, ?_, ?_, ?_, ?_, ?_, ?_, ?_⟩
  · intro s hload hsum
    exact onAbl_on (Node.tick_of_no_wrap hload hsum)
  · intro s hlive hload hsum
    exact onLive_ddu hlive (Node.tick_of_no_wrap hload hsum)
  · intro s hload hsum
    exact onAbl_on ((if_neg (Nat.not_lt.2 hsum)).trans (Node.tick_of_wrap hload hsum))
  · intro s ns frac hload
    exact onAbl_on (Node.tick_of_abs hload)
  · intro s d hlive hload
    exact onLive_ddu hlive (Node.tick_of_rel hload)
  · intro s hlive hone
    exact onLive_ddu hlive (if_pos hone)
  · intro s hlive
    exact if_pos hlive
  · intro s v hv hlo hhi
    exact ⟨onAbl_on (Node.incrWrite_of_in hv hlo hhi false), onAbl_on (Node.incrWrite_of_in hv hlo hhi true)⟩
  · intro s v slew hv hout
    exact onAbl_on (Node.incrWrite_of_out hv hout slew)
  · intro s v hservo
    exact onAbl_on (Node.slewWrite_of_hw hservo)
  · intro s hservo
    exact onAbl_on (Node.loadCmd_of_hw hservo)
  · intro s hheld
    exact onAbl_on (Node.acceptJump_of_held hheld)
  · intro s hlive hsrc hst
    exact onLive_ddu hlive (Node.sourceLost_of_locked hsrc hst)
  · rintro s m hsrc hst rfl
    exact onAbl_on (Node.sourceLost_of_ptp hsrc hst)

end Sys2Proof.Machine
end

section
/-!
SUPPORT. The time exchange, PTP, the alarm of a holdover, the pulse and the launch queue (R160 to R180), one lemma for each way that a command goes.
-/

namespace Sys2Proof.Machine

/-! ## The time exchange (R163, R165) -/

/-- An awake client of the exchange asks its server. -/
theorem Node.timeReq_of_client {n : Node} (hawake : n.asleep = false) (hsrc : n.srcSel = 1) (hexch : n.exch ≠ 0) :
    n.timeReq = ({ n with timex := { n.timex with t1 := none } } : Node).frameUp 0 6 .timeReq [n.rd (Reg.TIME_DELAY n.dev)] := by
  simp [Node.timeReq, Node.timeClient, hawake, hsrc, hexch]

/-- The answer of an aligned server. -/
def Node.timeAnswer (n : Node) (port slot client t2 : Nat) : Node :=
  n.queueAt port 63 (n.mkMsg client 6 (.frame .timeResp [t2, 0, n.timeState] [])) slot

/-- An aligned server keeps no delay of a slot but slot 0. -/
theorem Node.timeReqRx_of_other_slot {n : Node} {slot : Nat} (hslot : slot ≠ 0) (hst : n.timeState ≠ tsUnaligned)
    (port client delta t2 : Nat) : n.timeReqRx port slot client delta t2 = n.timeAnswer port slot client t2 := by
  simp [Node.timeReqRx, Node.timeAnswer, hslot, hst]

/-- An aligned sentinel keeps the delay of slot 0. -/
theorem Node.timeReqRx_of_slot_zero {n : Node} {port delta : Nat} (hdev : n.dev = .abl)
    (hst : (n.wr (Reg.LNK_DELAY .abl) port delta).timeState ≠ tsUnaligned) (client t2 : Nat) :
    n.timeReqRx port 0 client delta t2 = (n.wr (Reg.LNK_DELAY .abl) port delta).timeAnswer port 0 client t2 := by
  simp [Node.timeReqRx, Node.timeAnswer, hdev, hst]

/-- The delay of an exchange in ns, from its stamps in 1/256 ns at the client and in ns at the server (R163). -/
def exchDelay (asym : Int) (t1 t2 t3 t4 : Nat) : Int := (500 * (((t4 : Int) - t1) - ((t3 : Int) - t2) * 256) - asym * 256 + 128000) / 256000

/-- The offset of an exchange in ns, from the same stamps (R163). -/
def exchOffset (asym : Int) (t1 t2 t3 t4 : Nat) : Int :=
  (500 * (((t2 : Int) * 256 - t1) + ((t3 : Int) * 256 - t4)) + asym * 256 + 128000) / 256000

/-- A client of the device `dev` that has noted the delay, the offset and the server's state of an exchange. -/
def Node.exchNoted (n : Node) (dev : Dev) (port flags : Nat) (delta theta : Int) : Node :=
  ({ (((n.wr (Reg.TIME_DELAY dev) 0 (ofInt 32 delta)).wr (Reg.TIME_OFFSET dev) 0 (ofInt 32 theta)).wr (Reg.LNK_DELAY dev) port
    (ofInt 32 delta)) with timex := { n.timex with
      t1 := none, serverHold := flags == tsHoldover || flags == tsJumpHeld, serverOut := flags == tsHoldover } } : Node).stamped

/-- The sample of an exchange, by the master that the client then has (R165, R166). -/
def Node.exchSample (n : Node) (theta move : Int) (master : Nat) : Node :=
  n.timeSample theta move (if n.inFallback then n.parentIdent else master) (if n.inFallback then 2 else 1) (n.dev == .ddu && !n.swServo)

/-- The answer to a request whose start was stamped gives a sample; a sentinel's firmware is interrupted. -/
theorem Node.timeRespRx_of_asked {n m : Node} {dev : Dev} {t1 t2 t3 t4 port flags : Nat} {delta theta : Int} (hdev : n.dev = dev)
    (ht1 : n.timex.t1 = some t1) (hdelta : delta = exchDelay (toInt 32 (n.rd (Reg.TIME_ASYM dev))) t1 t2 t3 t4)
    (htheta : theta = exchOffset (toInt 32 (n.rd (Reg.TIME_ASYM dev))) t1 t2 t3 t4) (hm : m = n.exchNoted dev port flags delta theta)
    (master : Nat) :
    n.timeRespRx port t2 t3 flags master t4 =
      (if m.dev == .abl then m.irq 108 else m).exchSample theta ((t3 : Int) + delta - (t4 / 256 : Nat)) master := by
  subst hdev hdelta htheta hm
  unfold Node.timeRespRx
  rw [ht1]
  rfl

/-- On a DDU the hardware servo applies the sample unless firmware does. -/
theorem Node.timeRespRx_of_ddu {n m : Node} {t1 t2 t3 t4 port flags : Nat} {delta theta : Int} (hdev : n.dev = .ddu)
    (ht1 : n.timex.t1 = some t1) (hdelta : delta = exchDelay (toInt 32 (n.rd (Reg.TIME_ASYM .ddu))) t1 t2 t3 t4)
    (htheta : theta = exchOffset (toInt 32 (n.rd (Reg.TIME_ASYM .ddu))) t1 t2 t3 t4) (hm : m = n.exchNoted .ddu port flags delta theta)
    (master : Nat) :
    n.timeRespRx port t2 t3 flags master t4 = m.timeSample theta ((t3 : Int) + delta - (t4 / 256 : Nat))
      (if m.inFallback then m.parentIdent else master) (if m.inFallback then 2 else 1) !m.swServo := by
  have hdev' : m.dev = .ddu := by rw [hm]; exact hdev
  rw [Node.timeRespRx_of_asked hdev ht1 hdelta htheta hm]
  simp [hdev', Node.exchSample]

/-! ## PTP (R160) -/

/-- An Announce takes the place of the same clock's last one. -/
theorem Node.ptpRx_announce_masters {n : Node} (hawake : n.asleep = false) (port src seq gm p1 cls acc var p2 : Nat) :
    (n.ptpRx port src seq (.announce gm p1 cls acc var p2 0)).timex.ptp.masters =
      (n.timex.ptp.masters.filter fun c => !(c.port == port && c.src == src)) ++
        [{ port := port, src := src, gm := gm, rank := [p1, cls, acc, var, p2, gm, 0, src, port] }] := by
  simp [Node.ptpRx, Node.onPtp, hawake]

/-- A message of the sentinel's own domain, on a port that is up, is taken. -/
theorem exec_ptpMessageRx_of_domain {s : State} {port domain : Nat} (hdomain : domain = s.abl.n.timex.ptpDomain)
    (hup : s.abl.n.mgmtDown (24 + port) = false) (src seq : Nat) (m : PtpMsg) :
    exec (.ptpMessageRx port domain src seq m) s = .next (s.settleAbl (s.abl.on fun n => n.ptpRx port src seq m)) :=
  onAbl_on (if_neg (by simp [hdomain, hup]))

/-! ## The pulse (R161, R176 to R178) -/

/-- The sentinel as an edge of PPS_IN leaves it: stamped, and interrupted (R161, R178). -/
def Node.ppsStamped (n : Node) : Node :=
  ({ ((n.wr Reg.ABL_PPS_IN_STAMP 0 (n.stamp / 256 % 2 ^ 32)).wr Reg.ABL_PPS_IN_WRAP 0
      ((n.stamp / 256 / 2 ^ 32 + 2 ^ 32 - n.rd (Reg.TIME_TIDE_BASE .abl)) % 2 ^ 32)) with
    timex := { n.timex with lastPps := some n.local, ppsFrac := n.stamp % 256, stamps := n.timex.stamps + 1 } } : Node).irq 107

/-- The first edge gives no sample where the pulse is not the source of time. -/
theorem exec_ppsInEdge_of_first {s : State} (hfirst : s.abl.n.timex.lastPps = none) (hsrc : s.abl.n.ppsStamped.srcSel ≠ 5) :
    exec .ppsInEdge s = .next (s.settleAbl (s.abl.on Node.ppsStamped)) := by
  have hnone : (decide (s.abl.n.ppsStamped.srcSel ≠ 5) || s.abl.n.ppsStamped.asleep) = true := by simp [hsrc]
  change execPpsInEdge s = _
  refine onAbl_on ?_
  simp only [hfirst, Bool.false_eq_true, if_false]
  exact if_pos hnone

/-- An edge no time after the last one is refused. -/
theorem exec_ppsInEdge_of_same {s : State} (hlast : s.abl.n.timex.lastPps = some s.abl.n.local) :
    exec .ppsInEdge s = .next (s.settleAbl (s.abl.on fun n => n.bump (Reg.TIME_REFUSED .abl))) := by
  have hsoon : decide (s.abl.n.local - s.abl.n.local < 100000000) = true := by simp
  change execPpsInEdge s = _
  refine onAbl_on ?_
  simp only [hlast, hsoon, if_true]

/-! ## The launch queue (R172 to R174, R180) -/

/-- Where none of an entry's ports is due, nothing is launched. -/
theorem Node.launchDueOf_of_none_due {n : Node} {e : LaunchEntry} (late : Bool)
    (h : ∀ p ∈ setBitsOf 26 e.ports, 0 < dist32 (n.launchAt e p) n.now) : n.launchDueOf e late = (n, e) := by
  have hnil : ((setBitsOf 26 e.ports).filter fun p => decide (dist32 (n.launchAt e p) n.now ≤ 0)) = [] := by
    simpa only [List.filter_eq_nil_iff, decide_eq_true_eq, not_le] using h
  simp [Node.launchDueOf, hnil]

/-- An entry whose target lies ahead on all its ports joins an empty queue. -/
theorem Node.launchEnqueue_launch {n : Node} {e : LaunchEntry} (hempty : n.timex.launch = []) (hports : e.ports ≠ 0)
    (h : ∀ p ∈ setBitsOf 26 e.ports, 0 < dist32 (n.launchAt e p) n.now) : (n.launchEnqueue e).timex.launch = [e] := by
  simp [Node.launchEnqueue, hempty, Node.launchDueOf_of_none_due true h, hports, Node.launchView]

/-- An entry for port 0 alone, without COMP, whose target lies ahead. -/
theorem Node.launchBuilt_launch {n : Node} (hempty : n.timex.launch = []) (hahead : 0 < dist32 (n.rd Reg.ABL_LAUNCH_TARGET) n.now)
    (hcomp : Machine.bit (n.rd Reg.ABL_LAUNCH_FRAME) 31 = false) (hports : n.rd Reg.ABL_LAUNCH_PORTS = 1) :
    n.launchBuilt.timex.launch = [{ target := n.rd Reg.ABL_LAUNCH_TARGET, ports := 1, frame := bits (n.rd Reg.ABL_LAUNCH_FRAME) 0 16,
                                    comp := false }] := by
  rw [Node.launchBuilt, hcomp, hports]
  exact Node.launchEnqueue_launch hempty Nat.one_ne_zero fun p _ => hahead

/-- The only entry of the queue leaves it whole. -/
theorem Node.launchDue_of_whole {n : Node} {e : LaunchEntry} (honly : n.timex.launch = [e]) (hwhole : (n.launchDueOf e).2.ports = 0) :
    n.launchDue = (({ (n.launchDueOf e).1 with timex := { (n.launchDueOf e).1.timex with launch := [] } } : Node).launchView).setB
      Reg.ABL_LAUNCH_STATUS 0 8 false := by
  simp [Node.launchDue, honly, hwhole]

/-- Settles O9: each command by what it makes of the part that both devices have. -/
theorem timeExchangeCommandsComplete : Obligations.TimeExchangeCommandsComplete := by
  unfold Obligations.TimeExchangeCommandsComplete
  refine ⟨?_, ?_, ?_, ?_, ?_, ?_, ?_, ?_, ?_, ?_, ?_, fun _ => rfl, fun _ _ => rfl, ?_, ?_, fun _ => rfl, ?_, ?_⟩
  · intro s hawake hsrc hexch
    exact onAbl_on (Node.timeReq_of_client hawake hsrc hexch)
  · intro s port slot client delta t2 hslot hst
    exact onAbl_on (Node.timeReqRx_of_other_slot hslot hst port client delta t2)
  · rintro s port client delta t2 m hdev rfl hst
    exact onAbl_on (Node.timeReqRx_of_slot_zero hdev hst client t2)
  · intro s port t1 t2 t3 flags master delta theta m hlive hdev ht1 hdelta htheta hm
    exact onLive_ddu hlive (Node.timeRespRx_of_ddu hdev ht1 hdelta htheta hm master)
  · intro s port domain src seq m hforeign
    exact onAbl_on (g := id) (if_pos (by simp [hforeign]))
  · intro s port domain src seq m hdomain hup
    exact exec_ptpMessageRx_of_domain hdomain hup src seq m
  · intro s port domain src seq gm p1 cls acc var p2 hdomain hup hawake
    exact ⟨_, exec_ptpMessageRx_of_domain hdomain hup src seq _, Node.ptpRx_announce_masters hawake port src seq ..⟩
  · intro s hst hlate
    exact onAbl_on (if_pos (by simp [hst, hlate]))
  · rintro s m k hfirst rfl rfl hsrc
    exact exec_ppsInEdge_of_first hfirst hsrc
  · exact fun s hlast => exec_ppsInEdge_of_same hlast
  · intro s hdue hfree
    exact onAbl_on (if_neg (by simp [not_lt.2 hdue, hfree]))
  · exact fun s hfull => exec_launchEnqueue_of_full hfull
  · intro s hempty hahead hcomp hports
    exact ⟨_, rfl, Node.launchBuilt_launch hempty hahead hcomp hports⟩
  · intro s e honly hwhole
    exact onAbl_on (Node.launchDue_of_whole honly hwhole)
  · intro s k hlive
    change onDdu s (fun d => if d.live then d.fleetSnap k else d) = _
    simp only [onDdu, hlive, if_true]

end Sys2Proof.Machine
end

section
/-!
SUPPORT. What a node counts and writes as records leaves the device that it stands for: the increments of its counters (R51, R80, R83), the records
that these write (R12, R140 to R149), and the messages that carry them (R32, R38, R249).
-/

namespace Sys2Proof.Machine

theorem dev_foldl {α : Type} {f : Node → α → Node} (hf : ∀ m a, (f m a).dev = m.dev) (l : List α) (n : Node) : (l.foldl f n).dev = n.dev :=
  List.foldlRecOn l f (motive := fun m => m.dev = n.dev) rfl fun m hm a _ => (hf m a).trans hm

/-! ## The recorder (R141, R143) -/

@[simp] theorem Node.ringAdd_dev (n : Node) (r : Record) : (n.ringAdd r).dev = n.dev := rfl

@[simp] theorem Node.ringPut_dev (n : Node) (r : Record) : (n.ringPut r).dev = n.dev := by
  unfold Node.ringPut
  split
  · rfl
  · rw [dev_foldl Node.ringAdd_dev]
    split <;> rfl

@[simp] theorem Node.place_dev (n : Node) (r : Record) : (n.place r).dev = n.dev := by
  unfold Node.place
  simp only
  split
  · split
    · split <;> rfl
    · rfl
  · exact n.ringPut_dev r

@[simp] theorem Node.store_dev (n : Node) (r : Record) : (n.store r).dev = n.dev := by
  unfold Node.store
  simp only
  split
  · rfl
  · split
    · split
      · split <;> rfl
      · rfl
    · exact Node.ringPut_dev _ r

/-! ## Messages upward (R32, R38, R249) -/

@[simp] theorem Node.queueAt_dev (n : Node) (port slot : Nat) (m : Msg) (lslot guest : Nat) : (n.queueAt port slot m lslot guest).dev = n.dev := by
  unfold Node.queueAt
  simp only
  split
  · rfl
  · split
    · split
      · rfl
      · split <;> rfl
    · rfl

@[simp] theorem Node.keepUp_dev (n : Node) (slot : Nat) (m : Msg) : (n.keepUp slot m).dev = n.dev := by
  unfold Node.keepUp
  split
  · rfl
  · simp only
    split <;> simp

@[simp] theorem Node.sendUp_dev (n : Node) (jobtag cls : Nat) (b : Body) : (n.sendUp jobtag cls b).dev = n.dev := by
  unfold Node.sendUp Node.sendUpMsg
  split
  · exact Node.queueAt_dev ..
  · rw [Node.queueAt_dev]
    split <;> simp

/-! ## Records (R12, R140, R147) -/

@[simp] theorem Node.limit_dev (n : Node) (typ code : Nat) (severe : Bool) : (n.limit typ code severe).2.dev = n.dev := by
  unfold Node.limit
  split
  · rfl
  · simp only
    split <;> rfl

theorem Node.record1_dev {send : Record → Node → Node} (hsend : ∀ r m, (send r m).dev = m.dev) (n : Node) (cls typ code src flags : Nat)
    (payload : List Nat) : (n.record1 cls typ code src flags payload send).dev = n.dev :=
  (hsend ..).trans (Node.store_dev ..)

theorem Node.write_dev {send : Record → Node → Node} (hsend : ∀ r m, (send r m).dev = m.dev) (n : Node) (cls typ code src flags : Nat)
    (payload : List Nat) (severe : Bool) : (n.write cls typ code src flags payload send severe).dev = n.dev := by
  have hlimit := n.limit_dev typ code severe
  unfold Node.write
  split
  · next m hm => rwa [hm] at hlimit
  · next k first m hm =>
    rw [hm] at hlimit
    rw [record1_dev hsend]
    split
    · exact hlimit
    · exact (record1_dev (fun _ _ => rfl) ..).trans hlimit

@[simp] theorem Node.postUp_dev (n : Node) (jobtag cls typ code src : Nat) (payload : List Nat) :
    (n.postUp jobtag cls typ code src payload).dev = n.dev := write_dev (fun _ m => m.sendUp_dev ..) ..

@[simp] theorem Node.loss_dev (n : Node) (count cause subject : Nat) (src : Option Nat) : (n.loss count cause subject src).dev = n.dev := by
  unfold Node.loss
  split
  · rfl
  · exact write_dev (fun _ m => m.sendUp_dev ..) ..

/-! ## Counters (R51, R80, R83) -/

@[simp] theorem Node.cntWrapped_dev (n : Node) (k : Nat) : (n.cntWrapped k).dev = n.dev := Node.postUp_dev ..

@[simp] theorem Node.cntChains_dev (n : Node) (k old : Nat) : (n.cntChains k old).dev = n.dev := Node.postUp_dev ..

@[simp] theorem Node.cntCarry_dev (n : Node) (before : RegFile) (k : Nat) : (n.cntCarry before k).dev = n.dev := by
  unfold Node.cntCarry
  split
  · exact n.cntWrapped_dev k
  · split
    · simp only
      split <;> simp
    · split <;> simp

@[simp] theorem Node.cntAdd_dev (n : Node) (before : RegFile) (k inc : Nat) : (n.cntAdd before k inc).dev = n.dev := by
  unfold Node.cntAdd
  split
  · rfl
  · simp only
    split <;> simp

@[simp] theorem Node.countRun_dev (n : Node) (before : RegFile) (ev inc : Nat) : (n.countRun before ev inc).dev = n.dev := by
  have hsum : ((n.countersOf ev).foldl (fun m k => m.cntAdd before k inc) n).dev = n.dev := dev_foldl (fun m k => m.cntAdd_dev before k inc) ..
  unfold Node.countRun
  simp only
  split
  · exact hsum
  · exact hsum

@[simp] theorem Node.preAdd_dev (n : Node) (ev inc : Nat) : (n.preAdd ev inc).dev = n.dev := by
  unfold Node.preAdd
  simp only
  split <;> simp

@[simp] theorem Node.count_dev (n : Node) (ev k : Nat) : (n.count ev k).dev = n.dev := by
  unfold Node.count Node.countIn
  split
  · rfl
  · split <;> simp

end Sys2Proof.Machine
end

section
/-!
SUPPORT. The lanes of the Dervi Link (R187, R188, R191, R192, R196 to R198, R200, R206 to R208, R694), one lemma for each way that an operation of a
lane goes.
-/

namespace Sys2Proof.Machine

open Safety

/-! ## Commands on a port -/

/-- A command on a port of a device that is not held in reset is known by what it makes of the device's part. -/
theorem onPort_eq_next {s : State} {dev : Dev} {f : Node → Node} {m : Node} (hawake : Awake s dev) (hf : f (part s dev) = m) :
    onPort dev s f = .next (settled s dev m) := by
  subst hf
  cases dev with
  | ddu => exact congrArg (fun d => Host.Outcome.next (s.settleDdu d)) (if_pos hawake)
  | abl => rfl

theorem execFlitTime_ddu {s : State} {d : Ddu} (hlive : s.ddu.live = true)
    (hd : (if s.ddu.n.bit Reg.DDU_STATUS 0 7 && (s.ddu.n.lane 0 0).st != lsUp then s.ddu.fbSend else s.ddu.on fun n => n.flitTime 0 0) = d)
    (p slot : Nat) : exec (.flitTime .ddu p slot) s = .next (s.settleDdu d) := by
  change execFlitTime .ddu p slot s = _
  simp only [execFlitTime, onDdu, hlive, Bool.not_true, Bool.false_eq_true, if_false, hd]

/-! ## Flits (R187, R191) -/

@[simp] theorem Node.setLane_dev (n : Node) (p slot : Nat) (l : LaneX) : (n.setLane p slot l).dev = n.dev := by
  unfold Node.setLane
  simp only [apply_ite Node.dev, Node.setB_dev, Node.setFld_dev, ite_self]

@[simp] theorem Node.flitAck_dev (n : Node) (p slot : Nat) (f : Flit) : (n.flitAck p slot f).dev = n.dev := by
  unfold Node.flitAck
  simp only [setLane_dev, apply_ite Node.dev, ite_self]

/-- A node that has counted a flit that arrives (R80, R112). -/
def Node.flitCounted (n : Node) (p : Nat) : Node :=
  match n.dev with
  | .ddu => n.count 0xF41
  | .abl => (n.lcount p 1).lcount p 3 2

theorem Node.flitCounted_of_ddu {n : Node} (hdev : n.dev = .ddu) (p : Nat) : n.flitCounted p = n.count 0xF41 := by
  simp only [flitCounted, hdev]

theorem Node.flitCounted_of_abl {n : Node} (hdev : n.dev = .abl) (p : Nat) : n.flitCounted p = (n.lcount p 1).lcount p 3 2 := by
  simp only [flitCounted, hdev]

/-- A lane that is not UP takes no flit. -/
theorem Node.flitRx_of_down {n : Node} {p slot : Nat} (hdown : (n.lane p slot).st ≠ lsUp) (f : Flit) : n.flitRx p slot f = n := if_pos hdown

/-- A flit whose CRC does not match is lost, and a NAK is due. -/
theorem Node.flitRx_of_broken {n : Node} {p slot : Nat} {f : Flit} (hup : (n.lane p slot).st = lsUp) (hbroken : f.intact = false) :
    n.flitRx p slot f = (n.flitCounted p).flitLost p slot :=
  (if_neg (not_not.2 hup)).trans (if_pos (by simp [hbroken]))

/-- A lane that has taken the flit that it awaits: one SEQ further, with a credit to return and the flit's bytes. -/
def LaneX.awaited (l : LaneX) (f : Flit) : LaneX :=
  { l with expSeq := (f.seq + 1) % 4096, awaitSeq := false, creditDue := modifyAt l.creditDue f.cls fun x => x + 1 }

/-- The flit that a lane awaits, of a message of another class than LINK, where the port takes that class (R194). -/
theorem Node.flitRx_of_awaited {n m : Node} {p slot : Nat} {f : Flit} (hup : (n.lane p slot).st = lsUp) (hwhole : f.intact = true)
    (htype : f.ftype = 1 ∨ f.ftype = 2) (hlink : f.cls ≠ 6) (htakes : m.dev = .abl → p < 20 ∨ f.cls = 4)
    (hm : m = (n.flitCounted p).flitAck p slot f) (hseq : f.seq = (m.lane p slot).expSeq) :
    n.flitRx p slot f = m.setLane p slot (((m.lane p slot).awaited f).take f) := by
  have hpeer : (m.dev == .abl && decide (20 ≤ p) && decide (f.cls ≠ 4)) = false := by
    by_cases hdev : m.dev = .abl
    · rcases htakes hdev with hp | hcls
      · simp [Nat.not_le.2 hp]
      · simp [hcls]
    · simp [hdev]
  unfold Node.flitRx
  rw [if_neg (not_not.2 hup), if_neg (by simp [hwhole])]
  generalize hack : Node.flitAck _ p slot f = c
  obtain rfl : m = c := hm.trans hack
  rcases htype with htype | htype <;> simp only [htype, LaneX.awaited, ← hseq, hpeer, hlink, ne_self_iff_false, if_false, decide_false, Bool.false_and,
    Bool.false_eq_true]

/-! ## Training (R197, R210, R694) -/

/-- A DDU in Slack trains only once its signal has woken it (R543); another lane in DETECT trains. -/
theorem exec_signalDetect_of_detect {s : State} {dev : Dev} {p slot : Nat} (hawake : Awake s dev) (hst : ((part s dev).lane p slot).st = lsDetect)
    (hroused : ¬ (part s dev).dev = .ddu ∨ ¬ (part s dev).fld Reg.DDU_PWR_STATE 0 0 3 = 0) :
    exec (.signalDetect dev p slot) s = .next (settled s dev ((part s dev).setLane p slot
      { ((part s dev).lane p slot) with st := lsTrain, wire := [(part s dev).trainFlit p slot] })) := by
  have hslack : ((part s dev).dev == .ddu && (part s dev).fld Reg.DDU_PWR_STATE 0 0 3 == 0) = false := by
    simpa only [Bool.and_eq_false_iff, beq_eq_false_iff_ne] using hroused
  exact onPort_eq_next hawake (if_pos (by simp [hst, hslack]))

/-- A handshake with a peer that the port does not expect. -/
theorem Node.trained_of_mismatch {n m : Node} {p slot peer : Nat} (hst : (n.lane p slot).st = lsTrain) (hm : m = n.modLane p slot LaneX.trainedOnce)
    (hexpect : Machine.bit (m.rd (Reg.LNK_PEER_EXPECT m.dev) p) 63 = true)
    (hother : bits (m.rd (Reg.LNK_PEER_EXPECT m.dev) p) 0 28 ≠ bits peer 0 28) (us : Nat) (restarted : Bool) :
    n.trained p slot peer us restarted =
      (m.modLane p slot fun l => { l with st := lsBackoff, wire := [] }).laneRec p slot 0x0005 0 (peer % 2 ^ 32) := by
  subst hm
  exact (if_neg (not_not.2 hst)).trans (if_pos (by simp [hexpect, hother]))

/-- A handshake where the port expects no peer by name. -/
theorem Node.trained_of_any {n m : Node} {p slot : Nat} (hst : (n.lane p slot).st = lsTrain) (hm : m = n.modLane p slot LaneX.trainedOnce)
    (hany : Machine.bit (m.rd (Reg.LNK_PEER_EXPECT m.dev) p) 63 = false) (peer us : Nat) (restarted : Bool) :
    n.trained p slot peer us restarted = m.laneUp p slot peer us restarted := by
  subst hm
  exact (if_neg (not_not.2 hst)).trans (if_neg (by simp [hany]))

theorem Node.trainFailure_of_train {n : Node} {p slot : Nat} (hst : (n.lane p slot).st = lsTrain) :
    n.trainFailure p slot = (n.modLane p slot LaneX.trainedOnce).laneFail p slot 5 := if_neg (not_not.2 hst)

/-! ## Leaving UP (R196, R197, R694) -/

theorem Node.signalLost_of_train {n : Node} {p slot : Nat} (hst : (n.lane p slot).st = lsTrain) :
    n.signalLost p slot = n.setLane p slot { (n.lane p slot).trainedOnce with st := lsDetect, wire := [] } := if_pos hst

/-- The loss of signal on an UP lane counts as early within its first second. -/
theorem Node.signalLost_of_up {n : Node} {p slot : Nat} (hst : (n.lane p slot).st = lsUp) :
    n.signalLost p slot = (n.leaveUp p slot lsDetect 0x0001 0 none).modLane p slot
      fun l => { l with held6 := decide (n.local < (n.lane p slot).upSince + 1000000000) } := by
  have hne : (n.lane p slot).st ≠ lsTrain := by rw [hst]; decide
  exact (if_neg hne).trans (if_pos hst)

theorem Node.upFailure_of_up {n : Node} {p slot : Nat} (hst : (n.lane p slot).st = lsUp) (cause : Nat) (notice : Bool) :
    n.upFailure p slot cause notice = (n.leaveUp p slot lsBackoff 0x0001 cause (if notice then some cause else none)).laneFail p slot cause :=
  if_neg (not_not.2 hst)

/-- The peer announces that it leaves UP without a failure. -/
theorem Node.noticeRx_of_plain {n : Node} {p slot : Nat} (hst : (n.lane p slot).st = lsUp) :
    n.noticeRx p slot 0 = n.leaveUp p slot lsDetect 0x0004 0 none := if_neg (not_not.2 hst)

/-- The peer announces a failure, which the lane does not announce back. -/
theorem Node.noticeRx_of_failure {n : Node} {p slot cause : Nat} (hst : (n.lane p slot).st = lsUp) (hcause : cause ≠ 0) :
    n.noticeRx p slot cause = (n.leaveUp p slot lsBackoff 0x0001 cause none).laneFail p slot cause :=
  (if_neg (not_not.2 hst)).trans ((if_neg hcause).trans (upFailure_of_up hst cause false))

/-- A failure of cause 1 to 3, with no uncorrectable codeword to count. -/
theorem exec_laneFailure_of_up {s : State} {dev : Dev} {p slot cause : Nat} (hawake : Awake s dev) (hst : ((part s dev).lane p slot).st = lsUp)
    (hlo : 1 ≤ cause) (hhi : cause ≤ 3) :
    exec (.laneFailure dev p slot cause 0) s = .next (settled s dev
      (((part s dev).leaveUp p slot lsBackoff 0x0001 cause (some cause)).laneFail p slot cause)) :=
  onPort_eq_next hawake ((if_pos (by simp [hlo, hhi])).trans (Node.upFailure_of_up hst cause true))

/-! ## LNK_CTRL (R208) -/

theorem Node.lnkWrite_of_ddu {n : Node} (hdev : n.dev = .ddu) (p v : Nat) :
    n.lnkWrite p v = (n.wr (Reg.LNK_CTRL .ddu) p (bits v 29 3 * 536870912)).portCtrl p := by simp only [lnkWrite, hdev, Nat.reducePow]

theorem Node.lnkWrite_of_abl {n : Node} (hdev : n.dev = .abl) (p v : Nat) :
    n.lnkWrite p v = (n.wr (Reg.LNK_CTRL .abl) p (bits v 30 2 * 1073741824)).portCtrl p := by simp only [lnkWrite, hdev, Nat.reducePow]

/-- Settles O10: each command by what it makes of the part that both devices have, a write also by who may make it. -/
theorem laneCommandsComplete : Obligations.LaneCommandsComplete := by
  unfold Obligations.LaneCommandsComplete
  refine ⟨fun _ _ _ => rfl, ?_, ?_, ?_, ?_, ?_, ?_, ?_, ?_, ?_, ?_, ?_, ?_, ?_, ?_, ?_, ?_, ?_, ?_, ?_, ?_, ?_⟩
  · intro s p slot hlive hdirect
    exact execFlitTime_ddu hlive (if_neg (by simp [hdirect])) p slot
  · intro s p slot hlive hfallback hdown
    exact execFlitTime_ddu hlive (if_pos (by simp [hfallback, hdown])) p slot
  · intro s dev p slot f hawake hdown
    exact onPort_eq_next hawake (Node.flitRx_of_down hdown f)
  · intro s p slot f hdev hup hbroken
    refine ⟨_, onPort_eq_next (dev := .abl) trivial (Node.flitRx_of_broken hup hbroken), ?_⟩
    exact Node.flitCounted_of_abl hdev p
  · rintro s p slot f m l hdev hup hwhole htype hlink htakes hm hseq rfl
    rw [← Node.flitCounted_of_abl hdev] at hm
    exact onPort_eq_next (dev := .abl) trivial (Node.flitRx_of_awaited hup hwhole htype hlink (fun _ => htakes) hm hseq)
  · rintro s p slot f m l hdev hlive hup hwhole htype hlink hm hseq rfl
    have hddu : m.dev = .ddu := by rw [hm, Node.flitAck_dev, Node.count_dev, hdev]
    rw [← Node.flitCounted_of_ddu hdev p] at hm
    exact onPort_eq_next (dev := .ddu) hlive (Node.flitRx_of_awaited hup hwhole htype hlink (by simp [hddu]) hm hseq)
  · intro s dev p slot hawake hst hroused
    exact exec_signalDetect_of_detect hawake hst hroused
  · intro s dev p slot peer us r n hawake hst hn hany
    exact onPort_eq_next hawake (Node.trained_of_any hst hn hany peer us r)
  · intro s dev p slot peer us r n hawake hst hn hexpect hother
    exact onPort_eq_next hawake (Node.trained_of_mismatch hst hn hexpect hother us r)
  · intro s dev p slot hawake hst
    exact onPort_eq_next hawake (Node.trainFailure_of_train hst)
  · intro s dev p slot hawake hst
    exact onPort_eq_next hawake (Node.signalLost_of_train hst)
  · intro s dev p slot hawake hst
    exact onPort_eq_next hawake (Node.signalLost_of_up hst)
  · rintro s dev p slot cause uncorr hawake hst rfl hlo hhi
    exact exec_laneFailure_of_up hawake hst hlo hhi
  · intro s dev p slot hawake hst
    exact onPort_eq_next hawake (Node.upFailure_of_up hst 4 true)
  · intro s dev p slot hawake hst
    exact onPort_eq_next hawake (Node.noticeRx_of_plain hst)
  · intro s dev p slot cause hawake hst hcause
    exact onPort_eq_next hawake (Node.noticeRx_of_failure hst hcause)
  · intro s dev p slot hawake hst
    exact onPort_eq_next hawake (if_pos hst)
  · intro s dev p slot hawake
    exact onPort_eq_next hawake rfl
  · intro s dev who p _ hmay
    exact devWrite_of_may hmay fun n => (n.slotsOf p).foldl (fun n k => n.retrain p k) n
  · intro s who v hwho hans hdev
    rw [← Node.lnkWrite_of_ddu hdev]
    exact devWrite_of_may (dev := .ddu) ⟨hwho, hans⟩ fun n => n.lnkWrite 0 v
  · intro s p v hdev
    rw [← Node.lnkWrite_of_abl hdev]
    exact devWrite_of_may (dev := .abl) rfl fun n => n.lnkWrite p v

end Sys2Proof.Machine
end

section
/-!
SUPPORT. A message at a sentinel (R189, R190, R691): what the lane that delivers it keeps of a LINK message's arrival (R164).
-/

namespace Sys2Proof.Machine

open Safety

/-- A copy of a delivered record that is for another node is discarded, and leaves the buffer of its lane (R35, R691). -/
theorem Abl.msgRx_of_copy {a : Abl} {port slot : Nat} {m : Msg} {n : Node} (hn : a.n.doneTake port slot m.cls = n) (hover : n.msgOver m = false)
    (hcopy : n.isCopy m = true) (hdest : bits m.dest 0 20 ≠ n.ident) : a.msgRx port slot m = { a with n := n } := by
  subst hn
  have hread : m.body.read (bits m.dest 0 20 == (a.n.doneTake port slot m.cls).ident) = .record := by
    cases hbody : m.body <;> simp [Body.read, hdest]
  simp [Abl.msgRx, Abl.on, hover, hcopy, hread]

/-- What settles on a quiet sentinel leaves its lanes. -/
theorem settleAbl_lane {s : State} {a : Abl} (hquiet : QuietAbl a) (hpwr : a.n.pwrState = s.abl.n.pwrState) (hsrc : a.n.srcSel ≠ 3)
    (p slot : Nat) : (s.settleAbl a).abl.n.lane p slot = a.n.lane p slot := by
  rw [State.settleAbl, Abl.carryFrom_of_quiet hquiet hpwr (.inl hsrc)]
  rfl

/-- A record of class ALARM for another node. -/
def copiedMsg : Msg :=
  { origin := 5, dest := 6, expire := 1000, cls := 1, body := .record { typ := 0x12, code := 1, src := 0, time := 0, seq := 0 } }

/-- A tray sentinel that has had that record, and an UP lane that keeps the arrival of the LINK message it has delivered last. -/
def stampedNode : Node :=
  ((({ dev := .abl } : Node).wr Reg.ABL_NODE 0 0x10020003).noteRec copiedMsg).setLane 0 0 { st := lsUp, lastIn := some 0 }

def stampedState : State := { State.reset with abl := { n := stampedNode } }

/-- That sentinel once its lane keeps no arrival. -/
def unstampedNode : Node := stampedNode.doneTake 0 0 1

theorem exec_messageRx_copiedMsg : exec (.messageRx .abl 0 0 copiedMsg) stampedState =
    .next (stampedState.settleAbl { stampedState.abl with n := unstampedNode }) := by
  have hrx : stampedState.abl.msgRx 0 0 copiedMsg = { stampedState.abl with n := unstampedNode } :=
    Abl.msgRx_of_copy rfl (by decide +kernel) (by decide +kernel) (by decide +kernel)
  change onAbl stampedState (fun a => a.msgRx 0 0 copiedMsg) = _
  rw [onAbl, hrx]

/-- The copy, which is no LINK message, ends what the lane keeps. -/
theorem lastIn_of_messageRx : ((stampedState.settleAbl { stampedState.abl with n := unstampedNode }).abl.n.lane 0 0).lastIn = none := by
  rw [settleAbl_lane (by decide +kernel) (by decide +kernel) (by decide +kernel)]
  decide +kernel

/-- A sentinel that stays as it is would keep it. -/
theorem lastIn_of_bare_copy : ((stampedState.settleAbl stampedState.abl).abl.n.lane 0 0).lastIn = some 0 := by
  rw [settleAbl_lane (by decide +kernel) rfl (by decide +kernel)]
  rfl

/-- Refutes O11: its clause on a copy says that the sentinel stays as it is where its lane has nothing received in full, but a message that is no LINK
message ends what the lane keeps of the arrival of the LINK message delivered last (R164). -/
theorem not_messageAndSchedulerCommandsComplete : ¬ Obligations.MessageAndSchedulerCommandsComplete := by
  unfold Obligations.MessageAndSchedulerCommandsComplete
  rintro ⟨-, hcopy, -⟩
  have hclaim : exec (.messageRx .abl 0 0 copiedMsg) stampedState = .next (stampedState.settleAbl stampedState.abl) :=
    hcopy stampedState 0 0 copiedMsg (by decide +kernel) (by decide +kernel) (by decide +kernel)
  have hsame := Host.Outcome.next.inj (exec_messageRx_copiedMsg.symm.trans hclaim)
  have hended := lastIn_of_messageRx
  rw [hsame, lastIn_of_bare_copy] at hended
  exact absurd hended (by decide)

end Sys2Proof.Machine
end

section
/-!
SUPPORT. The Summary Unit, the Reduction Engine and the barriers (R212 to R236), one lemma for each way that an operation goes.
-/

namespace Sys2Proof.Machine

/-! ## Commands on the sentinel -/

/-- A command on the sentinel is known by what it makes of the sentinel. -/
theorem onAbl_eq_next {s : State} {f : Abl → Abl} {a : Abl} (h : f s.abl = a) : onAbl s f = .next (s.settleAbl a) := by rw [onAbl, h]

/-! ## Summaries from below (R219, R225, R226) -/

theorem exec_dieSummaryRx_of_on {s : State} (hon : s.abl.n.bit Reg.ABL_RED_CTRL 0 0 = true) (origin : Nat) (r : Record) :
    exec (.dieSummaryRx origin r) s = .next (s.settleAbl (s.abl.dieSummary origin r.payload)) := onAbl_eq_next (if_pos hon)

theorem exec_nodeSummaryRx_of_on {s : State} (hon : s.abl.n.bit Reg.ABL_RED_CTRL 0 0 = true) (origin : Nat) (r : Record) :
    exec (.nodeSummaryRx origin r) s = .next (s.settleAbl (s.abl.nodeSummary origin r.payload)) := onAbl_eq_next (if_pos hon)

section
variable {a : Abl} {origin c : Nat} {ms p : List Nat}

theorem Abl.dieSummary_of_stranger (h : a.n.childOf origin = none) (p : List Nat) :
    a.dieSummary origin p = a.on fun n => n.bump Reg.ABL_RED_UNMATCHED := by simp only [Abl.dieSummary, h]

theorem Abl.nodeSummary_of_stranger (h : a.n.childOf origin = none) (p : List Nat) :
    a.nodeSummary origin p = a.on fun n => n.bump Reg.ABL_RED_UNMATCHED := by simp only [Abl.nodeSummary, h]

/-- A child's frame for which no slot is at work feeds none, whatever its job. -/
theorem Abl.dieSummary_of_no_slot (hchild : a.n.childOf origin = some c) (hslots : a.frameSlots (leAt p 0 4) = none) :
    a.dieSummary origin p = a.unmatched (leAt p 0 4) := by simp only [Abl.dieSummary, hchild, hslots, ite_self]

theorem Abl.nodeSummary_of_no_slot (hchild : a.n.childOf origin = some c) (hslots : a.frameSlots (leAt p 0 4) = none) :
    a.nodeSummary origin p = a.unmatched (leAt p 0 4) := by simp only [Abl.nodeSummary, hchild, hslots, ite_self]

/-- A die's entries feed the slots of its job one after the other, and the late and early ones are counted at the end. -/
theorem Abl.dieSummary_of_slots (hchild : a.n.childOf origin = some c) (hjob : a.n.jobCheck (leAt p 0 4) = 0)
    (hslots : a.frameSlots (leAt p 0 4) = some ms) :
    a.dieSummary origin p = (fun q : Abl × List Nat => q.1.countCases q.2)
      ((dieEnts p).foldl (Abl.dieEntry ms origin c (leAt p 4 4)) (a, [])) := by
  simp only [Abl.dieSummary, hchild, hjob, hslots, ne_eq, not_true_eq_false, if_false]

/-- A node's entries do so too, once what its frame says of the dies beneath it is noted. -/
theorem Abl.nodeSummary_of_slots (hchild : a.n.childOf origin = some c) (hjob : a.n.jobCheck (leAt p 0 4) = 0)
    (hslots : a.frameSlots (leAt p 0 4) = some ms) :
    a.nodeSummary origin p = (fun q : Abl × List Nat => q.1.countCases q.2)
      ((redEntries (min 253 (leAt p 24 4)) (p.drop 32)).foldl (Abl.nodeEntry ms c (leAt p 8 4) (leAt p 16 4) (leAt p 4 4))
        (a.knownDies (leAt p 0 4) c (leAt p 12 4), [])) := by
  simp only [Abl.nodeSummary, hchild, hjob, hslots, ne_eq, not_true_eq_false, if_false]

end

/-! ## The close of an input window (R225, R230, R292) -/

section
variable {a : Abl} {period w : Nat}

/-- With no slot to close and no output window begun, the close of a window changes nothing. -/
theorem Abl.closeWindow_of_closing_nil (hclosing : a.closing period w = []) (hframes : a.red.frames = []) : a.closeWindow period w = a := by
  simp [Abl.closeWindow, hclosing, hframes]

theorem Abl.windowClose_of_closing_nil (hclosing : a.closing period w = []) (hframes : a.red.frames = []) : a.windowClose period w = a := by
  simp [Abl.windowClose, hclosing, Abl.closeWindow_of_closing_nil hclosing hframes]

/-- A slot that the close has moved on to its next window triggers the bindings that it is the trigger slot of. -/
theorem Abl.windowClose_of_moved {sl x : RedSlot} (hclosing : a.closing period w = [sl])
    (hslot : (a.closeWindow period w).redSlot sl.m = some x) (hnext : x.next = w + 1) :
    a.windowClose period w = (a.closeWindow period w).treeTrigger sl.m w := by
  simp [Abl.windowClose, hclosing, hslot, hnext]

end

/-! ## Metric slots (R224, R229, R256) -/

section
variable {a : Abl} {m v : Nat}

/-- A valid slot without an input period is refused. -/
theorem Abl.metTry_of_no_period (hvalid : Machine.bit v 127 = true) (hop : bits v 124 3 ≠ 7) (hperiod : min 10000 (bits v 24 20) = 0) :
    a.metTry m v = (a.on fun n => n.bump Reg.ABL_RED_REFUSED, false) := by
  simp only [Abl.metTry, hvalid, hperiod]
  exact if_pos (by simp [hop])

theorem Abl.metWrite_of_no_period (hvalid : Machine.bit v 127 = true) (hop : bits v 124 3 ≠ 7) (hperiod : min 10000 (bits v 24 20) = 0) :
    a.metWrite m v = a.on fun n => n.bump Reg.ABL_RED_REFUSED := by
  simp only [Abl.metWrite, Abl.metSet, Abl.metTry_of_no_period hvalid hop hperiod, Bool.false_eq_true, if_false]

@[simp] theorem Abl.baseReset_slots (a : Abl) (ks : List Nat) : (a.baseReset ks).red.slots = a.red.slots := rfl

@[simp] theorem Abl.bindView_red (a : Abl) : a.bindView.red = a.red := by rw [Abl.bindView, Abl.on_red]

/-- A write that leaves the slot without work and without a baseline is accepted, and the slot works no longer. -/
theorem Abl.metTry_of_not_valid (hvalid : Machine.bit v 127 = false) (hbase : Machine.bit v 123 = false) :
    (a.metTry m v).2 = true ∧ (a.metTry m v).1.red.slots = a.red.slots.filter fun x => x.m != m := by
  simp [Abl.metTry, hvalid, hbase]

theorem Abl.metWrite_slots_of_not_valid (hvalid : Machine.bit v 127 = false) (hbase : Machine.bit v 123 = false) :
    (a.metWrite m v).red.slots = a.red.slots.filter fun x => x.m != m := by
  obtain ⟨hdone, hslots⟩ := Abl.metTry_of_not_valid (a := a) (m := m) hvalid hbase
  simp only [Abl.metWrite, Abl.metSet, hdone, if_true, Abl.bindView_red, hslots]

end

/-! ## Barriers (R234 to R236) -/

section
variable {a : Abl} {origin c : Nat} {p : List Nat} (hjob : a.n.jobCheck (leAt p 0 4) = 0)
include hjob

/-- An arrival with a stamp is one of its child, both the first and the last. -/
theorem Abl.arrival_of_stamped (hchild : a.n.childOf origin = some c) (hstamp : Machine.bit (leAt p 10 2) 0 = false) :
    a.arrival origin p = a.barGive (leAt p 0 4) (leAt p 8 2) (leAt p 4 4) c 1 0 (some (leAt p 12 4, bits origin 0 17))
      (some (leAt p 12 4, bits origin 0 17)) := by
  simp only [Abl.arrival, hjob, hchild, hstamp, Bool.false_eq_true, if_false]

theorem Abl.arrival_of_stranger (hchild : a.n.childOf origin = none) : a.arrival origin p = a.on fun n => n.bumpOf mismatchReg := by
  simp only [Abl.arrival, hjob, hchild]

theorem Abl.barrierPart_of_stamped (hchild : a.n.childOf origin = some c) (hstamp : Machine.bit (leAt p 10 2) 2 = false) :
    a.barrierPart origin p = a.barGive (leAt p 0 4) (leAt p 8 2) (leAt p 4 4) c (leAt p 16 4) (leAt p 12 4)
      (some (leAt p 20 4, leAt p 24 4 % 131072)) (some (leAt p 28 4, leAt p 32 4 % 131072)) := by
  simp [Abl.barrierPart, hjob, hchild, hstamp]

theorem Abl.barrierPart_of_stranger (hchild : a.n.childOf origin = none) :
    a.barrierPart origin p = a.on fun n => n.bumpOf mismatchReg := by
  simp only [Abl.barrierPart, hjob, hchild]

end

/-- A barrier whose time is over is closed with what has arrived. -/
theorem Abl.barTimeout_of_late {a : Abl} {t tag epoch : Nat} {b : BarX}
    (hbar : a.bars.find? (fun x => x.jobtag == t && x.tag == tag && x.epoch == epoch) = some b)
    (hlate : b.began + a.n.rd Reg.ABL_RED_BAR_TIMEOUT_US * 1000 ≤ a.n.local) : a.barTimeout t tag epoch = a.barClose b false := by
  simp only [Abl.barTimeout, hbar]
  exact if_neg (Nat.not_lt.2 hlate)

/-- Settles O12: each command by what it does on the device that it acts on. -/
theorem reductionCommandsComplete : Obligations.ReductionCommandsComplete := by
  unfold Obligations.ReductionCommandsComplete
  refine ⟨?_, ?_, ?_, ?_, ?_, ?_, ?_, ?_, ?_, ?_, ?_, ?_, ?_, ?_⟩
  · intro s hdead
    change onDdu s (fun d => if d.alive then d.sumClose else d) = _
    simp only [onDdu, hdead, Bool.false_eq_true, if_false]
  · intro s halive
    change onDdu s (fun d => if d.alive then d.sumClose else d) = _
    simp only [onDdu, halive, if_true]
  · intro s origin r hon hchild
    rw [exec_dieSummaryRx_of_on hon, exec_nodeSummaryRx_of_on hon, Abl.dieSummary_of_stranger hchild, Abl.nodeSummary_of_stranger hchild]
    exact ⟨rfl, rfl⟩
  · intro s origin c r hon hchild hslots
    rw [exec_dieSummaryRx_of_on hon, exec_nodeSummaryRx_of_on hon, Abl.dieSummary_of_no_slot hchild hslots,
      Abl.nodeSummary_of_no_slot hchild hslots]
    exact ⟨rfl, rfl⟩
  · intro s origin c ms p r hon hchild hjob hslots hp
    rw [exec_dieSummaryRx_of_on hon, Abl.dieSummary_of_slots hchild hjob hslots, hp]
  · intro s origin c ms p r hon hchild hjob hslots hp
    rw [exec_nodeSummaryRx_of_on hon, Abl.nodeSummary_of_slots hchild hjob hslots, hp]
  · intro s period w _ _ _ hclosing hframes
    exact onAbl_eq_next (f := fun a => a.windowClose period w) (Abl.windowClose_of_closing_nil hclosing hframes)
  · intro s period w b sl x hclosing hb hslot hnext
    subst hb
    exact onAbl_eq_next (f := fun a => a.windowClose period w) (Abl.windowClose_of_moved hclosing hslot hnext)
  · intro s m v hvalid hop hperiod
    exact onAbl_eq_next (f := fun a => a.metWrite m v) (Abl.metWrite_of_no_period hvalid hop hperiod)
  · intro s m v hvalid hbase
    exact ⟨s.abl.metWrite m v, rfl, Abl.metWrite_slots_of_not_valid hvalid hbase⟩
  · intro s origin c r hjob hchild hstamp
    exact onAbl_eq_next (f := fun a => a.arrival origin r.payload) (Abl.arrival_of_stamped hjob hchild hstamp)
  · intro s origin r hjob hchild
    exact ⟨onAbl_eq_next (f := fun a => a.arrival origin r.payload) (Abl.arrival_of_stranger hjob hchild),
      onAbl_eq_next (f := fun a => a.barrierPart origin r.payload) (Abl.barrierPart_of_stranger hjob hchild)⟩
  · intro s origin c r hjob hchild hstamp
    exact onAbl_eq_next (f := fun a => a.barrierPart origin r.payload) (Abl.barrierPart_of_stamped hjob hchild hstamp)
  · intro s t tag epoch b hbar hlate
    exact onAbl_eq_next (f := fun a => a.barTimeout t tag epoch) (Abl.barTimeout_of_late hbar hlate)

end Sys2Proof.Machine
end

section
/-!
SUPPORT. Fan-outs (R239 to R244): how a fan-out starts, what the answers of the children and the timers do to one that is known, and its relay.
-/

namespace Sys2Proof.Machine

/-! ## The start (R239, R244) -/

section
variable {a : Abl} {i : Nat}

theorem Abl.fanStart_of_busy (h : a.n.fld Reg.ABL_RED_FAN_STAT i 62 2 = 1) :
    a.fanStart i = a.on fun n => n.bump Reg.ABL_RED_FAN_REFUSED := if_pos h

/-- A fan-out to no range has its result at once. -/
theorem Abl.fanStart_of_no_ranges {m : FanMsg} (hfree : a.n.fld Reg.ABL_RED_FAN_STAT i 62 2 ≠ 1)
    (hm : m = fanOfBytes (le 2048 (a.n.rd Reg.ABL_RED_FAN_BUF i))) (hranges : m.ranges = []) :
    a.fanStart i = (a.on fun n => n.wr Reg.ABL_RED_FAN_STAT i 4611686018427387904).fanResult i (fanAckBytes m.jobtag m.seq 0 0 [] false) 0 0 := by
  simp only [Abl.fanStart, hfree, if_false, ← hm, hranges, List.isEmpty_nil, if_true, Nat.reducePow]

/-- A fan-out whose KIND the node carries out is opened to its own children. -/
theorem Abl.fanStart_of_taken {m : FanMsg} {b : Abl} (hfree : a.n.fld Reg.ABL_RED_FAN_STAT i 62 2 ≠ 1)
    (hm : m = { (fanOfBytes (le 2048 (a.n.rd Reg.ABL_RED_FAN_BUF i))) with
      deadline := (a.n.now + a.n.rd Reg.ABL_RED_FAN_DEADLINE_US * 1000) % 4294967296 }) (hranges : m.ranges ≠ [])
    (hkind : (a.on fun n => n.wr Reg.ABL_RED_FAN_STAT i 4611686018427387904).fanKind m
      (a.on fun n => n.wr Reg.ABL_RED_FAN_STAT i 4611686018427387904).n.ident = (b, true)) :
    a.fanStart i = b.fanOpen { msg := m, origin := a.n.ident, root := some i, children := b.fanKids m b.ownChildren } := by
  subst hm
  have hsome : (fanOfBytes (le 2048 (a.n.rd Reg.ABL_RED_FAN_BUF i))).ranges.isEmpty = false := by simpa using hranges
  simp only [Abl.on_n] at hkind
  simp only [Abl.fanStart, Nat.reducePow, hfree, if_false, hsome, Bool.false_eq_true, Abl.on_n, hkind, if_true]

end

/-! ## A stale JobTag (R258), and a pair that the node has no fan-out of -/

section
variable {a : Abl} {t : Nat}

theorem Abl.fanAckRx_of_stale (hstale : a.n.jobCheck t = 1) (relay : Bool) (origin q acked : Nat) (miss : List (Nat × Nat)) (trunc : Bool) :
    a.fanAckRx relay origin t q acked miss trunc = a.on fun n => n.bumpOf staleReg := Abl.ofJob_stale _ hstale

theorem Abl.fanPendingRx_of_stale (hstale : a.n.jobCheck t = 1) (origin q : Nat) :
    a.fanPendingRx origin t q = a.on fun n => n.bumpOf staleReg := Abl.ofJob_stale _ hstale

theorem Abl.fanAckRx_of_no_fan {q : Nat} (hfans : a.fansOf t q = []) (hjob : a.n.jobCheck t = 0) (relay : Bool) (origin acked : Nat)
    (miss : List (Nat × Nat)) (trunc : Bool) : a.fanAckRx relay origin t q acked miss trunc = a := by
  rw [Abl.fanAckRx, Abl.ofJob_known _ hjob, hfans, List.foldl_nil]

end

/-! ## A pair that the node has one fan-out of -/

section
variable {a : Abl} {t q : Nat} {x : FanX} {k : FanChild} (hfans : a.fansOf t q = [x])
include hfans

/-- A child that still owes its answer and is not asked through a relay is PENDING. -/
theorem Abl.fanPendingRx_of_fan (hjob : a.n.jobCheck t = 0) (origin : Nat) :
    a.fanPendingRx origin t q = a.putFan { x with children := x.children.map fun k =>
      (if a.n.childNode k.c == origin && decide (k.st < 3) then { k with st := 1 } else k) } := by
  rw [Abl.fanPendingRx, Abl.ofJob_known _ hjob, hfans, List.foldl_cons, List.foldl_nil]

/-- The answer of a child that is waited for, with no die missing, makes it DONE. -/
theorem Abl.fanAckRx_of_child {origin : Nat} (hjob : a.n.jobCheck t = 0) (hopen : x.done = false)
    (hchild : x.children.find? (fun k => decide (k.st < 4) && (a.n.childNode k.c == origin)) = some k) (acked : Nat) :
    a.fanAckRx false origin t q acked [] false = a.fanSettle { (x.setChild k.c 4) with acked := x.acked + acked } := by
  rw [Abl.fanAckRx, Abl.ofJob_known _ hjob, hfans]
  simp [hopen, hchild, FanX.setChild]

/-- Such an answer of the relay through which a child is asked makes that child DONE. -/
theorem Abl.fanAckRx_of_relay {origin : Nat} (hjob : a.n.jobCheck t = 0) (hopen : x.done = false)
    (hchild : x.children.find? (fun k => decide (k.st < 4) && (k.st == 3 && a.n.childPeer k.c == origin)) = some k) (acked : Nat) :
    a.fanAckRx true origin t q acked [] false = a.fanSettle { (x.setChild k.c 4) with acked := x.acked + acked } := by
  rw [Abl.fanAckRx, Abl.ofJob_known _ hjob, hfans]
  simp [hopen, hchild, FanX.setChild]

/-- A child that has not answered is asked a second time. -/
theorem Abl.fanTimeout_of_first {c : Nat} (hopen : x.done = false)
    (hchild : x.children.find? (fun k => k.c == c && decide (k.st < 4)) = some k) (hst : k.st < 2) :
    a.fanTimeout t q c = (a.fanSend x.msg x.origin c).putFan (x.setChild c 2) := by
  simp only [Abl.fanTimeout, hfans, List.foldl_cons, List.foldl_nil, hopen, Bool.false_eq_true, hchild, hst, if_false, if_true]

/-- At a tray sentinel, which has no relays, a child that has not answered the second time either is MISSING. -/
theorem Abl.fanTimeout_of_second {c : Nat} (hopen : x.done = false)
    (hchild : x.children.find? (fun k => k.c == c && decide (k.st < 4)) = some k) (hst : k.st = 2) (htray : a.n.role = 1) :
    a.fanTimeout t q c = a.fanSettle (a.fanMiss x k) := by
  simp [Abl.fanTimeout, hfans, hopen, hchild, hst, htray]

/-- At its deadline every child that has not answered is MISSING. -/
theorem Abl.fanDeadline_of_reached (hopen : x.done = false) (hreached : dist32 x.msg.deadline a.n.now ≤ 0) :
    a.fanDeadline t q = a.fanSettle ((x.children.filter fun k => decide (k.st < 4)).foldl (fun y k => a.fanMiss y k) x) := by
  simp [Abl.fanDeadline, hfans, hopen, not_lt.2 hreached]

end

/-! ## The relay (R243) -/

section
variable {a : Abl} {failed requester port slot sender origin : Nat} {m : FanMsg} (hjob : a.n.jobCheck m.jobtag = 0)
include hjob

theorem Abl.relayRx_known : a.relayRx failed requester port slot sender origin m =
    a.fanRelay failed requester port slot sender origin m fun b => b.relayKind failed m origin := by
  simp [Abl.relayRx, hjob, Abl.ofJob_known]

/-- A relay that has been answered is answered again. -/
theorem Abl.relayRx_of_done {y : FanX}
    (hfan : (a.fansOf m.jobtag m.seq).find? (fun y => y.relay == some (failed, requester)) = some y) (hdone : y.done = true) :
    a.relayRx failed requester port slot sender origin m = a.fanFinal y := by
  simp only [Abl.relayRx_known hjob, Abl.fanRelay, hfan, hdone, if_true]

/-- A relay whose KIND the node takes is opened to the adopted children of the failed one. -/
theorem Abl.relayRx_of_taken {b : Abl} (hfans : a.fans = []) (hkind : a.relayKind failed m origin = (b, true)) :
    a.relayRx failed requester port slot sender origin m = b.fanOpen
      { msg := m, origin := origin, relay := some (failed, requester), port := port, slot := slot, sender := sender,
        children := b.relayKids failed m } := by
  simp [Abl.relayRx_known hjob, Abl.fanRelay, Abl.fansOf, hfans, hkind]

end

/-- Settles O13: each command by what it does to the fan-outs that the node has. -/
theorem fanCommandsComplete : Obligations.FanCommandsComplete := by
  unfold Obligations.FanCommandsComplete
  refine ⟨?_, ?_, ?_, ?_, ?_, ?_, ?_, ?_, ?_, ?_, ?_, ?_, ?_, ?_, ?_, fun _ _ _ => ⟨rfl, rfl⟩⟩
  · intro s i hbusy
    exact onAbl_eq_next (f := fun a => a.fanStart i) (Abl.fanStart_of_busy hbusy)
  · intro s i m hfree hm hranges
    exact onAbl_eq_next (f := fun a => a.fanStart i) (Abl.fanStart_of_no_ranges hfree hm hranges)
  · intro s i m b hfree hm hranges hkind
    exact onAbl_eq_next (f := fun a => a.fanStart i) (Abl.fanStart_of_taken hfree hm hranges hkind)
  · intro s origin t q x hjob hfans
    exact onAbl_eq_next (f := fun a => a.fanPendingRx origin t q) (Abl.fanPendingRx_of_fan hfans hjob origin)
  · intro s origin t q acked x k hjob hfans hopen hchild
    exact onAbl_eq_next (f := fun a => a.fanAckRx false origin t q acked [] false) (Abl.fanAckRx_of_child hfans hjob hopen hchild acked)
  · intro s origin t q acked miss trunc hjob hfans
    have hnone (relay : Bool) := Abl.fanAckRx_of_no_fan hfans hjob relay origin acked miss trunc
    exact ⟨onAbl_eq_next (f := fun a => a.fanAckRx false origin t q acked miss trunc) (hnone false),
      onAbl_eq_next (f := fun a => a.fanAckRx true origin t q acked miss trunc) (hnone true)⟩
  · intro s t q hfans
    change onAbl s (fun a => ((a.fansOf t q).filter fun x => !x.done).foldl Abl.fanPending a) = _
    rw [onAbl, hfans, List.filter_nil, List.foldl_nil]
  · intro s origin t q acked miss trunc hstale
    have hcount (relay : Bool) := Abl.fanAckRx_of_stale hstale relay origin q acked miss trunc
    exact ⟨onAbl_eq_next (f := fun a => a.fanAckRx false origin t q acked miss trunc) (hcount false),
      onAbl_eq_next (f := fun a => a.fanAckRx true origin t q acked miss trunc) (hcount true),
      onAbl_eq_next (f := fun a => a.fanPendingRx origin t q) (Abl.fanPendingRx_of_stale hstale origin q)⟩
  · intro s origin t q acked x k hjob hfans hopen hchild
    exact onAbl_eq_next (f := fun a => a.fanAckRx true origin t q acked [] false) (Abl.fanAckRx_of_relay hfans hjob hopen hchild acked)
  · intro s t q c x k hfans hopen hchild hst
    exact onAbl_eq_next (f := fun a => a.fanTimeout t q c) (Abl.fanTimeout_of_first hfans hopen hchild hst)
  · intro s t q c x k hfans hopen hchild hst htray
    exact onAbl_eq_next (f := fun a => a.fanTimeout t q c) (Abl.fanTimeout_of_second hfans hopen hchild hst htray)
  · intro s t q x hfans hopen
    change onAbl s (fun a => ((a.fansOf t q).filter fun x => !x.done).foldl Abl.fanPending a) = _
    rw [onAbl, hfans, List.filter_cons_of_pos (by simp [hopen]), List.filter_nil, List.foldl_cons, List.foldl_nil, Abl.fanPending]
  · intro s t q x hfans hopen hreached
    exact onAbl_eq_next (f := fun a => a.fanDeadline t q) (Abl.fanDeadline_of_reached hfans hopen hreached)
  · intro s port slot sender origin failed requester m y hjob hfan hdone
    exact onAbl_eq_next (f := fun a => a.relayRx failed requester port slot sender origin m) (Abl.relayRx_of_done hjob hfan hdone)
  · intro s port slot sender origin failed requester m b hjob hfans hkind
    exact onAbl_eq_next (f := fun a => a.relayRx failed requester port slot sender origin m) (Abl.relayRx_of_taken hjob hfans hkind)

end Sys2Proof.Machine
end

section
/-!
SUPPORT. Jobs, groups, scrubs and source fences (R260 to R267, R276, R286, R287): what a fan-out does at a die and at a sentinel, and what ends a
scrub, a hold, a guard and a fence.
-/

namespace Sys2Proof.Machine

open Safety

/-! ## Commands on the DDU -/

/-- A command on the DDU is known by what it makes of the DDU. -/
theorem onDdu_eq_next {s : State} {f : Ddu → Ddu} {d : Ddu} (h : f s.ddu = d) : onDdu s f = .next (s.settleDdu d) := by rw [onDdu, h]

/-! ## A FANOUT at a die (R241, R646) -/

section
variable {d : Ddu} {m : FanMsg} (hkept : (m.jobtag, m.seq) ∉ d.job.kept) (hrefused : (m.jobtag, m.seq) ∉ d.job.refused)
include hkept hrefused

/-- A pair that the die has not seen is kept, delivered and acknowledged. -/
theorem Ddu.fanArrive_of_new {deliver : Ddu → Ddu} {e : Ddu} (htake : m.kind ≠ 1 ∨ lcJobs (d.n.fld Reg.DDU_STATUS 0 8 3) = true)
    (hdeliver : deliver { d with job := { d.job with kept := (m.jobtag, m.seq) :: d.job.kept } } = e) :
    d.fanArrive m deliver = e.on fun n => n.postUp m.jobtag 0 0x14 0x0012 505 (fanAckBytes m.jobtag m.seq 1 1 [] false) := by
  subst hdeliver
  obtain hkind | hlife := htake
  · simp [Ddu.fanArrive, hkept, hrefused, hkind]
  · simp [Ddu.fanArrive, hkept, hrefused, hlife]

/-- A JOB_START that the die's lifecycle does not let start is refused, and the refusal kept. -/
theorem Ddu.fanArrive_of_no_jobs (hkind : m.kind = 1) (hlife : lcJobs (d.n.fld Reg.DDU_STATUS 0 8 3) = false) (deliver : Ddu → Ddu) :
    d.fanArrive m deliver = ({ d with job := { d.job with refused := (m.jobtag, m.seq) :: d.job.refused } } : Ddu).on fun n =>
      n.postUp m.jobtag 0 0x14 0x0012 505 (fanAckBytes m.jobtag m.seq 1 0 [(n.ident, 1)] false) := by
  simp [Ddu.fanArrive, hkept, hrefused, hkind, hlife]

end

/-- A die without a verdict group takes the one that is registered with VERDICT (R267). -/
theorem Ddu.groupRegister_of_verdict {d : Ddu} {m : FanMsg} (hjob : d.n.jobCheck m.jobtag = 0)
    (hverdict : Machine.bit (leAt m.body 2 2) 0 = true) (hnone : d.job.verdictGroup = 0) :
    d.groupRegister m = { d with job := { d.job with verdictGroup := leAt m.body 0 2 } } := by
  simp [Ddu.groupRegister, hjob, hverdict, hnone]

theorem Ddu.groupRelease_of_verdict {d : Ddu} {m : FanMsg} (hjob : d.n.jobCheck m.jobtag = 0)
    (hgroup : d.job.verdictGroup = leAt m.body 0 2) : d.groupRelease m = { d with job := { d.job with verdictGroup := 0 } } := by
  simp only [Ddu.groupRelease, hjob, hgroup, if_true]

/-! ## A FANOUT at a sentinel (R241, R244, R258) -/

section
variable {a : Abl} {port slot sender origin : Nat} {m : FanMsg}

theorem Abl.fanRx_known (hjob : a.n.jobCheck m.jobtag = 0) :
    a.fanRx port slot sender origin m = a.fanArrive (fanFrom port slot sender origin m) fun b => b.fanKind m origin := by
  simp only [Abl.fanRx, hjob]

/-- A JOB_START may name a job that the sentinel does not hold yet. -/
theorem Abl.fanRx_of_jobStart (hstale : a.n.jobCheck m.jobtag ≠ 1) (hkind : m.kind = 1) :
    a.fanRx port slot sender origin m = a.fanArrive (fanFrom port slot sender origin m) fun b => b.fanKind m origin := by
  unfold Abl.fanRx
  split
  · rfl
  · contradiction
  · exact if_pos hkind

end

section
variable {a : Abl} {x : FanX} (hfans : a.fans = [])
include hfans

/-- A node without fan-outs opens one whose KIND it takes, to its own children. -/
theorem Abl.fanArrive_of_taken {local_ : Abl → Abl × Bool} {b : Abl} (htake : local_ a = (b, true)) :
    a.fanArrive x local_ = b.fanOpen { x with children := b.fanKids x.msg b.ownChildren } := by
  simp [Abl.fanArrive, Abl.fansOf, hfans, htake]

theorem Abl.fanArrive_of_not_taken {local_ : Abl → Abl × Bool} (htake : (local_ a).2 = false) : a.fanArrive x local_ = a.fanRefuse x := by
  simp [Abl.fanArrive, Abl.fansOf, hfans, htake]

end

/-! ## Scrubs, holds and guards (R262, R264, R271) -/

theorem Ddu.scrubDone_of_no_scrub {d : Ddu} (hscrub : d.jobState ≠ 2) (hfault : d.jobState ≠ 3) (bytes : Nat) : d.scrubDone bytes = d := by
  simp [Ddu.scrubDone, hscrub, hfault]

/-- A scrub that is late is reported and escalated, and no job is held that could be refused. -/
theorem Ddu.scrubLate_of_no_held {d : Ddu} (hscrub : d.jobState = 2) (hheld : d.job.held = none) :
    d.scrubLate = ((d.on fun n => n.emit d.jobTag 1 0x15 0x0002 505 (le 4 d.jobTag ++ le 4 ((n.local - d.job.endAt) / 1000) ++ zeros 8)).on
      fun n => (n.fault 505 0 2 d.jobTag 0).escalate 505 8 d.jobTag n.ident 0).setJobState 3 := by
  simp only [Ddu.scrubLate, hscrub, ne_eq, not_true_eq_false, if_false, Ddu.setJobState, Ddu.on_job, hheld]

theorem Ddu.holdExpiry_of_held {d : Ddu} {j : JobStart} (hheld : d.job.held = some j) (hactive : d.jobState = 1) :
    d.holdExpiry = (d.joinRefused j.tag).hold none := by simp only [Ddu.holdExpiry, hheld, hactive, if_true]

theorem Abl.jobGuardExpiry_of_over {a : Abl} {j : Nat} (hguard : a.n.fld Reg.ABL_JOB j 125 3 = 4)
    (hover : dist32 (a.n.fld Reg.ABL_JOB j 32 32) a.n.now ≤ 0) :
    a.jobGuardExpiry j = { a with jobs := a.jobs.filter fun x => x.slot != j }.on fun n =>
      ((n.wr Reg.ABL_JOB j 0).wr Reg.ABL_SEC_JOB j 0).uschJob j (n.fld Reg.ABL_USCH_JOB j 40 8 * 2 ^ 40) :=
  if_pos (by simp [hguard, hover])

theorem Node.guardExpiry_of_over {n : Node} {k : Nat} (hguard : (n.obj k).st = 2) (hover : dist32 (n.obj k).guardEnd n.now ≤ 0) :
    n.guardExpiry k = n.setObj { num := k } := if_pos (by simp [hguard, hover])

theorem exec_syncGuardExpiry_of_not_waiting {s : State} (hwait : s.ddu.job.waiting = none) (k : Nat) :
    exec (.syncGuardExpiry .ddu k) s = .next (settled s .ddu (s.ddu.n.guardExpiry k)) := by
  change execSyncGuardExpiry .ddu k s = _
  simp only [execSyncGuardExpiry, onDdu, Ddu.on, hwait, settled]

/-- A die that waits for a gate pair tries again once a guard has ended (R276). -/
theorem exec_syncGuardExpiry_of_waiting {s : State} {j : JobStart} (hwait : s.ddu.job.waiting = some j) (k : Nat) :
    exec (.syncGuardExpiry .ddu k) s = .next (s.settleDdu ((s.ddu.on fun n => n.guardExpiry k).joinTry j)) := by
  change execSyncGuardExpiry .ddu k s = _
  simp only [execSyncGuardExpiry, onDdu, Ddu.on_job, hwait]

/-! ## Fences (R286, R287) -/

section
variable {d : Ddu} (hfence : d.epochFences.n.bit Reg.DDU_FENCE_STATUS 0 0 = true) (hmet : d.epochFences.fenceMet = true)
include hfence hmet

/-- A fence that no scrub waits for ends, and what waited behind it may leave. -/
theorem Ddu.fenceEnd_of_no_scrub (hscrub : d.epochFences.job.scrubbed = none) :
    d.fenceEnd = d.epochFences.on fun n => (n.setB Reg.DDU_FENCE_STATUS 0 0 false).unfence := by
  simp [Ddu.fenceEnd, hfence, hmet, hscrub]

/-- The fence of a scrub's own ends the scrub. -/
theorem Ddu.fenceEnd_of_scrub {bytes : Nat} (hscrub : d.epochFences.job.scrubbed = some (bytes, true)) :
    d.fenceEnd = (d.epochFences.on fun n => (n.setB Reg.DDU_FENCE_STATUS 0 0 false).unfence).scrubEnd bytes := by
  simp [Ddu.fenceEnd, hfence, hmet, hscrub]

end

/-- On a sentinel a code in a requester's STATUS is a word of one register (R288). -/
theorem Node.syncStatus_of_abl {n : Node} (hdev : n.dev = .abl) (r code : Nat) :
    n.syncStatus r code false = n.wr Reg.ABL_SYNC_STATUS r (code * 65536) := by simp [Node.syncStatus, hdev, b2n]

section
variable {s : State}

/-- The sentinel's firmware and the host fence the objects of a requester, while operations are applied (R286, R689). -/
theorem exec_syncFence_of_may {who : Requester} (hwho : who = .firmware ∨ who = .bar0) (hon : s.abl.n.syncOn = true) (r : Nat) :
    exec (.syncFence .abl who r) s = .next (settled s .abl (s.abl.n.syncFence r)) := by
  change execSyncFence .abl who r s = _
  simp [execSyncFence, onAbl, Abl.on, settled, hwho, hon]

theorem exec_syncFence_of_off (hoff : s.abl.n.syncOn = false) (hdev : s.abl.n.dev = .abl) (r : Nat) :
    exec (.syncFence .abl .firmware r) s = .next (settled s .abl (s.abl.n.wr Reg.ABL_SYNC_STATUS r 0x01000000)) := by
  change execSyncFence .abl .firmware r s = _
  simp [execSyncFence, onAbl, Abl.on, settled, hoff, Node.syncStatus_of_abl hdev]

theorem exec_syncFence_of_unprivileged (hdev : s.abl.n.dev = .abl) (r : Nat) :
    exec (.syncFence .abl .unprivileged r) s = .next (settled s .abl (s.abl.n.wr Reg.ABL_SYNC_STATUS r 0x02020000)) := by
  change execSyncFence .abl .unprivileged r s = _
  simp [execSyncFence, onAbl, Abl.on, settled, Node.syncStatus_of_abl hdev]

end

/-- Settles O14: each command by what it does on the device that it acts on. -/
theorem jobCommandsComplete : Obligations.JobCommandsComplete := by
  unfold Obligations.JobCommandsComplete
  refine ⟨?_, ?_, ?_, ?_, ?_, ?_, ?_, ?_, ?_, ?_, ?_, ?_, ?_, ?_, ?_, ?_, ?_, ?_, ?_, ?_, ?_, ?_, ?_⟩
  · intro s port slot sender origin m hlive hkept hrefused
    exact onDduLive_eq_next (fun d => d.fanArrive (fanAs 2 m) fun d => (d.jobEnd m).ledPhases) hlive
      (Ddu.fanArrive_of_new (m := fanAs 2 m) hkept hrefused (.inl (by decide : 2 ≠ 1)) rfl)
  · intro s port slot sender origin m hlive hkept hrefused hlife
    exact onDduLive_eq_next (fun d => d.fanArrive (fanAs 1 m) fun d => d.jobStart m) hlive
      (Ddu.fanArrive_of_new (m := fanAs 1 m) hkept hrefused (.inr hlife) rfl)
  · intro s port slot sender origin m hlive hkept hrefused hlife
    exact onDduLive_eq_next (fun d => d.fanArrive (fanAs 1 m) fun d => d.jobStart m) hlive
      (Ddu.fanArrive_of_no_jobs (m := fanAs 1 m) hkept hrefused rfl hlife _)
  · intro s port slot sender origin m hlive hkept hrefused hjob hverdict hnone
    exact onDduLive_eq_next (fun d => d.fanArrive (fanAs 3 m) fun d => d.groupRegister m) hlive
      (Ddu.fanArrive_of_new (m := fanAs 3 m) hkept hrefused (.inl (by decide : 3 ≠ 1)) (Ddu.groupRegister_of_verdict hjob hverdict hnone))
  · intro s port slot sender origin m hlive hkept hrefused hjob hgroup
    exact onDduLive_eq_next (fun d => d.fanArrive (fanAs 4 m) fun d => d.groupRelease m) hlive
      (Ddu.fanArrive_of_new (m := fanAs 4 m) hkept hrefused (.inl (by decide : 4 ≠ 1)) (Ddu.groupRelease_of_verdict hjob hgroup))
  · intro s port slot sender origin m b hfans hstale htake
    exact onAbl_eq_next (f := fun a => a.fanRx port slot sender origin (fanAs 1 m))
      ((Abl.fanRx_of_jobStart (m := fanAs 1 m) hstale rfl).trans (Abl.fanArrive_of_taken hfans htake))
  · intro s port slot sender origin m hfans hjob
    exact ⟨onAbl_eq_next (f := fun a => a.fanRx port slot sender origin (fanAs 2 m))
        ((Abl.fanRx_known (m := fanAs 2 m) hjob).trans (Abl.fanArrive_of_taken hfans rfl)),
      onAbl_eq_next (f := fun a => a.fanRx port slot sender origin (fanAs 4 m))
        ((Abl.fanRx_known (m := fanAs 4 m) hjob).trans (Abl.fanArrive_of_taken hfans rfl))⟩
  · intro s port slot sender origin m hfans hjob htake
    exact onAbl_eq_next (f := fun a => a.fanRx port slot sender origin (fanAs 3 m))
      ((Abl.fanRx_known (m := fanAs 3 m) hjob).trans (Abl.fanArrive_of_not_taken hfans htake))
  · intro s port slot sender origin m hfans hjob htake
    exact onAbl_eq_next (f := fun a => a.fanRx port slot sender origin (fanAs 3 m))
      ((Abl.fanRx_known (m := fanAs 3 m) hjob).trans (Abl.fanArrive_of_taken hfans (Prod.ext rfl htake)))
  · intro s hlive hscrub hfault
    change onDduLive { s with free := s.free + 1 } (fun d => d.scrubDone (Config.freeNat s.free)) = _
    exact onDduLive_eq_next _ hlive (Ddu.scrubDone_of_no_scrub hscrub hfault _)
  · intro s hlive _ _
    exact ⟨_, onDduLive_of_live (s := { s with free := s.free + 1 }) hlive fun d => d.scrubDone (Config.freeNat s.free), rfl⟩
  · intro s hscrub hheld
    exact ⟨_, onDdu_eq_next (f := Ddu.scrubLate) (Ddu.scrubLate_of_no_held hscrub hheld), rfl⟩
  · intro s j hheld hactive
    exact onDdu_eq_next (f := Ddu.holdExpiry) (Ddu.holdExpiry_of_held hheld hactive)
  · intro s j hguard hover
    exact onAbl_eq_next (f := fun a => a.jobGuardExpiry j) (Abl.jobGuardExpiry_of_over hguard hover)
  · intro s k hguard hover
    exact onAbl_on (f := fun n => n.guardExpiry k) (g := fun n => n.setObj { num := k }) (Node.guardExpiry_of_over hguard hover)
  · intro s k hguard hover hwait
    rw [exec_syncGuardExpiry_of_not_waiting hwait, Node.guardExpiry_of_over hguard hover]
  · intro s k j hwait
    exact exec_syncGuardExpiry_of_waiting hwait k
  · intro s who hwho hans
    exact dduWrite_of_may hwho hans _
  · intro s hfence hmet hscrub
    exact onDdu_eq_next (f := Ddu.fenceEnd) (Ddu.fenceEnd_of_no_scrub hfence hmet hscrub)
  · intro s bytes hfence hmet hscrub
    exact onDdu_eq_next (f := Ddu.fenceEnd) (Ddu.fenceEnd_of_scrub hfence hmet hscrub)
  · intro s who r hwho hans
    exact dduWrite_of_may hwho hans _
  · intro s r hon
    exact ⟨exec_syncFence_of_may (.inl rfl) hon r, exec_syncFence_of_may (.inr rfl) hon r⟩
  · intro s r hoff hdev
    exact ⟨exec_syncFence_of_off hoff hdev r, exec_syncFence_of_unprivileged hdev r⟩

end Sys2Proof.Machine
end

section
/-!
SUPPORT. Operations on sync objects (R269 to R275, R288, R689): the way that a request reaches a device's objects, and what each operation does
there.
-/

namespace Sys2Proof.Machine

open Safety

/-! ## The requests (R273, R288) -/

section
variable {s : State} {dev : Dev}

/-- The die's trusted software acts on the objects of the device that it asks. -/
theorem syncCommand_of_local (h : Heard s dev) (r op : Nat) (q : SyncReq) :
    syncCommand dev op (.localReq r true 0) q s = .next (settled (answered s dev) dev ((part s dev).syncIssue r op q 0)) := by
  cases dev with
  | ddu => exact dduWrite_of_may (by decide) h _
  | abl => rfl

/-- A SYNC_UPDATE acts on a device that is not held in reset. -/
theorem syncCommand_of_update (h : Awake s dev) (origin op : Nat) (q : SyncReq) :
    syncCommand dev op (.remote origin false) q s = .next (settled s dev ((part s dev).syncUpdate op q origin)) := by
  cases dev with
  | ddu => exact onDduLive_of_live h fun d => d.on fun n => n.syncUpdate op q origin
  | abl => rfl

theorem syncCommand_of_broadcast (h : Awake s dev) (origin op : Nat) (q : SyncReq) :
    syncCommand dev op (.remote origin true) q s = .next (settled s dev ((part s dev).syncBcast op q origin)) := by
  cases dev with
  | ddu => exact onDduLive_of_live h fun d => d.on fun n => n.syncBcast op q origin
  | abl => rfl

theorem exec_syncStateRx_of_awake (h : Awake s dev) (origin : Nat) (q : SyncReq) :
    exec (.syncStateRx dev origin q) s = .next (settled s dev ((part s dev).syncStateRx q origin)) := by
  cases dev with
  | ddu => exact onDduLive_of_live h fun d => d.on fun n => n.syncStateRx q origin
  | abl => rfl

end

/-! ## One operation on a local object (R269, R271, R275) -/

section
variable {n : Node} {k : Nat} {q : SyncReq} (hon : n.syncOn = true) (hk : q.handle % 8192 = k) (hcount : k < syncCount n.dev)
include hon

/-- A local request for the device's own objects has its answer at once. -/
theorem Node.syncIssue_of_own (r op : Nat) (q : SyncReq) :
    n.syncIssue r op q 0 = (n.syncOp op q false n.self).node.syncStatus r (n.syncOp op q false n.self).status false := by
  simp [Node.syncIssue, hon]

include hk hcount

/-- A FREE object becomes ACTIVE for the job of the handle's generation. -/
theorem Node.syncOp_alloc_of_free (hfree : (n.obj k).st = 0) (hgen : bits q.handle 16 16 = jobGen (q.d / 2 ^ 32 % 2 ^ 32)) (src : Nat) :
    n.syncOp 0 q false src = ⟨(n.setObj {
      num := k, st := 1, jobtag := q.d / 2 ^ 32 % 2 ^ 32, target := q.d % 2 ^ 32, kind := q.kind % 4 }).syncTouch k 0 0 0 0 0 src, 0, true⟩ := by
  subst hk
  simp [Node.syncOp, Node.syncAlloc, hon, hcount, hfree, hgen]

section
variable (hactive : (n.obj k).st = 1) (hgen : bits q.handle 16 16 = jobGen (n.obj k).jobtag)
include hactive hgen

/-- An operation on an ACTIVE object's value goes by the rules of a gate where the object is one, and is applied as it is elsewhere. -/
theorem Node.syncOp_of_gateOp {op : Nat} (hop : gateOp op = true) (src : Nat) :
    n.syncOp op q false src = ⟨if (n.obj k).kind = 1 then n.gateApply k op q src else n.syncApply k op q src, 0, true⟩ := by
  subst hk
  have hrange : op ≠ 0 ∧ op < 10 ∧ op ≠ 6 ∧ op ≠ 7 := by
    simp only [gateOp, Bool.or_eq_true, beq_iff_eq] at hop
    omega
  obtain ⟨halloc, hknown, hrelease, hquery⟩ := hrange
  by_cases hgate : (n.obj (q.handle % 8192)).kind = 1 <;>
    simp [Node.syncOp, hon, hcount, hactive, hgen, hop, halloc, hknown, hrelease, hquery, hgate]

/-- RELEASE puts an ACTIVE object, a gate or not, into its guard. -/
theorem Node.syncOp_release_of_active (src : Nat) :
    n.syncOp 6 q false src = ⟨n.setObj { (n.obj k) with
      st := 2, guardEnd := (n.now + 8000000) % 2 ^ 32, lastTime := n.now, lastSrc := src,
      updates := ((n.obj k).updates + 1) % 2 ^ 32 }, 0, true⟩ := by
  subst hk
  simp [Node.syncOp, hon, hcount, hactive, hgen]

theorem Node.syncOp_query_of_active (src : Nat) : n.syncOp 7 q false src = ⟨n, 0, true⟩ := by
  subst hk
  simp [Node.syncOp, hon, hcount, hactive, hgen]

end

end

/-- A local request whose operation succeeds leaves the device so, and says so in the requester's STATUS. -/
theorem syncCommand_of_success {s : State} {dev : Dev} {op : Nat} {q : SyncReq} {m : Node} (hheard : Heard s dev)
    (hon : (part s dev).syncOn = true) (hop : (part s dev).syncOp op q false (part s dev).self = ⟨m, 0, true⟩) (r : Nat) :
    syncCommand dev op (.localReq r true 0) q s = .next (settled (answered s dev) dev (m.syncStatus r 0 false)) := by
  rw [syncCommand_of_local hheard, Node.syncIssue_of_own hon, hop]

/-- Settles O15: a local request by what its operation does to the object that it names, any other by the way that it reaches the device. -/
theorem syncCommandsComplete : Obligations.SyncCommandsComplete := by
  unfold Obligations.SyncCommandsComplete
  refine ⟨?_, ?_, ?_, ?_, ?_, ?_, fun _ _ origin q hawake => exec_syncStateRx_of_awake hawake origin q⟩
  · intro s dev r k q hheard hon hk hcount hactive hkind hgen
    have happly (op : Nat) (hop : gateOp op = true) : syncCommand dev op (.localReq r true 0) q s =
        .next (settled (answered s dev) dev (((part s dev).syncApply k op q (part s dev).self).syncStatus r 0 false)) :=
      syncCommand_of_success hheard hon (by rw [Node.syncOp_of_gateOp hon hk hcount hactive hgen hop, if_neg hkind]) r
    exact ⟨happly 1 rfl, happly 2 rfl, happly 3 rfl, happly 4 rfl, happly 5 rfl, happly 8 rfl, happly 9 rfl⟩
  · intro s dev r k q hheard hon hk hcount hactive hkind hgen
    have happly (op : Nat) (hop : gateOp op = true) : syncCommand dev op (.localReq r true 0) q s =
        .next (settled (answered s dev) dev (((part s dev).gateApply k op q (part s dev).self).syncStatus r 0 false)) :=
      syncCommand_of_success hheard hon (by rw [Node.syncOp_of_gateOp hon hk hcount hactive hgen hop, if_pos hkind]) r
    exact ⟨happly 1 rfl, happly 2 rfl, happly 3 rfl, happly 4 rfl, happly 5 rfl, happly 8 rfl, happly 9 rfl⟩
  · intro s dev origin q hawake
    have hupdate (op : Nat) := syncCommand_of_update hawake origin op q
    exact ⟨hupdate 0, hupdate 1, hupdate 2, hupdate 3, hupdate 4, hupdate 5, hupdate 6, hupdate 7, hupdate 8, hupdate 9⟩
  · intro s dev origin q hawake
    have hcast (op : Nat) := syncCommand_of_broadcast hawake origin op q
    exact ⟨hcast 0, hcast 1, hcast 2, hcast 3, hcast 4, hcast 5, hcast 6, hcast 7, hcast 8, hcast 9⟩
  · intro s dev r k q hheard hon hk hcount hfree hgen
    exact syncCommand_of_success hheard hon (Node.syncOp_alloc_of_free hon hk hcount hfree hgen _) r
  · intro s dev r k q hheard hon hk hcount hactive hgen
    exact ⟨syncCommand_of_success hheard hon (Node.syncOp_release_of_active hon hk hcount hactive hgen _) r,
      syncCommand_of_success hheard hon (Node.syncOp_query_of_active hon hk hcount hactive hgen _) r⟩

end Sys2Proof.Machine
end

section
/-!
SUPPORT. The Tree Engine and the Local Rule Bank (R43, R295, R304, R310, R319, R322, R331): submits and samples, the fall of a risk level, the end of a
model's load, and an evaluation of the rules.
-/

namespace Sys2Proof.Machine

/-! ## Submits and samples (R295, R304, R322) -/

section
variable {a : Abl} {v : Nat}

/-- A submit that names an empty slot is refused. -/
theorem Abl.treeSubmit_of_no_model (hmodel : a.model (bits v 16 6) = none) :
    a.treeSubmit v = a.on fun n => n.setB Reg.ABL_TREE_SUBMIT_STATUS 0 1 true := by
  simp only [Abl.treeSubmit, hmodel]

/-- A submit to a VALID model starts a sample, while no other submit runs and the engine has room. -/
theorem Abl.treeSubmit_of_valid {m : TreeModel} {x : TreeSample} (hmodel : a.model (bits v 16 6) = some m)
    (hfree : ∀ y ∈ a.tree.samples, y.i ≠ 128) (hroom : a.tree.samples.length < 4096) (hon : a.n.bit Reg.ABL_TREE_CTRL 0 0 = true)
    (hvalid : a.n.modelState (bits v 16 6) = 2)
    (hx : x = { i := 128, c := bits v 0 5, w := 0, jobtag := 0, model := m,
                bins := a.binsOf m 0 (bits v 0 5) 0 (some (min 256 (bits v 32 9))), waiting := !a.treeWake }) :
    a.treeSubmit v = ({ (a.on fun n => n.wr Reg.ABL_TREE_SUBMIT_STATUS 0 2) with
      tree := { a.tree with samples := a.tree.samples ++ [x] } } : Abl).treeView := by
  have hidle : (a.tree.samples.any fun y => y.i == 128) = false := by simpa using hfree
  subst hx
  simp [Abl.treeSubmit, hmodel, hidle, hroom, hon, hvalid]

end

section
variable {a : Abl} {i c : Nat}

theorem Abl.treeComplete_of_no_sample (hnone : (a.tree.samples.find? fun x => x.i == i && x.c == c && !x.waiting) = none) (parity : List Nat) :
    a.treeComplete i c parity = a := by simp only [Abl.treeComplete, hnone]

/-- A sample whose walks finish is taken out, its losses and its result follow, and a draining slot is freed; no tree on an isolated bank, or on one
with a parity error, adds to the result. -/
theorem Abl.treeComplete_of_sample {parity used : List Nat} {x : TreeSample} {w : List Nat × List Nat × List Nat × Bool}
    (hfound : (a.tree.samples.find? fun x => x.i == i && x.c == c && !x.waiting) = some x)
    (hused : used = parity.filter fun b => x.model.trees.any fun r => r.bank == b)
    (hwalk : w = walkAll x.model x.bins (used ++ (List.range 16).filter fun b => a.n.bit Reg.ABL_TREE_STATUS 0 (16 + b))) :
    a.treeComplete i c parity =
      (((a.treeTake i c).treeLost x w.2.1 w.2.2.1 used).treeResult x w.1 w.2.2.2).modelDrained x.model.slot := by
  subst hused hwalk
  simp only [Abl.treeComplete, hfound]

end

/-- The result of a submit goes to its registers alone. -/
theorem Abl.treeResult_of_submit {x : TreeSample} (hsubmit : x.i = 128) (a : Abl) (sums : List Nat) (whole : Bool) :
    a.treeResult x sums whole = a.on fun n =>
      ((n.wr Reg.ABL_TREE_SUBMIT_RESULT 0 (leNat (x.body sums whole))).wr Reg.ABL_TREE_SUBMIT_STATUS 0 1).irq 41 := if_pos hsubmit

theorem exec_treeWakeDone_of_waiting {s : State} (hwait : ∃ x ∈ s.abl.tree.samples, x.waiting = true) :
    exec .treeWakeDone s = .next (s.settleAbl s.abl.treeOn) :=
  onAbl_eq_next (f := fun a => if a.tree.samples.any fun x => x.waiting then a.treeOn else a) (if_pos (List.any_eq_true.mpr hwait))

/-! ## The risk of a die (R43, R310) -/

/-- A die with fresh scores falls one band once they have been below its band for 10 s. -/
theorem Abl.riskFall_of_due {a : Abl} {d : Nat} {p : Nat × Nat} (hbelow : (a.tree.below.find? fun p => p.1 == d) = some p)
    (hlevel : a.n.riskLevel d ≠ 0) (hfresh : a.freshScores d ≠ []) (hdue : p.2 + 10000000000 ≤ a.n.tideline) :
    a.riskFall d = (a.riskSet d (a.n.riskLevel d - 1)).riskUpdate d := by
  simp [Abl.riskFall, hbelow, hlevel, hfresh, hdue]

/-! ## The end of a load (R319) -/

section
variable {a : Abl} {k : Nat} (hload : a.n.modelState k = 1)
include hload

theorem Abl.modelLoaded_of_ok :
    a.modelLoaded k true = a.on fun n => ((n.setFld Reg.ABL_TREE_MODEL k 125 3 2).irq 42).done 0x0701 k stOk := by
  simp [Abl.modelLoaded, hload]

/-- An entry that did not read back as written frees the slot. -/
theorem Abl.modelLoaded_of_mismatch : a.modelLoaded k false = (a.modelFree k).on fun n => n.done 0x0701 k stInternal := by
  simp [Abl.modelLoaded, hload]

end

/-! ## An evaluation of the Local Rule Bank (R331) -/

section
variable {d : Ddu}

theorem Ddu.lrbDue_of_no_period (hperiod : d.n.fld Reg.DDU_LRB_CTRL 0 0 16 = 0) : d.lrbDue true = d := by
  simp [Ddu.lrbDue, hperiod]

/-- The period's end evaluates, and the tick of the evaluation is kept, unless a crossing evaluated in the same tick. -/
theorem Ddu.lrbDue_of_period (hperiod : d.n.fld Reg.DDU_LRB_CTRL 0 0 16 ≠ 0) (hcross : d.lrb.at_ ≠ some (d.n.timex.elapsed, false)) :
    d.lrbDue true = { d.lrbEvaluate with lrb := { d.lrbEvaluate.lrb with at_ := some (d.n.timex.elapsed, true) } } := by
  simp [Ddu.lrbDue, hperiod, hcross]

theorem Ddu.lrbEvaluate_of_off (hoff : d.lrbOn = false) : d.lrbEvaluate = d := by simp [Ddu.lrbEvaluate, hoff]

section
variable {key : Nat} {e : Ddu} (hon : d.lrbOn = true) (hkey : key = d.lrbKey)
  (he : e = ((d.bump Reg.DDU_LRB_EVALS).wr Reg.DDU_LRB_LASTKEY 0 key).lrbKeep)
include hon hkey he

theorem Ddu.lrbEvaluate_of_no_match (hfirst : e.lrbFirst key = none) :
    d.lrbEvaluate = e.on fun n => n.setB Reg.DDU_LRB_STATUS 0 31 true := by
  simp only [Ddu.lrbEvaluate, hon, Bool.not_true, Bool.false_eq_true, if_false, ← hkey, ← he, hfirst]

theorem Ddu.lrbEvaluate_of_match {k : Nat} (hfirst : e.lrbFirst key = some k) : d.lrbEvaluate = e.lrbAct key k := by
  simp only [Ddu.lrbEvaluate, hon, Bool.not_true, Bool.false_eq_true, if_false, ← hkey, ← he, hfirst]

end

end

/-- A command for an evaluation is known by what the evaluation makes of the DDU, where none has been before. -/
theorem exec_lrbEvaluate_of_due {s : State} {e : Ddu} (hlive : s.ddu.live = true) (hperiod : s.ddu.n.fld Reg.DDU_LRB_CTRL 0 0 16 ≠ 0)
    (hfirst : s.ddu.lrb.at_ = none) (he : s.ddu.lrbEvaluate = e) :
    exec .lrbEvaluate s = .next (s.settleDdu { e with lrb := { e.lrb with at_ := some (s.ddu.n.timex.elapsed, true) } }) := by
  subst he
  exact onDduLive_eq_next (fun d => d.lrbDue true) hlive (Ddu.lrbDue_of_period hperiod (by simp [hfirst]))

/-- Settles O16: each command by what it makes of the device that it acts on. -/
theorem treeCommandsComplete : Obligations.TreeCommandsComplete := by
  unfold Obligations.TreeCommandsComplete
  refine ⟨?_, ?_, ?_, ?_, ?_, ?_, ?_, ?_, ?_, ?_, ?_, ?_, ?_, ?_, ?_, ?_⟩
  · intro s v hmodel
    exact onAbl_eq_next (f := fun a => a.treeSubmit v) (Abl.treeSubmit_of_no_model hmodel)
  · intro s v m x hmodel hempty hon hvalid hx
    have hstart := Abl.treeSubmit_of_valid hmodel (by simp [hempty]) (by simp [hempty]) hon hvalid hx
    rw [hempty] at hstart
    exact onAbl_eq_next (f := fun a => a.treeSubmit v) hstart
  · intro s i c parity hnone
    exact onAbl_eq_next (f := fun a => a.treeComplete i c parity) (Abl.treeComplete_of_no_sample hnone parity)
  · intro s i c parity used x w hfound hused hwalk
    exact onAbl_eq_next (f := fun a => a.treeComplete i c parity) (Abl.treeComplete_of_sample hfound hused hwalk)
  · intro a x sums whole hsubmit
    exact Abl.treeResult_of_submit hsubmit a sums whole
  · intro s d p hbelow hlevel hfresh hdue
    exact onAbl_eq_next (f := fun a => a.riskFall d) (Abl.riskFall_of_due hbelow hlevel hfresh hdue)
  · exact fun _ _ => rfl
  · intro s k hload
    exact ⟨onAbl_eq_next (f := fun a => a.modelLoaded k true) (Abl.modelLoaded_of_ok hload),
      onAbl_eq_next (f := fun a => a.modelLoaded k false) (Abl.modelLoaded_of_mismatch hload)⟩
  · exact fun _ _ => rfl
  · exact fun _ _ => rfl
  · intro s x hsamples hwait
    exact ⟨s.abl.treeOn, exec_treeWakeDone_of_waiting ⟨x, by simp [hsamples], hwait⟩, by simp [Abl.treeOn, hsamples], rfl⟩
  · intro s hlive hperiod
    exact onDduLive_eq_next (fun d => d.lrbDue true) hlive (Ddu.lrbDue_of_no_period hperiod)
  · intro s hlive hperiod hfirst hoff
    exact exec_lrbEvaluate_of_due hlive hperiod hfirst (Ddu.lrbEvaluate_of_off hoff)
  · intro s key d e hlive hperiod hfirst hon hkey hd hnone he
    exact exec_lrbEvaluate_of_due hlive hperiod hfirst ((Ddu.lrbEvaluate_of_no_match hon hkey hd hnone).trans he.symm)
  · intro s key k d e hlive hperiod hfirst hon hkey hd hmatch he
    exact exec_lrbEvaluate_of_due hlive hperiod hfirst ((Ddu.lrbEvaluate_of_match hon hkey hd hmatch).trans he.symm)
  · intro s c hlive
    exact onDduLive_of_live hlive fun d => d.floorExpiry c

end Sys2Proof.Machine
end

section
/-!
SUPPORT. The events of the Replay Grid (R355, R356, R359, R361, R362, R364, R366, R367, R369, R370, R372, R391, R396): bundles that arrive, the
scheduler, the ends of runs, known answers, programs and contexts, and the grid's clocks.
-/

namespace Sys2Proof.Machine

/-! ## Bundles that arrive (R354, R364, R391, R396) -/

section
variable {a : Abl} {p : List Nat}

theorem Abl.snoopData_of_stale (hstale : a.n.jobCheck (leAt p 0 4) = 1) (origin : Nat) :
    a.snoopData origin p = a.on fun n => n.bumpOf staleReg := by simp only [Abl.snoopData, Abl.ofJob_stale _ hstale]

/-- The bundles of repeat runs join no verdict. -/
theorem Abl.verData_of_repeat (hrepeat : bit (leAt p 8 4) 31 = true) (a : Abl) (origin : Nat) : a.verData origin p = a := by
  simp [Abl.verData, hrepeat]

end

section
variable {a : Abl} {die t epoch tile : Nat} {x : IngestX}
  (hfound : (a.grid.ingest.find? fun x => x.die == die && x.jobtag == t && x.epoch == epoch && x.tile == tile && (x.last || x.bad)) = some x)
include hfound

/-- Sections that do not agree with their header end the bundle as BAD_BUNDLE. -/
theorem Abl.bundleLanded_of_bad (hbad : x.sections = none) : a.bundleLanded die t epoch tile = a.badIngest x := by
  simp only [Abl.bundleLanded, hfound, hbad]

section
variable {secs : List (List Nat)} {b : Bundle} {e : Abl} (hsecs : x.sections = some secs) (hb : b = bundleOf (x.hdr.getD []) secs)
  (he : e = { a with grid := { a.grid with ingest := a.grid.ingest.filter fun y =>
    !(y.die == die && y.jobtag == t && y.epoch == epoch && y.tile == tile) } })
  (hjob : a.n.jobCheck b.jobtag = 0)
include hsecs hb he hjob

theorem Abl.bundleLanded_of_unbound (hctx : e.bundleCtx b.jobtag b.prog = none) :
    a.bundleLanded die t epoch tile = e.sliceDone
      { bundle := b, unit := x.unit, cell := x.cell, result := 4, ctx := 255, started := x.started, lastByte := x.at_, slot := 64 } := by
  have hknown : e.n.jobCheck b.jobtag = 0 := by rw [he]; exact hjob
  simp only [Abl.bundleLanded, hfound, hsecs, ← hb, ← he, Abl.ofJob_known _ hknown, hctx]

/-- A bundle of the program's format and size is queued in its context, and starts the grid's clocks. -/
theorem Abl.bundleLanded_of_queued {f : Abl} {c slot : Nat} {p : GridProg} (hctx : e.bundleCtx b.jobtag b.prog = some c)
    (hf : f = e.ctxSeen c b.epoch) (hslot : slot = f.n.ctxFld c 246 6) (hprog : f.prog slot = some p) (hformat : b.format = p.format)
    (hm : b.m ≤ 256) (hn : b.n ≤ 256) (hpm : b.m = p.kat.m) (hpn : b.n = p.kat.n) (hsize : b.size ≤ p.sliceMax)
    (hplace : f.n.bit Reg.ABL_GRID_CTX c 252 = false) :
    a.bundleLanded die t epoch tile = (({ f with grid := { f.grid with
      slices := f.grid.slices ++ [{ id := f.grid.next, ctx := c, slot := slot, bundle := b, unit := x.unit, cell := x.cell, arrived := x.at_,
                                    since := f.n.local, started := x.started }],
      next := f.grid.next + 1 } } : Abl).gridStart).1.gridView := by
  have hknown : e.n.jobCheck b.jobtag = 0 := by rw [he]; exact hjob
  have hfits : ¬ (b.format ≠ p.format ∨ 256 < b.m ∨ 256 < b.n ∨ b.m ≠ p.kat.m ∨ b.n ≠ p.kat.n ∨ p.sliceMax < b.size) := by omega
  simp only [Abl.bundleLanded, hfound, hsecs, ← hb, ← he, Abl.ofJob_known _ hknown, hctx, ← hf, ← hslot, hprog, hplace, Bool.false_eq_true,
    if_false, Bool.or_eq_true, decide_eq_true_eq, or_assoc, hfits]

end

end

/-! ## The scheduler (R366, R688) -/

/-- A slice that waits alone begins on the first partition that is free for it. -/
theorem Abl.slicePlace_of_single {a : Abl} {x : GridSlice} {p : List Nat} (hon : a.n.bit Reg.ABL_GRID_CTRL 0 0 = true)
    (hpower : a.n.gridPower = 2) (hslices : a.grid.slices = [x]) (hwait : x.st = 0)
    (hfree : (a.freeParts (a.shapeOf x) x.away).head? = some p) : a.slicePlace = a.beginRun x p := by
  simp [Abl.slicePlace, hon, hpower, hslices, hwait, Abl.placeFrom, hfree]

/-! ## The ends of runs (R355, R359, R367, R372) -/

section
variable {a : Abl} {id : Nat} {x : GridSlice} {r : GridRun} (hslice : a.slice id = some x) (hrun : a.run id = some r)
include hslice hrun

/-- A first run with no mismatch ends its slice as MATCH. A slice of no context (32 and above) leaves no context to drain. -/
theorem Abl.runDone_of_match (hend : r.cores.all (fun c => c.st == 4) = true) (hkat : x.kat = 0) (hdoomed : x.doomed = false)
    (hfirst : x.st ≠ 3) (hcount : r.tally.1 = 0) (hctx : 32 ≤ x.ctx) : a.runDone id = (a.dropRun r).sliceEnd x 0 r.tally.2.2 0 none := by
  simp [Abl.runDone, hslice, hrun, hend, hkat, hdoomed, hfirst, hcount, Nat.not_lt.2 hctx]

/-- A run that goes on past twice its program's time faults the cores that are not at END. -/
theorem Abl.runTimeout_of_late {w : Nat} (hrest : r.cores.all (fun c => c.st == 4) = false)
    (hw : w = ((a.prog x.slot).map fun p => p.wUs).getD 0) (hlate : r.began + 2 * w * 1000 ≤ a.n.local) :
    a.runTimeout id = a.runFault id 3 ((r.cores.filter fun c => c.st != 4).map fun c => c.core) := by
  subst hw
  simp only [Abl.runTimeout, hslice, hrun, hrest, Nat.not_lt.2 hlate, decide_false, Bool.or_self, Bool.false_eq_true, if_false]

end

section
variable {a : Abl} {k : Nat}

theorem Abl.gridCoreFault_of_no_run (hruns : a.grid.runs = []) (cause : Nat) : a.gridCoreFault k cause = a.coreFault k cause 0 := by
  simp only [Abl.gridCoreFault, hruns, List.find?_nil]

theorem Abl.gridCoreFault_of_run {r : GridRun} (hrun : (a.grid.runs.find? fun r => r.part.contains k) = some r) (cause : Nat) :
    a.gridCoreFault k cause = a.runFault r.id cause [k] := by simp only [Abl.gridCoreFault, hrun]

end

/-! ## Known answers (R356, R369) -/

section
variable {a : Abl} (hon : a.n.bit Reg.ABL_GRID_CTRL 0 0 = true) (hkat : a.n.bit Reg.ABL_GRID_CTRL 0 1 = true)
  (hms : a.n.rd Reg.ABL_GRID_KAT_MS ≠ 0) (hslices : a.grid.slices = [])
  (hdue : a.grid.katAt + a.n.rd Reg.ABL_GRID_KAT_MS * 1000000 ≤ a.n.local)
include hon hkat hms hslices hdue

/-- A known answer that is due while the grid's clocks are stopped starts them, and runs later. -/
theorem Abl.katStart_of_stopped (hpower : a.n.gridPower = 0) :
    a.katStart = a.on fun n => n.setFld Reg.ABL_GRID_STATUS 0 30 2 1 := by
  simp [Abl.katStart, hon, hkat, hms, hslices, Nat.not_lt.2 hdue, hpower, Abl.gridStart]

theorem Abl.katStart_of_due {e : Abl} {k : Nat} {p : GridProg} {part : List Nat} {x : GridSlice} (hpower : a.n.gridPower = 2)
    (hturn : a.katSlot = some k) (hprog : a.prog k = some p) (hpart : a.katPart p = some part)
    (hx : x = { id := a.grid.next, ctx := 255, slot := p.slot, bundle := p.kat, arrived := a.n.local, since := a.n.local, kat := 2 })
    (he : e = { a with grid := { a.grid with slices := [x], next := a.grid.next + 1, katTurn := k + 1, katAt := a.n.local } }) :
    a.katStart = e.beginRun x part := by
  subst hx he
  simp [Abl.katStart, hon, hkat, hms, hslices, Nat.not_lt.2 hdue, hpower, hturn, hprog, hpart, Abl.katSlice]

end

/-! ## Programs and contexts (R361, R362, R364) -/

/-- Two known-answer runs in time and as expected make the slot READY, with the longer of their times. -/
theorem Abl.progLoadDone_of_right {a : Abl} {k : Nat} {p : GridProg} {e f : KatEnd} (hprog : a.prog k = some p) (hload : a.n.progState k = 1)
    (hends : p.ends = [e, f]) (heus : e.us ≤ p.wUs) (hfus : f.us ≤ p.wUs) (hegot : e.got = some p.expect) (hfgot : f.got = some p.expect) :
    a.progLoadDone k =
      { a with
        n := (((a.n.setFld Reg.ABL_GRID_PROG k 125 3 2).setFld Reg.ABL_GRID_PROG k 32 16 (max e.us f.us)).irq 49).done 0x0801 k stOk
        grid := { a.grid with idleAt := a.n.local, progs := a.grid.progs.map fun x => if x.slot = k then { x with ends := [] } else x } } := by
  simp [Abl.progLoadDone, hprog, hload, hends, hegot, hfgot, Nat.not_lt.2 heus, Nat.not_lt.2 hfus, Abl.on]

/-- A context that is zeroed becomes FREE, and what its replay window held is noted for its job. -/
theorem Abl.ctxScrubbed_of_scrubbing {a : Abl} {c : Nat} (hstate : a.n.ctxState c = 3) :
    a.ctxScrubbed c = ((({ a with grid := { a.grid with
        ctxs := a.grid.ctxs.filter fun y => y.c != c,
        scrubbed := a.grid.scrubbed ++ [(a.n.ctxFld c 192 32, (a.gctx c).bytes, (a.gctx c).slices)] } } : Abl).on fun n =>
      (n.wr Reg.ABL_GRID_CTX c 0).done 0x0804 c stOk)).ctxLoadView := by
  have hscrub : a.ctxDrained c = a := by simp [Abl.ctxDrained, hstate]
  simp [Abl.ctxScrubbed, hscrub, hstate]

/-! ## The grid's clocks (R369, R370) -/

theorem Abl.gridUp_of_waking {a : Abl} (hpower : a.n.gridPower = 1) :
    a.gridUp = { (a.on fun n => (((n.setFld Reg.ABL_GRID_STATUS 0 30 2 2).domStart 2).domStart 0).irq 145) with
      grid := { a.grid with idleAt := a.n.local } } := if_pos hpower

theorem Abl.gridSleep_of_idle {a : Abl} (hpower : a.n.gridPower = 2) (hidle : a.gridIdle = true)
    (hdue : a.grid.idleAt + a.n.rd Reg.ABL_GRID_IDLE_US * 1000 ≤ a.n.local) :
    a.gridSleep = (a.on fun n => n.setFld Reg.ABL_GRID_STATUS 0 30 2 0).domStop 0 := by
  simp [Abl.gridSleep, hpower, hidle, hdue]

/-- Settles O17: each command by what it makes of the sentinel. -/
theorem gridCommandsComplete : Obligations.GridCommandsComplete := by
  unfold Obligations.GridCommandsComplete
  refine ⟨?_, ?_, ?_, ?_, ?_, ?_, ?_, ?_, ?_, ?_, ?_, ?_, ?_, ?_, ?_, ?_⟩
  · exact fun _ _ _ => rfl
  · intro s origin r hstale hrepeat
    exact onAbl_eq_next (f := fun a => (a.snoopData origin r.payload).verData origin r.payload)
      ((Abl.verData_of_repeat hrepeat _ origin).trans (Abl.snoopData_of_stale hstale origin))
  · intro s die t epoch tile x hfound hbad
    exact onAbl_eq_next (f := fun a => a.bundleLanded die t epoch tile) (Abl.bundleLanded_of_bad hfound hbad)
  · intro s die t epoch tile x secs a b hfound hsecs hb ha hjob hctx
    exact onAbl_eq_next (f := fun a => a.bundleLanded die t epoch tile) (Abl.bundleLanded_of_unbound hfound hsecs hb ha hjob hctx)
  · intro s die t epoch tile c slot x secs a e b p hfound hsecs hb ha hjob hctx he hslot hprog hformat hm hn hpm hpn hsize hplace
    exact onAbl_eq_next (f := fun a => a.bundleLanded die t epoch tile)
      (Abl.bundleLanded_of_queued hfound hsecs hb ha hjob hctx he hslot hprog hformat hm hn hpm hpn hsize hplace)
  · intro s x p hon hpower hslices hwait hfree
    exact onAbl_eq_next (Abl.slicePlace_of_single hon hpower hslices hwait hfree)
  · intro s id x r hslice hrun hend hkat hdoomed hfirst hcount hctx
    exact onAbl_eq_next (f := fun a => a.runDone id) (Abl.runDone_of_match hslice hrun hend hkat hdoomed hfirst hcount hctx)
  · intro s id w x r hslice hrun hrest hw hlate
    exact onAbl_eq_next (f := fun a => a.runTimeout id) (Abl.runTimeout_of_late hslice hrun hrest hw hlate)
  · intro s k cause hruns
    exact onAbl_eq_next (f := fun a => a.gridCoreFault k cause) (Abl.gridCoreFault_of_no_run hruns cause)
  · intro s k cause r hrun
    exact onAbl_eq_next (f := fun a => a.gridCoreFault k cause) (Abl.gridCoreFault_of_run hrun cause)
  · intro s hon hkat hms hslices hdue hpower
    exact onAbl_eq_next (Abl.katStart_of_stopped hon hkat hms hslices hdue hpower)
  · intro s k p part x a hon hkat hms hslices hdue hpower hturn hprog hpart hx ha
    exact onAbl_eq_next (Abl.katStart_of_due hon hkat hms hslices hdue hpower hturn hprog hpart hx ha)
  · intro s k p e f hprog hload hends heus hfus hegot hfgot
    exact ⟨_, onAbl_eq_next (f := fun a => a.progLoadDone k) (Abl.progLoadDone_of_right hprog hload hends heus hfus hegot hfgot), rfl, rfl⟩
  · intro s c hstate
    exact ⟨_, onAbl_eq_next (f := fun a => a.ctxScrubbed c) (Abl.ctxScrubbed_of_scrubbing hstate), rfl, rfl⟩
  · intro s hpower
    exact ⟨_, onAbl_eq_next (Abl.gridUp_of_waking hpower), rfl, rfl⟩
  · intro s hpower hidle hdue
    exact onAbl_eq_next (Abl.gridSleep_of_idle hpower hidle hdue)

end Sys2Proof.Machine
end

section
/-!
SUPPORT. The commands of a core (R336, R338, R340, R358, R374): what a core makes of the command at which it stands, and of its answer; messages
between cores.
-/

namespace Sys2Proof.Machine

/-! ## A command's answer (R359, R374) -/

section
variable {r : GridRun} {k : Nat} {c d : GridCore}

/-- A command that moves its core on, and does not wait, is retired. -/
theorem Abl.coreApply_of_moved (hst : d.st ≠ 1 ∧ d.st ≠ 2 ∧ d.st ≠ 3) (hmoved : d.pc ≠ c.pc ∨ d.st ≠ c.st) (a : Abl) :
    a.coreApply r k c (.ok d) = (a.putCore r.id d).retire k := by
  obtain ⟨hsend, hrecv, hwait⟩ := hst
  rcases hmoved with hpc | hst
  · simp [Abl.coreApply, hsend, hrecv, hwait, hpc]
  · simp [Abl.coreApply, hsend, hrecv, hwait, hst]

/-- A command that waits is retired later. -/
theorem Abl.coreApply_of_waiting (hst : d.st = 1 ∨ d.st = 2 ∨ d.st = 3) (a : Abl) :
    a.coreApply r k c (.ok d) = a.putCore r.id d := by
  rcases hst with hsend | hrecv | hwait
  · simp [Abl.coreApply, hsend]
  · simp [Abl.coreApply, hrecv]
  · simp [Abl.coreApply, hwait]

/-- Any error but 0, which is a bundle that the command cannot read, is the cause of a core fault. -/
theorem Abl.coreApply_of_fault {cause : Nat} (hcause : cause ≠ 0) (a : Abl) :
    a.coreApply r k c (.error cause) = a.runFault r.id cause [k] := by simp only [Abl.coreApply]

end

/-! ## A command at which a core stands (R358) -/

/-- A command on the sentinel that draws an open value is known by what it makes of the sentinel with that value. -/
theorem onAblFree_eq_next {s : State} {f : Nat → Abl → Abl} {a : Abl} (h : f (Config.freeNat s.free) s.abl = a) :
    onAblFree s f = .next (({ s with free := s.free + 1 } : State).settleAbl a) := by rw [onAblFree, h]

section
variable {s : State} {core : Nat} {r : GridRun} {e : GridEnv} {x : GridCmd} {c d : GridCore} {want : GridCmd → Bool}
  {f : Nat → GridEnv → GridCmd → GridCore → CoreRes}
  (hat : s.abl.coreAt core = some (r, e, c)) (hcmd : e.cmd c = some x) (hst : c.st = 0)
include hat hcmd hst

theorem gridCommand_of_wanted (hwant : want x = true) :
    gridCommand core want f s = .next (({ s with free := s.free + 1 } : State).settleAbl
      ((s.abl.countOps e x c).coreApply r core c (f (Config.freeNat s.free) e x c))) :=
  onAblFree_eq_next (f := fun free a => a.coreStep core want (f free)) (by
    simp only [Abl.coreStep, hat, hcmd, hst, hwant, decide_true, Bool.and_self, if_true])

theorem gridCommand_of_moved (hwant : want x = true) (hok : f (Config.freeNat s.free) e x c = .ok d)
    (hnext : d.st ≠ 1 ∧ d.st ≠ 2 ∧ d.st ≠ 3) (hmoved : d.pc ≠ c.pc ∨ d.st ≠ c.st) :
    gridCommand core want f s = .next (({ s with free := s.free + 1 } : State).settleAbl
      (((s.abl.countOps e x c).putCore r.id d).retire core)) := by
  rw [gridCommand_of_wanted hat hcmd hst hwant, hok, Abl.coreApply_of_moved hnext hmoved]

/-- A command that leaves its core ready at another command. -/
theorem gridCommand_of_next (hwant : want x = true) (hok : f (Config.freeNat s.free) e x c = .ok d) (hready : d.st = 0) (hpc : d.pc ≠ c.pc) :
    gridCommand core want f s = .next (({ s with free := s.free + 1 } : State).settleAbl
      (((s.abl.countOps e x c).putCore r.id d).retire core)) :=
  gridCommand_of_moved hat hcmd hst hwant hok (by simp [hready]) (.inl hpc)

theorem gridCommand_of_waiting (hwant : want x = true) (hok : f (Config.freeNat s.free) e x c = .ok d) (hwait : d.st = 1 ∨ d.st = 2 ∨ d.st = 3) :
    gridCommand core want f s = .next (({ s with free := s.free + 1 } : State).settleAbl ((s.abl.countOps e x c).putCore r.id d)) := by
  rw [gridCommand_of_wanted hat hcmd hst hwant, hok, Abl.coreApply_of_waiting hwait]

theorem gridCommand_of_fault {cause : Nat} (hwant : want x = true) (herr : f (Config.freeNat s.free) e x c = .error cause) (hcause : cause ≠ 0) :
    gridCommand core want f s = .next (({ s with free := s.free + 1 } : State).settleAbl
      ((s.abl.countOps e x c).runFault r.id cause [core])) := by
  rw [gridCommand_of_wanted hat hcmd hst hwant, herr, Abl.coreApply_of_fault hcause]

end

/-! ## Messages (R338) -/

section
variable {e : GridEnv} {x : GridCmd} {c : GridCore}

theorem coreSend_of_dest (hdest : sendDest e.prog.shape x c ≠ none) : coreSend e x c = .ok { c with st := 1 } := by
  obtain ⟨d, hd⟩ := Option.ne_none_iff_exists'.1 hdest
  simp only [coreSend, hd]

theorem coreSend_of_no_dest (hdest : sendDest e.prog.shape x c = none) : coreSend e x c = .error 2 := by simp only [coreSend, hdest]

end

theorem Abl.streamDone_of_core {a : Abl} {core : Nat} {r : GridRun} {e : GridEnv} {c : GridCore} (hat : a.coreAt core = some (r, e, c))
    (st free : Nat) : a.streamDone core st free = a.coreApply r core c (Machine.streamDone e st free c) := by
  simp only [Abl.streamDone, hat]

/-- A message for which the destination's RECV has room is read from one core's working region and written to the other's, and both go on. -/
theorem Abl.meshDeliver_of_met {a : Abl} {core d : Nat} {r : GridRun} {e : GridEnv} {c u v : GridCore} {x y : GridCmd} {b : List Nat}
    (hat : a.coreAt core = some (r, e, c)) (hcmd : e.cmd c = some x) (hsend : c.st = 1) (hdest : sendDest e.prog.shape x c = some d)
    (hfound : (r.cores.find? fun y => y.k == d) = some u) (hpartner : e.cmd u = some y) (hrecv : u.st = 2) (hother : u.core ≠ c.core)
    (hqueue : bits (y.arg u 1) 0 3 = bits (x.arg c 1) 0 3) (hroom : x.args.getD 3 0 ≤ y.args.getD 3 0)
    (hread : workRead c (x.arg c 2) (x.args.getD 3 0) = .ok b) (hwrite : workWrite u (y.arg u 2) (b.take (y.args.getD 3 0)) = .ok v) :
    a.meshDeliver core = (((a.putCore r.id v.advance).retire u.core).putCore r.id c.advance).retire core := by
  have hmet : (decide (u.st = 2) && u.core != c.core && bits (y.arg u 1) 0 3 == bits (x.arg c 1) 0 3) = true := by
    simp [hrecv, hother, hqueue]
  simp only [Abl.meshDeliver, hat, hcmd, hsend, if_true, hdest, hfound, hpartner, hmet, hread, hwrite, Nat.not_lt.2 hroom, if_false]

/-- Settles O18: each command by the answer that its core makes of it. -/
theorem coreCommandsComplete : Obligations.CoreCommandsComplete := by
  unfold Obligations.CoreCommandsComplete
  refine ⟨?load, ?loadAsync, ?mma, ?cvt, ?cvtQuant, ?cmp, ?loop, ?wait, ?endStream, ?send, ?sendOutside, ?recv,
    ?streamLoadDone, ?meshDeliver⟩
  case load => exact fun _ _ _ _ _ _ _ hat hcmd hst hop => gridCommand_of_next (f := fun _ e x c => coreLoad e x c) hat hcmd hst (by simp [hop])
  case loadAsync => exact fun _ _ _ _ _ _ _ hat hcmd hst hop => gridCommand_of_next (f := fun _ e x c => coreLoadAsync e x c) hat hcmd hst (by simp [hop])
  case mma => exact fun _ _ _ _ _ _ _ hat hcmd hst hop => gridCommand_of_next (f := fun _ e x c => coreMma e x c) hat hcmd hst (by simp [hop])
  case cvt => exact fun _ _ _ _ _ _ _ hat hcmd hst hop => gridCommand_of_next (f := fun _ e x c => coreCvt e x c) hat hcmd hst (by simp [hop])
  case cvtQuant => exact fun _ _ _ _ _ _ _ hat hcmd hst hop => gridCommand_of_next (f := fun _ e x c => coreCvt e x c) hat hcmd hst (by simp [hop])
  case cmp => exact fun _ _ _ _ _ _ _ hat hcmd hst hop => gridCommand_of_next (f := fun _ e x c => coreCmp e x c) hat hcmd hst (by simp [hop])
  case loop => exact fun _ _ _ _ _ _ _ hat hcmd hst hop => gridCommand_of_next (f := fun _ _ x c => coreLoop x c) hat hcmd hst (by simp [hop])
  case wait => exact fun _ _ _ _ _ _ _ hat hcmd hst hop => gridCommand_of_next (f := fun _ _ x c => coreWait x c) hat hcmd hst (by simp [hop])
  case endStream =>
    intro s core r e x c hat hcmd hst hop
    exact gridCommand_of_moved (f := fun _ _ _ c => coreEnd c) hat hcmd hst (by simp [hop]) rfl (by simp) (.inr (by simp [hst]))
  case send =>
    intro s core r e x c hat hcmd hst hop hdest
    exact gridCommand_of_waiting (f := fun _ e x c => coreSend e x c) hat hcmd hst (by simp [hop]) (coreSend_of_dest hdest) (.inl rfl)
  case sendOutside =>
    intro s core r e x c hat hcmd hst hop hdest
    exact gridCommand_of_fault (f := fun _ e x c => coreSend e x c) hat hcmd hst (by simp [hop]) (coreSend_of_no_dest hdest) (by decide)
  case recv =>
    intro s core r e x c hat hcmd hst hop _
    exact gridCommand_of_waiting (f := fun _ _ _ c => coreRecv c) hat hcmd hst (by simp [hop]) rfl (.inr (.inl rfl))
  case streamLoadDone =>
    intro s core st r e c hat
    exact onAblFree_eq_next (f := fun free a => a.streamDone core st free) (Abl.streamDone_of_core hat st _)
  case meshDeliver =>
    intro s core d r e c u v x y b hat hcmd hsend hdest hfound hpartner hrecv hother hqueue hroom hread hwrite
    exact onAbl_eq_next (f := fun a => a.meshDeliver core)
      (Abl.meshDeliver_of_met hat hcmd hsend hdest hfound hpartner hrecv hother hqueue hroom hread hwrite)

end Sys2Proof.Machine
end

section
/-!
SUPPORT. The VEC commands of a core (R350, R351, R358, R692): one command for each code, and what the element-wise codes compute.
-/

namespace Sys2Proof.Machine

/-- The VEC commands of a core with their codes (R692). -/
def vecCommands (core : Nat) : List (Instr × Nat) :=
  [(.vecAdd core, 0), (.vecSub core, 1), (.vecMul core, 2), (.vecFma core, 3), (.vecMin core, 4), (.vecMax core, 5), (.vecSqrt core, 6),
   (.vecRcp core, 7), (.vecRsqrt core, 8), (.vecExp2 core, 9), (.vecLog2 core, 10), (.vecTanh core, 11), (.vecExp core, 16),
   (.vecSigmoid core, 17), (.vecSilu core, 18), (.vecGeluTanh core, 19), (.vecSoftmax core, 20), (.vecRmsnorm core, 21), (.vecSum core, 22),
   (.vecMaxReduce core, 23)]

/-- Every VEC command is carried out alike, where the core stands at a VEC of its code. -/
theorem exec_of_mem_vecCommands {core : Nat} {p : Instr × Nat} (h : p ∈ vecCommands core) (s : State) :
    exec p.1 s = gridCommand core (fun x => x.op == 6 && x.args.getD 3 0 == p.2) (fun free _ x c => coreVec free x c) s := by
  fin_cases h <;> rfl

/-- The codes from ADD to MAX but for FMA take their second operand from the working region, unless it is the scalar. -/
theorem coreVec_of_second {x : GridCmd} {c d : GridCore} {n k free : Nat} {bx bs : List Nat} (hn : x.arg c 2 = n) (hcode : x.args.getD 3 0 = k)
    (hk : k < 6) (hfma : k ≠ 3) (hsecond : x.args.getD 4 0 ≠ 0xFFFFFFFF) (hbx : workRead c (x.arg c 0) (4 * n) = .ok bx)
    (hbs : workRead c (x.args.getD 4 0) (4 * n) = .ok bs)
    (hwrite : workWrite c (x.arg c 1) ((vecRun k (words32 n bx) (words32 n bs) (words32 n bx) (x.args.getD 5 0) free).flatMap (le 4)) = .ok d) :
    coreVec free x c = .ok d.advance := by
  have hbinary : vecUnary k = false := by simp [vecUnary, Nat.not_le.2 hk]
  simp only [coreVec, hn, hcode, hbinary, hfma, hsecond, hbx, hbs, hwrite, Bool.false_or, decide_false, Bool.false_eq_true, if_false, bind,
    Except.bind, pure, Except.pure]

/-- The codes below EXP are element-wise. -/
theorem vecRun_of_elementwise {k : Nat} (hk : k < 12) (xs ss ys : List Nat) (scalar free : Nat) :
    vecRun k xs ss ys scalar free = (xs.zip (ss.zip ys)).map fun p => vecElem k p.1 p.2.1 p.2.2 free := by
  rw [vecRun] <;> omega

/-- Settles O19: one command for each code, by the answer of its VEC. -/
theorem vecCommandsComplete : Obligations.VecCommandsComplete := by
  unfold Obligations.VecCommandsComplete
  refine ⟨?_, ?_, ?_⟩
  · intro s core k i r e x c d hmem hat hcmd hst hop hcode hok hready hpc
    rw [exec_of_mem_vecCommands (p := (i, k)) hmem]
    exact gridCommand_of_next hat hcmd hst (by simp only [hop, hcode, beq_self_eq_true, Bool.and_self]) hok hready hpc
  · intro x c d n k free bx bs hn hcode hk hfma hsecond hbx hbs hwrite
    exact coreVec_of_second hn hcode hk hfma hsecond hbx hbs hwrite
  · intro k scalar free xs ss ys hk
    exact vecRun_of_elementwise hk xs ss ys scalar free

end Sys2Proof.Machine
end

section
/-!
SUPPORT. Steps and the order of posting: the queue is worked off and every step keeps a sound state sound (assumption logs 3, 7), and the posted
command that a row serves (R601 to R604).
-/

namespace Sys2Proof.Machine

open Safety

/-! ## Runs (assumption log 3) -/

theorem step_completes (s : State) : ∃ t, step s = .next t ∧ t.pending = s.pending.tail := by
  cases hq : s.pending with
  | nil => exact ⟨s, by simp only [step, hq], hq⟩
  | cons c rest =>
    obtain ⟨t, hnext, hkept⟩ := exec_completes c { s with pending := rest }
    exact ⟨t, by simpa only [step, hq] using hnext, hkept.pending⟩

/-- Every step takes one command off the queue. -/
theorem runs_to_empty : ∀ (n : Nat) (s : State), s.pending.length = n → ∃ t, Runs n s t ∧ t.pending = []
  | 0, s, hn => ⟨s, rfl, List.length_eq_zero_iff.1 hn⟩
  | n + 1, s, hn => by
    obtain ⟨u, hstep, hq⟩ := step_completes s
    obtain ⟨t, hruns, hempty⟩ := runs_to_empty n u (by rw [hq, List.length_tail, hn, Nat.add_sub_cancel])
    exact ⟨t, ⟨u, hstep, hruns⟩, hempty⟩

/-- Settles O44: a step never stops, and it takes one command off the queue. -/
theorem queueIsWorkedOff : Obligations.QueueIsWorkedOff := by
  unfold Obligations.QueueIsWorkedOff
  refine fun s => ⟨fun _ t _ => ?_, runs_to_empty _ s rfl⟩
  obtain ⟨u, hstep, -⟩ := step_completes t
  exact ⟨u, hstep⟩

/-! ## Memory writes (assumption log 7) -/

/-- No memory write of an earlier command is still to be carried out. -/
def WritesDone (a : Abl) : Prop := a.out = [] ∧ a.wipe = false

/-- A result in which a sentinel with no memory write to carry out has none again. -/
def LeavesNone (s : State) (r : Res) : Prop := ∃ t, r = .next t ∧ (WritesDone s.abl → WritesDone t.abl)

/-- Settling the sentinel carries its memory writes out. -/
theorem leavesNone_of_abl {s s' : State} {r : Res} {a : Abl} (hr : r = .next (s'.settleAbl a)) : LeavesNone s r :=
  ⟨_, hr, fun _ => ⟨rfl, rfl⟩⟩

/-- Settling the DDU leaves the sentinel as it is. -/
theorem leavesNone_of_ddu {s : State} {r : Res} {d : Ddu} {v k : Nat} {b : Bool}
    (hr : r = .next (({ s with rdata := v, busErr := b, free := k } : State).settleDdu d)) : LeavesNone s r := ⟨_, hr, id⟩

/-- A command that does not reach the sentinel's memory writes leaves them as they are. -/
theorem leavesNone_of_same {s t : State} {r : Res} (hr : r = .next t) (hout : t.abl.out = s.abl.out) (hwipe : t.abl.wipe = s.abl.wipe) :
    LeavesNone s r := ⟨t, hr, fun h => ⟨hout.trans h.1, hwipe.trans h.2⟩⟩

theorem leavesNone_ite {s : State} {p : Prop} [Decidable p] {r r' : Res} (h : LeavesNone s r) (h' : LeavesNone s r') :
    LeavesNone s (if p then r else r') := by split <;> assumption

theorem dduWrite_leavesNone (who : Requester) (s : State) (f : Ddu → Ddu) : LeavesNone s (dduWrite who s f) :=
  leavesNone_ite (leavesNone_of_same rfl rfl rfl) (leavesNone_ite (leavesNone_of_same rfl rfl rfl) (leavesNone_of_ddu rfl))

theorem dduFast_leavesNone (who : Requester) (s : State) (f : Ddu → Ddu) : LeavesNone s (dduFast who s f) :=
  leavesNone_ite (leavesNone_of_same rfl rfl rfl) (dduWrite_leavesNone who s _)

theorem ablWrite_leavesNone (who : Requester) (s : State) (f : Abl → Abl) : LeavesNone s (ablWrite who s f) :=
  leavesNone_ite (leavesNone_of_abl rfl) (leavesNone_of_same rfl rfl rfl)

theorem onNode_leavesNone (dev : Dev) (s : State) (f : Node → Node) : LeavesNone s (onNode dev s f) := by
  cases dev
  · exact leavesNone_of_ddu rfl
  · exact leavesNone_of_abl rfl

theorem opRow_leavesNone (c : Cmd) (code what : Nat) (s : State) : LeavesNone s (opRow c code what s) := by
  unfold opRow
  split
  · exact leavesNone_of_abl rfl
  · exact leavesNone_of_ddu rfl

theorem dieOpCmd_leavesNone (s : State) (c : Cmd) (code op : Nat) (f : Ddu → Ddu × Ans) : LeavesNone s (dieOpCmd s c code op f) :=
  leavesNone_ite (leavesNone_of_ddu rfl) (leavesNone_of_ddu rfl)

theorem lcCmd_leavesNone (s : State) (c : Cmd) (op : Nat) (f : Abl → Abl × Ans) : LeavesNone s (lcCmd s c op f) :=
  leavesNone_ite (leavesNone_of_abl rfl) (leavesNone_of_abl rfl)

theorem syncCommand_leavesNone (dev : Dev) (op : Nat) (f : SyncFrom) (q : SyncReq) (s : State) : LeavesNone s (syncCommand dev op f q s) := by
  cases f <;> cases dev
  case localReq.ddu => exact dduWrite_leavesNone _ s _
  case remote.ddu => exact leavesNone_of_ddu rfl
  case localReq.abl | remote.abl => exact leavesNone_of_abl rfl

theorem execMailboxPost_leavesNone (c : Cmd) (s : State) : LeavesNone s (execMailboxPost c s) := by
  unfold execMailboxPost
  split
  · exact leavesNone_of_abl rfl
  · exact leavesNone_of_ddu rfl

theorem execEventWrite_leavesNone (path : Word) (r : Record) (s : State) : LeavesNone s (execEventWrite path r s) := by
  refine leavesNone_ite (leavesNone_of_ddu rfl) ?_
  split <;> exact leavesNone_of_abl rfl

theorem execCmpDescDone_leavesNone (q : Word) (s : State) : LeavesNone s (execCmpDescDone q s) := by
  unfold execCmpDescDone
  exact leavesNone_of_abl rfl

/-- No command leaves a memory write to be carried out later: it acts on the DDU alone, or it settles the sentinel, or a refusal is counted. -/
theorem exec_leavesNone (c : Instr) (s : State) : LeavesNone s (exec c s) := by
  cases c with
  | eventBusCycle | preaccFold | hostActiveRise | hostActiveFall | dduResetRelease | corePgoodFall | cntWrap | cntChained | cntFreezeExpiry
  | sensorStale | traceTapRetire | tapFifoRecover | tracePeriodicSync | traceDisableDrainEnd | tracePostDone | traceAreaFull
  | traceSpillBlock | traceResume | traceExportBlock | snapAtFrameRx | fallbackExit | fbGuestRequestRx | fbRefusedRx | fbListRetry
  | fbHostSilence | fbRingMessage | summaryWindowClose | scrubTimeout | jobHoldExpiry | sourceFenceComplete | lrbEvaluate | lrbFloorExpiry
  | snoopSlotServe | snoopSlotComplete | secureSlotServe | secureDieDone | dieLedgerMount | dieLedgerJournal | dduSlackExit | capStale
  | demandReport | phaseSignatureTick | powerLoopWindow | railRecalEnd | railWatchEnd | phaseTableSave | reverseTimeout | hostRepeatTile
  | hostSetPattern | dduDebugExpiry | reverseMailboxComplete | markerAccept | markerProcess | checksumReportAccept | abftCheck
  | fastDomainStart | fastDomainReady | fastIdleExpiry | droopDetect | clkStretchHoldEnd | regAckRx | regReqTimeout | subresetDrainEnd
  | subresetDone | dduAliveRaise | epochCloseComplete | dieIdent | dieRegWrite | dieCap | dieSlack | dieSuspect | dieProfile | dieSecCut
  | dieSecCommit | dieRepeat | dieCampaign | dieQuery | sensorSample | scrubComplete =>
    exact leavesNone_of_ddu rfl
  | dduResetAssert | dduAonPgoodFall | dduAonPgoodRise => exact leavesNone_of_same rfl rfl rfl
  | bwWindowClose dev | recFreezeExpiry dev | faultSubwindowAdvance dev | channelFailure dev | channelRetry dev | interruptRequest dev
  | aicEoi dev | aicSgi dev | aicCfgWrite dev | watchdogKick dev | watchdogWarning dev | abortCopyRx dev | timeReqSend dev | timeReqRx dev
  | flitTime dev | messageRx dev | fanKeepExpiry dev | syncStateRx dev | syncGuardExpiry dev | faultEvent dev | probationEnd dev
  | watchdogExpiry dev | mcLoadTick dev | timeTick dev | timeWrap dev | slewEnd dev | timeRespRx dev | timeSourceLost dev | flitRx dev
  | signalDetect dev | trainComplete dev | trainTimeout dev | signalLost dev | laneFailure dev | noFlitTimeout dev | resetNoticeRx dev
  | backoffExpiry dev | earlyLossWithdraw dev | jobStartDeliver dev | jobEndDeliver dev | groupRegisterDeliver dev | groupReleaseDeliver dev
  | secureCutDeliver dev | secureCommitDeliver dev | secureAbandonDeliver dev | secureReleaseDeliver dev | restoreDeliver dev
  | registerWrite dev | rcRegisterRead dev | aicClaim dev =>
    cases dev
    · exact leavesNone_of_ddu rfl
    · exact leavesNone_of_abl rfl
  | subresetStart | sourceFence => unfold exec; exact dduWrite_leavesNone _ s _
  | cntSelWrite | cntClear | cntFreezeWrite | traceEnable | traceDisable | trigNow | rearm | traceSpillRdWrite | chkLastClear
  | cellTedgeWrite | snoopPost | securePost | secureLate =>
    unfold exec; exact dduFast_leavesNone _ s _
  | pcntLatch | pcntClear | ppsNextWrite | launchEnqueue | launchFlush | metSlotWrite | fanStart | uschJobWrite | treeSubmit =>
    unfold exec; exact ablWrite_leavesNone _ s _
  | recFreezeWrite dev | recRlWrite dev | lnkCtrlWrite dev | retrain dev | timeIncrWrite dev | slewTicksWrite dev | timeLoad dev =>
    unfold exec
    cases dev
    · exact dduWrite_leavesNone _ s _
    · exact ablWrite_leavesNone _ s _
  | syncFence dev =>
    unfold exec
    cases dev
    · exact dduWrite_leavesNone _ s _
    · exact leavesNone_of_abl rfl
  | bwCfgWrite dev who w v =>
    cases dev
    · exact dduFast_leavesNone who s fun d => d.on fun n => n.bwWrite w v
    · exact ablWrite_leavesNone _ s _
  | acceptJump dev =>
    cases dev
    · exact leavesNone_ite (leavesNone_of_ddu rfl) (leavesNone_of_same rfl rfl rfl)
    · exact ablWrite_leavesNone _ s _
  | cntChainRead | traceApertureRead =>
    exact leavesNone_ite (leavesNone_of_same rfl rfl rfl)
      (leavesNone_ite (leavesNone_of_same rfl rfl rfl) (leavesNone_of_ddu rfl))
  | timeNsRead dev =>
    cases dev
    · exact leavesNone_ite (leavesNone_of_ddu rfl) (leavesNone_of_same rfl rfl rfl)
    · exact leavesNone_of_abl rfl
  | apertureAccess | fwUpdate | fwCommit => exact leavesNone_ite (leavesNone_of_abl rfl) (leavesNone_of_abl rfl)
  | hello | fence | opQuery | getInfo => exact onNode_leavesNone _ s _
  | opSuspend | opResume | opCancel => exact opRow_leavesNone ..
  | dieFaultClear | dieFaultRestore | dieFaultConfigure | dieFaultInject | dieLedgerRead | dieLedgerWrite | dieTraceTrigger
  | dieTraceExportStart | dieTraceExportSuspend | dieTraceExportResume | dieTraceExportCancel =>
    exact dieOpCmd_leavesNone ..
  | lifecycleSecure | lifecycleRma | lifecycleDecommission | keyAdd | keyRevoke => exact lcCmd_leavesNone ..
  | syncAlloc | syncSet | syncAdd | syncMax | syncFail | syncArm | syncRelease | syncQuery | syncReach | syncStateApply =>
    exact syncCommand_leavesNone ..
  | mailboxPost => exact execMailboxPost_leavesNone ..
  | eventWrite => exact execEventWrite_leavesNone ..
  | cmpDescDone => exact execCmpDescDone_leavesNone ..
  | _ => exact leavesNone_of_abl rfl

/-- A command from a sound state leads to a sound state. -/
theorem exec_sound {c : Instr} {s t : State} (h : Sound s) (hnext : exec c s = .next t) : Sound t := by
  obtain ⟨hmem, hwrites⟩ := h
  obtain ⟨u, hu, hkept⟩ := exec_completes c s
  obtain ⟨v, hv, hdone⟩ := exec_leavesNone c s
  rw [hnext] at hu hv
  cases hu
  cases hv
  exact ⟨hkept.mem hmem, hdone hwrites⟩

/-- Settles O45: by the command at the front of the queue, or none. -/
theorem stepKeepsSoundness : Obligations.StepKeepsSoundness := by
  unfold Obligations.StepKeepsSoundness
  intro s t hsound hstep
  cases hq : s.pending with
  | nil =>
    simp only [step, hq, Host.Outcome.next.injEq] at hstep
    exact hstep ▸ hsound
  | cons c rest =>
    simp only [step, hq] at hstep
    exact exec_sound (s := { s with pending := rest }) hsound hstep

/-- Settles O46: at reset the memory is empty, and nothing waits. -/
theorem resetIsSound : Obligations.ResetIsSound := by
  unfold Obligations.ResetIsSound
  exact ⟨⟨rfl, rfl, rfl⟩, rfl⟩

/-! ## The command that is served (R601 to R604) -/

/-- What stands before no other: a command that is served may start, and none that may start has a higher class or is older in its class. -/
theorem Node.serves_iff {n : Node} {p : PostedX} : n.serves p = true ↔ n.ready p = true ∧ ∀ q ∈ n.mb.posted, n.ready q = true →
    cmdCls n.dev p.cmd ≤ cmdCls n.dev q.cmd ∧ (cmdCls n.dev q.cmd = cmdCls n.dev p.cmd → p.n ≤ q.n) := by
  simp [Node.serves]

theorem Node.pick_eq_some {n : Node} {c : Cmd} {code : Nat} {p : PostedX} (h : n.pick c code = some p) :
    p ∈ n.mb.posted ∧ p.cmd = c ∧ c.code = code ∧ pathDev c.path = n.dev ∧ n.serves p = true := by
  have hmem := List.mem_of_find?_eq_some h
  have htest := List.find?_some h
  simp only [Bool.and_eq_true, beq_iff_eq] at htest
  obtain ⟨⟨⟨hcmd, hcode⟩, hdev⟩, hserves⟩ := htest
  exact ⟨hmem, hcmd, hcode, hdev, hserves⟩

/-- Settles O56: the row's command is a posted one that the order serves. -/
theorem commandsStartByClassAndOrder : Obligations.CommandsStartByClassAndOrder := by
  unfold Obligations.CommandsStartByClassAndOrder
  intro n c code p hpick
  obtain ⟨hmem, hcmd, hcode, -, hserves⟩ := Node.pick_eq_some hpick
  exact ⟨hmem, hcmd, hcode, Node.serves_iff.1 hserves⟩

end Sys2Proof.Machine
end

section
/-!
SUPPORT. Reads of the memory behind the sentinel after an aperture write (R633, R634).
-/

namespace Sys2Proof.Machine

open Safety

/-! ## Reads (assumption log 7) -/

/-- A byte of a number that little-endian bytes spell. -/
theorem leNat_byte : ∀ (l : List Nat) (i : Nat), leNat l / 256 ^ i % 256 = l.getD i 0 % 256
  | [], i => by simp [leNat]
  | b :: l, 0 => by rw [leNat_cons]; simp
  | b :: l, i + 1 => by
    have hlow : (b % 256 + 256 * leNat l) / 256 = leNat l := by omega
    rw [leNat_cons, Nat.pow_succ', ← Nat.div_div_eq_div_mul, hlow, leNat_byte l i, List.getD_cons_succ]

theorem get_lt_256 : ∀ (m : Cells) (x : Nat), m.get x < 256
  | [], _ => by simp [Cells.get]
  | (b, v) :: t, x => by
    unfold Cells.get
    split
    · exact v.isLt
    · split
      · exact Nat.zero_lt_succ _
      · exact get_lt_256 t x

/-- Bytes taken in order are the bytes that stand there. -/
theorem getD_take : ∀ {m : Cells} {a k i : Nat}, Cells.okFrom a m = true → i < k → (Cells.take m a k).getD i 0 = m.get (a + i)
  | [], a, k + 1, 0, _, _ => rfl
  | [], a, k + 1, i + 1, _, hi => by
    rw [Cells.take, List.getD_cons_succ, getD_take (lo_nil (a + 1)) (Nat.lt_of_succ_lt_succ hi)]
    rfl
  | (b, v) :: t, a, k + 1, i, h, hi => by
    simp only [Cells.okFrom, Bool.and_eq_true, decide_eq_true_eq] at h
    obtain ⟨⟨hab, hv⟩, ht⟩ := h
    by_cases hb : b = a
    · subst hb
      cases i with
      | zero => simp [Cells.take, Cells.get]
      | succ i =>
        rw [Cells.take, if_pos rfl, List.getD_cons_succ, getD_take ht (Nat.lt_of_succ_lt_succ hi), Cells.get, if_neg (by omega), if_neg (by omega)]
        congr 1
        omega
    · have hnext : Cells.okFrom (a + 1) ((b, v) :: t) = true := by
        simp only [Cells.okFrom, Bool.and_eq_true, decide_eq_true_eq]
        exact ⟨⟨by omega, hv⟩, ht⟩
      cases i with
      | zero =>
        rw [Cells.take, if_neg hb, List.getD_cons_zero, Cells.get, if_neg (by omega), if_pos (by omega)]
      | succ i =>
        rw [Cells.take, if_neg hb, List.getD_cons_succ, getD_take hnext (Nat.lt_of_succ_lt_succ hi)]
        congr 1
        omega
where
  lo_nil (a : Nat) : Cells.okFrom a [] = true := rfl

/-- A read gives the bytes that stand there. -/
theorem getD_read {m : Cells} (h : m.wf = true) {a k i : Nat} (hi : i < k) : (m.read a k).getD i 0 = m.get (a + i) :=
  (getD_take (above_okFrom a h) hi).trans (get_above (Nat.le_add_right a i))

/-! ## Writes within the populated ranges (R633) -/

/-- A write that is cut at two bounds changes the bytes between them. -/
theorem get_writeIn {m : Cells} (h : m.wf = true) (lo hi a : Nat) (l : List Nat) (x : Nat) :
    (m.writeIn lo hi a l).get x = if (lo ≤ x ∧ x < hi) ∧ a ≤ x ∧ x < a + l.length then l.getD (x - a) 0 % 256 else m.get x := by
  unfold Cells.writeIn
  simp only
  split
  · rename_i hse
    rw [get_write h]
    have hlen : ((l.drop (max lo a - a)).take (min hi (a + l.length) - max lo a)).length = min hi (a + l.length) - max lo a := by
      rw [List.length_take, List.length_drop]
      omega
    rw [hlen]
    by_cases hx : (lo ≤ x ∧ x < hi) ∧ a ≤ x ∧ x < a + l.length
    · rw [if_pos hx, if_pos (by omega)]
      have hin : x - max lo a < min hi (a + l.length) - max lo a := by omega
      have hat : max lo a - a + (x - max lo a) = x - a := by omega
      rw [List.getD_eq_getElem?_getD, List.getElem?_take_of_lt hin, List.getElem?_drop, hat, List.getD_eq_getElem?_getD]
    · rw [if_neg hx, if_neg (by omega)]
  · rw [if_neg (by omega)]

/-- A write to the memory space changes the populated bytes that it names. -/
theorem get_store {m : Cells} (h : m.wf = true) (a : Nat) (l : List Nat) (x : Nat) :
    (m.store (a, l)).get x = if populated x = true ∧ a ≤ x ∧ x < a + l.length then l.getD (x - a) 0 % 256 else m.get x := by
  rw [Cells.store, get_writeIn (writeIn_wf h _ _ _ _), get_writeIn h]
  have hgap : sramTop < hbmBase := by decide
  simp only [populated, Bool.or_eq_true, Bool.and_eq_true, decide_eq_true_eq]
  grind

/-! ## The aperture (R634) -/

theorem Abl.populated_of_apOk {a : Abl} {x len b : Nat} {write : Bool} (h : a.apOk x len write = true) (hlo : a.apAddr x ≤ b)
    (hhi : b < a.apAddr x + len) : populated b = true := by
  obtain ⟨i, rfl⟩ := Nat.exists_eq_add_of_le hlo
  simp only [Abl.apOk, Bool.and_eq_true, List.all_eq_true, List.mem_range] at h
  have hbyte := h.2 i (by omega)
  simp only [Abl.apByte, Bool.and_eq_true] at hbyte
  exact hbyte.1.1.2

theorem length_padTo_take (len : Nat) (data : List Nat) : (padTo len (data.take len)).length = len := by
  simp only [padTo, List.length_append, List.length_take, zeros, List.length_replicate]
  omega

theorem getD_padTo_take {len i : Nat} (hi : i < len) (data : List Nat) : (padTo len (data.take len)).getD i 0 = data.getD i 0 := by
  simp only [padTo, zeros, List.take_take, Nat.min_self, List.getD_eq_getElem?_getD]
  by_cases hlen : i < data.length
  · rw [List.getElem?_append_left (by simp; omega), List.getElem?_take_of_lt hi]
  · rw [List.getElem?_append_right (by simp; omega), List.getElem?_eq_none (Nat.le_of_not_lt hlen), List.getElem?_replicate]
    split <;> rfl

/-- Settles O49: what a write that is let through names is populated, and a read gives the bytes one by one. -/
theorem apertureReadsBack : Obligations.ApertureReadsBack := by
  unfold Obligations.ApertureReadsBack
  refine ⟨fun s x len data hmem hok => ?_, fun s x len data hmem hok => ?_⟩
  · refine ⟨_, by rw [exec_apertureAccess_write, if_pos hok], store_wf hmem _, fun b => ?_⟩
    rw [get_store hmem, length_padTo_take]
    by_cases hb : s.abl.apAddr x ≤ b ∧ b < s.abl.apAddr x + len
    · rw [if_pos ⟨Abl.populated_of_apOk hok hb.1 hb.2, hb⟩, if_pos hb, getD_padTo_take (by omega)]
    · rw [if_neg fun h => hb h.2, if_neg hb]
  · refine ⟨_, by rw [exec_apertureAccess_read, if_pos hok], fun i hi => ?_⟩
    rw [leNat_byte, getD_read hmem hi, Nat.mod_eq_of_lt (get_lt_256 _ _)]

end Sys2Proof.Machine
end

section
/-!
SUPPORT. What a power-on reset of the sentinel and the cold reset of the DDU leave (R77, R672, R682).
-/

namespace Sys2Proof.Machine

open Safety

/-- The registers that show fuses and the state that they give. -/
def FuseReg (r : RegDef) (i : Nat) : Prop :=
  r.addr i = Reg.ABL_LC_STATE.addr 0 ∨ r.addr i = Reg.ABL_LC_SVN.addr 0 ∨ r.addr i = Reg.ABL_STATUS.addr 0

/-- Every register that shows no fuse is at its reset value, and no message and no command is left. -/
structure Node.PoweredOn (n : Node) : Prop where
  regs : ∀ (q : RegDef) (j : Nat), ¬ FuseReg q j → n.rd q j = q.rst j
  txq : n.txq = []
  posted : n.mb.posted = []

section
variable {n : Node} (h : n.PoweredOn) {r : RegDef} {i : Nat} (hr : FuseReg r i)
include h hr

/-- A write of a register that shows fuses leaves every other register. -/
theorem Node.PoweredOn.wr (v : Nat) : (n.wr r i v).PoweredOn where
  regs q j hq := by
    have hne : r.addr i ≠ q.addr j := fun e => hq (by rwa [FuseReg, ← e])
    exact (rd_wr_ne hne).trans (h.regs q j hq)
  txq := h.txq
  posted := h.posted

theorem Node.PoweredOn.setFld (lo w v : Nat) : (n.setFld r i lo w v).PoweredOn := h.wr hr _

theorem Node.PoweredOn.setB (b : Nat) (v : Bool) : (n.setB r i b v).PoweredOn := h.wr hr _

end

theorem Node.poweredOn_new (dev : Dev) : ({ dev := dev } : Node).PoweredOn := ⟨fun _ _ _ => rfl, rfl, rfl⟩

theorem fuseReg_lcState : FuseReg Reg.ABL_LC_STATE 0 := .inl rfl
theorem fuseReg_lcSvn : FuseReg Reg.ABL_LC_SVN 0 := .inr (.inl rfl)
theorem fuseReg_status : FuseReg Reg.ABL_STATUS 0 := .inr (.inr rfl)

/-- A sentinel as a power-on reset leaves it: no job is left, and the memory is to be cleared. -/
structure Abl.PoweredOn (a : Abl) : Prop where
  node : a.n.PoweredOn
  jobs : a.jobs = []
  wipe : a.wipe = true

theorem Abl.PoweredOn.setSlot {a : Abl} (h : a.PoweredOn) (comp s : Nat) : (a.setSlot comp s).PoweredOn := by
  unfold Abl.setSlot
  split
  · exact ⟨h.node.setFld fuseReg_lcState .., h.jobs, h.wipe⟩
  · exact ⟨h.node.setFld fuseReg_lcState .., h.jobs, h.wipe⟩
  · exact ⟨h.node, h.jobs, h.wipe⟩

theorem Abl.PoweredOn.fwActivate {a : Abl} (h : a.PoweredOn) : a.fwActivate.PoweredOn := by
  have hslots := List.foldlRecOn (a.guard.pending.filter fun k => decide (k < 2)) (fun (a : Abl) k => a.setSlot k (1 - a.slotOf k))
    (motive := Abl.PoweredOn) h fun b hb k _ => hb.setSlot k _
  exact ⟨hslots.node.setB fuseReg_lcState .., hslots.jobs, hslots.wipe⟩

theorem Abl.PoweredOn.fuseRegs {a : Abl} (h : a.PoweredOn) (old : Abl) : (old.fuseRegs a).PoweredOn where
  node := by
    simp only [Abl.fuseRegs, Abl.setLc, Abl.on_n]
    exact ((((h.node.wr fuseReg_lcState _).setB fuseReg_lcState _ _).wr fuseReg_lcSvn _).setFld fuseReg_status _ _ _).setFld fuseReg_lcState _ _ _
  jobs := h.jobs
  wipe := h.wipe

theorem Abl.chipState_poweredOn (a : Abl) : (a.chipState true).PoweredOn :=
  (Abl.PoweredOn.fuseRegs ⟨Node.poweredOn_new .abl, rfl, rfl⟩ a.storeQuiet).fwActivate

theorem Abl.aonFall_poweredOn {a : Abl} (h : a.pins.aonPgood = true) : a.aonFall.PoweredOn := by
  obtain ⟨hnode, hjobs, hwipe⟩ := Abl.chipState_poweredOn a
  simp only [Abl.aonFall, h, Bool.not_true, Bool.false_eq_true, if_false]
  exact ⟨hnode, hjobs, hwipe⟩

/-- In the cold reset of the DDU only DDU_STATUS, which shows a fused lifecycle, is not at its reset value. -/
theorem Ddu.cold_rd (d : Ddu) {q : RegDef} {j : Nat} (h : q.addr j ≠ Reg.DDU_STATUS.addr 0) : d.cold.n.rd q j = q.rst j := by
  unfold Ddu.cold
  cases d.bnd.fused with
  | none => rfl
  | some k => exact rd_wr_ne h.symm

theorem exec_dduResetAssert (s : State) :
    exec .dduResetAssert s = .next { s with ddu := ({ s.ddu with bnd := { s.ddu.bnd with resetN := true } } : Ddu).cold } := rfl

/-- The cold reset empties the queues, and keeps the pin and the ledger's MRAM. -/
theorem Ddu.cold_keeps (d : Ddu) : d.cold.n.txq = [] ∧ d.cold.n.mb.posted = [] ∧ d.cold.bnd.resetN = d.bnd.resetN ∧ d.cold.led.a = d.led.a ∧
    d.cold.led.b = d.led.b := by
  unfold Ddu.cold
  cases d.bnd.fused <;> exact ⟨rfl, rfl, rfl, rfl, rfl⟩

/-- Settles O57: by what a power-on reset and a cold reset leave. -/
theorem powerOnResetClears : Obligations.PowerOnResetClears := by
  unfold Obligations.PowerOnResetClears
  refine ⟨fun s hgood => ?_, fun s => ?_⟩
  · obtain ⟨⟨hregs, htxq, hposted⟩, hjobs, hwipe⟩ := Abl.aonFall_poweredOn hgood
    refine ⟨s.abl.aonFall, rfl, fun q j hstate hsvn hstatus => hregs q j ?_, htxq, hposted, hjobs, hwipe⟩
    rintro (hq | hq | hq)
    exacts [hstate hq, hsvn hq, hstatus hq]
  · obtain ⟨htxq, hposted, hpin, ha, hb⟩ := Ddu.cold_keeps { s.ddu with bnd := { s.ddu.bnd with resetN := true } }
    exact ⟨_, exec_dduResetAssert s, fun q j hq => Ddu.cold_rd _ hq, htxq, hposted, hpin, ha, hb, rfl, rfl⟩

end Sys2Proof.Machine
end

section
/-!
SUPPORT. The service of a catalogue command (R598 to R601): it is not next, the common checks refuse it, or its own rules answer it.
-/

namespace Sys2Proof.Machine

open Safety

/-! ## The ways of a command at the sentinel -/

section
variable {s : State} {c : Cmd} {code : Nat} {p : PostedX}

theorem ablCmd_of_unpicked (h : s.abl.n.pick c code = none) (f : Abl → Abl × Ans) : ablCmd s c code f = .next (s.settleAbl s.abl) :=
  onAbl_eq_next (f := fun a => a.serve c code f) (by simp only [Abl.serve, h])

theorem ablCmd_of_early {r : Ans} (h : s.abl.n.pick c code = some p) (hearly : s.abl.n.early c = some r) (f : Abl → Abl × Ans) :
    ablCmd s c code f = .next (replied s p s.abl r) :=
  onAbl_eq_next (f := fun a => a.serve c code f) (by simp only [Abl.serve, h, hearly])

/-- A command that the common checks let through gets the answer of its own rules. -/
theorem ablCmd_of_serving (h : Serving s.abl.n c code p) {f : Abl → Abl × Ans} {a : Abl} {r : Ans} (hf : f s.abl = (a, r)) :
    ablCmd s c code f = .next (replied s p a r) :=
  onAbl_eq_next (f := fun a => a.serve c code f) (by simp only [Abl.serve, h.1, h.2, hf])

/-! ## The ways of a command at the DDU -/

theorem dduCmd_of_unpicked (h : s.ddu.n.pick c code = none) (f : Ddu → Ddu × Ans) : dduCmd s c code f = .next (s.settleDdu s.ddu) :=
  onDdu_eq_next (f := fun d => d.serve c code f) (by simp only [Ddu.serve, h])

theorem dduCmd_of_early {r : Ans} (h : s.ddu.n.pick c code = some p) (hearly : s.ddu.n.early c = some r) (f : Ddu → Ddu × Ans) :
    dduCmd s c code f = .next (repliedDdu s p s.ddu r) :=
  onDdu_eq_next (f := fun d => d.serve c code f) (by simp only [Ddu.serve, h, hearly])

theorem dduCmd_of_serving (h : Serving s.ddu.n c code p) {f : Ddu → Ddu × Ans} {d : Ddu} {r : Ans} (hf : f s.ddu = (d, r)) :
    dduCmd s c code f = .next (repliedDdu s p d r) :=
  onDdu_eq_next (f := fun d => d.serve c code f) (by simp only [Ddu.serve, h.1, h.2, hf])

end

/-! ## The ways of a command at the device of its path -/

/-- What a command makes of the part that both devices have. -/
theorem onNode_eq_settled {s : State} {dev : Dev} {f : Node → Node} {n : Node} (h : f (part s dev) = n) :
    onNode dev s f = .next (settled s dev n) := by
  subst h
  cases dev <;> rfl

theorem bothCmd_of_serving {s : State} {c : Cmd} {code : Nat} {p : PostedX} {dev : Dev} (hpath : pathDev c.path = dev)
    (h : Serving (part s dev) c code p) {f : Node → Node × Ans} {n : Node} {r : Ans} (hf : f (part s dev) = (n, r)) :
    bothCmd s c code f = .next (settled s dev (n.answer p r)) := by
  rw [bothCmd, hpath]
  exact onNode_eq_settled (by simp only [Node.serve, h.1, h.2, hf])

/-! ## The rows of the catalogue -/

/-- The rows that the sentinel serves by the code alone. -/
noncomputable def ablRows (c : Cmd) : List (Instr × Nat) :=
  [(.stageOpen c, 0x0010), (.stageWrite c, 0x0011), (.stageClose c, 0x0012), (.stageRead c, 0x0013),
   (.stageFree c, 0x0014), (.timeConfig c, 0x0101), (.timeAcceptJump c, 0x0102), (.snapAt c, 0x0103), (.ppsConfig c, 0x0104), (.setTrayBudget c, 0x0201),
   (.setPowerState c, 0x0202), (.setSelfLimits c, 0x0203), (.setParents c, 0x0301), (.returnToPrimary c, 0x0302), (.setChild c, 0x0303), (.setRing c, 0x0304),
   (.setRole c, 0x0305), (.faultClear c, 0x0401), (.restoreSource c, 0x0402), (.faultConfig c, 0x0403), (.inject c, 0x0404), (.gateFail c, 0x0405),
   (.bwConfig c, 0x0501), (.bwReport c, 0x0502), (.bwOverride c, 0x0503), (.jobStart c, 0x0601), (.jobEnd c, 0x0602), (.groupRegister c, 0x0603),
   (.groupRelease c, 0x0604), (.rankmapLoad c, 0x0605), (.metLoad c, 0x0606), (.uschSet c, 0x0607), (.modelUnload c, 0x0702), (.modelBind c, 0x0703),
   (.progUnload c, 0x0802), (.ctxBind c, 0x0803), (.ctxUnbind c, 0x0804), (.gridSweep c, 0x0805), (.verdictConfig c, 0x0901), (.campaignStart c, 0x0902),
   (.secPolicy c, 0x0A01), (.restore c, 0x0A02), (.restoreLoaded c, 0x0A03), (.ledgerCompact c, 0x0B01), (.ledgerExport c, 0x0B02),
   (.ledgerFormatCommit c, 0x0B03), (.ledgerQuery c, 0x0B04), (.traceExport c, 0x0C01), (.traceTrigger c, 0x0C02), (.profileEnable c, 0x0C03),
   (.profileDisable c, 0x0C04), (.attest c, 0x0D01), (.debugOpen c, 0x0D03), (.debugClose c, 0x0D04)]

theorem exec_of_mem_ablRows {c : Cmd} {x : Instr × Nat} (h : x ∈ ablRows c) (s : State) : ∃ f, exec x.1 s = ablCmd s c x.2 f := by
  fin_cases h <;> exact ⟨_, rfl⟩

/-- The rows that the DDU serves by the code alone. -/
noncomputable def dduRows (c : Cmd) : List (Instr × Nat) :=
  [(.dieIdent c, 0x1001), (.dieRegWrite c, 0x1002), (.dieCap c, 0x1003), (.dieSlack c, 0x1004), (.dieSuspect c, 0x1005), (.dieProfile c, 0x1006),
   (.dieSecCut c, 0x1007), (.dieSecCommit c, 0x1008), (.dieRepeat c, 0x100C), (.dieCampaign c, 0x100D), (.dieQuery c, 0x1201)]

theorem exec_of_mem_dduRows {c : Cmd} {x : Instr × Nat} (h : x ∈ dduRows c) (s : State) : ∃ f, exec x.1 s = dduCmd s c x.2 f := by
  fin_cases h <;> exact ⟨_, rfl⟩

/-- Settles O33: every row serves its command in the same way. -/
theorem catalogueChecksComplete : Obligations.CatalogueChecksComplete := by
  unfold Obligations.CatalogueChecksComplete
  refine ⟨fun s c i code hrow => ?_, fun s c i code hrow => ?_⟩
  · obtain ⟨f, hexec⟩ := exec_of_mem_ablRows (x := (i, code)) hrow s
    rw [hexec]
    exact ⟨fun hpick => ablCmd_of_unpicked hpick f, fun p r hpick hearly => ablCmd_of_early hpick hearly f⟩
  · obtain ⟨f, hexec⟩ := exec_of_mem_dduRows (x := (i, code)) hrow s
    rw [hexec]
    exact ⟨fun hpick => dduCmd_of_unpicked hpick f, fun p r hpick hearly => dduCmd_of_early hpick hearly f⟩

end Sys2Proof.Machine
end

section
/-!
SUPPORT. The general commands of the catalogue (R604, R606, R607, R609, R613 to R615, R617 to R619), one lemma for each way that a command goes.
-/

namespace Sys2Proof.Machine

open Safety

/-! ## Negotiation (R606, R607) -/

/-- HELLO of the major version that the firmware supports. -/
theorem Node.hello_of_supported {n : Node} {c : Cmd} (h : c.p 0 2 = 1) :
    n.hello c = ((n.wr (negReg n.dev) (negIdx c.path) (281474976710656 + c.p 5 1 % 16 * 256 + 128 + pathAuthority c.path)).wr (featReg n.dev)
      (negIdx c.path) (c.p 8 32 &&& pathFeatures c.path),
      { data := le 2 1 ++ le 2 0 ++ [pathAuthority c.path, pathMailboxes c.path] ++ le 2 1984 ++ le 32 (c.p 8 32 &&& pathFeatures c.path) }) :=
  if_pos h

theorem Node.hello_of_unsupported {n : Node} {c : Cmd} (h : c.p 0 2 ≠ 1) :
    n.hello c = ((n.wr (negReg n.dev) (negIdx c.path) 0).wr (featReg n.dev) (negIdx c.path) 0,
      { status := stUnsupported, data := [1, 0, 0, 0] ++ le 2 1 ++ le 2 0 }) := if_neg h

/-! ## Long operations (R617, R618) -/

/-- OP_SUSPEND, OP_RESUME and OP_CANCEL with their codes. -/
noncomputable def opRows (c : Cmd) : List (Instr × Nat × Nat) := [(.opSuspend c, 0x0004, 0), (.opResume c, 0x0005, 1), (.opCancel c, 0x0006, 2)]

theorem exec_of_mem_opRows {c : Cmd} {x : Instr × Nat × Nat} (h : x ∈ opRows c) (s : State) : exec x.1 s = opRow c x.2.1 x.2.2 s := by
  fin_cases h <;> rfl

theorem opRow_abl {c : Cmd} (h : pathDev c.path = .abl) (code what : Nat) (s : State) :
    opRow c code what s = ablCmd s c code fun a => a.opCommand c what := by rw [opRow, h]

theorem opRow_ddu {c : Cmd} (h : pathDev c.path = .ddu) (code what : Nat) (s : State) :
    opRow c code what s = dduCmd s c code fun d => d.opCommand c what := by rw [opRow, h]

theorem Abl.opCommand_of_early {a : Abl} {c : Cmd} {what : Nat} {r : Ans} (h : a.n.opEarly c what = some r) : a.opCommand c what = (a, r) := by
  simp only [Abl.opCommand, h]

theorem Ddu.opCommand_of_early {d : Ddu} {c : Cmd} {what : Nat} {r : Ans} (h : d.n.opEarly c what = some r) : d.opCommand c what = (d, r) := by
  simp only [Ddu.opCommand, h]

/-- An operation that takes what the command asks. -/
theorem Abl.opCommand_of_taken {a b : Abl} {c : Cmd} {what : Nat} {x : OpX} (hearly : a.n.opEarly c what = none) (hop : a.n.op (c.p 0 4) = some x)
    (hact : a.opAct x what = (b, true)) : a.opCommand c what = (b, {}) := by simp only [Abl.opCommand, hearly, hop, hact, Bool.true_or, if_true]

/-- What decides before the operation's own rules is answered on either device. -/
theorem opRow_of_early {s : State} {dev : Dev} {c : Cmd} {code what : Nat} {p : PostedX} {r : Ans} (hpath : pathDev c.path = dev)
    (h : Serving (part s dev) c code p) (hearly : (part s dev).opEarly c what = some r) :
    opRow c code what s = .next (settled s dev ((part s dev).answer p r)) := by
  cases dev with
  | ddu => exact (opRow_ddu hpath ..).trans (dduCmd_of_serving h (Ddu.opCommand_of_early hearly))
  | abl => exact (opRow_abl hpath ..).trans (ablCmd_of_serving h (Abl.opCommand_of_early hearly))

/-! ## Events (R613) -/

/-- EVENT_ACK on Ethernet is cumulative. -/
theorem Node.evAck_of_ethernet {n : Node} {c : Cmd} (h : c.path = 2) :
    n.evAck c = ((n.setEv 2 { n.ev 2 with sent := (n.ev 2).sent.filter fun (x : Nat × Nat × Record) => decide (0 < dist32 x.1 (c.p 0 4)) }).evRefill 2,
      {}) := if_neg (not_not.2 h)

/-! ## Staged objects (R615, R619) -/

section
variable {a : Abl} {c : Cmd}

/-- The first object to be staged. -/
theorem Abl.stageOpen_of_first {b : Abl} {x : StageX} (hpos : 0 < c.p 0 8) (hmax : c.p 0 8 ≤ 268435456) (hnone : a.n.mb.stages = [])
    (hx : x = { id := a.n.mb.nextStage, addr := Config.objectAddr a.n.mb.nextStage (c.p 0 8), len := c.p 0 8, touched := a.n.local })
    (hb : b = a.on fun n => (n.setMb { n.mb with nextStage := (a.n.mb.nextStage + 1) % 4294967296 }).putStage x) :
    a.stageOpen c = ((b.grantOpen x.addr x.len c.jobtag true).domDemand 4, { data := le 4 x.id }) := by
  subst hx hb
  have hroom : ¬ 2 ^ 28 < leAt c.params 0 8 := Nat.not_lt.2 hmax
  have hspace : ¬ 2 ^ 30 < leAt c.params 0 8 := fun h => hroom (Nat.lt_trans (by decide) h)
  have hlen : leAt c.params 0 8 ≠ 0 := Nat.ne_of_gt hpos
  simp only [Abl.stageOpen, hlen, hroom, hnone, List.map_nil, List.sum_nil, List.length_nil, Nat.zero_add, hspace, decide_false, Bool.or_false,
    if_false, Nat.reduceLeDiff]
  rfl

section
variable {x : StageX} (hx : a.n.stage (c.p 0 4) = some x)
include hx

theorem Abl.stageWrite_of_open (hdata : c.params.drop 16 ≠ []) (hopen : x.closed = false) (hlen : c.p 8 8 + (c.params.drop 16).length ≤ x.len) :
    a.stageWrite c = ({ (a.on fun n => n.putStage x) with out := a.out ++ [(x.addr + c.p 8 8, c.params.drop 16)] }, {}) := by
  have hfits : ¬ x.len < leAt c.params 8 8 + (c.params.drop 16).length := Nat.not_lt.2 hlen
  rw [Cmd.p] at hx
  simp only [Abl.stageWrite, List.isEmpty_eq_false_iff.2 hdata, hx, hopen, hfits, Bool.false_eq_true, decide_false, Bool.or_self, if_false]
  rfl

theorem Abl.stageClose_of_match {bytes : StageX → List Nat} (hcrc : crc32c (bytes x) = c.p 4 4) :
    a.stageClose c bytes = (a.on fun n => n.putStage { x with closed := true }, {}) := by
  rw [Cmd.p] at hx
  simp only [Abl.stageClose, hx]
  exact if_neg (not_not.2 hcrc)

theorem Abl.stageClose_of_mismatch {bytes : StageX → List Nat} (hcrc : crc32c (bytes x) ≠ c.p 4 4) :
    a.stageClose c bytes = (a.on fun n => n.putStage x, Ans.of stBad) := by
  rw [Cmd.p] at hx
  simp only [Abl.stageClose, hx]
  exact if_pos hcrc

theorem Abl.stageRead_of_inside {bytes : StageX → List Nat} (hpos : 0 < c.p 16 4) (hmax : c.p 16 4 ≤ 1984) (hlen : c.p 8 8 + c.p 16 4 ≤ x.len) :
    a.stageRead c bytes = (a.on fun n => n.putStage x, { data := ((bytes x).drop (c.p 8 8)).take (c.p 16 4) }) := by
  simp only [Cmd.p] at hx hpos hmax hlen ⊢
  simp only [Abl.stageRead, Nat.ne_of_gt hpos, hx, Nat.not_lt.2 hmax, Nat.not_lt.2 hlen, decide_false, Bool.or_self, Bool.false_eq_true, if_false]

theorem Abl.stageDrop_of_staged : a.stageDrop c = (a.stageFree x, {}) := by simp only [Abl.stageDrop, hx]

end

section
variable (hnone : a.n.mb.stages = [])
include hnone

/-- A command that names an object has BAD_PARAMETER where none is staged. -/
theorem Node.stage_of_none (id : Nat) : a.n.stage id = none := by simp only [Node.stage, hnone, List.find?_nil]

theorem Abl.stageWrite_of_none (hdata : c.params.drop 16 ≠ []) : a.stageWrite c = (a, Ans.of stBad) := by
  simp only [Abl.stageWrite, List.isEmpty_eq_false_iff.2 hdata, Node.stage_of_none hnone, Bool.false_eq_true, if_false]

theorem Abl.stageClose_of_none (bytes : StageX → List Nat) : a.stageClose c bytes = (a, Ans.of stBad) := by
  simp only [Abl.stageClose, Node.stage_of_none hnone]

theorem Abl.stageRead_of_none (hlen : c.p 16 4 ≠ 0) (bytes : StageX → List Nat) : a.stageRead c bytes = (a, Ans.of stBad) := by
  rw [Cmd.p] at hlen
  simp only [Abl.stageRead, hlen, Node.stage_of_none hnone, if_false]

theorem Abl.stageDrop_of_none : a.stageDrop c = (a, Ans.of stBad) := by simp only [Abl.stageDrop, Node.stage_of_none hnone]

end
end

/-- Settles O34: each command by the answer of its own rules. -/
theorem generalCatalogueComplete : Obligations.GeneralCatalogueComplete := by
  unfold Obligations.GeneralCatalogueComplete
  refine ⟨?_, ?_, ?_, ?_, ?_, ?_, ?_, ?_, ?_, ?_, ?_, ?_, ?_, ?_, ?_⟩
  · intro s dev c p hpath hserve hdev hmajor
    exact bothCmd_of_serving hpath hserve (f := fun n => n.hello c) ((Node.hello_of_supported hmajor).trans (by rw [hdev]))
  · intro s dev c p hpath hserve hdev hmajor
    exact bothCmd_of_serving hpath hserve (f := fun n => n.hello c) ((Node.hello_of_unsupported hmajor).trans (by rw [hdev]))
  · intro s dev c p hpath hserve hscope
    exact bothCmd_of_serving hpath hserve (f := fun n => (n, if 3 < c.p 0 1 then Ans.of stBad else {})) (by rw [if_neg (Nat.not_lt.2 hscope)])
  · intro s dev c p x hpath hserve hop
    exact bothCmd_of_serving hpath hserve (f := fun n => (n, n.opQuery c)) (by rw [Cmd.p] at hop; simp only [Node.opQuery, hop])
  · intro s c p x b i code what hrow hpath hserve hearly hop hact
    rw [exec_of_mem_opRows (x := (i, code, what)) hrow, opRow_abl hpath]
    exact ablCmd_of_serving hserve (Abl.opCommand_of_taken hearly hop hact)
  · intro s dev c p r i code what hrow hpath hserve hearly
    rw [exec_of_mem_opRows (x := (i, code, what)) hrow]
    exact opRow_of_early hpath hserve hearly
  · intro s c p hserve hpath
    exact ablCmd_of_serving hserve (f := fun a => (a.on fun _ => (a.n.evAck c).1, (a.n.evAck c).2)) (by rw [Node.evAck_of_ethernet hpath]; rfl)
  · intro s dev c p hpath hserve
    exact bothCmd_of_serving hpath hserve (f := fun n => (n, n.getInfo c)) rfl
  · intro s c p x a hserve hpos hmax hnone hx ha
    exact ablCmd_of_serving hserve (f := fun a => a.stageOpen c) (Abl.stageOpen_of_first hpos hmax hnone hx ha)
  · intro s c p x hserve hdata hx hopen hlen
    exact ablCmd_of_serving hserve (f := fun a => a.stageWrite c) (Abl.stageWrite_of_open hx hdata hopen hlen)
  · intro s c p x hserve hx hcrc
    exact ablCmd_of_serving hserve (f := fun a => a.stageClose c (stagedBytes s)) (Abl.stageClose_of_match hx hcrc)
  · intro s c p x hserve hx hcrc
    exact ablCmd_of_serving hserve (f := fun a => a.stageClose c (stagedBytes s)) (Abl.stageClose_of_mismatch hx hcrc)
  · intro s c p x hserve hpos hmax hx hlen
    exact ablCmd_of_serving hserve (f := fun a => a.stageRead c (stagedBytes s)) (Abl.stageRead_of_inside hx hpos hmax hlen)
  · intro s c p x hserve hx
    exact ablCmd_of_serving hserve (f := fun a => a.stageDrop c) (Abl.stageDrop_of_staged hx)
  · intro s c p hnone hlen hdata
    refine ⟨fun hserve => ?_, fun hserve => ?_, fun hserve => ?_, fun hserve => ?_⟩
    · exact ablCmd_of_serving hserve (f := fun a => a.stageWrite c) (Abl.stageWrite_of_none hnone hdata)
    · exact ablCmd_of_serving hserve (f := fun a => a.stageClose c (stagedBytes s)) (Abl.stageClose_of_none hnone _)
    · exact ablCmd_of_serving hserve (f := fun a => a.stageRead c (stagedBytes s)) (Abl.stageRead_of_none hnone hlen _)
    · exact ablCmd_of_serving hserve (f := fun a => a.stageDrop c) (Abl.stageDrop_of_none hnone)

end Sys2Proof.Machine
end

section
/-!
SUPPORT. The commands of the die's checker and of the Snoop DMA (R384, R388 to R390, R392, R405), one lemma for each way that a command goes.
-/

namespace Sys2Proof.Machine

/-! ## The temperature edges (R405) -/

/-- The edges that a write would leave. -/
def Ddu.edgeAfter (d : Ddu) (i v j : Nat) : Int := toInt 16 (if j = i then v else d.rd Reg.DDU_CELL_TEDGE j)

/-- A write that keeps the edges rising is taken. -/
theorem Ddu.tedgeWrite_of_rising {d : Ddu} {i v : Nat} (h : ∀ j, j < 6 → d.edgeAfter i v j < d.edgeAfter i v (j + 1)) :
    d.tedgeWrite i v = d.wr Reg.DDU_CELL_TEDGE i (v % 65536) :=
  if_pos (by simpa only [List.all_eq_true, List.mem_range, decide_eq_true_eq, Ddu.edgeAfter] using h)

theorem Ddu.tedgeWrite_of_not_rising {d : Ddu} {i v j : Nat} (hj : j < 6) (h : ¬ d.edgeAfter i v j < d.edgeAfter i v (j + 1)) :
    d.tedgeWrite i v = d.bump Reg.DDU_ACCESS_DENIED :=
  if_neg (by simpa only [List.all_eq_true, List.mem_range, decide_eq_true_eq, not_forall] using ⟨j, hj, h⟩)

/-! ## Posting a tile (R388) -/

theorem Ddu.snoopPost_of_off {d : Ddu} (h : d.n.bit Reg.DDU_SNOOP_CTRL 0 31 = false) (k : Nat) :
    d.snoopPost k = d.bump Reg.DDU_SNOOP_REFUSED := by simp [Ddu.snoopPost, h]

/-- A selected tile whose ranges lie in the windows is posted, in the condition cell of its report. -/
theorem Ddu.snoopPost_of_reported {d e : Ddu} {k v a : Nat} {x : TileX} (hv : v = e.rd Reg.DDU_SNOOP_SLOT k)
    (hon : e.n.bit Reg.DDU_SNOOP_CTRL 0 31 = true) (hfree : e.n.bit Reg.DDU_SNOOP_PEND 0 k = false) (hreset : e.n.bit Reg.DDU_SUBRESET 0 7 = false)
    (htag : slotTag v = e.jobTag) (hattempt : e.attemptOf (slotEpoch v) = some a)
    (hsel : e.selected (slotEpoch v) (slotTile v) (slotUnit v) = true)
    (hwin : ∀ r, r < 4 → slotLen v r ≠ 0 → e.inWindow (slotAddr v r) (slotLen v r) = true)
    (hrep : (e.chk.ep (slotEpoch v) a).tiles.find? (fun x => x.tile == slotTile v && x.rep) = some x)
    (hd : d = (e.on fun n => n.setB Reg.DDU_SNOOP_PEND 0 k true).fastStart) :
    e.snoopPost k = ({ d with chk := { d.chk with slots := d.chk.slots ++ [{ slot := k, val := v, attempt := a, cell := x.cell }] } } : Ddu).onEp
      (slotEpoch v) a fun x => ({ x with snooped := x.snooped + 1 } : EpochX).onTile (slotTile v) fun y => { y with posted := true } := by
  have hranges : ((List.range 4).any fun r => slotLen v r != 0 && !e.inWindow (slotAddr v r) (slotLen v r)) = false := by
    simpa only [List.any_eq_false, List.mem_range, Bool.and_eq_true, bne_iff_ne, Bool.not_eq_true', not_and, Bool.not_eq_false] using hwin
  subst hd
  simp only [Ddu.snoopPost, ← hv, hon, hfree, hreset, htag, hattempt, hsel, hranges, hrep, Bool.not_true, Bool.or_self, Bool.false_eq_true,
    ne_eq, not_true_eq_false, if_false]

/-! ## Serving a slot (R389, R390, R392) -/

/-- The ranges of a slot, and those of them that are read: the ones before the first that no window holds. -/
def slotRanges (v : Nat) : List Nat := (List.range 4).filter fun r => slotLen v r != 0
def Ddu.slotReads (d : Ddu) (v : Nat) : List Nat := (slotRanges v).takeWhile fun r => d.inWindow (slotAddr v r) (slotLen v r)

/-- What the fabric answers for a range, cut or padded to its length; an empty range has no bytes. -/
def sectionData (v : Nat) (data : List (List Nat)) (r : Nat) : List Nat := padTo (slotLen v r) (data.getD r [])
def sectionBytes (v : Nat) (data : List (List Nat)) (r : Nat) : List Nat := if slotLen v r = 0 then [] else sectionData v data r

/-- The DDU after the reads of a slot. -/
def Ddu.slotSent (d : Ddu) (x : SnoopX) (data : List (List Nat)) (rs : List Nat) : Ddu :=
  rs.foldl (fun d r => (d.snoopRead (slotLen x.val r)).sendSection x r (sectionData x.val data r)) d

section
variable {d : Ddu} {x : SnoopX} {rest : List SnoopX} (hslots : d.chk.slots = x :: rest) (hserved : x.served = false)
  (hqueue : d.fb.queue = []) (hup : d.n.bit Reg.DDU_STATUS 0 2 = true) (hrate : d.n.fld Reg.DDU_FABRIC_RATE 0 0 16 ≠ 0)
include hslots hserved hqueue hup hrate

theorem Ddu.snoopServe_eq (data : List (List Nat)) : d.snoopServe data =
    if (d.slotReads x.val).length < (slotRanges x.val).length then (d.slotSent x data (d.slotReads x.val)).fabricViolation.snoopDrop x 2
    else { d.slotSent x data (d.slotReads x.val) with chk := { (d.slotSent x data (d.slotReads x.val)).chk with slots :=
      { x with served := true, lens := (List.range 4).map fun r => (sectionBytes x.val data r).length,
               crcs := (List.range 4).map fun r => crc32c (sectionBytes x.val data r) } :: rest } } := by
  have hon : d.fabricOn = true := by simp [Ddu.fabricOn, hup, hrate]
  simp only [Ddu.snoopServe, hslots, hserved, hon, hqueue, List.isEmpty_nil, Bool.not_true, Bool.or_self, Bool.false_eq_true, if_false]
  rfl

/-- A slot with no range is served at once. -/
theorem Ddu.snoopServe_of_empty (hlen : ∀ r, r < 4 → slotLen x.val r = 0) (data : List (List Nat)) :
    d.snoopServe data = { d with chk := { d.chk with
      slots := { x with served := true, lens := [0, 0, 0, 0], crcs := [crc32c [], crc32c [], crc32c [], crc32c []] } :: rest } } := by
  have hranges : slotRanges x.val = [] := by
    simp only [slotRanges, List.filter_eq_nil_iff, List.mem_range]
    exact fun r hr => by simp [hlen r hr]
  have hreads : d.slotReads x.val = [] := by rw [Ddu.slotReads, hranges, List.takeWhile_nil]
  have hbytes : ∀ r ∈ List.range 4, sectionBytes x.val data r = [] := fun r hr => if_pos (hlen r (List.mem_range.1 hr))
  have hmap {α : Type} (f : List Nat → α) : ((List.range 4).map fun r => f (sectionBytes x.val data r)) = List.replicate 4 (f []) := by
    rw [List.map_congr_left fun r hr => congrArg f (hbytes r hr), List.map_const', List.length_range]
  rw [Ddu.snoopServe_eq hslots hserved hqueue hup hrate, hreads, hranges, if_neg (Nat.lt_irrefl _), hmap List.length, hmap crc32c, Ddu.slotSent,
    List.foldl_nil]
  rfl

/-- A slot whose four ranges lie in the windows is read whole. -/
theorem Ddu.snoopServe_of_windows (hin : ∀ r, r < 4 → slotLen x.val r ≠ 0 ∧ d.inWindow (slotAddr x.val r) (slotLen x.val r) = true)
    (data : List (List Nat)) :
    d.snoopServe data = { d.slotSent x data (List.range 4) with chk := { (d.slotSent x data (List.range 4)).chk with
      slots := { x with served := true, lens := (List.range 4).map fun r => (sectionData x.val data r).length,
                        crcs := (List.range 4).map fun r => crc32c (sectionData x.val data r) } :: rest } } := by
  have hranges : slotRanges x.val = List.range 4 :=
    List.filter_eq_self.2 fun r hr => by simpa using (hin r (List.mem_range.1 hr)).1
  have hreads : d.slotReads x.val = List.range 4 := by
    rw [Ddu.slotReads, hranges]
    exact List.takeWhile_eq_self_iff.2 fun r hr => (hin r (List.mem_range.1 hr)).2
  have hbytes : ∀ r ∈ List.range 4, sectionBytes x.val data r = sectionData x.val data r :=
    fun r hr => if_neg (hin r (List.mem_range.1 hr)).1
  have hmap {α : Type} (f : List Nat → α) : ((List.range 4).map fun r => f (sectionBytes x.val data r)) =
      (List.range 4).map fun r => f (sectionData x.val data r) := List.map_congr_left fun r hr => congrArg f (hbytes r hr)
  rw [Ddu.snoopServe_eq hslots hserved hqueue hup hrate, hreads, hranges, if_neg (Nat.lt_irrefl _), hmap List.length, hmap crc32c]

/-- A slot whose only range lies in no window is dropped as a violation (R57). -/
theorem Ddu.snoopServe_of_violation (hlen : slotLen x.val 0 ≠ 0) (h1 : slotLen x.val 1 = 0) (h2 : slotLen x.val 2 = 0) (h3 : slotLen x.val 3 = 0)
    (hout : d.inWindow (slotAddr x.val 0) (slotLen x.val 0) = false) (data : List (List Nat)) :
    d.snoopServe data = d.fabricViolation.snoopDrop x 2 := by
  have hranges : slotRanges x.val = [0] := by
    rw [slotRanges, show List.range 4 = [0, 1, 2, 3] from rfl]
    simp [hlen, h1, h2, h3]
  have hreads : d.slotReads x.val = [] := by rw [Ddu.slotReads, hranges, List.takeWhile_cons_of_neg (by simp [hout])]
  rw [Ddu.snoopServe_eq hslots hserved hqueue hup hrate, hreads, hranges, if_pos (by decide), Ddu.slotSent, List.foldl_nil]

end

/-- A served slot ends with the header of its bundle. -/
theorem Ddu.snoopComplete_of_served {d e : Ddu} {x : SnoopX} {rest : List SnoopX} (hslots : d.chk.slots = x :: rest) (hserved : x.served = true)
    (he : e = ((d.snoopFree x).on fun n => n.postUp (slotTag x.val) 5 0x18 0x0001 503
      (snoopBytes x.val 0xFF 1 x.cell x.attempt 0 ((d.snoopFree x).snoopHeader x))).sentNote (slotEpoch x.val) x.attempt) :
    d.snoopComplete = e.wr Reg.DDU_SNOOP_SENT 0 (e.rd Reg.DDU_SNOOP_SENT + 1) := by
  subst he
  simp only [Ddu.snoopComplete, hslots, hserved, Bool.not_true, Bool.false_eq_true, if_false]

/-- Settles O20: each command by what the checker or the Snoop DMA does. -/
theorem snoopCommandsComplete : Obligations.SnoopCommandsComplete := by
  unfold Obligations.SnoopCommandsComplete
  refine ⟨?_, ?_, ?_, ?_, ?_, ?_, ?_, ?_, ?_⟩
  · intro s who d hmay
    exact dduFast_of_may hmay fun d => d.wr Reg.DDU_CHK_LAST 0 0
  · intro s who i v d hmay hrising
    rw [← Ddu.tedgeWrite_of_rising hrising]
    exact dduFast_of_may hmay fun d => d.tedgeWrite i v
  · intro s who i v j d hmay hj hfalls
    rw [← Ddu.tedgeWrite_of_not_rising hj hfalls]
    exact dduFast_of_may hmay fun d => d.tedgeWrite i v
  · intro s who k d hmay hoff
    rw [← Ddu.snoopPost_of_off hoff k]
    exact dduFast_of_may hmay fun d => d.snoopPost k
  · intro s who k v a cell x d e hmay hv hon hfree hreset htag hattempt hsel hwin hrep hcell hd
    subst hcell
    rw [← Ddu.snoopPost_of_reported hv hon hfree hreset htag hattempt hsel hwin hrep hd]
    exact dduFast_of_may hmay fun d => d.snoopPost k
  · intro s data x rest hslots hserved hqueue hup hrate hlen
    exact onDdu_eq_next (f := fun d => d.snoopServe data) (Ddu.snoopServe_of_empty hslots hserved hqueue hup hrate hlen data)
  · intro s data x rest sec d hslots hserved hqueue hup hrate hin hsec hd
    subst hsec hd
    exact onDdu_eq_next (f := fun d => d.snoopServe data) (Ddu.snoopServe_of_windows hslots hserved hqueue hup hrate hin data)
  · intro s data x rest hslots hserved hqueue hup hrate hlen h1 h2 h3 hout
    exact onDdu_eq_next (f := fun d => d.snoopServe data) (Ddu.snoopServe_of_violation hslots hserved hqueue hup hrate hlen h1 h2 h3 hout data)
  · intro s x rest d hslots hserved hd
    exact onDdu_eq_next (f := Ddu.snoopComplete) (Ddu.snoopComplete_of_served hslots hserved hd)

end Sys2Proof.Machine
end

section
/-!
SUPPORT. A failure that is signed already when it is classified (R406, R418).
-/

namespace Sys2Proof.Machine

open Safety

/-- An UNVERIFIED failure that t_CLASS has signed: it waits for nothing, and its classification drops it. -/
def signedFail : FailX := { id := 0, kind := 3, jobtag := 0, epoch := 0, attempt := 0, die := 0, time := 0, began := 0, signed := true }

/-- A sentinel with that failure alone, on which a rate limit without tokens holds FAILURE_SIGNATURE back (R147), so that a signature leaves
nothing in hand. -/
def signedState : State :=
  { ddu := { n := { dev := .ddu } }
    abl := { n := ({ dev := .abl } : Node).wr (Reg.REC_RL .abl) 0 (2 ^ 63 + 0x18 * 2 ^ 48 + 0x0007 * 2 ^ 32), ver := { fails := [signedFail] } } }

/-- That sentinel without the failure. -/
def Abl.withoutFail (a : Abl) (f : FailX) : Abl := a.onVer fun v => { v with fails := v.fails.filter fun g => g.id != f.id }

/-- What a quiet sentinel numbers its next signature with is as the command leaves it. -/
theorem settleAbl_sigSeq {s : State} {a : Abl} (hquiet : QuietAbl a) (hout : a.out = []) (hwipe : a.wipe = false)
    (hpwr : a.n.pwrState = s.abl.n.pwrState) (hsrc : a.n.srcSel ≠ 3) : (s.settleAbl a).abl.ver.sigSeq = a.ver.sigSeq := by
  rw [quietDevicesOweNothing.2 s a hquiet hout hwipe hpwr (.inl hsrc)]
  rfl

/-- The model signs such a failure no second time. -/
theorem sigSeq_of_classify : (signedState.settleAbl signedState.abl.classify).abl.ver.sigSeq = 0 := by
  have hdrop : signedState.abl.classify = signedState.abl.withoutFail signedFail := rfl
  rw [hdrop]
  exact settleAbl_sigSeq (a := signedState.abl.withoutFail signedFail) (by decide +kernel) rfl rfl rfl (by decide +kernel)

/-- A second signature would take the next number. -/
theorem sigSeq_of_second_signature :
    (signedState.settleAbl ((signedState.abl.sign { signedFail with locus := signedFail.locusOf }).withoutFail signedFail)).abl.ver.sigSeq = 1 :=
  settleAbl_sigSeq (s := signedState) (a := (signedState.abl.sign { signedFail with locus := signedFail.locusOf }).withoutFail signedFail)
    (by decide +kernel) rfl rfl (by decide +kernel) (by decide +kernel)

/-- Refutes O21: its clause on FAILURE_CLASSIFY says that an UNVERIFIED or campaign failure is signed when it is classified, also where t_CLASS has
signed it before (R418); the model signs it once. -/
theorem not_verdictCommandsComplete : ¬ Obligations.VerdictCommandsComplete := by
  unfold Obligations.VerdictCommandsComplete
  rintro ⟨-, -, -, -, -, -, -, -, hclassify, -⟩
  have hclaim := hclassify signedState signedFail rfl (.inl rfl)
  have hmodel : exec .failureClassify signedState = .next (signedState.settleAbl signedState.abl.classify) := rfl
  have hsame := Host.Outcome.next.inj (hmodel.symm.trans hclaim)
  have hnumber := sigSeq_of_classify
  rw [hsame] at hnumber
  exact absurd (sigSeq_of_second_signature.symm.trans hnumber) (by decide)

end Sys2Proof.Machine
end

section
/-!
SUPPORT. The catalogue commands of verdicts, securing, the ledger and traces (R138, R139, R411, R420, R421, R429, R430, R441, R517, R526, R527), one
lemma for each way that a command goes.
-/

namespace Sys2Proof.Machine

open Safety

/-! ## Starts of long operations (R411, R441) -/

theorem started_of_ok {c : Cmd} {r : Abl × Nat × Nat} {a : Abl} {h : Nat} (hr : r = (a, 0, h)) : started c r = (a, { handle := h }) := by
  subst hr
  rfl

theorem started_of_bad {c : Cmd} {r : Abl × Nat × Nat} {a : Abl} {h : Nat} (hr : r = (a, stBad, h)) :
    started c r = (a, { status := stBad, handle := h }) := by
  subst hr
  rfl

/-- A handle without its reserved bits is itself such a handle (R9). -/
theorem plainHandle_plainHandle (h : Nat) : plainHandle (plainHandle h) = plainHandle h := by
  unfold plainHandle
  omega

/-- RESTORE_LOADED reads no reserved bit of the handle. -/
theorem Abl.restoreLoaded_plainHandle (a : Abl) (h die tensor : Nat) : a.restoreLoaded (plainHandle h) die tensor = a.restoreLoaded h die tensor := by
  have hop : a.n.op (plainHandle h) = a.n.op h := by simp only [Node.op, plainHandle_plainHandle]
  simp only [Abl.restoreLoaded, hop]

/-! ## The ledger (R517, R526, R527) -/

section
variable {a : Abl} {c : Cmd} {n : Node} {h : Nat} {o : OpX}

theorem Abl.secPolicy_of_job (h : c.jobtag ≠ 0) : a.secPolicy c =
    ((a.putRoot { a.root c.jobtag with policy := (List.range 240).map fun t => bits (c.p (t / 4) 1) (2 * (t % 4)) 2,
                                       compress := bit (c.p 60 1) 0 }).on fun n =>
      (((n.setB Reg.ABL_SEC_CTRL 0 1 (bit (c.p 60 1) 0)).policyWrite (c.p 64 4)).wr Reg.ABL_SEC_CUT_MIN_MS 0 (c.p 68 4)).wr
        Reg.ABL_SEC_PASS_LIMIT_MS 0 (c.p 72 4), {}) := if_neg h

theorem Abl.compactCmd_of_running {x : PassX} (hpass : a.hist.pass = some x) : a.compactCmd c = (a, c.later a.n) := by
  simp only [Abl.compactCmd, hpass, Option.isSome_some, Bool.true_or, if_true]

/-- With no pass and none that waits, a pass is due with the handle that the operation gets. -/
theorem Abl.compactCmd_of_none (hpass : a.hist.pass = none) (hdue : a.hist.passDue = none) (hop : a.n.opStart 4 c.path 0 = (some h, n))
    (hnote : n.op h = some o) : a.compactCmd c =
    ((({ a with n := n.opNote o 0 } : Abl).onHist fun x => { x with passDue := some h }).compactStart, { handle := h }) := by
  simp only [Abl.compactCmd, hpass, hdue, hop, hnote, Option.isSome_none, Bool.or_self, Bool.false_eq_true, if_false]

/-- A staged object cannot take the exported records. -/
theorem Abl.exportStart_of_staged (hkind : leAt ((c.params.drop 24).take 24) 0 1 = 1) : a.exportStart c = (a, Ans.of stBad) := by
  simp only [Abl.exportStart, hkind, decide_true, Bool.or_true, Bool.true_or, if_true]

/-- The transfer of the whole store by frames, where the store holds no record but a checkpoint. -/
theorem Abl.exportStart_of_empty {x : ExportX} (hscope : leAt c.params 0 1 = 0) (hunit : leAt c.params 16 2 = 0)
    (hkind : leAt ((c.params.drop 24).take 24) 0 1 = 0) (hop : a.n.opStart 5 c.path c.jobtag = (some h, n)) (hnote : n.op h = some o)
    (hlog : a.hist.log = [])
    (hx : x = { handle := h, num := a.hist.nextExport, scope := [0, leAt c.params 8 8, 0], ref := (c.params.drop 24).take 24,
                left := (Config.exportCheckpoint a.hist.ckptJseq [0, leAt c.params 8 8, 0]).map fun b => (a.hist.ckptJseq, b) }) :
    a.exportStart c =
      (({ a with n := n.opNote o 0 } : Abl).onHist fun h => { h with exports := x :: h.exports, nextExport := h.nextExport + 1 }, { handle := h }) := by
  subst hx
  simp [Abl.exportStart, hscope, hunit, hkind, hop, hnote, hlog]

theorem Abl.formatCommit_of_committed (hnone : a.hist.probation = 0) : a.formatCommit = (a, {}) := by simp only [Abl.formatCommit, hnone, if_true]

theorem Abl.formatCommit_of_probation (hsome : a.hist.probation ≠ 0) : a.formatCommit = (a.probationEnd, {}) := by
  simp only [Abl.formatCommit, hsome, if_false]

/-! ## Traces (R138, R139) -/

/-- The transfer of a die's trace by frames, where none runs. -/
theorem Abl.traceStart_of_frames {x : TraceOut} (hport : leAt c.params 0 1 < 16) (hchild : a.n.childValid (leAt c.params 0 1) = true)
    (hkind : leAt ((c.params.drop 8).take 24) 0 1 = 0) (hnone : a.traces = []) (hop : a.n.opStart 6 c.path c.jobtag = (some h, n))
    (hnote : n.op h = some o) (hx : x = { handle := h, port := leAt c.params 0 1, ref := (c.params.drop 8).take 24 }) :
    a.traceStart c = (({ a with n := n.opNote o 0, traces := [x] } : Abl).on fun n => n.dieCmd (leAt c.params 0 1) 0x100B (2 :: le 4 h),
      { handle := h }) := by
  subst hx
  simp [Abl.traceStart, Nat.not_le.2 hport, hchild, hkind, hnone, hop, hnote]

theorem Abl.traceTrigger_of_child (hport : c.p 0 1 < 16) (hchild : a.n.childValid (c.p 0 1) = true) :
    a.traceTrigger c = (a.on fun n => n.dieCmd (c.p 0 1) 0x100B [1], {}) := by
  simp only [Abl.traceTrigger, Nat.not_le.2 hport, hchild, decide_false, Bool.not_true, Bool.or_self, Bool.false_eq_true, if_false]

end

/-- Settles O37: each command by the answer of its own rules. -/
theorem recordCatalogueComplete : Obligations.RecordCatalogueComplete := by
  unfold Obligations.RecordCatalogueComplete
  refine ⟨?_, ?_, ?_, ?_, ?_, ?_, ?_, ?_, ?_, ?_⟩
  · intro s c p hserve
    exact ablCmd_of_serving hserve (f := fun a => a.verdictConfig c) rfl
  · intro s c p a h
    refine ⟨fun hserve hstart => ?_, fun hserve hstart => ?_, fun hserve hstart => ?_, fun hserve => ?_⟩
    · exact ablCmd_of_serving hserve (f := fun a => a.campaignCmd c) (started_of_ok hstart)
    · exact ablCmd_of_serving hserve (f := fun a => a.restoreJob c) (started_of_ok hstart)
    · exact ablCmd_of_serving hserve (f := fun a => a.restoreJob c) (started_of_bad hstart)
    · rw [← Abl.restoreLoaded_plainHandle]
      exact ablCmd_of_serving hserve (f := fun a => ((a.restoreLoaded (plainHandle (c.p 0 4)) (c.p 4 4) (c.p 8 1)).1,
        Ans.of (a.restoreLoaded (plainHandle (c.p 0 4)) (c.p 4 4) (c.p 8 1)).2)) rfl
  · intro s c p hserve hjob
    exact ablCmd_of_serving hserve (f := fun a => a.secPolicy c) (Abl.secPolicy_of_job hjob)
  · intro s c p x hserve hpass
    exact ablCmd_of_serving hserve (f := fun a => a.compactCmd c) (Abl.compactCmd_of_running hpass)
  · intro s c p n h o hserve hpass hdue hop hnote
    exact ablCmd_of_serving hserve (f := fun a => a.compactCmd c) (Abl.compactCmd_of_none hpass hdue hop hnote)
  · intro s c p hserve hkind
    exact ablCmd_of_serving hserve (f := fun a => a.exportStart c) (Abl.exportStart_of_staged hkind)
  · intro s c p n h o x hserve hscope hunit hkind hop hnote hlog hx
    exact ablCmd_of_serving hserve (f := fun a => a.exportStart c) (Abl.exportStart_of_empty hscope hunit hkind hop hnote hlog hx)
  · intro s c p
    refine ⟨fun hserve hnone => ?_, fun hserve hsome => ?_, fun hserve => ?_⟩
    · exact ablCmd_of_serving hserve (f := fun a => a.formatCommit) (Abl.formatCommit_of_committed hnone)
    · exact ablCmd_of_serving hserve (f := fun a => a.formatCommit) (Abl.formatCommit_of_probation hsome)
    · exact ablCmd_of_serving hserve (f := fun a => (a, a.ledgerQuery c.params)) rfl
  · intro s c p n h o x hserve hport hchild hkind hnone hop hnote hx
    exact ablCmd_of_serving hserve (f := fun a => a.traceStart c) (Abl.traceStart_of_frames hport hchild hkind hnone hop hnote hx)
  · intro s c p hserve hport hchild
    exact ablCmd_of_serving hserve (f := fun a => a.traceTrigger c) (Abl.traceTrigger_of_child hport hchild)

end Sys2Proof.Machine
end

section
/-!
SUPPORT. The securing commands of a die and the securing fan-outs (R426, R427, R429, R436, R438, R440, R441, R452).
-/

namespace Sys2Proof.Machine

/-! ## What a securing fan-out does at a die (R452) -/

/-- The fold that clears VALID bits touches registers only. -/
theorem foldl_on_sec {α : Type} (f : Node → α → Node) (xs : List α) (d : Ddu) :
    (xs.foldl (fun d x => d.on fun n => f n x) d).sec = d.sec := by
  induction xs generalizing d with
  | nil => rfl
  | cons x xs ih => exact ih _

theorem Ddu.secRelease_sec (d : Ddu) : d.secRelease.sec = d.sec := foldl_on_sec (fun n t => n.setB Reg.DDU_SEC_VERSION t 63 false) _ d

/-- The VALID bits that a SECURE_CUT with these methods clears at a die (R429). -/
theorem Ddu.secCutBegin_eq {d : Ddu} {body ms clear : List Nat} (hms : ms = (List.range 240).map fun k => bits (leAt body 8 60) (2 * k) 2)
    (hclear : clear = if d.sec.methods = [] then [] else (List.range 240).filter fun k => ms.getD k 0 != d.sec.methods.getD k 0) :
    d.secCutBegin body = ({ d with sec := { d.sec with building := ms } } : Ddu).secCutSet (leAt body 0 4) (leAt body 4 4) clear := by
  subst hms hclear
  simp only [Ddu.secCutBegin, List.isEmpty_iff]

section
variable {d : Ddu} {m : FanMsg} (hin : rangeOf m.ranges (d.n.fld Reg.DDU_DIE_INDEX 0 0 17) ≠ none) (htag : m.jobtag = d.jobTag)
include hin htag

/-- The die acts on a fan-out that names it, of its own job. -/
theorem Ddu.secDeliver_named : ((rangeOf m.ranges (d.n.fld Reg.DDU_DIE_INDEX 0 0 17)).isNone || decide (m.jobtag ≠ d.jobTag)) = false := by
  simpa [htag, Option.ne_none_iff_isSome] using hin

theorem Ddu.secDeliver_of_cut (hkind : m.kind = 0x10) : d.secDeliver m = d.secCutBegin m.body := by
  simp only [Ddu.secDeliver, Ddu.secDeliver_named hin htag, hkind, Bool.false_eq_true, if_false]

theorem Ddu.secDeliver_of_abandon (hkind : m.kind = 0x12) : d.secDeliver m = d.secHold false := by
  simp only [Ddu.secDeliver, Ddu.secDeliver_named hin htag, hkind, Bool.false_eq_true, if_false]

theorem Ddu.secDeliver_of_release (hkind : m.kind = 0x13) :
    d.secDeliver m = { d.secRelease with sec := { d.secRelease.sec with methods := [], building := [] } } := by
  simp only [Ddu.secDeliver, Ddu.secDeliver_named hin htag, hkind, Ddu.secRelease_sec, Bool.false_eq_true, if_false]

/-- SECURE_COMMIT and RESTORE act through the tray. -/
theorem Ddu.secDeliver_of_tray (hkind : m.kind = 0x11 ∨ m.kind = 0x14) : d.secDeliver m = d := by
  obtain hkind | hkind := hkind <;>
    simp only [Ddu.secDeliver, Ddu.secDeliver_named hin htag, hkind, Bool.false_eq_true, if_false]

end

/-- A securing fan-out that a live die has not seen is kept, delivered and acknowledged. -/
theorem secDeliver_of_new {s : State} {m : FanMsg} {kind : Nat} {e : Ddu} (hlive : s.ddu.live = true) (hkept : (m.jobtag, m.seq) ∉ s.ddu.job.kept)
    (hrefused : (m.jobtag, m.seq) ∉ s.ddu.job.refused) (hkind : kind ≠ 1)
    (hdeliver : Ddu.secDeliver { s.ddu with job := { s.ddu.job with kept := (m.jobtag, m.seq) :: s.ddu.job.kept } } (fanAs kind m) = e)
    (port slot sender origin : Nat) :
    secDeliver .ddu kind port slot sender origin m s =
      .next (s.settleDdu (e.on fun n => n.postUp m.jobtag 0 0x14 0x0012 505 (fanAckBytes m.jobtag m.seq 1 1 [] false))) :=
  onDdu_eq_next (f := fun d => if d.live then d.fanArrive (fanAs kind m) fun d => d.secDeliver (fanAs kind m) else d)
    ((if_pos hlive).trans (Ddu.fanArrive_of_new (m := fanAs kind m) hkept hrefused (.inl hkind) hdeliver))

/-- A securing fan-out at a sentinel asks its own part of the fan-out, then goes to the children. -/
theorem secDeliver_of_known {s : State} {m : FanMsg} {kind origin : Nat} {a : Abl} (hfans : s.abl.fans = []) (hjob : s.abl.n.jobCheck m.jobtag = 0)
    (hkind : kind ∈ [0x10, 0x11, 0x12, 0x13])
    (ha : a = { s.abl with n := { s.abl.n with due := s.abl.n.due ++ [React.secFan (fanAs kind m) origin] } }) (port slot sender : Nat) :
    secDeliver .abl kind port slot sender origin m s = .next (s.settleAbl
      (a.fanOpen { (fanFrom port slot sender origin (fanAs kind m)) with children := a.fanKids (fanAs kind m) a.ownChildren })) := by
  have htake : s.abl.fanKind (fanAs kind m) origin = (a, true) := by
    subst ha
    simp only [List.mem_cons, List.not_mem_nil, or_false] at hkind
    obtain rfl | rfl | rfl | rfl := hkind <;> rfl
  exact onAbl_eq_next (f := fun a => a.fanRx port slot sender origin (fanAs kind m))
    ((Abl.fanRx_known (m := fanAs kind m) hjob).trans (Abl.fanArrive_of_taken hfans htake))

/-! ## Posting a secure slot (R427) -/

theorem Ddu.secPost_of_off {d : Ddu} (h : d.n.bit Reg.DDU_SEC_CTRL 0 31 = false) (k : Nat) : d.secPost k = d.bump Reg.DDU_SEC_REFUSED := by
  simp [Ddu.secPost, h]

/-- A slot of the pending cut, in the windows, whose tensor has no valid version, is taken. -/
theorem Ddu.secPost_of_changed {d e : Ddu} {k v held : Nat} (hv : v = e.rd Reg.DDU_SEC_SLOT k) (hon : e.n.bit Reg.DDU_SEC_CTRL 0 31 = true)
    (hfree : e.n.bit Reg.DDU_SEC_PEND 0 k = false) (hreset : e.n.bit Reg.DDU_SUBRESET 0 7 = false) (htag : secTag v = e.jobTag)
    (hcut : secCut v = e.rd Reg.DDU_SEC_CUT_ID) (htensor : secTensor v < 240)
    (hwin : ∀ r, r < 4 → secLen v r ≠ 0 → e.inWindow (secAddr v r) (secLen v r) = true) (hheld : held = e.rd Reg.DDU_SEC_VERSION (secTensor v))
    (hvalid : bit held 63 = false)
    (hd : d = (({ e with sec := { e.sec with posted := e.sec.posted ++ [(secTensor v, true, secVersion v, secSize v)] } } : Ddu).on fun n =>
      n.setB Reg.DDU_SEC_PEND 0 k true).fastStart) :
    e.secPost k = { d with sec := { d.sec with slots := d.sec.slots ++ [{ slot := k, val := v }] } } := by
  have hranges : ((List.range 4).any fun r => secLen v r != 0 && !e.inWindow (secAddr v r) (secLen v r)) = false := by
    simpa only [List.any_eq_false, List.mem_range, Bool.and_eq_true, bne_iff_ne, Bool.not_eq_true', not_and, Bool.not_eq_false] using hwin
  subst hd
  simp only [Ddu.secPost, ← hv, hon, hfree, hreset, htag, hcut, hranges, ← hheld, hvalid, Nat.not_le.2 htensor, Bool.not_true, Bool.not_false, Bool.or_self,
    Bool.false_and, Bool.false_eq_true, ne_eq, not_true_eq_false, decide_false, if_false]

/-! ## Serving the secure slots (R427, R436) -/

theorem Ddu.secServe_of_held {d : Ddu} (h : d.sec.held = true) (data : List (List Nat)) : d.secServe data = d := by
  unfold Ddu.secServe
  split
  · rfl
  · exact if_pos (by simp [h])

section
variable {d : Ddu} {x : SecSlot} {rest : List SecSlot} (hslots : d.sec.slots = x :: rest) (hqueue : d.fb.queue = [])
  (hup : d.n.bit Reg.DDU_STATUS 0 2 = true) (hrate : d.n.fld Reg.DDU_FABRIC_RATE 0 0 16 ≠ 0) (hheld : d.sec.held = false)
include hslots hqueue hup hrate hheld

/-- A tensor whose range lies in no window is not read (R57), and its slot ends. -/
theorem Ddu.secServe_of_violation {e : Ddu} (hlen : secLen x.val 0 ≠ 0) (hout : d.inWindow (secAddr x.val 0) (secLen x.val 0) = false)
    (he : e = d.fabricViolation.on fun n => n.setB Reg.DDU_SEC_PEND 0 x.slot false) (data : List (List Nat)) :
    d.secServe data = ({ e with sec := { e.sec with slots := rest, last := e.sec.last || secLast x.val } } : Ddu).secFence := by
  have hon : d.fabricOn = true := by simp [Ddu.fabricOn, hup, hrate]
  have hok : ((List.range 4).all fun r => secLen x.val r == 0 || d.inWindow (secAddr x.val r) (secLen x.val r)) = false :=
    List.all_eq_false.2 ⟨0, by decide, by simp [hlen, hout]⟩
  subst he
  simp only [Ddu.secServe, hslots, hon, hqueue, hheld, hok, List.isEmpty_nil, Bool.not_true, Bool.or_self, Bool.false_eq_true, if_false]

/-- A tensor whose ranges lie in the windows is read, sent and counted. -/
theorem Ddu.secServe_of_windows {data : List (List Nat)} {bytes : List Nat} {e : Ddu}
    (hin : ∀ r, r < 4 → secLen x.val r ≠ 0 → d.inWindow (secAddr x.val r) (secLen x.val r) = true)
    (hbytes : bytes = (List.range 4).flatMap fun r => padTo (secLen x.val r) (data.getD r []))
    (he : e = (((d.snoopRead bytes.length).sendTensor x.val bytes).on fun n => n.wr Reg.DDU_SEC_BYTES 0 (n.rd Reg.DDU_SEC_BYTES + bytes.length)).on fun n =>
      n.setB Reg.DDU_SEC_PEND 0 x.slot false) :
    d.secServe data = ({ e with sec := { e.sec with slots := rest, last := e.sec.last || secLast x.val } } : Ddu).secFence := by
  have hon : d.fabricOn = true := by simp [Ddu.fabricOn, hup, hrate]
  have hok : ((List.range 4).all fun r => secLen x.val r == 0 || d.inWindow (secAddr x.val r) (secLen x.val r)) = true :=
    List.all_eq_true.2 fun r hr => by
      obtain h | h := eq_or_ne (secLen x.val r) 0
      · simp [h]
      · simp [hin r (List.mem_range.1 hr) h]
  subst he hbytes
  simp only [Ddu.secServe, hslots, hon, hqueue, hheld, hok, List.isEmpty_nil, Bool.not_true, Bool.or_self, Bool.false_eq_true, if_false, if_true]

end

theorem Ddu.secDieDone_of_fenced {d : Ddu} (hfencing : d.sec.fencing = true) (hdone : d.n.bit Reg.DDU_FENCE_STATUS 0 0 = false) :
    d.secDieDone = { (d.secDoneRec false) with sec := { d.sec with last := false, fencing := false } } :=
  if_pos (by simp [hfencing, hdone])

/-- Settles O22: each command by what the die, or the sentinel that a fan-out reaches, does. -/
theorem secureDieCommandsComplete : Obligations.SecureDieCommandsComplete := by
  unfold Obligations.SecureDieCommandsComplete
  refine ⟨?_, ?_, ?_, ?_, ?_, ?_, ?_, ?_, ?_, ?_⟩
  · intro s port slot sender origin m d hlive hkept hrefused hd hin htag
    have go {kind : Nat} {e : Ddu} (hkind : kind ≠ 1) (h : d.secDeliver (fanAs kind m) = e) :=
      secDeliver_of_new hlive hkept hrefused hkind (hd ▸ h) port slot sender origin
    have hin : rangeOf m.ranges (d.n.fld Reg.DDU_DIE_INDEX 0 0 17) ≠ none := by subst hd; exact hin
    have htag : m.jobtag = d.jobTag := by subst hd; exact htag
    refine ⟨fun ms clear hms hclear => ?_, ?_, ?_, ?_, ?_⟩
    · exact go (by decide) ((Ddu.secDeliver_of_cut (m := fanAs 0x10 m) hin htag rfl).trans (Ddu.secCutBegin_eq hms hclear))
    · exact go (by decide) (Ddu.secDeliver_of_release (m := fanAs 0x13 m) hin htag rfl)
    · exact go (by decide) (Ddu.secDeliver_of_tray (m := fanAs 0x11 m) hin htag (.inl rfl))
    · exact go (by decide) (Ddu.secDeliver_of_abandon (m := fanAs 0x12 m) hin htag rfl)
    · exact go (by decide) (Ddu.secDeliver_of_tray (m := fanAs 0x14 m) hin htag (.inr rfl))
  · intro s port slot sender origin k m i a hfans hjob hi ha
    have go := fun hk => secDeliver_of_known hfans hjob hk ha port slot sender
    simp only [List.mem_cons, List.not_mem_nil, or_false, Prod.mk.injEq] at hi
    obtain ⟨rfl, rfl⟩ | ⟨rfl, rfl⟩ | ⟨rfl, rfl⟩ | ⟨rfl, rfl⟩ := hi <;> exact go (by decide)
  · intro s port slot sender origin m kept
    exact onAbl_eq_next (f := fun a => (a.onSec fun z => { z with kept := some kept }).fanRx port slot sender origin (fanAs 0x14 m)) rfl
  · intro s who k e hmay hoff
    rw [← Ddu.secPost_of_off hoff k]
    exact dduFast_of_may hmay fun d => d.secPost k
  · intro s who k v held d e hmay hv hon hfree hreset htag hcut htensor hwin hheld hvalid hd
    rw [← Ddu.secPost_of_changed hv hon hfree hreset htag hcut htensor hwin hheld hvalid hd]
    exact dduFast_of_may hmay fun d => d.secPost k
  · intro s data x rest hslots hqueue hup hrate hlen hout hheld
    exact ⟨_, onDdu_eq_next (f := fun d => d.secServe data) (Ddu.secServe_of_violation hslots hqueue hup hrate hheld hlen hout rfl data), rfl⟩
  · intro s data bytes x rest hslots hqueue hup hrate hin hheld hbytes
    exact ⟨_, onDdu_eq_next (f := fun d => d.secServe data) (Ddu.secServe_of_windows hslots hqueue hup hrate hheld hin hbytes rfl), rfl⟩
  · intro s data hheld
    exact onDdu_eq_next (f := fun d => d.secServe data) (Ddu.secServe_of_held hheld data)
  · intro s hfencing hdone
    exact onDdu_eq_next (f := Ddu.secDieDone) (Ddu.secDieDone_of_fenced hfencing hdone)
  · intro s who e hmay
    exact dduFast_of_may hmay Ddu.secLate

end Sys2Proof.Machine
end

section
/-!
SUPPORT. A SECURE_DIE_DONE that names a changed tensor whose data has not come (R427, R437, R439).
-/

namespace Sys2Proof.Machine

open Safety

/-- A cut of a restore that waits for the die at child 0, which has sent no data. -/
def openCut : CutX := { jobtag := 0, cut := 0, epoch := 0, methods := [], restore := true }

/-- The die says that it is done and has posted tensor 0 as changed. -/
def doneRecord : Record :=
  { typ := 0x19, code := 2, src := 0, time := 0, seq := 0, payload := [0, 0, 0, 0, 0, 0, 0, 0, 1, 0, 0, 0, 0, 0, 0, 0, 0, 1] }

/-- The entry for the die that it makes. -/
def doneEntry : List (Nat × Bool × Nat × Nat) := [(0, true, 0, 0)]

/-- A sentinel with that cut, whose child 0 is the node of identity 0. -/
def cutState : State :=
  { ddu := { n := { dev := .ddu } }
    abl := { n := ({ dev := .abl } : Node).wr Reg.ABL_RED_CHILD 0 (2 ^ 127), sec := { cuts := [openCut] } } }

/-- The tray's part of the cut ends with ROUTE in the model: the data of tensor 0 does not come any more. -/
theorem ended_of_dieDoneRx : (cutState.settleAbl (cutState.abl.dieDoneRx 0 doneRecord.payload)).abl.sec.cuts.map CutX.ended = [true] := by
  decide +kernel

/-- With the entry noted and nothing else, it would not end. -/
theorem not_ended_of_entry : (cutState.settleAbl (cutState.abl.putCut { openCut with done := [(0, doneEntry)] })).abl.sec.cuts.map CutX.ended = [false] := by
  decide +kernel

/-- Refutes O23: its clause on SECURE_DIE_DONE_RX says that a record without LATE is only noted, whatever tensors it names as changed; where the data
of one of them has not come, the tray's part of the cut fails. -/
theorem not_securingCommandsComplete : ¬ Obligations.SecuringCommandsComplete := by
  unfold Obligations.SecuringCommandsComplete
  rintro ⟨-, -, -, hdone, -⟩
  have hclaim := hdone cutState 0 0 0 doneRecord openCut doneEntry (by decide) (by decide +kernel) (by decide +kernel) (by decide +kernel) (by decide)
    (by decide)
  have hmodel : exec (.secureDieDoneRx 0 doneRecord) cutState = .next (cutState.settleAbl (cutState.abl.dieDoneRx 0 doneRecord.payload)) :=
    congrArg (fun a => Host.Outcome.next (cutState.settleAbl a)) (by decide +kernel :
      cutState.abl.secOfJob 2 (leAt doneRecord.payload 0 4) (fun a => a.dieDoneRx 0 doneRecord.payload) = cutState.abl.dieDoneRx 0 doneRecord.payload)
  have hsame := Host.Outcome.next.inj (hmodel.symm.trans hclaim)
  have hended := ended_of_dieDoneRx
  rw [hsame] at hended
  exact absurd (not_ended_of_entry.symm.trans hended) (by decide)

end Sys2Proof.Machine
end

section
/-!
SUPPORT. A fault event of a grid core that runs no slice, where the collector is not enabled (R373, R459).
-/

namespace Sys2Proof.Machine

open Safety

/-- A sentinel whose collector is not enabled, and on which a rate limit without tokens holds the record of a core's fault back (R147, R373): the
record that the model writes shows in ABL_REC_SUPPRESSED. -/
def disabledState : State :=
  { ddu := { n := { dev := .ddu } }
    abl := { n := (({ dev := .abl } : Node).wr Reg.ABL_FLT_CTRL 0 0).wr (Reg.REC_RL .abl) 0 (2 ^ 63 + 0x17 * 2 ^ 48 + 0x0002 * 2 ^ 32) } }

/-- The model writes the record of the core's fault. -/
theorem suppressed_of_coreFault :
    (disabledState.settleAbl (disabledState.abl.coreFault 0 1 0)).abl.n.rd (Reg.REC_SUPPRESSED .abl) = 1 := by decide +kernel

/-- The count of the source alone writes none. -/
theorem not_suppressed_of_fltTotal :
    (settled disabledState .abl (disabledState.abl.n.fltTotal 0)).abl.n.rd (Reg.REC_SUPPRESSED .abl) = 0 := by decide +kernel

/-- Refutes O24: its clause on FAULT_EVENT says that a collector that is not enabled only counts the event of a source, also where the source is a grid
core of the sentinel; the model then writes the record of the core's fault too. -/
theorem not_faultCommandsComplete : ¬ Obligations.FaultCommandsComplete := by
  unfold Obligations.FaultCommandsComplete
  rintro ⟨-, hfault, -⟩
  have hclaim := hfault disabledState .abl 0 1 0 0 0 rfl trivial (fun _ => rfl) rfl (by decide +kernel) (by decide +kernel) (by decide +kernel)
  have hmodel : exec (.faultEvent .abl 0 1 0 0 0) disabledState = .next (disabledState.settleAbl (disabledState.abl.coreFault 0 1 0)) := rfl
  have hsame := Host.Outcome.next.inj (hmodel.symm.trans hclaim)
  have hcount := suppressed_of_coreFault
  rw [hsame] at hcount
  exact absurd (not_suppressed_of_fltTotal.symm.trans hcount) (by decide)

end Sys2Proof.Machine
end

section
/-!
SUPPORT. The commands of the Breakwater governor (R481 to R483, R485), one lemma for each way that a command goes.
-/

namespace Sys2Proof.Machine

/-! ## Proposals at the Breakwater node (R482, R483) -/

/-- A proposal as the Breakwater node holds it. -/
def Abl.proposalItem (a : Abl) (tray : Nat) (p : List Nat) : BwItem :=
  { tray := tray, die := leAt p 0 4, id := leAt p 4 4, cls := leAt p 8 1, body := p, at_ := a.n.tideline }

/-- The first proposal is admitted while the window has room. -/
theorem Abl.bwProposal_of_room {a : Abl} {tray : Nat} {p : List Nat} (hitems : a.bwPrune.gov.items = []) (hroom : a.bwPrune.gov.window.length < a.bwPrune.bwLimit) :
    a.bwProposal tray p = (({ a.bwPrune with gov := { a.bwPrune.gov with items := [a.bwPrune.proposalItem tray p] } } : Abl).bwAdmit
      (a.bwPrune.proposalItem tray p) 1).bwKeep := by
  have hqueue : a.bwPrune.bwQueue = [] := by simp [Abl.bwQueue, hitems]
  simp only [Abl.bwProposal, hitems, hqueue, hroom, List.find?_nil, List.isEmpty_nil, Bool.and_true, decide_true, if_true, List.nil_append]
  rfl

/-- A proposal that finds the window and the queue full is answered HELD and not kept. -/
theorem Abl.bwProposal_of_full {a : Abl} {tray : Nat} {p : List Nat} (hnew : a.bwPrune.gov.items.find? (fun x => x.id == leAt p 4 4) = none)
    (hwindow : a.bwPrune.bwLimit ≤ a.bwPrune.gov.window.length) (hqueue : 1024 ≤ a.bwPrune.bwQueue.length) :
    a.bwProposal tray p = a.bwPrune.bwAnswer (a.bwPrune.proposalItem tray p) 2 := by
  simp only [Abl.bwProposal, hnew, Nat.not_lt.2 hwindow, hqueue, decide_false, Bool.false_and, Bool.false_eq_true, if_false, if_true]
  rfl

/-! ## A decision at a tray (R481, R483) -/

theorem Abl.bwDecision_of_no_prop {a : Abl} (h : a.gov.props = []) (die id decision : Nat) : a.bwDecision die id decision = a := by
  simp only [Abl.bwDecision, h, List.find?_nil]

/-- HELD marks the tray's only proposal and stages the mask of its die. -/
theorem Abl.bwDecision_of_held {a : Abl} {p : PropX} {port : Nat} (hprops : a.gov.props = [p]) (hport : a.n.portOfDie p.die = some port) :
    a.bwDecision p.die p.id 2 = ({ a with gov := { a.gov with props := [{ p with decision := 2 }] } } : Abl).stageSuspect port := by
  simp [Abl.bwDecision, hprops, hport]

/-! ## Proposals sent again (R481) -/

theorem Abl.bwResend_of_no_prop {a : Abl} (h : a.gov.props = []) : a.bwResend = a := by simp [Abl.bwResend, h]

theorem Abl.bwResend_of_due {a : Abl} {p : PropX} (hprops : a.gov.props = [p]) (hopen : p.decision = 0) (hdue : p.sent + 1000000000 ≤ a.n.local) :
    a.bwResend = a.sendProp p := by
  simp [Abl.bwResend, hprops, hopen, hdue]

theorem Abl.bwResend_of_early {a : Abl} {p : PropX} (hprops : a.gov.props = [p]) (hearly : a.n.local < p.sent + 1000000000) : a.bwResend = a := by
  simp [Abl.bwResend, hprops, hearly]

/-! ## Admissions leave the window (R482, R485) -/

theorem Abl.bwExpiry_of_no_admission {a : Abl} (h : a.gov.window = []) : a.bwExpiry = a := by simp [Abl.bwExpiry, Abl.bwPrune, h]

/-- An admission of 60 minutes ago leaves, and the governor runs. -/
theorem Abl.bwExpiry_of_old {a : Abl} {w : Nat × Nat × Nat} (hwindow : a.gov.window = [w]) (hold : w.2.2 + 3600000000000 ≤ a.n.tideline) :
    a.bwExpiry = ({ a with gov := { a.gov with window := [] } } : Abl).bwRun.bwKeep := by
  have hprune : a.bwPrune = { a with gov := { a.gov with window := [] } } := by simp [Abl.bwPrune, hwindow, hold]
  have hshorter : ([] : List (Nat × Nat × Nat)).length ≠ a.gov.window.length := by simp [hwindow]
  rw [Abl.bwExpiry, hprune]
  exact if_neg hshorter

/-- Settles O25: each command by what the governor, or the tray, does. -/
theorem governorCommandsComplete : Obligations.GovernorCommandsComplete := by
  unfold Obligations.GovernorCommandsComplete
  refine ⟨?_, ?_, ?_, ?_, ?_, ?_, ?_, ?_, ?_⟩
  · intro s origin r a x ha hitems hroom hx
    subst ha hx
    exact onAbl_eq_next (f := fun a => a.bwProposal origin r.payload) (Abl.bwProposal_of_room hitems hroom)
  · intro s origin r a ha hnew hwindow hqueue
    subst ha
    exact onAbl_eq_next (f := fun a => a.bwProposal origin r.payload) (Abl.bwProposal_of_full hnew hwindow hqueue)
  · intro s origin r hprops
    exact onAbl_eq_next (f := fun a => a.bwDecision (leAt r.payload 0 4) (leAt r.payload 4 4) (leAt r.payload 8 1)) (Abl.bwDecision_of_no_prop hprops _ _ _)
  · intro s origin d port r p hd hprops hdie hid hheld hport
    refine onAbl_eq_next (f := fun a => a.bwDecision (leAt r.payload 0 4) (leAt r.payload 4 4) (leAt r.payload 8 1)) ?_
    rw [← hdie, ← hid, ← hd, hheld]
    exact Abl.bwDecision_of_held hprops hport
  · intro s hprops
    exact onAbl_eq_next (f := Abl.bwResend) (Abl.bwResend_of_no_prop hprops)
  · intro s p hprops hopen hdue
    exact onAbl_eq_next (f := Abl.bwResend) (Abl.bwResend_of_due hprops hopen hdue)
  · intro s p hprops hearly
    exact onAbl_eq_next (f := Abl.bwResend) (Abl.bwResend_of_early hprops hearly)
  · intro s hwindow
    exact onAbl_eq_next (f := Abl.bwExpiry) (Abl.bwExpiry_of_no_admission hwindow)
  · intro s w hwindow hold
    exact onAbl_eq_next (f := Abl.bwExpiry) (Abl.bwExpiry_of_old hwindow hold)

end Sys2Proof.Machine
end

section
/-!
SUPPORT. The commands of the die ledger and of its reconciliation (R494 to R496, R520 to R523, R526), one lemma for each way that a command goes.
-/

namespace Sys2Proof.Machine

/-! ## Mount (R496) -/

theorem Ddu.ledMount_of_mounted {d : Ddu} (h : 2 ≤ d.dlMount) (bad good : Nat) : d.ledMount bad good = d := if_pos (by simp [h])

/-- What a mount counts of the journal slots that do not pass. -/
def Ddu.journalChecked (d : Ddu) (good : Nat) : Ddu :=
  (d.bump Reg.DDU_DL_ERRORS 0 (if good < d.led.journal.length then 1 else 0)).on fun n => if good < d.led.journal.length then n.malformed 504 else n

/-- A medium without a half is formatted: a first snapshot of an empty image, with its journal. -/
theorem Ddu.ledMount_of_empty {d : Ddu} (hlive : d.live = true) (hmount : d.dlMount = 0) (ha : d.led.a = none) (hb : d.led.b = none) (bad good : Nat) :
    d.ledMount bad good =
      ((((({ d.journalChecked good with led := { d.led with image := {} } } : Ddu).snapshot 0 1 0 1).journalRestart 1).dlSet 2 0 1 0 1).on fun n =>
        n.setB Reg.DDU_DL_STATUS 0 7 true).ledLoad.ledPower.dlMissing := by
  have hopen : (!d.live || decide (2 ≤ d.dlMount)) = false := by simp [hlive, hmount]
  have hgone (h : Nat) : (bit bad h && (d.led.half h).isSome) = false := by unfold LedgerX.half; split <;> simp [ha, hb]
  simp only [Ddu.ledMount, hopen, hgone, Bool.false_eq_true, if_false, b2n, Nat.zero_add, decide_eq_true_eq]
  have hled : (d.journalChecked good).led = d.led := rfl
  rw [Ddu.journalChecked] at hled
  simp only [hled, ha, hb]
  rfl

/-! ## The journal (R494, R495) -/

/-- The journal with a record and its trailer. -/
def Ddu.journaled (d : Ddu) (r : Record) : Ddu :=
  { d with led := { d.led with journal := d.led.journal ++ [(r.bytes ++ le 4 (crc32c r.bytes) ++ le 4 (d.led.jtag % 4294967296), d.led.image)] } }

theorem Ddu.journalPut_of_writes {d : Ddu} (h : d.dlWrites = true) (r : Record) : d.journalPut r =
    if 11520 < (d.journaled r).led.used then ((d.journaled r).wr Reg.DDU_DL_JOURNAL 0 (d.journaled r).led.used).snapNext
    else (d.journaled r).wr Reg.DDU_DL_JOURNAL 0 (d.journaled r).led.used := by
  simp only [Ddu.journalPut, h, Bool.not_true, Bool.false_eq_true, if_false]
  rfl

/-! ## The end of probation (R526) -/

theorem Ddu.dlCommit_of_probation {d : Ddu} (h : d.n.bit Reg.DDU_DL_STATUS 0 8 = true) :
    d.dlCommit = (({ d with led := d.led.setHalf (1 - d.dlHalf) none } : Ddu).on fun n =>
      (n.setB Reg.DDU_DL_STATUS 0 8 false).setFld Reg.DDU_DL_FORMAT 0 16 16 0).dlFormat 0 1 3 := if_pos h

theorem Abl.probationEnd_of_probation {a : Abl} (h : a.n.bit Reg.ABL_HS_STATUS 0 27 = true) :
    a.probationEnd = ((((a.onHist fun h => { h with altBlocks := [], formatAlt := 0, probation := 0 }).on fun n =>
      n.setB Reg.ABL_HS_STATUS 0 27 false).superCause).hsFree a.hist.altBlocks).hsFormat 0 1 3 := if_neg (by simp [h])

/-! ## Reconciliation (R520 to R523) -/

theorem Abl.reconcile_of_not_reconciles {a : Abl} {port : Nat} (h : a.reconciles port = false) (serial flags : Nat) (body : List Nat) :
    a.reconcile port serial flags body = a := if_pos (by simp [h])

theorem Abl.reconcile_of_reconciles {a : Abl} {port : Nat} (h : a.reconciles port = true) (serial flags : Nat) (body : List Nat) :
    a.reconcile port serial flags body = (a.reconTake port serial flags body).reconTell port serial (a.reconCase port serial flags)
      (lookupD a.hist.tab.ports port 0) flags (a.hist.tab.die serial).image (a.reconImage port serial flags body) (imageOf body)
      (a.reconCells port serial flags body).length := if_neg (by simp [h])

theorem Abl.reconRetry_of_none {a : Abl} (h : a.hist.retry = []) : a.reconRetry = a := by rw [Abl.reconRetry, h, List.foldl_nil]

theorem Abl.reconRetry_of_one {a : Abl} {port : Nat} (h : a.hist.retry = [port]) :
    a.reconRetry = (({ a with gov := { a.gov with faults := (port, a.n.local) :: a.gov.faults } } : Abl).reconStart port).faultWords port := by
  rw [Abl.reconRetry, h, List.foldl_cons, List.foldl_nil]

/-- Settles O26: each command by what the die ledger, or the tray that reconciles it, does. -/
theorem dieLedgerCommandsComplete : Obligations.DieLedgerCommandsComplete := by
  unfold Obligations.DieLedgerCommandsComplete
  refine ⟨?_, ?_, ?_, ?_, ?_, ?_, ?_, ?_, ?_, ?_⟩
  · intro s bad good d e hlive hmount ha hb he hd
    subst he hd
    exact onDdu_eq_next (f := fun d => d.ledMount bad good) (Ddu.ledMount_of_empty hlive hmount ha hb bad good)
  · intro s bad good _ hmount
    exact onDdu_eq_next (f := fun d => d.ledMount bad good) (Ddu.ledMount_of_mounted hmount bad good)
  · intro s r b d hlive hwrites hb hd hroom
    subst hb hd
    exact onDdu_eq_next (f := fun d => if d.live then d.journalPut r else d)
      ((if_pos hlive).trans ((Ddu.journalPut_of_writes hwrites r).trans (if_neg (Nat.not_lt.2 hroom))))
  · intro s r b d hlive hwrites hb hd hfull
    subst hb hd
    exact onDdu_eq_next (f := fun d => if d.live then d.journalPut r else d)
      ((if_pos hlive).trans ((Ddu.journalPut_of_writes hwrites r).trans (if_pos hfull)))
  · intro s hprobation
    exact onDdu_eq_next (f := Ddu.dlCommit) (Ddu.dlCommit_of_probation hprobation)
  · intro s hdue hprobation
    exact onAbl_eq_next (f := fun a => if a.hist.probation ≤ a.n.ltime then a.probationEnd else a)
      ((if_pos hdue).trans (Abl.probationEnd_of_probation hprobation))
  · intro s port serial flags body hnot
    exact onAbl_eq_next (f := fun a => a.reconcile port serial flags body) (Abl.reconcile_of_not_reconciles hnot serial flags body)
  · intro s port serial flags body hdoes
    exact ⟨onAbl_eq_next (f := fun a => a.reconcile port serial flags body) (Abl.reconcile_of_reconciles hdoes serial flags body), rfl, rfl⟩
  · intro s hretry
    exact onAbl_eq_next (f := Abl.reconRetry) (Abl.reconRetry_of_none hretry)
  · intro s port hretry
    exact onAbl_eq_next (f := Abl.reconRetry) (Abl.reconRetry_of_one hretry)

end Sys2Proof.Machine
end

section
/-!
SUPPORT. The tables of the history store behind writes of the medium and isolations (R435, R500, R507): a store that a mount formats names no holdings.
-/

namespace Sys2Proof.Machine

/-- A fold keeps what each of its steps keeps. -/
theorem foldl_keeps {σ α β : Type} (view : σ → β) {f : σ → α → σ} (h : ∀ s x, view (f s x) = view s) (xs : List α) (s : σ) :
    view (xs.foldl f s) = view s := by
  induction xs generalizing s with
  | nil => rfl
  | cons x xs ih => rw [List.foldl_cons, ih, h]

/-! ## Isolations leave the store -/

@[simp] theorem Abl.gridView_hist (a : Abl) : a.gridView.hist = a.hist := rfl

@[simp] theorem Abl.putGctx_hist (a : Abl) (x : GridCtx) : (a.putGctx x).hist = a.hist := rfl

@[simp] theorem Abl.keepBundle_hist (a : Abl) (c : Nat) (b : Bundle) : (a.keepBundle c b).hist = a.hist := by
  simp only [Abl.keepBundle, apply_ite Abl.hist, Abl.on_hist, Abl.putGctx_hist, ite_self]

@[simp] theorem Abl.sliceDone_hist (a : Abl) (o : SliceOut) : (a.sliceDone o).hist = a.hist := by
  unfold Abl.sliceDone
  simp only [apply_ite Abl.hist, Abl.on_hist, Abl.keepBundle_hist, ite_self]
  split <;> simp only [apply_ite Abl.hist, Abl.on_hist, ite_self]

@[simp] theorem Abl.sliceEnd_hist (a : Abl) (s : GridSlice) (result rflags count : Nat) (first : Option FirstMiss) :
    (a.sliceEnd s result rflags count first).hist = a.hist := by
  unfold Abl.sliceEnd
  split
  · rfl
  · simp only [Abl.gridView_hist, Abl.sliceDone_hist]

@[simp] theorem Abl.abandon_hist (a : Abl) (c : Nat) : (a.abandon c).hist = a.hist :=
  foldl_keeps Abl.hist (fun a s => Abl.sliceEnd_hist a s 5 0 0 none) _ a

@[simp] theorem Abl.coreIsolate_hist (a : Abl) (k : Nat) : (a.coreIsolate k).hist = a.hist := by
  unfold Abl.coreIsolate
  rw [Abl.gridView_hist]
  refine foldl_keeps Abl.hist (fun a c => ?_) _ _
  split
  · split <;> simp only [Abl.abandon_hist, Abl.on_hist]
  · rfl

@[simp] theorem Abl.modelFault_hist (a : Abl) (s cause bank : Nat) : (a.modelFault s cause bank).hist = a.hist := by
  unfold Abl.modelFault
  simp only [apply_ite Abl.hist, Abl.on_hist, ite_self]

@[simp] theorem Abl.bankIsolate_hist (a : Abl) (b : Nat) : (a.bankIsolate b).hist = a.hist := by
  unfold Abl.bankIsolate
  rw [foldl_keeps Abl.hist fun a m => by rw [Abl.modelFault_hist, Abl.on_hist], Abl.on_hist]

@[simp] theorem Abl.applySource_hist (a : Abl) (key v : Nat) : (a.applySource key v).hist = a.hist := by
  unfold Abl.applySource
  simp only [apply_ite Abl.hist, Abl.coreIsolate_hist, Abl.bankIsolate_hist, Abl.on_hist, ite_self]

/-! ## Writes of the medium leave the tables -/

/-- The tables. -/
def Abl.tab (a : Abl) : HistTab := a.hist.tab

@[simp] theorem Abl.on_tab (a : Abl) (f : Node → Node) : (a.on f).tab = a.tab := rfl
@[simp] theorem Abl.hsView_tab (a : Abl) : a.hsView.tab = a.tab := rfl
@[simp] theorem Abl.dayView_tab (a : Abl) : a.dayView.tab = a.tab := rfl
@[simp] theorem Abl.hsRuns_tab (a : Abl) : a.hsRuns.tab = a.tab := rfl

@[simp] theorem HistX.setPath_tab (h : HistX) (p : Nat) (m : Cells) : (h.setPath p m).tab = h.tab := by
  unfold HistX.setPath
  split <;> rfl

@[simp] theorem Abl.hsProgram_tab (a : Abl) (paths : List Nat) (addr : Nat) (bytes : List Nat) : (a.hsProgram paths addr bytes).tab = a.tab := by
  unfold Abl.hsProgram
  split
  · rfl
  · exact foldl_keeps HistX.tab (fun h p => HistX.setPath_tab h p _) paths a.hist

@[simp] theorem Abl.hsErase_tab (a : Abl) (b : Nat) : (a.hsErase b).tab = a.tab :=
  foldl_keeps HistX.tab (fun h p => HistX.setPath_tab h p _) a.hsPaths a.hist

@[simp] theorem Abl.superWrite_tab (a : Abl) : a.superWrite.tab = a.tab := by
  unfold Abl.superWrite
  change (Abl.hsProgram _ _ _ _).tab = _
  simp only [Abl.hsProgram_tab, Abl.hsErase_tab, apply_ite Abl.tab, ite_self]

@[simp] theorem Abl.superCause_tab (a : Abl) : a.superCause.tab = a.tab := by
  unfold Abl.superCause
  split
  · split
    · exact a.superWrite_tab
    · rfl
  · exact a.superWrite_tab

theorem Abl.hsOpenBlock_tab {a b : Abl} {role first k : Nat} (h : a.hsOpenBlock role first = some (k, b)) : b.tab = a.tab := by
  unfold Abl.hsOpenBlock at h
  extract_lets pick at h
  clear_value pick
  cases pick with
  | none => contradiction
  | some c =>
    simp only [Option.some.injEq, Prod.mk.injEq] at h
    rw [← h.2, Abl.hsView_tab]
    exact Abl.hsProgram_tab a _ _ _

theorem Abl.hsPlace_tab {a b : Abl} {need k off : Nat} (h : a.hsPlace need = some (k, off, b)) : b.tab = a.tab := by
  unfold Abl.hsPlace at h
  extract_lets here at h
  clear_value here
  cases here with
  | some c =>
    simp only [Option.some.injEq, Prod.mk.injEq] at h
    rw [h.2.2]
  | none =>
    cases hopen : a.hsOpenBlock 1 (a.n.rd Reg.ABL_HS_JSEQ) with
    | none => simp only [hopen, reduceCtorEq] at h
    | some c =>
      simp only [hopen, Option.some.injEq, Prod.mk.injEq] at h
      rw [← h.2.2, Abl.superCause_tab]
      exact Abl.hsOpenBlock_tab (k := c.1) (b := c.2) hopen

@[simp] theorem Abl.hsAdmit_tab (a : Abl) (size : Nat) (ess : Bool) : (a.hsAdmit size ess).1.tab = a.tab := by
  have hruns : (if ess then a else a.hsRuns).tab = a.tab := by split <;> rfl
  unfold Abl.hsAdmit
  extract_lets free excess
  split
  · rfl
  split
  · rfl
  split
  · rfl
  split
  · split <;> exact hruns
  · exact hruns

@[simp] theorem Abl.hsWrite_tab (a : Abl) (rec : List Nat) (ess : Bool) (marks : List Nat) : (a.hsWrite rec ess marks).tab = a.tab := by
  unfold Abl.hsWrite
  cases hplace : a.hsPlace (rec.length + 8) with
  | none => simp only [hplace]
  | some c =>
    obtain ⟨k, off, b⟩ := c
    simp only [hplace, Abl.dayView_tab, Abl.on_tab]
    change (Abl.hsProgram _ _ _ _).tab = _
    rw [Abl.hsProgram_tab, Abl.hsProgram_tab, Abl.hsPlace_tab hplace]

@[simp] theorem Abl.hsStore_tab (a : Abl) (r : Record) (ess : Bool) : (a.hsStore r ess).tab = a.tab := by
  unfold Abl.hsStore
  split
  · rfl
  · simp only [apply_ite Abl.tab, Abl.hsWrite_tab, Abl.hsAdmit_tab, ite_self]

@[simp] theorem Abl.hsTable_tab (a : Abl) (table : Nat) (ess : Bool) : (a.hsTable table ess).tab = a.tab := Abl.hsStore_tab _ _ ess

/-! ## The mount of a blank store (R506, R507, R435) -/

/-- A formatted store holds no share. -/
theorem Abl.mountBlank_holdings (a : Abl) : a.mountBlank.tab.holdings = [] := by
  simp only [Abl.mountBlank, Abl.hsTable_tab]
  rw [foldl_keeps Abl.tab fun a k => congrArg HistX.tab (Abl.applySource_hist a (sourceKey k 255) (2 ^ 32))]
  change (Abl.superWrite _).tab.holdings = []
  rw [Abl.superWrite_tab]
  rfl

/-- Where the store names no holding, none is reported lost. -/
theorem Abl.holdingsLost_of_none {a : Abl} (h : a.tab.holdings = []) : a.holdingsLost = a := by
  have hgone : (a.hist.tab.holdings.filter fun h => !a.sec.shares.any fun s => s.jobtag == h.1 && s.gen == 1) = [] := by
    rw [show a.hist.tab.holdings = [] from h, List.filter_nil]
  have htab : ({ a.hist.tab with holdings := a.hist.tab.holdings.filter fun h => !([] : List (Nat × Nat × Nat)).contains h } : HistTab) = a.hist.tab :=
    congrArg (fun l => ({ a.hist.tab with holdings := l } : HistTab)) (List.filter_eq_self.2 fun _ _ => rfl)
  simp only [Abl.holdingsLost, hgone, List.foldl_nil]
  exact congrArg (fun t => ({ a with hist := { a.hist with tab := t } } : Abl)) htab

theorem Abl.mount_of_blank {a : Abl} (hmount : a.hsMount = 0) (hup : a.n.fld Reg.ABL_STATUS 0 16 4 = 2) (h0 : a.hist.newest 0 = none)
    (h1 : a.hist.newest 1 = none) : a.mount = a.mountBlank := by
  have hmay : (decide (2 ≤ a.hsMount) || decide (a.n.fld Reg.ABL_STATUS 0 16 4 ≠ 2)) = false := by simp [hmount, hup]
  simp only [Abl.mount, hmay, h0, h1, Nat.lt_irrefl, Bool.false_eq_true, if_false]

theorem Abl.mountHeld_of_blank {a : Abl} (hmount : a.hsMount = 0) (hup : a.n.fld Reg.ABL_STATUS 0 16 4 = 2) (h0 : a.hist.newest 0 = none)
    (h1 : a.hist.newest 1 = none) : a.mountHeld = a.mountBlank := by
  rw [Abl.mountHeld, Abl.mount_of_blank hmount hup h0 h1, Abl.holdingsLost_of_none a.mountBlank_holdings, ite_self]

/-- A store that a newer format seals against this firmware stays as it is. -/
theorem Abl.mountHeld_of_refused {a : Abl} (h : a.hsMount = 3) : a.mountHeld.sealedBoot = a := by
  have hmount : a.mount = a := if_pos (by simp [h])
  have hheld : a.mountHeld = a := by rw [Abl.mountHeld, hmount]; exact if_pos (by simp [h])
  rw [hheld]
  exact if_neg (by simp [h])

end Sys2Proof.Machine
end

section
/-!
SUPPORT. The commands of the history store (R500, R503, R504, R508, R511, R514, R517, R518, R526, R528, R533), one lemma for each way that a command
goes.
-/

namespace Sys2Proof.Machine

/-! ## Appends (R500, R514, R516) -/

theorem Abl.hsAppend_of_off {a : Abl} (h : a.hsOn = false) (ess : Bool) (r : Record) : a.hsAppend ess r = a := if_pos (by simp [h])

/-- An append that may begin is stored if the store admits it. -/
theorem Abl.hsAppend_of_on {a : Abl} (hon : a.hsOn = true) (hpending : a.hist.pending = none) {b : Abl} {ess ok : Bool} {r : Record}
    (hadmit : a.hsAdmit r.size ess = (b, ok)) : a.hsAppend ess r = if ok then
      (if (b.hsWrite r.bytes ess []).n.rd Reg.ABL_HS_JSEQ = b.n.rd Reg.ABL_HS_JSEQ then b.hsWrite r.bytes ess []
       else (b.hsWrite r.bytes ess []).onHist fun h => { h with pending := some (b.n.rd Reg.ABL_HS_JSEQ, ess, r.bytes) }) else b := by
  simp only [Abl.hsAppend, hon, hpending, hadmit, Option.isSome_none, Bool.not_true, Bool.or_self, Bool.false_eq_true, if_false]

/-- An ordinary record finds no room below 256 free blocks. -/
theorem Abl.hsAdmit_of_low_space {a : Abl} (h : a.hist.freeCount < 256) (size : Nat) :
    a.hsAdmit size false = (a.onHist fun h => { h with spaceRun := h.spaceRun + 1 }, false) := by
  simp only [Abl.hsAdmit, h, Bool.and_false, Bool.not_false, Bool.and_true, decide_true, Bool.false_eq_true, if_false, if_true]

/-- An essential record is stored while the store has space and stands below its cap. -/
theorem Abl.hsAdmit_of_essential {a : Abl} (hspace : 256 ≤ a.hist.freeCount)
    (hcap : a.hist.hours.sum < a.n.fld Reg.ABL_HS_CTRL 0 16 16 * 1000000) (size : Nat) : a.hsAdmit size true = (a, true) := by
  have hroom : ¬ a.hist.freeCount < 32 := by omega
  simp only [Abl.hsAdmit, hroom, Nat.not_le.2 hcap, decide_false, Bool.false_and, Bool.not_true, Bool.and_false, Bool.false_eq_true, if_false,
    if_true]

theorem Abl.hsMark_of_none {a : Abl} (h : a.hist.pending = none) (p : Nat) : a.hsMark p = a := by simp only [Abl.hsMark, h]

/-- The MARK of the only record on the only path. -/
theorem Abl.hsMark_of_one {a : Abl} {p : Nat} {x : HsRec} {ess : Bool} {b : List Nat} (hpending : a.hist.pending = some (x.jseq, ess, b))
    (hpwr : a.hist.pwrFail = false) (hpaths : a.hsPaths = [p]) (hlog : a.hist.log = [x]) (hmarks : x.marks = []) :
    a.hsMark p = (a.hsProgram [p] (65536 * x.block + x.off) [0x5A]).onHist fun h =>
      { h with log := h.log.map (fun y => if y.jseq = x.jseq then { y with marks := [p] } else y),
               pending := if (a.hsProgram [p] (65536 * x.block + x.off) [0x5A]).hsPaths.all [p].contains then none else h.pending } := by
  have hpath : ([p].contains p) = true := by simp
  have hmark : ([] : List Nat).contains p = false := rfl
  have hfind : [x].find? (fun y => y.jseq == x.jseq) = some x := by simp
  simp only [Abl.hsMark, hpending, hpwr, hpaths, hpath, hlog, hfind, hmarks, hmark, Bool.not_true, Bool.or_self, Bool.false_eq_true, if_false,
    List.nil_append]

/-! ## Power and superblocks (R503, R504) -/

theorem Abl.pwrFailed_of_idle {a : Abl} (hpwr : a.hist.pwrFail = false) (hop : a.hist.op = none) :
    a.pwrFailed = (a.onHist fun h => { h with pwrFail := true }).on fun n => (n.satFld Reg.ABL_HS_PWRFAIL 0 0 32 1).irqAll 2 := by
  simp only [Abl.pwrFailed, hpwr, hop, Option.isSome_none, Bool.false_eq_true, if_false]

theorem Abl.superDue_of_first {a : Abl} (hdue : a.hist.sbDue = true) (hat : a.hist.sbAt = none) : a.superDue = a.superWrite := by
  simp only [Abl.superDue, hdue, hat]

theorem Abl.superDue_of_early {a : Abl} {t : Nat} (hdue : a.hist.sbDue = true) (hat : a.hist.sbAt = some t) (hearly : a.n.local < t + 10000000000) :
    a.superDue = a := by
  simp only [Abl.superDue, hdue, hat, Nat.not_le.2 hearly, if_false]

/-! ## Compaction (R517, R518) -/

theorem Abl.compactStart_of_no_cause {a : Abl} (h : a.compactCause = false) : a.compactStart = a := if_pos (by simp [h])

/-- A pass that is not urgent starts. -/
theorem Abl.compactStart_of_cause {a : Abl} (hon : a.hsOn = true) (hpass : a.hist.pass = none) (hcause : a.compactCause = true)
    (hmay : a.n.bit Reg.ABL_HS_CTRL 0 1 = true) (htoday : a.passesToday.length < 24) (hspace : 32 ≤ a.hist.freeCount) :
    ∃ (b : Abl) (x : PassX), a.compactStart = (b.onHist fun h =>
      { h with pass := some x, passDue := none, passTimes := b.n.tideline :: b.passesToday }).compactNote 0 1 0 ∧ x.urgent = false := by
  have hcalm : ¬ a.hist.freeCount < 32 := Nat.not_lt.2 hspace
  simp only [Abl.compactStart, hon, hpass, hcause, hmay, htoday, hcalm, Option.isSome_none, decide_true, decide_false, Bool.not_true, Bool.or_self,
    Bool.and_self, Bool.true_or, Bool.false_eq_true, if_false]
  exact ⟨_, _, rfl, rfl⟩

theorem Abl.compactDone_of_no_pass {a : Abl} (h : a.hist.pass = none) : a.compactDone = a := by simp only [Abl.compactDone, h]

theorem Abl.compactResume_eq (a : Abl) : a.compactResume =
    if a.compactSt = 3 ∧ (a.n.mc.highAt + 10000000 ≤ a.n.local ∨ a.hist.freeCount < 32) then a.compactNote 3 1 0 else a := by
  simp only [Abl.compactResume, Bool.and_eq_true, Bool.or_eq_true, decide_eq_true_eq]

/-- A pass whose chain is complete ends, with its operation. -/
theorem Abl.compactDone_of_pass {a : Abl} {x : PassX} (hpass : a.hist.pass = some x) (hst : a.compactSt = 1) (hfree : a.superFree = true) :
    ∃ (b : Abl) (free : List Nat) (h : Nat), a.compactDone = ((b.on fun n => n.opEnd h stOk 1
      [free.length, x.bytes, free.length, (b.n.local - x.began) / 1000000]).onHist fun h => { h with pass := none }) ∧ h = x.handle := by
  have hgo : (decide (a.compactSt ≠ 1) || !a.superFree) = false := by simp [hst, hfree]
  simp only [Abl.compactDone, hpass, hgo, Bool.false_eq_true, if_false]
  exact ⟨_, _, _, rfl, rfl⟩

/-! ## Exposure and exports (R511, R528) -/

/-- The tally's only entry goes into EXPOSE. -/
theorem Abl.exposureFlush_of_one {a b : Abl} {e : Nat × Nat × Nat} {serial day : Nat} {c : CellRec} (hon : a.hsOn = true) (htally : a.hist.tally = [e])
    (hb : b = a.onHist fun h => { h with tally := [] }) (hserial : serial = b.serialAt e.1) (hknown : serial ≠ 0) (hday : day = b.n.ltime / 86400)
    (hc : c = b.hist.tab.cell serial e.2.1 e.2.2) :
    a.exposureFlush = (b.onTab fun t => t.putCell { c with
      expose := (bindKey c.expose day (lookupD c.expose day 0 + 1)).filter fun x => decide (day < x.1 + 8) }).on fun n =>
        n.emit 0 2 0x1B 0x0002 650 (le 4 (n.tideline / 4294967296) ++ le 8 serial ++ le 2 e.2.1 ++ [e.2.2, 0] ++ le 4 day ++ le 4 1) 8 := by
  subst hday hc hserial
  have hone : [e].eraseDups = [e] := rfl
  have hcount : [e].count e = 1 := List.count_singleton_self
  simp only [Abl.exposureFlush, hon, htally, hone, hcount, List.foldl_cons, List.foldl_nil, ← hb, hknown, Bool.not_true, Bool.false_eq_true, if_false,
    Nat.reducePow]

theorem Abl.exposureFlush_of_empty {a : Abl} (hon : a.hsOn = true) (htally : a.hist.tally = []) :
    a.exposureFlush = a.onHist fun h => { h with tally := [] } := by
  simp only [Abl.exposureFlush, hon, htally, List.eraseDups_nil, List.foldl_nil, Bool.not_true, Bool.false_eq_true, if_false]

theorem Abl.exportTimeout_of_none {a : Abl} (h : a.hist.exports = []) : a.exportTimeout = a := by
  simp only [Abl.exportTimeout, h, List.filter_nil, List.foldl_nil]

/-- The only transfer of the ledger, suspended for 10 min, ends CANCELLED. -/
theorem Abl.exportTimeout_of_one {a : Abl} {e : ExportX} {t : Nat} (hexports : a.hist.exports = [e]) (hsuspended : e.suspendedAt = some t)
    (hlate : t + 600000000000 ≤ a.n.local) :
    a.exportTimeout = (a.onHist fun h => { h with exports := [] }).on fun n =>
      n.opEnd e.handle stCancelled 0 [e.segs, e.bytes, 0, a.n.rd Reg.ABL_HS_JSEQ - 1] := by
  have hrest : (a.onHist fun h => { h with exports := h.exports.filter fun x => x.handle != e.handle }) = a.onHist fun h => { h with exports := [] } := by
    simp [Abl.onHist, hexports]
  simp only [Abl.exportTimeout, hexports, List.filter_cons, List.filter_nil, hsuspended, hlate, decide_true, if_true, List.foldl_cons, List.foldl_nil,
    hrest]
  rfl

/-! ## The controller's operations (R533) -/

theorem Abl.hsOpStart_of_idle {a : Abl} {op : Nat} (hop : a.hist.op = none) (hmay : op = 1 ∨ a.hist.pwrFail = false) (paths addr : Nat) :
    a.hsOpStart op paths addr =
      (a.onHist fun h => { h with op := some (op, paths % 4, addr % 2 ^ 32) }).on fun n => n.setB Reg.ABL_HS_OP_STATUS 0 0 true := by
  refine if_neg ?_
  obtain hread | hpwr := hmay
  · simp [hop, hread]
  · simp [hop, hpwr]

theorem exec_hsOp {i : Instr} {who : Requester} {op paths addr : Nat} (h : (i, op) ∈ [(Instr.hsOpRead who paths addr, 1), (Instr.hsOpProgram who paths addr, 2),
    (Instr.hsOpErase who paths addr, 3), (Instr.hsOpProgramMark who paths addr, 4)]) (s : State) : exec i s = hsOpBy who op paths addr s := by
  simp only [List.mem_cons, List.not_mem_nil, or_false, Prod.mk.injEq] at h
  obtain ⟨rfl, rfl⟩ | ⟨rfl, rfl⟩ | ⟨rfl, rfl⟩ | ⟨rfl, rfl⟩ := h <;> rfl

/-- A read beyond the 256 MiB of the store. -/
theorem Abl.hsOpDone_of_beyond {a : Abl} {paths addr : Nat} (hop : a.hist.op = some (1, paths, addr)) (haddr : 268435456 ≤ addr) (fail : Nat) :
    a.hsOpDone fail = (a.onHist fun h => { h with op := none }).on fun n => (n.wr Reg.ABL_HS_OP_STATUS 0 (stBad * 65536)).irq 97 := by
  have hout : decide (addr < 2 ^ 28) = false := decide_eq_false (Nat.not_lt.2 haddr)
  simp only [Abl.hsOpDone, hop, hout, Bool.not_false, if_true, decide_true, Bool.true_or]

/-- A read on the only path, which does not fail. -/
theorem Abl.hsOpDone_of_read {a b : Abl} {fail addr p : Nat} (hop : a.hist.op = some (1, 2 ^ p, addr)) (haddr : addr < 268435456)
    (hpaths : a.hsPaths = [p]) (hgood : bit fail p = false) (hbit : bit (2 ^ p) p = true) (hb : b = a.onHist fun h => { h with op := none }) :
    a.hsOpDone fail = (b.on fun n => n.wr Reg.ABL_HS_BUF 0 (leNat (b.hist.read p addr 4096))).on fun n =>
      (n.wr Reg.ABL_HS_OP_STATUS 0 (stOk * 65536)).irq 97 := by
  have hin : decide (addr < 2 ^ 28) = true := decide_eq_true haddr
  simp only [Abl.hsOpDone, hop, hin, hpaths, ← hb, List.filter_cons, List.filter_nil, hgood, hbit, Bool.not_true, Bool.not_false, Bool.false_eq_true,
    if_false, if_true, List.foldl_nil, decide_true, Bool.true_or, List.isEmpty_cons]

/-- Settles O27: each command by what the store does. -/
theorem historyStoreCommandsComplete : Obligations.HistoryStoreCommandsComplete := by
  unfold Obligations.HistoryStoreCommandsComplete
  refine ⟨?_, ?_, ?_, ?_, ?_, ?_, ?_, ?_, ?_, ?_, ?_, ?_, ?_, ?_, ?_, ?_, ?_, ?_, ?_, ?_, ?_, ?_, ?_, ?_, ?_⟩
  · intro s ess r hoff
    exact onAbl_eq_next (f := fun a => a.hsAppend ess r) (Abl.hsAppend_of_off hoff ess r)
  · intro s r hon hpending hlow
    exact onAbl_eq_next (f := fun a => a.hsAppend false r) ((Abl.hsAppend_of_on hon hpending (Abl.hsAdmit_of_low_space hlow r.size)).trans (if_neg Bool.false_ne_true))
  · intro s r b hon hpending hspace hcap hb hseq
    subst hb
    refine onAbl_eq_next (f := fun a => a.hsAppend true r) ((Abl.hsAppend_of_on hon hpending (Abl.hsAdmit_of_essential hspace hcap r.size)).trans ?_)
    rw [if_pos rfl, hseq]
    exact if_neg (Nat.succ_ne_self _)
  · intro s p hnone
    exact onAbl_eq_next (f := fun a => a.hsMark p) (Abl.hsMark_of_none hnone p)
  · intro s p x ess b hpending hpwr hpaths hlog hmarks
    exact onAbl_eq_next (f := fun a => a.hsMark p) (Abl.hsMark_of_one hpending hpwr hpaths hlog hmarks)
  · intro s hmount
    exact onAbl_eq_next (f := fun a => a.mountHeld.sealedBoot) (Abl.mountHeld_of_refused hmount)
  · intro s hmount hup h0 h1
    exact onAbl_eq_next (f := fun a => a.mountHeld.sealedBoot) (congrArg Abl.sealedBoot (Abl.mountHeld_of_blank hmount hup h0 h1))
  · intro s hpwr hop
    exact onAbl_eq_next (f := Abl.pwrFailed) (Abl.pwrFailed_of_idle hpwr hop)
  · intro s
    exact onAbl_eq_next (f := Abl.pwrResume) rfl
  · intro s hpwr hdue hat
    exact onAbl_eq_next (f := fun a => if a.hist.pwrFail then a else a.superDue)
      ((if_neg (by simp [hpwr])).trans (Abl.superDue_of_first hdue hat))
  · intro s t hdue hat hearly
    refine onAbl_eq_next (f := fun a => if a.hist.pwrFail then a else a.superDue) ?_
    simp only [Abl.superDue_of_early hdue hat hearly, ite_self]
  · intro s hcause
    exact onAbl_eq_next (f := Abl.compactStart) (Abl.compactStart_of_no_cause hcause)
  · intro s hon hpass hcause hmay htoday hspace
    obtain ⟨b, x, hstart, hcalm⟩ := Abl.compactStart_of_cause hon hpass hcause hmay htoday hspace
    exact ⟨b, x, onAbl_eq_next (f := Abl.compactStart) hstart, hcalm⟩
  · intro s hpass
    exact ⟨onAbl_eq_next (f := Abl.compactDone) (Abl.compactDone_of_no_pass hpass), onAbl_eq_next (f := Abl.compactResume) s.abl.compactResume_eq⟩
  · intro s x hpass hst hfree
    obtain ⟨b, free, h, hdone, hh⟩ := Abl.compactDone_of_pass hpass hst hfree
    exact ⟨b, free, h, onAbl_eq_next (f := Abl.compactDone) hdone, hh⟩
  · intro s a ha
    subst ha
    exact onAbl_eq_next (f := Abl.dayBucket) rfl
  · intro s e a serial day c hon htally ha hserial hknown hday hc
    exact onAbl_eq_next (f := Abl.exposureFlush) (Abl.exposureFlush_of_one hon htally ha hserial hknown hday hc)
  · intro s hon htally
    exact onAbl_eq_next (f := Abl.exposureFlush) (Abl.exposureFlush_of_empty hon htally)
  · intro s hon
    exact onAbl_eq_next (f := Abl.baselineSave) (if_neg (by simp [hon]))
  · intro s hexports
    exact onAbl_eq_next (f := Abl.exportTimeout) (Abl.exportTimeout_of_none hexports)
  · intro s e t hexports hsuspended hlate
    exact onAbl_eq_next (f := Abl.exportTimeout) (Abl.exportTimeout_of_one hexports hsuspended hlate)
  · intro s paths addr op i hop hmay hi
    rw [exec_hsOp hi]
    exact onAbl_eq_next (f := fun a => if Requester.firmware = .firmware then a.hsOpStart op paths addr else a.on fun n => n.bump Reg.ABL_HS_DENIED)
      ((if_pos rfl).trans (Abl.hsOpStart_of_idle hop hmay paths addr))
  · intro s who paths addr i hwho hi
    have hdenied (op : Nat) : hsOpBy who op paths addr s = .next (s.settleAbl (s.abl.on fun n => n.bump Reg.ABL_HS_DENIED)) :=
      onAbl_eq_next (f := fun a => if who = .firmware then a.hsOpStart op paths addr else a.on fun n => n.bump Reg.ABL_HS_DENIED) (if_neg hwho)
    simp only [List.mem_cons, List.not_mem_nil, or_false] at hi
    obtain rfl | rfl | rfl | rfl := hi
    · exact hdenied 1
    · exact hdenied 2
    · exact hdenied 3
    · exact hdenied 4
  · intro s fail paths addr hop haddr
    exact onAbl_eq_next (f := fun a => a.hsOpDone fail) (Abl.hsOpDone_of_beyond hop haddr fail)
  · intro s fail addr p a hop haddr hpaths hgood hbit ha
    exact onAbl_eq_next (f := fun a => a.hsOpDone fail) (Abl.hsOpDone_of_read hop haddr hpaths hgood hbit ha)

end Sys2Proof.Machine
end

section
/-!
SUPPORT. The sentinel's power states, its domains and the tray's budget (R537, R539 to R541, R546, R547, R564), one lemma for each way that a command
goes.
-/

namespace Sys2Proof.Machine

/-! ## Slack and waking (R539 to R541) -/

/-- The sentinel once the main group has lost its power. -/
theorem Abl.slackDone_of_entering {a b : Abl} (hstate : a.n.pwrState = 3) (hresets : a.n.resets = [])
    (hb : b = (({ a.mainLost with pwr := { a.mainLost.pwr with wake := 0 }, pins := { a.mainLost.pins with mainEn := false } } : Abl).on fun n =>
      n.setFld Reg.ABL_PWR_STATE 0 0 3 0)) : a.slackDone = b.wakeUp a.pwr.wake := by
  subst hb
  exact if_neg (by simp [hstate, hresets])

theorem Abl.slackDone_of_not_entering {a : Abl} (h : a.n.pwrState ≠ 3) : a.slackDone = a := if_pos (by simp [h])

section
variable {a : Abl} {causes w : Nat} (hw : w = causes &&& a.n.fld Reg.ABL_PWR_WAKE_EN 0 0 5) (hany : w ≠ 0)
include hw hany

theorem Abl.wakeUp_of_entering (hstate : a.n.pwrState = 3) : a.wakeUp causes = { a with pwr := { a.pwr with wake := a.pwr.wake ||| w } } := by
  subst hw
  simp only [Abl.wakeUp, hany, hstate, if_false, if_true]

theorem Abl.wakeUp_of_slack (hstate : a.n.pwrState = 0) :
    a.wakeUp causes = ({ a with pwr := { a.pwr with wake := w }, pins := { a.pins with mainEn := a.pins.aonPgood && !a.pins.thermtrip } } : Abl).on fun n =>
      (n.setFld Reg.ABL_PWR_STATE 0 0 3 4).wr Reg.ABL_PWR_WAKE_CAUSE 0 (n.rd Reg.ABL_PWR_WAKE_CAUSE ||| w) := by
  subst hw
  simp only [Abl.wakeUp, hany, hstate, OfNat.zero_ne_ofNat, if_false, if_true]

end

theorem Abl.wakeAt_of_early {a : Abl} (h : dist32 a.n.now (a.n.rd Reg.ABL_PWR_WAKE_AT) < 0) : a.wakeAt = a := if_neg (not_le.2 h)

theorem Abl.wakeAt_of_due {a : Abl} (h : 0 ≤ dist32 a.n.now (a.n.rd Reg.ABL_PWR_WAKE_AT)) : a.wakeAt = a.wakeUp 16 := if_pos h

/-- A wake that ends with no store mounted and no proposal open. -/
theorem Abl.wakeDone_of_bare {a b : Abl} (hstate : a.n.pwrState = 4) (hmain : a.pins.mainPgood = true) (hlost : a.pins.lost = false)
    (hb : b = ((({ a with pwr := { a.pwr with wake := 0 } } : Abl).on fun n => n.setFld Reg.ABL_PWR_STATE 0 0 3 1).pwrRec 0 1 (wakeCause a.pwr.wake)).on Node.timeWake)
    (hmount : b.hsMount = 0) (hprops : b.gov.props = []) : a.wakeDone = b := by
  have hgo : (decide (a.n.pwrState ≠ 4) || !a.pins.mainPgood || a.pins.lost) = false := by simp [hstate, hmain, hlost]
  have hbare : (decide (b.hsMount = 2) || decide (b.hsMount = 4)) = false := by simp [hmount]
  simp only [Abl.wakeDone, hgo, ← hb, hbare, hprops, List.filter_nil, List.foldl_nil, Bool.false_eq_true, if_false]

/-! ## Domains (R537, R541) -/

/-- A demand of the Securing Engine also starts HBM, first. -/
theorem Abl.domDemand_of_securing {a : Abl} (hstate : a.n.pwrState = 1) (hidle : a.pwr.starting = []) (h2 : a.n.domOn 2 = false) (h3 : a.n.domOn 3 = false) :
    a.domDemand 8 = ({ a with pwr := { a.pwr with starting := [2, 3] } } : Abl).on fun n => n.setFld Reg.ABL_PWR_STATE 0 0 3 2 := by
  have hks : (domOrder.filter fun k => (bit 8 k || (k == 2 && [0, 3, 4].any fun j => bit 8 j)) && !a.n.domOn k && !([] : List Nat).contains k) = [2, 3] := by
    simp [domOrder, bit, h2, h3]
  have hup : (decide (a.n.pwrState ≠ 1) && decide (a.n.pwrState ≠ 2)) = false := by simp [hstate]
  have hgrid : [2, 3].contains 0 = false := rfl
  simp only [Abl.domDemand, hup, hks, hidle, hgrid, List.isEmpty_cons, List.nil_append, Bool.false_eq_true, if_false]

theorem Abl.domReady_of_starting {a : Abl} {k : Nat} (hk : k ∈ a.pwr.starting) (hother : 2 ≤ k) :
    a.domReady k = ({ a with pwr := { a.pwr with starting := a.pwr.starting.filter (fun j => j != k), idleAt := bindKey a.pwr.idleAt k a.n.local } } : Abl).on fun n =>
      (n.domStart k).irq 145 := by
  have hgo : (!a.pwr.starting.contains k) = false := by simpa using hk
  obtain ⟨j, rfl⟩ := Nat.exists_eq_add_of_le' hother
  simp only [Abl.domReady, hgo, Bool.false_eq_true, if_false]

theorem Abl.domReady_of_not_starting {a : Abl} {k : Nat} (hk : k ∉ a.pwr.starting) : a.domReady k = a := if_pos (by simpa using hk)

/-- A domain that has had no work for ABL_PWR_DOM_IDLE_US stops. -/
theorem Abl.domIdle_of_late {a : Abl} {k : Nat} (hk : k ∈ [1, 3, 4]) (hon : a.n.domOn k = true) (hbusy : a.domBusy k = false)
    (hlate : lookupD a.pwr.idleAt k 0 + a.n.fld Reg.ABL_PWR_DOM_IDLE_US 0 0 20 * 1000 ≤ a.n.local) : a.domIdle k = a.domStop k :=
  if_pos (by simpa [hon, hbusy, hlate, or_assoc] using hk)

/-! ## The tray's budget (R546, R547) -/

theorem Abl.divide_of_not_tray {a : Abl} (h : a.n.role ≠ 1) : a.divide = a := if_pos (by simp [h])

/-- One die takes all of the budget that the floors and the reserve leave. -/
theorem capsOf_one {p demand floor total : Nat} (hfloor : floor ≤ total) (hdemand : demand ≤ floor) : capsOf [(p, demand)] floor total = [(p, total)] := by
  have hone : ¬ total < 1 * floor := by omega
  have hcap : floor + (demand - floor) + (total - 1 * floor - (demand - floor + 0)) / 1 = total := by rw [Nat.div_one]; omega
  have hsum : demand - floor + 0 ≤ total - 1 * floor := by omega
  simp only [capsOf, List.length_cons, List.length_nil, Nat.zero_add, hone, List.map_cons, List.map_nil, List.sum_cons, List.sum_nil, hsum, hcap,
    if_false, if_true]

/-- The division among one die whose cap does not fall. -/
theorem Abl.divide_of_one {a : Abl} {p b : Nat} (hb : b = a.n.rd Reg.ABL_PWR_BUDGET) (hvalid : bit b 63 = true) (hpowered : a.powered = [p])
    (hrole : a.n.role = 1) (hfits : bits b 16 16 + bits b 32 16 ≤ bits b 0 16) (hdemand : a.demandOf p ≤ bits b 32 16)
    (hcap : a.n.dieCap p ≤ bits b 0 16 - bits b 16 16) (hfalling : a.pwr.falling = []) :
    a.divide = ({ a with pwr := { a.pwr with falling := [], rising := [(p, bits b 0 16 - bits b 16 16)], fallAt := a.n.local } } : Abl).sendRising := by
  have hcaps : capsOf [(p, a.demandOf p)] (bits b 32 16) (bits b 0 16 - bits b 16 16) = [(p, bits b 0 16 - bits b 16 16)] :=
    capsOf_one (by omega) hdemand
  have hgo : (!bit b 63 || [p].isEmpty || decide (a.n.role ≠ 1)) = false := by simp [hvalid, hrole]
  have hexcess : ¬ bits b 0 16 < bits b 16 16 + 1 * bits b 32 16 := by omega
  simp only [Abl.divide, ← hb, hpowered, hgo, hcaps, hexcess, hcap, hfalling, Nat.not_lt.2 hcap, List.length_cons, List.length_nil, Nat.zero_add,
    List.map_cons, List.map_nil, List.filter_cons, List.filter_nil, List.foldl_nil, List.append_nil, List.isEmpty_nil, decide_true, decide_false,
    Bool.false_eq_true, if_false, if_true]

/-- Settles O28: each command by what the sentinel does. -/
theorem sentinelPowerCommandsComplete : Obligations.SentinelPowerCommandsComplete := by
  unfold Obligations.SentinelPowerCommandsComplete
  refine ⟨?_, ?_, ?_, ?_, ?_, ?_, ?_, ?_, ?_, ?_, ?_, ?_, ?_, ?_, ?_, ?_⟩
  · intro s a hstate hresets ha
    exact onAbl_eq_next (f := Abl.slackDone) (Abl.slackDone_of_entering hstate hresets ha)
  · intro s hstate
    exact onAbl_eq_next (f := Abl.slackDone) (Abl.slackDone_of_not_entering hstate)
  · intro s causes w hw hany hstate
    exact onAbl_eq_next (f := fun a => a.wakeUp causes) (Abl.wakeUp_of_entering hw hany hstate)
  · intro s causes w hw hany hstate
    exact onAbl_eq_next (f := fun a => a.wakeUp causes) (Abl.wakeUp_of_slack hw hany hstate)
  · intro s a hstate hmain hlost ha hmount hprops
    exact onAbl_eq_next (f := Abl.wakeDone) (Abl.wakeDone_of_bare hstate hmain hlost ha hmount hprops)
  · intro s hearly
    exact onAbl_eq_next (f := Abl.wakeAt) (Abl.wakeAt_of_early hearly)
  · intro s hdue
    exact onAbl_eq_next (f := Abl.wakeAt) (Abl.wakeAt_of_due hdue)
  · intro s w hdue hw hany hstate
    exact onAbl_eq_next (f := Abl.wakeAt) ((Abl.wakeAt_of_due hdue).trans (Abl.wakeUp_of_slack hw hany hstate))
  · intro s hstate hidle h2 h3
    exact onAbl_eq_next (f := fun a => a.domDemand 8) (Abl.domDemand_of_securing hstate hidle h2 h3)
  · intro s k hk hother
    exact onAbl_eq_next (f := fun a => a.domReady k) (Abl.domReady_of_starting hk hother)
  · intro s k hk
    exact onAbl_eq_next (f := fun a => a.domReady k) (Abl.domReady_of_not_starting hk)
  · intro s k hk hon hbusy hlate
    exact onAbl_eq_next (f := fun a => a.domIdle k) (Abl.domIdle_of_late hk hon hbusy hlate)
  · intro s hrole
    exact onAbl_eq_next (f := Abl.divide) (Abl.divide_of_not_tray hrole)
  · intro s p b hb hvalid hpowered hrole hfits hdemand hcap hfalling
    exact onAbl_eq_next (f := Abl.divide) (Abl.divide_of_one hb hvalid hpowered hrole hfits hdemand hcap hfalling)
  · intro s p a ha
    subst ha
    exact onAbl_eq_next (f := fun a => a.capAck p) rfl
  · intro s logic memory temp
    exact ⟨s.abl.powerLoop logic memory temp, onAbl_eq_next (f := fun a => a.powerLoop logic memory temp) rfl, rfl⟩

end Sys2Proof.Machine
end

section
/-!
SUPPORT. A window of the DDU's power controller while the reset of sub-block 10 holds (R70, R553).
-/

namespace Sys2Proof.Machine

open Safety

/-- A DDU in Ebb whose sub-block 10 is in reset, and which shows 5 in DDU_PWR_LAST. -/
def resetState : State :=
  { ddu := { n := (((({ dev := .ddu } : Node).setFld Reg.DDU_PWR_STATE 0 0 3 1).wr Reg.DDU_SUBRESET 0 1024).wr Reg.DDU_PWR_CTRL 0 0).wr
                     Reg.DDU_PWR_LAST 0 5 }
    abl := { n := { dev := .abl } } }

/-- The totals that a window takes. -/
def Ddu.withTotals (d : Ddu) : Ddu := { d with pw := { d.pw with totals := (List.range 8).map fun c => d.rd Reg.DDU_CLASS_TOTAL c } }

/-- What the clause says of the DDU after the window. -/
def windowClaim : Ddu := ((resetState.ddu.withTotals.wr Reg.DDU_PWR_LAST 0 0).wr Reg.DDU_PWR_USED 0 0).loadView

/-- In the model nothing runs in the reset. -/
theorem last_of_loopWindow : (resetState.settleDdu resetState.ddu.loopWindow).ddu.rd Reg.DDU_PWR_LAST = 5 := by
  have hheld : resetState.ddu.loopWindow = resetState.ddu := if_pos (by decide +kernel)
  rw [hheld, quietDevicesOweNothing.1 resetState resetState.ddu (by decide +kernel)]
  decide +kernel

/-- The DDU that the clause names. -/
def windowEnd : Ddu :=
  { windowClaim with
    pw := { windowClaim.pw with
      unthrottled := unthrottledW (List.replicate 8 0) ((List.range 8).map fun c => windowClaim.n.fld Reg.DDU_PWR_LEVEL 0 (4 * c) 4) 0 } }

/-- The window that the clause describes writes 0. -/
theorem last_of_windowEnd : (resetState.settleDdu windowEnd).ddu.rd Reg.DDU_PWR_LAST = 0 := by
  rw [quietDevicesOweNothing.1 resetState windowEnd (by decide +kernel)]
  decide +kernel

/-- Refutes O29: its clause on POWER_LOOP_WINDOW asks only that the sub-block reset of bit 4 is off; in the model the reset of bit 10 stops the window
as well. -/
theorem not_diePowerCommandsComplete : ¬ Obligations.DiePowerCommandsComplete := by
  unfold Obligations.DiePowerCommandsComplete
  rintro ⟨-, -, -, -, -, -, -, hwindow, -⟩
  have hclaim := hwindow resetState windowClaim (by decide +kernel) (by decide +kernel) rfl (by decide +kernel) rfl rfl (by decide +kernel)
    (by decide +kernel)
  have hmodel : exec .powerLoopWindow resetState = .next (resetState.settleDdu resetState.ddu.loopWindow) := rfl
  have hsame := Host.Outcome.next.inj (hmodel.symm.trans hclaim)
  have hlast := last_of_loopWindow
  rw [hsame] at hlast
  exact absurd (last_of_windowEnd.symm.trans hlast) (by decide)

end Sys2Proof.Machine
end

section
/-!
SUPPORT. The commands of the interrupt controllers (R574 to R578, R590, R591), one lemma for each way that a command goes.
-/

namespace Sys2Proof.Machine

open Safety

section
variable {n : Node} {id : Nat} (hpos : 0 < id) (hshared : id < privBase n.dev)
include hpos hshared

/-! ## Requests of shared sources (R577) -/

theorem Node.aicRequest_of_level (hlevel : n.aicEdge id = false) (core : Nat) (high : Bool) :
    n.aicRequest id core high = { n with aic := { n.aic with lines := (n.aic.lines.filter fun x => x != id) ++ (if high = true then [id] else []) } } := by
  simp only [Node.aicRequest, hpos.ne', Nat.not_le.2 hshared, hlevel, Bool.false_eq_true, if_false]

theorem Node.aicRequest_of_edge (hedge : n.aicEdge id = true) (core : Nat) (high : Bool) :
    n.aicRequest id core high = if high then n.irq id else n := by
  simp only [Node.aicRequest, hpos.ne', Nat.not_le.2 hshared, hedge, if_false, if_true]

/-- Firmware sets up a shared source whose target is a core of the device. -/
theorem Node.aicCfgWrite_of_shared {v : Nat} (htarget : bits v 16 3 < coresOf n.dev) (core : Nat) :
    n.aicCfgWrite core id v = n.softWrite (Reg.AIC_CFG n.dev) id 0xFFFFFFFF v := by
  simp only [Node.aicCfgWrite, hpos.ne', Nat.not_le.2 hshared, Nat.not_le.2 htarget, if_false]

end

/-! ## Claims and ends (R575, R576) -/

theorem Node.aicClaim_of_none {n : Node} {core : Nat} (h : n.aicBest core = none) : n.aicClaim core = (n.bump (Reg.AIC_SPURIOUS n.dev), 0) := by
  simp only [Node.aicClaim, h]

/-- A claim of a shared source takes its pending edge. -/
theorem Node.aicClaim_of_shared {n m : Node} {core id p : Nat} (hbest : n.aicBest core = some (id, p))
    (hm : m = n.setStack core ((id, p) :: n.aicStack core)) (hshared : id < privBase m.dev) :
    n.aicClaim core = ({ m with aic := { m.aic with pend := m.aic.pend.filter fun y => y != id } }, id) := by
  subst hm
  simp only [Node.aicClaim, hbest, Nat.not_le.2 hshared, if_false]

theorem Node.aicEoi_of_top {n : Node} {core id p : Nat} {rest : List (Nat × Nat)} (h : n.aicStack core = (id, p) :: rest) :
    n.aicEoi core id = n.setStack core rest := by
  simp only [Node.aicEoi, h, if_true]

theorem Node.aicEoi_of_other {n : Node} {core id i p : Nat} {rest : List (Nat × Nat)} (h : n.aicStack core = (i, p) :: rest) (hother : i ≠ id) :
    n.aicEoi core id = n.bump (Reg.AIC_EOI_ERR n.dev) := by
  simp only [Node.aicEoi, h, hother, if_false]

/-- What a claim at the sentinel reads and leaves. -/
theorem exec_aicClaim_abl {s : State} {core id : Nat} {m : Node} (h : s.abl.n.aicClaim core = (m, id)) :
    exec (.aicClaim .abl core) s = .next (({ s with rdata := id, busErr := false } : State).settleAbl (s.abl.on fun _ => m)) := by
  change onAbl { s with rdata := (s.abl.n.aicClaim core).2, busErr := false } (fun a => a.on fun n => (n.aicClaim core).1) = _
  rw [h]
  exact onAbl_eq_next (f := fun a => a.on fun n => (n.aicClaim core).1) (congrArg (fun r => s.abl.on fun _ => r.1) h)

theorem exec_aicClaim_ddu {s : State} {core id : Nat} {m : Node} (h : s.ddu.n.aicClaim core = (m, id)) :
    exec (.aicClaim .ddu core) s = .next (({ s with rdata := id, busErr := false } : State).settleDdu (s.ddu.on fun _ => m)) := by
  change onDdu { s with rdata := (s.ddu.n.aicClaim core).2, busErr := false } (fun d => d.on fun n => (n.aicClaim core).1) = _
  rw [h]
  exact onDdu_eq_next (f := fun d => d.on fun n => (n.aicClaim core).1) (congrArg (fun r => s.ddu.on fun _ => r.1) h)

/-- Settles O30: each command by what the controller does. -/
theorem interruptCommandsComplete : Obligations.InterruptCommandsComplete := by
  unfold Obligations.InterruptCommandsComplete
  refine ⟨?_, ?_, ?_, ?_, ?_, ?_, ?_, ?_, ?_, ?_, ?_, ?_⟩
  · intro s dev id core high hdev hpos hshared hlevel
    exact onNode_eq_settled (f := fun n => n.aicRequest id core high) (Node.aicRequest_of_level hpos (hdev.symm ▸ hshared) hlevel core high)
  · intro s dev id core hdev hpos hshared hedge
    exact ⟨onNode_eq_settled (f := fun n => n.aicRequest id core true) (Node.aicRequest_of_edge hpos (hdev.symm ▸ hshared) hedge core true),
      onNode_eq_settled (f := fun n => n.aicRequest id core false) (Node.aicRequest_of_edge hpos (hdev.symm ▸ hshared) hedge core false)⟩
  · intro s core hnone
    exact exec_aicClaim_abl (Node.aicClaim_of_none hnone)
  · intro s core hnone
    exact exec_aicClaim_ddu (Node.aicClaim_of_none hnone)
  · intro s core id p n hbest hn hdev hshared
    exact exec_aicClaim_abl (Node.aicClaim_of_shared hbest hn (hdev.symm ▸ hshared))
  · intro s core id p n hbest hn hdev hshared
    exact exec_aicClaim_ddu (Node.aicClaim_of_shared hbest hn (hdev.symm ▸ hshared))
  · intro s dev core id p rest hstack
    exact onNode_eq_settled (f := fun n => n.aicEoi core id) (Node.aicEoi_of_top hstack)
  · intro s dev core id i p rest hstack hother
    exact onNode_eq_settled (f := fun n => n.aicEoi core id) (Node.aicEoi_of_other hstack hother)
  · intro s dev v hcore
    exact onNode_eq_settled (f := fun n => n.aicSgi v) (if_pos hcore)
  · intro s dev v hcore
    exact onNode_eq_settled (f := fun n => n.aicSgi v) (if_neg (Nat.not_lt.2 hcore))
  · intro s dev who core id v hwho
    exact onNode_eq_settled (f := fun n => if who = .firmware then n.aicCfgWrite core id v else n.bump (Reg.AIC_DENIED n.dev)) (if_neg hwho)
  · intro s dev core id v hpos hshared htarget
    exact onNode_eq_settled (f := fun n => if Requester.firmware = .firmware then n.aicCfgWrite core id v else n.bump (Reg.AIC_DENIED n.dev))
      ((if_pos rfl).trans (Node.aicCfgWrite_of_shared hpos hshared htarget core))

end Sys2Proof.Machine
end

section
/-!
SUPPORT. Engine resets, the watchdogs and the load of the complex (R581 to R587), one lemma for each way that a command goes.
-/

namespace Sys2Proof.Machine

open Safety

/-! ## Engine resets (R581 to R584) -/

/-- No engine below the Flood domains' waits for a domain. -/
theorem engDomain_of_lt {b : Nat} (h : b < 26) : engDomain b = none := by interval_cases b <;> rfl

/-- A reset that drains starts with what the engine has in hand. -/
theorem Abl.engStart_of_drain {a : Abl} {b cause : Nat} {r : ResetRun} (hb : b < 26) (hidle : a.n.bit Reg.ABL_ENGINE_RESET 0 b = false)
    (hr : r = { bit := b, mode := 0, cause := cause, began := a.n.local, drained := false, inFlight := a.engWork b, discarded := 0 }) :
    a.engStart b 0 cause = a.on fun n => { n.setB Reg.ABL_ENGINE_RESET 0 b true with resets := n.resets ++ [r] } := by
  have hgo : (decide (41 ≤ b) || a.n.bit Reg.ABL_ENGINE_RESET 0 b) = false := by
    rw [hidle, Bool.or_false]
    exact decide_eq_false (by omega)
  subst hr
  simp only [Abl.engStart, hgo, engDomain_of_lt hb, Bool.false_eq_true, if_false]
  rfl

/-- Firmware asks for the reset of one engine. -/
theorem Abl.engWrite_of_one {a : Abl} {b : Nat} (hone : setBitsOf 41 (2 ^ b) = [b]) (hcomplex : bit (2 ^ b) 63 = false) :
    a.engWrite false (2 ^ b) = a.engStart b (a.n.fld Reg.ABL_ENGINE_RESET_MODE 0 b 1) 1 := by
  simp only [Abl.engWrite, hone, hcomplex, Bool.false_eq_true, if_false, List.foldl_cons, List.foldl_nil]

/-- The host asks for the reset of the complex alone. -/
theorem Abl.engWrite_of_complex (a : Abl) : a.engWrite true (2 ^ 63) = a.mcReset 3 := by
  have hbit : bit (2 ^ 63) 63 = true := by decide
  simp only [Abl.engWrite, Nat.mod_self, hbit, if_true]

theorem Abl.engDrainEnd_of_none {a : Abl} (h : a.n.resets = []) (b : Nat) : a.engDrainEnd b = a := by
  simp only [Abl.engDrainEnd, h, List.find?_nil]

theorem Abl.engDone_of_none {a : Abl} (h : a.n.resets = []) (b : Nat) : a.engDone b = a := by
  simp only [Abl.engDone, h, List.find?_nil]

/-- The drain of the only reset that runs. -/
theorem Abl.engDrainEnd_of_one {a : Abl} {r y : ResetRun} (hresets : a.n.resets = [r]) (hdrains : r.drained = false)
    (hy : y = { r with drained := true, discarded := min r.inFlight (a.engWork r.bit), done := r.inFlight - min r.inFlight (a.engWork r.bit) }) :
    a.engDrainEnd r.bit = (a.on fun n => { n with resets := [y] }).engDiscard r.bit := by
  have hrest : (a.on fun n => { n with resets := y :: n.resets.filter fun x => x.bit != r.bit }) = a.on fun n => { n with resets := [y] } := by
    simp [Abl.on, hresets]
  subst hy
  simp only [Abl.engDrainEnd, hresets, List.find?_cons, hdrains, beq_self_eq_true, Bool.not_false, Bool.and_self]
  exact congrArg (fun a => Abl.engDiscard a r.bit) hrest

/-- The end of the only reset that runs, of an engine without a Flood domain. -/
theorem Abl.engDone_of_one {a : Abl} {r : ResetRun} (hresets : a.n.resets = [r]) (hdrained : r.drained = true) (hb : r.bit < 26) :
    a.engDone r.bit = (a.on fun n => (engRegs r.bit).foldl (fun (n : Node) x => n.resetRegs x.1 x.2) { n with resets := [] }).engReport r := by
  have hengine : (r.bit != 63) = true := by simp only [bne_iff_ne]; omega
  have htree : r.bit ≠ 26 := by omega
  have hgrid : r.bit ≠ 27 := by omega
  have hrest : (a.on fun n => (engRegs r.bit).foldl (fun (n : Node) x => n.resetRegs x.1 x.2) { n with resets := n.resets.filter fun x => x.bit != r.bit }) =
      a.on fun n => (engRegs r.bit).foldl (fun (n : Node) x => n.resetRegs x.1 x.2) { n with resets := [] } := by
    simp [Abl.on, hresets]
  simp only [Abl.engDone, hresets, List.find?_cons, hdrained, hengine, htree, hgrid, beq_self_eq_true, Bool.and_self, if_false]
  exact congrArg (fun a => Abl.engReport a r) hrest

/-! ## Watchdogs (R585) -/

theorem Node.wdogWarn_of_late {n : Node} {core : Nat} (hcounts : n.wdogCounts core = true) (hlate : n.kickAt core + n.wdogMs core * 1000000 ≤ n.local)
    (hnew : core ∉ n.mc.warned) :
    n.wdogWarn core = (({ n with mc := { n.mc with warned := core :: n.mc.warned } } : Node).irqCore core 4).wdogRec core 1 :=
  if_pos (by simp [hcounts, hlate, hnew])

theorem Node.wdogWarn_of_stopped {n : Node} {core : Nat} (h : n.wdogCounts core = false) : n.wdogWarn core = n := if_neg (by simp [h])

theorem Node.wdogExpire_of_stopped {n : Node} {core : Nat} (h : n.wdogCounts core = false) : n.wdogExpire core = (n, false) := if_neg (by simp [h])

/-- A core's first expiry resets it alone. -/
theorem Node.wdogExpire_of_first {n m : Node} {core : Nat} (hcounts : n.wdogCounts core = true)
    (hlate : n.kickAt core + 2 * n.wdogMs core * 1000000 ≤ n.local) (hfirst : n.mc.expired = [])
    (hm : m = ({ n with mc := { n.mc with expired := bindKey [] core n.local } } : Node).wdogRec core 2) :
    n.wdogExpire core = (((((m.fault (m.coreSrc core) 0 2 0 core).coreReset core).rolesMove core).wdogRestart core), false) := by
  subst hm
  have hgo : (n.wdogCounts core && decide (n.kickAt core + 2 * n.wdogMs core * 1000000 ≤ n.local)) = true := by simp [hcounts, hlate]
  unfold Node.wdogExpire
  rw [if_pos hgo, hfirst]
  rfl

/-- An expiry at the sentinel that is not a core's second. -/
theorem exec_watchdogExpiry_abl {s : State} {core : Nat} {m : Node} (h : s.abl.n.wdogExpire core = (m, false)) :
    exec (.watchdogExpiry .abl core) s = .next (s.settleAbl (s.abl.on fun _ => m)) := by
  refine onAbl_eq_next
    (f := fun a => if (a.n.wdogExpire core).2 then (a.on fun _ => (a.n.wdogExpire core).1).wdogSecond else a.on fun _ => (a.n.wdogExpire core).1) ?_
  simp only [h, Bool.false_eq_true, if_false]

/-- A change of the common part is known by what it makes of the device's own. -/
theorem Ddu.on_value (d : Ddu) (f : Node → Node) : d.on f = d.on fun _ => f d.n := rfl

theorem exec_watchdogExpiry_ddu {s : State} {core : Nat} {m : Node} (h : (s.ddu.n.wdogExpire core).1 = m) :
    exec (.watchdogExpiry .ddu core) s = .next (s.settleDdu (s.ddu.on fun _ => m)) := by
  subst h
  exact onDdu_eq_next (f := fun d => d.on fun n => (n.wdogExpire core).1) (Ddu.on_value s.ddu fun n => (n.wdogExpire core).1)

theorem exec_watchdogExpiry_of_stopped {s : State} {dev : Dev} {core : Nat} (h : (part s dev).wdogCounts core = false) :
    exec (.watchdogExpiry dev core) s = .next (settled s dev (part s dev)) := by
  have hnone := Node.wdogExpire_of_stopped h
  cases dev with
  | ddu => exact exec_watchdogExpiry_ddu (congrArg Prod.fst hnone)
  | abl => exact exec_watchdogExpiry_abl hnone

/-! ## Load (R518, R586, R587, R614) -/

theorem Abl.compactResume_of_not_deferred {a : Abl} (h : a.compactSt ≠ 3) : a.compactResume = a := if_neg (by simp [h])

/-- A millisecond without high load, and no summary to write. -/
theorem Abl.loadTick_of_calm {a b : Abl} {busy : List Nat} (hboot : a.n.booted = true)
    (hb : b = a.on fun n => (n.mc.down.foldl Node.coreUp n).loadTick busy) (hload : b.n.load ≤ 85) (hshed : b.n.mc.shed = none) (hdefer : b.compactSt ≠ 3)
    (hperiod : b.n.fld Reg.ABL_MC_SUMMARY_MS 0 0 16 = 0) : a.loadTick busy = b := by
  simp only [Abl.loadTick, hboot, ← hb, Nat.not_lt.2 hload, hshed, Abl.compactResume_of_not_deferred hdefer, hperiod, Option.isSome_none, decide_false,
    decide_true, Bool.or_self, Bool.true_or, Bool.not_true, Bool.false_eq_true, Nat.zero_mul, if_false, if_true]

/-- Settles O31: each command by what the engine, the watchdog or the complex does. -/
theorem managementCommandsComplete : Obligations.ManagementCommandsComplete := by
  unfold Obligations.ManagementCommandsComplete
  refine ⟨?_, ?_, ?_, ?_, ?_, ?_, ?_, ?_, ?_, ?_, ?_, ?_, ?_, ?_⟩
  · intro s who v hfirmware hhost
    cases who with
    | firmware => exact absurd rfl hfirmware
    | bar0 => exact absurd rfl hhost
    | _ => rfl
  · intro s b r hb hidle hmode hone hcomplex hr
    refine onAbl_eq_next (f := fun a => a.engWrite false (2 ^ b)) ?_
    rw [Abl.engWrite_of_one hone hcomplex, hmode]
    exact Abl.engStart_of_drain (by omega) hidle hr
  · intro s b hnone
    exact ⟨onAbl_eq_next (f := fun a => a.engDrainEnd b) (Abl.engDrainEnd_of_none hnone b), onAbl_eq_next (f := fun a => a.engDone b) (Abl.engDone_of_none hnone b)⟩
  · intro s r y hresets hdrains hy
    exact onAbl_eq_next (f := fun a => a.engDrainEnd r.bit) (Abl.engDrainEnd_of_one hresets hdrains hy)
  · intro s r hresets hdrained hb
    exact onAbl_eq_next (f := fun a => a.engDone r.bit) (Abl.engDone_of_one hresets hdrained hb)
  · intro s
    exact onAbl_eq_next (f := fun a => a.engWrite true (2 ^ 63)) s.abl.engWrite_of_complex
  · intro s v hpos hlt
    exact exec_engineResetStart_bar0 hpos hlt
  · intro s dev core
    exact onNode_eq_settled (f := fun n => n.wdogKick core 0x4B49) (if_pos rfl)
  · intro s core v hv hdev
    exact exec_watchdogKick_of_bad hdev hv core
  · intro s dev core hcounts hlate hnew
    exact onNode_eq_settled (f := fun n => n.wdogWarn core) (Node.wdogWarn_of_late hcounts hlate hnew)
  · intro s dev core hstopped
    exact ⟨onNode_eq_settled (f := fun n => n.wdogWarn core) (Node.wdogWarn_of_stopped hstopped), exec_watchdogExpiry_of_stopped hstopped⟩
  · intro s core n hcounts hlate hfirst hn
    exact exec_watchdogExpiry_abl (Node.wdogExpire_of_first hcounts hlate hfirst hn)
  · intro s busy
    exact onDdu_eq_next (f := fun d => if d.n.booted then d.on fun n => n.loadTick busy else d) rfl
  · intro s busy a hboot ha hload hshed hdefer hperiod hwords
    have hnone : ((List.range 16).filter fun p => a.n.bit Reg.ABL_TREE_HVALID p 0) = [] :=
      List.filter_eq_nil_iff.2 fun p hp => by simp [hwords p (List.mem_range.1 hp)]
    refine onAbl_eq_next (f := fun a => ((List.range 16).filter fun p => (a.loadTick busy).n.bit Reg.ABL_TREE_HVALID p 0).foldl Abl.faultWords (a.loadTick busy)) ?_
    simp only [Abl.loadTick_of_calm hboot ha hload hshed hdefer hperiod, hnone, List.foldl_nil]

end Sys2Proof.Machine
end

section
/-!
SUPPORT. Mailboxes (R593 to R622), one lemma for each way that a post, a signal or an expiry goes.
-/

namespace Sys2Proof.Machine

open Safety

/-! ## Posting (R593, R598, R622) -/

section
variable {c : Cmd} {a : Abl}

theorem Abl.postCmd_of_i3c (hpath : c.path = 1) (hmb : mbOk 1 c.mb = true) : a.postCmd c = (a.on fun n => n.post c).wakeUp 2 := by
  simp [Abl.postCmd, hpath, hmb]

theorem Abl.postCmd_of_pcie (hpath : c.path = 0) (hmb : mbOk 0 c.mb = true) (hdecodes : a.decodes = true) :
    a.postCmd c = (a.on fun n => n.post c).wakeUp 1 := by
  simp [Abl.postCmd, hpath, hmb, hdecodes]

theorem Ddu.postCmd_of_sentinel {d : Ddu} (hpath : c.path = 3) (hmb : mbOk 3 c.mb = true) (hlive : d.live = true) (hrun : d.n.bit Reg.DDU_SUBRESET 0 9 = false) :
    d.postCmd c = if cmdFast c then (d.on fun n => n.post c).fastStart else d.on fun n => n.post c := by
  simp [Ddu.postCmd, hpath, hmb, hlive, hrun]

theorem exec_mailboxPost_abl {s : State} (h : pathDev c.path = .abl) : exec (.mailboxPost c) s = onAbl s fun a => a.postCmd c := by
  change execMailboxPost c s = _
  rw [execMailboxPost, h]

theorem exec_mailboxPost_ddu {s : State} (h : pathDev c.path = .ddu) : exec (.mailboxPost c) s = onDdu s fun d => d.postCmd c := by
  change execMailboxPost c s = _
  rw [execMailboxPost, h]

/-- A post into a mailbox that is owned is discarded and counted. -/
theorem Node.post_of_owned {n : Node} (hdev : n.dev = .abl) (howned : n.bit Reg.ABL_MB_OWNED 0 c.mb = true) : n.post c = n.bump Reg.ABL_MB_DISCARDED := by
  simp only [Node.post, ownedReg, mbDiscarded, hdev, howned, if_true]

end

section
variable {a : Abl} {port peer seq : Nat} {c : Cmd}

theorem Abl.datagram_of_stranger (h : (port, peer) ∉ a.guard.assocs) : a.datagram port peer seq c = a := by
  simp [Abl.datagram, h]

section
variable (hknown : (port, peer) ∈ a.guard.assocs) (hpath : c.path = 2) (hmb : mbOk 2 c.mb = true) (hup : a.n.pwrState ≠ 0)
include hknown hpath hmb hup

/-- The first datagram of an idle mailbox is a new command. -/
theorem Abl.datagram_of_new (hkept : a.n.mb.kept = []) (hfree : a.n.bit Reg.ABL_MB_OWNED 0 c.mb = false) : a.datagram port peer seq c =
    (a.on fun n => n.setMb { n.mb with kept := bindKey n.mb.kept c.mb (seq % 4294967296) }).postCmd c := by
  simp [Abl.datagram, hknown, hpath, hmb, hup, hkept, hfree]

/-- A repeated datagram changes nothing, whether its command is in service or answered. -/
theorem Abl.datagram_of_repeated (hkept : a.n.mb.kept = [(c.mb, seq % 4294967296)]) : a.datagram port peer seq c = a := by
  simp [Abl.datagram, hknown, hpath, hmb, hup, hkept]

end
end

/-! ## Event paths (R611 to R613) -/

theorem exec_eventWrite_abl {s : State} {path k : Nat} {r : Record} (hpath : path ≠ 3) (hclass : eventClass r.typ r.code = some k) :
    exec (.eventWrite path r) s = .next (s.settleAbl (s.abl.on fun n => n.eventOn path k 554 r)) := by
  change execEventWrite path r s = _
  rw [execEventWrite, if_neg hpath, hclass]
  rfl

section
variable {n : Node} {p v : Nat}

theorem Node.evRead_of_inside (hlow : n.rd Reg.ABL_MB_EVT_RD p ≤ v) (hhigh : v ≤ n.rd Reg.ABL_MB_EVT_WR p) (haligned : v % 8 = 0) : n.evRead p v =
    ((n.wr Reg.ABL_MB_EVT_RD p v).setEv p { (n.wr Reg.ABL_MB_EVT_RD p v).ev p with
      ring := ((n.wr Reg.ABL_MB_EVT_RD p v).ev p).ring.filter fun (x : Nat × Record) => decide (v ≤ x.1) }).evRefill p :=
  if_neg (by simp [Nat.not_lt.2 hlow, Nat.not_lt.2 hhigh, haligned])

theorem Node.evRead_of_outside (h : v < n.rd Reg.ABL_MB_EVT_RD p ∨ n.rd Reg.ABL_MB_EVT_WR p < v) : n.evRead p v = n.bump Reg.ABL_MB_DISCARDED :=
  if_pos (by simpa using Or.inl h)

end

theorem Node.evResend_of_late {n : Node} {seq t : Nat} {r : Record} (hsent : (n.ev 2).sent = [(seq, t, r)]) (hlate : t + 10000000 ≤ n.local) :
    n.evResend = n.setEv 2 { n.ev 2 with sent := [(seq, n.local, r)] } := by
  simp only [Node.evResend, hsent, List.map_cons, List.map_nil, hlate, if_true]

/-! ## Expiries (R615, R616) -/

theorem Abl.stageIdle_of_none {a : Abl} (h : a.n.mb.stages = []) : a.stageIdle = a := by
  simp only [Abl.stageIdle, h, List.filter_nil, List.foldl_nil]

theorem Abl.stageIdle_of_idle {a : Abl} {x : StageX} (h : a.n.mb.stages = [x]) (hidle : x.touched + 60000000000 ≤ a.n.local) : a.stageIdle = a.stageFree x := by
  simp [Abl.stageIdle, h, hidle]

section
variable {n : Node} {x : OpX} (hops : n.mb.ops = [x])
include hops

theorem Node.opGuard_of_over (hended : x.state = 2) (hover : x.ended + 8000000 ≤ n.local) :
    n.opGuard x.slot = n.setMb { n.mb with ops := [], gens := bindKey n.mb.gens x.slot ((x.gen + 1) % 65536) } := by
  simp [Node.opGuard, hops, hended, hover]

theorem Node.opGuard_of_early (h : x.state ≠ 2 ∨ n.local < x.ended + 8000000) : n.opGuard x.slot = n := by
  have hheld : ¬ (x.state = 2 ∧ x.ended + 8000000 ≤ n.local) := by omega
  simp [Node.opGuard, hops, hheld]

end

/-! ## The reverse host mailbox (R620) -/

section
variable {d : Ddu}

theorem Ddu.revEnd_of_free (h : d.n.mb.rev = none) (status : Nat) (data : List Nat) : d.revEnd status data = d := by simp only [Ddu.revEnd, h]

theorem Ddu.revTimeout_of_free (h : d.n.mb.rev = none) : d.revTimeout = d := by simp only [Ddu.revTimeout, h]

theorem Ddu.revEnd_of_posted {x : RevX} (h : d.n.mb.rev = some x) (status : Nat) (data : List Nat) : d.revEnd status data =
    (d.on fun n => (n.setMb { n.mb with rev := none }).setB Reg.DDU_MB_OWNED 0 3 false).on fun n => n.done x.code 0 status data := by
  simp only [Ddu.revEnd, h]

theorem Ddu.revTimeout_of_late {x : RevX} (h : d.n.mb.rev = some x) (hlate : x.at_ + 1000000000 ≤ d.n.local) :
    d.revTimeout = d.revEnd (Config.notDone 65536) [] := by
  simp only [Ddu.revTimeout, h, hlate, if_true]

theorem Ddu.revPost_of_free (h : d.n.mb.rev = none) (code : Nat) (params : List Nat) : d.revPost code params =
    (d.on fun n => ((n.setMb { n.mb with rev := some { code := code, params := params, at_ := n.local } }).setB Reg.DDU_MB_OWNED 0 3 true)).on
      fun n => n.hostIrq 3 :=
  if_neg (by simp [h])

theorem Ddu.hostRepeat_of_waiting {p : PostedX} (h : d.revWaits 0x1101 = some p) : d.hostRepeat = d.revPost 0x1101 (p.cmd.params.take 16) := by
  simp only [Ddu.hostRepeat, h, repeatParams]

theorem Ddu.hostPattern_of_pattern {h cell : Nat} (hp : d.pattern = some (h, cell)) (i : Nat) :
    d.hostPattern i = d.revPost 0x1102 ([i % 16, 0, 0, 0] ++ le 4 h) := by
  simp only [Ddu.hostPattern, hp]

end

/-! ## Ledger exports (R527, R528) -/

theorem Abl.exportSegment_of_none {a : Abl} (h : a.hist.exports = []) (handle : Nat) : a.exportSegment handle = a := by
  simp only [Abl.exportSegment, h, List.find?_nil]

/-- The segment that ends a transfer which has no records left. -/
theorem Abl.exportSegment_of_last {a : Abl} {x : ExportX} {b : List Nat} (hone : a.hist.exports = [x]) (hruns : x.suspendedAt = none)
    (hshed : a.n.mc.shed = none) (hleft : x.left = []) (hwire : leAt x.ref 0 1 = 0) (hop : a.n.op x.handle = none) (hb : b = a.segmentBytes x [] true) :
    a.exportSegment x.handle =
      (((a.on fun n => n.frameUp 0 3 .other [0x0B02, x.handle, x.segs] b).onHist fun h => { h with exports := h.exports.filter fun y => y.handle != x.handle })).on
        fun n => n.opEnd x.handle stOk 0 [x.segs + 1, x.bytes + b.length, 0, 0] := by
  subst hb
  simp [Abl.exportSegment, hone, hruns, hshed, hleft, segment, hwire, hop, ExportX.cs]

/-! ## DTLS associations (R658) -/

theorem Abl.dtls_of_failed (a : Abl) (port peer : Nat) (root : List Nat) : a.dtls port peer root false = a := if_pos (by simp)

theorem Abl.dtls_of_first {a : Abl} {port peer : Nat} {root : List Nat} (hport : port < 2) (hkey : a.keyIn 2 root none = true) (hnone : a.guard.assocs = []) :
    a.dtls port peer root true = { a with guard := { a.guard with assocs := [(port, peer)] } } := by
  simp [Abl.dtls, hport, hkey, hnone]

/-- Settles O32: each command by what the mailbox, the event path or the expiry does. -/
theorem mailboxCommandsComplete : Obligations.MailboxCommandsComplete := by
  unfold Obligations.MailboxCommandsComplete
  refine ⟨?_, ?_, ?_, ?_, ?_, ?_, ?_, ?_, ?_, ?_, ?_, ?_, ?_, ?_, ?_, ?_, ?_, ?_, ?_, ?_, ?_, ?_, ?_, ?_, ?_⟩
  · intro s c hpath hmb
    exact (exec_mailboxPost_abl (by rw [hpath]; rfl)).trans (onAbl_eq_next (f := fun a => a.postCmd c) (Abl.postCmd_of_i3c hpath hmb))
  · intro s c hpath hmb hdecodes
    exact (exec_mailboxPost_abl (by rw [hpath]; rfl)).trans (onAbl_eq_next (f := fun a => a.postCmd c) (Abl.postCmd_of_pcie hpath hmb hdecodes))
  · intro s c hpath hmb hlive hrun
    exact (exec_mailboxPost_ddu (by rw [hpath]; rfl)).trans (onDdu_eq_next (f := fun d => d.postCmd c) (Ddu.postCmd_of_sentinel hpath hmb hlive hrun))
  · intro s c hpath hmb howned hdev
    refine (exec_mailboxPost_abl (by rw [hpath]; rfl)).trans (onAbl_eq_next (f := fun a => a.postCmd c) ?_)
    rw [Abl.postCmd_of_i3c hpath hmb, Abl.on, Node.post_of_owned hdev howned, Abl.on]
  · intro s port peer seq c hstranger
    exact onAbl_eq_next (f := fun a => a.datagram port peer seq c) (Abl.datagram_of_stranger hstranger)
  · intro s port peer seq c hknown hpath hmb hup hkept hfree
    exact onAbl_eq_next (f := fun a => a.datagram port peer seq c) (Abl.datagram_of_new hknown hpath hmb hup hkept hfree)
  · intro s port peer seq c hknown hpath hmb hup hkept
    exact onAbl_eq_next (f := fun a => a.datagram port peer seq c) (Abl.datagram_of_repeated hknown hpath hmb hup hkept)
  · intro s path k r hpath hclass
    exact exec_eventWrite_abl hpath hclass
  · intro s r
    rfl
  · intro s p v hlow hhigh haligned
    exact onAbl_eq_next (f := fun a => a.on fun n => n.evRead p v) (by rw [Abl.on, Node.evRead_of_inside hlow hhigh haligned, Abl.on])
  · intro s p v hout
    exact onAbl_eq_next (f := fun a => a.on fun n => n.evRead p v) (by rw [Abl.on, Node.evRead_of_outside hout, Abl.on])
  · intro s seq t r hsent hlate
    exact onAbl_eq_next (f := fun a => a.on Node.evResend) (by rw [Abl.on, Node.evResend_of_late hsent hlate, Abl.on])
  · intro s hnone
    exact onAbl_eq_next (f := Abl.stageIdle) (Abl.stageIdle_of_none hnone)
  · intro s x hone hidle
    exact onAbl_eq_next (f := Abl.stageIdle) (Abl.stageIdle_of_idle hone hidle)
  · intro s x hops hended hover
    exact onAbl_eq_next (f := fun a => a.on fun n => n.opGuard x.slot) (by rw [Abl.on, Node.opGuard_of_over hops hended hover, Abl.on])
  · intro s x hops hearly
    exact onAbl_eq_next (f := fun a => a.on fun n => n.opGuard x.slot) (by rw [Abl.on, Node.opGuard_of_early hops hearly])
  · intro s hfree
    exact ⟨onDdu_eq_next (f := Ddu.revTimeout) (Ddu.revTimeout_of_free hfree),
      fun st data => onDdu_eq_next (f := fun d => d.revDone st data) (Ddu.revEnd_of_free hfree _ data)⟩
  · intro s x hrev hlate
    exact onDdu_eq_next (f := Ddu.revTimeout) ((Ddu.revTimeout_of_late hrev hlate).trans (Ddu.revEnd_of_posted hrev _ []))
  · intro s x data hrev
    exact onDdu_eq_next (f := fun d => d.revDone 0 data) (Ddu.revEnd_of_posted hrev stOk data)
  · intro s p hwaits hfree
    exact onDdu_eq_next (f := Ddu.hostRepeat) ((Ddu.hostRepeat_of_waiting hwaits).trans (Ddu.revPost_of_free hfree _ _))
  · intro s h cell i hpattern hfree
    exact onDdu_eq_next (f := fun d => d.hostPattern i) ((Ddu.hostPattern_of_pattern hpattern i).trans (Ddu.revPost_of_free hfree _ _))
  · intro s handle hnone
    exact onAbl_eq_next (f := fun a => a.exportSegment handle) (Abl.exportSegment_of_none hnone handle)
  · intro s x b hone hruns hshed hleft hwire hop hb
    exact onAbl_eq_next (f := fun a => a.exportSegment x.handle) (Abl.exportSegment_of_last hone hruns hshed hleft hwire hop hb)
  · intro s port peer root
    exact onAbl_eq_next (f := fun a => a.dtls port peer root false) (s.abl.dtls_of_failed port peer root)
  · intro s port peer root hport hkey hnone
    exact onAbl_eq_next (f := fun a => a.dtls port peer root true) (Abl.dtls_of_first hport hkey hnone)

end Sys2Proof.Machine
end

section
/-!
SUPPORT. DIE_TRACE op 1 and the trigger sources of DDU_TRC_TRIG_SRC (R138).
-/

namespace Sys2Proof.Machine

open Safety

/-- DIE_TRACE op 1 from the sentinel mailbox. -/
def traceTriggerCmd : Cmd := { path := 3, mb := 4, code := 0x100B, params := [1] }

/-- The posted command. -/
def traceTriggerPost : PostedX := { n := 0, cmd := traceTriggerCmd, at_ := 0 }

/-- A DDU whose firmware runs (DDU_STATUS 12), which has negotiated the DDU feature 19, and whose completed trace has the source SENTINEL (5) enabled.
The posted command is one whose response is not sent. -/
def sentinelSourceState : State :=
  { ddu := { n := ((((((({ dev := .ddu } : Node).setFld Reg.DDU_PWR_STATE 0 0 3 1).wr Reg.DDU_STATUS 0 12).wr Reg.DDU_MB_NEG 0 128).wr
                     Reg.DDU_MB_FEAT 0 524288).wr Reg.DDU_TRC_TRIG_SRC 0 32).wr Reg.DDU_TRC_STATE 0 4).setMb
                     { posted := [traceTriggerPost], muted := [0] } }
    abl := { n := { dev := .abl } } }

theorem serving_traceTrigger : Serving sentinelSourceState.ddu.n traceTriggerCmd 0x100B traceTriggerPost := by
  constructor <;> decide +kernel

/-- What the model does: op 1 fires the source SENTINEL. -/
theorem exec_dieTraceTrigger_of_serving {s : State} {c : Cmd} {p : PostedX} (hserve : Serving s.ddu.n c 0x100B p) (hop : c.p 0 1 = 1) :
    exec (.dieTraceTrigger c) s = .next (repliedDdu s p (s.ddu.trcFire 5 0) {}) := by
  change dieOpCmd s c 0x100B 1 (fun d => d.traceCmd c) = _
  rw [dieOpCmd, if_neg (by simp [hop])]
  exact dduCmd_of_serving hserve (by simp only [Ddu.traceCmd, hop])

/-- The trigger that the completed trace misses is counted. -/
theorem missed_of_sentinel :
    (repliedDdu sentinelSourceState traceTriggerPost (sentinelSourceState.ddu.trcFire 5 0) {}).ddu.rd Reg.DDU_TRC_TRIG_MISSED = 1 := by
  rw [repliedDdu, quietDevicesOweNothing.1 _ _ (by decide +kernel)]
  decide +kernel

/-- The source FAULT (3) is not enabled: it triggers nothing. -/
theorem missed_of_marker :
    (repliedDdu sentinelSourceState traceTriggerPost (sentinelSourceState.ddu.trcFire 3 0) {}).ddu.rd Reg.DDU_TRC_TRIG_MISSED = 0 := by
  rw [repliedDdu, quietDevicesOweNothing.1 _ _ (by decide +kernel)]
  decide +kernel

/-- Refutes O39: its clause on DIE_TRACE op 1 names source 3, which is FAULT; the trigger command from the sentinel mailbox fires source 5 (R138). -/
theorem not_dieCatalogueComplete : ¬ Obligations.DieCatalogueComplete := by
  unfold Obligations.DieCatalogueComplete
  rintro ⟨-, -, -, -, -, -, -, -, -, -, -, htrace, -⟩
  have hclaim := (htrace sentinelSourceState traceTriggerCmd traceTriggerPost rfl serving_traceTrigger).1 (by decide)
  have hmodel := exec_dieTraceTrigger_of_serving serving_traceTrigger (by decide)
  have hsame := Host.Outcome.next.inj (hmodel.symm.trans hclaim)
  have hmissed := missed_of_sentinel
  rw [hsame, missed_of_marker] at hmissed
  exact absurd hmissed (by decide)

end Sys2Proof.Machine
end

section
/-!
SUPPORT. The catalogue commands of profiling, attestation, debug sessions, the lifecycle and firmware (R645 to R665), one lemma for each way that a
command goes.
-/

namespace Sys2Proof.Machine

open Safety

section
variable {a : Abl} {c : Cmd}

/-! ## Profiling (R92, R664) and attestation (R656) -/

/-- The facility 3 alone is the sentinel's own. -/
theorem Abl.profileEnable_of_sentinel {con : Option ConsentX} (hfac : leAt c.params 2 1 = 8) (hmay : a.profileMay c = some con) : a.profileEnable c =
    ({ (a.on fun n => n.setB Reg.ABL_PERF_CTRL 0 0 true) with guard := { a.guard with consents := con.toList ++ a.guard.consents } }, {}) := by
  simp only [Abl.profileEnable, hfac, hmay]
  rfl

theorem Abl.profileEnable_of_refused (hpos : 1 ≤ leAt c.params 2 1) (hmax : leAt c.params 2 1 < 16) (hmay : a.profileMay c = none) :
    a.profileEnable c = (a, Ans.of stNotPermitted) := by
  have hfac : ¬ (leAt c.params 2 1 = 0 ∨ 16 ≤ leAt c.params 2 1) := by omega
  simp only [Abl.profileEnable, hfac, hmay, if_false]

theorem Abl.attest_of_sentinel (htarget : leAt c.params 32 1 = 255) (hpart : leAt c.params 33 1 = 0) : a.attest c =
    (a, { data := coseSign1 (le 8 Config.signKid) (a.report (c.params.take 32) 255) (Config.es384 (coseSigInput (a.report (c.params.take 32) 255))) }) := by
  simp only [Abl.attest, htarget, hpart]
  rfl

theorem Abl.attest_of_no_part (hpart : 3 ≤ leAt c.params 33 1) : a.attest c = (a, Ans.of stBad) := if_pos (by simp [hpart])

/-! ## Debug sessions (R659, R660) -/

theorem Abl.debugOpen_of_fused (hfused : a.fused ≠ 1) (token : List Nat) : a.debugOpen token = (a, Ans.of stNotPermitted) := if_pos (by simp [hfused])

/-- The sentinel with the challenge used, the session's start and watchdogs kept, and the grant in the registers. -/
def Abl.openSession (a : Abl) (grant dies dur tag : Nat) : Abl :=
  ({ a with guard := { a.guard with challenge := none, session := some (a.n.local, (List.range 6).map fun k => a.n.rd Reg.ABL_MC_WDOG_CFG k) } } : Abl).on fun n =>
    ((((n.wr Reg.ABL_DBG_CTRL 0 (2147483648 + grant)).wr Reg.ABL_DBG_EXPIRE 0 ((a.n.seconds + dur) % 4294967296)).wr Reg.ABL_DBG_JOBTAG 0 tag).wr
      Reg.ABL_DBG_DIES 0 dies).wr Reg.ABL_DBG_SESSIONS 0 (a.n.rd Reg.ABL_DBG_SESSIONS + 1)

/-- What opening does once its checks have passed. -/
theorem Abl.debugOpen_of_token {token ch : List Nat} {x : Cose} {grant dies dur tag : Nat} (hfused : a.fused = 1) (hpwr : a.n.pwrState ≠ 3)
    (hclosed : a.sessionOpen = false) (hch : a.challenge = some ch) (hread : coseRead token = some x) (hsigned : a.signedBy 0 7 x [] none = true)
    (hserial : x.num 1 = some (a.n.rd Reg.ABL_SERIAL)) (hnonce : x.str 2 = some ((ch.drop 8).take 32)) (hgrant : x.num 3 = some grant)
    (hdies : x.num 5 = some dies) (hdur : x.num 6 = some dur) (htag : x.num 4 = some tag) (hgrantMax : grant < 128) (hdiesMax : dies < 65536)
    (hdurPos : 0 < dur) (hdurMax : dur ≤ 28800) : a.debugOpen token =
      ((((((a.openSession grant dies dur tag).setLc 2).mrExtend 4 (sha384 token)).dieGrant dies (2147483648 + (grant &&& 0x30))
        ((a.n.seconds + dur) % 4294967296)).secRec 0x0001 (le 2 grant ++ le 2 dies ++ le 4 (a.n.rd Reg.ABL_DBG_SESSIONS + 1))), {}) := by
  have hmay : (decide (a.fused ≠ 1) || decide (a.n.pwrState = 3)) = false := by simp [hfused, hpwr]
  have hmatch : (!a.signedBy 0 7 x [] none || x.num 1 != some (a.n.rd Reg.ABL_SERIAL) || x.str 2 != some ((ch.drop 8).take 32)) = false := by
    simp [hsigned, hserial, hnonce]
  have hrange : (decide (128 ≤ grant) || decide (65536 ≤ dies) || decide (dur = 0) || decide (28800 < dur) || (some tag).isNone) = false := by
    simp; omega
  simp only [Abl.debugOpen, hmay, hclosed, hch, hread, hmatch, hgrant, hdies, hdur, htag, Option.getD_some, hrange, Bool.false_eq_true, if_false]
  rfl

/-! ## The lifecycle and the keys (R645 to R648, R665) -/

theorem lcOp_of_op {op : Nat} (hop : c.p 0 1 = op) : lcOp c op = true := by simp [lcOp, hop]

theorem lcCmd_of_serving {s : State} {p : PostedX} {op : Nat} {own : Abl → Abl × Ans} {r : Ans} (hserve : Serving s.abl.n c 0x0D05 p) (hop : c.p 0 1 = op)
    (hown : s.abl.lifecycleSet c own = (a, r)) : lcCmd s c op own = .next (replied s p a r) := by
  rw [lcCmd, if_pos (lcOp_of_op hop)]
  exact ablCmd_of_serving hserve hown

theorem Abl.lifecycleSet_of_busy (hop : c.p 0 1 ≤ 3) (hbusy : a.lcBusy = true) (own : Abl → Abl × Ans) :
    a.lifecycleSet c own = (a, { status := stBusy, hint := 10000 }) :=
  if_pos (by rw [hbusy, Bool.true_or, Bool.and_true]; exact decide_eq_true hop)

/-- On the sentinel itself the op's own rules decide, unless the device waits. -/
theorem Abl.lifecycleSet_of_own (hself : c.p 1 1 = 255) (hwait : c.p 0 1 ≤ 3 → (a.lcBusy || a.hist.pwrFail) = false) (own : Abl → Abl × Ans) :
    a.lifecycleSet c own = own a := by
  have hgo : (decide (leAt c.params 0 1 ≤ 3) && (a.lcBusy || a.hist.pwrFail)) = false := by
    by_cases hop : leAt c.params 0 1 ≤ 3
    · rw [hwait hop, Bool.and_false]
    · rw [decide_eq_false hop, Bool.false_and]
  exact (if_neg (by simp only [hgo]; decide)).trans (if_pos hself)

theorem Abl.lcRma_of_token {p : List Nat} (hfused : a.fused = 1) (htoken : Config.rmaToken (p.drop 52) = true) : a.lcRma p =
    (((({ (a.sessionEnd 5).erase with guard := { (a.sessionEnd 5).erase.guard with keysOff := true } } : Abl).fuse 3).mrExtend 4
      (Config.lifecycleDigest 2 255 p)).lcRec 2 255 1 3, {}) :=
  if_neg (by simp [hfused, htoken])

/-- A key that a valid slot of its role signs enters its empty slot. -/
theorem Abl.keyAdd_of_signed {p : List Nat} {k : Nat} {x : Cose} {b : Abl} (hrole : leAt p 2 1 < 3) (hslot : leAt p 3 1 < 4)
    (hk : k = 4 * leAt p 2 1 + leAt p 3 1) (hlen : 52 ≤ p.length) (hempty : a.keySlot k = []) (hread : coseRead (p.drop 52) = some x)
    (hsigned : a.signedBy (leAt p 2 1) 7 x (p.take 52) (some k) = true)
    (hb : b = { a with guard := { a.guard with keys := bindKey a.guard.keys k ((p.drop 4).take 48) } }) :
    a.keyAdd p = ((b.mrExtend 4 (Config.lifecycleDigest 4 255 p)).lcRec 4 255 a.n.lifecycle a.n.lifecycle, {}) := by
  subst hk hb
  have hok : (decide (3 ≤ leAt p 2 1) || decide (4 ≤ leAt p 3 1) || decide (p.length < 52) || !(a.keySlot (4 * leAt p 2 1 + leAt p 3 1)).isEmpty) = false := by
    rw [hempty]
    simp
    omega
  simp only [Abl.keyAdd, hok, hread, hsigned, Bool.not_true, Bool.false_eq_true, if_false]

/-! ## Firmware (R651, R654) -/

theorem exec_fwUpdate_of_target {s : State} {host : Option (List Byte)} (hlow : c.p 0 1 < 128) :
    exec (.fwUpdate c host) s = ablCmd s c 0x0E01 fun a => a.fwCmd c host (stagedBytes s) :=
  if_pos (by simp [fwRow]; omega)

theorem exec_fwCommit_of_target {s : State} {host : Option (List Byte)} (hhigh : 128 ≤ c.p 0 1) :
    exec (.fwCommit c host) s = ablCmd s c 0x0E01 fun a => a.fwCmd c host (stagedBytes s) :=
  if_pos (by simp [fwRow, hhigh])

theorem Abl.fwUpdate_of_running {ref : Except Nat (List Nat × Option StageX)} {x : FwX} (hcomp : c.p 0 1 % 128 < 3) (hrun : a.guard.update = some x) :
    a.fwUpdate c ref = (a, Ans.of stBusy) := by
  have hknown : ¬ 3 ≤ leAt c.params 0 1 % 128 := Nat.not_le.2 hcomp
  simp only [Abl.fwUpdate, hknown, hrun, Option.isSome_some, if_false, if_true]

theorem Abl.fwUpdate_of_image {img : List Nat} {st : Option StageX} {n : Node} {h : Nat} {o : OpX} {x : FwX} (hcomp : c.p 0 1 < 3)
    (hidle : a.guard.update = none) (hstart : a.n.opStart 8 c.path c.jobtag = (some h, n)) (hop : n.op h = some o)
    (hx : x = { handle := h, comp := c.p 0 1, dies := leAt c.params 2 2, image := img, stage := st.map fun y => y.id }) :
    a.fwUpdate c (.ok (img, st)) = ({ a with n := n.opNote o 0, guard := { a.guard with update := some x } }, { handle := h }) := by
  subst hx
  have hlow : ¬ 128 ≤ c.p 0 1 := by omega
  have hmod : c.p 0 1 % 128 = c.p 0 1 := Nat.mod_eq_of_lt (by omega)
  simp only [Cmd.p] at hcomp hlow hmod
  have hknown : ¬ 3 ≤ leAt c.params 0 1 := Nat.not_le.2 hcomp
  simp only [Abl.fwUpdate, hmod, hknown, hlow, hidle, hstart, hop, Option.isSome_none, Bool.false_eq_true, if_false]
  rfl

theorem Abl.fwUpdate_of_commit {ref : Except Nat (List Nat × Option StageX)} {n : Node} {h k : Nat} {b d : Abl} {ok : Bool} (htarget : c.p 0 1 = 128 + k)
    (hk : k < 3) (hidle : a.guard.update = none) (hstart : a.n.opStart 8 c.path c.jobtag = (some h, n)) (hb : b = { a with n := n })
    (hcommit : b.fwCommit k = (d, ok)) : a.fwUpdate c ref =
      (d.on fun n => n.opEnd h (if ok = true then stOk else stNotPermitted) (if ok = true then 2 else 0)
        [(b.image k (b.slotOf k)).length, b2n ok, 0, imgVersion (b.image k (b.slotOf k))], { handle := h }) := by
  subst hb
  have hmod : (128 + k) % 128 = k := by omega
  have hknown : ¬ 3 ≤ k := by omega
  have hhigh : 128 ≤ 128 + k := by omega
  simp only [Cmd.p] at htarget
  simp only [Abl.fwUpdate, htarget, hmod, hknown, hhigh, hidle, hstart, hcommit, Option.isSome_none, Bool.false_eq_true, if_false, if_true]

end

/-- Settles O38: each command by what its rule does once the common checks have passed. -/
theorem securityCatalogueComplete : Obligations.SecurityCatalogueComplete := by
  unfold Obligations.SecurityCatalogueComplete
  refine ⟨?_, ?_, ?_, ?_, ?_, ?_, ?_, ?_, ?_, ?_, ?_, ?_, ?_, ?_, ?_⟩
  · intro s c p con hserve hfac hmay
    exact ablCmd_of_serving hserve (f := fun a => a.profileEnable c) (Abl.profileEnable_of_sentinel hfac hmay)
  · intro s c p hserve hpos hmax hmay
    exact ablCmd_of_serving hserve (f := fun a => a.profileEnable c) (Abl.profileEnable_of_refused hpos hmax hmay)
  · intro s c p hserve
    exact ablCmd_of_serving hserve (f := fun a => (a.profileDisable (c.p 0 2), {})) rfl
  · intro s c p hserve htarget hpart
    exact ablCmd_of_serving hserve (f := fun a => a.attest c) (Abl.attest_of_sentinel htarget hpart)
  · intro s c p hserve hpart
    exact ablCmd_of_serving hserve (f := fun a => a.attest c) (Abl.attest_of_no_part hpart)
  · intro s c p b hserve hb
    subst hb
    exact ablCmd_of_serving (s := { s with free := s.free + 1 }) hserve (f := fun a => a.debugChallenge (Config.nonce s.free)) rfl
  · intro s c p hserve hfused
    exact ablCmd_of_serving hserve (f := fun a => a.debugOpen c.params) (Abl.debugOpen_of_fused hfused c.params)
  · intro s c p ch x grant dies dur tag a hserve hfused hpwr hclosed hch hread hsigned hserial hnonce hgrant hdies hdur htag hgrantMax hdiesMax hdurPos hdurMax ha
    subst ha
    exact ablCmd_of_serving hserve (f := fun a => a.debugOpen c.params) (Abl.debugOpen_of_token hfused hpwr hclosed hch hread hsigned hserial hnonce hgrant
      hdies hdur htag hgrantMax hdiesMax hdurPos hdurMax)
  · intro s c p hserve
    exact ablCmd_of_serving hserve (f := fun a => (a.sessionEnd 1, {})) rfl
  · intro s c p i op hserve _ hop hmax hbusy hrow
    have hrefused := Abl.lifecycleSet_of_busy (a := s.abl) (c := c) (by omega) hbusy
    simp only [List.mem_cons, Prod.mk.injEq, List.not_mem_nil, or_false] at hrow
    obtain ⟨rfl, rfl⟩ | ⟨rfl, rfl⟩ | ⟨rfl, rfl⟩ := hrow
    · exact lcCmd_of_serving (own := fun a => a.lcSecure c.params) hserve hop (hrefused _)
    · exact lcCmd_of_serving (own := fun a => a.lcRma c.params) hserve hop (hrefused _)
    · exact lcCmd_of_serving (own := fun a => a.lcRetire c.params) hserve hop (hrefused _)
  · intro s c p _ hself hidle hpower
    have hown := Abl.lifecycleSet_of_own (a := s.abl) hself fun _ => by rw [hidle, hpower]; rfl
    refine ⟨fun hserve hop => ?_, fun hserve hop hfused htoken => ?_, fun hserve hop => ?_, fun hserve hop => ?_, fun hserve hop => ?_⟩
    · exact lcCmd_of_serving (own := fun a => a.lcSecure c.params) hserve hop (hown _)
    · exact lcCmd_of_serving (own := fun a => a.lcRma c.params) hserve hop ((hown _).trans (Abl.lcRma_of_token hfused htoken))
    · exact lcCmd_of_serving (own := fun a => a.lcRetire c.params) hserve hop (hown _)
    · exact lcCmd_of_serving (own := fun a => a.keyAdd c.params) hserve hop (hown _)
    · exact lcCmd_of_serving (own := fun a => a.keyRevoke c.params) hserve hop (hown _)
  · intro s c p k x a hserve _ hself hop hrole hslot hk hlen hempty hread hsigned ha
    have hown := Abl.lifecycleSet_of_own (a := s.abl) (c := c) hself (fun hlow => by omega)
    exact lcCmd_of_serving (own := fun a => a.keyAdd c.params) hserve hop
      ((hown _).trans (Abl.keyAdd_of_signed hrole hslot hk hlen hempty hread hsigned ha))
  · intro s c p host x _ hrun
    refine ⟨fun hserve hlow => ?_, fun hserve hhigh hmax => ?_⟩
    · exact (exec_fwUpdate_of_target (by omega)).trans
        (ablCmd_of_serving hserve (f := fun a => a.fwCmd c host (stagedBytes s)) (Abl.fwUpdate_of_running (by omega) hrun))
    · exact (exec_fwCommit_of_target hhigh).trans
        (ablCmd_of_serving hserve (f := fun a => a.fwCmd c host (stagedBytes s)) (Abl.fwUpdate_of_running (by omega) hrun))
  · intro s c p host img st n h o x hserve _ hcomp hidle href hstart hop hx
    refine (exec_fwUpdate_of_target (by omega)).trans (ablCmd_of_serving hserve (f := fun a => a.fwCmd c host (stagedBytes s)) ?_)
    rw [Abl.fwCmd, href, Abl.fwUpdate_of_image hcomp hidle hstart hop hx]
  · intro s c p host n h k a b ok hserve _ htarget hk hidle hstart ha hcommit
    exact (exec_fwCommit_of_target (by omega)).trans
      (ablCmd_of_serving hserve (f := fun a => a.fwCmd c host (stagedBytes s)) (Abl.fwUpdate_of_commit htarget hk hidle hstart ha hcommit))

end Sys2Proof.Machine
end

section
/-!
SUPPORT. Boot, firmware update, the expiries of chapter 19 and the pins of chapter 20 (R649 to R685), one lemma for each way that a command goes.
-/

namespace Sys2Proof.Machine

open Safety

section
variable {a : Abl}

/-! ## Boot (R649, R655) -/

section
variable {comp bad : Nat} (hrun : a.pins.inReset = false) (hpower : a.pins.lost = false) (hstage : a.n.fld Reg.ABL_STATUS 0 16 4 = comp) (hcomp : comp < 2)
include hrun hpower hstage hcomp

/-- A stage that finds an image runs it; the second one ends the boot. -/
theorem Abl.bootStage_of_slot {k : Nat} (hslot : a.bootSlot comp bad = some k) :
    a.bootStage bad = if comp = 1 then (a.bootRun comp k).mcBack else a.bootRun comp k := by
  have hgo : (a.pins.inReset || decide (2 ≤ comp) || a.pins.lost) = false := by rw [hrun, hpower, decide_eq_false (Nat.not_le.2 hcomp)]; rfl
  simp only [Abl.bootStage, hstage, hgo, hslot, Bool.false_eq_true, if_false]

theorem Abl.bootStage_of_none (hslot : a.bootSlot comp bad = none) : a.bootStage bad = a.bootFail comp := by
  have hgo : (a.pins.inReset || decide (2 ≤ comp) || a.pins.lost) = false := by rw [hrun, hpower, decide_eq_false (Nat.not_le.2 hcomp)]; rfl
  simp only [Abl.bootStage, hstage, hgo, hslot, Bool.false_eq_true, if_false]

end

theorem Abl.recoverPost_of_none (h : a.guard.recover = none) (img : List Nat) : a.recoverPost img = (a, false) := by simp only [Abl.recoverPost, h]

/-- An image that verifies ends the recovery and runs. -/
theorem Abl.recoverPost_of_image {b : Abl} {comp : Nat} {raw img : List Nat} (h : a.guard.recover = some comp) (himg : img = raw.take (272 + leAt raw 16 4))
    (hok : a.imgFail comp img = none) (hb : b = a.on fun n => (n.wr Reg.ABL_HOST_GRANT 0 0).fltRefresh) : a.recoverPost raw =
      (({ b with guard := { b.guard with recover := none, flash := bindKey b.guard.flash (2 * comp + b.slotOf comp) img } } : Abl).bootRun comp (b.slotOf comp),
        true) := by
  subst hb
  simp only [Abl.recoverPost, h, ← himg, hok, Option.isSome_none, Bool.false_eq_true, if_false]

theorem Abl.bootTimeout_of_late {t : Nat} (h : a.guard.activated = some t) (hstage : a.n.fld Reg.ABL_STATUS 0 16 4 < 2) (hlate : t + 10000000000 ≤ a.n.local) :
    a.bootTimeout = a.fwRevert.on fun n => n.setFld Reg.ABL_STATUS 0 16 4 0 := by
  have hgo : (decide (a.n.fld Reg.ABL_STATUS 0 16 4 ≠ 2) && decide (a.n.fld Reg.ABL_STATUS 0 16 4 ≠ 3) && decide (t + 10000000000 ≤ a.n.local)) = true := by
    simp [hlate]
    omega
  simp only [Abl.bootTimeout, h, hgo, if_true]

/-! ## Firmware update (R654, R657) -/

section
variable {x : FwX} {o : OpX} (hupdate : a.guard.update = some x) (hop : a.n.op x.handle = some o) (hactive : o.state = 0)
include hupdate hop hactive

section
variable (hwriting : o.kstate = 0) (held : Bool) (nonce : Nat → List Nat)
include hwriting

theorem Abl.fwDone_of_verified (hok : a.imgFail x.comp x.image = none) :
    a.fwDone held nonce = a.on fun n => n.opChange x.handle fun o => { o with kstate := 1, cs := x.cs x.image.length 0 } := by
  simp only [Abl.fwDone, hupdate, hop, hactive, hwriting, hok, Option.map_some]

theorem Abl.fwDone_of_bad (hbad : a.imgFail x.comp x.image = some .bad) : a.fwDone held nonce = a.fwEnd x stBad 3 x.image.length 0 := by
  simp only [Abl.fwDone, hupdate, hop, hactive, hwriting, hbad, Option.map_some]

theorem Abl.fwDone_of_rollback (hold : a.imgFail x.comp x.image = some .rollback) : a.fwDone held nonce = a.fwEnd x stNotPermitted 4 x.image.length 0 := by
  simp only [Abl.fwDone, hupdate, hop, hactive, hwriting, hold, Option.map_some]

end

/-- No path holds the slot after it was written. -/
theorem Abl.fwDone_of_unheld (hwritten : o.kstate = 1) (nonce : Nat → List Nat) : a.fwDone false nonce = a.fwEnd x stInternal 0 x.image.length 0 := by
  simp only [Abl.fwDone, hupdate, hop, hactive, hwritten, Option.map_some, Bool.not_false, if_true]

/-- The report of the last die ends the update. -/
theorem Abl.bootReport_of_last {y : FwX} {port : Nat} {report : List Nat} (hbooting : o.kstate = 2) (hdie : bit x.dies port = true)
    (hnew : x.booted.contains port = false) (hy : y = { x with booted := port :: x.booted })
    (hall : ((List.range 16).all fun p => !(bit x.dies p && a.n.childValid p) || (port :: x.booted).contains p) = true) : a.bootReport port report =
      (({ a with guard := { a.guard with reports := bindKey a.guard.reports port report, update := some y } } : Abl).fwState 2 1 (imgSvn x.image)).fwEnd y stOk 2
        x.image.length (1 + (x.booted.length + 1)) := by
  subst hy
  have hgo : ((!(o.state == 0 && o.kstate == 2)) || !bit x.dies port || x.booted.contains port) = false := by
    rw [hactive, hbooting, hdie, hnew]
    rfl
  simp only [Abl.bootReport, hupdate, hop, hgo, hall, Bool.false_eq_true, if_false, if_true, List.length_cons]

end

theorem Abl.bootReport_of_idle (hupdate : a.guard.update = none) (port : Nat) (report : List Nat) :
    a.bootReport port report = { a with guard := { a.guard with reports := bindKey a.guard.reports port report } } := by
  simp only [Abl.bootReport, hupdate]

/-! ## Expiries (R440, R659, R661) -/

theorem Abl.sessionExpiry_eq (a : Abl) : a.sessionExpiry =
    if a.sessionOpen = true ∧ 0 ≤ dist32 (a.n.seconds % 4294967296) (a.n.rd Reg.ABL_DBG_EXPIRE) then a.sessionEnd 2 else a := by
  simp [Abl.sessionExpiry]

theorem Abl.isSome_challenge {b : List Nat} {t : Nat} (h : a.guard.challenge = some (b, t)) : a.challenge.isSome = decide (a.n.local < t + 60000000000) := by
  simp only [Abl.challenge, h]
  split <;> simp [*]

theorem Abl.secNeap_of_neap (hrole : a.n.role = 1) (hlevel : a.n.trayLevel = 0) :
    a.secNeap = (a.sec.reqAt.map fun x => x.1).foldl (fun a t => a.secRequest t 0) a :=
  if_pos (by simp [hrole, hlevel])

/-! ## Rails (R672, R673, R677) -/

theorem Abl.aonRise_of_low (h : a.pins.aonPgood = false) :
    a.aonRise = { a with pins := { a.pins with aonPgood := true, mainEn := true, mainSeen := false, inReset := true } } :=
  if_neg (by simp [h])

theorem Abl.aonFall_of_high (h : a.pins.aonPgood = true) : a.aonFall =
    { a.chipState true with pins := { (a.chipState true).pins with aonPgood := false, mainEn := false, thermtrip := false, mainSeen := false } } :=
  if_neg (by simp [h])

section
variable (hlow : a.pins.mainPgood = false) (hgood : a.pins.aonPgood = true)
include hlow hgood

theorem Abl.mainRise_of_first (hfirst : a.pins.mainSeen = false) : a.mainRise = { a with pins := { a.pins with mainPgood := true, mainSeen := true } } := by
  simp only [Abl.mainRise, hlow, hgood, hfirst, Bool.not_true, Bool.not_false, Bool.false_eq_true, if_false, if_true]

/-- MAIN comes back after its loss: the complex starts again. -/
theorem Abl.mainRise_of_lost (hseen : a.pins.mainSeen = true) (hlost : a.pins.lost = true) (hen : a.pins.mainEn = true) : a.mainRise =
    (({ a with pins := { a.pins with mainPgood := true, lost := false, lostAt := none } } : Abl).on fun n => n.setFld Reg.ABL_PWR_STATE 0 0 3 4).mcReset 2 := by
  simp only [Abl.mainRise, hlow, hgood, hseen, hlost, hen, Bool.not_true, Bool.and_self, Bool.false_eq_true, if_false, if_true]

end

section
variable (hhigh : a.pins.mainPgood = true)
include hhigh

theorem Abl.mainFall_of_expected (h : a.pins.mainEn = false ∨ a.pins.inReset = true) : a.mainFall = { a with pins := { a.pins with mainPgood := false } } := by
  have hexpected : (!a.pins.mainEn || a.pins.inReset) = true := by simpa using h
  simp only [Abl.mainFall, hhigh, hexpected, Bool.not_true, Bool.false_eq_true, if_false, if_true]

/-- The loss of MAIN while it is enabled. -/
theorem Abl.mainFall_of_loss {b d : Abl} (hen : a.pins.mainEn = true) (hrun : a.pins.inReset = false)
    (hb : b = (({ a with pins := { a.pins with mainPgood := false } } : Abl).mainLost.on fun n =>
      (n.setFld Reg.ABL_PWR_STATE 0 0 3 0).setFld Reg.ABL_PWR_STATE 0 8 5 0))
    (hd : d = (b.pwrRec a.n.pwrState 0 7).on fun n => n.fault 654 0 2 0 0) :
    a.mainFall = { d with pins := { d.pins with mainEn := false, lost := true, lostAt := some d.n.local } } := by
  subst hd hb
  simp only [Abl.mainFall, hhigh, hen, hrun, Bool.not_true, Bool.or_self, Bool.false_eq_true, if_false]

end

theorem Abl.mainRestart_of_late {t : Nat} (h : a.pins.lostAt = some t) (hlate : t + 10000000 ≤ a.n.local) (hgood : a.pins.aonPgood = true)
    (hcool : a.pins.thermtrip = false) : a.mainRestart = { a with pins := { a.pins with mainEn := true, lostAt := none } } := by
  simp only [Abl.mainRestart, h, hlate, hgood, hcool, decide_true, Bool.not_false, Bool.and_self, if_true]

/-! ## Resets and clocks (R677, R678, R684, R685) -/

theorem Abl.resetAssert_of_long {ns : Nat} (h : 1000 ≤ ns) :
    a.resetAssert ns = { a.chipState false with pins := { (a.chipState false).pins with resetN := false } } :=
  if_neg (by simp; omega)

theorem Abl.resetAssert_of_short {ns : Nat} (h : ns < 100) : a.resetAssert ns = a := if_pos (by simp [h])

/-- The boot ROM starts, and a decommissioned part retires. -/
theorem Abl.resetEnd_of_supplied {b : Abl} (hreset : a.pins.inReset = true) (hgood : a.pins.aonPgood = true) (hseen : a.pins.mainSeen = true)
    (hnode : a.n.fld Reg.ABL_NODE 0 26 2 ≠ 1) (hb : b = ({ a with pins := { a.pins with inReset := false, resetN := true } } : Abl).mrExtend 0
      (Config.romDigest (a.n.rd Reg.ABL_LC_STATE) (a.n.rd Reg.ABL_LC_SVN))) : a.resetEnd = if b.fused = 4 then b.retirePart else b := by
  subst hb
  simp only [Abl.resetEnd, hreset, hgood, hseen, hnode, Bool.not_true, Bool.or_self, Bool.false_eq_true, if_false]

theorem Abl.thermTrip_of_supplied (h : a.pins.aonPgood = true) : a.thermTrip = { a with pins := { a.pins with thermtrip := true, mainEn := false } } := if_pos h

section
variable (href : a.pins.refLost = false)
include href

/-- A Time Unit that no source steers keeps its state. -/
theorem Abl.refLoss_of_free (h : a.n.timeState = tsUnaligned ∨ a.n.timeState = tsHoldover) : a.refLoss =
    ({ a with pins := { a.pins with refLost := true } } : Abl).on fun n => (n.timeAlign (ofInt 32 n.timex.theta)).fault 654 0 0 0 0 := by
  have hfree : (decide (a.n.timeState = tsUnaligned) || decide (a.n.timeState = tsHoldover)) = true := by simpa using h
  simp only [Abl.refLoss, href, Abl.on, hfree, Bool.false_eq_true, if_false, if_true]

theorem Abl.refLoss_of_steered (hun : a.n.timeState ≠ tsUnaligned) (hhold : a.n.timeState ≠ tsHoldover) : a.refLoss =
    ({ a with pins := { a.pins with refLost := true } } : Abl).on fun n =>
      ((n.toHoldover 1).timeAlign (ofInt 32 (n.toHoldover 1).timex.theta)).fault 654 0 0 0 0 := by
  have hsteered : (decide (a.n.timeState = tsUnaligned) || decide (a.n.timeState = tsHoldover)) = false := by simp [hun, hhold]
  simp only [Abl.refLoss, href, Abl.on, hsteered, Bool.false_eq_true, if_false]

end
end

/-- Settles O41: each command by what boot, the expiry or the pin does. -/
theorem bootAndPinCommandsComplete : Obligations.BootAndPinCommandsComplete := by
  unfold Obligations.BootAndPinCommandsComplete
  refine ⟨?_, ?_, ?_, ?_, ?_, ?_, ?_, ?_, ?_, ?_, ?_, ?_, ?_, ?_, ?_, ?_, ?_, ?_, ?_, ?_, ?_, ?_, ?_, ?_, ?_, ?_⟩
  · intro s hrun hpower
    refine ⟨fun k bad hstage hslot => ?_, fun k bad hstage hslot => ?_, fun comp bad hcomp hstage hslot => ?_⟩
    · exact onAbl_eq_next (f := fun a => a.bootStage bad) (Abl.bootStage_of_slot hrun hpower hstage (by decide) hslot)
    · exact onAbl_eq_next (f := fun a => a.bootStage bad) (Abl.bootStage_of_slot hrun hpower hstage (by decide) hslot)
    · exact onAbl_eq_next (f := fun a => a.bootStage bad) (Abl.bootStage_of_none hrun hpower hstage hcomp hslot)
  · intro s comp img hrecover himg hok
    refine ⟨_, rfl, _, rfl, ?_⟩
    exact onAbl_eq_next (f := fun a => (a.recoverPost (Cells.read s.mem 0 (min 0x4000000 (272 + leAt (Cells.read s.mem 0 272) 16 4)))).1)
      (congrArg Prod.fst (Abl.recoverPost_of_image hrecover himg hok rfl))
  · intro s hnone
    exact onAbl_eq_next (f := fun a => (a.recoverPost (Cells.read s.mem 0 (min 0x4000000 (272 + leAt (Cells.read s.mem 0 272) 16 4)))).1)
      (congrArg Prod.fst (Abl.recoverPost_of_none hnone _))
  · intro s port report hidle
    exact onAbl_eq_next (f := fun a => a.bootReport port report) (Abl.bootReport_of_idle hidle port report)
  · intro s port report x o hupdate hop hactive hbooting hdie hnew hall
    exact onAbl_eq_next (f := fun a => a.bootReport port report) (Abl.bootReport_of_last hupdate hop hactive hbooting hdie hnew rfl hall)
  · intro s
    exact onAbl_eq_next (f := Abl.sessionExpiry) s.abl.sessionExpiry_eq
  · intro s b t hch
    refine onAbl_eq_next (f := fun a => if a.challenge.isSome then a else { a with guard := { a.guard with challenge := none } }) ?_
    simp only [Abl.isSome_challenge hch, decide_eq_true_eq]
  · intro s
    rfl
  · intro s
    rfl
  · intro s t hactivated hstage hlate
    exact onAbl_eq_next (f := Abl.bootTimeout) (Abl.bootTimeout_of_late hactivated hstage hlate)
  · intro s held x o hupdate hop hactive hwriting
    refine ⟨fun hok => ?_, fun hbad => ?_, fun hold => ?_⟩
    · exact onAbl_eq_next (f := fun a => a.fwDone held fun p => Config.nonce (s.free + p)) (Abl.fwDone_of_verified hupdate hop hactive hwriting held _ hok)
    · exact onAbl_eq_next (f := fun a => a.fwDone held fun p => Config.nonce (s.free + p)) (Abl.fwDone_of_bad hupdate hop hactive hwriting held _ hbad)
    · exact onAbl_eq_next (f := fun a => a.fwDone held fun p => Config.nonce (s.free + p)) (Abl.fwDone_of_rollback hupdate hop hactive hwriting held _ hold)
  · intro s x o hupdate hop hactive hwritten
    exact onAbl_eq_next (f := fun a => a.fwDone false fun p => Config.nonce (s.free + p)) (Abl.fwDone_of_unheld hupdate hop hactive hwritten _)
  · intro s hrole hlevel
    exact onAbl_eq_next (f := Abl.secNeap) (Abl.secNeap_of_neap hrole hlevel)
  · intro s hlow
    exact onAbl_eq_next (f := Abl.aonRise) (Abl.aonRise_of_low hlow)
  · intro s hhigh
    exact onAbl_eq_next (f := Abl.aonFall) (Abl.aonFall_of_high hhigh)
  · intro s hlow hgood
    exact ⟨fun hfirst => onAbl_eq_next (f := Abl.mainRise) (Abl.mainRise_of_first hlow hgood hfirst),
      fun hseen hlost hen => onAbl_eq_next (f := Abl.mainRise) (Abl.mainRise_of_lost hlow hgood hseen hlost hen)⟩
  · intro s hhigh hexpected
    exact onAbl_eq_next (f := Abl.mainFall) (Abl.mainFall_of_expected hhigh hexpected)
  · intro s hhigh hen hrun
    exact ⟨_, rfl, _, rfl, onAbl_eq_next (f := Abl.mainFall) (Abl.mainFall_of_loss hhigh hen hrun rfl rfl)⟩
  · intro s t hlost hlate hgood hcool
    exact onAbl_eq_next (f := Abl.mainRestart) (Abl.mainRestart_of_late hlost hlate hgood hcool)
  · intro s ns
    exact ⟨fun hlong => onAbl_eq_next (f := fun a => a.resetAssert ns) (Abl.resetAssert_of_long hlong),
      fun hshort => onAbl_eq_next (f := fun a => a.resetAssert ns) (Abl.resetAssert_of_short hshort)⟩
  · intro s hreset hgood hseen hnode
    exact ⟨_, rfl, onAbl_eq_next (f := Abl.resetEnd) (Abl.resetEnd_of_supplied hreset hgood hseen hnode rfl)⟩
  · intro s
    rfl
  · intro s hgood
    exact onAbl_eq_next (f := Abl.thermTrip) (Abl.thermTrip_of_supplied hgood)
  · intro s href hfree
    exact onAbl_eq_next (f := Abl.refLoss) (Abl.refLoss_of_free href hfree)
  · intro s href hun hhold
    exact onAbl_eq_next (f := Abl.refLoss) (Abl.refLoss_of_steered href hun hhold)
  · intro s
    rfl

end Sys2Proof.Machine
end
